-- ==== Sys2Proof/Word.lean ====
section
/-! DEFINITION. The word of the machine (R3): 72 bits, with its half, quarter and byte. -/

namespace Sys2Proof

/-- A word: 72 bits (R3). -/
abbrev Word := BitVec 72
/-- A half: 36 bits (R3). -/
abbrev Half := BitVec 36
/-- A 9-bit byte, the smallest addressable unit (R3). -/
abbrev Byte := BitVec 9

/-- The place of a register field: the storage address of its word, its lowest bit and its length. -/
structure Fld where
  addr : Nat
  lo : Nat
  len : Nat
  deriving DecidableEq, Repr

end Sys2Proof
end

