-- ==== Sys2Proof/Syntax.lean ====
section
/-! DEFINITION. The commands of the DW-1024: one constructor of `Instr` for each row of the table of operations
and events, and the parsed frames and reports that some of them carry. The block takes these commands from
outside; `t` is the true time, in ns, at which a command is performed (assumption 1).
Decisions: log entries 2 (DESIGN CHOICE), 12 (DEDUCED), 30 (PRESUMED). -/

namespace Sys2Proof

/-- What an ECC read of one word met (R28, R254). -/
inductive Ecc where
  | clean | corrected | uncorrectable
  deriving DecidableEq, Repr

/-- An error met in a scribe's caches by one access (R363). -/
inductive MemErr where
  | clean | l1Parity | l2Corrected | l2Uncorrectable
  deriving DecidableEq, Repr

/-- An error met by one nib instruction (R254, R266 kind 3h): none, a corrected error, or an uncorrectable error in
program memory, X, Y, an inkwell word read by IN, or register or pipeline parity. -/
inductive NibErr where
  | clean | corrected | program | x | y | inkwell | parity
  deriving DecidableEq, Repr

/-- One data value of an SV ASDU: the INT32 value and the 32-bit quality (R209). -/
structure SvValue where
  value : BitVec 32
  qual : BitVec 32
  deriving DecidableEq, Repr

/-- One ASDU of an SV frame, with the fields that the rules name (R150, R196, R198). -/
structure SvAsdu where
  svId : List Nat
  smpCnt : Nat
  confRev : Nat
  smpSynch : Nat
  smpRate : Option Nat
  dataOctets : Nat
  data : List SvValue
  deriving DecidableEq, Repr

/-- One allData element of a GOOSE frame: its ASN.1 type (0 BOOLEAN, 1 BIT STRING, 2 INTEGER, 3 UNSIGNED, 4 FLOAT32,
5 any other), its size (bits of a bit string, content octets otherwise) and its value, a two's complement 36-bit
image for integers (R202). -/
structure GooseMember where
  kind : Nat
  size : Nat
  value : Nat
  deriving DecidableEq, Repr

/-- A GOOSE APDU, with the fields that the rules name (R196, R203). -/
structure GooseApdu where
  goId : List Nat
  confRev : Nat
  stNum : Nat
  sqNum : Nat
  tal : Nat
  entries : Nat
  ndsCom : Bool
  members : List GooseMember
  deriving DecidableEq, Repr

/-- The content of a received frame after its EtherType (R129 stages 4 to 6). `bad` is an APDU that does not decode. -/
inductive Apdu where
  | sv (sim : Bool) (noAsdu : Nat) (asdus : List SvAsdu)
  | goose (sim : Bool) (g : GooseApdu)
  | ptpPdelay
  | ptpOther (management : Bool)
  | bad
  | other
  deriving DecidableEq, Repr

/-- The IEC 62351-6 authentication extension of a frame (R142). -/
structure AuthExt where
  keyId : Nat
  tagBits : Nat
  encrypted : Bool
  tag : Nat
  deriving DecidableEq, Repr

/-- The redundancy trailer or tag of a frame (R136): none, a PRP trailer (its LanId and sequence number), an HSR tag
(its sequence number), or one that is not well formed. -/
inductive RedTag where
  | none | prp (lan seq : Nat) | hsr (seq : Nat) | malformed
  deriving DecidableEq, Repr

/-- The IEEE 802.1Q tagging of a frame (R132): untagged, one tag of TPID 8100h, or a tagging that no port accepts. -/
inductive VlanTag where
  | untagged | tagged (vid pcp : Nat) | refused
  deriving DecidableEq, Repr

/-- A frame received on a lane, an uplink or a management port. `lineOk`: no code violation, no abort, FCS correct
(R129 stage 1). `stamp` is the device time of its timestamp point, in ns (R122). `octets` are the frame's octets
without FCS, as a queue pair stores them (R155). -/
structure RxFrame where
  lineOk : Bool
  len : Nat
  dmac : Nat
  smac : Nat
  vlan : VlanTag
  red : RedTag
  etype : Nat
  appid : Nat
  apdu : Apdu
  auth : Option AuthExt
  stamp : Nat
  octets : List Nat
  deriving DecidableEq, Repr

/-- A frame received in a cell-link mode (R162 to R164): whether it met a code violation, a disparity error or a wrong
delimiter, the octets of its data code groups, and the true times, in ns, of its first and last bit at the balls. -/
structure CellRx where
  lineBad : Bool
  octets : List Nat
  first : Nat
  last : Nat
  deriving DecidableEq, Repr

/-- A PTP Sync message (R114): two-step or one-step, with its origin time and correction for a one-step Sync, its path
delay as the port last measured it, and its sync interval in ns. -/
structure PtpSync where
  seq : Nat
  domain : Nat
  twoStep : Bool
  origin : Nat
  corr : Int
  meanPath : Nat
  interval : Nat
  deriving DecidableEq, Repr

/-- A PTP Announce message (R106, R116, R118): `slave` is whether the master it names wins the best-master comparison
of the port, so that the port is in SLAVE state. -/
structure PtpAnnounce where
  domain : Nat
  ptpTimescale : Bool
  clockClass : Nat
  gmId : Nat
  stepsRemoved : Nat
  priority1 : Nat
  priority2 : Nat
  accuracy : Nat
  inaccuracy : Nat
  utcValid : Bool
  utcOffset : Int
  leap : Bool
  slave : Bool
  interval : Nat
  deriving DecidableEq, Repr

/-- A decoded IRIG-B frame (R119, R120): whether it decodes, its format 0 to 7, the UTC seconds it carries (within the
year for formats that carry no year: seconds since the start of the year), and its IEEE C37.118.1 control bits. -/
structure IrigFrame where
  good : Bool
  format : Nat
  utc : Int
  years : List Int
  timeQuality : Nat
  localOffset : Int
  leapPending : Bool
  deriving DecidableEq, Repr

/-- A PCIe inbound memory request (R616): the octet address, the octets of a write (none for a read) and the number of
octets of a read. -/
structure PcieReq where
  bar0 : Bool
  addr : Nat
  write : Bool
  data : List Nat
  octets : Nat
  deriving DecidableEq, Repr

/-- A failing element of a self-test (R557): kind, ferrule or desk, bank, nib or scribe, row or column, repaired. -/
structure TestElement where
  kind : Nat
  unit : Nat
  bank : Nat
  row : Nat
  repaired : Bool
  deriving DecidableEq, Repr

/-- The training result of one data line (R489). -/
structure PhyLane where
  lane : Nat
  sub : Nat
  rank : Nat
  rdly : Nat
  wdly : Nat
  rvref : Nat
  wvref : Nat
  deriving DecidableEq, Repr

/-- One domain's part of a duplex status frame (R593). -/
structure DpxDomain where
  run : Nat
  per : Nat
  anc : Word
  snum : Nat
  deriving DecidableEq, Repr

/-- The fields of a duplex status frame (R593, TYPE 01h). -/
structure DpxStatus where
  role : Nat
  elig : Bool
  cfgdig : Word
  hcmd : Word
  fwv : Nat
  txt : Word
  etxt : Word
  erxt : Word
  doms : List DpxDomain
  deriving DecidableEq, Repr

/-- The fields of a duplex output frame (R593, TYPE 02h). -/
structure DpxOutput where
  dom : Nat
  stroke : Nat
  odsum : Word
  pdsum : Word
  nfn : Nat
  nind : Nat
  deriving DecidableEq, Repr

/-- One constructor for each row of the table of operations and events, in the table's order; the table gives
no operands, so the operands are the model's (assumption 2). -/
inductive Instr where
  /-- REGISTER_WRITE (R57) -/
  | registerWrite (t : Nat) (init : Nat) (vf : Nat) (page : Nat) (off : Nat) (size : Nat) (value : Word)
  /-- CLEAR_ON_READ (R60) -/
  | clearOnRead (t : Nat) (init : Nat) (vf : Nat) (page : Nat) (off : Nat) (size : Nat)
  /-- ACCESS_CROSSING_TIMEOUT (R55) -/
  | accessCrossingTimeout (t : Nat) (acc : Nat)
  /-- STALLED_ACCESS_RESUME (R56) -/
  | stalledAccessResume (t : Nat) (acc : Nat)
  /-- VOTE_SCRUB (R62) -/
  | voteScrub (t : Nat) (page : Nat) (word : Nat) (up0 : Word) (up1 : Word) (up2 : Word) (written : Bool)
  /-- INKWELL_WINDOW_WRITE (R28) -/
  | inkwellWindowWrite (t : Nat) (init : Nat) (ferrule : Nat) (addr : Nat) (value : Word)
  /-- INKWELL_WINDOW_READ (R28) -/
  | inkwellWindowRead (t : Nat) (init : Nat) (ferrule : Nat) (addr : Nat) (ecc : Ecc)
  /-- TIME_REPLICA_REALIGN (R33) -/
  | timeReplicaRealign (t : Nat) (replica : Nat)
  /-- STAGED_WRITE (R77) -/
  | stagedWrite (t : Nat) (init : Nat) (page : Nat) (off : Nat) (value : Word)
  /-- CSN_SEAL (R79) -/
  | csnSeal (t : Nat) (init : Nat) (digest : Word)
  /-- CSN_SIGN (R80) -/
  | csnSign (t : Nat) (init : Nat) (digest : Word)
  /-- CSN_ABORT (R82) -/
  | csnAbort (t : Nat) (init : Nat)
  /-- COUNTERSIGN_WINDOW_EXPIRE (R81) -/
  | countersignWindowExpire (t : Nat)
  /-- COMMIT_INSTANT (R85) -/
  | commitInstant (t : Nat)
  /-- COMMIT_NO_BOUNDARY (R84) -/
  | commitNoBoundary (t : Nat)
  /-- TIM_SET (R103) -/
  | timSet (t : Nat) (init : Nat) (value : Word)
  /-- TIM_SOURCE_CONFIG_WRITE (R109) -/
  | timSourceConfigWrite (t : Nat) (init : Nat) (off : Nat) (value : Word)
  /-- PTP_SYNC_RX (R106) -/
  | ptpSyncRx (t : Nat) (port : Nat) (stamp : Nat) (msg : PtpSync)
  /-- PTP_FOLLOW_UP_RX (R106) -/
  | ptpFollowUpRx (t : Nat) (port : Nat) (seq : Nat) (origin : Nat) (domain : Nat) (corr : Int)
  /-- PTP_ANNOUNCE_RX (R106) -/
  | ptpAnnounceRx (t : Nat) (port : Nat) (msg : PtpAnnounce)
  /-- PTP_QUAL_TIMEOUT (R106) -/
  | ptpQualTimeout (t : Nat) (src : Nat) (announce : Bool)
  /-- IRIG_FRAME_RX (R119) -/
  | irigFrameRx (t : Nat) (frame : IrigFrame)
  /-- IRIG_FRAME_MISSING (R106) -/
  | irigFrameMissing (t : Nat)
  /-- PPS_EDGE (R105) -/
  | ppsEdge (t : Nat) (falling : Bool)
  /-- PPS_EDGE_MISSING (R106) -/
  | ppsEdgeMissing (t : Nat)
  /-- F10M_STATUS_CHANGE (R104) -/
  | f10mStatusChange (t : Nat) (ok : Bool)
  /-- SOURCE_HOLDOFF_EXPIRE (R107) -/
  | sourceHoldoffExpire (t : Nat) (src : Nat)
  /-- SLEW_COMPLETE (R111) -/
  | slewComplete (t : Nat)
  /-- HOLDOVER_LIMIT_EXCEEDED (R111) -/
  | holdoverLimitExceeded (t : Nat)
  /-- LEAP_SECOND_APPLY (R120) -/
  | leapSecondApply (t : Nat)
  /-- PTP_MASTER_SYNC_TX (R117) -/
  | ptpMasterSyncTx (t : Nat) (lane : Nat)
  /-- PTP_MASTER_ANNOUNCE_TX (R118) -/
  | ptpMasterAnnounceTx (t : Nat) (lane : Nat)
  /-- PTP_PDELAY_REQ_RX (R117) -/
  | ptpPdelayReqRx (t : Nat) (lane : Nat) (seq : Nat) (stamp : Nat)
  /-- PDELAY_MEASURE_TX (R149) -/
  | pdelayMeasureTx (t : Nat) (lane : Nat)
  /-- PTP_PDELAY_RESP_RX (R149) -/
  | ptpPdelayRespRx (t : Nat) (lane : Nat) (seq : Nat) (t2 : Nat) (t3 : Nat) (t4 : Nat)
  /-- LANE_FRAME_RX (R129) -/
  | laneFrameRx (t : Nat) (lane : Nat) (frame : RxFrame)
  /-- UPLINK_FRAME_RX (R154) -/
  | uplinkFrameRx (t : Nat) (port : Nat) (frame : RxFrame)
  /-- DUP_ENTRY_EXPIRE (R138) -/
  | dupEntryExpire (t : Nat) (pair : Nat) (smac : Nat) (seq : Nat)
  /-- LANE_CONFIG_WRITE (R126) -/
  | laneConfigWrite (t : Nat) (init : Nat) (page : Nat) (block : Nat) (value : Word)
  /-- LANE_TX_IDLE_AFTER_FRAME (R126) -/
  | laneTxIdleAfterFrame (t : Nat) (lane : Nat)
  /-- PAIR_CONFIG_WRITE (R135) -/
  | pairConfigWrite (t : Nat) (init : Nat) (page : Nat) (value : Word)
  /-- LANE_SIGNAL_LOSS (R146) -/
  | laneSignalLoss (t : Nat) (lane : Nat)
  /-- LANE_SIGNAL_DETECT (R171) -/
  | laneSignalDetect (t : Nat) (lane : Nat)
  /-- LANE_PCS_SYNC (R171) -/
  | lanePcsSync (t : Nat) (lane : Nat)
  /-- LANE_PCS_SYNC_LOSS (R171) -/
  | lanePcsSyncLoss (t : Nat) (lane : Nat)
  /-- LANE_AUTONEG_COMPLETE (R127) -/
  | laneAutonegComplete (t : Nat) (lane : Nat) (fullDuplex : Bool) (remoteFault : Bool)
  /-- LANE_EYE_REPORT (R147) -/
  | laneEyeReport (t : Nat) (lane : Nat) (eyeh : Nat) (eyew : Nat) (loss : Nat)
  /-- PARTNER_RELEARN (R150) -/
  | partnerRelearn (t : Nat) (init : Nat) (lane : Nat)
  /-- LANE_FRAME_TX (R144) -/
  | laneFrameTx (t : Nat) (lane : Nat)
  /-- CELL_CAPABILITY_TX (R172) -/
  | cellCapabilityTx (t : Nat) (lane : Nat)
  /-- CELL_CAPABILITY_RX (R172) -/
  | cellCapabilityRx (t : Nat) (lane : Nat) (rx : CellRx)
  /-- CELL_ECHO_REQUEST_TX (R172) -/
  | cellEchoRequestTx (t : Nat) (lane : Nat)
  /-- CELL_ECHO_REPLY_RX (R172) -/
  | cellEchoReplyRx (t : Nat) (lane : Nat) (rx : CellRx)
  /-- CELL_EXCHANGE_TIMEOUT (R173) -/
  | cellExchangeTimeout (t : Nat) (lane : Nat)
  /-- CELL_ECHO_TIMEOUT (R173) -/
  | cellEchoTimeout (t : Nat) (lane : Nat)
  /-- CELL_EXCHANGE_RETRY (R173) -/
  | cellExchangeRetry (t : Nat) (lane : Nat)
  /-- CELL_LINK_RELEARN (R185) -/
  | cellLinkRelearn (t : Nat) (init : Nat) (lane : Nat)
  /-- CELL_COMMAND_LAUNCH (R177) -/
  | cellCommandLaunch (t : Nat) (lane : Nat) (stroke : Nat)
  /-- CELL_SIGNOFF_LAUNCH (R182) -/
  | cellSignoffLaunch (t : Nat) (lane : Nat) (stroke : Nat)
  /-- CELL_STATUS_RX (R180) -/
  | cellStatusRx (t : Nat) (lane : Nat) (rx : CellRx)
  /-- CELL_RTT_UPDATE (R179) -/
  | cellRttUpdate (t : Nat) (lane : Nat)
  /-- SUB_CREATE (R191) -/
  | subCreate (t : Nat) (init : Nat) (ferrule : Nat) (seq : Nat) (handle : Nat)
  /-- SUB_DESTROY (R191) -/
  | subDestroy (t : Nat) (init : Nat) (ferrule : Nat) (seq : Nat) (handle : Nat)
  /-- SUB_SETPOL (R192) -/
  | subSetpol (t : Nat) (init : Nat) (ferrule : Nat) (seq : Nat) (handle : Nat)
  /-- DOMAIN_PARAM_WRITE (R218) -/
  | domainParamWrite (t : Nat) (init : Nat) (dom : Nat) (off : Nat) (value : Word)
  /-- DOMAIN_START (R219) -/
  | domainStart (t : Nat) (init : Nat) (dom : Nat)
  /-- DOMAIN_STOP (R219) -/
  | domainStop (t : Nat) (init : Nat) (dom : Nat)
  /-- STROKE_OPEN (R216) -/
  | strokeOpen (t : Nat) (dom : Nat)
  /-- STROKE_CUTOFF (R204) -/
  | strokeCutoff (t : Nat) (sub : Nat)
  /-- GOOSE_TAL_EXPIRE (R204) -/
  | gooseTalExpire (t : Nat) (sub : Nat)
  /-- SUB_DEADLINE (R208) -/
  | subDeadline (t : Nat) (sub : Nat) (stroke : Nat)
  /-- SAMPLE_MESSAGE_ARRIVE (R223) -/
  | sampleMessageArrive (t : Nat) (ferrule : Nat) (sub : Nat) (stroke : Nat)
  /-- STROKE_CLOSE (R224) -/
  | strokeClose (t : Nat) (ferrule : Nat) (dom : Nat)
  /-- NIB_RUN_START (R247) -/
  | nibRunStart (t : Nat) (ferrule : Nat) (nib : Nat)
  /-- LEDGER_LRD_WRITE (R240) -/
  | ledgerLrdWrite (t : Nat) (init : Nat) (ferrule : Nat) (value : Nat)
  /-- NIB_BUDGET_OVERRUN (R262) -/
  | nibBudgetOverrun (t : Nat) (ferrule : Nat) (nib : Nat)
  /-- OUTPUT_MESSAGE_ARRIVE (R271) -/
  | outputMessageArrive (t : Nat) (fn : Nat) (twin : Nat) (point : Nat) (stroke : Nat)
  /-- ERROR_NOTICE_ARRIVE (R338) -/
  | errorNoticeArrive (t : Nat) (fn : Nat) (twin : Nat) (point : Nat) (stroke : Nat)
  /-- TWIN_COMPARE_DEADLINE (R271) -/
  | twinCompareDeadline (t : Nat) (fn : Nat) (point : Nat) (stroke : Nat)
  /-- TWIN_DECISION_ARRIVE (R272) -/
  | twinDecisionArrive (t : Nat) (fn : Nat) (twin : Nat) (stroke : Nat)
  /-- GATEWAY_LEG_ARRIVE (R317) -/
  | gatewayLegArrive (t : Nat) (fn : Nat) (gateway : Nat) (stroke : Nat)
  /-- EGRESS_DEADLINE (R323) -/
  | egressDeadline (t : Nat) (fn : Nat) (point : Nat) (stroke : Nat)
  /-- FLIT_PARITY_ERROR (R319) -/
  | flitParityError (t : Nat) (router : Nat) (port : Nat) (slot : Nat) (resentBad : Bool)
  /-- RULER_CREATE (R310) -/
  | rulerCreate (t : Nat) (init : Nat) (seq : Nat) (handle : Nat)
  /-- RULER_DESTROY (R310) -/
  | rulerDestroy (t : Nat) (init : Nat) (seq : Nat) (handle : Nat)
  /-- RULER_UPDATE (R310) -/
  | rulerUpdate (t : Nat) (init : Nat) (seq : Nat) (handle : Nat)
  /-- RULER_CKPT (R310) -/
  | rulerCkpt (t : Nat) (init : Nat) (seq : Nat) (handle : Nat)
  /-- NIBOUT (R310) -/
  | nibout (t : Nat) (init : Nat) (seq : Nat) (handle : Nat)
  /-- NIBIN (R310) -/
  | nibin (t : Nat) (init : Nat) (seq : Nat) (handle : Nat)
  /-- RULER_QUEUED_COMMAND_START (R304) -/
  | rulerQueuedCommandStart (t : Nat)
  /-- STAGING_AREA_READ (R307) -/
  | stagingAreaRead (t : Nat)
  /-- FUNCTION_LOAD_COMPLETE (R312) -/
  | functionLoadComplete (t : Nat) (fn : Nat)
  /-- RULER_HANDLE_NIB_FAULT (R325) -/
  | rulerHandleNibFault (t : Nat)
  /-- RULER_HANDLE_TWIN_OUTCOME (R273) -/
  | rulerHandleTwinOutcome (t : Nat)
  /-- RULER_HANDLE_SLICE_COMMIT (R325) -/
  | rulerHandleSliceCommit (t : Nat)
  /-- SHADOW_MESSAGE_ARRIVE (R327) -/
  | shadowMessageArrive (t : Nat) (fn : Nat) (twin : Nat) (point : Nat) (stroke : Nat)
  /-- RULER_HANDLE_SHADOW_OUTCOME (R327) -/
  | rulerHandleShadowOutcome (t : Nat)
  /-- PUB_CREATE (R333) -/
  | pubCreate (t : Nat) (init : Nat) (ferrule : Nat) (seq : Nat) (handle : Nat)
  /-- PUB_DESTROY (R333) -/
  | pubDestroy (t : Nat) (init : Nat) (ferrule : Nat) (seq : Nat) (handle : Nat)
  /-- GOOSE_RETRANSMIT (R350) -/
  | gooseRetransmit (t : Nat) (pub : Nat)
  /-- TRIP_SCHED_ARM (R356) -/
  | tripSchedArm (t : Nat) (init : Nat) (line : Nat) (value : Word)
  /-- TRIP_SCHED_CANCEL (R356) -/
  | tripSchedCancel (t : Nat) (init : Nat) (line : Nat)
  /-- SCHEDULED_EDGE_FIRE (R356) -/
  | scheduledEdgeFire (t : Nat) (line : Nat)
  /-- BINARY_INPUT_CHANGE (R357) -/
  | binaryInputChange (t : Nat) (input : Nat) (ball : Bool)
  /-- BINARY_INPUT_ACCEPT (R357) -/
  | binaryInputAccept (t : Nat) (input : Nat)
  /-- BI_EVENT_POP (R357) -/
  | biEventPop (t : Nat) (init : Nat) (input : Nat)
  /-- SCRIBE_RUN_WRITE (R398) -/
  | scribeRunWrite (t : Nat) (init : Nat) (scribe : Nat) (run : Bool)
  /-- SCRIBE_INTERRUPT_ENTRY (R424) -/
  | scribeInterruptEntry (t : Nat) (scribe : Nat)
  /-- WALK_TIMEOUT (R446) -/
  | walkTimeout (t : Nat) (scribe : Nat)
  /-- WFI_WAKE (R420) -/
  | wfiWake (t : Nat) (scribe : Nat)
  /-- SCRIBE_TIMER_EXPIRE (R426) -/
  | scribeTimerExpire (t : Nat) (scribe : Nat)
  /-- IACK_READ (R425) -/
  | iackRead (t : Nat) (scribe : Nat) (gd : BitVec 5)
  /-- IEOI_WRITE (R425) -/
  | ieoiWrite (t : Nat) (scribe : Nat) (value : Word)
  /-- SWI_WRITE (R426) -/
  | swiWrite (t : Nat) (scribe : Nat) (value : Word)
  /-- ICU_SOURCE_WRITE (R428) -/
  | icuSourceWrite (t : Nat) (init : Nat) (source : Nat) (value : Word)
  /-- ADD (R372) -/
  | add (core : Nat) (gd : BitVec 5) (ga : BitVec 5) (gb : BitVec 5)
  /-- SUB (R372) -/
  | sub (core : Nat) (gd : BitVec 5) (ga : BitVec 5) (gb : BitVec 5)
  /-- AND (R372) -/
  | and (core : Nat) (gd : BitVec 5) (ga : BitVec 5) (gb : BitVec 5)
  /-- OR (R372) -/
  | or (core : Nat) (gd : BitVec 5) (ga : BitVec 5) (gb : BitVec 5)
  /-- XOR (R372) -/
  | xor (core : Nat) (gd : BitVec 5) (ga : BitVec 5) (gb : BitVec 5)
  /-- ANDN (R372) -/
  | andn (core : Nat) (gd : BitVec 5) (ga : BitVec 5) (gb : BitVec 5)
  /-- SLL (R372) -/
  | sll (core : Nat) (gd : BitVec 5) (ga : BitVec 5) (gb : BitVec 5)
  /-- SRL (R372) -/
  | srl (core : Nat) (gd : BitVec 5) (ga : BitVec 5) (gb : BitVec 5)
  /-- SRA (R372) -/
  | sra (core : Nat) (gd : BitVec 5) (ga : BitVec 5) (gb : BitVec 5)
  /-- ROR (R372) -/
  | ror (core : Nat) (gd : BitVec 5) (ga : BitVec 5) (gb : BitVec 5)
  /-- SLT (R372) -/
  | slt (core : Nat) (gd : BitVec 5) (ga : BitVec 5) (gb : BitVec 5)
  /-- SLTU (R372) -/
  | sltu (core : Nat) (gd : BitVec 5) (ga : BitVec 5) (gb : BitVec 5)
  /-- MIN (R372) -/
  | min (core : Nat) (gd : BitVec 5) (ga : BitVec 5) (gb : BitVec 5)
  /-- MAX (R372) -/
  | max (core : Nat) (gd : BitVec 5) (ga : BitVec 5) (gb : BitVec 5)
  /-- MINU (R372) -/
  | minu (core : Nat) (gd : BitVec 5) (ga : BitVec 5) (gb : BitVec 5)
  /-- MAXU (R372) -/
  | maxu (core : Nat) (gd : BitVec 5) (ga : BitVec 5) (gb : BitVec 5)
  /-- CLZ (R372) -/
  | clz (core : Nat) (gd : BitVec 5) (ga : BitVec 5) (gb : BitVec 5)
  /-- CTZ (R372) -/
  | ctz (core : Nat) (gd : BitVec 5) (ga : BitVec 5) (gb : BitVec 5)
  /-- POPC (R372) -/
  | popc (core : Nat) (gd : BitVec 5) (ga : BitVec 5) (gb : BitVec 5)
  /-- SXB (R372) -/
  | sxb (core : Nat) (gd : BitVec 5) (ga : BitVec 5) (gb : BitVec 5)
  /-- SXQ (R372) -/
  | sxq (core : Nat) (gd : BitVec 5) (ga : BitVec 5) (gb : BitVec 5)
  /-- SXH (R372) -/
  | sxh (core : Nat) (gd : BitVec 5) (ga : BitVec 5) (gb : BitVec 5)
  /-- ZXB (R372) -/
  | zxb (core : Nat) (gd : BitVec 5) (ga : BitVec 5) (gb : BitVec 5)
  /-- ZXQ (R372) -/
  | zxq (core : Nat) (gd : BitVec 5) (ga : BitVec 5) (gb : BitVec 5)
  /-- ZXH (R372) -/
  | zxh (core : Nat) (gd : BitVec 5) (ga : BitVec 5) (gb : BitVec 5)
  /-- MUL (R372) -/
  | mul (core : Nat) (gd : BitVec 5) (ga : BitVec 5) (gb : BitVec 5)
  /-- MULH (R372) -/
  | mulh (core : Nat) (gd : BitVec 5) (ga : BitVec 5) (gb : BitVec 5)
  /-- MULHU (R372) -/
  | mulhu (core : Nat) (gd : BitVec 5) (ga : BitVec 5) (gb : BitVec 5)
  /-- DIV (R372) -/
  | div (core : Nat) (gd : BitVec 5) (ga : BitVec 5) (gb : BitVec 5)
  /-- DIVU (R372) -/
  | divu (core : Nat) (gd : BitVec 5) (ga : BitVec 5) (gb : BitVec 5)
  /-- REM (R372) -/
  | rem (core : Nat) (gd : BitVec 5) (ga : BitVec 5) (gb : BitVec 5)
  /-- REMU (R372) -/
  | remu (core : Nat) (gd : BitVec 5) (ga : BitVec 5) (gb : BitVec 5)
  /-- SEL (R372) -/
  | sel (core : Nat) (gd : BitVec 5) (ga : BitVec 5) (gb : BitVec 5) (fn : BitVec 14)
  /-- ADDI (R372) -/
  | addi (core : Nat) (gd : BitVec 5) (ga : BitVec 5) (imm : BitVec 19)
  /-- ANDI (R372) -/
  | andi (core : Nat) (gd : BitVec 5) (ga : BitVec 5) (imm : BitVec 19)
  /-- ORI (R372) -/
  | ori (core : Nat) (gd : BitVec 5) (ga : BitVec 5) (imm : BitVec 19)
  /-- XORI (R372) -/
  | xori (core : Nat) (gd : BitVec 5) (ga : BitVec 5) (imm : BitVec 19)
  /-- SLTI (R372) -/
  | slti (core : Nat) (gd : BitVec 5) (ga : BitVec 5) (imm : BitVec 19)
  /-- SLTIU (R372) -/
  | sltiu (core : Nat) (gd : BitVec 5) (ga : BitVec 5) (imm : BitVec 19)
  /-- SLLI (R372) -/
  | slli (core : Nat) (gd : BitVec 5) (ga : BitVec 5) (imm : BitVec 19)
  /-- SRLI (R372) -/
  | srli (core : Nat) (gd : BitVec 5) (ga : BitVec 5) (imm : BitVec 19)
  /-- SRAI (R372) -/
  | srai (core : Nat) (gd : BitVec 5) (ga : BitVec 5) (imm : BitVec 19)
  /-- RORI (R372) -/
  | rori (core : Nat) (gd : BitVec 5) (ga : BitVec 5) (imm : BitVec 19)
  /-- SHIN (R372) -/
  | shin (core : Nat) (gd : BitVec 5) (ga : BitVec 5) (imm : BitVec 19)
  /-- ADDPC (R372) -/
  | addpc (core : Nat) (gd : BitVec 5) (ga : BitVec 5) (imm : BitVec 19)
  /-- LB (R372) -/
  | lb (core : Nat) (gd : BitVec 5) (ga : BitVec 5) (mode : BitVec 3) (imm : BitVec 16) (err : MemErr)
  /-- LBU (R372) -/
  | lbu (core : Nat) (gd : BitVec 5) (ga : BitVec 5) (mode : BitVec 3) (imm : BitVec 16) (err : MemErr)
  /-- LQ (R372) -/
  | lq (core : Nat) (gd : BitVec 5) (ga : BitVec 5) (mode : BitVec 3) (imm : BitVec 16) (err : MemErr)
  /-- LQU (R372) -/
  | lqu (core : Nat) (gd : BitVec 5) (ga : BitVec 5) (mode : BitVec 3) (imm : BitVec 16) (err : MemErr)
  /-- LH (R372) -/
  | lh (core : Nat) (gd : BitVec 5) (ga : BitVec 5) (mode : BitVec 3) (imm : BitVec 16) (err : MemErr)
  /-- LHU (R372) -/
  | lhu (core : Nat) (gd : BitVec 5) (ga : BitVec 5) (mode : BitVec 3) (imm : BitVec 16) (err : MemErr)
  /-- LW (R372) -/
  | lw (core : Nat) (gd : BitVec 5) (ga : BitVec 5) (mode : BitVec 3) (imm : BitVec 16) (err : MemErr)
  /-- SB (R372) -/
  | sb (core : Nat) (gd : BitVec 5) (ga : BitVec 5) (mode : BitVec 3) (imm : BitVec 16) (err : MemErr)
  /-- SQ (R372) -/
  | sq (core : Nat) (gd : BitVec 5) (ga : BitVec 5) (mode : BitVec 3) (imm : BitVec 16) (err : MemErr)
  /-- SH (R372) -/
  | sh (core : Nat) (gd : BitVec 5) (ga : BitVec 5) (mode : BitVec 3) (imm : BitVec 16) (err : MemErr)
  /-- SW (R372) -/
  | sw (core : Nat) (gd : BitVec 5) (ga : BitVec 5) (mode : BitVec 3) (imm : BitVec 16) (err : MemErr)
  /-- BEQ (R377) -/
  | beq (core : Nat) (ga : BitVec 5) (gb : BitVec 5) (disp : BitVec 19)
  /-- BNE (R377) -/
  | bne (core : Nat) (ga : BitVec 5) (gb : BitVec 5) (disp : BitVec 19)
  /-- BLT (R377) -/
  | blt (core : Nat) (ga : BitVec 5) (gb : BitVec 5) (disp : BitVec 19)
  /-- BGE (R377) -/
  | bge (core : Nat) (ga : BitVec 5) (gb : BitVec 5) (disp : BitVec 19)
  /-- BLTU (R377) -/
  | bltu (core : Nat) (ga : BitVec 5) (gb : BitVec 5) (disp : BitVec 19)
  /-- BGEU (R377) -/
  | bgeu (core : Nat) (ga : BitVec 5) (gb : BitVec 5) (disp : BitVec 19)
  /-- JMP (R378) -/
  | jmp (core : Nat) (disp : BitVec 29)
  /-- CALL (R372) -/
  | call (core : Nat) (disp : BitVec 29)
  /-- JALR (R379) -/
  | jalr (core : Nat) (gd : BitVec 5) (ga : BitVec 5) (gb : BitVec 5) (fn : BitVec 14)
  /-- FADD (R372) -/
  | fadd (core : Nat) (gd : BitVec 5) (ga : BitVec 5) (gb : BitVec 5) (fmt : BitVec 1) (rnd : BitVec 3) (gc : BitVec 5)
  /-- FSUB (R372) -/
  | fsub (core : Nat) (gd : BitVec 5) (ga : BitVec 5) (gb : BitVec 5) (fmt : BitVec 1) (rnd : BitVec 3) (gc : BitVec 5)
  /-- FMUL (R372) -/
  | fmul (core : Nat) (gd : BitVec 5) (ga : BitVec 5) (gb : BitVec 5) (fmt : BitVec 1) (rnd : BitVec 3) (gc : BitVec 5)
  /-- FDIV (R372) -/
  | fdiv (core : Nat) (gd : BitVec 5) (ga : BitVec 5) (gb : BitVec 5) (fmt : BitVec 1) (rnd : BitVec 3) (gc : BitVec 5)
  /-- FSQRT (R372) -/
  | fsqrt (core : Nat) (gd : BitVec 5) (ga : BitVec 5) (gb : BitVec 5) (fmt : BitVec 1) (rnd : BitVec 3) (gc : BitVec 5)
  /-- FMIN (R372) -/
  | fmin (core : Nat) (gd : BitVec 5) (ga : BitVec 5) (gb : BitVec 5) (fmt : BitVec 1) (rnd : BitVec 3) (gc : BitVec 5)
  /-- FMAX (R372) -/
  | fmax (core : Nat) (gd : BitVec 5) (ga : BitVec 5) (gb : BitVec 5) (fmt : BitVec 1) (rnd : BitVec 3) (gc : BitVec 5)
  /-- FMADD (R372) -/
  | fmadd (core : Nat) (gd : BitVec 5) (ga : BitVec 5) (gb : BitVec 5) (fmt : BitVec 1) (rnd : BitVec 3) (gc : BitVec 5)
  /-- FMSUB (R372) -/
  | fmsub (core : Nat) (gd : BitVec 5) (ga : BitVec 5) (gb : BitVec 5) (fmt : BitVec 1) (rnd : BitVec 3) (gc : BitVec 5)
  /-- FNMSUB (R372) -/
  | fnmsub (core : Nat) (gd : BitVec 5) (ga : BitVec 5) (gb : BitVec 5) (fmt : BitVec 1) (rnd : BitVec 3) (gc : BitVec 5)
  /-- FEQ (R372) -/
  | feq (core : Nat) (gd : BitVec 5) (ga : BitVec 5) (gb : BitVec 5) (fmt : BitVec 1) (rnd : BitVec 3) (gc : BitVec 5)
  /-- FLT (R372) -/
  | flt (core : Nat) (gd : BitVec 5) (ga : BitVec 5) (gb : BitVec 5) (fmt : BitVec 1) (rnd : BitVec 3) (gc : BitVec 5)
  /-- FLE (R372) -/
  | fle (core : Nat) (gd : BitVec 5) (ga : BitVec 5) (gb : BitVec 5) (fmt : BitVec 1) (rnd : BitVec 3) (gc : BitVec 5)
  /-- FCLASS (R372) -/
  | fclass (core : Nat) (gd : BitVec 5) (ga : BitVec 5) (gb : BitVec 5) (fmt : BitVec 1) (rnd : BitVec 3) (gc : BitVec 5)
  /-- FCVT (R372) -/
  | fcvt (core : Nat) (gd : BitVec 5) (ga : BitVec 5) (gb : BitVec 5) (fmt : BitVec 1) (rnd : BitVec 3) (gc : BitVec 5)
  /-- FCVTI (R372) -/
  | fcvti (core : Nat) (gd : BitVec 5) (ga : BitVec 5) (gb : BitVec 5) (fmt : BitVec 1) (rnd : BitVec 3) (gc : BitVec 5)
  /-- FCVTU (R372) -/
  | fcvtu (core : Nat) (gd : BitVec 5) (ga : BitVec 5) (gb : BitVec 5) (fmt : BitVec 1) (rnd : BitVec 3) (gc : BitVec 5)
  /-- ICVTF (R372) -/
  | icvtf (core : Nat) (gd : BitVec 5) (ga : BitVec 5) (gb : BitVec 5) (fmt : BitVec 1) (rnd : BitVec 3) (gc : BitVec 5)
  /-- UCVTF (R372) -/
  | ucvtf (core : Nat) (gd : BitVec 5) (ga : BitVec 5) (gb : BitVec 5) (fmt : BitVec 1) (rnd : BitVec 3) (gc : BitVec 5)
  /-- FSCOPY (R372) -/
  | fscopy (core : Nat) (gd : BitVec 5) (ga : BitVec 5) (gb : BitVec 5) (fmt : BitVec 1) (rnd : BitVec 3) (gc : BitVec 5)
  /-- FSNCOPY (R372) -/
  | fsncopy (core : Nat) (gd : BitVec 5) (ga : BitVec 5) (gb : BitVec 5) (fmt : BitVec 1) (rnd : BitVec 3) (gc : BitVec 5)
  /-- FSXOR (R372) -/
  | fsxor (core : Nat) (gd : BitVec 5) (ga : BitVec 5) (gb : BitVec 5) (fmt : BitVec 1) (rnd : BitVec 3) (gc : BitVec 5)
  /-- LR (R392) -/
  | lr (core : Nat) (gd : BitVec 5) (ga : BitVec 5) (gb : BitVec 5) (err : MemErr)
  /-- SC (R392) -/
  | sc (core : Nat) (gd : BitVec 5) (ga : BitVec 5) (gb : BitVec 5) (err : MemErr)
  /-- OUNPACK (R390) -/
  | ounpack (core : Nat) (gd : BitVec 5) (ga : BitVec 5) (gb : BitVec 5) (fn : BitVec 14)
  /-- OPACK (R390) -/
  | opack (core : Nat) (gd : BitVec 5) (ga : BitVec 5) (gb : BitVec 5) (fn : BitVec 14)
  /-- CRC (R391) -/
  | crc (core : Nat) (gd : BitVec 5) (ga : BitVec 5) (gb : BitVec 5) (fn : BitVec 14)
  /-- BMOVE (R387) -/
  | bmove (core : Nat) (gd : BitVec 5) (ga : BitVec 5) (gb : BitVec 5) (err : MemErr)
  /-- BFILL (R388) -/
  | bfill (core : Nat) (gd : BitVec 5) (ga : BitVec 5) (gb : BitVec 5) (err : MemErr)
  /-- BSCAN (R389) -/
  | bscan (core : Nat) (gd : BitVec 5) (ga : BitVec 5) (gb : BitVec 5) (fn : BitVec 14) (err : MemErr)
  /-- SYSCALL (R419) -/
  | syscall (core : Nat) (gd : BitVec 5) (ga : BitVec 5) (gb : BitVec 5) (sub : BitVec 10)
  /-- ERET (R418) -/
  | eret (core : Nat) (gd : BitVec 5) (ga : BitVec 5) (gb : BitVec 5)
  /-- FENCE (R395) -/
  | fence (core : Nat) (gd : BitVec 5) (ga : BitVec 5) (gb : BitVec 5) (sub : BitVec 10)
  /-- IFENCE (R396) -/
  | ifence (core : Nat) (gd : BitVec 5) (ga : BitVec 5) (gb : BitVec 5)
  /-- TIME (R385) -/
  | time (t : Nat) (core : Nat) (gd : BitVec 5) (ga : BitVec 5) (gb : BitVec 5)
  /-- MFSR (R402) -/
  | mfsr (core : Nat) (gd : BitVec 5) (ga : BitVec 5) (gb : BitVec 5) (sub : BitVec 10)
  /-- MTSR (R401) -/
  | mtsr (core : Nat) (gd : BitVec 5) (ga : BitVec 5) (gb : BitVec 5) (sub : BitVec 10)
  /-- WFI (R420) -/
  | wfi (core : Nat) (gd : BitVec 5) (ga : BitVec 5) (gb : BitVec 5)
  /-- BRK (R419) -/
  | brk (core : Nat) (gd : BitVec 5) (ga : BitVec 5) (gb : BitVec 5)
  /-- TLBI (R444) -/
  | tlbi (core : Nat) (gd : BitVec 5) (ga : BitVec 5) (gb : BitVec 5) (sub : BitVec 10)
  /-- DCLEAN (R372) -/
  | dclean (core : Nat) (gd : BitVec 5) (ga : BitVec 5) (gb : BitVec 5) (err : MemErr)
  /-- DFLUSH (R372) -/
  | dflush (core : Nat) (gd : BitVec 5) (ga : BitVec 5) (gb : BitVec 5) (err : MemErr)
  /-- DZERO (R372) -/
  | dzero (core : Nat) (gd : BitVec 5) (ga : BitVec 5) (gb : BitVec 5) (err : MemErr)
  /-- NIB_NOP (R290) -/
  | nibNop (fer : Nat) (nib : Nat) (cond : BitVec 3) (operand : BitVec 6) (ext : BitVec 14) (err : NibErr)
  /-- NIB_END (R303) -/
  | nibEnd (fer : Nat) (nib : Nat) (cond : BitVec 3) (operand : BitVec 6) (ext : BitVec 14) (err : NibErr)
  /-- NIB_REL (R303) -/
  | nibRel (fer : Nat) (nib : Nat) (cond : BitVec 3) (operand : BitVec 6) (ext : BitVec 14) (err : NibErr)
  /-- NIB_RET (R299) -/
  | nibRet (fer : Nat) (nib : Nat) (cond : BitVec 3) (operand : BitVec 6) (ext : BitVec 14) (err : NibErr)
  /-- NIB_LEXIT (R302) -/
  | nibLexit (fer : Nat) (nib : Nat) (cond : BitVec 3) (operand : BitVec 6) (ext : BitVec 14) (err : NibErr)
  /-- NIB_CLRV (R290) -/
  | nibClrv (fer : Nat) (nib : Nat) (cond : BitVec 3) (operand : BitVec 6) (ext : BitVec 14) (err : NibErr)
  /-- NIB_SETF (R290) -/
  | nibSetf (fer : Nat) (nib : Nat) (cond : BitVec 3) (operand : BitVec 6) (ext : BitVec 14) (err : NibErr)
  /-- NIB_CLRF (R290) -/
  | nibClrf (fer : Nat) (nib : Nat) (cond : BitVec 3) (operand : BitVec 6) (ext : BitVec 14) (err : NibErr)
  /-- NIB_NOTF (R290) -/
  | nibNotf (fer : Nat) (nib : Nat) (cond : BitVec 3) (operand : BitVec 6) (ext : BitVec 14) (err : NibErr)
  /-- NIB_CLRA0 (R290) -/
  | nibClra0 (fer : Nat) (nib : Nat) (cond : BitVec 3) (operand : BitVec 6) (ext : BitVec 14) (err : NibErr)
  /-- NIB_CLRA1 (R290) -/
  | nibClra1 (fer : Nat) (nib : Nat) (cond : BitVec 3) (operand : BitVec 6) (ext : BitVec 14) (err : NibErr)
  /-- NIB_ADDAA (R290) -/
  | nibAddaa (fer : Nat) (nib : Nat) (cond : BitVec 3) (operand : BitVec 6) (ext : BitVec 14) (err : NibErr)
  /-- NIB_SUBAA (R290) -/
  | nibSubaa (fer : Nat) (nib : Nat) (cond : BitVec 3) (operand : BitVec 6) (ext : BitVec 14) (err : NibErr)
  /-- NIB_SWPA (R290) -/
  | nibSwpa (fer : Nat) (nib : Nat) (cond : BitVec 3) (operand : BitVec 6) (ext : BitVec 14) (err : NibErr)
  /-- NIB_BR (R298) -/
  | nibBr (fer : Nat) (nib : Nat) (cond : BitVec 3) (operand : BitVec 6) (ext : BitVec 14) (err : NibErr)
  /-- NIB_CALL (R299) -/
  | nibCall (fer : Nat) (nib : Nat) (cond : BitVec 3) (operand : BitVec 6) (ext : BitVec 14) (err : NibErr)
  /-- NIB_LOOP (R300) -/
  | nibLoop (fer : Nat) (nib : Nat) (cond : BitVec 3) (operand : BitVec 6) (ext : BitVec 14) (err : NibErr)
  /-- NIB_LDI (R289) -/
  | nibLdi (fer : Nat) (nib : Nat) (cond : BitVec 3) (operand : BitVec 6) (ext : BitVec 14) (err : NibErr)
  /-- NIB_ADDI (R289) -/
  | nibAddi (fer : Nat) (nib : Nat) (cond : BitVec 3) (operand : BitVec 6) (ext : BitVec 14) (err : NibErr)
  /-- NIB_MOV (R289) -/
  | nibMov (fer : Nat) (nib : Nat) (cond : BitVec 3) (operand : BitVec 6) (ext : BitVec 14) (err : NibErr)
  /-- NIB_ADD (R289) -/
  | nibAdd (fer : Nat) (nib : Nat) (cond : BitVec 3) (operand : BitVec 6) (ext : BitVec 14) (err : NibErr)
  /-- NIB_SUB (R289) -/
  | nibSub (fer : Nat) (nib : Nat) (cond : BitVec 3) (operand : BitVec 6) (ext : BitVec 14) (err : NibErr)
  /-- NIB_AND (R289) -/
  | nibAnd (fer : Nat) (nib : Nat) (cond : BitVec 3) (operand : BitVec 6) (ext : BitVec 14) (err : NibErr)
  /-- NIB_OR (R289) -/
  | nibOr (fer : Nat) (nib : Nat) (cond : BitVec 3) (operand : BitVec 6) (ext : BitVec 14) (err : NibErr)
  /-- NIB_XOR (R289) -/
  | nibXor (fer : Nat) (nib : Nat) (cond : BitVec 3) (operand : BitVec 6) (ext : BitVec 14) (err : NibErr)
  /-- NIB_CEQ (R289) -/
  | nibCeq (fer : Nat) (nib : Nat) (cond : BitVec 3) (operand : BitVec 6) (ext : BitVec 14) (err : NibErr)
  /-- NIB_CLT (R289) -/
  | nibClt (fer : Nat) (nib : Nat) (cond : BitVec 3) (operand : BitVec 6) (ext : BitVec 14) (err : NibErr)
  /-- NIB_CLTU (R289) -/
  | nibCltu (fer : Nat) (nib : Nat) (cond : BitVec 3) (operand : BitVec 6) (ext : BitVec 14) (err : NibErr)
  /-- NIB_SHF (R291) -/
  | nibShf (fer : Nat) (nib : Nat) (cond : BitVec 3) (operand : BitVec 6) (ext : BitVec 14) (err : NibErr)
  /-- NIB_UNA (R291) -/
  | nibUna (fer : Nat) (nib : Nat) (cond : BitVec 3) (operand : BitVec 6) (ext : BitVec 14) (err : NibErr)
  /-- NIB_LDX (R292) -/
  | nibLdx (fer : Nat) (nib : Nat) (cond : BitVec 3) (operand : BitVec 6) (ext : BitVec 14) (err : NibErr)
  /-- NIB_LDY (R292) -/
  | nibLdy (fer : Nat) (nib : Nat) (cond : BitVec 3) (operand : BitVec 6) (ext : BitVec 14) (err : NibErr)
  /-- NIB_STX (R292) -/
  | nibStx (fer : Nat) (nib : Nat) (cond : BitVec 3) (operand : BitVec 6) (ext : BitVec 14) (err : NibErr)
  /-- NIB_STY (R292) -/
  | nibSty (fer : Nat) (nib : Nat) (cond : BitVec 3) (operand : BitVec 6) (ext : BitVec 14) (err : NibErr)
  /-- NIB_STK (R294) -/
  | nibStk (fer : Nat) (nib : Nat) (cond : BitVec 3) (operand : BitVec 6) (ext : BitVec 14) (err : NibErr)
  /-- NIB_MAC (R293) -/
  | nibMac (fer : Nat) (nib : Nat) (cond : BitVec 3) (operand : BitVec 6) (ext : BitVec 14) (err : NibErr)
  /-- NIB_MACD (R289) -/
  | nibMacd (fer : Nat) (nib : Nat) (cond : BitVec 3) (operand : BitVec 6) (ext : BitVec 14) (err : NibErr)
  /-- NIB_ACC (R291) -/
  | nibAcc (fer : Nat) (nib : Nat) (cond : BitVec 3) (operand : BitVec 6) (ext : BitVec 14) (err : NibErr)
  /-- NIB_EXT (R291) -/
  | nibExt (fer : Nat) (nib : Nat) (cond : BitVec 3) (operand : BitVec 6) (ext : BitVec 14) (err : NibErr)
  /-- NIB_ASH (R289) -/
  | nibAsh (fer : Nat) (nib : Nat) (cond : BitVec 3) (operand : BitVec 6) (ext : BitVec 14) (err : NibErr)
  /-- NIB_IN (R297) -/
  | nibIn (fer : Nat) (nib : Nat) (cond : BitVec 3) (operand : BitVec 6) (ext : BitVec 14) (err : NibErr)
  /-- NIB_OUT (R297) -/
  | nibOut (fer : Nat) (nib : Nat) (cond : BitVec 3) (operand : BitVec 6) (ext : BitVec 14) (err : NibErr)
  /-- HOME_RDS (R451) -/
  | homeRds (t : Nat) (line : Nat) (src : Nat)
  /-- HOME_RDX (R451) -/
  | homeRdx (t : Nat) (line : Nat) (src : Nat)
  /-- HOME_UPG (R453) -/
  | homeUpg (t : Nat) (line : Nat) (src : Nat)
  /-- HOME_ZX (R451) -/
  | homeZx (t : Nat) (line : Nat) (src : Nat)
  /-- HOME_WB (R458) -/
  | homeWb (t : Nat) (line : Nat) (src : Nat)
  /-- HOME_NCRD (R459) -/
  | homeNcrd (t : Nat) (line : Nat) (src : Nat)
  /-- HOME_NCWR (R459) -/
  | homeNcwr (t : Nat) (line : Nat) (src : Nat)
  /-- SNOOP_SNPS (R452) -/
  | snoopSnps (t : Nat) (desk : Nat) (line : Nat)
  /-- SNOOP_SNPX (R452) -/
  | snoopSnpx (t : Nat) (desk : Nat) (line : Nat)
  /-- SNOOP_SNPINV (R452) -/
  | snoopSnpinv (t : Nat) (desk : Nat) (line : Nat)
  /-- SNOOP_SNPRD (R452) -/
  | snoopSnprd (t : Nat) (desk : Nat) (line : Nat)
  /-- FORWARDED_SNOOP (R456) -/
  | forwardedSnoop (t : Nat) (desk : Nat) (line : Nat)
  /-- GRANT_DELIVER (R453) -/
  | grantDeliver (t : Nat) (desk : Nat) (line : Nat)
  /-- WB_ACK (R454) -/
  | wbAck (t : Nat) (desk : Nat) (line : Nat)
  /-- SNOOP_TIMEOUT (R466) -/
  | snoopTimeout (t : Nat) (desk : Nat) (line : Nat)
  /-- RECLAIM_MESSAGE (R469) -/
  | reclaimMessage (t : Nat) (line : Nat)
  /-- RECLAIM_WALK_COMPLETE (R469) -/
  | reclaimWalkComplete (t : Nat) (desk : Nat)
  /-- DMC_CONFIG_WRITE (R488) -/
  | dmcConfigWrite (t : Nat) (init : Nat) (ch : Nat) (value : Word)
  /-- DMC_RELEASE (R485) -/
  | dmcRelease (t : Nat) (init : Nat) (ch : Nat) (seq : Nat)
  /-- DMC_RESET (R485) -/
  | dmcReset (t : Nat) (init : Nat) (ch : Nat) (seq : Nat)
  /-- DMC_TRAIN (R487) -/
  | dmcTrain (t : Nat) (init : Nat) (ch : Nat) (seq : Nat)
  /-- DMC_ENABLE (R487) -/
  | dmcEnable (t : Nat) (init : Nat) (ch : Nat) (seq : Nat)
  /-- DRAM_READ_DECODE (R475) -/
  | dramReadDecode (t : Nat) (ch : Nat) (line : Nat) (errs : List (Nat × Nat))
  /-- DRAM_ALERT_PARITY (R482) -/
  | dramAlertParity (t : Nat) (ch : Nat) (line : Nat)
  /-- DRAM_WRITE_CRC_ERROR (R482) -/
  | dramWriteCrcError (t : Nat) (ch : Nat) (line : Nat)
  /-- DRAM_PATROL_READ (R478) -/
  | dramPatrolRead (t : Nat) (ch : Nat) (errs : List (Nat × Nat))
  /-- DRAM_REFRESH (R479) -/
  | dramRefresh (t : Nat) (ch : Nat) (rank : Nat) (bank : Nat)
  /-- DRAM_MR4_POLL (R479) -/
  | dramMr4Poll (t : Nat) (ch : Nat) (rank : Nat) (rate : Nat)
  /-- FROZEN_WAIT_TIMEOUT (R484) -/
  | frozenWaitTimeout (t : Nat) (ch : Nat) (scribe : Nat)
  /-- PHY_DRIFT_TRACK (R487) -/
  | phyDriftTrack (t : Nat) (ch : Nat) (correction : Nat)
  /-- DMA_CREATE (R491) -/
  | dmaCreate (t : Nat) (init : Nat) (seq : Nat) (handle : Nat)
  /-- DMA_DESTROY (R491) -/
  | dmaDestroy (t : Nat) (init : Nat) (seq : Nat) (handle : Nat)
  /-- DMA_START (R491) -/
  | dmaStart (t : Nat) (init : Nat) (seq : Nat) (handle : Nat)
  /-- DMA_STOP (R505) -/
  | dmaStop (t : Nat) (init : Nat) (seq : Nat) (handle : Nat)
  /-- DMA_BURST (R500) -/
  | dmaBurst (t : Nat) (chan : Nat)
  /-- DMA_BURST_COMPLETE (R503) -/
  | dmaBurstComplete (t : Nat) (chan : Nat)
  /-- DMA_TARGET_TIMEOUT (R501) -/
  | dmaTargetTimeout (t : Nat) (chan : Nat)
  /-- TENANT_ACTIVATE (R520) -/
  | tenantActivate (t : Nat) (init : Nat) (seq : Nat)
  /-- QPCREATE (R520) -/
  | qpcreate (t : Nat) (init : Nat) (seq : Nat)
  /-- QPDESTROY (R520) -/
  | qpdestroy (t : Nat) (init : Nat) (seq : Nat) (handle : Nat)
  /-- TENANT_FREEZE (R522) -/
  | tenantFreeze (t : Nat) (init : Nat) (seq : Nat)
  /-- TENANT_EXPORT (R524) -/
  | tenantExport (t : Nat) (init : Nat) (seq : Nat)
  /-- TENANT_IMPORT (R526) -/
  | tenantImport (t : Nat) (init : Nat) (seq : Nat)
  /-- TENANT_RESUME (R527) -/
  | tenantResume (t : Nat) (init : Nat) (seq : Nat)
  /-- TRESET (R528) -/
  | treset (t : Nat) (init : Nat) (seq : Nat)
  /-- TENANT_FREEZE_TAKE_EFFECT (R522) -/
  | tenantFreezeTakeEffect (t : Nat) (tenant : Nat) (dom : Nat)
  /-- TENANT_FREEZE_COMPLETE (R522) -/
  | tenantFreezeComplete (t : Nat) (tenant : Nat)
  /-- TENANT_RESUME_TAKE_EFFECT (R527) -/
  | tenantResumeTakeEffect (t : Nat) (tenant : Nat)
  /-- TENANT_RESET_COMPLETE (R528) -/
  | tenantResetComplete (t : Nat) (tenant : Nat)
  /-- QP_RX_DOORBELL (R513) -/
  | qpRxDoorbell (t : Nat) (init : Nat) (vf : Nat) (qp : Nat) (tail : Nat)
  /-- QP_TX_DOORBELL (R513) -/
  | qpTxDoorbell (t : Nat) (init : Nat) (vf : Nat) (qp : Nat) (tail : Nat)
  /-- QP_TX_FRAME (R514) -/
  | qpTxFrame (t : Nat) (qp : Nat)
  /-- PCIE_INBOUND_REQUEST (R616) -/
  | pcieInboundRequest (t : Nat) (vf : Nat) (req : PcieReq)
  /-- PCIE_LINK_STATE_CHANGE (R614) -/
  | pcieLinkStateChange (t : Nat) (ltssm : Nat) (width : Nat) (gen : Nat) (up : Bool)
  /-- MC_INTERRUPT_ENTRY (R534) -/
  | mcInterruptEntry (t : Nat)
  /-- FLASH_LINE_FILL (R533) -/
  | flashLineFill (t : Nat)
  /-- WDG_KICK (R537) -/
  | wdgKick (t : Nat) (init : Nat) (scribe : Nat)
  /-- WDG_PER_WRITE (R537) -/
  | wdgPerWrite (t : Nat) (init : Nat) (scribe : Nat) (value : Word)
  /-- SCRIBE_WATCHDOG_EXPIRE (R537) -/
  | scribeWatchdogExpire (t : Nat) (scribe : Nat)
  /-- MC_MKICK (R539) -/
  | mcMkick (t : Nat) (init : Nat)
  /-- MC_MPER_WRITE (R539) -/
  | mcMperWrite (t : Nat) (init : Nat) (value : Nat)
  /-- MC_MRST (R539) -/
  | mcMrst (t : Nat) (init : Nat) (fails : List TestElement)
  /-- MC_WATCHDOG_EXPIRE (R539) -/
  | mcWatchdogExpire (t : Nat) (fails : List TestElement)
  /-- HEALTH_TICK (R540) -/
  | healthTick (t : Nat)
  /-- MB_IPOST (R541) -/
  | mbIpost (t : Nat) (init : Nat)
  /-- MB_IDONE (R541) -/
  | mbIdone (t : Nat) (init : Nat)
  /-- MB_OPOST (R541) -/
  | mbOpost (t : Nat) (init : Nat)
  /-- MB_ODONE (R541) -/
  | mbOdone (t : Nat) (init : Nat)
  /-- DESKPL (R545) -/
  | deskpl (t : Nat) (init : Nat) (seq : Nat)
  /-- DESKST (R547) -/
  | deskst (t : Nat) (init : Nat) (seq : Nat)
  /-- FERST (R547) -/
  | ferst (t : Nat) (init : Nat) (seq : Nat)
  /-- DOMST (R547) -/
  | domst (t : Nat) (init : Nat) (seq : Nat)
  /-- DEVST (R551) -/
  | devst (t : Nat) (init : Nat) (seq : Nat)
  /-- PWR_DEAD (R552) -/
  | pwrDead (t : Nat) (init : Nat) (seq : Nat)
  /-- BRESET (R612) -/
  | breset (t : Nat) (init : Nat) (seq : Nat)
  /-- PWR_BLOCK_GRANT (R547) -/
  | pwrBlockGrant (t : Nat) (block : Nat)
  /-- PWR_REQUEST_TIMEOUT (R547) -/
  | pwrRequestTimeout (t : Nat) (block : Nat)
  /-- DESK_LEVEL_CHANGE_COMPLETE (R545) -/
  | deskLevelChangeComplete (t : Nat) (ok : Bool) (rail : Nat)
  /-- DESK_NAP_EXIT (R549) -/
  | deskNapExit (t : Nat) (desk : Nat)
  /-- FERRULE_POWER_UP_COMPLETE (R550) -/
  | ferrulePowerUpComplete (t : Nat) (ferrule : Nat)
  /-- THERMAL_SAMPLE (R546) -/
  | thermalSample (t : Nat) (sensor : Nat) (temp : Int)
  /-- RAIL_LOW (R546) -/
  | railLow (t : Nat) (rail : Nat) (mv : Nat)
  /-- AGEING_MONITOR_SAMPLE (R629) -/
  | ageingMonitorSample (t : Nat) (monitor : Nat) (degr : Nat)
  /-- FULLTEST (R555) -/
  | fulltest (t : Nat) (init : Nat) (seq : Nat)
  /-- FUSE (R558) -/
  | fuse (t : Nat) (init : Nat) (seq : Nat)
  /-- SEAL (R556) -/
  | seal (t : Nat) (init : Nat) (seq : Nat)
  /-- ROLLING_TEST_START (R562) -/
  | rollingTestStart (t : Nat)
  /-- NIB_TEST_COMPLETE (R563) -/
  | nibTestComplete (t : Nat) (pass : Bool)
  /-- SEGMENT_SAVE_COMPLETE (R564) -/
  | segmentSaveComplete (t : Nat)
  /-- SEGMENT_TEST_PASS_COMPLETE (R564) -/
  | segmentTestPassComplete (t : Nat) (fails : List TestElement) (repairable : Bool)
  /-- SEGMENT_RESTORE_COMPLETE (R564) -/
  | segmentRestoreComplete (t : Nat)
  /-- VBAT_RETENTION_LOSS (R559) -/
  | vbatRetentionLoss (t : Nat)
  /-- EXTEST (R569) -/
  | extest (t : Nat) (dr : Nat)
  /-- SAMPLE_PRELOAD (R569) -/
  | samplePreload (t : Nat) (dr : Nat)
  /-- EXTEST_PULSE (R569) -/
  | extestPulse (t : Nat) (dr : Nat)
  /-- EXTEST_TRAIN (R569) -/
  | extestTrain (t : Nat) (dr : Nat)
  /-- IDCODE (R569) -/
  | idcode (t : Nat)
  /-- BYPASS (R569) -/
  | bypass (t : Nat) (tdi : Bool)
  /-- SCANR (R570) -/
  | scanr (t : Nat) (sel : BitVec 8)
  /-- UNLOCK_REQUEST (R571) -/
  | unlockRequest (t : Nat) (op : BitVec 8)
  /-- UNLOCK_ANSWER (R571) -/
  | unlockAnswer (t : Nat) (sigR : Nat) (sigS : Nat) (pubKey : Nat)
  /-- UNLOCK_RELOCK (R571) -/
  | unlockRelock (t : Nat)
  /-- DBGACC_READ (R572) -/
  | dbgaccRead (t : Nat) (addr : BitVec 44) (size : BitVec 2)
  /-- DBGACC_INSPECT_READ (R572) -/
  | dbgaccInspectRead (t : Nat) (addr : BitVec 44) (size : BitVec 2)
  /-- DBGACC_WRITE (R572) -/
  | dbgaccWrite (t : Nat) (addr : BitVec 44) (size : BitVec 2) (data : Word)
  /-- DBGACC_POLL (R572) -/
  | dbgaccPoll (t : Nat)
  /-- DBGACC_TIMEOUT (R572) -/
  | dbgaccTimeout (t : Nat)
  /-- DEBUG_ATTACH_WRITE (R574) -/
  | debugAttachWrite (t : Nat) (init : Nat) (attach : Bool)
  /-- DEBUG_HALT (R575) -/
  | debugHalt (t : Nat) (init : Nat) (mask : BitVec 33)
  /-- SCRIBE_HALTED (R575) -/
  | scribeHalted (t : Nat) (scribe : Nat)
  /-- DEBUG_RESUME (R576) -/
  | debugResume (t : Nat) (init : Nat) (mask : BitVec 33)
  /-- DEBUG_STEP (R576) -/
  | debugStep (t : Nat) (init : Nat) (mask : BitVec 33)
  /-- DEBUG_REG_WRITE (R578) -/
  | debugRegWrite (t : Nat) (init : Nat) (value : Word)
  /-- NIB_DEBUG_HALT (R580) -/
  | nibDebugHalt (t : Nat) (init : Nat) (value : Word)
  /-- NIB_DEBUG_RELEASE (R581) -/
  | nibDebugRelease (t : Nat) (init : Nat) (value : Word)
  /-- BLOTTER_PACKET_WRITE (R587) -/
  | blotterPacketWrite (t : Nat)
  /-- BLOTTER_STIM_WRITE (R590) -/
  | blotterStimWrite (t : Nat) (init : Nat) (port : Nat) (value : Word)
  /-- BLOTTER_CLR (R591) -/
  | blotterClr (t : Nat) (init : Nat)
  /-- BLOTTER_STOP (R591) -/
  | blotterStop (t : Nat) (init : Nat)
  /-- DUPLEX_CONFIG_WRITE (R602) -/
  | duplexConfigWrite (t : Nat) (init : Nat) (off : Nat) (value : Word)
  /-- DUPLEX_STATUS_RX (R596) -/
  | duplexStatusRx (t : Nat) (stamp : Nat) (version : Nat) (msg : DpxStatus)
  /-- DUPLEX_PEER_TIMEOUT (R594) -/
  | duplexPeerTimeout (t : Nat)
  /-- DUPLEX_OUTPUT_TX (R600) -/
  | duplexOutputTx (t : Nat) (dom : Nat) (stroke : Nat)
  /-- DUPLEX_OUTPUT_RX (R601) -/
  | duplexOutputRx (t : Nat) (version : Nat) (msg : DpxOutput)
  /-- DUPLEX_CLR (R597) -/
  | duplexClr (t : Nat) (init : Nat)
  /-- SUPPLY_AON_GOOD (R604) -/
  | supplyAonGood (t : Nat)
  /-- POWER_ON_RESET (R604) -/
  | powerOnReset (t : Nat)
  /-- POWER_ON_RESET_END (R605) -/
  | powerOnResetEnd (t : Nat) (fails : List TestElement)
  /-- CHIP_RESET (R611) -/
  | chipReset (t : Nat)
  /-- CHIP_RESET_END (R611) -/
  | chipResetEnd (t : Nat) (fails : List TestElement)
  /-- FERRULE_RESET (R275) -/
  | ferruleReset (t : Nat) (ferrule : Nat)
  /-- FERRULE_RESET_END (R152) -/
  | ferruleResetEnd (t : Nat) (ferrule : Nat)
  /-- POWER_LOSS (R625) -/
  | powerLoss (t : Nat)
  /-- STORE_BUFFER_DRAIN (R363) -/
  | storeBufferDrain (t : Nat) (scribe : Nat)
  /-- TRAINING_STEP_COMPLETE (R487) -/
  | trainingStepComplete (t : Nat) (ch : Nat) (pass : Bool) (lane : Nat) (sub : Nat) (rank : Nat) (results : List PhyLane)
  /-- FULL_TEST_COMPLETE (R555) -/
  | fullTestComplete (t : Nat) (fails : List TestElement)
  /-- PWR_TRANSITION_COMPLETE (R551) -/
  | pwrTransitionComplete (t : Nat)
  /-- CHALLENGE_WAIT_EXPIRE (R98) -/
  | challengeWaitExpire (t : Nat)
  deriving DecidableEq, Repr

end Sys2Proof
end

