-- ==== Sys2Proof/Decode.lean ====
section
/-! DEFINITION. Commands as words of the table. The table gives none of its rows any bits (every row's list of fields is
empty), so no word spells a command (assumption 11).
Decisions: log entry 11 (DESIGN CHOICE). -/

namespace Sys2Proof

/-- The command that a word spells by the table's bits: none, since no row has any. -/
def decodeTableWord (nbits w : Nat) : Option Instr :=
  match nbits, w with
  | _, _ => none

end Sys2Proof
end

