-- ==== Sys2Proof/Config.lean ====
section
/-! DEFINITION. What the spec leaves open: free values, and the cryptographic functions that it names by their
standards only. None has a body, so nothing can be proved of a value of theirs (assumptions 5 and 6).
Decisions: log entries 5 (DESIGN CHOICE), 6 (DESIGN CHOICE), 27 (PRESUMED), 28 (DEDUCED), 69 (PRESUMED), 70 (DEDUCED). -/

namespace Sys2Proof.Config
open Sys2Proof

/-- The n-th value that the spec leaves open, in `w` bits (assumption 5). -/
opaque free (w : Nat) : Nat → BitVec w

/-- SHA-384 of a list of octets (R94, R98) (assumption 6). -/
opaque sha384 : List Nat → Nat

/-- ECDSA P-384 verification: public key, digest, r, s (R94, R98) (assumption 6). -/
opaque ecdsaVerify : Nat → Nat → Nat → Nat → Bool

/-- The authentication tag of IEC 62351-6 over a list of octets: algorithm as ALG codes it (1 HMAC-SHA256, 2 AES-GMAC-128,
3 AES-GMAC-256; R96), key octets, frame octets, tag length in bits (R142) (assumption 6). -/
opaque authTag : Nat → List Nat → List Nat → Nat → Nat

/-- AES-256-GCM encryption of octets under a key, a nonce and additional data: the ciphertext octets and the tag (R524)
(assumption 6). -/
opaque gcmSeal : Nat → Nat → List Nat → List Nat → List Nat × Nat

/-- AES-256-GCM decryption of octets: the plaintext octets when the tag matches (R524) (assumption 6). -/
opaque gcmOpen : Nat → Nat → List Nat → List Nat → Nat → Option (List Nat)

/-- How many octets the authentication extension of IEC 62351-6 adds to a frame (R347) (assumption 6). -/
opaque authExtLen : Nat

/-- The device's own priority1, priority2 and clockAccuracy in an Announce (R118). -/
opaque ownPriority1 : Nat
opaque ownPriority2 : Nat
opaque ownAccuracy : Nat

/-- The latency of an uplink's forward error correction by FEC code, in hundredths of a ns (R153, R321). -/
opaque fecLatency : Nat → Nat

/-- The words of the boot ROM, whose contents the spec does not give (R35). -/
opaque bootRom : Nat → Word

/-- The PCIe address whose writes a root port takes as message-signalled interrupts (R614). -/
opaque msiAddress : Nat

/-- Whether a floating-point result is judged tiny before rounding or after it: IEEE 754-2019, which R367 follows, leaves the
choice (assumption 5). -/
opaque tinyBefore : Bool

/-- Whether zero times infinity plus a quiet NaN raises NV: IEEE 754-2019 leaves the choice (assumption 5). -/
opaque fmaQuietInvalid : Bool

end Sys2Proof.Config
end

