-- ==== Sys2Proof/Machine/Fields.lean ====
section
/-! DEFINITION. Every named field of the register pages, as the place of its bits: the storage address of its
word (page * 512 + word), its lowest bit and its length. A word that a page shows through an index register
(the view words of SUB, PUB, RUL, CSN, TEN, DMA, PHY, PWR and BLT) has one storage word for each instance, at a
page number above the implemented ones; `Machine/Pages.lean` says which instance an access reaches. Each
docstring cites the rule of spec/ whose table gives the field. -/

namespace Sys2Proof.Machine.F
open Sys2Proof

/-- R58: Block type code (RO, reset per index) -/
def HDR_BTYPE (page : Nat) : Fld := ⟨page * 512 + (0), 0, 16⟩
/-- R58: Instance (R50) (RO, reset per index) -/
def HDR_INST (page : Nat) : Fld := ⟨page * 512 + (0), 16, 8⟩
/-- R58: Page revision (RO, reset 01h) -/
def HDR_PREV (page : Nat) : Fld := ⟨page * 512 + (0), 24, 8⟩
/-- R58: 1: the page has a CMD/RESULT doorbell (RO, reset per page) -/
def HDR_CMDP (page : Nat) : Fld := ⟨page * 512 + (1), 0, 1⟩
/-- R58: Number of argument words, 0 to 22, at words 10 to 9 + NARG (RO, reset per page) -/
def HDR_NARG (page : Nat) : Fld := ⟨page * 512 + (1), 1, 5⟩
/-- R58: 1: the page holds CS fields (RO, reset per page) -/
def HDR_CSP (page : Nat) : Fld := ⟨page * 512 + (1), 6, 1⟩
/-- R58: 1: the page holds always-on words (RO, reset per page) -/
def HDR_AONW (page : Nat) : Fld := ⟨page * 512 + (1), 7, 1⟩
/-- R58: Block-specific capabilities (RO, reset per block) -/
def HDR_BCAP (page : Nat) : Fld := ⟨page * 512 + (1), 16, 56⟩
/-- R58: 1 while PAGE_ERR holds a capture (RO, reset 0) -/
def HDR_ERRS (page : Nat) : Fld := ⟨page * 512 + (2), 0, 1⟩
/-- R58: 1 while IGNCNT is not zero (RO, reset 0) -/
def HDR_IGNS (page : Nat) : Fld := ⟨page * 512 + (2), 1, 1⟩
/-- R58: 1 while TCNT is not zero (RO, reset 0) -/
def HDR_TMRS (page : Nat) : Fld := ⟨page * 512 + (2), 2, 1⟩
/-- R58: 1 while STG is not 00b (RO, reset 0) -/
def HDR_STGS (page : Nat) : Fld := ⟨page * 512 + (2), 3, 1⟩
/-- R58: Block-specific status (RC, reset 0) -/
def HDR_BSTAT (page : Nat) : Fld := ⟨page * 512 + (2), 16, 56⟩
/-- R58: Ignored sequences since the last read; saturates at FFFFh (RC, reset 0000h) -/
def HDR_IGNCNT (page : Nat) : Fld := ⟨page * 512 + (3), 0, 16⟩
/-- R58: Word offset of the access last ignored (RC, reset 0000h) -/
def HDR_IGNOFS (page : Nat) : Fld := ⟨page * 512 + (3), 16, 16⟩
/-- R58: Reason for the last one (see Ignored sequences) (RC, reset 00h) -/
def HDR_IGNRSN (page : Nat) : Fld := ⟨page * 512 + (3), 32, 8⟩
/-- R58: 00b idle; 01b open, proposal being staged; 10b sealed, digest written and countersign awaited; 11b committing, countersigned and waiting for the common boundary (RO, reset 00b, voted) -/
def HDR_STG (page : Nat) : Fld := ⟨page * 512 + (4), 0, 2⟩
/-- R58: Number of words holding staged CS writes (RO, reset 000h) -/
def HDR_NSTG (page : Nat) : Fld := ⟨page * 512 + (4), 2, 10⟩
/-- R58: Code of the first error since the last read; 00h none (RC, reset 00h) -/
def HDR_ECODE (page : Nat) : Fld := ⟨page * 512 + (5), 0, 8⟩
/-- R58: Errors since the last read; saturates at FFh (RC, reset 00h) -/
def HDR_ECNT (page : Nat) : Fld := ⟨page * 512 + (5), 8, 8⟩
/-- R58: Word offset concerned by the first error (RC, reset 000h) -/
def HDR_EOFS (page : Nat) : Fld := ⟨page * 512 + (5), 16, 9⟩
/-- R58: Block-specific detail of the first error (RC, reset 0) -/
def HDR_EINFO (page : Nat) : Fld := ⟨page * 512 + (5), 32, 40⟩
/-- R58: Next expected command sequence number (RO, reset 00h) -/
def HDR_SEQ (page : Nat) : Fld := ⟨page * 512 + (6), 0, 8⟩
/-- R58: 1 while RESULT.STATE is 01b (RO, reset 0) -/
def HDR_BUSY (page : Nat) : Fld := ⟨page * 512 + (6), 8, 1⟩
/-- R58: Vote corrections since the last read; saturates at FFFFh (RC, reset 0000h) -/
def HDR_TCNT (page : Nat) : Fld := ⟨page * 512 + (7), 0, 16⟩
/-- R58: Word offset of the last correction (RC, reset 000h) -/
def HDR_TOFS (page : Nat) : Fld := ⟨page * 512 + (7), 16, 9⟩
/-- R58: A voted field lost its majority since the last read (RC, reset 0) -/
def HDR_TRIPLE (page : Nat) : Fld := ⟨page * 512 + (7), 32, 1⟩
/-- R66: Sequence number of this command (RW, reset 00h) -/
def DBL_SEQ (page : Nat) : Fld := ⟨page * 512 + (8), 0, 8⟩
/-- R66: Opcode, defined by the block's chapter (RW, reset 00h) -/
def DBL_OPC (page : Nat) : Fld := ⟨page * 512 + (8), 8, 8⟩
/-- R66: Target handle; 0 where the opcode takes none (RW, reset 0) -/
def DBL_HANDLE (page : Nat) : Fld := ⟨page * 512 + (8), 36, 36⟩
/-- R66: SEQ of the last accepted command (RO, reset 00h) -/
def DBL_RSEQ (page : Nat) : Fld := ⟨page * 512 + (9), 0, 8⟩
/-- R66: 00b no command since reset; 01b busy; 10b done; 11b not used (RO, reset 00b) -/
def DBL_STATE (page : Nat) : Fld := ⟨page * 512 + (9), 8, 2⟩
/-- R66: 00h completed; 01h–7Fh refused, with no effect; 80h–FFh completed with a qualifier (RO, reset 00h) -/
def DBL_STATUS (page : Nat) : Fld := ⟨page * 512 + (9), 16, 8⟩
/-- R66: Block-specific reason; 00h when STATUS is 00h (RO, reset 00h) -/
def DBL_REASON (page : Nat) : Fld := ⟨page * 512 + (9), 24, 8⟩
/-- R66: Handle returned by the command, or 0 (RO, reset 0) -/
def DBL_RHANDLE (page : Nat) : Fld := ⟨page * 512 + (9), 36, 36⟩
/-- R73: Part number within the family (RO, reset 0400h) -/
def DEV_PART : Fld := ⟨0 * 512 + (8), 0, 16⟩
/-- R73: Oronoward family (RO, reset 01h) -/
def DEV_FAM : Fld := ⟨0 * 512 + (8), 16, 8⟩
/-- R73: Silicon stepping (RO, reset fused) -/
def DEV_STEP : Fld := ⟨0 * 512 + (8), 24, 8⟩
/-- R73: 1h DW-1024-IA; 2h DW-1024-EA (RO, reset fused) -/
def DEV_GRADE : Fld := ⟨0 * 512 + (8), 32, 4⟩
/-- R73: Die identifier, unique per device (RO, reset fused) -/
def DEV_UID : Fld := ⟨0 * 512 + (9), 0, 64⟩
/-- R73: Physical address of the first captured bus error (RC, reset 0) -/
def DEV_BADDR : Fld := ⟨0 * 512 + (10), 0, 44⟩
/-- R73: Code of the first captured bus error (R53); 00h none (RC, reset 00h) -/
def DEV_BCODE : Fld := ⟨0 * 512 + (11), 0, 8⟩
/-- R73: Initiator code (RC, reset 00h) -/
def DEV_BINIT : Fld := ⟨0 * 512 + (11), 8, 8⟩
/-- R73: 1 write, 0 read (RC, reset 0) -/
def DEV_BWR : Fld := ⟨0 * 512 + (11), 16, 1⟩
/-- R73: Bus errors since the last read; saturates at FFFFh (RC, reset 0000h) -/
def DEV_BCNT : Fld := ⟨0 * 512 + (11), 32, 16⟩
/-- R90: Bit n: party n may propose (RO, reset OTP, voted) -/
def CSN_PROP : Fld := ⟨1 * 512 + (8), 0, 4⟩
/-- R90: Bit n: party n may countersign (RO, reset OTP, voted) -/
def CSN_CSGN : Fld := ⟨1 * 512 + (8), 4, 4⟩
/-- R90: Tenant ID of the engineering tenant (RO, reset OTP, voted) -/
def CSN_ENGT : Fld := ⟨1 * 512 + (8), 8, 4⟩
/-- R90: Proposal state, encoded as STG (RO, reset 00b, voted) -/
def CSN_CST : Fld := ⟨1 * 512 + (9), 0, 2⟩
/-- R90: Proposer's party (RO, reset 0h) -/
def CSN_PPARTY : Fld := ⟨1 * 512 + (9), 2, 4⟩
/-- R90: Entries in use, 0 to 256 (RO, reset 000h) -/
def CSN_NENT : Fld := ⟨1 * 512 + (9), 6, 9⟩
/-- R90: Serial of the current or last proposal (RO, reset 00_0000h, voted) -/
def CSN_SERIAL : Fld := ⟨1 * 512 + (9), 16, 24⟩
/-- R90: Digest written to seal (R79) or countersign (R80) (RW, reset 0) -/
def CSN_DIG (j : Nat) : Fld := ⟨1 * 512 + (10 + j), 0, 72⟩
/-- R90: Discard the proposal (R82) (W1, reset 0) -/
def CSN_ABORT : Fld := ⟨1 * 512 + (12), 0, 1⟩
/-- R90: 1: protection armed (R89) (CS, reset 0, voted) -/
def CSN_ARMED : Fld := ⟨1 * 512 + (13), 0, 1⟩
/-- R90: Entry shown in CSN_VENT and CSN_VVAL, in R78 order (RW, reset 00h) -/
def CSN_VIDX : Fld := ⟨1 * 512 + (14), 0, 8⟩
/-- R90: Page of the entry (RO, reset 000h) -/
def CSN_VPAGE : Fld := ⟨1 * 512 + (15), 0, 10⟩
/-- R90: Word offset of the entry (RO, reset 000h) -/
def CSN_VWORD : Fld := ⟨1 * 512 + (15), 16, 9⟩
/-- R90: 1: VIDX is below NENT (RO, reset 0) -/
def CSN_VVALID : Fld := ⟨1 * 512 + (15), 25, 1⟩
/-- R90: Staged value (R83); 0 when VVALID is 0 (RO, reset 0) -/
def CSN_VVAL : Fld := ⟨1 * 512 + (16), 0, 72⟩
/-- R90: Commits (RC, reset 0000h) -/
def CSN_NCOMMIT : Fld := ⟨1 * 512 + (17), 0, 16⟩
/-- R90: Outcomes 2 and 7 (RC, reset 0000h) -/
def CSN_NMISM : Fld := ⟨1 * 512 + (17), 16, 16⟩
/-- R90: Outcome 3 (RC, reset 0000h) -/
def CSN_NEXPIRE : Fld := ⟨1 * 512 + (17), 32, 16⟩
/-- R90: Outcomes 4, 5 and 6 (RC, reset 0000h) -/
def CSN_NOTHER : Fld := ⟨1 * 512 + (17), 48, 16⟩
/-- R90: Log entry shown in CSN_LOG0–2 (RW, reset 00h) -/
def CSN_LIDX : Fld := ⟨1 * 512 + (18), 0, 6⟩
/-- R90: Index the next entry will use (RO, reset 00h) -/
def CSN_HEAD : Fld := ⟨1 * 512 + (18), 16, 6⟩
/-- R90: Entries overwritten unread since the last read; saturates (RC, reset 0000h) -/
def CSN_LOST : Fld := ⟨1 * 512 + (18), 32, 16⟩
/-- R90: Proposal serial (RO, reset 0) -/
def CSN_LSERIAL (k : Nat) : Fld := ⟨(0x4000 + k) * 512 + (19), 0, 24⟩
/-- R90: 1 committed; 2 countersign mismatch; 3 window expired; 4 aborted; 5 no common boundary; 6 chip reset; 7 seal mismatch (RO, reset 0h) -/
def CSN_OUTCOME (k : Nat) : Fld := ⟨(0x4000 + k) * 512 + (19), 24, 4⟩
/-- R90: Proposer's party (RO, reset 0h) -/
def CSN_LPROP (k : Nat) : Fld := ⟨(0x4000 + k) * 512 + (19), 28, 4⟩
/-- R90: Countersigner's party; 0h when none (RO, reset 0h) -/
def CSN_LSIGN (k : Nat) : Fld := ⟨(0x4000 + k) * 512 + (19), 32, 4⟩
/-- R90: Entries (RO, reset 000h) -/
def CSN_LNENT (k : Nat) : Fld := ⟨(0x4000 + k) * 512 + (19), 36, 9⟩
/-- R90: Device time of the outcome; T for a commit (RO, reset 0) -/
def CSN_LTIME (k : Nat) : Fld := ⟨(0x4000 + k) * 512 + (20), 0, 72⟩
/-- R90: Digest written at sealing; 0 for outcome 6 before sealing (RO, reset 0) -/
def CSN_LDIG (k : Nat) : Fld := ⟨(0x4000 + k) * 512 + (21), 0, 72⟩
/-- R123: Device time at the moment the read is performed at the time base (RO, reset 0) -/
def TIM_NOW : Fld := ⟨2 * 512 + (8), 0, 72⟩
/-- R123: Quality (R110) (RO, reset 0h, voted) -/
def TIM_QSTATE : Fld := ⟨2 * 512 + (9), 0, 2⟩
/-- R123: Selected source; 0h none (RO, reset 0h) -/
def TIM_SRC : Fld := ⟨2 * 512 + (9), 4, 4⟩
/-- R123: Estimated error, ns (R112) (RO, reset 00_0000h) -/
def TIM_ERREST : Fld := ⟨2 * 512 + (9), 16, 24⟩
/-- R123: Degraded by the duplex peer (RO, reset 0) -/
def TIM_PDEG : Fld := ⟨2 * 512 + (9), 40, 1⟩
/-- R123: A source is refused under R102; clears when it is used (RO, reset 0) -/
def TIM_STEPREF : Fld := ⟨2 * 512 + (9), 41, 1⟩
/-- R123: A slew is running (RO, reset 0) -/
def TIM_SLEW : Fld := ⟨2 * 512 + (9), 42, 1⟩
/-- R123: Highest-priority source code (CS, reset 0h, voted) -/
def TIM_PRI0 : Fld := ⟨2 * 512 + (10), 0, 4⟩
/-- R123: PRI1 (CS, reset 0h, voted) -/
def TIM_PRI1 : Fld := ⟨2 * 512 + (10), 4, 4⟩
/-- R123: PRI2 (CS, reset 0h, voted) -/
def TIM_PRI2 : Fld := ⟨2 * 512 + (10), 8, 4⟩
/-- R123: PRI3 (CS, reset 0h, voted) -/
def TIM_PRI3 : Fld := ⟨2 * 512 + (10), 12, 4⟩
/-- R123: Holdoff in seconds (R107) (CS, reset 0Ah, voted) -/
def TIM_HOLDOFF : Fld := ⟨2 * 512 + (10), 16, 8⟩
/-- R123: Uplink number (RW, reset 0h) -/
def TIM_PORT (j : Nat) : Fld := ⟨2 * 512 + (11 + j), 0, 3⟩
/-- R123: 0: IEC/IEEE 61850-9-3; 1: IEEE C37.238-2017 (RW, reset 0) -/
def TIM_PROF (j : Nat) : Fld := ⟨2 * 512 + (11 + j), 3, 1⟩
/-- R123: PTP domain number (RW, reset 00h) -/
def TIM_DOMAIN (j : Nat) : Fld := ⟨2 * 512 + (11 + j), 8, 8⟩
/-- R123: Highest acceptable clockClass (RW, reset 07h) -/
def TIM_MAXCC (j : Nat) : Fld := ⟨2 * 512 + (11 + j), 16, 8⟩
/-- R123: Enable the slave port (RW, reset 0) -/
def TIM_EN_11 (j : Nat) : Fld := ⟨2 * 512 + (11 + j), 24, 1⟩
/-- R123: 0 disabled; 1 listening; 2 uncalibrated; 3 slave; 4 faulty (RO, reset 0h) -/
def TIM_PSTATE (j : Nat) : Fld := ⟨2 * 512 + (13 + j), 0, 3⟩
/-- R123: Qualified (R106) (RO, reset 0) -/
def TIM_QUAL (j : Nat) : Fld := ⟨2 * 512 + (13 + j), 3, 1⟩
/-- R123: Master's clockClass (RO, reset 00h) -/
def TIM_CLASS (j : Nat) : Fld := ⟨2 * 512 + (13 + j), 4, 8⟩
/-- R123: Last offset, signed ns; positive when the device is behind (RO, reset 0) -/
def TIM_OFFSET (j : Nat) : Fld := ⟨2 * 512 + (13 + j), 12, 24⟩
/-- R123: Mean path delay, ns (RO, reset 0) -/
def TIM_MPD (j : Nat) : Fld := ⟨2 * 512 + (13 + j), 36, 24⟩
/-- R123: Discarded Management and Signaling messages; saturates (RC, reset 000h) -/
def TIM_DROPS (j : Nat) : Fld := ⟨2 * 512 + (13 + j), 60, 12⟩
/-- R123: grandmasterIdentity of the selected PTP source (RO, reset 0) -/
def TIM_GMID : Fld := ⟨2 * 512 + (15), 0, 64⟩
/-- R123: PTP-A asymmetry, signed ns (R115) (RW, reset 0) -/
def TIM_ASYMA : Fld := ⟨2 * 512 + (16), 0, 24⟩
/-- R123: PTP-B asymmetry, signed ns (RW, reset 0) -/
def TIM_ASYMB : Fld := ⟨2 * 512 + (16), 24, 24⟩
/-- R123: Enable IRIG-B (RW, reset 0) -/
def TIM_EN_17 : Fld := ⟨2 * 512 + (17), 0, 1⟩
/-- R123: Honour the IEEE C37.118.1 bits (RW, reset 0) -/
def TIM_EXT : Fld := ⟨2 * 512 + (17), 1, 1⟩
/-- R123: Highest acceptable time-quality code (RW, reset 0h) -/
def TIM_MAXTQ : Fld := ⟨2 * 512 + (17), 4, 4⟩
/-- R123: Cable and receiver delay, ns (RW, reset 0000h) -/
def TIM_DLY_17 : Fld := ⟨2 * 512 + (17), 8, 16⟩
/-- R123: Last format decoded, 0 to 7 (B000 to B007) (RO, reset 0h) -/
def TIM_FMT : Fld := ⟨2 * 512 + (17), 24, 3⟩
/-- R123: Enable 1PPS (RW, reset 0) -/
def TIM_EN_18 : Fld := ⟨2 * 512 + (18), 0, 1⟩
/-- R123: 0 rising, 1 falling (RW, reset 0) -/
def TIM_EDGE : Fld := ⟨2 * 512 + (18), 1, 1⟩
/-- R123: Cable and receiver delay, ns (RW, reset 0000h) -/
def TIM_DLY_18 : Fld := ⟨2 * 512 + (18), 8, 16⟩
/-- R123: Use the 10 MHz input (R104) (RW, reset 0) -/
def TIM_F10EN : Fld := ⟨2 * 512 + (18), 24, 1⟩
/-- R123: 10 MHz present and within ±10 ppm (RO, reset 0) -/
def TIM_F10OK : Fld := ⟨2 * 512 + (18), 25, 1⟩
/-- R123: TAI − UTC, signed seconds (RW, reset 0025h) -/
def TIM_UTCOFS : Fld := ⟨2 * 512 + (19), 0, 16⟩
/-- R123: 1: UTCOFS was last written by PTP (R116) (RO, reset 0) -/
def TIM_LSRC : Fld := ⟨2 * 512 + (19), 16, 1⟩
/-- R123: A leap second is pending, as announced by the source (RO, reset 0) -/
def TIM_LEAPP : Fld := ⟨2 * 512 + (19), 17, 1⟩
/-- R123: Holdover error growth, ns per second (RW, reset 0032h) -/
def TIM_HUNC : Fld := ⟨2 * 512 + (20), 0, 16⟩
/-- R123: HOLDOVER limit, ns (RW, reset 00_03E8h) -/
def TIM_HLIM : Fld := ⟨2 * 512 + (20), 16, 24⟩
/-- R123: A write sets device time under R103; a read returns the last value written (RW, reset 0) -/
def TIM_SETV : Fld := ⟨2 * 512 + (21), 0, 72⟩
/-- R123: Quality state changed (RC, reset 0) -/
def TIM_QCHG : Fld := ⟨2 * 512 + (22), 0, 1⟩
/-- R123: Selected source changed (RC, reset 0) -/
def TIM_SRCCHG : Fld := ⟨2 * 512 + (22), 1, 1⟩
/-- R123: A step was refused (RC, reset 0) -/
def TIM_STEPR : Fld := ⟨2 * 512 + (22), 2, 1⟩
/-- R123: A 1PPS edge was missing (RC, reset 0) -/
def TIM_PPSMISS : Fld := ⟨2 * 512 + (22), 3, 1⟩
/-- R123: An IRIG-B frame was missing or bad (RC, reset 0) -/
def TIM_IRIGERR : Fld := ⟨2 * 512 + (22), 4, 1⟩
/-- R123: PTP-A lost qualification (RC, reset 0) -/
def TIM_PTPLA : Fld := ⟨2 * 512 + (22), 5, 1⟩
/-- R123: PTP-B lost qualification (RC, reset 0) -/
def TIM_PTPLB : Fld := ⟨2 * 512 + (22), 6, 1⟩
/-- R158: PMj at [2j+1:2j]: pair mode (R135); always-on (RW, reset 0000h, voted) -/
def LNK_PM (f : Nat) : Fld := ⟨(0x101 + 4 * f) * 512 + (8), 0, 16⟩
/-- R158: Duplicate entry forget time, ms (R138); always-on (RW, reset 190h) -/
def LNK_DDFT (f : Nat) : Fld := ⟨(0x101 + 4 * f) * 512 + (8), 16, 10⟩
/-- R158: Bit n: lane n's LST changed (RC, reset 0000h) -/
def LNK_LCHG (f : Nat) : Fld := ⟨(0x101 + 4 * f) * 512 + (9), 0, 16⟩
/-- R158: Bit 16 + n: lane n's SIG cleared (RC, reset 0000h) -/
def LNK_SLOSS (f : Nat) : Fld := ⟨(0x101 + 4 * f) * 512 + (9), 16, 16⟩
/-- R158: Bit 32 + n: lane n's partner fields changed (RC, reset 0000h) -/
def LNK_PCHG (f : Nat) : Fld := ⟨(0x101 + 4 * f) * 512 + (9), 32, 16⟩
/-- R158: A set bit lets the matching LNK_EVT bit raise the ferrule's link interrupt source (RW, reset 0) -/
def LNK_EVTEN (f : Nat) : Fld := ⟨(0x101 + 4 * f) * 512 + (10), 0, 48⟩
/-- R158: LNK_PAIRj: window entries in use, 0 to 2,048 (RO, reset 000h) -/
def LNK_OCC (f j : Nat) : Fld := ⟨(0x101 + 4 * f) * 512 + (12 + j), 0, 12⟩
/-- R158: Unexpired entries evicted; saturates (RC, reset 0000h) -/
def LNK_EVICT (f j : Nat) : Fld := ⟨(0x101 + 4 * f) * 512 + (12 + j), 13, 16⟩
/-- R158: Next sequence number to send (RO, reset 0000h) -/
def LNK_TXSEQ (f j : Nat) : Fld := ⟨(0x101 + 4 * f) * 512 + (12 + j), 29, 16⟩
/-- R158: HSR frames forwarded; saturates (RC, reset 0) -/
def LNK_FWD (f j : Nat) : Fld := ⟨(0x101 + 4 * f) * 512 + (12 + j), 45, 27⟩
/-- R159: LCFG: lane enabled; always-on (RW, reset 0, voted) -/
def LNK_EN (b : Nat) : Fld := ⟨b + 0, 0, 1⟩
/-- R159: Line mode (R125) (RW, reset 0h, voted) -/
def LNK_MODE (b : Nat) : Fld := ⟨b + 0, 1, 4⟩
/-- R159: Clause 37 auto-negotiation, mode 2h only (RW, reset 1) -/
def LNK_AN (b : Nat) : Fld := ⟨b + 0, 5, 1⟩
/-- R159: Tag acceptance (R132) (RW, reset 00b) -/
def LNK_VMODE (b : Nat) : Fld := ⟨b + 0, 6, 2⟩
/-- R159: Largest frame, octets, 64 to 2,000; a write of another value is an ignored sequence, reason 07h (RW, reset 5F8h) -/
def LNK_MAXLEN (b : Nat) : Fld := ⟨b + 0, 8, 11⟩
/-- R159: PTP master on this lane (R117) (RW, reset 0) -/
def LNK_PTPM (b : Nat) : Fld := ⟨b + 0, 19, 1⟩
/-- R159: Sync interval 2^-k s, k from 0 to 4; other values ignored, reason 07h (RW, reset 0h) -/
def LNK_SYNCI (b : Nat) : Fld := ⟨b + 0, 20, 3⟩
/-- R159: Far-end fault indication, mode 1h (RW, reset 1) -/
def LNK_FEFI (b : Nat) : Fld := ⟨b + 0, 23, 1⟩
/-- R159: Uplinks only (R153) (RW, reset 00b) -/
def LNK_FEC (b : Nat) : Fld := ⟨b + 0, 24, 2⟩
/-- R159: LSTAT: 0 disabled; 1 no signal; 2 acquiring; 3 negotiating; 4 up; 5 fault (RO, reset 0h) -/
def LNK_LST (b : Nat) : Fld := ⟨b + 1, 0, 3⟩
/-- R159: Signal detected (R146) (RO, reset 0) -/
def LNK_SIG (b : Nat) : Fld := ⟨b + 1, 3, 1⟩
/-- R159: Remote fault or far-end fault received (RO, reset 0) -/
def LNK_RFLT (b : Nat) : Fld := ⟨b + 1, 4, 1⟩
/-- R159: PDLY valid (RO, reset 0) -/
def LNK_PDV (b : Nat) : Fld := ⟨b + 1, 5, 1⟩
/-- R159: Mean link delay, ns (R149) (RO, reset 0000h) -/
def LNK_PDLY (b : Nat) : Fld := ⟨b + 1, 8, 16⟩
/-- R159: LMEAS: eye report valid (RO, reset 0) -/
def LNK_EYEV (b : Nat) : Fld := ⟨b + 2, 0, 1⟩
/-- R159: Eye height, 2 mV units (RO, reset 00h) -/
def LNK_EYEH (b : Nat) : Fld := ⟨b + 2, 1, 8⟩
/-- R159: Eye width, 1/128 UI (RO, reset 00h) -/
def LNK_EYEW (b : Nat) : Fld := ⟨b + 2, 9, 7⟩
/-- R159: LOSS valid (RO, reset 0) -/
def LNK_LOSSV (b : Nat) : Fld := ⟨b + 2, 16, 1⟩
/-- R159: Channel loss, 0.25 dB units (RO, reset 00h) -/
def LNK_LOSS (b : Nat) : Fld := ⟨b + 2, 17, 8⟩
/-- R159: LRTT: RTT valid, cell links only (RO, reset 0) -/
def LNK_RTTV (b : Nat) : Fld := ⟨b + 3, 0, 1⟩
/-- R159: Round trip, ns (R148) (RO, reset 0) -/
def LNK_RTT (b : Nat) : Fld := ⟨b + 3, 1, 20⟩
/-- R159: Cable length, 0.1 m (RO, reset 0000h) -/
def LNK_CLEN (b : Nat) : Fld := ⟨b + 3, 21, 16⟩
/-- R159: LPART0: partner fields valid (RO, reset 0) -/
def LNK_PV (b : Nat) : Fld := ⟨b + 4, 0, 1⟩
/-- R159: smpSynch of the learned stream (RO, reset 00h) -/
def LNK_SSYN (b : Nat) : Fld := ⟨b + 4, 2, 8⟩
/-- R159: ASDUs per frame (RO, reset 0h) -/
def LNK_NASDU (b : Nat) : Fld := ⟨b + 4, 10, 4⟩
/-- R159: Dataset values (RO, reset 00h) -/
def LNK_NVAL (b : Nat) : Fld := ⟨b + 4, 14, 6⟩
/-- R159: Sample rate, Hz (RO, reset 0) -/
def LNK_SRATE (b : Nat) : Fld := ⟨b + 4, 20, 17⟩
/-- R159: APPID of the learned stream (RO, reset 0000h) -/
def LNK_APPID (b : Nat) : Fld := ⟨b + 4, 37, 16⟩
/-- R159: LPART1: source MAC of the learned stream (RO, reset 0) -/
def LNK_SMAC (b : Nat) : Fld := ⟨b + 5, 0, 48⟩
/-- R159: Release the lock and learn again (R150) (W1, reset 0) -/
def LNK_RELRN (b : Nat) : Fld := ⟨b + 5, 48, 1⟩
/-- R159: LUNM0: destination MAC of the last unmatched frame (RC, reset 0) -/
def LNK_UDMAC (b : Nat) : Fld := ⟨b + 6, 0, 48⟩
/-- R159: Its EtherType (RC, reset 0000h) -/
def LNK_UETYPE (b : Nat) : Fld := ⟨b + 6, 48, 16⟩
/-- R159: LUNM1: capture valid (RC, reset 0) -/
def LNK_UNMV (b : Nat) : Fld := ⟨b + 7, 0, 1⟩
/-- R159: VLAN ID; 0 when untagged (RC, reset 000h) -/
def LNK_UVID (b : Nat) : Fld := ⟨b + 7, 1, 12⟩
/-- R159: Frame was tagged (RC, reset 0) -/
def LNK_UTAG (b : Nat) : Fld := ⟨b + 7, 13, 1⟩
/-- R159: APPID; 0 for other EtherTypes (RC, reset 0000h) -/
def LNK_UAPPID (b : Nat) : Fld := ⟨b + 7, 14, 16⟩
/-- R159: LCNT0: frames delivered (RC, reset 0) -/
def LNK_RXOK (b : Nat) : Fld := ⟨b + 8, 0, 36⟩
/-- R159: Stage 1 rejections (RC, reset 0) -/
def LNK_RXCRC (b : Nat) : Fld := ⟨b + 8, 36, 36⟩
/-- R159: LCNT1: stage 2 rejections (RC, reset 0) -/
def LNK_RXLEN (b : Nat) : Fld := ⟨b + 9, 0, 36⟩
/-- R159: Stage 3 and stage 6 decode rejections (RC, reset 0) -/
def LNK_RXFMT (b : Nat) : Fld := ⟨b + 9, 36, 36⟩
/-- R159: LCNT2: unmatched frames (RC, reset 0) -/
def LNK_RXUNM (b : Nat) : Fld := ⟨b + 10, 0, 36⟩
/-- R159: Duplicates discarded (RC, reset 0) -/
def LNK_RXDUP (b : Nat) : Fld := ⟨b + 10, 36, 36⟩
/-- R159: LCNT3: stage 7 rejections (RC, reset 0) -/
def LNK_RXAUTH (b : Nat) : Fld := ⟨b + 11, 0, 36⟩
/-- R159: PTP messages discarded (RC, reset 0) -/
def LNK_RXPTPD (b : Nat) : Fld := ⟨b + 11, 36, 36⟩
/-- R159: LCNT4: frames sent (RC, reset 0) -/
def LNK_TXFRM (b : Nat) : Fld := ⟨b + 12, 0, 36⟩
/-- R159: Sign-off frames sent (RC, reset 0) -/
def LNK_TXSGN (b : Nat) : Fld := ⟨b + 12, 36, 36⟩
/-- R159: LCNT5: transitions out of LST 4 (RC, reset 0000h) -/
def LNK_LDOWN (b : Nat) : Fld := ⟨b + 13, 0, 16⟩
/-- R159: SIG clearings while EN is 1 (RC, reset 0000h) -/
def LNK_SIGLOSS (b : Nat) : Fld := ⟨b + 13, 16, 16⟩
/-- R159: PRP wrong-LAN frames (RC, reset 0000h) -/
def LNK_WLAN (b : Nat) : Fld := ⟨b + 13, 32, 16⟩
/-- R159: Code violations outside frames (RC, reset 00_0000h) -/
def LNK_SYMERR (b : Nat) : Fld := ⟨b + 13, 48, 24⟩
/-- R185: Cell capability fields valid (RO, reset 0) -/
def CEL_PV (b : Nat) : Fld := ⟨b + 4, 0, 1⟩
/-- R185: Cell-link fault reason (R173, R181) (RO, reset 0h) -/
def CEL_CFR (b : Nat) : Fld := ⟨b + 4, 2, 3⟩
/-- R185: Cell type (RO, reset 0000h) -/
def CEL_CTYPE (b : Nat) : Fld := ⟨b + 4, 5, 16⟩
/-- R185: Measurement channels (RO, reset 0h) -/
def CEL_NMEAS (b : Nat) : Fld := ⟨b + 4, 21, 4⟩
/-- R185: Cell supports 2.5 Gbaud (RO, reset 0) -/
def CEL_RATE25 (b : Nat) : Fld := ⟨b + 4, 25, 1⟩
/-- R185: Cell supports 3.125 Gbaud (RO, reset 0) -/
def CEL_RATE31 (b : Nat) : Fld := ⟨b + 4, 26, 1⟩
/-- R185: Declared turnaround, ns (RO, reset 0000h) -/
def CEL_TTURN (b : Nat) : Fld := ⟨b + 4, 27, 16⟩
/-- R185: mV per VCAP unit (RO, reset 0000h) -/
def CEL_VLSB (b : Nat) : Fld := ⟨b + 4, 43, 16⟩
/-- R185: Cell firmware version (RO, reset 0) -/
def CEL_FWVER (b : Nat) : Fld := ⟨b + 5, 0, 32⟩
/-- R185: Shortest supported period, 10 ns units (RO, reset 0000h) -/
def CEL_MINPER (b : Nat) : Fld := ⟨b + 5, 32, 16⟩
/-- R185: In LST 4 or 5: return to LST 3 at once; in other states an ignored sequence, reason 07h (W1, reset 0) -/
def CEL_RELRN (b : Nat) : Fld := ⟨b + 5, 48, 1⟩
/-- R193: 1h SV; 2h GOOSE; 3h cell status (RW, reset 0h) -/
def SUB_TYPE_10 (f : Nat) : Fld := ⟨(0x102 + 4 * f) * 512 + (10), 0, 2⟩
/-- R193: Source (R188) (RW, reset 00h) -/
def SUB_SRC (f : Nat) : Fld := ⟨(0x102 + 4 * f) * 512 + (10), 2, 7⟩
/-- R193: Stroke domain D0 to D3 (RW, reset 0h) -/
def SUB_DOM (f : Nat) : Fld := ⟨(0x102 + 4 * f) * 512 + (10), 9, 2⟩
/-- R193: 0 synchronised; 1 arrival-aligned, SV only (RW, reset 0) -/
def SUB_ALIGN (f : Nat) : Fld := ⟨(0x102 + 4 * f) * 512 + (10), 11, 1⟩
/-- R193: Simulation acceptance (R206) (RW, reset 0) -/
def SUB_SIMOK (f : Nat) : Fld := ⟨(0x102 + 4 * f) * 512 + (10), 12, 1⟩
/-- R193: Lateness policy (R212) (RW, reset 00b) -/
def SUB_LPOL (f : Nat) : Fld := ⟨(0x102 + 4 * f) * 512 + (10), 13, 2⟩
/-- R193: Key pair 00h–0Fh of the page; 1Fh none (RW, reset 00h) -/
def SUB_KPAIR (f : Nat) : Fld := ⟨(0x102 + 4 * f) * 512 + (10), 15, 5⟩
/-- R193: Stroke delay, 1 to 255; synchronised SV only (RW, reset 00h) -/
def SUB_SDLY (f : Nat) : Fld := ⟨(0x102 + 4 * f) * 512 + (10), 20, 8⟩
/-- R193: Destination MAC (R134) (RW, reset 0) -/
def SUB_DMAC (f : Nat) : Fld := ⟨(0x102 + 4 * f) * 512 + (11), 0, 48⟩
/-- R193: VLAN match: 00b any; 01b untagged only; 10b VID only (RW, reset 00b) -/
def SUB_VM (f : Nat) : Fld := ⟨(0x102 + 4 * f) * 512 + (11), 48, 2⟩
/-- R193: VLAN ID for VM 10b (RW, reset 000h) -/
def SUB_VID (f : Nat) : Fld := ⟨(0x102 + 4 * f) * 512 + (11), 50, 12⟩
/-- R193: APPID (RW, reset 0000h) -/
def SUB_APPID (f : Nat) : Fld := ⟨(0x102 + 4 * f) * 512 + (12), 0, 16⟩
/-- R193: SV channels, 1 to 32; GOOSE members, 1 to 64 (RW, reset 00h) -/
def SUB_NCH (f : Nat) : Fld := ⟨(0x102 + 4 * f) * 512 + (12), 16, 7⟩
/-- R193: SV ASDUs per frame, 1 to 8 (RW, reset 0h) -/
def SUB_NASDU (f : Nat) : Fld := ⟨(0x102 + 4 * f) * 512 + (12), 23, 4⟩
/-- R193: 0 4,000; 1 4,800; 2 12,800; 3 14,400; 4 15,360; 5 96,000 Hz (RW, reset 0h) -/
def SUB_RATE (f : Nat) : Fld := ⟨(0x102 + 4 * f) * 512 + (12), 27, 3⟩
/-- R193: Expected confRev (RW, reset 0) -/
def SUB_CONFREV (f : Nat) : Fld := ⟨(0x102 + 4 * f) * 512 + (12), 30, 32⟩
/-- R193: 1: check confRev (RW, reset 0) -/
def SUB_CONFCHK (f : Nat) : Fld := ⟨(0x102 + 4 * f) * 512 + (12), 62, 1⟩
/-- R214: SUB_VIDX: slot shown in the view words (RW, reset 00h) -/
def SUB_SLOT (f : Nat) : Fld := ⟨(0x102 + 4 * f) * 512 + (22), 0, 6⟩
/-- R214: SUB_VA0: ARG0 fields as created, SETPOL applied; always-on (RO, reset 0, voted) -/
def SUB_A0 (i : Nat) : Fld := ⟨(0x1000 + i) * 512 + (23), 0, 28⟩
/-- R214: Owner tenant; always-on (RO, reset 0h, voted) -/
def SUB_OWNER (i : Nat) : Fld := ⟨(0x1000 + i) * 512 + (23), 28, 4⟩
/-- R214: 00b free; 01b created; 10b bound by a placed function; always-on (RO, reset 00b, voted) -/
def SUB_SSTATE_23 (i : Nat) : Fld := ⟨(0x1000 + i) * 512 + (23), 32, 2⟩
/-- R214: Simulation latched (R206) (RO, reset 0) -/
def SUB_SIMON_23 (i : Nat) : Fld := ⟨(0x1000 + i) * 512 + (23), 34, 1⟩
/-- R214: Cannot be fed in its domain (RO, reset 0) -/
def SUB_SPER_23 (i : Nat) : Fld := ⟨(0x1000 + i) * 512 + (23), 35, 1⟩
/-- R214: SUB_VA1: ARG1 fields as created; always-on (RO, reset 0) -/
def SUB_A1 (i : Nat) : Fld := ⟨(0x1000 + i) * 512 + (24), 0, 62⟩
/-- R214: SUB_VA2: ARG2 fields as created; always-on (RO, reset 0) -/
def SUB_A2 (i : Nat) : Fld := ⟨(0x1000 + i) * 512 + (25), 0, 63⟩
/-- R214: SUB_VRX: last stroke decided or cut (RO, reset 0) -/
def SUB_LASTS (i : Nat) : Fld := ⟨(0x1000 + i) * 512 + (26), 0, 48⟩
/-- R214: Its presence (RO, reset 0) -/
def SUB_LPRES_26 (i : Nat) : Fld := ⟨(0x1000 + i) * 512 + (26), 48, 1⟩
/-- R214: Positions per stroke (RO, reset 00h) -/
def SUB_K (i : Nat) : Fld := ⟨(0x1000 + i) * 512 + (26), 49, 7⟩
/-- R214: SUB_VGSE: H (RO, reset 0) -/
def SUB_STNUM (i : Nat) : Fld := ⟨(0x1000 + i) * 512 + (27), 0, 32⟩
/-- R214: Q (RO, reset 0) -/
def SUB_SQNUM (i : Nat) : Fld := ⟨(0x1000 + i) * 512 + (27), 32, 32⟩
/-- R214: A GOOSE frame applied since CREATE or reset (RO, reset 0) -/
def SUB_GV (i : Nat) : Fld := ⟨(0x1000 + i) * 512 + (27), 64, 1⟩
/-- R214: Expired at the last cut-off (RO, reset 0) -/
def SUB_GEXP_27 (i : Nat) : Fld := ⟨(0x1000 + i) * 512 + (27), 65, 1⟩
/-- R214: SUB_VEXP: expiry device time (R203) (RO, reset 0) -/
def SUB_EXPT (i : Nat) : Fld := ⟨(0x1000 + i) * 512 + (28), 0, 72⟩
/-- R214: SUB_VLATE: stroke of the last late input (RC, reset 0) -/
def SUB_LSTR (i : Nat) : Fld := ⟨(0x1000 + i) * 512 + (29), 0, 48⟩
/-- R214: Its position (RC, reset 00h) -/
def SUB_LPOS (i : Nat) : Fld := ⟨(0x1000 + i) * 512 + (29), 48, 7⟩
/-- R214: Capture valid (RC, reset 0) -/
def SUB_LATEV (i : Nat) : Fld := ⟨(0x1000 + i) * 512 + (29), 55, 1⟩
/-- R214: Delay after the decision, 0.1 µs (R211) (RC, reset 0000h) -/
def SUB_LDLY (i : Nat) : Fld := ⟨(0x1000 + i) * 512 + (29), 56, 16⟩
/-- R214: SUB_VCNT0: ASDUs or frames accepted (RC, reset 0) -/
def SUB_SACC (i : Nat) : Fld := ⟨(0x1000 + i) * 512 + (30), 0, 36⟩
/-- R214: Positions absent at a decision (RC, reset 0) -/
def SUB_SABS (i : Nat) : Fld := ⟨(0x1000 + i) * 512 + (30), 36, 36⟩
/-- R214: SUB_VCNT1: late inputs (RC, reset 0000h) -/
def SUB_SLATE (i : Nat) : Fld := ⟨(0x1000 + i) * 512 + (31), 0, 16⟩
/-- R214: Duplicates, surplus and older (RC, reset 0000h) -/
def SUB_SDUP (i : Nat) : Fld := ⟨(0x1000 + i) * 512 + (31), 16, 16⟩
/-- R214: Early ASDUs (RC, reset 0000h) -/
def SUB_SEARLY (i : Nat) : Fld := ⟨(0x1000 + i) * 512 + (31), 32, 16⟩
/-- R214: Check 3 rejections (RC, reset 0000h) -/
def SUB_SFMT (i : Nat) : Fld := ⟨(0x1000 + i) * 512 + (31), 48, 16⟩
/-- R214: SUB_VCNT2: check 1 rejections (RC, reset 0000h) -/
def SUB_SSIM (i : Nat) : Fld := ⟨(0x1000 + i) * 512 + (32), 0, 16⟩
/-- R214: Check 2 rejections (RC, reset 0000h) -/
def SUB_SCONF (i : Nat) : Fld := ⟨(0x1000 + i) * 512 + (32), 16, 16⟩
/-- R214: Check 4 rejections (RC, reset 0000h) -/
def SUB_SUNSY (i : Nat) : Fld := ⟨(0x1000 + i) * 512 + (32), 32, 16⟩
/-- R214: GOOSE new states (RC, reset 0000h) -/
def SUB_SSTCHG (i : Nat) : Fld := ⟨(0x1000 + i) * 512 + (32), 48, 16⟩
/-- R214: SUB_VCNT3: GOOSE state gaps (RC, reset 0000h) -/
def SUB_SSTGAP (i : Nat) : Fld := ⟨(0x1000 + i) * 512 + (33), 0, 16⟩
/-- R214: GOOSE retransmissions with differing members (RC, reset 0000h) -/
def SUB_SGINC (i : Nat) : Fld := ⟨(0x1000 + i) * 512 + (33), 16, 16⟩
/-- R214: GOOSE publisher restarts (RC, reset 0000h) -/
def SUB_SRST (i : Nat) : Fld := ⟨(0x1000 + i) * 512 + (33), 32, 16⟩
/-- R214: GOOSE expiries (RC, reset 0000h) -/
def SUB_STALX (i : Nat) : Fld := ⟨(0x1000 + i) * 512 + (33), 48, 16⟩
/-- R214: SUB_FMTR: slot of the last check 1–3 rejection (RC, reset 00h) -/
def SUB_FSLOT (f : Nat) : Fld := ⟨(0x102 + 4 * f) * 512 + (34), 0, 6⟩
/-- R214: Its FRSN (R196) (RC, reset 00h) -/
def SUB_FRSN (f : Nat) : Fld := ⟨(0x102 + 4 * f) * 512 + (34), 8, 8⟩
/-- R214: Capture valid (RC, reset 0) -/
def SUB_FV (f : Nat) : Fld := ⟨(0x102 + 4 * f) * 512 + (34), 16, 1⟩
/-- R214: SUB_EABS: bit s, slot s decided presence 0 (RC, reset 0) -/
def SUB_EABS (f : Nat) : Fld := ⟨(0x102 + 4 * f) * 512 + (40), 0, 64⟩
/-- R214: SUB_ELATE: bit s, slot s received a late input (RC, reset 0) -/
def SUB_ELATE (f : Nat) : Fld := ⟨(0x102 + 4 * f) * 512 + (41), 0, 64⟩
/-- R214: SUB_EFMT: bit s, slot s rejected a frame at checks 1–3 (RC, reset 0) -/
def SUB_EFMT (f : Nat) : Fld := ⟨(0x102 + 4 * f) * 512 + (42), 0, 64⟩
/-- R214: SUB_ETAL: bit s, slot s expired (RC, reset 0) -/
def SUB_ETAL (f : Nat) : Fld := ⟨(0x102 + 4 * f) * 512 + (43), 0, 64⟩
/-- R214: SUB_EVTEN: bits 0–3 let EABS, ELATE, EFMT and ETAL raise the ferrule's subscription interrupt source (RW, reset 0h) -/
def SUB_EVTEN (f : Nat) : Fld := ⟨(0x102 + 4 * f) * 512 + (44), 0, 4⟩
/-- R214: SUB_STS: slot s, as in SUB_VA0; always-on (RO, reset 00b, voted) -/
def SUB_SSTATE_48 (f j : Nat) : Fld := ⟨(0x102 + 4 * f) * 512 + (48 + j), 0, 2⟩
/-- R214: Slot s TYPE; always-on (RO, reset 0h) -/
def SUB_TYPE_48 (f j : Nat) : Fld := ⟨(0x102 + 4 * f) * 512 + (48 + j), 2, 2⟩
/-- R214: Presence of the last decided or cut stroke (RO, reset 0) -/
def SUB_LPRES_48 (f j : Nat) : Fld := ⟨(0x102 + 4 * f) * 512 + (48 + j), 4, 1⟩
/-- R214: Expired at the last cut-off (RO, reset 0) -/
def SUB_GEXP_48 (f j : Nat) : Fld := ⟨(0x102 + 4 * f) * 512 + (48 + j), 5, 1⟩
/-- R214: Simulation latched (RO, reset 0) -/
def SUB_SIMON_48 (f j : Nat) : Fld := ⟨(0x102 + 4 * f) * 512 + (48 + j), 6, 1⟩
/-- R214: Cannot be fed in its domain (RO, reset 0) -/
def SUB_SPER_48 (f j : Nat) : Fld := ⟨(0x102 + 4 * f) * 512 + (48 + j), 7, 1⟩
/-- R215: KCTL: 0 empty; 1 HMAC-SHA256; 2 AES-GMAC-128; 3 AES-GMAC-256 (CS, reset 0h, voted) -/
def KEY_ALG (b : Nat) : Fld := ⟨b + 0, 0, 2⟩
/-- R215: Key ID (CS, reset 0) -/
def KEY_KEYID (b : Nat) : Fld := ⟨b + 0, 2, 32⟩
/-- R215: Owner tenant of the pair; slot 0 only (CS, reset 0h, voted) -/
def KEY_KOWN (b : Nat) : Fld := ⟨b + 0, 34, 4⟩
/-- R215: KVF: valid-from device time (CS, reset 0) -/
def KEY_VFROM (b : Nat) : Fld := ⟨b + 1, 0, 72⟩
/-- R215: KEY0–KEY2: key octets 0 to 26, packed form of R6; read 0 except through R83 (CS, reset 0) -/
def KEY_KEY_2 (b k : Nat) : Fld := ⟨b + 2 + k, 0, 72⟩
/-- R215: KEY3: key octets 27 to 31; read 0 except through R83 (CS, reset 0) -/
def KEY_KEY_5 (b : Nat) : Fld := ⟨b + 5, 0, 40⟩
/-- R217: DOM_PER: period in ns, 10,000 to 1,000,000; 0 means not configured (RW, reset 0, voted) -/
def DOM_PER (d : Nat) : Fld := ⟨(4 + d) * 512 + (64), 0, 20⟩
/-- R217: DOM_ANC: anchor, a device time (RW, reset 0, voted) -/
def DOM_ANC (d : Nat) : Fld := ⟨(4 + d) * 512 + (65), 0, 72⟩
/-- R217: DOM_GRC: grace in 10 ns units, 0 to 5,000 (RW, reset 0000h, voted) -/
def DOM_GRC (d : Nat) : Fld := ⟨(4 + d) * 512 + (66), 0, 13⟩
/-- R217: DOM_CTL: the domain runs (RO, reset 0, voted) -/
def DOM_RUN (d : Nat) : Fld := ⟨(4 + d) * 512 + (67), 0, 1⟩
/-- R217: Start the domain (W1, reset 0) -/
def DOM_START (d : Nat) : Fld := ⟨(4 + d) * 512 + (67), 1, 1⟩
/-- R217: Stop the domain (W1, reset 0) -/
def DOM_STOP (d : Nat) : Fld := ⟨(4 + d) * 512 + (67), 2, 1⟩
/-- R217: DOM_FIRST: first stroke of the present run (RO, reset 0) -/
def DOM_FIRST (d : Nat) : Fld := ⟨(4 + d) * 512 + (68), 0, 48⟩
/-- R217: DOM_CUR: last stroke opened (RO, reset 0) -/
def DOM_CUR (d : Nat) : Fld := ⟨(4 + d) * 512 + (69), 0, 48⟩
/-- R217: DOM_CNT0: closes whose instant is DL(N) (R224), whether or not every decision had arrived, counted once per ferrule and stroke (RC, reset 0) -/
def DOM_NDL (d : Nat) : Fld := ⟨(4 + d) * 512 + (70), 0, 36⟩
/-- R217: Function strokes that were indeterminate or skipped, counted once per function and stroke (R236) (RC, reset 0) -/
def DOM_NIND (d : Nat) : Fld := ⟨(4 + d) * 512 + (70), 36, 36⟩
/-- R217: DOM_CNT1: LATE entries written (RC, reset 0) -/
def DOM_NLATE (d : Nat) : Fld := ⟨(4 + d) * 512 + (71), 0, 36⟩
/-- R217: Ledger entries dropped, for this domain's entries, on every ferrule (RC, reset 0) -/
def DOM_NLDROP (d : Nat) : Fld := ⟨(4 + d) * 512 + (71), 36, 36⟩
/-- R276: FER_CTL: 0 OFF; 1 PARK; 2 RUN; 3 in reset (RO, reset 0h) -/
def FER_FSTATE (f : Nat) : Fld := ⟨(0x100 + 4 * f) * 512 + (8), 0, 3⟩
/-- R276: Functions placed on the ferrule, 0 to 64 (RO, reset 00h) -/
def FER_NFUNC (f : Nat) : Fld := ⟨(0x100 + 4 * f) * 512 + (8), 4, 7⟩
/-- R276: FER_LEDG: entries written (R240) (RO, reset 0000h) -/
def FER_LWR (f : Nat) : Fld := ⟨(0x100 + 4 * f) * 512 + (9), 0, 16⟩
/-- R276: Entries consumed (R240) (RW, reset 0000h) -/
def FER_LRD (f : Nat) : Fld := ⟨(0x100 + 4 * f) * 512 + (9), 16, 16⟩
/-- R276: Entries dropped; saturates (RC, reset 0000h) -/
def FER_LDROP (f : Nat) : Fld := ⟨(0x100 + 4 * f) * 512 + (9), 32, 16⟩
/-- R276: Ledger in gap state (R241) (RO, reset 0) -/
def FER_GAPST (f : Nat) : Fld := ⟨(0x100 + 4 * f) * 512 + (9), 48, 1⟩
/-- R276: FER_INK: inkwell corrected errors; saturates (RC, reset 0000h) -/
def FER_ICOR (f : Nat) : Fld := ⟨(0x100 + 4 * f) * 512 + (10), 0, 16⟩
/-- R276: Inkwell uncorrectable errors; saturates (RC, reset 0000h) -/
def FER_IUNC (f : Nat) : Fld := ⟨(0x100 + 4 * f) * 512 + (10), 16, 16⟩
/-- R276: Address of the first uncorrectable error since the last read (RC, reset 0) -/
def FER_IUADR (f : Nat) : Fld := ⟨(0x100 + 4 * f) * 512 + (10), 32, 18⟩
/-- R276: IUADR valid (RC, reset 0) -/
def FER_IUV (f : Nat) : Fld := ⟨(0x100 + 4 * f) * 512 + (10), 50, 1⟩
/-- R276: FER_SMAP: state pairs allotted (RO, reset 0000h) -/
def FER_SMUSE (f : Nat) : Fld := ⟨(0x100 + 4 * f) * 512 + (11), 0, 16⟩
/-- R276: State pairs available (R259) (RO, reset 8000h) -/
def FER_SMCAP (f : Nat) : Fld := ⟨(0x100 + 4 * f) * 512 + (11), 16, 16⟩
/-- R276: FER_EVT: bit n, nib n faulted (RC, reset 0) -/
def FER_NFLT (f : Nat) : Fld := ⟨(0x100 + 4 * f) * 512 + (12), 0, 18⟩
/-- R276: An uncorrectable inkwell error (RC, reset 0) -/
def FER_INKUE (f : Nat) : Fld := ⟨(0x100 + 4 * f) * 512 + (12), 18, 1⟩
/-- R276: A ledger entry was dropped (RC, reset 0) -/
def FER_LDRP (f : Nat) : Fld := ⟨(0x100 + 4 * f) * 512 + (12), 19, 1⟩
/-- R276: A comparison deadline passed (RC, reset 0) -/
def FER_CDLM (f : Nat) : Fld := ⟨(0x100 + 4 * f) * 512 + (12), 20, 1⟩
/-- R276: FER_EVTEN: a set bit lets the matching FER_EVT bit raise the ferrule's nib interrupt source (RW, reset 0) -/
def FER_EVTEN (f : Nat) : Fld := ⟨(0x100 + 4 * f) * 512 + (13), 0, 21⟩
/-- R276: FER_NIBn: 0 idle; 1 running; 2 halted (bench); 3 failed; 4 spare; 5 under self-test; 6 out of service after NIBOUT (R310), until NIBIN; 7 never shown (RO, reset 0h) -/
def FER_NST (f j : Nat) : Fld := ⟨(0x100 + 4 * f) * 512 + (16 + j), 0, 3⟩
/-- R276: Active program bank (R250) (RO, reset 0) -/
def FER_PBANK (f j : Nat) : Fld := ⟨(0x100 + 4 * f) * 512 + (16 + j), 3, 1⟩
/-- R276: Nib's domain (RO, reset 0h) -/
def FER_DOM (f j : Nat) : Fld := ⟨(0x100 + 4 * f) * 512 + (16 + j), 4, 2⟩
/-- R276: Slot running while NST is 1 (RO, reset 0h) -/
def FER_CSLOT (f j : Nat) : Fld := ⟨(0x100 + 4 * f) * 512 + (16 + j), 6, 2⟩
/-- R276: Bit k: slot k occupied (RO, reset 0h) -/
def FER_SLOTV (f j : Nat) : Fld := ⟨(0x100 + 4 * f) * 512 + (16 + j), 8, 4⟩
/-- R276: Corrected errors in program, X and Y; saturates (RC, reset 0000h) -/
def FER_MCOR (f j : Nat) : Fld := ⟨(0x100 + 4 * f) * 512 + (16 + j), 12, 16⟩
/-- R276: FER_SLOT of nib n, slot k: function index (RO, reset 000h) -/
def FER_FIDX (f j : Nat) : Fld := ⟨(0x100 + 4 * f) * 512 + (64 + j), 0, 12⟩
/-- R276: Slot occupied (RO, reset 0) -/
def FER_SV (f j : Nat) : Fld := ⟨(0x100 + 4 * f) * 512 + (64 + j), 12, 1⟩
/-- R276: Function ruled twin (RO, reset 0) -/
def FER_TWIN (f j : Nat) : Fld := ⟨(0x100 + 4 * f) * 512 + (64 + j), 13, 1⟩
/-- R276: Function ruled critical (RO, reset 0) -/
def FER_CRIT (f j : Nat) : Fld := ⟨(0x100 + 4 * f) * 512 + (64 + j), 14, 1⟩
/-- R276: Budget, cycles (R262) (RO, reset 0000h) -/
def FER_BUDGET (f j : Nat) : Fld := ⟨(0x100 + 4 * f) * 512 + (64 + j), 15, 16⟩
/-- R276: Cycles of the last run ended by END (RO, reset 0000h) -/
def FER_USED (f j : Nat) : Fld := ⟨(0x100 + 4 * f) * 512 + (64 + j), 31, 16⟩
/-- R276: Inkwell word address of the stroke header (R229) (RO, reset 0) -/
def FER_HADDR (f j : Nat) : Fld := ⟨(0x100 + 4 * f) * 512 + (64 + j), 47, 18⟩
/-- R276: The last run faulted or was discarded (RO, reset 0) -/
def FER_LFLT (f j : Nat) : Fld := ⟨(0x100 + 4 * f) * 512 + (64 + j), 65, 1⟩
/-- R276: FER_FRA of nib n: stroke of the fault (RC, reset 0) -/
def FER_FSTR (f j : Nat) : Fld := ⟨(0x100 + 4 * f) * 512 + (144 + 3 * j), 0, 48⟩
/-- R276: Domain (RC, reset 0h) -/
def FER_FDOM (f j : Nat) : Fld := ⟨(0x100 + 4 * f) * 512 + (144 + 3 * j), 48, 2⟩
/-- R276: Slot (RC, reset 0h) -/
def FER_FSLOT (f j : Nat) : Fld := ⟨(0x100 + 4 * f) * 512 + (144 + 3 * j), 50, 2⟩
/-- R276: Function index (RC, reset 000h) -/
def FER_FFIDX (f j : Nat) : Fld := ⟨(0x100 + 4 * f) * 512 + (144 + 3 * j), 52, 12⟩
/-- R276: Fault kind (R266) (RC, reset 0h) -/
def FER_FKIND (f j : Nat) : Fld := ⟨(0x100 + 4 * f) * 512 + (144 + 3 * j), 64, 4⟩
/-- R276: FER_FRB: PC of the faulting instruction, relative to the program part (RC, reset 0000h) -/
def FER_FPC (f j : Nat) : Fld := ⟨(0x100 + 4 * f) * 512 + (145 + 3 * j), 0, 13⟩
/-- R276: Program bank (RC, reset 0) -/
def FER_FBANK (f j : Nat) : Fld := ⟨(0x100 + 4 * f) * 512 + (145 + 3 * j), 13, 1⟩
/-- R276: First parcel (RC, reset 0000h) -/
def FER_FPAR0 (f j : Nat) : Fld := ⟨(0x100 + 4 * f) * 512 + (145 + 3 * j), 14, 14⟩
/-- R276: Second parcel; 0 when FEXT is 0 (RC, reset 0000h) -/
def FER_FPAR1 (f j : Nat) : Fld := ⟨(0x100 + 4 * f) * 512 + (145 + 3 * j), 28, 14⟩
/-- R276: A second parcel was fetched (RC, reset 0) -/
def FER_FEXT (f j : Nat) : Fld := ⟨(0x100 + 4 * f) * 512 + (145 + 3 * j), 42, 1⟩
/-- R276: Run cycles up to the fault (R269) (RC, reset 0000h) -/
def FER_FCYC (f j : Nat) : Fld := ⟨(0x100 + 4 * f) * 512 + (145 + 3 * j), 43, 16⟩
/-- R276: Return-stack depth, 0 to 16 (RC, reset 00h) -/
def FER_FRSD (f j : Nat) : Fld := ⟨(0x100 + 4 * f) * 512 + (145 + 3 * j), 59, 5⟩
/-- R276: FER_FRC: lc0 (RC, reset 0000h) -/
def FER_FLC0 (f j : Nat) : Fld := ⟨(0x100 + 4 * f) * 512 + (146 + 3 * j), 0, 16⟩
/-- R276: lc1 (RC, reset 0000h) -/
def FER_FLC1 (f j : Nat) : Fld := ⟨(0x100 + 4 * f) * 512 + (146 + 3 * j), 16, 16⟩
/-- R276: Active loop levels, 0 to 2 (RC, reset 0h) -/
def FER_FLOOP (f j : Nat) : Fld := ⟨(0x100 + 4 * f) * 512 + (146 + 3 * j), 32, 2⟩
/-- R276: sp, relative to the X part (RC, reset 0000h) -/
def FER_FSP (f j : Nat) : Fld := ⟨(0x100 + 4 * f) * 512 + (146 + 3 * j), 34, 13⟩
/-- R276: Subcode (R266) (RC, reset 00h) -/
def FER_FSUB (f j : Nat) : Fld := ⟨(0x100 + 4 * f) * 512 + (146 + 3 * j), 47, 8⟩
/-- R276: Record valid (RC, reset 0) -/
def FER_FV (f j : Nat) : Fld := ⟨(0x100 + 4 * f) * 512 + (146 + 3 * j), 55, 1⟩
/-- R276: Faults of this nib not captured; saturates at FFh (RC, reset 00h) -/
def FER_FCNT (f j : Nat) : Fld := ⟨(0x100 + 4 * f) * 512 + (146 + 3 * j), 56, 8⟩
/-- R329: RUL_STAT: functions not free (RO, reset 0000h) -/
def RUL_NPL : Fld := ⟨4 * 512 + (12), 0, 13⟩
/-- R329: An internal event is being handled (RO, reset 0) -/
def RUL_RBUSY : Fld := ⟨4 * 512 + (12), 13, 1⟩
/-- R329: Events in RUL_HALL (RO, reset 0) -/
def RUL_NHIST : Fld := ⟨4 * 512 + (12), 14, 32⟩
/-- R329: RUL_HCMD (R305) (RO, reset 0, voted) -/
def RUL_HCMD : Fld := ⟨4 * 512 + (13), 0, 72⟩
/-- R329: RUL_HALL (R305) (RO, reset 0, voted) -/
def RUL_HALL : Fld := ⟨4 * 512 + (14), 0, 72⟩
/-- R329: RUL_EVT: a function entered transit (RC, reset 0) -/
def RUL_TRANS : Fld := ⟨4 * 512 + (15), 0, 1⟩
/-- R329: A shadow stroke disagreed (RC, reset 0) -/
def RUL_SHMM : Fld := ⟨4 * 512 + (15), 1, 1⟩
/-- R329: A function was kept outside its slice (RC, reset 0) -/
def RUL_OUTSL_15 : Fld := ⟨4 * 512 + (15), 2, 1⟩
/-- R329: A critical function lost its proof (RC, reset 0) -/
def RUL_NOPRF_15 : Fld := ⟨4 * 512 + (15), 3, 1⟩
/-- R329: A ferrule used its last spare (RC, reset 0) -/
def RUL_NOSPR : Fld := ⟨4 * 512 + (15), 4, 1⟩
/-- R329: A move took over (RC, reset 0) -/
def RUL_MOVED : Fld := ⟨4 * 512 + (15), 5, 1⟩
/-- R329: RUL_EVTEN: a set bit lets the matching RUL_EVT bit raise the ruler interrupt source (RW, reset 00h) -/
def RUL_EVTEN : Fld := ⟨4 * 512 + (16), 0, 6⟩
/-- R329: RUL_VIDX: function shown (RW, reset 000h) -/
def RUL_FIDX : Fld := ⟨4 * 512 + (17), 0, 12⟩
/-- R329: RUL_VF0: 0 free; 1 loading; 2 placed; 3 in transit (RO, reset 0h, voted) -/
def RUL_FST (i : Nat) : Fld := ⟨(0x3000 + i) * 512 + (18), 0, 2⟩
/-- R329: Tenant (RO, reset 0h) -/
def RUL_TEN (i : Nat) : Fld := ⟨(0x3000 + i) * 512 + (18), 2, 4⟩
/-- R329: Domain (RO, reset 0h) -/
def RUL_DOM (i : Nat) : Fld := ⟨(0x3000 + i) * 512 + (18), 6, 2⟩
/-- R329: Critical (RO, reset 0) -/
def RUL_CRIT (i : Nat) : Fld := ⟨(0x3000 + i) * 512 + (18), 8, 1⟩
/-- R329: Twin (RO, reset 0) -/
def RUL_TWIN (i : Nat) : Fld := ⟨(0x3000 + i) * 512 + (18), 9, 1⟩
/-- R329: Indeterminate policy (RO, reset 0h) -/
def RUL_IPOL (i : Nat) : Fld := ⟨(0x3000 + i) * 512 + (18), 10, 2⟩
/-- R329: History (RO, reset 00h) -/
def RUL_H (i : Nat) : Fld := ⟨(0x3000 + i) * 512 + (18), 12, 6⟩
/-- R329: Bindings (RO, reset 000h) -/
def RUL_NB (i : Nat) : Fld := ⟨(0x3000 + i) * 512 + (18), 18, 9⟩
/-- R329: Output words (RO, reset 00h) -/
def RUL_NOUT (i : Nat) : Fld := ⟨(0x3000 + i) * 512 + (18), 27, 7⟩
/-- R329: Targets (RO, reset 0h) -/
def RUL_NTGT (i : Nat) : Fld := ⟨(0x3000 + i) * 512 + (18), 34, 4⟩
/-- R329: No proof (R324) (RO, reset 0) -/
def RUL_NOPRF_18 (i : Nat) : Fld := ⟨(0x3000 + i) * 512 + (18), 38, 1⟩
/-- R329: Outside its slice (RO, reset 0) -/
def RUL_OUTSL_18 (i : Nat) : Fld := ⟨(0x3000 + i) * 512 + (18), 39, 1⟩
/-- R329: A move is in progress (RO, reset 0) -/
def RUL_MOVING (i : Nat) : Fld := ⟨(0x3000 + i) * 512 + (18), 40, 1⟩
/-- R329: Generation of the index (RO, reset 000h) -/
def RUL_GEN (i : Nat) : Fld := ⟨(0x3000 + i) * 512 + (18), 41, 12⟩
/-- R329: RUL_VF1: ferrule of the placement, or of twin A (RO, reset 00h) -/
def RUL_FERA (i : Nat) : Fld := ⟨(0x3000 + i) * 512 + (19), 0, 6⟩
/-- R329: Nib (RO, reset 00h) -/
def RUL_NIBA (i : Nat) : Fld := ⟨(0x3000 + i) * 512 + (19), 6, 5⟩
/-- R329: Slot (RO, reset 0h) -/
def RUL_SLOTA (i : Nat) : Fld := ⟨(0x3000 + i) * 512 + (19), 11, 2⟩
/-- R329: Twin B ferrule (RO, reset 00h) -/
def RUL_FERB (i : Nat) : Fld := ⟨(0x3000 + i) * 512 + (19), 13, 6⟩
/-- R329: Twin B nib (RO, reset 00h) -/
def RUL_NIBB (i : Nat) : Fld := ⟨(0x3000 + i) * 512 + (19), 19, 5⟩
/-- R329: Twin B slot (RO, reset 0h) -/
def RUL_SLOTB (i : Nat) : Fld := ⟨(0x3000 + i) * 512 + (19), 24, 2⟩
/-- R329: RUL_VF2: state area on FERA (RO, reset 0) -/
def RUL_STA (i : Nat) : Fld := ⟨(0x3000 + i) * 512 + (20), 0, 18⟩
/-- R329: Output window on FERA (RO, reset 0) -/
def RUL_OWA (i : Nat) : Fld := ⟨(0x3000 + i) * 512 + (20), 18, 18⟩
/-- R329: Checkpoint area on FERA (RO, reset 0) -/
def RUL_CKA (i : Nat) : Fld := ⟨(0x3000 + i) * 512 + (20), 36, 18⟩
/-- R329: RUL_VF3: state area on FERB (RO, reset 0) -/
def RUL_STB (i : Nat) : Fld := ⟨(0x3000 + i) * 512 + (21), 0, 18⟩
/-- R329: Output window on FERB (RO, reset 0) -/
def RUL_OWB (i : Nat) : Fld := ⟨(0x3000 + i) * 512 + (21), 18, 18⟩
/-- R329: RUL_VF4 (RO, reset 0000h) -/
def RUL_BUDGET (i : Nat) : Fld := ⟨(0x3000 + i) * 512 + (22), 0, 16⟩
/-- R329: FAST (RO, reset 0000h) -/
def RUL_FAST (i : Nat) : Fld := ⟨(0x3000 + i) * 512 + (22), 16, 16⟩
/-- R329: SW (RO, reset 0000h) -/
def RUL_SW (i : Nat) : Fld := ⟨(0x3000 + i) * 512 + (22), 32, 15⟩
/-- R329: RUL_VF5: first stroke of the present placement (RO, reset 0) -/
def RUL_FSTART (i : Nat) : Fld := ⟨(0x3000 + i) * 512 + (23), 0, 48⟩
/-- R329: RUL_VF6: latest EDL of the function, 10 ns units (RO, reset 0000h) -/
def RUL_EDL (i : Nat) : Fld := ⟨(0x3000 + i) * 512 + (24), 0, 14⟩
/-- R329: Late releases (R322) (RC, reset 0000h) -/
def RUL_NLREL (i : Nat) : Fld := ⟨(0x3000 + i) * 512 + (24), 16, 16⟩
/-- R329: Moves taken over (RC, reset 0000h) -/
def RUL_NMOVE (i : Nat) : Fld := ⟨(0x3000 + i) * 512 + (24), 32, 16⟩
/-- R329: Strokes in transit (RC, reset 0000h) -/
def RUL_NTRANS (i : Nat) : Fld := ⟨(0x3000 + i) * 512 + (24), 48, 16⟩
/-- R329: Output messages discarded at an egress point after stroke N was decided there (R339); saturates at FFh (RC, reset 00h) -/
def RUL_NLOUT (i : Nat) : Fld := ⟨(0x3000 + i) * 512 + (24), 64, 8⟩
/-- R329: RUL_SIDX: subscription shown (RW, reset 000h) -/
def RUL_SIDX : Fld := ⟨4 * 512 + (25), 0, 12⟩
/-- R329: RUL_VS0: DLV, 10 ns units (R223) (RO, reset 00h) -/
def RUL_DLV (i : Nat) : Fld := ⟨(0x1000 + i) * 512 + (126), 0, 7⟩
/-- R329: A closure member of some function (RO, reset 0) -/
def RUL_CLOS (i : Nat) : Fld := ⟨(0x1000 + i) * 512 + (126), 7, 1⟩
/-- R329: Bit 8 + f: ferrule f consumes it (RO, reset 0) -/
def RUL_CONS (i : Nat) : Fld := ⟨(0x1000 + i) * 512 + (126), 8, 64⟩
/-- R329: RUL_VS1: flow number (RO, reset 0000h) -/
def RUL_FLOW (i : Nat) : Fld := ⟨(0x1000 + i) * 512 + (127), 0, 13⟩
/-- R329: Data slots r (RO, reset 00h) -/
def RUL_R (i : Nat) : Fld := ⟨(0x1000 + i) * 512 + (127), 13, 5⟩
/-- R329: Message flits (RO, reset 000h) -/
def RUL_W (i : Nat) : Fld := ⟨(0x1000 + i) * 512 + (127), 18, 9⟩
/-- R329: A flow exists (RO, reset 0) -/
def RUL_FV (i : Nat) : Fld := ⟨(0x1000 + i) * 512 + (127), 27, 1⟩
/-- R329: RUL_FMAP: bit n, nib n in service (RO, reset 3_FFFFh) -/
def RUL_SVC (j : Nat) : Fld := ⟨4 * 512 + (128 + j), 0, 18⟩
/-- R329: Bit n: failed (RO, reset 0) -/
def RUL_FAIL (j : Nat) : Fld := ⟨4 * 512 + (128 + j), 18, 18⟩
/-- R329: Bit n: out (RO, reset 0) -/
def RUL_OUT (j : Nat) : Fld := ⟨4 * 512 + (128 + j), 36, 18⟩
/-- R329: Bit n: spare (RO, reset 3_0000h) -/
def RUL_SPR (j : Nat) : Fld := ⟨4 * 512 + (128 + j), 54, 18⟩
/-- R330: MSH_TIDX: router 4i + RTR (RW, reset 0h) -/
def MSH_RTR (i : Nat) : Fld := ⟨(0x10 + i) * 512 + (8), 0, 2⟩
/-- R330: 0 N; 1 E; 2 S; 3 W; 4 local; writing 5 to 7 is an ignored sequence, reason 07h (RW, reset 0h) -/
def MSH_PORT (i : Nat) : Fld := ⟨(0x10 + i) * 512 + (8), 2, 3⟩
/-- R330: Entries 8 × GRP to 8 × GRP + 7 (RW, reset 00h) -/
def MSH_GRP (i : Nat) : Fld := ⟨(0x10 + i) * 512 + (8), 5, 5⟩
/-- R330: MSH_TDAT0–1: entry k of the group at word 9 + k div 4, bits [18(k mod 4) + 17 : 18(k mod 4)]; in each entry [12:0] FLOW, [13] RSV, [14] SPR, [17:15] 0 (RO, reset 0) -/
def MSH_ENT (i j : Nat) : Fld := ⟨(0x10 + i) * 512 + (9 + j), 0, 72⟩
/-- R330: MSH_PORT: reserved slots, data and spare (RO, reset 000h) -/
def MSH_NRSV (i r p : Nat) : Fld := ⟨(0x10 + i) * 512 + (16 + 8 * r + p), 0, 9⟩
/-- R330: Retransmissions (RC, reset 0000h) -/
def MSH_RETX (i r p : Nat) : Fld := ⟨(0x10 + i) * 512 + (16 + 8 * r + p), 9, 16⟩
/-- R330: Lost reserved flits (RC, reset 0000h) -/
def MSH_LOST (i r p : Nat) : Fld := ⟨(0x10 + i) * 512 + (16 + 8 * r + p), 25, 16⟩
/-- R334: ARG0: 1h GOOSE; 2h SV; 3h cell-link command (RW, reset 0h) -/
def PUB_TYPE_10 (f : Nat) : Fld := ⟨(0x103 + 4 * f) * 512 + (10), 0, 2⟩
/-- R334: Destination (R332) (RW, reset 00h) -/
def PUB_DEST (f : Nat) : Fld := ⟨(0x103 + 4 * f) * 512 + (10), 2, 7⟩
/-- R334: Stroke domain (RW, reset 0h) -/
def PUB_DOM (f : Nat) : Fld := ⟨(0x103 + 4 * f) * 512 + (10), 9, 2⟩
/-- R334: Key pair 00h–03h of the page; 1Fh none (RW, reset 00h) -/
def PUB_KPAIR (f : Nat) : Fld := ⟨(0x103 + 4 * f) * 512 + (10), 11, 5⟩
/-- R334: Frames carry the simulation indication (RW, reset 0) -/
def PUB_SIM (f : Nat) : Fld := ⟨(0x103 + 4 * f) * 512 + (10), 16, 1⟩
/-- R334: GOOSE members, 1 to 64; SV channels, 1 to 32; ignored for TYPE 3h, which reads 0Dh (RW, reset 00h) -/
def PUB_NVAL (f : Nat) : Fld := ⟨(0x103 + 4 * f) * 512 + (10), 17, 7⟩
/-- R334: First output word used (RW, reset 00h) -/
def PUB_OBASE (f : Nat) : Fld := ⟨(0x103 + 4 * f) * 512 + (10), 24, 6⟩
/-- R334: SV rate, coded as in R193 (RW, reset 0h) -/
def PUB_RATE (f : Nat) : Fld := ⟨(0x103 + 4 * f) * 512 + (10), 30, 3⟩
/-- R334: ARG1: destination MAC (R134) (RW, reset 0) -/
def PUB_DMAC (f : Nat) : Fld := ⟨(0x103 + 4 * f) * 512 + (11), 0, 48⟩
/-- R334: Send one IEEE 802.1Q tag (RW, reset 0) -/
def PUB_TAG (f : Nat) : Fld := ⟨(0x103 + 4 * f) * 512 + (11), 48, 1⟩
/-- R334: Its VLAN ID (RW, reset 000h) -/
def PUB_VID (f : Nat) : Fld := ⟨(0x103 + 4 * f) * 512 + (11), 49, 12⟩
/-- R334: Its priority (RW, reset 0h) -/
def PUB_PCP (f : Nat) : Fld := ⟨(0x103 + 4 * f) * 512 + (11), 61, 3⟩
/-- R334: ARG2: APPID (RW, reset 0000h) -/
def PUB_APPID (f : Nat) : Fld := ⟨(0x103 + 4 * f) * 512 + (12), 0, 16⟩
/-- R334: confRev sent (RW, reset 0) -/
def PUB_CONFREV (f : Nat) : Fld := ⟨(0x103 + 4 * f) * 512 + (12), 16, 32⟩
/-- R334: First template word, as an offset from word 192 (RW, reset 00h) -/
def PUB_TPLB (f : Nat) : Fld := ⟨(0x103 + 4 * f) * 512 + (12), 48, 7⟩
/-- R334: Template words (RW, reset 00h) -/
def PUB_TPLN (f : Nat) : Fld := ⟨(0x103 + 4 * f) * 512 + (12), 55, 7⟩
/-- R334: ARG3, GOOSE: first retransmission interval, 0.1 ms units, 1 to 1,000 (RW, reset 000h) -/
def PUB_TMIN (f : Nat) : Fld := ⟨(0x103 + 4 * f) * 512 + (13), 0, 10⟩
/-- R334: GOOSE: longest interval, ms, 1 to 60,000, at least TMIN ÷ 10 (RW, reset 0000h) -/
def PUB_TMAX (f : Nat) : Fld := ⟨(0x103 + 4 * f) * 512 + (13), 10, 16⟩
/-- R334: TYPE 3h: arrival offset, ns (R177); this field overlays TMIN and TMAX (RW, reset 0) -/
def PUB_CLOFS (f : Nat) : Fld := ⟨(0x103 + 4 * f) * 512 + (13), 0, 20⟩
/-- R359: PUB_VIDX: slot shown (RW, reset 00h) -/
def PUB_SLOT (f : Nat) : Fld := ⟨(0x103 + 4 * f) * 512 + (17), 0, 5⟩
/-- R359: PUB_VA0: ARG0 as created; always-on (RO, reset 0, voted) -/
def PUB_A0 (i : Nat) : Fld := ⟨(0x2000 + i) * 512 + (18), 0, 33⟩
/-- R359: Owner tenant; always-on (RO, reset 0h, voted) -/
def PUB_OWNER (i : Nat) : Fld := ⟨(0x2000 + i) * 512 + (18), 33, 4⟩
/-- R359: 00b free; 01b created; 10b targeted by a placed function; always-on (RO, reset 00b, voted) -/
def PUB_PSTATE_18 (i : Nat) : Fld := ⟨(0x2000 + i) * 512 + (18), 37, 2⟩
/-- R359: PUB_VA1: ARG1; always-on (RO, reset 0) -/
def PUB_A1 (i : Nat) : Fld := ⟨(0x2000 + i) * 512 + (19), 0, 64⟩
/-- R359: PUB_VA2: ARG2; always-on (RO, reset 0) -/
def PUB_A2 (i : Nat) : Fld := ⟨(0x2000 + i) * 512 + (20), 0, 62⟩
/-- R359: PUB_VA3: ARG3; always-on (RO, reset 0) -/
def PUB_A3 (i : Nat) : Fld := ⟨(0x2000 + i) * 512 + (21), 0, 26⟩
/-- R359: PUB_VGSE: stNum; always-on (RO, reset 0) -/
def PUB_STNUM (i : Nat) : Fld := ⟨(0x2000 + i) * 512 + (22), 0, 32⟩
/-- R359: sqNum; always-on (RO, reset 0) -/
def PUB_SQNUM (i : Nat) : Fld := ⟨(0x2000 + i) * 512 + (22), 32, 32⟩
/-- R359: PUB_VNXT: device time of the next GOOSE frame; 0 when none (RO, reset 0) -/
def PUB_NEXT (i : Nat) : Fld := ⟨(0x2000 + i) * 512 + (23), 0, 72⟩
/-- R359: PUB_VCNT: frames sent (RC, reset 0) -/
def PUB_FSENT (i : Nat) : Fld := ⟨(0x2000 + i) * 512 + (24), 0, 36⟩
/-- R359: Strokes shown by policy (RC, reset 0000h) -/
def PUB_NIND (i : Nat) : Fld := ⟨(0x2000 + i) * 512 + (24), 36, 16⟩
/-- R359: Frames dropped (R331, R347) (RC, reset 0000h) -/
def PUB_NDROP (i : Nat) : Fld := ⟨(0x2000 + i) * 512 + (24), 52, 16⟩
/-- R359: PUB_EVT0: bit s, slot s entered sign-off (RC, reset 0) -/
def PUB_ESOFF (f : Nat) : Fld := ⟨(0x103 + 4 * f) * 512 + (25), 0, 32⟩
/-- R359: Bit 32 + s: slot s had no usable key (RC, reset 0) -/
def PUB_ENOKEY (f : Nat) : Fld := ⟨(0x103 + 4 * f) * 512 + (25), 32, 32⟩
/-- R359: PUB_EVT1: the trip line entered sign-off (RC, reset 0) -/
def PUB_TLSOFF (f : Nat) : Fld := ⟨(0x103 + 4 * f) * 512 + (26), 0, 1⟩
/-- R359: BLATCH was set (RC, reset 0) -/
def PUB_TLBLK (f : Nat) : Fld := ⟨(0x103 + 4 * f) * 512 + (26), 1, 1⟩
/-- R359: A binary-input event was queued (RC, reset 0) -/
def PUB_BIEV (f : Nat) : Fld := ⟨(0x103 + 4 * f) * 512 + (26), 2, 1⟩
/-- R359: A binary-input event was dropped (RC, reset 0) -/
def PUB_BILOST (f : Nat) : Fld := ⟨(0x103 + 4 * f) * 512 + (26), 3, 1⟩
/-- R359: A scheduled edge was cancelled (RC, reset 0) -/
def PUB_SMISS_26 (f : Nat) : Fld := ⟨(0x103 + 4 * f) * 512 + (26), 4, 1⟩
/-- R359: PUB_EVTEN: bit 0 ESOFF, bit 1 ENOKEY, bits 2–6 PUB_EVT1 bits 0–4; a set bit lets the event raise the ferrule's publication interrupt source (RW, reset 00h) -/
def PUB_EVTEN (f : Nat) : Fld := ⟨(0x103 + 4 * f) * 512 + (27), 0, 7⟩
/-- R359: TL_CFG: trip line enabled; always-on (CS, reset 0, voted) -/
def PUB_TEN (f : Nat) : Fld := ⟨(0x103 + 4 * f) * 512 + (32), 0, 1⟩
/-- R359: 0 active high; 1 active low (CS, reset 0, voted) -/
def PUB_POL (f : Nat) : Fld := ⟨(0x103 + 4 * f) * 512 + (32), 1, 1⟩
/-- R359: 0 function; 1 scheduled (CS, reset 0, voted) -/
def PUB_TMODE (f : Nat) : Fld := ⟨(0x103 + 4 * f) * 512 + (32), 2, 1⟩
/-- R359: Sign-off state (R343) (CS, reset 00b, voted) -/
def PUB_TSOFF (f : Nat) : Fld := ⟨(0x103 + 4 * f) * 512 + (32), 3, 2⟩
/-- R359: Output word driving the line (CS, reset 00h, voted) -/
def PUB_OSEL (f : Nat) : Fld := ⟨(0x103 + 4 * f) * 512 + (32), 5, 6⟩
/-- R359: 1 clears BLATCH at commit; reads 0 (CS, reset 0) -/
def PUB_BCLR (f : Nat) : Fld := ⟨(0x103 + 4 * f) * 512 + (32), 11, 1⟩
/-- R359: TL_STAT: ball level; always-on (RO, reset 0) -/
def PUB_LVL (f : Nat) : Fld := ⟨(0x103 + 4 * f) * 512 + (33), 0, 1⟩
/-- R359: Sign-off in effect: 1 whenever TEN is 1 and the line shows its sign-off state (R355), ARMED 0 included; 0 while TEN is 0 (RO, reset 0) -/
def PUB_SOA_33 (f : Nat) : Fld := ⟨(0x103 + 4 * f) * 512 + (33), 1, 1⟩
/-- R359: Force block latched (R344) (RO, reset 0, voted) -/
def PUB_BLATCH (f : Nat) : Fld := ⟨(0x103 + 4 * f) * 512 + (33), 2, 1⟩
/-- R359: Last stroke shown by policy (RO, reset 0) -/
def PUB_PIND_33 (f : Nat) : Fld := ⟨(0x103 + 4 * f) * 512 + (33), 3, 1⟩
/-- R359: Last stroke that drove the line (RO, reset 0) -/
def PUB_LSTR (f : Nat) : Fld := ⟨(0x103 + 4 * f) * 512 + (33), 8, 48⟩
/-- R359: TL_EDGE: device time of the last edge at the ball; always-on (RO, reset 0) -/
def PUB_EDGE (f : Nat) : Fld := ⟨(0x103 + 4 * f) * 512 + (34), 0, 72⟩
/-- R359: TL_SCHT: scheduled edge time; always-on (RW, reset 0) -/
def PUB_SCHT (f : Nat) : Fld := ⟨(0x103 + 4 * f) * 512 + (35), 0, 72⟩
/-- R359: TL_SCHL: scheduled level, 1 active; always-on (RW, reset 0) -/
def PUB_SLVL (f : Nat) : Fld := ⟨(0x103 + 4 * f) * 512 + (36), 0, 1⟩
/-- R359: Arm (R356) (W1, reset 0) -/
def PUB_SARM (f : Nat) : Fld := ⟨(0x103 + 4 * f) * 512 + (36), 1, 1⟩
/-- R359: Cancel (W1, reset 0) -/
def PUB_SCAN (f : Nat) : Fld := ⟨(0x103 + 4 * f) * 512 + (36), 2, 1⟩
/-- R359: Edge pending (RO, reset 0) -/
def PUB_SPEND (f : Nat) : Fld := ⟨(0x103 + 4 * f) * 512 + (36), 3, 1⟩
/-- R359: Edges cancelled (RC, reset 0000h) -/
def PUB_SMISS_36 (f : Nat) : Fld := ⟨(0x103 + 4 * f) * 512 + (36), 4, 16⟩
/-- R359: TL_CNT: edges at the ball (RC, reset 0) -/
def PUB_NEDGE (f : Nat) : Fld := ⟨(0x103 + 4 * f) * 512 + (37), 0, 36⟩
/-- R359: Entries into sign-off (RC, reset 0) -/
def PUB_NSOFF (f : Nat) : Fld := ⟨(0x103 + 4 * f) * 512 + (37), 36, 36⟩
/-- R359: BI_CFG: input enabled; always-on (RW, reset 0) -/
def PUB_BEN (f : Nat) : Fld := ⟨(0x103 + 4 * f) * 512 + (40), 0, 1⟩
/-- R359: Invert (RW, reset 0) -/
def PUB_BINV (f : Nat) : Fld := ⟨(0x103 + 4 * f) * 512 + (40), 1, 1⟩
/-- R359: Debounce, 10 µs units, 0 to 1,000 (RW, reset 000h) -/
def PUB_DEB (f : Nat) : Fld := ⟨(0x103 + 4 * f) * 512 + (40), 2, 10⟩
/-- R359: BI_STAT: debounced level (RO, reset 0) -/
def PUB_BLVL (f : Nat) : Fld := ⟨(0x103 + 4 * f) * 512 + (41), 0, 1⟩
/-- R359: Present sample (RO, reset 0) -/
def PUB_RAW (f : Nat) : Fld := ⟨(0x103 + 4 * f) * 512 + (41), 1, 1⟩
/-- R359: Events queued, 0 to 16 (RO, reset 00h) -/
def PUB_BDEPTH (f : Nat) : Fld := ⟨(0x103 + 4 * f) * 512 + (41), 2, 5⟩
/-- R359: Events dropped (RC, reset 0000h) -/
def PUB_BLOST (f : Nat) : Fld := ⟨(0x103 + 4 * f) * 512 + (41), 7, 16⟩
/-- R359: BI_EVT0: stamp of the head event (RO, reset 0) -/
def PUB_ETIME (f : Nat) : Fld := ⟨(0x103 + 4 * f) * 512 + (42), 0, 72⟩
/-- R359: BI_EVT1: level of the head event; the read removes it (R357) (RC, reset 0) -/
def PUB_ELVL (f : Nat) : Fld := ⟨(0x103 + 4 * f) * 512 + (43), 0, 1⟩
/-- R359: Head event valid (RC, reset 0) -/
def PUB_EV (f : Nat) : Fld := ⟨(0x103 + 4 * f) * 512 + (43), 1, 1⟩
/-- R359: Queued after a reset (R358) (RC, reset 0) -/
def PUB_ERST (f : Nat) : Fld := ⟨(0x103 + 4 * f) * 512 + (43), 2, 1⟩
/-- R359: PUB_STS, slot s: as in PUB_VA0; always-on (RO, reset 00b, voted) -/
def PUB_PSTATE_48 (f j : Nat) : Fld := ⟨(0x103 + 4 * f) * 512 + (48 + j), 0, 2⟩
/-- R359: TYPE; always-on (RO, reset 0h) -/
def PUB_TYPE_48 (f j : Nat) : Fld := ⟨(0x103 + 4 * f) * 512 + (48 + j), 2, 2⟩
/-- R359: Sign-off in effect: 1 from CREATE whenever the publication shows its sign-off state, ARMED 0 included; 0 while the slot is free (RO, reset 0) -/
def PUB_SOA_48 (f j : Nat) : Fld := ⟨(0x103 + 4 * f) * 512 + (48 + j), 4, 1⟩
/-- R359: Last stroke shown by policy (RO, reset 0) -/
def PUB_PIND_48 (f j : Nat) : Fld := ⟨(0x103 + 4 * f) * 512 + (48 + j), 5, 1⟩
/-- R359: PUB_PSO, slot s: sign-off state (R343); always-on (CS, reset 10b, voted) -/
def PUB_SOFF (f j : Nat) : Fld := ⟨(0x103 + 4 * f) * 512 + (80 + j), 0, 2⟩
/-- R359: Sign-off image, offset from word 320 (CS, reset 00h, voted) -/
def PUB_SBASE (f j : Nat) : Fld := ⟨(0x103 + 4 * f) * 512 + (80 + j), 2, 8⟩
/-- R359: Trip image offset; FFh none (CS, reset FFh, voted) -/
def PUB_TBASE (f j : Nat) : Fld := ⟨(0x103 + 4 * f) * 512 + (80 + j), 10, 8⟩
/-- R359: PUB_TPL: template area (R335), packed form of R6; always-on (RW, reset 0) -/
def PUB_TPL (f j : Nat) : Fld := ⟨(0x103 + 4 * f) * 512 + (192 + j), 0, 72⟩
/-- R359: PUB_IMG: image area; each word laid out as an output word (R209) or as R354; always-on (CS, reset 0) -/
def PUB_IMG (f j : Nat) : Fld := ⟨(0x103 + 4 * f) * 512 + (320 + j), 0, 72⟩
/-- R397: SCTL: 0 holds the scribe in reset; 1 releases it (RW, reset 0, voted) -/
def DSK_RUN (n : Nat) : Fld := ⟨(0x200 + n) * 512 + (8), 0, 1⟩
/-- R397: SRVEC: physical address at which the scribe starts; bits [1:0] 0 (RW, reset 0) -/
def DSK_RVEC (n : Nat) : Fld := ⟨(0x200 + n) * 512 + (9), 0, 44⟩
/-- R397: SSTAT: 0 in reset; 1 running; 2 waiting in WFI; 3 halted by the debugger; 4 locked up (RO, reset 0h) -/
def DSK_SST (n : Nat) : Fld := ⟨(0x200 + n) * 512 + (10), 0, 3⟩
/-- R397: Present level: 0 U; 1 K; 2 H (RO, reset 0h) -/
def DSK_LVL (n : Nat) : Fld := ⟨(0x200 + n) * 512 + (10), 3, 2⟩
/-- R397: SPC: address of the last instruction completed, sampled at the read (RO, reset 0) -/
def DSK_PC (n : Nat) : Fld := ⟨(0x200 + n) * 512 + (11), 0, 48⟩
/-- R397: SLOCK: PC at lockup (RC, reset 0) -/
def DSK_LKPC (n : Nat) : Fld := ⟨(0x200 + n) * 512 + (12), 0, 48⟩
/-- R397: Lockup cause, as Privilege, exceptions and interrupts gives (RC, reset 00h) -/
def DSK_LKCAUSE (n : Nat) : Fld := ⟨(0x200 + n) * 512 + (12), 48, 8⟩
/-- R397: Capture valid (RC, reset 0) -/
def DSK_LKV (n : Nat) : Fld := ⟨(0x200 + n) * 512 + (12), 56, 1⟩
/-- R397: SCNT0: cycles while SST is 1 or 2 (RC, reset 0) -/
def DSK_CYC (n : Nat) : Fld := ⟨(0x200 + n) * 512 + (13), 0, 36⟩
/-- R397: Instructions completed (RC, reset 0) -/
def DSK_INST (n : Nat) : Fld := ⟨(0x200 + n) * 512 + (13), 36, 36⟩
/-- R397: SCNT1: conditional branches completed (RC, reset 0) -/
def DSK_CBR (n : Nat) : Fld := ⟨(0x200 + n) * 512 + (14), 0, 36⟩
/-- R397: Indirect targets mispredicted or absent (RC, reset 0) -/
def DSK_IMISS (n : Nat) : Fld := ⟨(0x200 + n) * 512 + (14), 36, 18⟩
/-- R397: Returns mispredicted or absent (RC, reset 0) -/
def DSK_RMISS (n : Nat) : Fld := ⟨(0x200 + n) * 512 + (14), 54, 18⟩
/-- R397: SCNT2: L1I misses (RC, reset 0) -/
def DSK_L1IM (n : Nat) : Fld := ⟨(0x200 + n) * 512 + (15), 0, 36⟩
/-- R397: L1D misses (RC, reset 0) -/
def DSK_L1DM (n : Nat) : Fld := ⟨(0x200 + n) * 512 + (15), 36, 36⟩
/-- R397: SCNT3: predictor flushes (R382) (RC, reset 0000h) -/
def DSK_PFLUSH (n : Nat) : Fld := ⟨(0x200 + n) * 512 + (16), 0, 16⟩
/-- R397: L1 parity errors (R363) (RC, reset 0000h) -/
def DSK_L1PERR (n : Nat) : Fld := ⟨(0x200 + n) * 512 + (16), 16, 16⟩
/-- R397: SC instructions that failed (RC, reset 0000h) -/
def DSK_SCFAIL (n : Nat) : Fld := ⟨(0x200 + n) * 512 + (16), 32, 16⟩
/-- R397: Wrong-path L1I fills (R383) (RC, reset 00_0000h) -/
def DSK_WPFILL (n : Nat) : Fld := ⟨(0x200 + n) * 512 + (16), 48, 24⟩
/-- R397: DSTAT: present performance level, 0 to 5 (RO, reset 0h) -/
def DSK_PL (k : Nat) : Fld := ⟨(0x200 + 8 * k) * 512 + (32), 0, 3⟩
/-- R397: Bit s: scribe s of the desk is locked up (RO, reset 00h) -/
def DSK_LOCKV (k : Nat) : Fld := ⟨(0x200 + 8 * k) * 512 + (32), 3, 8⟩
/-- R397: L2ERR: corrected L2 errors (RC, reset 0000h) -/
def DSK_L2COR (k : Nat) : Fld := ⟨(0x200 + 8 * k) * 512 + (33), 0, 16⟩
/-- R397: Uncorrectable L2 errors (RC, reset 0000h) -/
def DSK_L2UNC (k : Nat) : Fld := ⟨(0x200 + 8 * k) * 512 + (33), 16, 16⟩
/-- R397: Physical address of the first uncorrectable L2 error since the last read (RC, reset 0) -/
def DSK_L2EADR (k : Nat) : Fld := ⟨(0x200 + 8 * k) * 512 + (34), 0, 44⟩
/-- R397: L2EADR valid (RC, reset 0) -/
def DSK_L2EV (k : Nat) : Fld := ⟨(0x200 + 8 * k) * 512 + (34), 44, 1⟩
/-- R397: L2CNT: L2 misses (RC, reset 0) -/
def DSK_L2MISS (k : Nat) : Fld := ⟨(0x200 + 8 * k) * 512 + (35), 0, 36⟩
/-- R397: L2 writebacks to memory (RC, reset 0) -/
def DSK_L2WB (k : Nat) : Fld := ⟨(0x200 + 8 * k) * 512 + (35), 36, 36⟩
/-- R428: ICU_PEND: bit i, source 160p + i pending (RO, reset 0) -/
def ICU_PEND0 (p : Nat) : Fld := ⟨(0x240 + p) * 512 + (8), 0, 64⟩
/-- R428: bit i, source 160p + 64 + i (RO, reset 0) -/
def ICU_PEND1 (p : Nat) : Fld := ⟨(0x240 + p) * 512 + (9), 0, 64⟩
/-- R428: bit i, source 160p + 128 + i (RO, reset 0) -/
def ICU_PEND2 (p : Nat) : Fld := ⟨(0x240 + p) * 512 + (10), 0, 32⟩
/-- R428: ICU_SRC for source 160p + i: enabled (RW, reset 0) -/
def ICU_EN (p j : Nat) : Fld := ⟨(0x240 + p) * 512 + (32 + j), 0, 1⟩
/-- R428: Level, 1 to 15; 0 delivers nothing (RW, reset 0h) -/
def ICU_LVL (p j : Nat) : Fld := ⟨(0x240 + p) * 512 + (32 + j), 1, 4⟩
/-- R428: R422; a write of 11b is an ignored sequence, reason 07h (RW, reset 00b) -/
def ICU_MODE (p j : Nat) : Fld := ⟨(0x240 + p) * 512 + (32 + j), 5, 2⟩
/-- R428: R422; a write with [4:2] not 000b in MODE 01b or 10b is an ignored sequence, reason 07h (RW, reset 00h) -/
def ICU_TGT (p j : Nat) : Fld := ⟨(0x240 + p) * 512 + (32 + j), 7, 5⟩
/-- R428: 0 K; 1 H (RW, reset 0) -/
def ICU_TLVL (p j : Nat) : Fld := ⟨(0x240 + p) * 512 + (32 + j), 12, 1⟩
/-- R428: Pending (R423) (RO, reset 0) -/
def ICU_PEND (p j : Nat) : Fld := ⟨(0x240 + p) * 512 + (32 + j), 13, 1⟩
/-- R428: Claimed and not completed (RO, reset 0) -/
def ICU_ACT (p j : Nat) : Fld := ⟨(0x240 + p) * 512 + (32 + j), 14, 1⟩
/-- R428: 1: edge source (R421) (RO, reset per source) -/
def ICU_EDGE (p j : Nat) : Fld := ⟨(0x240 + p) * 512 + (32 + j), 15, 1⟩
/-- R488: DMC_CFG: channel enabled (RW, reset 0, voted) -/
def DMC_EN (c : Nat) : Fld := ⟨(0x260 + c) * 512 + (11), 0, 1⟩
/-- R488: Device type (R470); 3h ignored, reason 07h (RW, reset 0h) -/
def DMC_DTYPE (c : Nat) : Fld := ⟨(0x260 + c) * 512 + (11), 1, 2⟩
/-- R488: 0 one rank; 1 two (RW, reset 0) -/
def DMC_RANKS (c : Nat) : Fld := ⟨(0x260 + c) * 512 + (11), 3, 1⟩
/-- R488: 0 4,000 to 4 5,600 MT/s (RW, reset 0h) -/
def DMC_RATE (c : Nat) : Fld := ⟨(0x260 + c) * 512 + (11), 4, 3⟩
/-- R488: 0 one; 1 two; 2 four channels (RW, reset 0h) -/
def DMC_NCH (c : Nat) : Fld := ⟨(0x260 + c) * 512 + (11), 7, 2⟩
/-- R488: Write CRC enabled (RW, reset 0) -/
def DMC_WCRC (c : Nat) : Fld := ⟨(0x260 + c) * 512 + (11), 9, 1⟩
/-- R488: Registered module (RW, reset 0) -/
def DMC_RDIMM (c : Nat) : Fld := ⟨(0x260 + c) * 512 + (11), 10, 1⟩
/-- R488: DMC_STAT: 0 off; 1 training; 2 active; 3 frozen; 4 self-refresh (RO, reset 0h, voted) -/
def DMC_STATE (c : Nat) : Fld := ⟨(0x260 + c) * 512 + (12), 0, 3⟩
/-- R488: Last training step passed (RO, reset 0h) -/
def DMC_STEP (c : Nat) : Fld := ⟨(0x260 + c) * 512 + (12), 3, 3⟩
/-- R488: Refresh rate from MR4 (RO, reset 0h) -/
def DMC_RMUL (c : Nat) : Fld := ⟨(0x260 + c) * 512 + (12), 6, 3⟩
/-- R488: DMC_FRZ0: freeze cause (R482) (RC, reset 0h) -/
def DMC_CAUSE (c : Nat) : Fld := ⟨(0x260 + c) * 512 + (13), 0, 4⟩
/-- R488: 1 read; 2 write; 3 other command (RC, reset 0h) -/
def DMC_CMDT (c : Nat) : Fld := ⟨(0x260 + c) * 512 + (13), 4, 4⟩
/-- R488: Initiator code; 24h patrol (RC, reset 00h) -/
def DMC_SRC (c : Nat) : Fld := ⟨(0x260 + c) * 512 + (13), 8, 8⟩
/-- R488: Subchannel (RC, reset 0) -/
def DMC_SUB (c : Nat) : Fld := ⟨(0x260 + c) * 512 + (13), 16, 1⟩
/-- R488: Rank (RC, reset 0) -/
def DMC_RANK (c : Nat) : Fld := ⟨(0x260 + c) * 512 + (13), 17, 1⟩
/-- R488: Bank group (RC, reset 0h) -/
def DMC_BG (c : Nat) : Fld := ⟨(0x260 + c) * 512 + (13), 18, 3⟩
/-- R488: Bank (RC, reset 0h) -/
def DMC_BANK (c : Nat) : Fld := ⟨(0x260 + c) * 512 + (13), 21, 2⟩
/-- R488: Row (RC, reset 0) -/
def DMC_ROW (c : Nat) : Fld := ⟨(0x260 + c) * 512 + (13), 23, 17⟩
/-- R488: Column burst (RC, reset 00h) -/
def DMC_COL (c : Nat) : Fld := ⟨(0x260 + c) * 512 + (13), 40, 7⟩
/-- R488: Capture valid (RC, reset 0) -/
def DMC_FV (c : Nat) : Fld := ⟨(0x260 + c) * 512 + (13), 47, 1⟩
/-- R488: DMC_FRZ1: physical address of the line (RC, reset 0) -/
def DMC_FPA (c : Nat) : Fld := ⟨(0x260 + c) * 512 + (14), 0, 44⟩
/-- R488: DMC_FRZ2: syndrome, symbol 72 in [7:0] (RC, reset 0) -/
def DMC_SYND (c : Nat) : Fld := ⟨(0x260 + c) * 512 + (15), 0, 64⟩
/-- R488: DMC_FRZ3: device time of the freeze (RC, reset 0) -/
def DMC_FTIME (c : Nat) : Fld := ⟨(0x260 + c) * 512 + (16), 0, 72⟩
/-- R488: DMC_ECC: corrected reads (RC, reset 0000h) -/
def DMC_CECNT (c : Nat) : Fld := ⟨(0x260 + c) * 512 + (17), 0, 16⟩
/-- R488: Poisoned reads (RC, reset 0000h) -/
def DMC_POISRD (c : Nat) : Fld := ⟨(0x260 + c) * 512 + (17), 16, 16⟩
/-- R488: Patrol corrections (RC, reset 0000h) -/
def DMC_SCOR (c : Nat) : Fld := ⟨(0x260 + c) * 512 + (17), 32, 16⟩
/-- R488: Patrol uncorrectable lines (RC, reset 00h) -/
def DMC_SUNC (c : Nat) : Fld := ⟨(0x260 + c) * 512 + (17), 48, 8⟩
/-- R488: Errors during a freeze (RC, reset 00h) -/
def DMC_ECNT (c : Nat) : Fld := ⟨(0x260 + c) * 512 + (17), 56, 8⟩
/-- R488: Write CRC retries (RC, reset 00h) -/
def DMC_WCRCR (c : Nat) : Fld := ⟨(0x260 + c) * 512 + (17), 64, 8⟩
/-- R488: DMC_REF: REFsb issued (RC, reset 0) -/
def DMC_REFSB (c : Nat) : Fld := ⟨(0x260 + c) * 512 + (18), 0, 36⟩
/-- R488: REFab issued (RC, reset 0) -/
def DMC_REFAB (c : Nat) : Fld := ⟨(0x260 + c) * 512 + (18), 36, 36⟩
/-- R488: DMC_WAIT: bit s, scribe Ss waited 10 µs (R484) (RC, reset 0) -/
def DMC_WAITS (c : Nat) : Fld := ⟨(0x260 + c) * 512 + (19), 0, 32⟩
/-- R488: DMC_SNTO: desk not answering (RC, reset 0h) -/
def DMC_SDESK (c : Nat) : Fld := ⟨(0x260 + c) * 512 + (20), 0, 2⟩
/-- R488: Line index (RC, reset 0) -/
def DMC_SLINE (c : Nat) : Fld := ⟨(0x260 + c) * 512 + (20), 2, 42⟩
/-- R488: Capture valid (RC, reset 0) -/
def DMC_SV (c : Nat) : Fld := ⟨(0x260 + c) * 512 + (20), 44, 1⟩
/-- R488: Further reports (RC, reset 0000h) -/
def DMC_STCNT (c : Nat) : Fld := ⟨(0x260 + c) * 512 + (20), 45, 16⟩
/-- R488: DMC_EVT: bit 0 freeze; 1 snoop timeout; 2 patrol uncorrectable; 3 training failed (RC, reset 0h) -/
def DMC_EVT (c : Nat) : Fld := ⟨(0x260 + c) * 512 + (21), 0, 4⟩
/-- R488: A set bit lets the EVT bit raise the source (RW, reset 0h) -/
def DMC_EVTEN (c : Nat) : Fld := ⟨(0x260 + c) * 512 + (21), 4, 4⟩
/-- R488: DMC_SCRB: patrol period, hours, 1 to 255; 0 disables (RW, reset 18h) -/
def DMC_SCRUB (c : Nat) : Fld := ⟨(0x260 + c) * 512 + (22), 0, 8⟩
/-- R488: DMC_TRN: failing data line of the last failed step (RO, reset 00h) -/
def DMC_FLANE (c : Nat) : Fld := ⟨(0x260 + c) * 512 + (23), 0, 6⟩
/-- R488: Its subchannel (RO, reset 0) -/
def DMC_FSUB (c : Nat) : Fld := ⟨(0x260 + c) * 512 + (23), 6, 1⟩
/-- R488: Its rank (RO, reset 0) -/
def DMC_FRNK (c : Nat) : Fld := ⟨(0x260 + c) * 512 + (23), 7, 1⟩
/-- R489: PHY_IDX: data line 0 to 39 (RW, reset 00h) -/
def PHY_LANE (c : Nat) : Fld := ⟨(0x264 + c) * 512 + (8), 0, 6⟩
/-- R489: Subchannel (RW, reset 0) -/
def PHY_ISUB (c : Nat) : Fld := ⟨(0x264 + c) * 512 + (8), 6, 1⟩
/-- R489: Rank (RW, reset 0) -/
def PHY_IRNK (c : Nat) : Fld := ⟨(0x264 + c) * 512 + (8), 7, 1⟩
/-- R489: PHY_LANE: read deskew, 1/64 UI (RO, reset 000h) -/
def PHY_RDLY (x : Nat) : Fld := ⟨(0x4400 + x) * 512 + (9), 0, 10⟩
/-- R489: Write deskew, 1/64 UI (RO, reset 000h) -/
def PHY_WDLY (x : Nat) : Fld := ⟨(0x4400 + x) * 512 + (9), 10, 10⟩
/-- R489: Read Vref code (RO, reset 00h) -/
def PHY_RVREF (x : Nat) : Fld := ⟨(0x4400 + x) * 512 + (9), 20, 7⟩
/-- R489: Device write Vref code (RO, reset 00h) -/
def PHY_WVREF (x : Nat) : Fld := ⟨(0x4400 + x) * 512 + (9), 27, 7⟩
/-- R489: PHY_TRK: largest tracking correction since the last read, 1/64 UI (RC, reset 0000h) -/
def PHY_DRIFT (c : Nat) : Fld := ⟨(0x264 + c) * 512 + (10), 0, 16⟩
/-- R492: Transform (R497); 7h to Fh invalid (RW, reset 0h) -/
def DMA_XF : Fld := ⟨0x270 * 512 + (10), 0, 4⟩
/-- R492: For XF 1h and 2h: 0 one octet per byte; 1 packed (R6) (RW, reset 0) -/
def DMA_FORM : Fld := ⟨0x270 * 512 + (10), 4, 1⟩
/-- R492: Pacing: 00h none; 01h software; 40h + f ledger of FER f; other values invalid (RW, reset 00h) -/
def DMA_REQ : Fld := ⟨0x270 * 512 + (10), 5, 8⟩
/-- R492: Advance LRD (R504); invalid unless REQ is 40h to 7Fh (RW, reset 0) -/
def DMA_ADV : Fld := ⟨0x270 * 512 + (10), 13, 1⟩
/-- R492: Burst, in lines of source data, 1 to 128; 0 invalid (RW, reset 00h) -/
def DMA_BURST : Fld := ⟨0x270 * 512 + (10), 14, 8⟩
/-- R492: Descriptor limit per list; 0 means 65,536 (RW, reset 0) -/
def DMA_LIMIT : Fld := ⟨0x270 * 512 + (10), 22, 17⟩
/-- R492: 1: no descriptor limit (RW, reset 0) -/
def DMA_NOLIM : Fld := ⟨0x270 * 512 + (10), 39, 1⟩
/-- R492: Owner tenant; a tenant that is not active is invalid (R508) (RW, reset 0h) -/
def DMA_OWNER : Fld := ⟨0x270 * 512 + (10), 40, 4⟩
/-- R492: Raise the channel's source at DONE and STOPPED (RW, reset 0) -/
def DMA_IEN : Fld := ⟨0x270 * 512 + (10), 44, 1⟩
/-- R506: DMA_VIDX: channel shown (RW, reset 00h) -/
def DMA_CH : Fld := ⟨0x270 * 512 + (15), 0, 5⟩
/-- R506: DMA_VCFG: ARG0 as created (RO, reset 0, voted) -/
def DMA_VCFG (n : Nat) : Fld := ⟨(0x4900 + n) * 512 + (16), 0, 45⟩
/-- R506: DMA_VWIN0–3: windows as created (RO, reset 0) -/
def DMA_VWIN (n j : Nat) : Fld := ⟨(0x4900 + n) * 512 + (17 + j), 0, 72⟩
/-- R506: DMA_SWREQ: bit n, software request of channel n (RW, reset 0) -/
def DMA_SWREQ : Fld := ⟨0x270 * 512 + (21), 0, 32⟩
/-- R506: DMA_CEVT: bit n, completion event (RC, reset 0) -/
def DMA_CEVT : Fld := ⟨0x270 * 512 + (22), 0, 32⟩
/-- R506: CH_STAT: 0 free; 1 idle; 2 running; 3 stopping; 4 done; 5 error; 6 stopped (RO, reset 0h) -/
def DMB_CST (j : Nat) : Fld := ⟨0x271 * 512 + (8 + j), 0, 3⟩
/-- R506: Waiting for its request (RO, reset 0) -/
def DMB_WAIT (j : Nat) : Fld := ⟨0x271 * 512 + (8 + j), 3, 1⟩
/-- R506: Error code (R501); cleared by START (RO, reset 00h) -/
def DMB_ERR (j : Nat) : Fld := ⟨0x271 * 512 + (8 + j), 4, 8⟩
/-- R506: Bus-error code for ERR 05h (RO, reset 00h) -/
def DMB_BCODE (j : Nat) : Fld := ⟨0x271 * 512 + (8 + j), 12, 8⟩
/-- R506: Owner tenant (RO, reset 0h) -/
def DMB_OWNER (j : Nat) : Fld := ⟨0x271 * 512 + (8 + j), 20, 4⟩
/-- R506: CH_EDESC: descriptor in hand at the error (RO, reset 0) -/
def DMB_EDESC (j : Nat) : Fld := ⟨0x271 * 512 + (40 + j), 0, 44⟩
/-- R506: 0 source list; 1 destination list (RO, reset 0) -/
def DMB_DSIDE (j : Nat) : Fld := ⟨0x271 * 512 + (40 + j), 44, 1⟩
/-- R506: CH_EDATA: data address at the error (RO, reset 0) -/
def DMB_EDATA (j : Nat) : Fld := ⟨0x271 * 512 + (72 + j), 0, 44⟩
/-- R506: CH_CNT: source bytes read, modulo 2^36 (RO, reset 0) -/
def DMB_SBYTES (j : Nat) : Fld := ⟨0x271 * 512 + (104 + j), 0, 36⟩
/-- R506: Destination bytes written, modulo 2^36 (RO, reset 0) -/
def DMB_DBYTES (j : Nat) : Fld := ⟨0x271 * 512 + (104 + j), 36, 36⟩
/-- R506: CH_AUX: CRC (R498) (RO, reset 0) -/
def DMB_CRC (j : Nat) : Fld := ⟨0x271 * 512 + (136 + j), 0, 32⟩
/-- R506: Withdrawn requests; saturates (RC, reset 0000h) -/
def DMB_WDRAW (j : Nat) : Fld := ⟨0x271 * 512 + (136 + j), 32, 16⟩
/-- R506: Descriptors fetched, both lists; saturates (RO, reset 0) -/
def DMB_NENT (j : Nat) : Fld := ⟨0x271 * 512 + (136 + j), 48, 20⟩
/-- R516: UCLS_A of entry e: destination MAC (R134) (RW, reset 0) -/
def UCL_DMAC (j : Nat) : Fld := ⟨0x28E * 512 + (8 + 2 * j), 0, 48⟩
/-- R516: Match DMAC (RW, reset 0) -/
def UCL_MDMAC (j : Nat) : Fld := ⟨0x28E * 512 + (8 + 2 * j), 48, 1⟩
/-- R516: VLAN ID for VM 10b (RW, reset 000h) -/
def UCL_VID (j : Nat) : Fld := ⟨0x28E * 512 + (8 + 2 * j), 49, 12⟩
/-- R516: As R193; a write of 11b is ignored, reason 07h (RW, reset 00b) -/
def UCL_VM (j : Nat) : Fld := ⟨0x28E * 512 + (8 + 2 * j), 61, 2⟩
/-- R516: UCLS_B: EtherType (RW, reset 0000h) -/
def UCL_ETYPE (j : Nat) : Fld := ⟨0x28E * 512 + (9 + 2 * j), 0, 16⟩
/-- R516: Match ETYPE (RW, reset 0) -/
def UCL_MET (j : Nat) : Fld := ⟨0x28E * 512 + (9 + 2 * j), 16, 1⟩
/-- R516: Bit p: port p (RW, reset 000h) -/
def UCL_PORTS (j : Nat) : Fld := ⟨0x28E * 512 + (9 + 2 * j), 17, 10⟩
/-- R516: Target queue pair (RW, reset 00h) -/
def UCL_QP (j : Nat) : Fld := ⟨0x28E * 512 + (9 + 2 * j), 27, 6⟩
/-- R516: Entry enabled (RW, reset 0) -/
def UCL_EN (j : Nat) : Fld := ⟨0x28E * 512 + (9 + 2 * j), 33, 1⟩
/-- R516: UDEF of port p: default queue pair (RW, reset 00h) -/
def UDF_DEFQ (j : Nat) : Fld := ⟨0x28F * 512 + (8 + j), 0, 6⟩
/-- R516: Default enabled (RW, reset 0) -/
def UDF_DEFEN (j : Nat) : Fld := ⟨0x28F * 512 + (8 + j), 6, 1⟩
/-- R516: Frames dropped without a queue pair; saturates (RC, reset 0000h) -/
def UDF_NOQ (j : Nat) : Fld := ⟨0x28F * 512 + (8 + j), 7, 16⟩
/-- R529: TEN_VIDX: tenant shown in TEN_FRZ (RW, reset 0h) -/
def TEN_TIDX : Fld := ⟨0x2D0 * 512 + (14), 0, 4⟩
/-- R529: Queue pair shown in QP_V0–QP_V3 (RW, reset 00h) -/
def TEN_QIDX : Fld := ⟨0x2D0 * 512 + (14), 4, 6⟩
/-- R529: TEN_EVT: a spoof drop (RC, reset 0) -/
def TEN_SPF : Fld := ⟨0x2D0 * 512 + (15), 0, 1⟩
/-- R529: A freeze completed (RC, reset 0) -/
def TEN_FRZ_15 : Fld := ⟨0x2D0 * 512 + (15), 1, 1⟩
/-- R529: A TRESET completed (RC, reset 0) -/
def TEN_RST : Fld := ⟨0x2D0 * 512 + (15), 2, 1⟩
/-- R529: A window failure (RC, reset 0) -/
def TEN_WIN_15 : Fld := ⟨0x2D0 * 512 + (15), 3, 1⟩
/-- R529: TEN_T: R508 (RO, reset 1h for t = 0, else 0h, voted) -/
def TEN_TSTATE (j : Nat) : Fld := ⟨0x2D0 * 512 + (16 + j), 0, 3⟩
/-- R529: Functions owned (RO, reset 0000h) -/
def TEN_NFN (j : Nat) : Fld := ⟨0x2D0 * 512 + (16 + j), 3, 13⟩
/-- R529: Spoof drops; saturates (RC, reset 0000h) -/
def TEN_SPOOF (j : Nat) : Fld := ⟨0x2D0 * 512 + (16 + j), 16, 16⟩
/-- R529: VF window failures; saturates (RC, reset 0000h) -/
def TEN_VFERR (j : Nat) : Fld := ⟨0x2D0 * 512 + (16 + j), 32, 16⟩
/-- R529: TEN_SLICE: bit f admits ferrule f (CS, reset 0, voted) -/
def TEN_SLICE (j : Nat) : Fld := ⟨0x2D0 * 512 + (32 + j), 0, 64⟩
/-- R529: TEN_MKEY0–2: octets 0 to 26, packed form of R6; read 0 except through R83 (CS, reset 0) -/
def TEN_MKEY_48 (j : Nat) : Fld := ⟨0x2D0 * 512 + (48 + j), 0, 72⟩
/-- R529: TEN_MKEY3: octets 27 to 31 (CS, reset 0) -/
def TEN_MKEY_51 : Fld := ⟨0x2D0 * 512 + (51), 0, 40⟩
/-- R529: TEN_VFT: VF v's tenant at [4v+3:4v] (RW, reset 0) -/
def TEN_VFT : Fld := ⟨0x2D0 * 512 + (52), 0, 64⟩
/-- R529: TEN_VFEN: bit v enables VF v (RW, reset 0000h) -/
def TEN_VFEN : Fld := ⟨0x2D0 * 512 + (53), 0, 16⟩
/-- R529: TEN_SPF0: allowed source MAC (RW, reset 0) -/
def TEN_SMAC (j : Nat) : Fld := ⟨0x2D0 * 512 + (64 + 4 * j), 0, 48⟩
/-- R529: Check enabled (R518) (RW, reset 0) -/
def TEN_SPEN (j : Nat) : Fld := ⟨0x2D0 * 512 + (64 + 4 * j), 48, 1⟩
/-- R529: Untagged allowed (RW, reset 0) -/
def TEN_UNT (j : Nat) : Fld := ⟨0x2D0 * 512 + (64 + 4 * j), 49, 1⟩
/-- R529: TEN_SPF1: VIDk at [13k+11:13k], valid at [13k+12], k = 0 to 3 (RW, reset 0) -/
def TEN_VIDS (j : Nat) : Fld := ⟨0x2D0 * 512 + (65 + 4 * j), 0, 52⟩
/-- R529: TEN_SPF2: APPLO0 [15:0], APPHI0 [31:16], APPLO1 [47:32], APPHI1 [63:48] (RW, reset 0) -/
def TEN_APP (j : Nat) : Fld := ⟨0x2D0 * 512 + (66 + 4 * j), 0, 64⟩
/-- R529: TEN_SPF3: ID prefix octets 0 to 7, packed form (RW, reset 0) -/
def TEN_IDPFX (j : Nat) : Fld := ⟨0x2D0 * 512 + (67 + 4 * j), 0, 64⟩
/-- R529: Prefix length, 0 to 8 (RW, reset 0h) -/
def TEN_IDPL (j : Nat) : Fld := ⟨0x2D0 * 512 + (67 + 4 * j), 64, 4⟩
/-- R529: TEN_WINt0, TEN_WINt1: as R493 (RW, reset 0) -/
def TEN_WIN_128 (j : Nat) : Fld := ⟨0x2D0 * 512 + (128 + j), 0, 64⟩
/-- R529: QP_V0: R511 (RO, reset 0h) -/
def TEN_QSTATE (q : Nat) : Fld := ⟨(0x4200 + q) * 512 + (192), 0, 2⟩
/-- R529: Owner (RO, reset 0h) -/
def TEN_OWNER (q : Nat) : Fld := ⟨(0x4200 + q) * 512 + (192), 2, 4⟩
/-- R529: Port (RO, reset 0h) -/
def TEN_PORT (q : Nat) : Fld := ⟨(0x4200 + q) * 512 + (192), 6, 4⟩
/-- R529: RXLOG (RO, reset 0h) -/
def TEN_RXLOG (q : Nat) : Fld := ⟨(0x4200 + q) * 512 + (192), 10, 4⟩
/-- R529: TXLOG (RO, reset 0h) -/
def TEN_TXLOG (q : Nat) : Fld := ⟨(0x4200 + q) * 512 + (192), 14, 4⟩
/-- R529: BUFW (RO, reset 00h) -/
def TEN_BUFW (q : Nat) : Fld := ⟨(0x4200 + q) * 512 + (192), 18, 8⟩
/-- R529: QP_V1, QP_V2: ring bases (RO, reset 0) -/
def TEN_RINGBASE (q j : Nat) : Fld := ⟨(0x4200 + q) * 512 + (193 + j), 0, 44⟩
/-- R529: QP_V3: frames received (RC, reset 0) -/
def TEN_RXFR (q : Nat) : Fld := ⟨(0x4200 + q) * 512 + (195), 0, 36⟩
/-- R529: Frames sent (RC, reset 0) -/
def TEN_TXFR (q : Nat) : Fld := ⟨(0x4200 + q) * 512 + (195), 36, 36⟩
/-- R529: TEN_FRZd: Nd of the viewed tenant (R522) (RO, reset 0) -/
def TEN_FRZ_196 (t j : Nat) : Fld := ⟨(0x4100 + t) * 512 + (196 + j), 0, 48⟩
/-- R529: Domain used (RO, reset 0) -/
def TEN_FUSED (t j : Nat) : Fld := ⟨(0x4100 + t) * 512 + (196 + j), 48, 1⟩
/-- R529: QP_RXDB, QP_TXDB: R513 (RW, reset 0000h) -/
def TEN_TAIL (j : Nat) : Fld := ⟨0x2D0 * 512 + (384 + j), 0, 16⟩
/-- R529: R513 (RO, reset 0000h) -/
def TEN_HEAD (j : Nat) : Fld := ⟨0x2D0 * 512 + (384 + j), 16, 16⟩
/-- R529: R513 (RC, reset 0) -/
def TEN_PEND (j : Nat) : Fld := ⟨0x2D0 * 512 + (384 + j), 32, 1⟩
/-- R529: Receive: NOBUF; transmit: spoof drops (RC, reset 0000h) -/
def TEN_NOBUF (j : Nat) : Fld := ⟨0x2D0 * 512 + (384 + j), 33, 16⟩
/-- R553: PWR_DEV: 0 ACTIVE; 1 QUIESCENT; 2 SHUTDOWN (RO, reset 0h, voted) -/
def PWR_DEVST : Fld := ⟨0x2A0 * 512 + (11), 0, 2⟩
/-- R553: A request is in progress (RO, reset 0) -/
def PWR_HSB : Fld := ⟨0x2A0 * 512 + (11), 2, 1⟩
/-- R553: Sleep emulation active (RO, reset 0) -/
def PWR_EMUL : Fld := ⟨0x2A0 * 512 + (11), 3, 1⟩
/-- R553: PWR_DSKd: commanded level (RO, reset 0h) -/
def PWR_PL (j : Nat) : Fld := ⟨0x2A0 * 512 + (12 + j), 0, 3⟩
/-- R553: 0 ACTIVE; 1 NAP; 2 DOZE; 3 OFF (RO, reset 3h, voted) -/
def PWR_DST (j : Nat) : Fld := ⟨0x2A0 * 512 + (12 + j), 3, 2⟩
/-- R553: Declared dead (R552) (RO, reset 0) -/
def PWR_DEAD (j : Nat) : Fld := ⟨0x2A0 * 512 + (12 + j), 5, 1⟩
/-- R553: Reclaim running (RO, reset 0) -/
def PWR_RECL (j : Nat) : Fld := ⟨0x2A0 * 512 + (12 + j), 6, 1⟩
/-- R553: NAP exits; saturates (RC, reset 0000h) -/
def PWR_NAPX (j : Nat) : Fld := ⟨0x2A0 * 512 + (12 + j), 7, 16⟩
/-- R553: PWR_FST0–1: ferrule f at [2(f mod 32)+1 : 2(f mod 32)] of word 16 + f div 32; 0 RUN, 1 PARK, 2 OFF, 3 changing (RO, reset AAAA_AAAA_AAAA_AAAAh, voted) -/
def PWR_FST (j : Nat) : Fld := ⟨0x2A0 * 512 + (16 + j), 0, 64⟩
/-- R553: PWR_DOM: DRAM [1:0], uplinks [3:2], PCIe [5:4]; 0 OFF, 1 ON, 2 changing (RO, reset 00h, voted) -/
def PWR_DOM : Fld := ⟨0x2A0 * 512 + (18), 0, 6⟩
/-- R553: PWR_REF0: refusals of state i at [8i+7:8i]; each saturates (RC, reset 0) -/
def PWR_NREF : Fld := ⟨0x2A0 * 512 + (19), 0, 64⟩
/-- R553: PWR_REF1: aborts, laid out as NREF (RC, reset 0) -/
def PWR_NABT : Fld := ⟨0x2A0 * 512 + (20), 0, 64⟩
/-- R553: PWR_LAST: last refusing or aborting block of state i at [8i+7:8i] (R548) (RO, reset 0) -/
def PWR_LAST : Fld := ⟨0x2A0 * 512 + (21), 0, 64⟩
/-- R553: PWR_TEMP: hottest sensor, signed, 0.125 °C (RO, reset 000h) -/
def PWR_TMAX : Fld := ⟨0x2A0 * 512 + (22), 0, 12⟩
/-- R553: Its number (RO, reset 00h) -/
def PWR_TSEN : Fld := ⟨0x2A0 * 512 + (22), 12, 7⟩
/-- R553: Alarm threshold, signed, 0.125 °C (RW, reset 320h) -/
def PWR_TALRM : Fld := ⟨0x2A0 * 512 + (22), 19, 12⟩
/-- R553: PWR_RIDX: rail shown; 0–4 as R545, 5 AON, 6 DRAM logic, 7 I/O (RW, reset 0h) -/
def PWR_RIDX : Fld := ⟨0x2A0 * 512 + (23), 0, 3⟩
/-- R553: PWR_RAIL: present voltage, mV (RO, reset 000h) -/
def PWR_VMEAS (r : Nat) : Fld := ⟨(0x4800 + r) * 512 + (24), 0, 12⟩
/-- R553: Lowest since the last read, mV (RC, reset FFFh) -/
def PWR_VMIN (r : Nat) : Fld := ⟨(0x4800 + r) * 512 + (24), 12, 12⟩
/-- R553: Target, mV (RO, reset 000h) -/
def PWR_VTGT (r : Nat) : Fld := ⟨(0x4800 + r) * 512 + (24), 24, 12⟩
/-- R553: Low threshold, mV; 0 disables (RW, reset 000h) -/
def PWR_VLOWTH (r : Nat) : Fld := ⟨(0x4800 + r) * 512 + (24), 36, 12⟩
/-- R553: PWR_AIDX: monitor, 0–3 desks, 4–7 fast-plane quadrants (RW, reset 0h) -/
def PWR_AIDX : Fld := ⟨0x2A0 * 512 + (25), 0, 3⟩
/-- R553: PWR_AGE: speed degradation, 0.01 % (RO, reset 0000h) -/
def PWR_DEGR (a : Nat) : Fld := ⟨(0x4810 + a) * 512 + (26), 0, 16⟩
/-- R553: Powered hours (RO, reset 0) -/
def PWR_HOURS (a : Nat) : Fld := ⟨(0x4810 + a) * 512 + (26), 16, 32⟩
/-- R553: PWR_EVT: 0 request done; 1 refused; 2 aborted; 3 TALRM; 4 HWTRIP; 5 VLOW; 6 AVSERR; 7 NAP exit (RC, reset 00h) -/
def PWR_EVT : Fld := ⟨0x2A0 * 512 + (27), 0, 8⟩
/-- R553: PWR_EVTEN (RW, reset 00h) -/
def PWR_EVTEN : Fld := ⟨0x2A0 * 512 + (28), 0, 8⟩
/-- R554: MB_IN0–15: message to the controller (R541) (RW, reset 0) -/
def MCB_MBIN (j : Nat) : Fld := ⟨0x2F0 * 512 + (8 + j), 0, 72⟩
/-- R554: MB_OUT0–15: message from the controller (RW, reset 0) -/
def MCB_MBOUT (j : Nat) : Fld := ⟨0x2F0 * 512 + (24 + j), 0, 72⟩
/-- R554: MB_CTL (R541) (W1, reset 0) -/
def MCB_IPOST : Fld := ⟨0x2F0 * 512 + (40), 0, 1⟩
/-- R554: IFULL (RO, reset 0) -/
def MCB_IFULL : Fld := ⟨0x2F0 * 512 + (40), 1, 1⟩
/-- R554: IDONE (W1, reset 0) -/
def MCB_IDONE : Fld := ⟨0x2F0 * 512 + (40), 2, 1⟩
/-- R554: OPOST (W1, reset 0) -/
def MCB_OPOST : Fld := ⟨0x2F0 * 512 + (40), 3, 1⟩
/-- R554: OFULL (RO, reset 0) -/
def MCB_OFULL : Fld := ⟨0x2F0 * 512 + (40), 4, 1⟩
/-- R554: ODONE (W1, reset 0) -/
def MCB_ODONE : Fld := ⟨0x2F0 * 512 + (40), 5, 1⟩
/-- R554: WDGn: period, ms; 0 disables (RW, reset 0000h, voted) -/
def MCB_PER (j : Nat) : Fld := ⟨0x2F0 * 512 + (48 + j), 0, 16⟩
/-- R554: Remaining, ms (RO, reset 0000h) -/
def MCB_REM (j : Nat) : Fld := ⟨0x2F0 * 512 + (48 + j), 16, 16⟩
/-- R554: Reload (R537) (W1, reset 0) -/
def MCB_KICK (j : Nat) : Fld := ⟨0x2F0 * 512 + (48 + j), 32, 1⟩
/-- R554: Reset the scribe on expiry (RW, reset 0, voted) -/
def MCB_RST (j : Nat) : Fld := ⟨0x2F0 * 512 + (48 + j), 33, 1⟩
/-- R554: Expired (RC, reset 0) -/
def MCB_EXP (j : Nat) : Fld := ⟨0x2F0 * 512 + (48 + j), 34, 1⟩
/-- R554: Paused by a debug halt (R538) (RO, reset 0) -/
def MCB_PAUSE (j : Nat) : Fld := ⟨0x2F0 * 512 + (48 + j), 35, 1⟩
/-- R554: Expiries; saturates (RC, reset 0000h) -/
def MCB_NEXP (j : Nat) : Fld := ⟨0x2F0 * 512 + (48 + j), 36, 16⟩
/-- R554: MC_HLTH: health ticks (R540) (RO, reset 0) -/
def MCB_HCNT : Fld := ⟨0x2F0 * 512 + (80), 0, 36⟩
/-- R554: Health outcome; written by the controller only (RW, reset 0) -/
def MCB_HWORD : Fld := ⟨0x2F0 * 512 + (80), 36, 36⟩
/-- R554: MC_WDT: controller watchdog period, ms (RW, reset 03E8h, voted) -/
def MCB_MPER : Fld := ⟨0x2F0 * 512 + (81), 0, 16⟩
/-- R554: Remaining, ms (RO, reset 03E8h) -/
def MCB_MREM : Fld := ⟨0x2F0 * 512 + (81), 16, 16⟩
/-- R554: Reload; controller only (W1, reset 0) -/
def MCB_MKICK : Fld := ⟨0x2F0 * 512 + (81), 32, 1⟩
/-- R554: Restart; debug bus master only (W1, reset 0) -/
def MCB_MRST : Fld := ⟨0x2F0 * 512 + (81), 33, 1⟩
/-- R554: Restarts; saturates (RC, reset 0000h) -/
def MCB_MRSTC : Fld := ⟨0x2F0 * 512 + (81), 34, 16⟩
/-- R554: Last restart: 1 watchdog; 2 lockup; 3 debug (RC, reset 0h) -/
def MCB_MCAUSE : Fld := ⟨0x2F0 * 512 + (81), 50, 4⟩
/-- R554: MC_BOOT: 0 image at flash offset 0; 1 image at 100_0000h; 3 boot failure (RO, reset 0h) -/
def MCB_BIMG : Fld := ⟨0x2F0 * 512 + (82), 0, 2⟩
/-- R554: Security version of the accepted image (RO, reset 0) -/
def MCB_BSVN : Fld := ⟨0x2F0 * 512 + (82), 2, 32⟩
/-- R568: BST_BOOT: the full test was skipped (R560) (RO, reset 0) -/
def BST_SKIP : Fld := ⟨0x2B0 * 512 + (11), 0, 1⟩
/-- R568: The record was valid (RO, reset 0) -/
def BST_RVALID : Fld := ⟨0x2B0 * 512 + (11), 1, 1⟩
/-- R568: STATE was A5h (RO, reset 0) -/
def BST_RORD : Fld := ⟨0x2B0 * 512 + (11), 2, 1⟩
/-- R568: SHV was 1 and SHELF was below 2,592,000 (RO, reset 0) -/
def BST_AGEOK : Fld := ⟨0x2B0 * 512 + (11), 3, 1⟩
/-- R568: Failing elements found at boot (RO, reset 000h) -/
def BST_NBFAIL : Fld := ⟨0x2B0 * 512 + (11), 4, 10⟩
/-- R568: BST_SHELF: seconds since the record phase (R559) (RO, reset 0) -/
def BST_SHELF : Fld := ⟨0x2B0 * 512 + (12), 0, 32⟩
/-- R568: Shelf timer valid (RO, reset 0) -/
def BST_SHV : Fld := ⟨0x2B0 * 512 + (12), 32, 1⟩
/-- R568: BST_RCFG: rolling test enabled (RW, reset 0, voted) -/
def BST_REN : Fld := ⟨0x2B0 * 512 + (13), 0, 1⟩
/-- R568: Interval, ms, 10 to 60,000; other values ignored, reason 07h (RW, reset 0064h) -/
def BST_ROLLP : Fld := ⟨0x2B0 * 512 + (13), 1, 16⟩
/-- R568: BST_RSTAT: 0 none; 1 nib; 2 segment (RO, reset 0h) -/
def BST_RKIND : Fld := ⟨0x2B0 * 512 + (14), 0, 2⟩
/-- R568: Ferrule (RO, reset 00h) -/
def BST_RFER : Fld := ⟨0x2B0 * 512 + (14), 2, 6⟩
/-- R568: Nib or segment (RO, reset 00h) -/
def BST_RIDX : Fld := ⟨0x2B0 * 512 + (14), 8, 6⟩
/-- R568: 0 idle; 1 save; 2 test; 3 restore; 4 repair (RO, reset 0h) -/
def BST_RPH : Fld := ⟨0x2B0 * 512 + (14), 14, 3⟩
/-- R568: BST_RCNT: full rounds (RC, reset 0000h) -/
def BST_NPASS : Fld := ⟨0x2B0 * 512 + (15), 0, 16⟩
/-- R568: Elements tested (RC, reset 0) -/
def BST_NTEST : Fld := ⟨0x2B0 * 512 + (15), 16, 36⟩
/-- R568: Elements failed (RC, reset 0000h) -/
def BST_NRFAIL : Fld := ⟨0x2B0 * 512 + (15), 52, 16⟩
/-- R568: BST_REP: soft repairs in effect (RO, reset 000h) -/
def BST_NSOFT : Fld := ⟨0x2B0 * 512 + (16), 0, 12⟩
/-- R568: Fuse entries used (RO, reset fused) -/
def BST_NFUSE : Fld := ⟨0x2B0 * 512 + (16), 12, 10⟩
/-- R568: Fuse entries left (RO, reset fused) -/
def BST_FLEFT : Fld := ⟨0x2B0 * 512 + (16), 22, 10⟩
/-- R568: BST_LASTF: kind of the last failure (R557) (RC, reset 0h) -/
def BST_LKIND : Fld := ⟨0x2B0 * 512 + (17), 0, 4⟩
/-- R568: Ferrule or desk (RC, reset 00h) -/
def BST_LFER : Fld := ⟨0x2B0 * 512 + (17), 4, 6⟩
/-- R568: Bank, nib or scribe (RC, reset 00h) -/
def BST_LBANK : Fld := ⟨0x2B0 * 512 + (17), 10, 5⟩
/-- R568: Row or column index (RC, reset 0000h) -/
def BST_LROW : Fld := ⟨0x2B0 * 512 + (17), 15, 16⟩
/-- R568: Repaired (RC, reset 0) -/
def BST_LREP : Fld := ⟨0x2B0 * 512 + (17), 31, 1⟩
/-- R568: BST_EVT: a rolling test failed (RC, reset 0) -/
def BST_RFAIL : Fld := ⟨0x2B0 * 512 + (18), 0, 1⟩
/-- R568: A segment could not be repaired (RC, reset 0) -/
def BST_UNREP : Fld := ⟨0x2B0 * 512 + (18), 1, 1⟩
/-- R568: Secrets were cleared (R567) (RC, reset 0) -/
def BST_SECCLR : Fld := ⟨0x2B0 * 512 + (18), 2, 1⟩
/-- R568: FULLTEST completed (RC, reset 0) -/
def BST_TDONE : Fld := ⟨0x2B0 * 512 + (18), 3, 1⟩
/-- R568: BST_EVTEN (RW, reset 0h) -/
def BST_EVTEN : Fld := ⟨0x2B0 * 512 + (19), 0, 4⟩
/-- R568: BST_SECR: secret clearings (RC, reset 0000h) -/
def BST_NSCLR : Fld := ⟨0x2B0 * 512 + (20), 0, 16⟩
/-- R591: BLT_CTL: blotter writing (RW, reset 0) -/
def BLT_EN : Fld := ⟨0x2C0 * 512 + (8), 0, 1⟩
/-- R591: 0 wrap; 1 stop when full (RW, reset 0) -/
def BLT_SMODE : Fld := ⟨0x2C0 * 512 + (8), 1, 1⟩
/-- R591: Read-out authorised (R37) (RW, reset 0) -/
def BLT_RDEN : Fld := ⟨0x2C0 * 512 + (8), 2, 1⟩
/-- R591: WPTR, WRAPS, TRIGD and STOPPED to 0 (W1, reset 0) -/
def BLT_CLR : Fld := ⟨0x2C0 * 512 + (8), 3, 1⟩
/-- R591: Set STOPPED (W1, reset 0) -/
def BLT_STOP : Fld := ⟨0x2C0 * 512 + (8), 4, 1⟩
/-- R591: No further packets written (RO, reset 0) -/
def BLT_STOPPED : Fld := ⟨0x2C0 * 512 + (8), 5, 1⟩
/-- R591: Words after a trigger; 0 ignores triggers (RW, reset 0) -/
def BLT_POST : Fld := ⟨0x2C0 * 512 + (8), 6, 20⟩
/-- R591: BLT_PTR: next word (RO, reset 0) -/
def BLT_WPTR : Fld := ⟨0x2C0 * 512 + (9), 0, 20⟩
/-- R591: Wraps; saturates (RC, reset 0000h) -/
def BLT_WRAPS : Fld := ⟨0x2C0 * 512 + (9), 20, 16⟩
/-- R591: A trigger was written (RO, reset 0) -/
def BLT_TRIGD : Fld := ⟨0x2C0 * 512 + (9), 36, 1⟩
/-- R591: Its word (RO, reset 0) -/
def BLT_TRIGW : Fld := ⟨0x2C0 * 512 + (9), 37, 20⟩
/-- R591: BLT_LOSS: packets lost; saturates (RC, reset 0) -/
def BLT_LOST : Fld := ⟨0x2C0 * 512 + (10), 0, 36⟩
/-- R591: Source of the last loss (RC, reset 00h) -/
def BLT_LSRC : Fld := ⟨0x2C0 * 512 + (10), 36, 8⟩
/-- R591: BLT_SRC0: bit n traces Sn (RW, reset 0) -/
def BLT_SCRB : Fld := ⟨0x2C0 * 512 + (11), 0, 32⟩
/-- R591: Trace the management controller (RW, reset 0) -/
def BLT_MCT : Fld := ⟨0x2C0 * 512 + (11), 32, 1⟩
/-- R591: PSTATE packets (RW, reset 0) -/
def BLT_PWRT : Fld := ⟨0x2C0 * 512 + (11), 33, 1⟩
/-- R591: BLT_SRC1: bit f, stroke trace of ferrule f (RW, reset 0) -/
def BLT_STRK : Fld := ⟨0x2C0 * 512 + (12), 0, 64⟩
/-- R591: BLT_STIMEN: bit p, port p enabled (RW, reset 0) -/
def BLT_SEN : Fld := ⟨0x2C0 * 512 + (13), 0, 32⟩
/-- R591: Bit 32 + p: U may write port p (RW, reset 0) -/
def BLT_SUSR : Fld := ⟨0x2C0 * 512 + (13), 32, 32⟩
/-- R591: BLT_PRIV: trace K code (CS, reset 0, voted) -/
def BLT_TRK : Fld := ⟨0x2C0 * 512 + (14), 0, 1⟩
/-- R591: Trace H code (CS, reset 0, voted) -/
def BLT_TRH : Fld := ⟨0x2C0 * 512 + (14), 1, 1⟩
/-- R591: BLT_BENCH: bit f, ferrule f's nibs may be halted (CS, reset 0, voted) -/
def BLT_BENCH : Fld := ⟨0x2C0 * 512 + (15), 0, 64⟩
/-- R591: BLT_EVT: packets lost (RC, reset 0) -/
def BLT_OVF : Fld := ⟨0x2C0 * 512 + (16), 0, 1⟩
/-- R591: Trigger written (RC, reset 0) -/
def BLT_TRIG : Fld := ⟨0x2C0 * 512 + (16), 1, 1⟩
/-- R591: Stopped when full (RC, reset 0) -/
def BLT_FULL : Fld := ⟨0x2C0 * 512 + (16), 2, 1⟩
/-- R591: Invalid unlock answer (RC, reset 0) -/
def BLT_UFAIL : Fld := ⟨0x2C0 * 512 + (16), 3, 1⟩
/-- R591: BLT_EVTEN (RW, reset 0h) -/
def BLT_EVTEN : Fld := ⟨0x2C0 * 512 + (17), 0, 4⟩
/-- R591: DBG_STAT: unlock level (RO, reset 0h, voted) -/
def BLT_LVL : Fld := ⟨0x2C0 * 512 + (18), 0, 2⟩
/-- R591: R574 (RW, reset 0) -/
def BLT_ATTACH : Fld := ⟨0x2C0 * 512 + (18), 2, 1⟩
/-- R591: Controller halted (RO, reset 0) -/
def BLT_MCH : Fld := ⟨0x2C0 * 512 + (18), 3, 1⟩
/-- R591: Seconds before the next challenge (RO, reset 00h) -/
def BLT_WAIT : Fld := ⟨0x2C0 * 512 + (18), 4, 7⟩
/-- R591: Invalid answers; saturates (RC, reset 0000h) -/
def BLT_NFAIL : Fld := ⟨0x2C0 * 512 + (18), 11, 16⟩
/-- R591: DBG_HREQ: bit n Sn; bit 32 controller (W1, reset 0) -/
def BLT_HALT_19 : Fld := ⟨0x2C0 * 512 + (19), 0, 33⟩
/-- R591: DBG_RREQ (W1, reset 0) -/
def BLT_RESUME : Fld := ⟨0x2C0 * 512 + (20), 0, 33⟩
/-- R591: DBG_SREQ (W1, reset 0) -/
def BLT_STEP : Fld := ⟨0x2C0 * 512 + (21), 0, 33⟩
/-- R591: DBG_BRKH (R577) (RW, reset 0) -/
def BLT_BRKH : Fld := ⟨0x2C0 * 512 + (22), 0, 33⟩
/-- R591: DBG_SRIDX: 00h–1Fh scribe; 20h controller (RW, reset 00h) -/
def BLT_TGT : Fld := ⟨0x2C0 * 512 + (23), 0, 6⟩
/-- R591: 0 g register; 1 system register or PC (RW, reset 0) -/
def BLT_KIND_23 : Fld := ⟨0x2C0 * 512 + (23), 6, 1⟩
/-- R591: R578 (RW, reset 000h) -/
def BLT_NUM : Fld := ⟨0x2C0 * 512 + (23), 7, 10⟩
/-- R591: DBG_SRVAL (R578) (RW, reset 0) -/
def BLT_SRVAL : Fld := ⟨0x2C0 * 512 + (24), 0, 72⟩
/-- R591: NIB_DSEL: ferrule (RW, reset 00h) -/
def BLT_FER : Fld := ⟨0x2C0 * 512 + (25), 0, 6⟩
/-- R591: Nib (RW, reset 00h) -/
def BLT_NIB_25 : Fld := ⟨0x2C0 * 512 + (25), 6, 5⟩
/-- R591: R580 (W1, reset 0) -/
def BLT_HALT_25 : Fld := ⟨0x2C0 * 512 + (25), 11, 1⟩
/-- R591: R581 (W1, reset 0) -/
def BLT_REL : Fld := ⟨0x2C0 * 512 + (25), 12, 1⟩
/-- R591: 0 register (R285, 18h PC); 1 X; 2 Y (RW, reset 0h) -/
def BLT_SPACE : Fld := ⟨0x2C0 * 512 + (25), 13, 2⟩
/-- R591: Register code or half address (RW, reset 0000h) -/
def BLT_ADDR : Fld := ⟨0x2C0 * 512 + (25), 15, 13⟩
/-- R591: NIB_DVAL: value; 0 unless halted (RO, reset 0) -/
def BLT_DVAL : Fld := ⟨0x2C0 * 512 + (26), 0, 36⟩
/-- R591: CMP_IDX: 0 scribe; 1 nib; 2 controller (RW, reset 0h) -/
def BLT_UNIT : Fld := ⟨0x2C0 * 512 + (32), 0, 2⟩
/-- R591: Scribe or ferrule (RW, reset 00h) -/
def BLT_SC : Fld := ⟨0x2C0 * 512 + (32), 2, 6⟩
/-- R591: Nib (RW, reset 00h) -/
def BLT_NIB_32 : Fld := ⟨0x2C0 * 512 + (32), 8, 5⟩
/-- R591: Comparator (RW, reset 0h) -/
def BLT_K : Fld := ⟨0x2C0 * 512 + (32), 13, 3⟩
/-- R591: CMP_ADDR (RW, reset 0) -/
def BLT_CADDR (x : Nat) : Fld := ⟨(0x5000 + x) * 512 + (33), 0, 48⟩
/-- R591: CMP_CTL: enabled (RW, reset 0) -/
def BLT_CEN (x : Nat) : Fld := ⟨(0x5000 + x) * 512 + (34), 0, 1⟩
/-- R591: R582 (RW, reset 0h) -/
def BLT_KIND_34 (x : Nat) : Fld := ⟨(0x5000 + x) * 512 + (34), 1, 2⟩
/-- R591: Low bits ignored, 0 to 47 (RW, reset 00h) -/
def BLT_IGN (x : Nat) : Fld := ⟨(0x5000 + x) * 512 + (34), 3, 6⟩
/-- R591: R583 (RW, reset 0h) -/
def BLT_ACT (x : Nat) : Fld := ⟨(0x5000 + x) * 512 + (34), 9, 2⟩
/-- R591: Hits; saturates (RC, reset 0000h) -/
def BLT_HITS (x : Nat) : Fld := ⟨(0x5000 + x) * 512 + (34), 11, 16⟩
/-- R591: BLT_STIMp (R590) (RW, reset 0) -/
def BLT_STIM (j : Nat) : Fld := ⟨0x2C0 * 512 + (64 + j), 0, 72⟩
/-- R602: DPX_CFG: duplex enabled (RW, reset 0, voted) -/
def DPX_EN : Fld := ⟨0x2E0 * 512 + (8), 0, 1⟩
/-- R602: 0 none; 1 main; 2 standby; 3 ignored, reason 07h (RW, reset 0h, voted) -/
def DPX_ROLE : Fld := ⟨0x2E0 * 512 + (8), 1, 2⟩
/-- R602: Uplink pair of the peer link (RW, reset 0h) -/
def DPX_PAIR : Fld := ⟨0x2E0 * 512 + (8), 3, 2⟩
/-- R602: Status frames a failure of checks 1–3 must persist, 1 to 15; 0 ignored, reason 07h (RW, reset 3h) -/
def DPX_HOLD : Fld := ⟨0x2E0 * 512 + (8), 5, 4⟩
/-- R602: DPX_PMAC: peer MAC (R134) (RW, reset 0) -/
def DPX_PMAC : Fld := ⟨0x2E0 * 512 + (9), 0, 48⟩
/-- R602: DPX_SMAC: own source MAC (RW, reset 0) -/
def DPX_SMAC : Fld := ⟨0x2E0 * 512 + (10), 0, 48⟩
/-- R602: DPX_FWV: management firmware version (RW, reset 0) -/
def DPX_MFW : Fld := ⟨0x2E0 * 512 + (11), 0, 32⟩
/-- R602: Scribe image version (RW, reset 0) -/
def DPX_SFW : Fld := ⟨0x2E0 * 512 + (11), 32, 32⟩
/-- R602: DPX_STAT: peer heard within 3 s (RO, reset 0) -/
def DPX_PEERUP : Fld := ⟨0x2E0 * 512 + (12), 0, 1⟩
/-- R602: R597 (RO, reset 0) -/
def DPX_ELIG : Fld := ⟨0x2E0 * 512 + (12), 1, 1⟩
/-- R602: Peer's ELIG (RO, reset 0) -/
def DPX_PELIG : Fld := ⟨0x2E0 * 512 + (12), 2, 1⟩
/-- R602: Peer's ROLE (RO, reset 0h) -/
def DPX_PROLE : Fld := ⟨0x2E0 * 512 + (12), 3, 2⟩
/-- R602: Bit r − 1: reason r in effect (RO, reset 00h) -/
def DPX_RSN : Fld := ⟨0x2E0 * 512 + (12), 5, 6⟩
/-- R602: Clear reasons 1 to 3 (W1, reset 0) -/
def DPX_CLR : Fld := ⟨0x2E0 * 512 + (12), 11, 1⟩
/-- R602: Consecutive failures of the checks 1–3 now failing (RO, reset 0h) -/
def DPX_FCNT : Fld := ⟨0x2E0 * 512 + (12), 12, 4⟩
/-- R602: DPX_OFS: R599, signed ns, saturating (RO, reset 0) -/
def DPX_OFS : Fld := ⟨0x2E0 * 512 + (13), 0, 24⟩
/-- R602: OFS valid (RO, reset 0) -/
def DPX_OV : Fld := ⟨0x2E0 * 512 + (13), 24, 1⟩
/-- R602: DPX_CDIG: own CFGDIG (RO, reset 0) -/
def DPX_CFGDIG : Fld := ⟨0x2E0 * 512 + (14), 0, 72⟩
/-- R602: DPX_PCDIG: peer's CFGDIG (RO, reset 0) -/
def DPX_PCFG : Fld := ⟨0x2E0 * 512 + (15), 0, 72⟩
/-- R602: DPX_PHCMD: peer's RUL_HCMD (RO, reset 0) -/
def DPX_PHCMD : Fld := ⟨0x2E0 * 512 + (16), 0, 72⟩
/-- R602: DPX_PFWV: peer's FWV (RO, reset 0) -/
def DPX_PFWV : Fld := ⟨0x2E0 * 512 + (17), 0, 64⟩
/-- R602: DPX_EVT: a reason was set (RC, reset 0) -/
def DPX_INE : Fld := ⟨0x2E0 * 512 + (18), 0, 1⟩
/-- R602: An unexplained difference (RC, reset 0) -/
def DPX_ODF : Fld := ⟨0x2E0 * 512 + (18), 1, 1⟩
/-- R602: PEERUP fell (RC, reset 0) -/
def DPX_PLOST : Fld := ⟨0x2E0 * 512 + (18), 2, 1⟩
/-- R602: DPX_EVTEN (RW, reset 0h) -/
def DPX_EVTEN : Fld := ⟨0x2E0 * 512 + (19), 0, 3⟩
/-- R602: DPX_CNT: status frames received (RC, reset 0) -/
def DPX_NSTAT : Fld := ⟨0x2E0 * 512 + (20), 0, 36⟩
/-- R602: Peer frames discarded (R593) (RC, reset 0000h) -/
def DPX_NBAD : Fld := ⟨0x2E0 * 512 + (20), 36, 16⟩
/-- R602: DPX_DOMd: explained differences (RC, reset 0000h) -/
def DPX_PDIFF (j : Nat) : Fld := ⟨0x2E0 * 512 + (24 + j), 0, 16⟩
/-- R602: Unexplained differences (RC, reset 0000h) -/
def DPX_ODIFF (j : Nat) : Fld := ⟨0x2E0 * 512 + (24 + j), 16, 16⟩
/-- R602: Peer frames missing (RC, reset 0000h) -/
def DPX_NMISS (j : Nat) : Fld := ⟨0x2E0 * 512 + (24 + j), 32, 16⟩
/-- R602: DPX_LSTd: stroke of the last unexplained difference (RC, reset 0) -/
def DPX_LSTR (j : Nat) : Fld := ⟨0x2E0 * 512 + (32 + j), 0, 48⟩
/-- R617: PCI_CFG: 1 endpoint (RO, reset strap) -/
def PCI_EP : Fld := ⟨0x290 * 512 + (8), 0, 1⟩
/-- R617: Link enabled (RW, reset 0) -/
def PCI_LEN : Fld := ⟨0x290 * 512 + (8), 1, 1⟩
/-- R617: Highest rate: 0 Gen1 to 3 Gen4 (RW, reset 3h) -/
def PCI_MAXG : Fld := ⟨0x290 * 512 + (8), 2, 2⟩
/-- R617: SR-IOV capability offered (RW, reset 0) -/
def PCI_SRIOV : Fld := ⟨0x290 * 512 + (8), 4, 1⟩
/-- R617: Virtual functions, 0 to 16; above 16 ignored, reason 07h (RW, reset 00h) -/
def PCI_NVF : Fld := ⟨0x290 * 512 + (8), 5, 5⟩
/-- R617: PCI_STAT: link training state (RO, reset 00h) -/
def PCI_LTSSM : Fld := ⟨0x290 * 512 + (9), 0, 6⟩
/-- R617: Lanes in use (RO, reset 0h) -/
def PCI_WIDTH : Fld := ⟨0x290 * 512 + (9), 6, 4⟩
/-- R617: Rate in use (RO, reset 0h) -/
def PCI_GEN : Fld := ⟨0x290 * 512 + (9), 10, 2⟩
/-- R617: Data link up (RO, reset 0) -/
def PCI_DLUP : Fld := ⟨0x290 * 512 + (9), 12, 1⟩
/-- R617: PCI_OBASE: PCIe address of window offset 0 (RW, reset 0) -/
def PCI_OBASE : Fld := ⟨0x290 * 512 + (10), 0, 64⟩
/-- R617: PCI_INWi: first physical frame (RW, reset 0) -/
def PCI_BFRAME (j : Nat) : Fld := ⟨0x290 * 512 + (16 + 2 * j), 0, 32⟩
/-- R617: Pages; 0 disables (RW, reset 0) -/
def PCI_NPAGES (j : Nat) : Fld := ⟨0x290 * 512 + (16 + 2 * j), 32, 32⟩
/-- R617: PCIe address of octet 0; endpoint: offset in BAR2 (RW, reset 0) -/
def PCI_PBASE (j : Nat) : Fld := ⟨0x290 * 512 + (17 + 2 * j), 0, 64⟩

end Sys2Proof.Machine.F
end

