-- ==== Sys2Proof/Machine/Bits.lean ====
section
/-! DEFINITION. Bit fields of words, signed reading of fields, and the helpers on numbers that the blocks share. -/

namespace Sys2Proof.Machine
open Sys2Proof

/-- The field of a word from bit `lo`, `len` bits long, as a number. -/
def getField (w : Word) (lo len : Nat) : Nat := (w.toNat >>> lo) % 2 ^ len

/-- The word with a field replaced (the value is cut to the field's length). -/
def putField (w : Word) (lo len v : Nat) : Word :=
  (w &&& ~~~(BitVec.ofNat 72 ((2 ^ len - 1) <<< lo))) ||| BitVec.ofNat 72 ((v % 2 ^ len) <<< lo)

/-- A field of a number. -/
def bitsOf (n lo len : Nat) : Nat := (n >>> lo) % 2 ^ len

/-- A bit of a number. -/
def bitOf (n i : Nat) : Bool := n.testBit i

/-- The two's complement value of a field `len` bits long. -/
def signedOf (v len : Nat) : Int := if v % 2 ^ len < 2 ^ (len - 1) then (v % 2 ^ len : Nat) else (v % 2 ^ len : Nat) - (2 ^ len : Nat)

/-- The two's complement image of an integer in `len` bits. -/
def toField (i : Int) (len : Nat) : Nat := (i % (2 ^ len : Nat)).toNat

/-- An integer held to the range of a signed field of `len` bits. -/
def clampInt (i : Int) (len : Nat) : Int :=
  if i < -(2 ^ (len - 1) : Nat) then -(2 ^ (len - 1) : Nat) else if (2 ^ (len - 1) : Nat) - 1 < i then (2 ^ (len - 1) : Nat) - 1 else i

/-- 1 for true, 0 for false. -/
def b2n (b : Bool) : Nat := if b then 1 else 0

/-- A number with one bit set. -/
def setBitN (n i : Nat) : Nat := n ||| (1 <<< i)

/-- A number with one bit cleared. -/
def clrBitN (n i : Nat) : Nat := if n.testBit i then n - 1 <<< i else n

/-- The number of set bits among the lowest `w`. -/
def popcount (n : Nat) : Nat → Nat
  | 0 => 0
  | w + 1 => b2n (n.testBit w) + popcount n w

/-- The set bits among the lowest `w`, rising. -/
def bitList (n w : Nat) : List Nat := (List.range w).filter (fun i => n.testBit i)

/-- Insertion of a number into a rising list, once. -/
def insertNat (x : Nat) : List Nat → List Nat
  | [] => [x]
  | y :: t => if x = y then y :: t else if x < y then x :: y :: t else y :: insertNat x t

/-- The octets of a number, most significant first. -/
def octetsOf (n : Nat) : Nat → List Nat
  | 0 => []
  | k + 1 => (n >>> (8 * k)) % 256 :: octetsOf n k

/-- The number that octets spell, most significant first. -/
def ofOctets (l : List Nat) : Nat := l.foldl (fun a o => a * 256 + o % 256) 0

end Sys2Proof.Machine
end

