-- ==== Sys2Proof/Machine/Pages.lean ====
section
/-! DEFINITION. The register pages as tables: which pages exist (R49), the words each implements with the fields of
each word, their access kinds, votes and reset values (the tables of the blocks' chapters), the capability word, and
the reset value of every storage word.
Decisions: log entries 8 (DESIGN CHOICE), 54 (DEDUCED). -/

namespace Sys2Proof.Machine
open Sys2Proof

/-- The access kinds of fields (R13). -/
inductive Acc where
  | rw | ro | rc | w1 | cs
  deriving DecidableEq, Repr

/-- A field of a word: lowest bit, length, access kind, voted, always-on, reset value. -/
structure FieldDesc where
  lo : Nat
  len : Nat
  acc : Acc
  voted : Bool
  aon : Bool
  reset : Nat
  deriving DecidableEq, Repr

/-- Words of one layout: the first, how many, the step between them, their fields. -/
structure RowDesc where
  first : Nat
  count : Nat
  stride : Nat
  fields : List FieldDesc
  deriving DecidableEq, Repr

/-- The blocks that have pages (R49); the PHY pages are the last four of the DMC range, and the uplink range holds
ports, pairs, management ports and the classification pages (R156). -/
inductive PageKind where
  | dev | csn | tim | rul0 | rul | msh | fer | lnk | sub | pub | dsk | icu | dmc | phy | dma | dmb
  | upl | uplPair | ucl | udf | pci | pwr | bst | blt | ten | dpx | mcb
  deriving DecidableEq, Repr

/-- The block of a page number; none for a page that the index does not list (R49). -/
def pageKind (p : Nat) : Option PageKind :=
  if p = 0 then some .dev else if p = 1 then some .csn else if p = 2 then some .tim
  else if p = 4 then some .rul0 else if 5 ≤ p ∧ p ≤ 7 then some .rul
  else if 0x10 ≤ p ∧ p ≤ 0x1F then some .msh
  else if 0x100 ≤ p ∧ p ≤ 0x1FF then
    (if p % 4 = 0 then some .fer else if p % 4 = 1 then some .lnk else if p % 4 = 2 then some .sub else some .pub)
  else if 0x200 ≤ p ∧ p ≤ 0x21F then some .dsk
  else if 0x240 ≤ p ∧ p ≤ 0x243 then some .icu
  else if 0x260 ≤ p ∧ p ≤ 0x263 then some .dmc else if 0x264 ≤ p ∧ p ≤ 0x267 then some .phy
  else if p = 0x270 then some .dma else if p = 0x271 then some .dmb
  else if (0x280 ≤ p ∧ p ≤ 0x287) ∨ p = 0x28C ∨ p = 0x28D then some .upl
  else if 0x288 ≤ p ∧ p ≤ 0x28B then some .uplPair
  else if p = 0x28E then some .ucl else if p = 0x28F then some .udf
  else if p = 0x290 then some .pci else if p = 0x2A0 then some .pwr else if p = 0x2B0 then some .bst
  else if p = 0x2C0 then some .blt else if p = 0x2D0 then some .ten else if p = 0x2E0 then some .dpx
  else if p = 0x2F0 then some .mcb else none

/-- The block type code of PAGE_ID (R49). -/
def blockType : PageKind → Nat
  | .dev => 1 | .csn => 2 | .tim => 3 | .rul0 => 4 | .rul => 4 | .msh => 5
  | .fer => 0x10 | .lnk => 0x11 | .sub => 0x12 | .pub => 0x13
  | .dsk => 0x20 | .icu => 0x21 | .dmc => 0x22 | .phy => 0x22 | .dma => 0x23 | .dmb => 0x23
  | .upl => 0x24 | .uplPair => 0x24 | .ucl => 0x24 | .udf => 0x24
  | .pci => 0x25 | .pwr => 0x26 | .bst => 0x27 | .blt => 0x28 | .ten => 0x29 | .dpx => 0x2A | .mcb => 0x2B

/-- The instance of a page (R50). -/
def pageInstance (p : Nat) : Nat :=
  if 0x100 ≤ p ∧ p ≤ 0x1FF then (p - 0x100) / 4
  else if 4 ≤ p ∧ p ≤ 7 then p - 4 else if 0x10 ≤ p ∧ p ≤ 0x1F then p - 0x10
  else if 0x200 ≤ p ∧ p ≤ 0x21F then p - 0x200 else if 0x240 ≤ p ∧ p ≤ 0x243 then p - 0x240
  else if 0x260 ≤ p ∧ p ≤ 0x267 then p - 0x260 else if p = 0x271 then 1
  else if 0x280 ≤ p ∧ p ≤ 0x28F then p - 0x280 else 0

/-- CMDP, NARG, CSP and AONW of a page, and its BCAP (R58 and the header rule of each block's chapter; where a
chapter gives no value, 0: assumption 8). -/
def pageCap (p : Nat) : Nat × Nat × Nat × Nat × Nat :=
  match pageKind p with
  | some .csn => (0, 0, 1, 1, 0) | some .tim => (0, 0, 1, 1, 0)
  | some .rul0 => (1, 1, 0, 1, 0x1000) | some .rul => (0, 0, 0, 1, 0)
  | some .lnk => (0, 0, 0, 1, 0x3F10) | some .sub => (1, 12, 1, 1, 0x1040) | some .pub => (1, 7, 1, 1, 0x0420)
  | some .fer => (0, 0, 0, 0, 0x412)
  | some .dsk => (0, 0, 0, 0, pageInstance p + (pageInstance p / 8) * 32)
  | some .icu => (0, 0, 0, 0, 0xA0) | some .dmc => (1, 1, 0, 0, 0)
  | some .dma => (1, 5, 0, 0, 0x20) | some .pwr => (1, 1, 0, 1, 0) | some .bst => (1, 1, 0, 1, 0)
  | some .blt => (0, 0, 1, 1, 0) | some .ten => (1, 4, 1, 1, 0x4010) | some .mcb => (0, 0, 0, 1, 0)
  | _ => (0, 0, 0, 0, 0)

/-- Whether a page has a doorbell (R66). -/
def hasDoorbell (p : Nat) : Bool := (pageCap p).1 = 1

/-- PAGE_ID of a page (R58). -/
def pageIdWord (p : Nat) : Word :=
  match pageKind p with
  | some k => BitVec.ofNat 72 (blockType k + pageInstance p * 2 ^ 16 + 2 ^ 24)
  | none => 0

/-- PAGE_CAP of a page (R58). -/
def pageCapWord (p : Nat) : Word :=
  let c := pageCap p
  BitVec.ofNat 72 (c.1 + c.2.1 * 2 + c.2.2.1 * 2 ^ 6 + c.2.2.2.1 * 2 ^ 7 + c.2.2.2.2 * 2 ^ 16)

/-- The words of the header after PAGE_CAP (R58). -/
def rowsHeader : List RowDesc :=
  [ ⟨2, 1, 1, [⟨0, 4, .ro, false, false, 0⟩, ⟨16, 56, .rc, false, false, 0⟩]⟩,
    ⟨3, 1, 1, [⟨0, 16, .rc, false, false, 0⟩, ⟨16, 16, .rc, false, false, 0⟩, ⟨32, 8, .rc, false, false, 0⟩]⟩,
    ⟨4, 1, 1, [⟨0, 2, .ro, true, false, 0⟩, ⟨2, 10, .ro, false, false, 0⟩]⟩,
    ⟨5, 1, 1, [⟨0, 8, .rc, false, false, 0⟩, ⟨8, 8, .rc, false, false, 0⟩, ⟨16, 9, .rc, false, false, 0⟩,
      ⟨32, 40, .rc, false, false, 0⟩]⟩,
    ⟨6, 1, 1, [⟨0, 8, .ro, false, false, 0⟩, ⟨8, 1, .ro, false, false, 0⟩]⟩,
    ⟨7, 1, 1, [⟨0, 16, .rc, false, false, 0⟩, ⟨16, 9, .rc, false, false, 0⟩, ⟨32, 1, .rc, false, false, 0⟩]⟩ ]

/-- CMD and RESULT (R66). -/
def rowsDoorbell : List RowDesc :=
  [ ⟨8, 1, 1, [⟨0, 8, .rw, false, false, 0⟩, ⟨8, 8, .rw, false, false, 0⟩, ⟨36, 36, .rw, false, false, 0⟩]⟩,
    ⟨9, 1, 1, [⟨0, 8, .ro, false, false, 0⟩, ⟨8, 2, .ro, false, false, 0⟩, ⟨16, 8, .ro, false, false, 0⟩,
      ⟨24, 8, .ro, false, false, 0⟩, ⟨36, 36, .ro, false, false, 0⟩]⟩ ]

/-- The words of a BLT page: first word, how many, the step between them, and their fields. -/
def rowsBLT : List RowDesc :=
  [ ⟨8, 1, 1, [⟨0, 1, .rw, false, true, 0⟩, ⟨1, 1, .rw, false, true, 0⟩, ⟨2, 1, .rw, false, true, 0⟩, ⟨3, 1, .w1, false, true, 0⟩, ⟨4, 1, .w1, false, true, 0⟩, ⟨5, 1, .ro, false, true, 0⟩, ⟨6, 20, .rw, false, true, 0⟩]⟩,
    ⟨9, 1, 1, [⟨0, 20, .ro, false, true, 0⟩, ⟨20, 16, .rc, false, true, 0⟩, ⟨36, 1, .ro, false, true, 0⟩, ⟨37, 20, .ro, false, true, 0⟩]⟩,
    ⟨10, 1, 1, [⟨0, 36, .rc, false, true, 0⟩, ⟨36, 8, .rc, false, true, 0⟩]⟩,
    ⟨11, 1, 1, [⟨0, 32, .rw, false, true, 0⟩, ⟨32, 1, .rw, false, true, 0⟩, ⟨33, 1, .rw, false, true, 0⟩]⟩,
    ⟨12, 1, 1, [⟨0, 64, .rw, false, true, 0⟩]⟩,
    ⟨13, 1, 1, [⟨0, 32, .rw, false, true, 0⟩, ⟨32, 32, .rw, false, true, 0⟩]⟩,
    ⟨14, 1, 1, [⟨0, 1, .cs, true, true, 0⟩, ⟨1, 1, .cs, true, true, 0⟩]⟩,
    ⟨15, 1, 1, [⟨0, 64, .cs, true, true, 0⟩]⟩,
    ⟨16, 1, 1, [⟨0, 1, .rc, false, true, 0⟩, ⟨1, 1, .rc, false, true, 0⟩, ⟨2, 1, .rc, false, true, 0⟩, ⟨3, 1, .rc, false, true, 0⟩]⟩,
    ⟨17, 1, 1, [⟨0, 4, .rw, false, true, 0⟩]⟩,
    ⟨18, 1, 1, [⟨0, 2, .ro, true, true, 0⟩, ⟨2, 1, .rw, false, true, 0⟩, ⟨3, 1, .ro, false, true, 0⟩, ⟨4, 7, .ro, false, true, 0⟩, ⟨11, 16, .rc, false, true, 0⟩]⟩,
    ⟨19, 1, 1, [⟨0, 33, .w1, false, true, 0⟩]⟩,
    ⟨20, 1, 1, [⟨0, 33, .w1, false, true, 0⟩]⟩,
    ⟨21, 1, 1, [⟨0, 33, .w1, false, true, 0⟩]⟩,
    ⟨22, 1, 1, [⟨0, 33, .rw, false, true, 0⟩]⟩,
    ⟨23, 1, 1, [⟨0, 6, .rw, false, true, 0⟩, ⟨6, 1, .rw, false, true, 0⟩, ⟨7, 10, .rw, false, true, 0⟩]⟩,
    ⟨24, 1, 1, [⟨0, 72, .rw, false, true, 0⟩]⟩,
    ⟨25, 1, 1, [⟨0, 6, .rw, false, true, 0⟩, ⟨6, 5, .rw, false, true, 0⟩, ⟨11, 1, .w1, false, true, 0⟩, ⟨12, 1, .w1, false, true, 0⟩, ⟨13, 2, .rw, false, true, 0⟩, ⟨15, 13, .rw, false, true, 0⟩]⟩,
    ⟨26, 1, 1, [⟨0, 36, .ro, false, true, 0⟩]⟩,
    ⟨32, 1, 1, [⟨0, 2, .rw, false, true, 0⟩, ⟨2, 6, .rw, false, true, 0⟩, ⟨8, 5, .rw, false, true, 0⟩, ⟨13, 3, .rw, false, true, 0⟩]⟩,
    ⟨33, 1, 1, [⟨0, 48, .rw, false, true, 0⟩]⟩,
    ⟨34, 1, 1, [⟨0, 1, .rw, false, true, 0⟩, ⟨1, 2, .rw, false, true, 0⟩, ⟨3, 6, .rw, false, true, 0⟩, ⟨9, 2, .rw, false, true, 0⟩, ⟨11, 16, .rc, false, true, 0⟩]⟩,
    ⟨64, 32, 1, [⟨0, 72, .rw, false, true, 0⟩]⟩ ]

/-- The words of a BST page: first word, how many, the step between them, and their fields. -/
def rowsBST : List RowDesc :=
  [ ⟨10, 1, 1, []⟩,
    ⟨11, 1, 1, [⟨0, 1, .ro, false, true, 0⟩, ⟨1, 1, .ro, false, true, 0⟩, ⟨2, 1, .ro, false, true, 0⟩, ⟨3, 1, .ro, false, true, 0⟩, ⟨4, 10, .ro, false, true, 0⟩]⟩,
    ⟨12, 1, 1, [⟨0, 32, .ro, false, true, 0⟩, ⟨32, 1, .ro, false, true, 0⟩]⟩,
    ⟨13, 1, 1, [⟨0, 1, .rw, true, false, 0⟩, ⟨1, 16, .rw, false, false, 100⟩]⟩,
    ⟨14, 1, 1, [⟨0, 2, .ro, false, false, 0⟩, ⟨2, 6, .ro, false, false, 0⟩, ⟨8, 6, .ro, false, false, 0⟩, ⟨14, 3, .ro, false, false, 0⟩]⟩,
    ⟨15, 1, 1, [⟨0, 16, .rc, false, false, 0⟩, ⟨16, 36, .rc, false, false, 0⟩, ⟨52, 16, .rc, false, false, 0⟩]⟩,
    ⟨16, 1, 1, [⟨0, 12, .ro, false, true, 0⟩, ⟨12, 10, .ro, false, true, 0⟩, ⟨22, 10, .ro, false, true, 0⟩]⟩,
    ⟨17, 1, 1, [⟨0, 4, .rc, false, true, 0⟩, ⟨4, 6, .rc, false, true, 0⟩, ⟨10, 5, .rc, false, true, 0⟩, ⟨15, 16, .rc, false, true, 0⟩, ⟨31, 1, .rc, false, true, 0⟩]⟩,
    ⟨18, 1, 1, [⟨0, 1, .rc, false, false, 0⟩, ⟨1, 1, .rc, false, false, 0⟩, ⟨2, 1, .rc, false, false, 0⟩, ⟨3, 1, .rc, false, false, 0⟩]⟩,
    ⟨19, 1, 1, [⟨0, 4, .rw, false, false, 0⟩]⟩,
    ⟨20, 1, 1, [⟨0, 16, .rc, false, true, 0⟩]⟩ ]

/-- The words of a CSN page: first word, how many, the step between them, and their fields. -/
def rowsCSN : List RowDesc :=
  [ ⟨8, 1, 1, [⟨0, 4, .ro, true, true, 0⟩, ⟨4, 4, .ro, true, true, 0⟩, ⟨8, 4, .ro, true, true, 0⟩]⟩,
    ⟨9, 1, 1, [⟨0, 2, .ro, true, true, 0⟩, ⟨2, 4, .ro, false, true, 0⟩, ⟨6, 9, .ro, false, true, 0⟩, ⟨16, 24, .ro, true, true, 0⟩]⟩,
    ⟨10, 1, 1, [⟨0, 72, .rw, false, true, 0⟩]⟩,
    ⟨11, 1, 1, [⟨0, 72, .rw, false, true, 0⟩]⟩,
    ⟨12, 1, 1, [⟨0, 1, .w1, false, true, 0⟩]⟩,
    ⟨13, 1, 1, [⟨0, 1, .cs, true, true, 0⟩]⟩,
    ⟨14, 1, 1, [⟨0, 8, .rw, false, true, 0⟩]⟩,
    ⟨15, 1, 1, [⟨0, 10, .ro, false, true, 0⟩, ⟨16, 9, .ro, false, true, 0⟩, ⟨25, 1, .ro, false, true, 0⟩]⟩,
    ⟨16, 1, 1, [⟨0, 72, .ro, false, true, 0⟩]⟩,
    ⟨17, 1, 1, [⟨0, 16, .rc, false, true, 0⟩, ⟨16, 16, .rc, false, true, 0⟩, ⟨32, 16, .rc, false, true, 0⟩, ⟨48, 16, .rc, false, true, 0⟩]⟩,
    ⟨18, 1, 1, [⟨0, 6, .rw, false, true, 0⟩, ⟨16, 6, .ro, false, true, 0⟩, ⟨32, 16, .rc, false, true, 0⟩]⟩,
    ⟨19, 1, 1, [⟨0, 24, .ro, false, true, 0⟩, ⟨24, 4, .ro, false, true, 0⟩, ⟨28, 4, .ro, false, true, 0⟩, ⟨32, 4, .ro, false, true, 0⟩, ⟨36, 9, .ro, false, true, 0⟩]⟩,
    ⟨20, 1, 1, [⟨0, 72, .ro, false, true, 0⟩]⟩,
    ⟨21, 1, 1, [⟨0, 72, .ro, false, true, 0⟩]⟩ ]

/-- The words of a DEV page: first word, how many, the step between them, and their fields. -/
def rowsDEV : List RowDesc :=
  [ ⟨8, 1, 1, [⟨0, 16, .ro, false, false, 1024⟩, ⟨16, 8, .ro, false, false, 1⟩, ⟨24, 8, .ro, false, false, 0⟩, ⟨32, 4, .ro, false, false, 0⟩]⟩,
    ⟨9, 1, 1, [⟨0, 64, .ro, false, false, 0⟩]⟩,
    ⟨10, 1, 1, [⟨0, 44, .rc, false, false, 0⟩]⟩,
    ⟨11, 1, 1, [⟨0, 8, .rc, false, false, 0⟩, ⟨8, 8, .rc, false, false, 0⟩, ⟨16, 1, .rc, false, false, 0⟩, ⟨32, 16, .rc, false, false, 0⟩]⟩ ]

/-- The words of a DMA page: first word, how many, the step between them, and their fields. -/
def rowsDMA : List RowDesc :=
  [ ⟨10, 1, 1, [⟨0, 45, .rw, false, false, 0⟩]⟩,
    ⟨11, 1, 1, [⟨0, 64, .rw, false, false, 0⟩]⟩,
    ⟨12, 1, 1, [⟨0, 64, .rw, false, false, 0⟩]⟩,
    ⟨13, 1, 1, [⟨0, 64, .rw, false, false, 0⟩]⟩,
    ⟨14, 1, 1, [⟨0, 64, .rw, false, false, 0⟩]⟩,
    ⟨15, 1, 1, [⟨0, 5, .rw, false, false, 0⟩]⟩,
    ⟨16, 1, 1, [⟨0, 45, .ro, true, false, 0⟩]⟩,
    ⟨17, 1, 1, [⟨0, 72, .ro, false, false, 0⟩]⟩,
    ⟨18, 1, 1, [⟨0, 72, .ro, false, false, 0⟩]⟩,
    ⟨19, 1, 1, [⟨0, 72, .ro, false, false, 0⟩]⟩,
    ⟨20, 1, 1, [⟨0, 72, .ro, false, false, 0⟩]⟩,
    ⟨21, 1, 1, [⟨0, 32, .rw, false, false, 0⟩]⟩,
    ⟨22, 1, 1, [⟨0, 32, .rc, false, false, 0⟩]⟩,
    ⟨23, 1, 1, [⟨0, 32, .rc, false, false, 0⟩]⟩ ]

/-- The words of a DMB page: first word, how many, the step between them, and their fields. -/
def rowsDMB : List RowDesc :=
  [ ⟨8, 32, 1, [⟨0, 3, .ro, false, false, 0⟩, ⟨3, 1, .ro, false, false, 0⟩, ⟨4, 8, .ro, false, false, 0⟩, ⟨12, 8, .ro, false, false, 0⟩, ⟨20, 4, .ro, false, false, 0⟩]⟩,
    ⟨40, 32, 1, [⟨0, 44, .ro, false, false, 0⟩, ⟨44, 1, .ro, false, false, 0⟩]⟩,
    ⟨72, 32, 1, [⟨0, 44, .ro, false, false, 0⟩]⟩,
    ⟨104, 32, 1, [⟨0, 36, .ro, false, false, 0⟩, ⟨36, 36, .ro, false, false, 0⟩]⟩,
    ⟨136, 32, 1, [⟨0, 32, .ro, false, false, 0⟩, ⟨32, 16, .rc, false, false, 0⟩, ⟨48, 20, .ro, false, false, 0⟩]⟩ ]

/-- The words of a DMC page: first word, how many, the step between them, and their fields. -/
def rowsDMC : List RowDesc :=
  [ ⟨10, 1, 1, [⟨0, 3, .rw, false, false, 0⟩]⟩,
    ⟨11, 1, 1, [⟨0, 1, .rw, true, false, 0⟩, ⟨1, 2, .rw, false, false, 0⟩, ⟨3, 1, .rw, false, false, 0⟩, ⟨4, 3, .rw, false, false, 0⟩, ⟨7, 2, .rw, false, false, 0⟩, ⟨9, 1, .rw, false, false, 0⟩, ⟨10, 1, .rw, false, false, 0⟩]⟩,
    ⟨12, 1, 1, [⟨0, 3, .ro, true, false, 0⟩, ⟨3, 3, .ro, false, false, 0⟩, ⟨6, 3, .ro, false, false, 0⟩]⟩,
    ⟨13, 1, 1, [⟨0, 4, .rc, false, false, 0⟩, ⟨4, 4, .rc, false, false, 0⟩, ⟨8, 8, .rc, false, false, 0⟩, ⟨16, 1, .rc, false, false, 0⟩, ⟨17, 1, .rc, false, false, 0⟩, ⟨18, 3, .rc, false, false, 0⟩, ⟨21, 2, .rc, false, false, 0⟩, ⟨23, 17, .rc, false, false, 0⟩, ⟨40, 7, .rc, false, false, 0⟩, ⟨47, 1, .rc, false, false, 0⟩]⟩,
    ⟨14, 1, 1, [⟨0, 44, .rc, false, false, 0⟩]⟩,
    ⟨15, 1, 1, [⟨0, 64, .rc, false, false, 0⟩]⟩,
    ⟨16, 1, 1, [⟨0, 72, .rc, false, false, 0⟩]⟩,
    ⟨17, 1, 1, [⟨0, 16, .rc, false, false, 0⟩, ⟨16, 16, .rc, false, false, 0⟩, ⟨32, 16, .rc, false, false, 0⟩, ⟨48, 8, .rc, false, false, 0⟩, ⟨56, 8, .rc, false, false, 0⟩, ⟨64, 8, .rc, false, false, 0⟩]⟩,
    ⟨18, 1, 1, [⟨0, 36, .rc, false, false, 0⟩, ⟨36, 36, .rc, false, false, 0⟩]⟩,
    ⟨19, 1, 1, [⟨0, 32, .rc, false, false, 0⟩]⟩,
    ⟨20, 1, 1, [⟨0, 2, .rc, false, false, 0⟩, ⟨2, 42, .rc, false, false, 0⟩, ⟨44, 1, .rc, false, false, 0⟩, ⟨45, 16, .rc, false, false, 0⟩]⟩,
    ⟨21, 1, 1, [⟨0, 4, .rc, false, false, 0⟩, ⟨4, 4, .rw, false, false, 0⟩]⟩,
    ⟨22, 1, 1, [⟨0, 8, .rw, false, false, 24⟩]⟩,
    ⟨23, 1, 1, [⟨0, 6, .ro, false, false, 0⟩, ⟨6, 1, .ro, false, false, 0⟩, ⟨7, 1, .ro, false, false, 0⟩]⟩ ]

/-- The words of a DOM page: first word, how many, the step between them, and their fields. -/
def rowsDOM : List RowDesc :=
  [ ⟨64, 1, 1, [⟨0, 20, .rw, true, true, 0⟩]⟩,
    ⟨65, 1, 1, [⟨0, 72, .rw, true, true, 0⟩]⟩,
    ⟨66, 1, 1, [⟨0, 13, .rw, true, true, 0⟩]⟩,
    ⟨67, 1, 1, [⟨0, 1, .ro, true, true, 0⟩, ⟨1, 1, .w1, false, true, 0⟩, ⟨2, 1, .w1, false, true, 0⟩]⟩,
    ⟨68, 1, 1, [⟨0, 48, .ro, false, true, 0⟩]⟩,
    ⟨69, 1, 1, [⟨0, 48, .ro, false, true, 0⟩]⟩,
    ⟨70, 1, 1, [⟨0, 36, .rc, false, true, 0⟩, ⟨36, 36, .rc, false, true, 0⟩]⟩,
    ⟨71, 1, 1, [⟨0, 36, .rc, false, true, 0⟩, ⟨36, 36, .rc, false, true, 0⟩]⟩ ]

/-- The words of a DPX page: first word, how many, the step between them, and their fields. -/
def rowsDPX : List RowDesc :=
  [ ⟨8, 1, 1, [⟨0, 1, .rw, true, false, 0⟩, ⟨1, 2, .rw, true, false, 0⟩, ⟨3, 2, .rw, false, false, 0⟩, ⟨5, 4, .rw, false, false, 3⟩]⟩,
    ⟨9, 1, 1, [⟨0, 48, .rw, false, false, 0⟩]⟩,
    ⟨10, 1, 1, [⟨0, 48, .rw, false, false, 0⟩]⟩,
    ⟨11, 1, 1, [⟨0, 32, .rw, false, false, 0⟩, ⟨32, 32, .rw, false, false, 0⟩]⟩,
    ⟨12, 1, 1, [⟨0, 1, .ro, false, false, 0⟩, ⟨1, 1, .ro, false, false, 0⟩, ⟨2, 1, .ro, false, false, 0⟩, ⟨3, 2, .ro, false, false, 0⟩, ⟨5, 6, .ro, false, false, 0⟩, ⟨11, 1, .w1, false, false, 0⟩, ⟨12, 4, .ro, false, false, 0⟩]⟩,
    ⟨13, 1, 1, [⟨0, 24, .ro, false, false, 0⟩, ⟨24, 1, .ro, false, false, 0⟩]⟩,
    ⟨14, 1, 1, [⟨0, 72, .ro, false, false, 0⟩]⟩,
    ⟨15, 1, 1, [⟨0, 72, .ro, false, false, 0⟩]⟩,
    ⟨16, 1, 1, [⟨0, 72, .ro, false, false, 0⟩]⟩,
    ⟨17, 1, 1, [⟨0, 64, .ro, false, false, 0⟩]⟩,
    ⟨18, 1, 1, [⟨0, 1, .rc, false, false, 0⟩, ⟨1, 1, .rc, false, false, 0⟩, ⟨2, 1, .rc, false, false, 0⟩]⟩,
    ⟨19, 1, 1, [⟨0, 3, .rw, false, false, 0⟩]⟩,
    ⟨20, 1, 1, [⟨0, 36, .rc, false, false, 0⟩, ⟨36, 16, .rc, false, false, 0⟩]⟩,
    ⟨24, 4, 1, [⟨0, 16, .rc, false, false, 0⟩, ⟨16, 16, .rc, false, false, 0⟩, ⟨32, 16, .rc, false, false, 0⟩]⟩,
    ⟨32, 4, 1, [⟨0, 48, .rc, false, false, 0⟩]⟩ ]

/-- The words of a DSK page: first word, how many, the step between them, and their fields. -/
def rowsDSK : List RowDesc :=
  [ ⟨8, 1, 1, [⟨0, 1, .rw, true, false, 0⟩]⟩,
    ⟨9, 1, 1, [⟨0, 44, .rw, false, true, 0⟩]⟩,
    ⟨10, 1, 1, [⟨0, 3, .ro, false, false, 0⟩, ⟨3, 2, .ro, false, false, 0⟩]⟩,
    ⟨11, 1, 1, [⟨0, 48, .ro, false, false, 0⟩]⟩,
    ⟨12, 1, 1, [⟨0, 48, .rc, false, false, 0⟩, ⟨48, 8, .rc, false, false, 0⟩, ⟨56, 1, .rc, false, false, 0⟩]⟩,
    ⟨13, 1, 1, [⟨0, 36, .rc, false, false, 0⟩, ⟨36, 36, .rc, false, false, 0⟩]⟩,
    ⟨14, 1, 1, [⟨0, 36, .rc, false, false, 0⟩, ⟨36, 18, .rc, false, false, 0⟩, ⟨54, 18, .rc, false, false, 0⟩]⟩,
    ⟨15, 1, 1, [⟨0, 36, .rc, false, false, 0⟩, ⟨36, 36, .rc, false, false, 0⟩]⟩,
    ⟨16, 1, 1, [⟨0, 16, .rc, false, false, 0⟩, ⟨16, 16, .rc, false, false, 0⟩, ⟨32, 16, .rc, false, false, 0⟩, ⟨48, 24, .rc, false, false, 0⟩]⟩,
    ⟨32, 1, 1, [⟨0, 3, .ro, false, false, 0⟩, ⟨3, 8, .ro, false, false, 0⟩]⟩,
    ⟨33, 1, 1, [⟨0, 16, .rc, false, false, 0⟩, ⟨16, 16, .rc, false, false, 0⟩]⟩,
    ⟨34, 1, 1, [⟨0, 44, .rc, false, false, 0⟩, ⟨44, 1, .rc, false, false, 0⟩]⟩,
    ⟨35, 1, 1, [⟨0, 36, .rc, false, false, 0⟩, ⟨36, 36, .rc, false, false, 0⟩]⟩ ]

/-- The words of a FER page: first word, how many, the step between them, and their fields. -/
def rowsFER : List RowDesc :=
  [ ⟨8, 1, 1, [⟨0, 3, .ro, false, false, 0⟩, ⟨4, 7, .ro, false, false, 0⟩]⟩,
    ⟨9, 1, 1, [⟨0, 16, .ro, false, false, 0⟩, ⟨16, 16, .rw, false, false, 0⟩, ⟨32, 16, .rc, false, false, 0⟩, ⟨48, 1, .ro, false, false, 0⟩]⟩,
    ⟨10, 1, 1, [⟨0, 16, .rc, false, false, 0⟩, ⟨16, 16, .rc, false, false, 0⟩, ⟨32, 18, .rc, false, false, 0⟩, ⟨50, 1, .rc, false, false, 0⟩]⟩,
    ⟨11, 1, 1, [⟨0, 16, .ro, false, false, 0⟩, ⟨16, 16, .ro, false, false, 32768⟩]⟩,
    ⟨12, 1, 1, [⟨0, 18, .rc, false, false, 0⟩, ⟨18, 1, .rc, false, false, 0⟩, ⟨19, 1, .rc, false, false, 0⟩, ⟨20, 1, .rc, false, false, 0⟩]⟩,
    ⟨13, 1, 1, [⟨0, 21, .rw, false, false, 0⟩]⟩,
    ⟨16, 18, 1, [⟨0, 3, .ro, false, false, 0⟩, ⟨3, 1, .ro, false, false, 0⟩, ⟨4, 2, .ro, false, false, 0⟩, ⟨6, 2, .ro, false, false, 0⟩, ⟨8, 4, .ro, false, false, 0⟩, ⟨12, 16, .rc, false, false, 0⟩]⟩,
    ⟨64, 72, 1, [⟨0, 12, .ro, false, false, 0⟩, ⟨12, 1, .ro, false, false, 0⟩, ⟨13, 1, .ro, false, false, 0⟩, ⟨14, 1, .ro, false, false, 0⟩, ⟨15, 16, .ro, false, false, 0⟩, ⟨31, 16, .ro, false, false, 0⟩, ⟨47, 18, .ro, false, false, 0⟩, ⟨65, 1, .ro, false, false, 0⟩]⟩,
    ⟨144, 18, 3, [⟨0, 48, .rc, false, false, 0⟩, ⟨48, 2, .rc, false, false, 0⟩, ⟨50, 2, .rc, false, false, 0⟩, ⟨52, 12, .rc, false, false, 0⟩, ⟨64, 4, .rc, false, false, 0⟩]⟩,
    ⟨145, 18, 3, [⟨0, 13, .rc, false, false, 0⟩, ⟨13, 1, .rc, false, false, 0⟩, ⟨14, 14, .rc, false, false, 0⟩, ⟨28, 14, .rc, false, false, 0⟩, ⟨42, 1, .rc, false, false, 0⟩, ⟨43, 16, .rc, false, false, 0⟩, ⟨59, 5, .rc, false, false, 0⟩]⟩,
    ⟨146, 18, 3, [⟨0, 16, .rc, false, false, 0⟩, ⟨16, 16, .rc, false, false, 0⟩, ⟨32, 2, .rc, false, false, 0⟩, ⟨34, 13, .rc, false, false, 0⟩, ⟨47, 8, .rc, false, false, 0⟩, ⟨55, 1, .rc, false, false, 0⟩, ⟨56, 8, .rc, false, false, 0⟩]⟩ ]

/-- The words of a ICU page: first word, how many, the step between them, and their fields. -/
def rowsICU : List RowDesc :=
  [ ⟨8, 1, 1, [⟨0, 64, .ro, false, false, 0⟩]⟩,
    ⟨9, 1, 1, [⟨0, 64, .ro, false, false, 0⟩]⟩,
    ⟨10, 1, 1, [⟨0, 32, .ro, false, false, 0⟩]⟩,
    ⟨11, 1, 1, [⟨0, 64, .ro, false, false, 0⟩]⟩,
    ⟨12, 1, 1, [⟨0, 64, .ro, false, false, 0⟩]⟩,
    ⟨13, 1, 1, [⟨0, 32, .ro, false, false, 0⟩]⟩,
    ⟨32, 160, 1, [⟨0, 1, .rw, false, false, 0⟩, ⟨1, 4, .rw, false, false, 0⟩, ⟨5, 2, .rw, false, false, 0⟩, ⟨7, 5, .rw, false, false, 0⟩, ⟨12, 1, .rw, false, false, 0⟩, ⟨13, 1, .ro, false, false, 0⟩, ⟨14, 1, .ro, false, false, 0⟩, ⟨15, 1, .ro, false, false, 0⟩]⟩ ]

/-- The words of a KEY page: first word, how many, the step between them, and their fields. -/
def rowsKEY : List RowDesc :=
  [ ⟨0, 1, 1, [⟨0, 2, .cs, true, true, 0⟩, ⟨2, 32, .cs, false, true, 0⟩, ⟨34, 4, .cs, true, true, 0⟩]⟩,
    ⟨1, 1, 1, [⟨0, 72, .cs, false, true, 0⟩]⟩,
    ⟨2, 1, 1, [⟨0, 72, .cs, false, true, 0⟩]⟩,
    ⟨3, 1, 1, [⟨0, 72, .cs, false, true, 0⟩]⟩,
    ⟨4, 1, 1, [⟨0, 72, .cs, false, true, 0⟩]⟩,
    ⟨5, 1, 1, [⟨0, 40, .cs, false, true, 0⟩]⟩ ]

/-- The words of a LNK page: first word, how many, the step between them, and their fields. -/
def rowsLNK : List RowDesc :=
  [ ⟨8, 1, 1, [⟨0, 16, .rw, true, true, 0⟩, ⟨16, 10, .rw, false, true, 400⟩]⟩,
    ⟨9, 1, 1, [⟨0, 16, .rc, false, false, 0⟩, ⟨16, 16, .rc, false, false, 0⟩, ⟨32, 16, .rc, false, false, 0⟩]⟩,
    ⟨10, 1, 1, [⟨0, 48, .rw, false, false, 0⟩]⟩,
    ⟨12, 8, 1, [⟨0, 12, .ro, false, false, 0⟩, ⟨13, 16, .rc, false, false, 0⟩, ⟨29, 16, .ro, false, false, 0⟩, ⟨45, 27, .rc, false, false, 0⟩]⟩,
    ⟨32, 16, 16, [⟨0, 1, .rw, true, true, 0⟩, ⟨1, 4, .rw, true, true, 0⟩, ⟨5, 1, .rw, false, true, 1⟩, ⟨6, 2, .rw, false, true, 0⟩, ⟨8, 11, .rw, false, true, 1528⟩, ⟨19, 1, .rw, false, true, 0⟩, ⟨20, 3, .rw, false, true, 0⟩, ⟨23, 1, .rw, false, true, 1⟩, ⟨24, 2, .rw, false, true, 0⟩]⟩,
    ⟨33, 16, 16, [⟨0, 3, .ro, false, false, 0⟩, ⟨3, 1, .ro, false, false, 0⟩, ⟨4, 1, .ro, false, false, 0⟩, ⟨5, 1, .ro, false, false, 0⟩, ⟨8, 16, .ro, false, false, 0⟩]⟩,
    ⟨34, 16, 16, [⟨0, 1, .ro, false, false, 0⟩, ⟨1, 8, .ro, false, false, 0⟩, ⟨9, 7, .ro, false, false, 0⟩, ⟨16, 1, .ro, false, false, 0⟩, ⟨17, 8, .ro, false, false, 0⟩]⟩,
    ⟨35, 16, 16, [⟨0, 1, .ro, false, false, 0⟩, ⟨1, 20, .ro, false, false, 0⟩, ⟨21, 16, .ro, false, false, 0⟩]⟩,
    ⟨36, 16, 16, [⟨0, 1, .ro, false, false, 0⟩, ⟨2, 8, .ro, false, false, 0⟩, ⟨10, 4, .ro, false, false, 0⟩, ⟨14, 6, .ro, false, false, 0⟩, ⟨20, 17, .ro, false, false, 0⟩, ⟨37, 16, .ro, false, false, 0⟩]⟩,
    ⟨37, 16, 16, [⟨0, 48, .ro, false, false, 0⟩, ⟨48, 1, .w1, false, false, 0⟩]⟩,
    ⟨38, 16, 16, [⟨0, 48, .rc, false, false, 0⟩, ⟨48, 16, .rc, false, false, 0⟩]⟩,
    ⟨39, 16, 16, [⟨0, 1, .rc, false, false, 0⟩, ⟨1, 12, .rc, false, false, 0⟩, ⟨13, 1, .rc, false, false, 0⟩, ⟨14, 16, .rc, false, false, 0⟩]⟩,
    ⟨40, 16, 16, [⟨0, 36, .rc, false, false, 0⟩, ⟨36, 36, .rc, false, false, 0⟩]⟩,
    ⟨41, 16, 16, [⟨0, 36, .rc, false, false, 0⟩, ⟨36, 36, .rc, false, false, 0⟩]⟩,
    ⟨42, 16, 16, [⟨0, 36, .rc, false, false, 0⟩, ⟨36, 36, .rc, false, false, 0⟩]⟩,
    ⟨43, 16, 16, [⟨0, 36, .rc, false, false, 0⟩, ⟨36, 36, .rc, false, false, 0⟩]⟩,
    ⟨44, 16, 16, [⟨0, 36, .rc, false, false, 0⟩, ⟨36, 36, .rc, false, false, 0⟩]⟩,
    ⟨45, 16, 16, [⟨0, 16, .rc, false, false, 0⟩, ⟨16, 16, .rc, false, false, 0⟩, ⟨32, 16, .rc, false, false, 0⟩, ⟨48, 24, .rc, false, false, 0⟩]⟩ ]

/-- The words of a MCB page: first word, how many, the step between them, and their fields. -/
def rowsMCB : List RowDesc :=
  [ ⟨8, 16, 1, [⟨0, 72, .rw, false, true, 0⟩]⟩,
    ⟨24, 16, 1, [⟨0, 72, .rw, false, true, 0⟩]⟩,
    ⟨40, 1, 1, [⟨0, 1, .w1, false, true, 0⟩, ⟨1, 1, .ro, false, true, 0⟩, ⟨2, 1, .w1, false, true, 0⟩, ⟨3, 1, .w1, false, true, 0⟩, ⟨4, 1, .ro, false, true, 0⟩, ⟨5, 1, .w1, false, true, 0⟩]⟩,
    ⟨48, 32, 1, [⟨0, 16, .rw, true, true, 0⟩, ⟨16, 16, .ro, false, true, 0⟩, ⟨32, 1, .w1, false, true, 0⟩, ⟨33, 1, .rw, true, true, 0⟩, ⟨34, 1, .rc, false, true, 0⟩, ⟨35, 1, .ro, false, true, 0⟩, ⟨36, 16, .rc, false, true, 0⟩]⟩,
    ⟨80, 1, 1, [⟨0, 36, .ro, false, true, 0⟩, ⟨36, 36, .rw, false, true, 0⟩]⟩,
    ⟨81, 1, 1, [⟨0, 16, .rw, true, true, 1000⟩, ⟨16, 16, .ro, false, true, 1000⟩, ⟨32, 1, .w1, false, true, 0⟩, ⟨33, 1, .w1, false, true, 0⟩, ⟨34, 16, .rc, false, true, 0⟩, ⟨50, 4, .rc, false, true, 0⟩]⟩,
    ⟨82, 1, 1, [⟨0, 2, .ro, false, true, 0⟩, ⟨2, 32, .ro, false, true, 0⟩]⟩ ]

/-- The words of a MSH page: first word, how many, the step between them, and their fields. -/
def rowsMSH : List RowDesc :=
  [ ⟨8, 1, 1, [⟨0, 2, .rw, false, false, 0⟩, ⟨2, 3, .rw, false, false, 0⟩, ⟨5, 5, .rw, false, false, 0⟩]⟩,
    ⟨9, 1, 1, [⟨0, 72, .ro, false, false, 0⟩]⟩,
    ⟨10, 1, 1, [⟨0, 72, .ro, false, false, 0⟩]⟩,
    ⟨16, 5, 1, [⟨0, 9, .ro, false, false, 0⟩, ⟨9, 16, .rc, false, false, 0⟩, ⟨25, 16, .rc, false, false, 0⟩]⟩,
    ⟨24, 5, 1, [⟨0, 9, .ro, false, false, 0⟩, ⟨9, 16, .rc, false, false, 0⟩, ⟨25, 16, .rc, false, false, 0⟩]⟩,
    ⟨32, 5, 1, [⟨0, 9, .ro, false, false, 0⟩, ⟨9, 16, .rc, false, false, 0⟩, ⟨25, 16, .rc, false, false, 0⟩]⟩,
    ⟨40, 5, 1, [⟨0, 9, .ro, false, false, 0⟩, ⟨9, 16, .rc, false, false, 0⟩, ⟨25, 16, .rc, false, false, 0⟩]⟩ ]

/-- The words of a PCI page: first word, how many, the step between them, and their fields. -/
def rowsPCI : List RowDesc :=
  [ ⟨8, 1, 1, [⟨0, 1, .ro, false, false, 0⟩, ⟨1, 1, .rw, false, false, 0⟩, ⟨2, 2, .rw, false, false, 3⟩, ⟨4, 1, .rw, false, false, 0⟩, ⟨5, 5, .rw, false, false, 0⟩]⟩,
    ⟨9, 1, 1, [⟨0, 6, .ro, false, false, 0⟩, ⟨6, 4, .ro, false, false, 0⟩, ⟨10, 2, .ro, false, false, 0⟩, ⟨12, 1, .ro, false, false, 0⟩]⟩,
    ⟨10, 1, 1, [⟨0, 64, .rw, false, false, 0⟩]⟩,
    ⟨16, 8, 2, [⟨0, 32, .rw, false, false, 0⟩, ⟨32, 32, .rw, false, false, 0⟩]⟩,
    ⟨17, 8, 2, [⟨0, 64, .rw, false, false, 0⟩]⟩ ]

/-- The words of a PHY page: first word, how many, the step between them, and their fields. -/
def rowsPHY : List RowDesc :=
  [ ⟨8, 1, 1, [⟨0, 6, .rw, false, false, 0⟩, ⟨6, 1, .rw, false, false, 0⟩, ⟨7, 1, .rw, false, false, 0⟩]⟩,
    ⟨9, 1, 1, [⟨0, 10, .ro, false, false, 0⟩, ⟨10, 10, .ro, false, false, 0⟩, ⟨20, 7, .ro, false, false, 0⟩, ⟨27, 7, .ro, false, false, 0⟩]⟩,
    ⟨10, 1, 1, [⟨0, 16, .rc, false, false, 0⟩]⟩ ]

/-- The words of a PUB page: first word, how many, the step between them, and their fields. -/
def rowsPUB : List RowDesc :=
  [ ⟨10, 1, 1, [⟨0, 2, .rw, false, false, 0⟩, ⟨2, 7, .rw, false, false, 0⟩, ⟨9, 2, .rw, false, false, 0⟩, ⟨11, 5, .rw, false, false, 0⟩, ⟨16, 1, .rw, false, false, 0⟩, ⟨17, 7, .rw, false, false, 0⟩, ⟨24, 6, .rw, false, false, 0⟩, ⟨30, 3, .rw, false, false, 0⟩]⟩,
    ⟨11, 1, 1, [⟨0, 48, .rw, false, false, 0⟩, ⟨48, 1, .rw, false, false, 0⟩, ⟨49, 12, .rw, false, false, 0⟩, ⟨61, 3, .rw, false, false, 0⟩]⟩,
    ⟨12, 1, 1, [⟨0, 16, .rw, false, false, 0⟩, ⟨16, 32, .rw, false, false, 0⟩, ⟨48, 7, .rw, false, false, 0⟩, ⟨55, 7, .rw, false, false, 0⟩]⟩,
    ⟨13, 1, 1, [⟨0, 26, .rw, false, false, 0⟩]⟩,
    ⟨14, 1, 1, [⟨0, 72, .rw, false, false, 0⟩]⟩,
    ⟨15, 1, 1, [⟨0, 72, .rw, false, false, 0⟩]⟩,
    ⟨16, 1, 1, [⟨0, 48, .rw, false, false, 0⟩]⟩,
    ⟨17, 1, 1, [⟨0, 5, .rw, false, false, 0⟩]⟩,
    ⟨18, 1, 1, [⟨0, 33, .ro, true, true, 0⟩, ⟨33, 4, .ro, true, true, 0⟩, ⟨37, 2, .ro, true, true, 0⟩]⟩,
    ⟨19, 1, 1, [⟨0, 64, .ro, false, true, 0⟩]⟩,
    ⟨20, 1, 1, [⟨0, 62, .ro, false, true, 0⟩]⟩,
    ⟨21, 1, 1, [⟨0, 26, .ro, false, true, 0⟩]⟩,
    ⟨22, 1, 1, [⟨0, 32, .ro, false, true, 0⟩, ⟨32, 32, .ro, false, true, 0⟩]⟩,
    ⟨23, 1, 1, [⟨0, 72, .ro, false, false, 0⟩]⟩,
    ⟨24, 1, 1, [⟨0, 36, .rc, false, false, 0⟩, ⟨36, 16, .rc, false, false, 0⟩, ⟨52, 16, .rc, false, false, 0⟩]⟩,
    ⟨25, 1, 1, [⟨0, 32, .rc, false, false, 0⟩, ⟨32, 32, .rc, false, false, 0⟩]⟩,
    ⟨26, 1, 1, [⟨0, 1, .rc, false, false, 0⟩, ⟨1, 1, .rc, false, false, 0⟩, ⟨2, 1, .rc, false, false, 0⟩, ⟨3, 1, .rc, false, false, 0⟩, ⟨4, 1, .rc, false, false, 0⟩]⟩,
    ⟨27, 1, 1, [⟨0, 7, .rw, false, false, 0⟩]⟩,
    ⟨32, 1, 1, [⟨0, 1, .cs, true, true, 0⟩, ⟨1, 1, .cs, true, true, 0⟩, ⟨2, 1, .cs, true, true, 0⟩, ⟨3, 2, .cs, true, true, 0⟩, ⟨5, 6, .cs, true, true, 0⟩, ⟨11, 1, .cs, false, true, 0⟩]⟩,
    ⟨33, 1, 1, [⟨0, 1, .ro, false, true, 0⟩, ⟨1, 1, .ro, false, true, 0⟩, ⟨2, 1, .ro, true, true, 0⟩, ⟨3, 1, .ro, false, true, 0⟩, ⟨8, 48, .ro, false, true, 0⟩]⟩,
    ⟨34, 1, 1, [⟨0, 72, .ro, false, true, 0⟩]⟩,
    ⟨35, 1, 1, [⟨0, 72, .rw, false, true, 0⟩]⟩,
    ⟨36, 1, 1, [⟨0, 1, .rw, false, true, 0⟩, ⟨1, 1, .w1, false, true, 0⟩, ⟨2, 1, .w1, false, true, 0⟩, ⟨3, 1, .ro, false, true, 0⟩, ⟨4, 16, .rc, false, true, 0⟩]⟩,
    ⟨37, 1, 1, [⟨0, 36, .rc, false, false, 0⟩, ⟨36, 36, .rc, false, false, 0⟩]⟩,
    ⟨40, 1, 1, [⟨0, 1, .rw, false, true, 0⟩, ⟨1, 1, .rw, false, true, 0⟩, ⟨2, 10, .rw, false, true, 0⟩]⟩,
    ⟨41, 1, 1, [⟨0, 1, .ro, false, false, 0⟩, ⟨1, 1, .ro, false, false, 0⟩, ⟨2, 5, .ro, false, false, 0⟩, ⟨7, 16, .rc, false, false, 0⟩]⟩,
    ⟨42, 1, 1, [⟨0, 72, .ro, false, false, 0⟩]⟩,
    ⟨43, 1, 1, [⟨0, 1, .rc, false, false, 0⟩, ⟨1, 1, .rc, false, false, 0⟩, ⟨2, 1, .rc, false, false, 0⟩]⟩,
    ⟨48, 32, 1, [⟨0, 2, .ro, true, true, 0⟩, ⟨2, 2, .ro, false, true, 0⟩, ⟨4, 1, .ro, false, false, 0⟩, ⟨5, 1, .ro, false, false, 0⟩]⟩,
    ⟨80, 32, 1, [⟨0, 2, .cs, true, true, 2⟩, ⟨2, 8, .cs, true, true, 0⟩, ⟨10, 8, .cs, true, true, 255⟩]⟩,
    ⟨192, 128, 1, [⟨0, 72, .rw, false, true, 0⟩]⟩,
    ⟨320, 192, 1, [⟨0, 72, .cs, false, true, 0⟩]⟩ ]

/-- The words of a PWR page: first word, how many, the step between them, and their fields. -/
def rowsPWR : List RowDesc :=
  [ ⟨10, 1, 1, [⟨0, 9, .rw, false, false, 0⟩]⟩,
    ⟨11, 1, 1, [⟨0, 2, .ro, true, true, 0⟩, ⟨2, 1, .ro, false, true, 0⟩, ⟨3, 1, .ro, false, true, 0⟩]⟩,
    ⟨12, 4, 1, [⟨0, 3, .ro, false, true, 0⟩, ⟨3, 2, .ro, true, true, 3⟩, ⟨5, 1, .ro, false, true, 0⟩, ⟨6, 1, .ro, false, true, 0⟩, ⟨7, 16, .rc, false, true, 0⟩]⟩,
    ⟨16, 1, 1, [⟨0, 64, .ro, true, true, 12297829382473034410⟩]⟩,
    ⟨17, 1, 1, [⟨0, 64, .ro, true, true, 12297829382473034410⟩]⟩,
    ⟨18, 1, 1, [⟨0, 6, .ro, true, true, 0⟩]⟩,
    ⟨19, 1, 1, [⟨0, 64, .rc, false, true, 0⟩]⟩,
    ⟨20, 1, 1, [⟨0, 64, .rc, false, true, 0⟩]⟩,
    ⟨21, 1, 1, [⟨0, 64, .ro, false, true, 0⟩]⟩,
    ⟨22, 1, 1, [⟨0, 12, .ro, false, true, 0⟩, ⟨12, 7, .ro, false, true, 0⟩, ⟨19, 12, .rw, false, true, 800⟩]⟩,
    ⟨23, 1, 1, [⟨0, 3, .rw, false, true, 0⟩]⟩,
    ⟨24, 1, 1, [⟨0, 12, .ro, false, true, 0⟩, ⟨12, 12, .rc, false, true, 4095⟩, ⟨24, 12, .ro, false, true, 0⟩, ⟨36, 12, .rw, false, true, 0⟩]⟩,
    ⟨25, 1, 1, [⟨0, 3, .rw, false, true, 0⟩]⟩,
    ⟨26, 1, 1, [⟨0, 16, .ro, false, true, 0⟩, ⟨16, 32, .ro, false, true, 0⟩]⟩,
    ⟨27, 1, 1, [⟨0, 8, .rc, false, true, 0⟩]⟩,
    ⟨28, 1, 1, [⟨0, 8, .rw, false, true, 0⟩]⟩ ]

/-- The words of a RUL page: first word, how many, the step between them, and their fields. -/
def rowsRUL : List RowDesc :=
  [ ⟨10, 1, 1, [⟨0, 48, .rw, false, false, 0⟩]⟩,
    ⟨12, 1, 1, [⟨0, 13, .ro, false, true, 0⟩, ⟨13, 1, .ro, false, true, 0⟩, ⟨14, 32, .ro, false, true, 0⟩]⟩,
    ⟨13, 1, 1, [⟨0, 72, .ro, true, true, 0⟩]⟩,
    ⟨14, 1, 1, [⟨0, 72, .ro, true, true, 0⟩]⟩,
    ⟨15, 1, 1, [⟨0, 1, .rc, false, true, 0⟩, ⟨1, 1, .rc, false, true, 0⟩, ⟨2, 1, .rc, false, true, 0⟩, ⟨3, 1, .rc, false, true, 0⟩, ⟨4, 1, .rc, false, true, 0⟩, ⟨5, 1, .rc, false, true, 0⟩]⟩,
    ⟨16, 1, 1, [⟨0, 6, .rw, false, true, 0⟩]⟩,
    ⟨17, 1, 1, [⟨0, 12, .rw, false, true, 0⟩]⟩,
    ⟨18, 1, 1, [⟨0, 2, .ro, true, true, 0⟩, ⟨2, 4, .ro, false, true, 0⟩, ⟨6, 2, .ro, false, true, 0⟩, ⟨8, 1, .ro, false, true, 0⟩, ⟨9, 1, .ro, false, true, 0⟩, ⟨10, 2, .ro, false, true, 0⟩, ⟨12, 6, .ro, false, true, 0⟩, ⟨18, 9, .ro, false, true, 0⟩, ⟨27, 7, .ro, false, true, 0⟩, ⟨34, 4, .ro, false, true, 0⟩, ⟨38, 1, .ro, false, true, 0⟩, ⟨39, 1, .ro, false, true, 0⟩, ⟨40, 1, .ro, false, true, 0⟩, ⟨41, 12, .ro, false, true, 0⟩]⟩,
    ⟨19, 1, 1, [⟨0, 6, .ro, false, true, 0⟩, ⟨6, 5, .ro, false, true, 0⟩, ⟨11, 2, .ro, false, true, 0⟩, ⟨13, 6, .ro, false, true, 0⟩, ⟨19, 5, .ro, false, true, 0⟩, ⟨24, 2, .ro, false, true, 0⟩]⟩,
    ⟨20, 1, 1, [⟨0, 18, .ro, false, true, 0⟩, ⟨18, 18, .ro, false, true, 0⟩, ⟨36, 18, .ro, false, true, 0⟩]⟩,
    ⟨21, 1, 1, [⟨0, 18, .ro, false, true, 0⟩, ⟨18, 18, .ro, false, true, 0⟩]⟩,
    ⟨22, 1, 1, [⟨0, 16, .ro, false, true, 0⟩, ⟨16, 16, .ro, false, true, 0⟩, ⟨32, 15, .ro, false, true, 0⟩]⟩,
    ⟨23, 1, 1, [⟨0, 48, .ro, false, true, 0⟩]⟩,
    ⟨24, 1, 1, [⟨0, 14, .ro, false, true, 0⟩, ⟨16, 16, .rc, false, true, 0⟩, ⟨32, 16, .rc, false, true, 0⟩, ⟨48, 16, .rc, false, true, 0⟩, ⟨64, 8, .rc, false, true, 0⟩]⟩,
    ⟨25, 1, 1, [⟨0, 12, .rw, false, true, 0⟩]⟩,
    ⟨26, 1, 1, [⟨0, 7, .ro, false, true, 0⟩, ⟨7, 1, .ro, false, true, 0⟩, ⟨8, 64, .ro, false, true, 0⟩]⟩,
    ⟨27, 1, 1, [⟨0, 13, .ro, false, true, 0⟩, ⟨13, 5, .ro, false, true, 0⟩, ⟨18, 9, .ro, false, true, 0⟩, ⟨27, 1, .ro, false, true, 0⟩]⟩,
    ⟨128, 64, 1, [⟨0, 18, .ro, false, true, 262143⟩, ⟨18, 18, .ro, false, true, 0⟩, ⟨36, 18, .ro, false, true, 0⟩, ⟨54, 18, .ro, false, true, 196608⟩]⟩ ]

/-- The words of a SUB page: first word, how many, the step between them, and their fields. -/
def rowsSUB : List RowDesc :=
  [ ⟨10, 1, 1, [⟨0, 2, .rw, false, false, 0⟩, ⟨2, 7, .rw, false, false, 0⟩, ⟨9, 2, .rw, false, false, 0⟩, ⟨11, 1, .rw, false, false, 0⟩, ⟨12, 1, .rw, false, false, 0⟩, ⟨13, 2, .rw, false, false, 0⟩, ⟨15, 5, .rw, false, false, 0⟩, ⟨20, 8, .rw, false, false, 0⟩]⟩,
    ⟨11, 1, 1, [⟨0, 48, .rw, false, false, 0⟩, ⟨48, 2, .rw, false, false, 0⟩, ⟨50, 12, .rw, false, false, 0⟩]⟩,
    ⟨12, 1, 1, [⟨0, 16, .rw, false, false, 0⟩, ⟨16, 7, .rw, false, false, 0⟩, ⟨23, 4, .rw, false, false, 0⟩, ⟨27, 3, .rw, false, false, 0⟩, ⟨30, 32, .rw, false, false, 0⟩, ⟨62, 1, .rw, false, false, 0⟩]⟩,
    ⟨13, 1, 1, [⟨0, 72, .rw, false, false, 0⟩]⟩,
    ⟨14, 1, 1, [⟨0, 72, .rw, false, false, 0⟩]⟩,
    ⟨15, 1, 1, [⟨0, 56, .rw, false, false, 0⟩]⟩,
    ⟨16, 1, 1, [⟨0, 6, .rw, false, false, 0⟩]⟩,
    ⟨17, 1, 1, [⟨0, 72, .rw, false, false, 0⟩]⟩,
    ⟨18, 1, 1, [⟨0, 72, .rw, false, false, 0⟩]⟩,
    ⟨19, 1, 1, [⟨0, 72, .rw, false, false, 0⟩]⟩,
    ⟨20, 1, 1, [⟨0, 72, .rw, false, false, 0⟩]⟩,
    ⟨21, 1, 1, [⟨0, 72, .rw, false, false, 0⟩]⟩,
    ⟨22, 1, 1, [⟨0, 6, .rw, false, false, 0⟩]⟩,
    ⟨23, 1, 1, [⟨0, 28, .ro, true, true, 0⟩, ⟨28, 4, .ro, true, true, 0⟩, ⟨32, 2, .ro, true, true, 0⟩, ⟨34, 1, .ro, false, false, 0⟩, ⟨35, 1, .ro, false, false, 0⟩]⟩,
    ⟨24, 1, 1, [⟨0, 62, .ro, false, true, 0⟩]⟩,
    ⟨25, 1, 1, [⟨0, 63, .ro, false, true, 0⟩]⟩,
    ⟨26, 1, 1, [⟨0, 48, .ro, false, false, 0⟩, ⟨48, 1, .ro, false, false, 0⟩, ⟨49, 7, .ro, false, false, 0⟩]⟩,
    ⟨27, 1, 1, [⟨0, 32, .ro, false, false, 0⟩, ⟨32, 32, .ro, false, false, 0⟩, ⟨64, 1, .ro, false, false, 0⟩, ⟨65, 1, .ro, false, false, 0⟩]⟩,
    ⟨28, 1, 1, [⟨0, 72, .ro, false, false, 0⟩]⟩,
    ⟨29, 1, 1, [⟨0, 48, .rc, false, false, 0⟩, ⟨48, 7, .rc, false, false, 0⟩, ⟨55, 1, .rc, false, false, 0⟩, ⟨56, 16, .rc, false, false, 0⟩]⟩,
    ⟨30, 1, 1, [⟨0, 36, .rc, false, false, 0⟩, ⟨36, 36, .rc, false, false, 0⟩]⟩,
    ⟨31, 1, 1, [⟨0, 16, .rc, false, false, 0⟩, ⟨16, 16, .rc, false, false, 0⟩, ⟨32, 16, .rc, false, false, 0⟩, ⟨48, 16, .rc, false, false, 0⟩]⟩,
    ⟨32, 1, 1, [⟨0, 16, .rc, false, false, 0⟩, ⟨16, 16, .rc, false, false, 0⟩, ⟨32, 16, .rc, false, false, 0⟩, ⟨48, 16, .rc, false, false, 0⟩]⟩,
    ⟨33, 1, 1, [⟨0, 16, .rc, false, false, 0⟩, ⟨16, 16, .rc, false, false, 0⟩, ⟨32, 16, .rc, false, false, 0⟩, ⟨48, 16, .rc, false, false, 0⟩]⟩,
    ⟨34, 1, 1, [⟨0, 6, .rc, false, false, 0⟩, ⟨8, 8, .rc, false, false, 0⟩, ⟨16, 1, .rc, false, false, 0⟩]⟩,
    ⟨40, 1, 1, [⟨0, 64, .rc, false, false, 0⟩]⟩,
    ⟨41, 1, 1, [⟨0, 64, .rc, false, false, 0⟩]⟩,
    ⟨42, 1, 1, [⟨0, 64, .rc, false, false, 0⟩]⟩,
    ⟨43, 1, 1, [⟨0, 64, .rc, false, false, 0⟩]⟩,
    ⟨44, 1, 1, [⟨0, 4, .rw, false, false, 0⟩]⟩,
    ⟨48, 64, 1, [⟨0, 2, .ro, true, true, 0⟩, ⟨2, 2, .ro, false, true, 0⟩, ⟨4, 1, .ro, false, false, 0⟩, ⟨5, 1, .ro, false, false, 0⟩, ⟨6, 1, .ro, false, false, 0⟩, ⟨7, 1, .ro, false, false, 0⟩]⟩ ]

/-- The words of a TEN page: first word, how many, the step between them, and their fields. -/
def rowsTEN : List RowDesc :=
  [ ⟨10, 1, 1, [⟨0, 24, .rw, false, false, 0⟩]⟩,
    ⟨11, 1, 1, [⟨0, 72, .rw, false, false, 0⟩]⟩,
    ⟨12, 1, 1, [⟨0, 44, .rw, false, false, 0⟩]⟩,
    ⟨13, 1, 1, []⟩,
    ⟨14, 1, 1, [⟨0, 4, .rw, false, false, 0⟩, ⟨4, 6, .rw, false, false, 0⟩]⟩,
    ⟨15, 1, 1, [⟨0, 1, .rc, false, false, 0⟩, ⟨1, 1, .rc, false, false, 0⟩, ⟨2, 1, .rc, false, false, 0⟩, ⟨3, 1, .rc, false, false, 0⟩]⟩,
    ⟨16, 16, 1, [⟨0, 3, .ro, true, true, 0⟩, ⟨3, 13, .ro, false, true, 0⟩, ⟨16, 16, .rc, false, true, 0⟩, ⟨32, 16, .rc, false, true, 0⟩]⟩,
    ⟨32, 16, 1, [⟨0, 64, .cs, true, true, 0⟩]⟩,
    ⟨48, 3, 1, [⟨0, 72, .cs, false, true, 0⟩]⟩,
    ⟨51, 1, 1, [⟨0, 40, .cs, false, true, 0⟩]⟩,
    ⟨52, 1, 1, [⟨0, 64, .rw, false, true, 0⟩]⟩,
    ⟨53, 1, 1, [⟨0, 16, .rw, false, true, 0⟩]⟩,
    ⟨64, 16, 4, [⟨0, 48, .rw, false, true, 0⟩, ⟨48, 1, .rw, false, true, 0⟩, ⟨49, 1, .rw, false, true, 0⟩]⟩,
    ⟨65, 16, 4, [⟨0, 52, .rw, false, true, 0⟩]⟩,
    ⟨66, 16, 4, [⟨0, 64, .rw, false, true, 0⟩]⟩,
    ⟨67, 16, 4, [⟨0, 64, .rw, false, true, 0⟩, ⟨64, 4, .rw, false, true, 0⟩]⟩,
    ⟨128, 32, 1, [⟨0, 64, .rw, false, true, 0⟩]⟩,
    ⟨192, 1, 1, [⟨0, 2, .ro, false, false, 0⟩, ⟨2, 4, .ro, false, false, 0⟩, ⟨6, 4, .ro, false, false, 0⟩, ⟨10, 4, .ro, false, false, 0⟩, ⟨14, 4, .ro, false, false, 0⟩, ⟨18, 8, .ro, false, false, 0⟩]⟩,
    ⟨193, 1, 1, [⟨0, 44, .ro, false, false, 0⟩]⟩,
    ⟨194, 1, 1, [⟨0, 44, .ro, false, false, 0⟩]⟩,
    ⟨195, 1, 1, [⟨0, 36, .rc, false, false, 0⟩, ⟨36, 36, .rc, false, false, 0⟩]⟩,
    ⟨196, 4, 1, [⟨0, 48, .ro, false, false, 0⟩, ⟨48, 1, .ro, false, false, 0⟩]⟩,
    ⟨384, 128, 1, [⟨0, 16, .rw, false, false, 0⟩, ⟨16, 16, .ro, false, false, 0⟩, ⟨32, 1, .rc, false, false, 0⟩, ⟨33, 16, .rc, false, false, 0⟩]⟩ ]

/-- The words of a TIM page: first word, how many, the step between them, and their fields. -/
def rowsTIM : List RowDesc :=
  [ ⟨8, 1, 1, [⟨0, 72, .ro, false, true, 0⟩]⟩,
    ⟨9, 1, 1, [⟨0, 2, .ro, true, true, 0⟩, ⟨4, 4, .ro, false, true, 0⟩, ⟨16, 24, .ro, false, true, 0⟩, ⟨40, 1, .ro, false, true, 0⟩, ⟨41, 1, .ro, false, true, 0⟩, ⟨42, 1, .ro, false, true, 0⟩]⟩,
    ⟨10, 1, 1, [⟨0, 4, .cs, true, true, 0⟩, ⟨4, 4, .cs, true, true, 0⟩, ⟨8, 4, .cs, true, true, 0⟩, ⟨12, 4, .cs, true, true, 0⟩, ⟨16, 8, .cs, true, true, 10⟩]⟩,
    ⟨11, 1, 1, [⟨0, 3, .rw, false, true, 0⟩, ⟨3, 1, .rw, false, true, 0⟩, ⟨8, 8, .rw, false, true, 0⟩, ⟨16, 8, .rw, false, true, 7⟩, ⟨24, 1, .rw, false, true, 0⟩]⟩,
    ⟨12, 1, 1, [⟨0, 3, .rw, false, true, 0⟩, ⟨3, 1, .rw, false, true, 0⟩, ⟨8, 8, .rw, false, true, 0⟩, ⟨16, 8, .rw, false, true, 7⟩, ⟨24, 1, .rw, false, true, 0⟩]⟩,
    ⟨13, 1, 1, [⟨0, 3, .ro, false, true, 0⟩, ⟨3, 1, .ro, false, true, 0⟩, ⟨4, 8, .ro, false, true, 0⟩, ⟨12, 24, .ro, false, true, 0⟩, ⟨36, 24, .ro, false, true, 0⟩, ⟨60, 12, .rc, false, true, 0⟩]⟩,
    ⟨14, 1, 1, [⟨0, 3, .ro, false, true, 0⟩, ⟨3, 1, .ro, false, true, 0⟩, ⟨4, 8, .ro, false, true, 0⟩, ⟨12, 24, .ro, false, true, 0⟩, ⟨36, 24, .ro, false, true, 0⟩, ⟨60, 12, .rc, false, true, 0⟩]⟩,
    ⟨15, 1, 1, [⟨0, 64, .ro, false, true, 0⟩]⟩,
    ⟨16, 1, 1, [⟨0, 24, .rw, false, true, 0⟩, ⟨24, 24, .rw, false, true, 0⟩]⟩,
    ⟨17, 1, 1, [⟨0, 1, .rw, false, true, 0⟩, ⟨1, 1, .rw, false, true, 0⟩, ⟨4, 4, .rw, false, true, 0⟩, ⟨8, 16, .rw, false, true, 0⟩, ⟨24, 3, .ro, false, true, 0⟩]⟩,
    ⟨18, 1, 1, [⟨0, 1, .rw, false, true, 0⟩, ⟨1, 1, .rw, false, true, 0⟩, ⟨8, 16, .rw, false, true, 0⟩, ⟨24, 1, .rw, false, true, 0⟩, ⟨25, 1, .ro, false, true, 0⟩]⟩,
    ⟨19, 1, 1, [⟨0, 16, .rw, false, true, 37⟩, ⟨16, 1, .ro, false, true, 0⟩, ⟨17, 1, .ro, false, true, 0⟩]⟩,
    ⟨20, 1, 1, [⟨0, 16, .rw, false, true, 50⟩, ⟨16, 24, .rw, false, true, 1000⟩]⟩,
    ⟨21, 1, 1, [⟨0, 72, .rw, false, true, 0⟩]⟩,
    ⟨22, 1, 1, [⟨0, 1, .rc, false, true, 0⟩, ⟨1, 1, .rc, false, true, 0⟩, ⟨2, 1, .rc, false, true, 0⟩, ⟨3, 1, .rc, false, true, 0⟩, ⟨4, 1, .rc, false, true, 0⟩, ⟨5, 1, .rc, false, true, 0⟩, ⟨6, 1, .rc, false, true, 0⟩]⟩ ]

/-- The words of a UCL page: first word, how many, the step between them, and their fields. -/
def rowsUCL : List RowDesc :=
  [ ⟨8, 128, 2, [⟨0, 48, .rw, false, false, 0⟩, ⟨48, 1, .rw, false, false, 0⟩, ⟨49, 12, .rw, false, false, 0⟩, ⟨61, 2, .rw, false, false, 0⟩]⟩,
    ⟨9, 128, 2, [⟨0, 16, .rw, false, false, 0⟩, ⟨16, 1, .rw, false, false, 0⟩, ⟨17, 10, .rw, false, false, 0⟩, ⟨27, 6, .rw, false, false, 0⟩, ⟨33, 1, .rw, false, false, 0⟩]⟩ ]

/-- The words of a UDF page: first word, how many, the step between them, and their fields. -/
def rowsUDF : List RowDesc :=
  [ ⟨8, 10, 1, [⟨0, 6, .rw, false, false, 0⟩, ⟨6, 1, .rw, false, false, 0⟩, ⟨7, 16, .rc, false, false, 0⟩]⟩ ]

/-- Rows moved by a number of words. -/
def shiftRows (n : Nat) (l : List RowDesc) : List RowDesc := l.map (fun r => { r with first := r.first + n })

/-- The key words of `n` pairs from a word on: two slots of six words each in a pair (R215). -/
def keyRows (first n : Nat) : List RowDesc :=
  rowsKEY.map (fun r => { r with first := first + r.first, count := 2 * n, stride := 6 })

/-- The block words of a page. The key words of a SUB page are sixteen pairs from word 320 on, and those of a PUB page
four from word 112 on (R215, R360). The port block of an uplink page is a lane block at 8 to 23,
and its pair page holds a PAIRCFG word and a PAIR word (R156). -/
def blockRows (k : PageKind) : List RowDesc :=
  match k with
  | .dev => rowsDEV | .csn => rowsCSN | .tim => rowsTIM | .rul0 => rowsDOM ++ rowsRUL | .rul => rowsDOM
  | .msh => rowsMSH | .fer => rowsFER | .lnk => rowsLNK | .sub => rowsSUB ++ keyRows 320 16 | .pub => rowsPUB ++ keyRows 112 4 | .dsk => rowsDSK
  | .icu => rowsICU | .dmc => rowsDMC | .phy => rowsPHY | .dma => rowsDMA | .dmb => rowsDMB
  | .upl => (rowsLNK.filter (fun r => 32 ≤ r.first)).map (fun r => { r with first := r.first - 24, count := 1 })
  | .uplPair => [ ⟨8, 1, 1, [⟨0, 2, .rw, true, false, 0⟩, ⟨16, 10, .rw, false, false, 400⟩]⟩,
      ⟨9, 1, 1, [⟨0, 12, .ro, false, false, 0⟩, ⟨13, 16, .rc, false, false, 0⟩, ⟨29, 16, .ro, false, false, 0⟩,
        ⟨45, 27, .rc, false, false, 0⟩]⟩ ]
  | .ucl => rowsUCL | .udf => rowsUDF | .pci => rowsPCI | .pwr => rowsPWR | .bst => rowsBST | .blt => rowsBLT
  | .ten => rowsTEN | .dpx => rowsDPX | .mcb => rowsMCB

/-- All described words of a page from word 2 on. -/
def pageRows (p : Nat) : List RowDesc :=
  match pageKind p with
  | none => []
  | some k => rowsHeader ++ (if hasDoorbell p then rowsDoorbell else []) ++ blockRows k

/-- Whether a row describes a word. -/
def rowHas (r : RowDesc) (w : Nat) : Bool :=
  decide (r.first ≤ w) && (w - r.first) % r.stride == 0 && decide ((w - r.first) / r.stride < r.count)

/-- The fields of a word of a page; none for a reserved word (R52). -/
def wordFields (p w : Nat) : Option (List FieldDesc) :=
  if w ≤ 1 then (pageKind p).map (fun _ => [])
  else match (pageRows p).filter (fun r => rowHas r w) with
    | [] => none
    | l => some (l.flatMap (fun r => r.fields))

/-- The mask of the fields that a test accepts. -/
def fieldMask (l : List FieldDesc) (p : FieldDesc → Bool) : Word :=
  l.foldl (fun m f => if p f then putField m f.lo f.len (2 ^ f.len - 1) else m) 0

/-- The reset value of the word at a storage address (page * 512 + word); 0 where the tables give no other
(R73, R123, R156, R157, R276, R329, R359, R488, R553, R554, R568, R602, R617). -/
def resetWord (a : Nat) : Word :=
  let p := a / 512
  let w := a % 512
  if p < 8 then
    (if p = 0 then (if w = 8 then 0x010400#72 else 0)
     else if p = 2 then
      (if w = 10 then 0x0A0000#72 else if w = 11 ∨ w = 12 then 0x070000#72 else if w = 19 then 0x25#72
       else if w = 20 then 0x3E80032#72 else 0)
     else if p = 4 then (if 128 ≤ w ∧ w < 192 then BitVec.ofNat 72 (0x3FFFF + 0x30000 * 2 ^ 54) else 0)
     else 0)
  else if 0x100 ≤ p ∧ p < 0x200 then
    (if p % 4 = 0 then (if w = 11 then 0x80000000#72 else 0)
     else if p % 4 = 1 then
      (if w = 8 then 0x1900000#72 else if 32 ≤ w ∧ w < 288 ∧ w % 16 = 0 then 0x85F820#72 else 0)
     else if p % 4 = 3 then (if 80 ≤ w ∧ w < 112 then 0x3FC02#72 else 0)
     else 0)
  else if 0x240 ≤ p ∧ p ≤ 0x243 then
    (if 32 ≤ w ∧ w < 192 then
      (let n := (p - 0x240) * 160 + (w - 32)
       if (288 ≤ n ∧ n ≤ 319) ∨ (495 ≤ n ∧ n ≤ 526) ∨ 530 ≤ n then 0x8000#72 else 0)
     else 0)
  else if 0x260 ≤ p ∧ p ≤ 0x263 then (if w = 22 then 0x18#72 else 0)
  else if (0x280 ≤ p ∧ p ≤ 0x287) ∨ p = 0x28C ∨ p = 0x28D then (if w = 8 then 0x85F820#72 else 0)
  else if 0x288 ≤ p ∧ p ≤ 0x28B then (if w = 8 then 0x1900000#72 else 0)
  else if p = 0x290 then (if w = 8 then 0xC#72 else 0)
  else if p = 0x2A0 then
    (if 12 ≤ w ∧ w ≤ 15 then 0x18#72 else if w = 16 ∨ w = 17 then 0xAAAAAAAAAAAAAAAA#72
     else if w = 22 then BitVec.ofNat 72 (0x320 * 2 ^ 19) else 0)
  else if 0x4800 ≤ p ∧ p < 0x4810 then (if w = 24 then 0xFFF000#72 else 0)
  else if p = 0x2B0 then (if w = 13 then 0xC8#72 else if w = 16 then 0x80000000#72 else 0)
  else if p = 0x2D0 then (if w = 16 then 1#72 else 0)
  else if p = 0x2E0 then (if w = 8 then 0x60#72 else 0)
  else if p = 0x2F0 then (if w = 81 then 0x3E803E8#72 else 0)
  else 0

end Sys2Proof.Machine
end

