-- ==== Sys2Proof/Machine/Table.lean ====
section
/-! DEFINITION. Sparse tables: lists of (key, value) pairs with strictly rising keys, in which no entry holds the
value that an unlisted key has. Equal contents are then equal lists. -/

namespace Sys2Proof.Machine
open Sys2Proof

/-- A table from numbers to values; an unlisted key has the type's default value. -/
abbrev Tbl (α : Type) := List (Nat × α)

/-- The value at a key. -/
def tget {α : Type} [Inhabited α] : Tbl α → Nat → α
  | [], _ => default
  | (k, v) :: t, a => if k = a then v else tget t a

/-- The table with the entry of a key removed. -/
def tdel {α : Type} : Tbl α → Nat → Tbl α
  | [], _ => []
  | (k, v) :: t, a => if k = a then t else if a < k then (k, v) :: t else (k, v) :: tdel t a

/-- The table with an entry put at a key, keys kept rising. -/
def tput {α : Type} : Tbl α → Nat → α → Tbl α
  | [], a, x => [(a, x)]
  | (k, v) :: t, a, x =>
    if k = a then (a, x) :: t else if a < k then (a, x) :: (k, v) :: t else (k, v) :: tput t a x

/-- The table with a value written at a key: writing the default value removes the entry. -/
def tset {α : Type} [DecidableEq α] [Inhabited α] (t : Tbl α) (a : Nat) (x : α) : Tbl α :=
  if x = default then tdel t a else tput t a x

/-- The table with the value at a key changed by a function. -/
def tmod {α : Type} [DecidableEq α] [Inhabited α] (t : Tbl α) (a : Nat) (f : α → α) : Tbl α :=
  tset t a (f (tget t a))

/-- All keys of the table lie above a bound, rise strictly, and no entry holds the default value. -/
def twfFrom {α : Type} [DecidableEq α] [Inhabited α] (t : Tbl α) (b : Option Nat) : Bool :=
  match t with
  | [] => true
  | (k, v) :: r => (match b with | none => true | some m => decide (m < k)) && decide (v ≠ default) && twfFrom r (some k)

/-- The canonical form: keys rise strictly and no entry holds the default value. -/
def twf {α : Type} [DecidableEq α] [Inhabited α] (t : Tbl α) : Bool := twfFrom t none

/-- The least natural number below `n` that a test accepts. -/
def findBelow (p : Nat → Bool) : Nat → Option Nat
  | 0 => none
  | n + 1 => match findBelow p n with
    | some k => some k
    | none => if p n then some n else none

/-- The numbers below `n` that a test accepts, in rising order. -/
def filterBelow (n : Nat) (p : Nat → Bool) : List Nat := (List.range n).filter p

/-- A state changed for each element of a list, in order. -/
def forEach {α σ : Type} (l : List α) (s : σ) (f : σ → α → σ) : σ := l.foldl f s

/-- A count that stops at its field's greatest value. -/
def satInc (v max : Nat) : Nat := if v < max then v + 1 else max

end Sys2Proof.Machine
end

