-- ==== Sys2Proof/Machine/State.lean ====
section
/-! DEFINITION. The state of the DW-1024: the waiting commands, true time, every register of every page (one table of
storage words, `Machine/Fields.lean`), and the state behind the registers, block by block. Plain data throughout.
Decisions: log entries 7 (DESIGN CHOICE), 8 (DESIGN CHOICE), 9 (DESIGN CHOICE), 79 (DESIGN CHOICE). -/

namespace Sys2Proof.Machine
open Sys2Proof

/-- Why a command has no next state by the model's own limits. No command of the block raises one: every row of the
table has its effect as a next state. Safe: the machine stops rather than goes on. -/
inductive Fault where
  /-- Raised by no command; kept because the interface asks for a fault type. Safe. -/
  | none
  deriving DecidableEq, Repr

/-- Why a command is not performed. -/
inductive Refusal where
  /-- A command that has no meaning yet; raised only by its arm of `exec`. Safe. -/
  | notModelled (mnemonic : String)
  deriving DecidableEq, Repr

/-- A register access that waits for a block's reset to end (R55, R56): its number, initiator, virtual function or
tenant operand, page, word offset, whether it writes, the value, the true time of issue, and whether an instruction waits for it. -/
structure StalledAccess where
  id : Nat
  init : Nat
  vf : Nat
  page : Nat
  off : Nat
  write : Bool
  value : Word
  issued : Nat
  insn : Bool := false
  va : Nat := 0
  inst : Nat := 0
  deriving DecidableEq, Repr

/-- What OTP and the fuses hold (R73, R92, R558); blank here (assumption 7). -/
structure Otp where
  rooth0 : Nat := 0
  rooth1 : Nat := 0
  revoke : Nat := 0
  svn : Nat := 0
  policy : Nat := 0
  dbgh : Nat := 0
  dsec : Nat := 0
  uid : Nat := 0
  step : Nat := 0
  grade : Nat := 0
  fuses : Nat := 0
  epStrap : Bool := false
  deriving DecidableEq, Repr, Inhabited

/-- The proposal and its log, beside the CSN registers (R76 to R91). -/
structure Csn where
  /-- Staged entries in ascending order of page * 512 + word (R78). -/
  entries : List (Nat × Word) := []
  /-- The proposer's digest as sealed, or as written for a log entry (R91). -/
  sealDig : Word := 0
  /-- Device time, in ns, at which the window opened (R79). -/
  windowAt : Nat := 0
  /-- The party that countersigned (R91). -/
  signer : Nat := 0
  /-- Device time at which the countersign was accepted, A (R84). -/
  acceptAt : Nat := 0
  /-- The commit instant T fixed at A; none when no common boundary falls within A + 1.0 s (R84). -/
  commitAt : Option Nat := none
  /-- The last proposal ended with outcome 3 and none was opened since (R80). -/
  expired : Bool := false
  /-- Log entries read through LIDX since they were written, and entries ever written (R91). -/
  logRead : Tbl Bool := []
  logUsed : Tbl Bool := []
  /-- The CS words as they were before the last commit instant, and that instant (R85). -/
  prev : Tbl Word := []
  prevSet : Tbl Bool := []
  lastT : Nat := 0
  deriving DecidableEq, Repr, Inhabited

/-- What the time base knows of one source beside its registers (R102 to R107, R114 to R120). -/
structure TimeSrc where
  qual : Bool := false
  /-- Consecutive good exchanges, frames or edges. -/
  run : Nat := 0
  /-- Consecutive missing frames or edges. -/
  miss : Nat := 0
  /-- The offsets of the last sixteen exchanges, newest first. -/
  offs : List Int := []
  /-- The last measured offset, in ns; positive when the device is behind. -/
  offset : Int := 0
  /-- The device time at which the source's last mark, edge or exchange fell. -/
  lastMark : Nat := 0
  /-- The source time that the last IRIG-B frame carried, in seconds TAI. -/
  lastSec : Int := 0
  /-- A Sync of a two-step exchange waits for its Follow_Up: sequence, receive stamp, correction. -/
  wait : Option (Nat × Nat × Int) := none
  meanPath : Nat := 0
  /-- True time of the last Sync or Follow_Up and of the last Announce, and their intervals. -/
  lastSync : Nat := 0
  syncInt : Nat := 0
  lastAnn : Nat := 0
  annInt : Nat := 0
  announced : Bool := false
  annOk : Bool := false
  gmId : Nat := 0
  steps : Nat := 0
  prio1 : Nat := 0
  prio2 : Nat := 0
  accuracy : Nat := 0
  inaccuracy : Nat := 0
  /-- Device time since which the source has been qualified without a break (R107). -/
  since : Nat := 0
  /-- The source has been measured and used (stepped to or slewed in) since it was selected (R102). -/
  used : Bool := false
  refused : Bool := false
  deriving DecidableEq, Repr, Inhabited

/-- The time base (R99 to R120). Device time is the base value, plus the true time since the base, plus the part of
the slew done since. -/
structure TimeBase where
  /-- Device time, in ns since 0 s, at true time `at`. -/
  base : Nat := 0
  baseAt : Nat := 0
  /-- The offset still to be slewed out at `baseAt`, in ns; positive when the device is behind (R101). -/
  slew : Int := 0
  /-- Sources PTP-A, PTP-B, IRIG-B and 1PPS under the keys 1 to 4. -/
  srcs : Tbl TimeSrc := []
  /-- ERREST at `errAt`, and whether it grows since (R112). -/
  errBase : Nat := 0
  errAt : Nat := 0
  holding : Bool := false
  /-- A source has been stepped to or slewed in since power-on (R110). -/
  everUsed : Bool := false
  /-- The offset of each replica (R33) from the time base, in ns: ferrules 0 to 63, uplink gateways 64 to 71, desks
  72 to 75. -/
  replicas : Tbl Int := []
  /-- True time of the last PTP Sync, Announce and Pdelay_Req sent on each lane (R117, R149). -/
  lastSyncTx : Tbl Nat := []
  lastAnnTx : Tbl Nat := []
  lastPdelayTx : Tbl Nat := []
  /-- Sequence numbers of the PTP messages sent on each lane. -/
  ptpSeq : Tbl Nat := []
  deriving DecidableEq, Repr, Inhabited

/-- What a port sends in one frame. GOOSE members are normalised values under their type codes (R348); device times
are in ns. -/
inductive TxBody where
  | goose (pub st sq tal time : Nat) (quality : Nat) (members : List (Nat × Nat))
  | sv (pub stroke smpSynch : Nat) (asdus : List SvAsdu)
  | ptpSync (seq : Nat)
  | ptpFollowUp (seq origin : Nat)
  | ptpAnnounce (seq : Nat) (msg : PtpAnnounce) (tlv : Option Nat)
  | pdelayReq (seq : Nat)
  | pdelayResp (seq t2 : Nat)
  | pdelayRespFollow (seq t3 : Nat)
  | forwarded (frame : RxFrame)
  | cell (octets : List Nat)
  | raw (octets : List Nat)
  | dpxStatus (version : Nat) (msg : DpxStatus)
  | dpxOutput (version : Nat) (msg : DpxOutput)
  deriving DecidableEq, Repr

/-- A frame ready in a port's transmit scheduler: its class (0 critical publication, 1 ordinary publication, 2 PTP,
3 forwarded, 4 queue pair, 5 duplex; R144, R346), whether it is a sign-off frame, its redundancy tag and the key ID of
its authentication tag (R141, R347). -/
structure TxFrame where
  cls : Nat
  signoff : Bool
  red : RedTag
  keyId : Option Nat
  body : TxBody
  deriving DecidableEq, Repr

/-- A cell-link command frame ready for a stroke: command words, BLK, IND, and the device time it became ready
(R178, R354). -/
structure CellCommand where
  stroke : Nat
  words : List Nat
  blk : Bool
  ind : Bool
  readyAt : Nat
  deriving DecidableEq, Repr

/-- The cell-link side of a lane (R171 to R183). Times are true times in ns. -/
structure Cell where
  /-- Entry into LST 3, and the last entry into LST 5. -/
  enteredAt : Nat := 0
  faultAt : Nat := 0
  /-- A valid capability frame of the cell has been received since synchronisation, and its SEEN was 1. -/
  gotCap : Bool := false
  cellSeen : Bool := false
  minPer : Nat := 0
  capAt : Nat := 0
  /-- The echo phase: running, next index, sum of round trips, and the last bit of the request under way; in tenths of a
  ns. -/
  echoing : Bool := false
  echoIdx : Nat := 0
  echoSum : Nat := 0
  echoOut : Option Nat := none
  replyAt : Nat := 0
  /-- The last command or sign-off frame sent: its SNUM, its stroke, and the time of its last bit in tenths of a ns. -/
  last : Option (Nat × Nat × Nat) := none
  /-- Strokes whose frame was sent and not yet judged, and strokes whose status was accepted (R180, R181). -/
  sent : List Nat := []
  answered : List Nat := []
  fails : Nat := 0
  goods : Nat := 0
  /-- Round trips of this second in tenths of a ns, and the CLEN that launches still use until the next stroke boundary
  (R179). -/
  rttSum : Nat := 0
  rttN : Nat := 0
  nextClen : Option Nat := none
  ready : List CellCommand := []
  /-- The PERIOD in effect, in ns (R168, R171). -/
  period : Nat := 0
  /-- The sign-off transmitter's copy: anchor, period, CLOFS, CLEN, image (R183). -/
  soCopy : Option (Nat × Nat × Nat × Nat × List Nat) := none
  deriving DecidableEq, Repr, Inhabited

/-- A port beside its registers: lanes 0 to 1,023, uplinks 1,024 to 1,031, MGT0 and MGT1 1,032 and 1,033. -/
structure Port where
  txq : List TxFrame := []
  /-- The last frame put on the line, and the true time. -/
  sent : Option TxFrame := none
  sentAt : Nat := 0
  /-- EN went to 0 and the frame in progress has not ended; the transmitter drives the line (R126). -/
  stopping : Bool := false
  driving : Bool := false
  /-- The signal at the receiver and the synchronisation of its PCS, which a reset of the ferrule does not touch (R152). -/
  sig : Bool := false
  pcs : Bool := false
  /-- Pdelay_Req under way: its sequence number and its sending stamp (R149). -/
  pdelay : Option (Nat × Nat) := none
  /-- The last smpCnt of the learned stream (R150). -/
  lastSmp : Option Nat := none
  cell : Cell := {}
  deriving DecidableEq, Repr, Inhabited

/-- The duplicate window of a pair, oldest entry first: source MAC, sequence number, true time of creation (R137). Pairs
8 f + j of the ferrules, and 512 + j of the uplinks. -/
structure Pair where
  window : List (Nat × Nat × Nat) := []
  deriving DecidableEq, Repr, Inhabited

/-- What a subscription holds beside its registers (R193 to R212). -/
structure Sub where
  types : List Nat := []
  talm : Nat := 0
  ident : List Nat := []
  /-- A SETPOL that waits for a boundary: the device time of the boundary, LPOL, SIMOK (R191). -/
  setpol : Option (Nat × Nat × Bool) := none
  /-- Accepted positions by stroke: stroke, position, words (R199). -/
  rx : List (Nat × Nat × List Word) := []
  /-- Decided strokes with the device time of the decision, newest first (R208). -/
  decided : List (Nat × Nat) := []
  /-- Arrival-aligned ASDUs accepted since the last cut-off: smpCnt and words (R200). -/
  queue : List (Nat × List Word) := []
  /-- The last stroke cut (R200, R204), plus 1. -/
  cut : Nat := 0
  /-- The last accepted word of each channel, and whether it has one (R212). -/
  lastWord : Tbl Word := []
  lastSet : Tbl Bool := []
  /-- GOOSE members as held (R203). -/
  held : List Word := []
  /-- Expiry was already counted at a cut-off (R204). -/
  expired : Bool := false
  /-- The device time since which the receive buffer has run, plus 1: its CREATE, or the end of its reset (R213, R634). -/
  since : Nat := 0
  /-- What was decided or cut for strokes that have not passed: stroke, presence, words (R208). -/
  sent : List (Nat × Bool × List Word) := []
  deriving DecidableEq, Repr, Inhabited

/-- A decision with its input words on its way to a consuming ferrule (R208, R223, R226). -/
structure SampleMsg where
  ferrule : Nat
  sub : Nat
  stroke : Nat
  pres : Bool
  words : List Word
  deriving DecidableEq, Repr

/-- A sample ring of a ferrule: first word, frames, words of a frame without its header; and the ring it replaces while
a changeover runs (R230, R314). -/
structure Ring where
  addr : Nat := 0
  depth : Nat := 0
  words : Nat := 0
  old : Option (Nat × Nat × Nat) := none
  deriving DecidableEq, Repr, Inhabited

/-- A ferrule's view of one domain (R224): the last stroke closed plus 1, and the inputs that arrived, by subscription
and stroke, with their presence and the device time of arrival. -/
structure FerDom where
  closed : Nat := 0
  arrived : List (Nat × Nat × Bool × Nat) := []
  deriving DecidableEq, Repr, Inhabited

/-- A ferrule beside its registers. -/
structure Ferrule where
  /-- Device times of the first and last drop of an open gap, and the entries lost in it (R243). -/
  gapFirst : Nat := 0
  gapLast : Nat := 0
  gapLost : Nat := 0
  /-- A GAP entry of cause 1 is owed: first loss, last loss, entries (R241, R243). -/
  owed : Option (Nat × Nat × Nat) := none
  /-- Skipped strokes by function: first skipped, last skipped, cause (R243). -/
  skips : List (Nat × Nat × Nat × Nat) := []
  /-- The state map: bit 0 the selector, bit 1 pending, by pair (R259). -/
  smap : Tbl Nat := []
  /-- In reset by a ferrule reset; the reset began at this device time (R275). -/
  inReset : Bool := false
  deriving DecidableEq, Repr, Inhabited



/-- A trace packet in a source's queue: type, payload, stamp, extension word (R586, R587). -/
structure Packet where
  ty : Nat
  payload : Nat
  stamp : Nat
  ext : Option Word
  deriving DecidableEq, Repr

/-- The blotter beside its registers (R585 to R590). -/
structure Blot where
  /-- Packets queued, by SRC code, oldest first; packets lost since the last GAP of a source. -/
  queues : Tbl (List Packet) := []
  lost : Tbl Nat := []
  mem : Tbl Word := []
  /-- Stamps of the last packet and of the last SYNC written; a SYNC comes before the next packet. -/
  last : Nat := 0
  lastSync : Nat := 0
  syncNext : Bool := true
  /-- Words still to be written after a trigger. -/
  post : Option Nat := none
  /-- Sources that wrote PDOWN and owe RESYNC (R589). -/
  down : List Nat := []
  deriving DecidableEq, Repr, Inhabited

/-- A nib beside its registers (R246 to R264, R285, R287). Addresses are relative to the parts of the running
function; an X or Y half that is not listed has not been written in this run (R253). -/
structure Nib where
  /-- The stroke whose runs the nib performs, the slots that are still to run, and the true time of the earliest start
  (R247). -/
  stroke : Nat := 0
  queue : List Nat := []
  startAt : Nat := 0
  slot : Nat := 0
  pc : Nat := 0
  cyc : Nat := 0
  d : Tbl Half := []
  a : Tbl Nat := []
  m : Tbl Nat := []
  sp : Nat := 0
  lc : Tbl Nat := []
  acc : Tbl Word := []
  fF : Bool := false
  fZ : Bool := false
  fN : Bool := false
  fV : Bool := false
  released : Bool := false
  ret : List Nat := []
  /-- Active loop levels, innermost first: counter, first parcel of the body, end address (R300). -/
  loops : List (Nat × Nat × Nat) := []
  x : Tbl Half := []
  y : Tbl Half := []
  out : Tbl Word := []
  /-- The words of the store digest, newest first (R264), and the output words as released. -/
  stores : List Word := []
  outs : List Word := []
  deriving DecidableEq, Repr, Inhabited

/-- Where one placement of a function lies (R314): ferrule (64 for none), nib, slot; inkwell words of the image store, stroke
header, output window, state area and checkpoint area; bases of the program, X and Y parts and of the state pairs. -/
structure Place where
  fer : Nat := 64
  nib : Nat := 0
  slot : Nat := 0
  img : Nat := 0
  hdr : Nat := 0
  out : Nat := 0
  st : Nat := 0
  ck : Nat := 0
  prog : Nat := 0
  x : Nat := 0
  y : Nat := 0
  smap : Nat := 0
  deriving DecidableEq, Repr, Inhabited

/-- A descriptor as read from a staging area (R308): FD0 to FD3, targets, bindings, and the image words. -/
structure Descr where
  fd : List Word := []
  targets : List Word := []
  binds : List Word := []
  prog : List Word := []
  xcon : List Word := []
  ycon : List Word := []
  deriving DecidableEq, Repr, Inhabited

/-- A move with its new placements (R325, R327): whether it has a shadow stroke, which twins are new (bit 0 A, bit 1 B),
the boundaries Nr and Ns, how its comparison stands, and whether it is the retry. -/
structure Move where
  a : Place := {}
  b : Place := {}
  twins : Nat := 0
  shadow : Bool := false
  nr : Nat := 0
  ns : Nat := 0
  /-- The images of the new placements are loaded, and Nr is set. -/
  loaded : Bool := false
  /-- Messages of the shadow stroke agreed, by twin and point; twins whose message disagreed; the outcome is queued. -/
  agreed : List (Nat × Nat) := []
  bad : Nat := 0
  told : Bool := false
  /-- Both new twins are compared with each other (R325). -/
  pair : Bool := false
  retry : Bool := false
  deriving DecidableEq, Repr, Inhabited

/-- A function beside its view words (R307 to R328). -/
structure Fn where
  desc : Descr := {}
  a : Place := {}
  b : Place := {}
  /-- The images of the present placement are loaded (R312). -/
  loaded : Bool := false
  /-- The device time of the boundary at which a DESTROY takes effect (R310). -/
  destroyAt : Option Nat := none
  /-- New images of an UPDATE, and the boundary once they are loaded (R310, R328). -/
  update : Option (Descr × Option Nat) := none
  ckpt : Option Nat := none
  move : Option Move := none
  /-- The twin that runs alone: 1 A, 2 B; 0 both; and what it becomes at the next stroke boundary, plus 1 (R273). -/
  alone : Nat := 0
  aloneNext : Nat := 0
  /-- A twin's run of a stroke has ended with END and waits for the decision, plus 1; twin A, twin B (R260, R272). -/
  waitA : Nat := 0
  waitB : Nat := 0
  /-- A decision that arrived while the run was in progress: stroke plus 1, whether A commits, whether B commits (R272). -/
  heldA : Nat × Bool × Bool := (0, false, false)
  heldB : Nat × Bool × Bool := (0, false, false)
  /-- The committed state words while the function is in transit or frozen (R326, R523). -/
  carried : List Word := []
  /-- The last stroke run or skipped, plus 1 (R237, R326). -/
  lastRun : Nat := 0
  /-- The first stroke since which it has been placed without a break, and since which it has been on its present ferrules (R312,
  R325, R326). -/
  first : Nat := 0
  here : Nat := 0
  /-- A placement is kept while the function is held as one in transit (R522). -/
  held : Bool := false
  deriving DecidableEq, Repr, Inhabited

/-- An event of the ruler (R304). -/
inductive RulEvent where
  | nibFault (ferrule nib : Nat)
  | twinOutcome (fn tws : Nat)
  | shadow (fn : Nat) (agree : Bool)
  | slice (words : List Word)
  | nibReturn (ferrule nib : Nat)
  | command
  deriving DecidableEq, Repr

/-- A doorbell command of the ruler that has been accepted (R304): opcode, CMD word, handle index, ARG0, initiator,
tenant, and whether its staging area has been read. -/
structure RulCmd where
  opc : Nat
  cmd : Word
  index : Nat
  arg : Word
  init : Nat
  tenant : Nat
  started : Bool := false
  deriving DecidableEq, Repr

/-- A reserved flow (R317, R318): kind 0 sample, 1 output, 2 gateway leg, 3 decision, 4 shadow; its subscription or
function; placement; source and destination; flits, data slots, first slot; links with their slot offsets from s0; and
the number of its links to each destination. A link is router * 8 + port, or 576 + k out of the gateway of uplink k. -/
structure Flow where
  kind : Nat := 0
  key : Nat := 0
  twin : Nat := 0
  src : Nat := 0
  dsts : List Nat := []
  w : Nat := 0
  r : Nat := 0
  s0 : Nat := 0
  links : List (Nat × Nat) := []
  /-- Σ δ in mesh cycles to each destination. -/
  sums : List (Nat × Nat) := []
  deriving DecidableEq, Repr, Inhabited

/-- A message of a function to an egress or comparison point (R263, R270): outputs with the store digest of a twin, or
an error notice; `shadow` for a shadow flow. Points are ferrules 0 to 63 and the gateways of uplinks 0 to 7 as 64 to
71. -/
structure OutMsg where
  fn : Nat
  twin : Nat
  point : Nat
  stroke : Nat
  err : Bool
  /-- A notice for a decision missed while its sender was not in RUN, which calls for no re-ruling (R272). -/
  excused : Bool := false
  words : List Word
  sdig : Word
  shadow : Bool
  deriving DecidableEq, Repr

/-- What a stroke of a function came to, as duplex pairs exchange it (R600): PDIG of its RUN entry, ODIG of the accepted
result, and whether the stroke was indeterminate. -/
structure StrokeRec where
  fn : Nat
  stroke : Nat
  pdig : Option Word := none
  odig : Option Word := none
  ind : Bool := false
  deriving DecidableEq, Repr, Inhabited

/-- The mesh, the points and the ruler (R304 to R330). -/
structure Rul where
  fns : Tbl Fn := []
  /-- Domains that were started and whose first stroke has not opened (R219). -/
  fresh : List Nat := []
  /-- Spares that take a failed nib's place at the next boundary: ferrule, failed nib, spare (R325). -/
  spares : List (Nat × Nat × Nat) := []
  rings : Tbl Ring := []
  flows : Tbl Flow := []
  /-- Events that wait, each with the AON cycle in which it arrived (R304). -/
  events : List (Nat × RulEvent) := []
  cmd : Option RulCmd := none
  /-- Descriptor words taken by the last accepted CREATE or UPDATE (R305). -/
  staged : Option Descr := none
  samples : List SampleMsg := []
  outputs : List OutMsg := []
  /-- Messages that have arrived at a point and wait for their stroke's decision there. -/
  atPoint : List OutMsg := []
  /-- The last stroke decided at a point, plus 1, by function * 128 + point (R339). -/
  decided : Tbl Nat := []
  /-- The last stroke of a twin function of which its lowest comparing ferrule, out of RUN, sent no decision, plus 1 (R272). -/
  unsent : Tbl Nat := []
  /-- Decisions and gateway legs on their way: function, twin, stroke, whether A commits, whether B commits; function, gateway, stroke, words or
  indeterminate. -/
  decisions : List (Nat × Nat × Nat × Bool × Bool) := []
  legs : List (Nat × Nat × Nat × Option (List Word)) := []
  /-- What was used at a point in a shadow stroke, as a message, an error for an indeterminate one (R327); and shadow messages
  that wait for it. -/
  used : List OutMsg := []
  shadows : List OutMsg := []
  recs : List StrokeRec := []
  deriving DecidableEq, Repr, Inhabited

/-- A publication beside its view words (R331 to R354). -/
structure Pub where
  types : List Nat := []
  /-- The function that targets it, plus 1 (R336). -/
  owner : Nat := 0
  /-- The words last shown from a result or a policy output (R340). -/
  prev : Option (List Word) := none
  /-- The encoded members of the current GOOSE state, and its t (R348, R349). -/
  cur : List (Nat × Nat) := []
  curT : Nat := 0
  /-- A state has been formed and follows its curve; the frame of the curve sent last; the state is a sign-off image. -/
  live : Bool := false
  step : Nat := 0
  t1 : Nat := 0
  image : Bool := false
  /-- Messages for strokes below this one are of the past: a later stroke has been shown. -/
  shown : Nat := 0
  /-- The first sign-off frame of a critical function's target is still to come (R346). -/
  first : Bool := false
  deriving DecidableEq, Repr, Inhabited

/-- A trip line and a binary input beside their registers (R355 to R358). -/
structure Trip where
  /-- The placed function that targets the line, plus 1, and the domain of the function that last did. -/
  owner : Nat := 0
  dom : Nat := 0
  /-- The level of the last scheduled edge, and whether there was one (R355). -/
  sched : Bool := false
  schedAny : Bool := false
  /-- The level last shown from a result or a policy output (R340). -/
  prev : Bool := false
  /-- The present stroke's drive: 0 sign-off, 1 policy, 2 result (R337). -/
  mode : Nat := 0
  /-- Messages for strokes below this one are of the past; the line shows its sign-off state (R359 SOA). -/
  shown : Nat := 0
  so : Bool := false
  /-- The level at the input's ball, and the device time since which the present sample has held (R357). -/
  ball : Bool := false
  since : Nat := 0
  /-- Events queued, oldest first: level, stamp, queued after a reset. -/
  queue : List (Bool × Nat × Bool) := []
  /-- The first level after a reset is still to be accepted (R358). -/
  fresh : Bool := false
  deriving DecidableEq, Repr, Inhabited


/-- A line of an L2 (R450): its number, its state (0 none, 1 S, 2 E, 3 O, 4 M), its poison and its 8 words. -/
structure L2Line where
  line : Nat := 0
  st : Nat := 0
  poison : Bool := false
  words : List Word := []
  deriving DecidableEq, Repr, Inhabited

/-- The L2 of a desk (R362): its lines by set * 16 + way, the replacement bits of each set, and the lines that an LR holds
with the true time until which it does (R394). -/
structure Desk where
  ways : Tbl L2Line := []
  plru : Tbl Nat := []
  holds : List (Nat × Nat) := []
  deriving DecidableEq, Repr, Inhabited

/-- A writeback on its way (R454, R457, R458): the desk and its line; whether a snoop took its data first, and whether the
home agent has ordered it. -/
structure Wb where
  desk : Nat
  line : Nat
  words : List Word
  poison : Bool
  spent : Bool := false
  ordered : Bool := false
  deriving DecidableEq, Repr

/-- A request that a home agent has ordered (R451, R455): 0 RdS, 1 RdX, 2 Upg, 3 ZX, 4 NcRd, 5 NcWr, 6 reclaim; its
initiator; the desks that have not answered and since when; data supplied by an owner or read, its poison; whether some
desk answered with data or kept a copy, and whether the data came from a writeback; the DRAM read: 0 none is needed or it
was discarded, 1 under way, 2 answered, 3 failed and held by a freeze; the bytes that an NcWr writes. -/
structure Tx where
  line : Nat
  kind : Nat
  src : Nat
  waits : List Nat
  since : Nat
  data : Option (List Word) := none
  poison : Bool := false
  shared : Bool := false
  fromWb : Bool := false
  rd : Nat := 0
  wr : List (Nat × Nat) := []
  deriving DecidableEq, Repr

/-- A write of a non-caching agent that its home agent has not ordered (R459): initiator, channel, line, bytes. -/
structure Posted where
  src : Nat
  chan : Nat
  line : Nat
  wr : List (Nat × Nat)
  deriving DecidableEq, Repr

/-- A DRAM controller beside its page (R478 to R487). -/
structure Dmc where
  /-- The request that froze the channel: its line and the CAUSE. -/
  fail : Option (Nat × Nat) := none
  /-- A write whose CRC failed: its line, and how often in succession (R482). -/
  crc : Nat × Nat := (0, 0)
  /-- Writes held by a freeze, oldest first: line, words, poison (R483). -/
  held : List (Nat × List Word × Bool) := []
  /-- Refreshes that each rank owes (R479). -/
  owed : Tbl Nat := []
  /-- The next line of the channel to patrol, and the true time at which the channel became ACTIVE (R478). -/
  patrol : Nat := 0
  activeAt : Nat := 0
  /-- The training step that runs; the retraining of a RESET runs, and the lines to be marked after it (R485, R487). -/
  step : Nat := 0
  retrain : Bool := false
  marks : List Nat := []
  deriving DecidableEq, Repr, Inhabited

/-- DRAM, the home agents, the L2s and the presence tables (R447 to R489). -/
structure Mem where
  /-- Words of DRAM by word number, as their difference from what an unlisted word reads as; lines that carry the poison
  marker; since DRAM lost its contents, every unlisted word reads as a free value of its own, from this count on (R613). -/
  dram : Tbl Word := []
  mark : Tbl Bool := []
  lost : Option Nat := none
  desks : Tbl Desk := []
  wbs : List Wb := []
  txs : List Tx := []
  posted : List Posted := []
  /-- The presence tables (R467): the state of a line by desk * 2^40 + line. -/
  pres : Tbl Nat := []
  /-- Reclaim messages on their way: desk and line (R469). -/
  reclaims : List (Nat × Nat) := []
  dmcs : Tbl Dmc := []
  deriving DecidableEq, Repr, Inhabited

/-- A translation held in a scribe's caches (R431, R441): regime (false U/K, true H), VM tag plus 1 (0 for no VM), ASID
(none for a global entry), first page and number of 4 Ki pages of the virtual range, first physical page, whether R, W, X are
permitted and the page is a user page, attribute, the D bit of the stage-1 leaf. -/
structure TlbEntry where
  h : Bool
  vm : Nat
  asid : Option Nat
  vpn : Nat
  pages : Nat
  ppn : Nat
  r : Bool
  w : Bool
  x : Bool
  u : Bool
  attr : Nat
  d : Bool
  /-- The intermediate page that stage 1 gave. -/
  ipn : Nat
  deriving DecidableEq, Repr

/-- A pointer entry held in a scribe's walk cache (R431, R441): regime, VM tag plus 1, ASID (stage 1 of U/K), stage 2 or not, the
level of the table that it points to, the input address bits that lead there, and the frame of that table. -/
structure WalkEntry where
  h : Bool
  vm : Nat
  asid : Nat
  stage2 : Bool
  level : Nat
  pfx : Nat
  frame : Nat
  deriving DecidableEq, Repr

/-- A walk that waits for a table access: the virtual address, the physical address of the table word, SUB[7:6], the true time of
the request, the instruction half (0 for a fetch), SPLIT, whether it serves the write of an exception frame, and whether the
access has been given up (R412, R446). -/
structure WalkWait where
  va : Nat
  pa : Nat
  sub : Nat
  since : Nat
  inst : Nat
  split : Bool
  entry : Bool
  timed : Bool
  deriving DecidableEq, Repr

/-- A scribe core (R361 to R402); core 32 is the management controller's (R530). -/
structure Scribe where
  /-- General registers g1 to g31; g0 reads 0 and discards writes (R361). -/
  g : Tbl Word := []
  pc : Nat := 0
  /-- STATUS: level H, MASK 15 (R399). -/
  status : Word := 62
  /-- HCTL: HEN 1, TID 0 (R399). -/
  hctl : Word := 1
  /-- The other system registers by number (R402, R430, R536). -/
  sr : Tbl Word := []
  /-- Store buffer, oldest first: a line and the bytes written in it, as place and value (R363). -/
  sb : List (Nat × List (Nat × Nat)) := []
  /-- The address that LR recorded (R392). -/
  resv : Option Nat := none
  tlb : List TlbEntry := []
  wcache : List WalkEntry := []
  /-- Lines of the L1 data cache by set, most recent first (R362). -/
  l1d : Tbl (List Nat) := []
  /-- Predictors (R379, R380): targets plus 1 by index; the last 16 targets, newest first; the return stack, newest first. -/
  itab : Tbl Nat := []
  hist : List Nat := []
  rstack : List Nat := []
  /-- A walk waits for a table access (R446). -/
  walk : Option WalkWait := none
  /-- Debug (R575, R576): a halt is asked for; the core was halted in WFI; it performs one step. -/
  haltReq : Bool := false
  inWfi : Bool := false
  stepping : Bool := false
  /-- Outcomes of conditional branches not yet in a BRH packet, oldest first (R586). -/
  brh : List Bool := []
  deriving DecidableEq, Repr, Inhabited

/-- The interrupt controller beside its pages (R423, R424): active copies by source and scribe, copies of a broadcast that
wait, and configuration words that take effect at the next claim (R428). -/
structure Icu where
  active : List (Nat × Nat) := []
  copies : List (Nat × Nat) := []
  next : List (Nat × Word) := []
  deriving DecidableEq, Repr, Inhabited

/-- The management controller beside its core and page (R530 to R540). -/
structure Mcu where
  sram : Tbl Word := []
  /-- The flash, one octet each; write-protected; where the accepted image's payload starts (R94, R532). -/
  flash : Tbl Nat := []
  wp : Bool := false
  xbase : Nat := 0
  /-- The line buffers (line plus 1), the request under way with its true time, the request that waits, and the line that
  executes, plus 1 (R533). -/
  bufs : List Nat := []
  req : Option (Nat × Nat) := none
  next : Option Nat := none
  cur : Nat := 0
  /-- The branch-target buffer: full target plus 1 by index (R533). -/
  btb : Tbl Nat := []
  /-- Device time, in ms, at which the watchdogs last counted (R537, R539). -/
  ms : Nat := 0
  /-- Source 75 is asserted (R540). -/
  tick : Bool := false
  deriving DecidableEq, Repr, Inhabited


/-- A descriptor list of a DMA channel (R494): address of the descriptor in hand and of the next one, whether one is in hand,
its data address, bytes left, LAST and IRQ; descriptors fetched since START. -/
structure DmaList where
  desc : Nat := 0
  next : Nat := 0
  inHand : Bool := false
  addr : Nat := 0
  left : Nat := 0
  last : Bool := false
  irq : Bool := false
  count : Nat := 0
  deriving DecidableEq, Repr, Inhabited

/-- An error that stopped a DMA channel and is reported once its requests are settled (R501): code, bus-error code, descriptor,
list and data address. -/
structure DmaErr where
  code : Nat
  bcode : Nat := 0
  desc : Nat := 0
  dst : Bool := false
  addr : Nat := 0
  deriving DecidableEq, Repr

/-- A DMA channel beside its words (R490 to R505). -/
structure DmaChan where
  src : DmaList := {}
  dst : DmaList := {}
  /-- Transformed bytes not written yet, octets waiting for a whole output word, and the running CRC (R497, R498). -/
  out : List Nat := []
  octs : List Nat := []
  crc : Nat := 0
  /-- The source list has ended and the transform has given its last byte. -/
  ended : Bool := false
  /-- A burst is in progress; the source bytes that are left to it; its request was withdrawn meanwhile (R500, R503). -/
  busy : Bool := false
  quota : Nat := 0
  drew : Bool := false
  /-- A read that its target has not answered: its line; the lines of DRAM written in this burst; the true time of the last
  request (R500, R501). -/
  wait : Option Nat := none
  lines : List Nat := []
  since : Nat := 0
  err : Option DmaErr := none
  /-- A STOP waits for the channel (R505): 1 drain, 2 squash; 3 and 4 the same by a tenant reset (R528). -/
  stop : Nat := 0
  deriving DecidableEq, Repr, Inhabited

/-- A queue pair beside its words (R513): the lines of the writes of entries that are done but for their performance, oldest
entry first. -/
structure Qp where
  rxw : List (List Nat) := []
  txw : List (List Nat) := []
  deriving DecidableEq, Repr, Inhabited

/-- A tenant beside its words (R508 to R528): the instant of a scheduled freeze and of a scheduled resumption, the drain form
of a reset under way, and whether it holds the doorbell. -/
structure Ten where
  freezeAt : Option Nat := none
  /-- The domains in which the freeze has taken effect, with Nd (R522). -/
  nds : List (Nat × Nat) := []
  resumeAt : Option Nat := none
  /-- Accepted ruler commands in order: CMD, ARG0, the descriptor's words, the function's index (R525). -/
  cmds : List (Word × Word × List Word × Nat) := []
  squash : Bool := false
  deriving DecidableEq, Repr, Inhabited

/-- A power request that waits for blocks (R547): opcode, ARG0, the blocks asked that have not answered, those that granted, and
its device time. -/
structure PwrReq where
  opc : Nat
  arg : Nat
  asked : List Nat
  granted : List Nat
  since : Nat
  deriving DecidableEq, Repr

/-- The power controller beside its page (R542 to R553, R612). -/
structure Pwr where
  req : Option PwrReq := none
  /-- A granted change under way: the blocks that change and their new states (R551). -/
  change : List (Nat × Nat) := []
  /-- A change of a desk's level under way: desk, level (R545). -/
  level : Option (Nat × Nat) := none
  /-- Blocks held in reset by BRESET, and a desk that still writes back (R612). -/
  held : List Nat := []
  wback : Option Nat := none
  /-- Blocks whose state is emulated, with the state (R584). -/
  emul : List (Nat × Nat) := []
  /-- Desk and ferrule states last commanded: 8 + desk and 64 + ferrule (R551). -/
  cmd : Tbl Nat := []
  temps : Tbl Int := []
  hwtrip : Bool := false
  deriving DecidableEq, Repr, Inhabited

/-- A self-test record (R557). -/
structure BstRecord where
  sealed : Bool := false
  uid : Nat := 0
  time : Word := 0
  quality : Nat := 0
  /-- Elements with confirmed and fused. -/
  entries : List (TestElement × Bool × Bool) := []
  deriving DecidableEq, Repr, Inhabited

/-- Self-test and repair beside the BST page (R555 to R568). -/
structure Bst where
  /-- The FULLTEST of this shutdown has completed; its failing elements. -/
  tested : Bool := false
  running : Bool := false
  fails : List TestElement := []
  /-- The record in flash: that of the last orderly shutdown (R558). -/
  stored : Option BstRecord := none
  fused : List TestElement := []
  soft : List TestElement := []
  /-- The next element of the rolling test by its place in the lists, and the pass of a segment test (R562, R564). -/
  place : Nat := 0
  pass : Nat := 0
  /-- A pass of the segment test has failed; the test was abandoned; the true time at which a repair began, plus 1 (R564). -/
  failed : Bool := false
  dropped : Bool := false
  repairAt : Nat := 0
  /-- The NST of the nib before its test (R563). -/
  before : Nat := 0
  /-- Ferrules whose shadow stands in for a segment (R566). -/
  shadows : List (Nat × Nat) := []
  /-- Shelf seconds are counted from this true time (R559). -/
  shelfAt : Nat := 0
  deriving DecidableEq, Repr, Inhabited

/-- An access of the debug bus master under way (R572). -/
structure DbgAcc where
  addr : Nat
  size : Nat
  op : Nat
  data : Word
  since : Nat
  deriving DecidableEq, Repr

/-- The completion of the last PCIe inbound request: 0 successful, 1 Unsupported Request, 4 Completer Abort; whether the data is
marked poisoned; the octets of a read (R510, R517, R616). -/
structure PcieCpl where
  status : Nat := 0
  ep : Bool := false
  octets : List Nat := []
  deriving DecidableEq, Repr, Inhabited

/-- The debug port (R569 to R577). -/
structure Dbg where
  /-- The present instruction, the boundary register, and what Capture-DR of UNLOCK returns next. -/
  ir : Nat := 0xFF
  boundary : Nat := 0
  capture : Nat := 0
  /-- What the last Capture-DR of IDCODE or BYPASS gave (R569). -/
  out : Nat := 0
  /-- The challenge that waits for its answer: level and octets (R571). -/
  chal : Option (Nat × List Nat) := none
  acc : Option DbgAcc := none
  /-- The result of the latest access: STATUS and DATA (R572). -/
  status : Nat := 0
  data : Word := 0
  /-- The region whose scan chains are connected (R570). -/
  scan : Option Nat := none
  /-- The level of the challenge wait and the device time at which it ends (R98). -/
  waitEnd : Nat := 0
  waitNext : Nat := 1
  deriving DecidableEq, Repr, Inhabited

/-- The duplex unit (R592 to R602). -/
structure Dpx where
  /-- Own and peer output frames not compared yet (R601); own strokes sent by domain, plus 1. -/
  own : List DpxOutput := []
  peer : List DpxOutput := []
  sent : Tbl Nat := []
  /-- True time of the last status frame and of EN; TXT and the receive stamp of the last one (R593, R594). -/
  heardAt : Nat := 0
  txt : Word := 0
  erxt : Word := 0
  /-- Consecutive failures of checks 1 to 3, and consecutive measurements of 1,000 ns or less (R596, R599). -/
  fails : Tbl Nat := []
  good : Nat := 0
  /-- The figures of the last second and that second (R596). -/
  mine : Option (Nat × DpxStatus) := none
  deriving DecidableEq, Repr, Inhabited


/-- The state of the block. -/
structure State where
  /-- Commands that wait, first in, first out. -/
  pending : List Instr := []
  /-- True time, in ns (assumption 1). -/
  now : Nat := 0
  /-- 0 running; 1 chip reset; 2 power-on reset; 3 supply below its limits; 4 boot ROM after power-on; 5 boot ROM after a
  chip reset; 6 record phase of the boot ROM (R556, R603 to R605, R609). -/
  phase : Nat := 0
  /-- How many free values have been taken (assumption 5). -/
  freeCtr : Nat := 0
  /-- Every register word, as its difference from its reset value, by storage address (assumption 8). -/
  regs : Tbl Word := []
  /-- Generations of context slots, less one (R71). -/
  gens : Tbl Nat := []
  stalled : List StalledAccess := []
  /-- Words of the inkwells: ferrule * 2^18 + address (R28). -/
  inkwell : Tbl Word := []
  otp : Otp := {}
  csn : Csn := {}
  tim : TimeBase := {}
  scribes : Tbl Scribe := []
  ports : Tbl Port := []
  pairs : Tbl Pair := []
  subs : Tbl Sub := []
  ferrules : Tbl Ferrule := []
  /-- By ferrule * 4 + domain. -/
  ferDoms : Tbl FerDom := []
  /-- By ferrule * 18 + nib. -/
  nibs : Tbl Nib := []
  rul : Rul := {}
  pubs : Tbl Pub := []
  trips : Tbl Trip := []
  blot : Blot := {}
  mem : Mem := {}
  icu : Icu := {}
  mcu : Mcu := {}
  dma : Tbl DmaChan := []
  /-- The channel that moved the last burst, and the queue pair of each port that sent last, plus 1 (R500, R514). -/
  dmaLast : Nat := 0
  qps : Tbl Qp := []
  qpTurn : Tbl Nat := []
  tens : Tbl Ten := []
  pwr : Pwr := {}
  bst : Bst := {}
  pcie : Option PcieCpl := none
  dbg : Dbg := {}
  dpx : Dpx := {}
  deriving DecidableEq, Repr

/-- The machine right after power-on reset: every register at its reset value, memories blank (assumption 6). -/
def State.reset : State := {}

end Sys2Proof.Machine
end

