-- ==== Sys2Proof/Machine/Ops.lean ====
section
/-! DEFINITION. The named operations that every block shares: registers and their fields, true and device time, error
captures, ignored sequences, bus errors, free values, and the command doorbell.
Decisions: log entries 1 (DESIGN CHOICE), 3 (DESIGN CHOICE), 5 (DESIGN CHOICE), 16 (DEDUCED), 19 (DEDUCED), 25
(DEDUCED), 64 (DEDUCED). -/

namespace Sys2Proof.Machine
open Sys2Proof

/-- The outcome of a command whose effect is a next state. -/
abbrev Out := Host.Outcome State Fault Refusal

/-- The word at a storage address: the table holds its difference from the reset value. -/
def State.word (s : State) (a : Nat) : Word := tget s.regs a ^^^ resetWord a

/-- The state with a storage word written. -/
def State.setWord (s : State) (a : Nat) (v : Word) : State := { s with regs := tset s.regs a (v ^^^ resetWord a) }

/-- The value of a register field. -/
def State.rd (s : State) (f : Fld) : Nat := getField (s.word f.addr) f.lo f.len

/-- The state with a register field written. -/
def State.wr (s : State) (f : Fld) (v : Nat) : State := s.setWord f.addr (putField (s.word f.addr) f.lo f.len v)

/-- Whether a one-bit field is 1. -/
def State.isSet (s : State) (f : Fld) : Bool := s.rd f = 1

/-- A one-bit field written from a truth value. -/
def State.wrb (s : State) (f : Fld) (b : Bool) : State := s.wr f (b2n b)

/-- A field with one of its bits set (an event bit, R13). -/
def State.setBit (s : State) (f : Fld) (i : Nat) : State := s.wr f (setBitN (s.rd f) i)

/-- A field with one of its bits cleared. -/
def State.clrBit (s : State) (f : Fld) (i : Nat) : State := s.wr f (clrBitN (s.rd f) i)

/-- A counter field incremented, saturating at its greatest value. -/
def State.bump (s : State) (f : Fld) : State := s.wr f (satInc (s.rd f) (2 ^ f.len - 1))

/-- A counter field increased by an amount, saturating. -/
def State.bumpBy (s : State) (f : Fld) (n : Nat) : State := s.wr f (min (s.rd f + n) (2 ^ f.len - 1))

/-- A counter field incremented, wrapping. -/
def State.wrapInc (s : State) (f : Fld) : State := s.wr f (s.rd f + 1)

/-- A field at a place of a storage word, for words reached by computed address. -/
def fldAt (addr lo len : Nat) : Fld := ⟨addr, lo, len⟩

/-- A free value of `w` bits, and the state after it is taken (assumption 5). -/
def State.free (s : State) (w : Nat) : BitVec w × State :=
  (Config.free w s.freeCtr, { s with freeCtr := s.freeCtr + 1 })

/-- The state with true time advanced to the time of a command, never back (assumption 1). -/
def State.tick (s : State) (t : Nat) : State := { s with now := max s.now t }

/-- The amount slewed out after an elapsed true time: 50 ns for each ms, never past the whole offset (R101). -/
def slewDone (slew : Int) (elapsed : Nat) : Int :=
  let cap : Int := (elapsed * 50 / 1000000 : Nat)
  if 0 ≤ slew then min slew cap else -(min (-slew) cap)

/-- Device time in ns (R99 to R101). -/
def State.devTime (s : State) : Nat :=
  let e := s.now - s.tim.baseAt
  ((s.tim.base : Int) + (e : Int) + slewDone s.tim.slew e).toNat

/-- The part of the slew that is still to be done. -/
def State.slewLeft (s : State) : Int := s.tim.slew - slewDone s.tim.slew (s.now - s.tim.baseAt)

/-- The register form of a device time (R99). -/
def timeWord (ns : Nat) : Word :=
  BitVec.ofNat 72 ((ns / 1000000000) % 2 ^ 40 * 2 ^ 32 + ((ns % 1000000000) * 2 ^ 32 + 500000000) / 1000000000)

/-- The device time, in ns, that a register form spells, when its fraction is the form of a whole ns (R99, R103). -/
def wordTime (w : Word) : Option Nat :=
  let sec := getField w 32 40
  let n := (getField w 0 32 * 1000000000 + 2 ^ 31) / 2 ^ 32
  if n < 1000000000 ∧ timeWord (sec * 1000000000 + n) = w then some (sec * 1000000000 + n) else none

/-- The device time nearest below or at a register form, for words that carry any fraction. -/
def wordNs (w : Word) : Nat := getField w 32 40 * 1000000000 + getField w 0 32 * 1000000000 / 2 ^ 32

/-- The device time that a replica shows (R33). -/
def State.replicaTime (s : State) (r : Nat) : Nat := ((s.devTime : Int) + tget s.tim.replicas r).toNat

/-- PAGE_ERR takes an error (R59, R635): the first is captured, every one counted. -/
def State.pageErr (s : State) (page code ofs info : Nat) : State :=
  let s' := if s.rd (F.HDR_ECODE page) = 0 then
      ((s.wr (F.HDR_ECODE page) code).wr (F.HDR_EOFS page) ofs).wr (F.HDR_EINFO page) info else s
  s'.bump (F.HDR_ECNT page)

/-- An ignored sequence is recorded (R72). -/
def State.ignored (s : State) (page ofs rsn : Nat) : State :=
  ((s.bump (F.HDR_IGNCNT page)).wr (F.HDR_IGNOFS page) ofs).wr (F.HDR_IGNRSN page) rsn

/-- The DEV page takes a bus error (R73): captured while BCODE is 00h, counted always. -/
def State.busErr (s : State) (addr code init : Nat) (write : Bool) : State :=
  let s' := if s.rd F.DEV_BCODE = 0 then
      (((s.wr F.DEV_BADDR addr).wr F.DEV_BCODE code).wr F.DEV_BINIT init).wrb F.DEV_BWR write else s
  s'.bump F.DEV_BCNT

/-- The words from `a` on, `n` of them, put to their reset values. -/
def State.resetWords (s : State) (a n : Nat) : State :=
  { s with regs := s.regs.filter (fun e => !(decide (a ≤ e.1) && decide (e.1 < a + n))) }

/-- The header of a page, without what shows a proposal, and its doorbell, as a block reset leaves them (R58, R66). -/
def State.headerReset (s : State) (page : Nat) : State :=
  let s := (s.resetWords (page * 512 + 2) 2).resetWords (page * 512 + 5) 3
  if hasDoorbell page then s.resetWords (page * 512 + 8) 2 else s

/-- The physical byte address of a word of a register page (R48). -/
def pageAddr (page off : Nat) : Nat := 0xF8000000000 + page * 0x1000 + off * 8

/-- The generation of a context slot: kind 1 subscription (64 f + s), 2 publication (32 f + s), 3 function, 5 DMA
channel, 6 queue pair; 1 after a block reset (R71). -/
def State.gen (s : State) (kind i : Nat) : Nat := tget s.gens (kind * 2 ^ 20 + i) + 1

/-- The generation after the context is destroyed: the next, with 1 after 4,095 (R71). -/
def State.bumpGen (s : State) (kind i : Nat) : State :=
  { s with gens := tset s.gens (kind * 2 ^ 20 + i) ((tget s.gens (kind * 2 ^ 20 + i) + 1) % 4095) }

/-- The handle of a context (R70). -/
def handleOf (kind gen index : Nat) : Nat := kind * 2 ^ 32 + gen * 2 ^ 20 + index

/-- The handle that the device issues for a context slot. -/
def State.handle (s : State) (kind i index : Nat) : Nat := handleOf kind (s.gen kind i) index

/-- What a page's doorbell asks of a handle: its kind, how many contexts the page serves, and the generation slot of
an index. -/
structure HandleSpec where
  kind : Nat
  count : Nat
  slot : Nat → Nat

/-- The first of checks 4 to 6 of R67 that a handle fails; `owner` says whether the initiator's tenant owns the
context. -/
def handleCheck (s : State) (h : HandleSpec) (handle : Nat) (owner : Nat → Bool) : Option Nat :=
  let idx := handle % 2 ^ 20
  if handle / 2 ^ 32 % 16 ≠ h.kind ∨ h.count ≤ idx then some 4
  else if handle / 2 ^ 20 % 4096 ≠ s.gen h.kind (h.slot idx) then some 5
  else if owner idx then none else some 6

/-- A doorbell (R67, R68): CMD keeps what was written; the first failing check makes the write an ignored sequence;
otherwise the command is accepted. `late` is the first failing check of 3 to 7. The answer is the state, and whether
the command was accepted. -/
def State.doorbell (s : State) (page seq opc handle : Nat) (late : State → Option Nat) : State × Bool :=
  let s1 := ((s.wr (F.DBL_SEQ page) seq).wr (F.DBL_OPC page) opc).wr (F.DBL_HANDLE page) handle
  if s.rd (F.DBL_STATE page) = 1 then (s1.ignored page 8 1, false)
  else if seq % 256 ≠ s.rd (F.HDR_SEQ page) then (s1.ignored page 8 2, false)
  else match late s1 with
    | some r => (s1.ignored page 8 r, false)
    | none => (((s1.wr (F.DBL_RSEQ page) seq).wr (F.DBL_STATE page) 1).wr (F.HDR_SEQ page) (seq + 1), true)

/-- A command's completion (R68): STATUS, REASON and RHANDLE are written and STATE becomes 10b. -/
def State.complete (s : State) (page status reason rhandle : Nat) : State :=
  (((s.wr (F.DBL_STATUS page) status).wr (F.DBL_REASON page) reason).wr (F.DBL_RHANDLE page) rhandle).wr (F.DBL_STATE page) 2

/-- A commit-protected word as it is in effect for a stroke that opened at a device time: the values before the last
commit instant for a stroke that opened before it (R85). -/
def State.csWord (s : State) (a openAt : Nat) : Word :=
  if openAt < s.csn.lastT ∧ tget s.csn.prevSet a then tget s.csn.prev a else s.word a

/-- A commit-protected field in effect for a stroke (R85). -/
def State.csRd (s : State) (f : Fld) (openAt : Nat) : Nat := getField (s.csWord f.addr openAt) f.lo f.len

/-- The storage addresses of pages (page * 512 + word). -/
def ferPage (f : Nat) : Nat := 0x100 + 4 * f
def lnkPage (f : Nat) : Nat := 0x101 + 4 * f
def subPage (f : Nat) : Nat := 0x102 + 4 * f
def pubPage (f : Nat) : Nat := 0x103 + 4 * f

/-- The storage address of a port block: lanes 0 to 1,023 in their ferrule's LNK page, uplinks 0 to 7 as ports 1,024
to 1,031 and MGT0 and MGT1 as 1,032 and 1,033 in the UPL pages (R11, R156, R157). -/
def portBlock (p : Nat) : Nat :=
  if p < 1024 then lnkPage (p / 16) * 512 + 32 + 16 * (p % 16)
  else if p < 1032 then (0x280 + (p - 1024)) * 512 + 8
  else (0x28C + (p - 1032)) * 512 + 8

/-- The page of a port. -/
def portPage (p : Nat) : Nat := portBlock p / 512

/-- The word offset of a port's block on its page. -/
def portOff (p : Nat) : Nat := portBlock p % 512

end Sys2Proof.Machine
end

