-- ==== Sys2Proof/Machine/Csn.lean ====
section
/-! DEFINITION. Countersigning (R74 to R91): parties, the proposal and its digest, sealing, countersigning, discarding,
the audit log, and the writing of the staged values at the commit instant.
Decisions: log entries 4 (DESIGN CHOICE), 22 (DEDUCED), 23 (DEDUCED), 24 (DEDUCED). -/

namespace Sys2Proof.Machine
open Sys2Proof

/-- The scribe core with a number. -/
def State.scribe (s : State) (n : Nat) : Scribe := tget s.scribes n

/-- The present level of a scribe: 0 U, 1 K, 2 H (R400). -/
def scribeLevel (c : Scribe) : Nat := getField c.status 0 2

/-- The tenant of a scribe (R402). -/
def scribeTenant (c : Scribe) : Nat := getField c.hctl 1 4

/-- The party of a register write by its initiator; 0 when it is no party (R74). -/
def party (s : State) (init : Nat) : Nat :=
  if init = 0x20 then 2
  else if init < 0x20 then
    let c := s.scribe init
    if scribeLevel c = 2 ∧ scribeTenant c = 0 then 1
    else if scribeLevel c = 1 ∧ scribeTenant c = s.rd F.CSN_ENGT then 3 else 0
  else 0

/-- Whether a party's bit is set in PROP (R75). -/
def mayPropose (s : State) (p : Nat) : Bool := p ≠ 0 && bitOf (s.rd F.CSN_PROP) p

/-- Whether a party may countersign (R75): its bit is set in CSGN and it is not the proposer of a present proposal. -/
def maySign (s : State) (p : Nat) : Bool :=
  p ≠ 0 && bitOf (s.rd F.CSN_CSGN) p && !(decide (s.rd F.CSN_CST ≠ 0) && decide (s.rd F.CSN_PPARTY = p))

/-- The octet string of which the digest is taken (R78): octet k of a value in packed form is bits 8k + 7 to 8k. -/
def csnMessage (s : State) : List Nat :=
  octetsOf (s.rd F.CSN_SERIAL) 3 ++ [s.rd F.CSN_PPARTY] ++ octetsOf s.csn.entries.length 2 ++
    s.csn.entries.flatMap (fun e =>
      octetsOf (e.1 / 512) 2 ++ octetsOf (e.1 % 512) 2 ++ (octetsOf e.2.toNat 9).reverse)

/-- The device's digest of the proposal (R78). -/
def csnDigest (s : State) : Word := BitVec.ofNat 72 (ofOctets ((sha256 (csnMessage s)).take 9).reverse)

/-- The pages that hold entries. -/
def csnPages (s : State) : List Nat := s.csn.entries.foldl (fun l e => insertNat (e.1 / 512) l) []

/-- PAGE_LOCK shows the proposal on the pages that hold entries (R87). -/
def csnShow (s : State) : State :=
  forEach (csnPages s) s (fun s p =>
    (s.wr (F.HDR_STG p) (s.rd F.CSN_CST)).wr (F.HDR_NSTG p) (s.csn.entries.filter (fun e => e.1 / 512 = p)).length)

/-- The audit log takes an entry, and LOST counts an entry overwritten unread (R91). -/
def csnLog (s : State) (outcome signer time : Nat) (digest : Word) : State :=
  let k := s.rd F.CSN_HEAD
  let s := if tget s.csn.logUsed k && !tget s.csn.logRead k then s.bump F.CSN_LOST else s
  let s := ((((((s.wr (F.CSN_LSERIAL k) (s.rd F.CSN_SERIAL)).wr (F.CSN_OUTCOME k) outcome).wr (F.CSN_LPROP k)
    (s.rd F.CSN_PPARTY)).wr (F.CSN_LSIGN k) signer).wr (F.CSN_LNENT k) (s.rd F.CSN_NENT)).wr (F.CSN_LTIME k)
    (timeWord time).toNat).wr (F.CSN_LDIG k) digest.toNat
  let s := s.wr F.CSN_HEAD (k + 1)
  { s with csn := { s.csn with logUsed := tset s.csn.logUsed k true, logRead := tset s.csn.logRead k false } }

/-- The counter of an outcome (R90). -/
def csnCount (s : State) (outcome : Nat) : State :=
  if outcome = 1 then s.bump F.CSN_NCOMMIT
  else if outcome = 2 ∨ outcome = 7 then s.bump F.CSN_NMISM
  else if outcome = 3 then s.bump F.CSN_NEXPIRE else s.bump F.CSN_NOTHER

/-- The proposal ends (R87, R91): the log entry and count, CST, STG and NSTG 0, the store empty. -/
def csnEnd (s : State) (outcome signer time : Nat) (digest : Word) : State :=
  let s := csnCount (csnLog s outcome signer time digest) outcome
  let s := forEach (csnPages s) s (fun s p => (s.wr (F.HDR_STG p) 0).wr (F.HDR_NSTG p) 0)
  let s := (s.wr F.CSN_CST 0).wr F.CSN_NENT 0
  { s with csn := { s.csn with entries := [], sealDig := 0, signer := 0, commitAt := none, expired := outcome = 3 } }

/-- The commit-protected bits of a word. -/
def csMask (page off : Nat) : Word :=
  match wordFields page off with
  | some l => fieldMask l (fun f => f.acc = .cs)
  | none => 0

/-- A staged write (R65, R77). -/
def stageWrite (s : State) (init page off : Nat) (value : Word) : State :=
  let p := party s init
  let cst := s.rd F.CSN_CST
  let key := page * 512 + off
  if cst = 2 ∨ cst = 3 then s.ignored page off 8
  else if p = 0 then s.ignored page off 7
  else if cst = 0 then
    if mayPropose s p then
      let s := ((s.wr F.CSN_PPARTY p).wrapInc F.CSN_SERIAL).wr F.CSN_CST 1
      let s := { s with csn := { s.csn with entries := [(key, value)], sealDig := 0, signer := 0, expired := false } }
      csnShow (s.wr F.CSN_NENT 1)
    else s.ignored page off 7
  else if p ≠ s.rd F.CSN_PPARTY then s.ignored page off 7
  else if (s.csn.entries.any (fun e => e.1 = key)) = false ∧ 256 ≤ s.csn.entries.length then s.ignored page off 7
  else
    let s := { s with csn := { s.csn with entries := tput s.csn.entries key value } }
    csnShow (s.wr F.CSN_NENT s.csn.entries.length)

/-- The effect of a write of CSN_SEAL (R79). -/
def csnSealWrite (s : State) (init : Nat) (digest : Word) : State :=
  let s := s.wr (F.CSN_DIG 0) digest.toNat
  if s.rd F.CSN_CST = 1 ∧ party s init = s.rd F.CSN_PPARTY then
    if digest = csnDigest s then
      let s := { s with csn := { s.csn with sealDig := digest, windowAt := s.devTime } }
      csnShow (s.wr F.CSN_CST 2)
    else csnEnd s 7 0 s.devTime digest
  else s.ignored 1 10 7

/-- CSN_SEAL (R79). -/
def execCsnSeal (t init : Nat) (digest : Word) (s : State) : Out := .next (csnSealWrite (s.tick t) init digest)

/-- The stroke domains that run. -/
def runningDomains (s : State) : List Nat := filterBelow 4 (fun d => s.isSet (F.DOM_RUN d))

/-- The anchor and period of a domain, in ns (R216, R217). -/
def domAnchor (s : State) (d : Nat) : Nat := wordNs' (s.rd (F.DOM_ANC d))
where wordNs' (n : Nat) : Nat := (n / 2 ^ 32) * 1000000000 + ((n % 2 ^ 32) * 1000000000 + 2 ^ 31) / 2 ^ 32
def domPeriod (s : State) (d : Nat) : Nat := s.rd (F.DOM_PER d)

/-- Whether a device time is a stroke boundary of a domain: anchor + N × period. -/
def isBoundary (s : State) (d time : Nat) : Bool :=
  decide (domAnchor s d ≤ time) && (time - domAnchor s d) % domPeriod s d == 0

/-- The first boundary of a domain at or after a device time. -/
def nextBoundary (s : State) (d time : Nat) : Nat :=
  let a := domAnchor s d
  let p := domPeriod s d
  if time ≤ a then a else a + ((time - a + p - 1) / p) * p

/-- The first common boundary among those of one domain, tried in order up to a last instant. -/
def commonFrom (s : State) (d0 : Nat) (ds : List Nat) (last : Nat) : Nat → Nat → Option Nat
  | 0, _ => none
  | fuel + 1, time =>
    if last < time then none
    else if ds.all (fun d => isBoundary s d time) then some time
    else commonFrom s d0 ds last fuel (time + domPeriod s d0)

/-- The commit instant for a countersign accepted at device time A (R84). -/
def commitInstant (s : State) (a : Nat) : Option Nat :=
  match runningDomains s with
  | [] => some (a + 20000)
  | d :: ds => commonFrom s d (d :: ds) (a + 1000000000) 100002 (nextBoundary s d (a + 20000))

/-- The effect of a write of CSN_SIGN, by the rows of R80 in their order. -/
def csnSignWrite (s : State) (init : Nat) (digest : Word) : State :=
  let s := s.wr (F.CSN_DIG 1) digest.toNat
  let p := party s init
  let cst := s.rd F.CSN_CST
  if maySign s p = false then s.ignored 1 11 0xB
  else if cst = 0 ∧ s.csn.expired then s.ignored 1 11 0xA
  else if cst ≠ 2 then s.ignored 1 11 7
  else if digest ≠ csnDigest s then csnEnd (s.ignored 1 11 9) 2 p s.devTime s.csn.sealDig
  else if s.csn.windowAt + 2000000000 ≤ s.devTime then s
  else
    let s := s.wr F.CSN_CST 3
    csnShow { s with csn := { s.csn with signer := p, acceptAt := s.devTime, commitAt := commitInstant s s.devTime } }

/-- The end of the window (R81): a sealed proposal is discarded with outcome 3. -/
def csnExpire (s : State) : State :=
  if s.rd F.CSN_CST = 2 ∧ s.csn.windowAt + 2000000000 ≤ s.devTime then
    csnEnd s 3 0 (s.csn.windowAt + 2000000000) s.csn.sealDig
  else s

/-- CSN_SIGN (R80): a countersign that arrives at or after the end of the window comes after it (R81). -/
def execCsnSign (t init : Nat) (digest : Word) (s : State) : Out :=
  .next (csnSignWrite (csnExpire (s.tick t)) init digest)

/-- The effect of a write of 1 to ABORT (R82). -/
def csnAbortWrite (s : State) (init : Nat) : State :=
  let cst := s.rd F.CSN_CST
  if (cst = 1 ∨ cst = 2) ∧ party s init = s.rd F.CSN_PPARTY then csnEnd s 4 0 s.devTime s.csn.sealDig
  else s.ignored 1 12 7

/-- CSN_ABORT (R82). -/
def execCsnAbort (t init : Nat) (s : State) : Out := .next (csnAbortWrite (csnExpire (s.tick t)) init)

/-- COUNTERSIGN_WINDOW_EXPIRE (R81). -/
def execCountersignWindowExpire (t : Nat) (s : State) : Out := .next (csnExpire (s.tick t))

/-- COMMIT_NO_BOUNDARY (R84): at A + 1.0 s without a common boundary the proposal is discarded with outcome 5. -/
def execCommitNoBoundary (t : Nat) (s : State) : Out :=
  let s := s.tick t
  .next (if s.rd F.CSN_CST = 3 ∧ s.csn.commitAt = none ∧ s.csn.acceptAt + 1000000000 ≤ s.devTime then
      csnEnd s 5 s.csn.signer (s.csn.acceptAt + 1000000000) s.csn.sealDig else s)

/-- One staged entry takes effect: the commit-protected bits of its word are replaced, the value before is kept for
strokes that opened earlier, and BCLR reads 0 (R85, R359). -/
def csnApplyEntry (s : State) (e : Nat × Word) : State :=
  let m := csMask (e.1 / 512) (e.1 % 512)
  let old := s.word e.1
  let s := s.setWord e.1 ((old &&& ~~~m) ||| (e.2 &&& m))
  { s with csn := { s.csn with prev := tset s.csn.prev e.1 old, prevSet := tset s.csn.prevSet e.1 true } }

/-- Every entry takes effect together at T, and the proposal ends with outcome 1 (R85, R87, R91). -/
def csnApply (s : State) (T : Nat) : State :=
  let es := s.csn.entries
  let s := { s with csn := { s.csn with prev := [], prevSet := [], lastT := T } }
  let s := forEach es s csnApplyEntry
  csnEnd s 1 s.csn.signer T s.csn.sealDig

/-- A chip reset discards a proposal with outcome 6 (R86). -/
def csnChipReset (s : State) : State :=
  if s.rd F.CSN_CST = 0 then s else csnEnd s 6 s.csn.signer s.devTime s.csn.sealDig

end Sys2Proof.Machine
end

