-- ==== Sys2Proof/Machine/Coh.lean ====
section
/-! DEFINITION. Cache coherence (R447 to R469) and the DRAM side of it (R470 to R486): where a line lies, the symbol code,
the L2s, the home agents' transactions, snoops and grants, writebacks, poison, and a desk declared dead.
Decisions: log entries 50 (DEDUCED), 51 (PRESUMED), 53 (DEDUCED), 63 (DEDUCED). -/

namespace Sys2Proof.Machine
open Sys2Proof

def State.dmc (s : State) (c : Nat) : Dmc := tget s.mem.dmcs c
def State.setDmc (s : State) (c : Nat) (x : Dmc) : State := { s with mem := { s.mem with dmcs := tset s.mem.dmcs c x } }
def State.desk (s : State) (d : Nat) : Desk := tget s.mem.desks d
def State.setDesk (s : State) (d : Nat) (x : Desk) : State := { s with mem := { s.mem with desks := tset s.mem.desks d x } }
def State.setScribe (s : State) (n : Nat) (c : Scribe) : State := { s with scribes := tset s.scribes n c }
def State.modScribe (s : State) (n : Nat) (f : Scribe → Scribe) : State := s.setScribe n (f (s.scribe n))
def State.setTxs (s : State) (l : List Tx) : State := { s with mem := { s.mem with txs := l } }
def State.setWbs (s : State) (l : List Wb) : State := { s with mem := { s.mem with wbs := l } }

/-- Eight zero words. -/
def zeroLine : List Word := List.replicate 8 0

/-- Populated channels as configured (R471); none before channel 0 is enabled. -/
def dramChannels (s : State) : Nat :=
  if s.rd (F.DMC_EN 0) = 0 then 0 else if s.rd (F.DMC_NCH 0) = 2 then 4 else if s.rd (F.DMC_NCH 0) = 1 then 2 else 1

/-- Lines per subchannel and rank by DTYPE (R470). -/
def linesPerRank (dtype : Nat) : Nat := if dtype = 1 then 2 ^ 27 else 2 ^ 28

/-- The lines of one channel, and the configured capacity in bytes (R471). -/
def channelLines (s : State) (c : Nat) : Nat := 2 * (1 + s.rd (F.DMC_RANKS c)) * linesPerRank (s.rd (F.DMC_DTYPE c))
def dramCapacity (s : State) : Nat := dramChannels s * channelLines s 0 * 64

/-- The channel of a line and its index within the channel (R472). -/
def lineChannel (s : State) (n : Nat) : Nat × Nat :=
  let k := dramChannels s
  if k = 4 then ((n % 4) ^^^ bitsOf n 12 2, n / 4) else if k = 2 then ((n % 2) ^^^ bitsOf n 12 1, n / 2) else (0, n)

/-- The line of a channel with an index within it (R472). -/
def channelLine (s : State) (c m : Nat) : Nat :=
  let k := dramChannels s
  if k = 4 then m * 4 + (c ^^^ bitsOf (m * 4) 12 2) else if k = 2 then m * 2 + (c ^^^ bitsOf (m * 2) 12 1) else m

/-- Where a line lies in its channel: subchannel, column burst, bank group, bank, rank, row (R472). -/
structure DramPlace where
  sub : Nat
  col : Nat
  bg : Nat
  bank : Nat
  rank : Nat
  row : Nat
  deriving DecidableEq, Repr

def dramPlace (s : State) (c m : Nat) : DramPlace :=
  let colBits := if s.rd (F.DMC_DTYPE c) = 0 then 7 else 6
  let rankBits := s.rd (F.DMC_RANKS c)
  let m1 := m / 2
  let m2 := m1 / 2 ^ colBits
  let m3 := m2 / 8
  let m4 := m3 / 4
  { sub := m % 2, col := m1 % 2 ^ colBits, bg := m2 % 8, bank := m3 % 4, rank := m4 % 2 ^ rankBits, row := m4 / 2 ^ rankBits }

/-! ### The symbol code (R473 to R477) -/

/-- Multiplication in GF(2^8) (R474). -/
def gfMul (a b : Nat) : Nat :=
  ((List.range 8).foldl (fun (x : Nat × Nat) i =>
    let acc := if b.testBit i then x.1 ^^^ x.2 else x.1
    let sh := x.2 * 2
    (acc, if 256 ≤ sh then sh ^^^ 0x11D else sh)) (0, a)).1

/-- A power of α = 02h. -/
def gfPow (n : Nat) : Nat := (List.range (n % 255)).foldl (fun x _ => gfMul x 2) 1

/-- The inverse of a non-zero element: its 254th power. -/
def gfInv (a : Nat) : Nat :=
  ((List.range 7).foldl (fun (x : Nat × Nat) _ => let sq := gfMul x.2 x.2; (gfMul x.1 sq, sq)) (1, a)).1

/-- The product of a polynomial, lowest coefficient first, and x + r. -/
def gfPolyRoot (p : List Nat) (r : Nat) : List Nat :=
  List.zipWith (fun a b => a ^^^ b) (0 :: p) (p.map (fun c => gfMul c r) ++ [0])

/-- The generator, lowest coefficient first (R474). -/
def rsGen : List Nat := (List.range 8).foldl (fun p i => gfPolyRoot p (gfPow i)) [1]

/-- The check symbols of 72 data symbols, symbols 72 to 79 in order (R474). -/
def rsCheck (data : List Nat) : List Nat :=
  let g := (rsGen.take 8).reverse
  data.foldl (fun (r : List Nat) d =>
    let fb := (r.headD 0) ^^^ d
    List.zipWith (fun a b => a ^^^ gfMul fb b) (r.drop 1 ++ [0]) g) (List.replicate 8 0)

/-- The marker's check symbols (R476). -/
def poisonMark : List Nat := [0xE7, 0x3C, 0xA5, 0x5A, 0xC3, 0x1E, 0x99, 0x66]

/-- The syndromes of an error seen as the difference of the check symbols. -/
def rsSyndromes (diff : List Nat) : List Nat :=
  (List.range 8).map (fun i => (diff.zipIdx).foldl (fun x (p : Nat × Nat) => x ^^^ gfMul p.1 (gfPow (i * (7 - p.2)))) 0)

/-- The value of a polynomial, lowest coefficient first. -/
def gfEval (p : List Nat) (x : Nat) : Nat := p.reverse.foldl (fun a c => gfMul a x ^^^ c) 0

/-- The state of the Berlekamp-Massey recursion: connection polynomials, length, shift, last discrepancy. -/
structure BmState where
  c : List Nat := [1]
  b : List Nat := [1]
  l : Nat := 0
  m : Nat := 1
  d : Nat := 1

/-- Sum of two polynomials. -/
def gfAdd (p q : List Nat) : List Nat :=
  (List.range (max p.length q.length)).map (fun i => p.getD i 0 ^^^ q.getD i 0)

def bmStep (syn : List Nat) (x : BmState) (n : Nat) : BmState :=
  let d := (List.range (x.l + 1)).foldl (fun a i => a ^^^ gfMul (x.c.getD i 0) (syn.getD (n - i) 0)) 0
  if d = 0 then { x with m := x.m + 1 }
  else
    let c' := gfAdd x.c ((List.replicate x.m 0 ++ x.b).map (gfMul (gfMul d (gfInv x.d))))
    if 2 * x.l ≤ n then { c := c', b := x.c, l := n + 1 - x.l, m := 1, d := d } else { x with c := c', m := x.m + 1 }

/-- The errors of at most four symbols that explain a difference of the check symbols: symbol and value (R475). -/
def rsErrors (diff : List Nat) : Option (List (Nat × Nat)) :=
  let syn := rsSyndromes diff
  let x := (List.range 8).foldl (bmStep syn) {}
  let roots := (List.range 80).filter (fun j => gfEval x.c (gfPow (255 - (79 - j) % 255)) == 0)
  if x.l = 0 ∨ 4 < x.l ∨ roots.length ≠ x.l then none
  else
    let omega := (List.range 8).map (fun i => (List.range (i + 1)).foldl (fun a k => a ^^^ gfMul (syn.getD (i - k) 0) (x.c.getD k 0)) 0)
    let deriv := (List.range x.c.length).map (fun i => if i % 2 = 0 then x.c.getD (i + 1) 0 else 0)
    some (roots.map (fun j =>
      let xi := gfPow (255 - (79 - j) % 255)
      (j, gfMul (gfPow (79 - j)) (gfMul (gfEval omega xi) (gfInv (gfEval deriv xi))))))

/-- The 72 data symbols of a line, and the words of 72 symbols (R473). -/
def lineSymbols (ws : List Word) : List Nat :=
  let n := ws.reverse.foldl (fun a w => a * 2 ^ 72 + w.toNat) 0
  (List.range 72).map (fun j => n >>> (8 * j) % 256)
def symbolLine (l : List Nat) : List Word :=
  let n := l.reverse.foldl (fun a x => a * 256 + x) 0
  (List.range 8).map (fun k => BitVec.ofNat 72 (n >>> (72 * k)))

/-- How a read burst decodes (R475): 0 clean, 1 corrected, 2 poisoned, 3 uncorrectable; the words delivered, and the
syndrome. -/
structure Decoded where
  out : Nat
  words : List Word
  synd : Nat
  deriving DecidableEq, Repr

/-- A read of a line whose symbols met errors, each a symbol's number and what was added to it (R475, R476). -/
def decodeBurst (ws : List Word) (marked : Bool) (errs : List (Nat × Nat)) : Decoded :=
  let data := lineSymbols ws
  let check := List.zipWith (fun a b => if marked then a ^^^ b else a) (rsCheck data) poisonMark
  let recv := (data ++ check).zipIdx.map (fun (p : Nat × Nat) =>
    errs.foldl (fun x (e : Nat × Nat) => if e.1 = p.2 then x ^^^ (e.2 % 256) else x) p.1)
  let rdata := recv.take 72
  let diff := List.zipWith (fun a b => a ^^^ b) (rsCheck rdata) (recv.drop 72)
  let synd := diff.reverse.foldl (fun a x => a * 256 + x) 0
  if diff.all (· == 0) then ⟨0, symbolLine rdata, synd⟩
  else if diff = poisonMark then ⟨2, symbolLine rdata, synd⟩
  else match rsErrors diff with
    | some l => ⟨1, symbolLine (rdata.zipIdx.map (fun (p : Nat × Nat) =>
        l.foldl (fun x (e : Nat × Nat) => if e.1 = p.2 then x ^^^ e.2 else x) p.1)), synd⟩
    | none => ⟨3, symbolLine rdata, synd⟩

/-! ### Memory -/

/-- What an unlisted word of DRAM reads as: 0, or a free value once DRAM has lost its contents (R613; assumptions 5, 9). -/
def State.dramBase (s : State) (a : Nat) : Word :=
  match s.mem.lost with
  | none => 0
  | some c => Config.free 72 (c + a)

/-- The words of a line in DRAM, and whether the line carries the marker (R464). -/
def State.memLine (s : State) (n : Nat) : List Word :=
  (List.range 8).map (fun i => tget s.mem.dram (8 * n + i) ^^^ s.dramBase (8 * n + i))
def State.marked (s : State) (n : Nat) : Bool := tget s.mem.mark n

/-- A line put into DRAM, with or without the marker. -/
def State.memStore (s : State) (n : Nat) (ws : List Word) (poison : Bool) : State :=
  let d := ws.zipIdx.foldl (fun t (p : Word × Nat) => tset t (8 * n + p.2) (p.1 ^^^ s.dramBase (8 * n + p.2))) s.mem.dram
  { s with mem := { s.mem with dram := d, mark := tset s.mem.mark n poison } }

/-- DRAM loses its contents: every word is a free value, and no line is marked (R613). -/
def State.dramLose (s : State) : State :=
  { s with freeCtr := s.freeCtr + 2 ^ 41, mem := { s.mem with dram := [], mark := [], lost := some s.freeCtr } }

/-- A memory write as its home agent orders it: performed while the channel is ACTIVE, held otherwise (R483). -/
def State.memWrite (s : State) (n : Nat) (ws : List Word) (poison : Bool) : State :=
  let c := (lineChannel s n).1
  if s.rd (F.DMC_STATE c) = 2 then s.memStore n ws poison
  else s.setDmc c { s.dmc c with held := (s.dmc c).held ++ [(n, ws, poison)] }

/-- A channel freezes on an error, or counts it during a freeze (R482, R483). -/
def freezeChannel (s : State) (c cause line cmdt src synd : Nat) : State :=
  if s.rd (F.DMC_STATE c) = 3 then s.bump (F.DMC_ECNT c)
  else
    let p := dramPlace s c (lineChannel s line).2
    let s := [(F.DMC_CAUSE c, cause), (F.DMC_CMDT c, cmdt), (F.DMC_SRC c, src), (F.DMC_SUB c, p.sub), (F.DMC_RANK c, p.rank),
        (F.DMC_BG c, p.bg), (F.DMC_BANK c, p.bank), (F.DMC_ROW c, p.row), (F.DMC_COL c, p.col), (F.DMC_FV c, 1),
        (F.DMC_FPA c, line * 64), (F.DMC_SYND c, synd), (F.DMC_FTIME c, (timeWord s.devTime).toNat),
        (F.DMC_STATE c, 3)].foldl (fun s (x : Fld × Nat) => s.wr x.1 x.2) s
    let s := (s.pageErr (0x260 + c) 0x10 13 cause).setBit (F.DMC_EVT c) 0
    s.setDmc c { s.dmc c with fail := some (line, cause) }

/-! ### The L2 of a desk (R362) -/

def l2Set (line : Nat) : Nat := line % 4096

/-- The way of a set that holds a line. -/
def State.l2Way (s : State) (d line : Nat) : Option Nat :=
  findBelow (fun w => let x := tget (s.desk d).ways (l2Set line * 16 + w); decide (x.st ≠ 0) && decide (x.line = line)) 16

/-- A line as a desk's L2 holds it; state 0 when it does not. -/
def State.l2 (s : State) (d line : Nat) : L2Line :=
  match s.l2Way d line with
  | some w => tget (s.desk d).ways (l2Set line * 16 + w)
  | none => {}

/-- A line of an L2 changed where it lies; state 0 removes it. -/
def State.setL2 (s : State) (d line : Nat) (x : L2Line) : State :=
  match s.l2Way d line with
  | some w => s.setDesk d { s.desk d with ways := tset (s.desk d).ways (l2Set line * 16 + w) (if x.st = 0 then {} else x) }
  | none => s

/-- The replacement bits after a way was used, and the way that they name (R362). -/
def plruTouch (bits way : Nat) : Nat :=
  ((List.range 4).foldl (fun (x : Nat × Nat) i =>
    let b := way / 2 ^ (3 - i) % 2
    (if b = 0 then setBitN x.1 x.2 else clrBitN x.1 x.2, 2 * x.2 + 1 + b)) (bits, 0)).1
def plruVictim (bits : Nat) : Nat :=
  ((List.range 4).foldl (fun (x : Nat × Nat) _ => let b := b2n (bits.testBit x.2); (2 * x.1 + b, 2 * x.2 + 1 + b)) (0, 0)).1

/-- A use of a line recorded in the replacement bits. -/
def State.l2Touch (s : State) (d line : Nat) : State :=
  match s.l2Way d line with
  | some w => s.setDesk d { s.desk d with plru := tmod (s.desk d).plru (l2Set line) (fun b => plruTouch b w) }
  | none => s

/-- Reservations on a line cleared on the scribes that a test names (R393). -/
def State.clearResv (s : State) (line : Nat) (p : Nat → Bool) : State :=
  forEach (List.range 32) s (fun s n =>
    match (s.scribe n).resv with
    | some a => if p n ∧ a / 64 = line then s.modScribe n (fun c => { c with resv := none }) else s
    | none => s)

/-- A line removed from the L1s of a desk's scribes other than one (R362, R462). -/
def State.l1Drop (s : State) (d line : Nat) (keep : Option Nat) : State :=
  forEach (List.range 8) s (fun s k =>
    let n := 8 * d + k
    if keep = some n ∨ ¬ ((tget (s.scribe n).l1d (line % 128)).contains line) then s
    else s.modScribe n (fun c => { c with l1d := tset c.l1d (line % 128) ((tget c.l1d (line % 128)).filter (· ≠ line)) }))

def presKey (d line : Nat) : Nat := d * 2 ^ 40 + line
def State.setPres (s : State) (d line st : Nat) : State :=
  { s with mem := { s.mem with pres := tset s.mem.pres (presKey d line) st } }

/-- The desk loses a line: its copies in the L2 and the L1s, and its reservations (R452, R454). -/
def State.l2Lose (s : State) (d line : Nat) : State :=
  ((s.setL2 d line {}).l1Drop d line none).clearResv line (fun n => n / 8 == d)

/-- An eviction: silent for E and S, with a WB for M and O (R454). -/
def State.l2Evict (s : State) (d line : Nat) : State :=
  let x := s.l2 d line
  let s := s.l2Lose d line
  if x.st = 3 ∨ x.st = 4 then
    ((s.setWbs (s.mem.wbs ++ [{ desk := d, line := line, words := x.words, poison := x.poison }])).bump (F.DSK_L2WB d)).setPres d line 0
  else s

/-- A line installed in an L2, with an eviction where the set is full (R362, R454). -/
def State.l2Install (s : State) (d line : Nat) (x : L2Line) : State :=
  let at' (w : Nat) : Nat := l2Set line * 16 + w
  match s.l2Way d line with
  | some _ => (s.setL2 d line x).l2Touch d line
  | none =>
    let w := match findBelow (fun w => decide ((tget (s.desk d).ways (at' w)).st = 0)) 16 with
      | some w => w
      | none => plruVictim (tget (s.desk d).plru (l2Set line))
    let old := tget (s.desk d).ways (at' w)
    let s := if old.st = 0 then s else s.l2Evict d old.line
    (s.setDesk d { s.desk d with ways := tset (s.desk d).ways (at' w) x }).l2Touch d line

/-! ### Snoops (R451, R452, R456, R457, R468) -/

/-- The snoop that a request calls for: 0 SnpS, 1 SnpX, 2 SnpInv, 3 SnpRd (R451). -/
def snoopOf (kind : Nat) : Nat := if kind = 0 then 0 else if kind = 1 then 1 else if kind = 4 then 3 else 2

/-- Whether a desk is declared dead. -/
def deskDead (s : State) (d : Nat) : Bool := s.isSet (F.PWR_DEAD d) || s.isSet (F.PWR_RECL d)

/-- Whether a desk's stop can answer a snoop for a line now: a desk whose reset could not write its lines back does not answer
(R466, R612; such a desk is held under 192 + its number), and
an LR holds its line for 64 cycles (R394). -/
def canAnswer (s : State) (d line snoop : Nat) : Bool :=
  deskDead s d || (!(s.pwr.held.contains (192 + d)) &&
    !((snoop == 1 || snoop == 2) && (s.desk d).holds.any (fun h => h.1 == line && decide (s.now < h.2))))

/-- What a desk answers: data when it supplies any, its poison, whether it keeps a copy, and whether the data came from a
writeback. -/
structure Answer where
  data : Option (List Word) := none
  poison : Bool := false
  kept : Bool := false
  wb : Bool := false
  lost : Bool := false
  deriving DecidableEq, Repr

/-- A desk answers a snoop (R452), from its writeback buffer (R457), from the presence table in DOZE (R549), or for a
dead desk (R468). -/
def answerSnoop (s : State) (d line snoop : Nat) : Answer × State :=
  if deskDead s d then
    let p := tget s.mem.pres (presKey d line)
    if p = 3 ∨ p = 4 then ({ data := some zeroLine, poison := true, lost := true }, s.setPres d line 0)
    else ({}, s.setPres d line 0)
  else match s.mem.wbs.find? (fun w => w.desk == d && w.line == line && !w.spent && !w.ordered) with
    | some w =>
      let a : Answer := { data := some w.words, poison := w.poison, wb := true }
      if snoop = 3 then (a, s)
      else (a, s.setWbs (s.mem.wbs.map (fun x => if x = w then { x with spent := true } else x)))
    | none =>
      let x := s.l2 d line
      if x.st = 0 then ({}, s)
      else if s.rd (F.PWR_DST d) = 2 then ({}, (s.l2Lose d line).setPres d line 0)
      else
        let dirty := x.st = 3 ∨ x.st = 4
        let give : Option (List Word) := if dirty then some x.words else none
        if snoop = 3 then ({ data := give, poison := dirty && x.poison, kept := true }, s)
        else if snoop = 0 then
          let st := if dirty then 3 else 1
          ({ data := give, poison := dirty && x.poison, kept := true }, (s.setL2 d line { x with st := st }).setPres d line st)
        else ({ data := give, poison := dirty && x.poison }, (s.l2Lose d line).setPres d line 0)

/-- The desk of a request's initiator; none for an agent without a cache. -/
def srcDesk (src : Nat) : Option Nat := if src < 32 then some (src / 8) else none

/-- Whether a request leaves its initiator's desk holding the line (R455). -/
def caching (kind : Nat) : Bool := decide (kind < 4)

/-- The desks that a request's snoop visits (R451): every desk but the requester's own, for NcRd and NcWr every desk; a
forwarded snoop to the pending owner is written as 8 + desk (R455). -/
def snoopDesks (s : State) (line kind src : Nat) : List Nat :=
  let pend := (s.mem.txs.filter (fun t => t.line == line && caching t.kind)).getLast?
  ((List.range 4).filter (fun d => !(caching kind && srcDesk src == some d))).map (fun d =>
    match pend with
    | some t => if srcDesk t.src = some d then 8 + d else d
    | none => d)

/-- A request is ordered at its home agent and its snoop is sent (R451, R455). A WB that the home agent has absorbed
supplies the data of a request for ownership, and its memory write is cancelled (R458); any other request follows the memory write. -/
def homeOrder (s : State) (line kind src : Nat) (wr : List (Nat × Nat)) : State :=
  let t : Tx := { line := line, kind := kind, src := src, waits := snoopDesks s line kind src, since := s.now,
                  rd := if kind = 0 ∨ kind = 1 ∨ kind = 4 then 1 else 0, wr := wr }
  let s := if caching kind ∧ (kind = 0 ∨ kind = 1) then
      (match srcDesk src with | some d => s.bump (F.DSK_L2MISS d) | none => s) else s
  match s.mem.wbs.find? (fun w => w.line == line && w.ordered && !w.spent) with
  | some w =>
    let s := s.setWbs (s.mem.wbs.map (fun x => if x = w then { x with spent := true } else x))
    if kind = 1 ∨ kind = 2 ∨ kind = 3 then s.setTxs (s.mem.txs ++ [{ t with data := some w.words, poison := w.poison, rd := 0 }])
    else (s.memWrite line w.words w.poison).setTxs (s.mem.txs ++ [t])
  | none => s.setTxs (s.mem.txs ++ [t])

/-- The list with the first element that a test accepts replaced. -/
def replaceFirst {α : Type} (l : List α) (p : α → Bool) (f : α → α) : List α :=
  match l with
  | [] => []
  | x :: t => if p x then f x :: t else x :: replaceFirst t p f

/-- The list without the first element that a test accepts. -/
def removeFirst {α : Type} (l : List α) (p : α → Bool) : List α :=
  match l with
  | [] => []
  | x :: t => if p x then t else x :: removeFirst t p

/-- A desk's answer to the first request of a line that waits for it; the entry is desk, or 8 + desk for a forwarded snoop, which
is answered once the earlier grant has been delivered (R456). -/
def takeAnswer (s : State) (line entry : Nat) (kindOk : Nat → Bool) : State :=
  let d := entry % 8
  match s.mem.txs.find? (fun t => t.line == line && t.waits.contains entry) with
  | none => s
  | some t =>
    let first := s.mem.txs.takeWhile (fun x => x ≠ t)
    if ¬ kindOk (snoopOf t.kind) ∨ ¬ canAnswer s d line (snoopOf t.kind) ∨
       (8 ≤ entry ∧ first.any (fun x => x.line == line && srcDesk x.src == some d)) then s
    else
      let (a, s) := answerSnoop s d line (snoopOf t.kind)
      let t' : Tx := { t with waits := t.waits.filter (· ≠ entry), shared := t.shared || a.kept || a.data.isSome }
      let t' : Tx := match a.data with
        | some ws => if t.kind = 3 then t' else { t' with data := some ws, poison := a.poison, fromWb := a.wb, rd := 0 }
        | none => t'
      let s := s.setTxs (replaceFirst s.mem.txs (fun x => x == t) (fun _ => t'))
      if a.lost then s.memWrite line zeroLine true else s

/-- The words of a line with bytes of it written: byte k of a line is byte k mod 8 of word k div 8 (R364). -/
def writeBytes (ws : List Word) (wr : List (Nat × Nat)) : List Word :=
  ws.zipIdx.map (fun (p : Word × Nat) =>
    wr.foldl (fun w (e : Nat × Nat) => if e.1 / 8 = p.2 then putField w (9 * (e.1 % 8)) 9 e.2 else w) p.1)

/-- Whether a write covers all 64 bytes of the line (R465). -/
def fullLine (wr : List (Nat × Nat)) : Bool := (List.range 64).all (fun k => wr.any (fun e => e.1 == k))

/-- Whether a desk's copy was taken before its Upg was ordered, so that the Upg is completed as an RdX (R453). -/
def upgLost (s : State) (t : Tx) : Bool :=
  t.kind == 2 && (match srcDesk t.src with | some d => decide ((s.l2 d t.line).st = 0) | none => true)

/-- The DRAM read of a request, made without an error where the channel is ACTIVE (R451, R475). -/
def readDram (s : State) (t : Tx) : Option (Tx × State) :=
  let c := (lineChannel s t.line).1
  if t.rd = 3 then none
  else if t.data.isSome then some (t, s)
  else if s.rd (F.DMC_STATE c) ≠ 2 then none
  else
    let s := if s.marked t.line then s.bump (F.DMC_POISRD c) else s
    some ({ t with data := some (s.memLine t.line), poison := s.marked t.line, rd := 2 }, s)

/-- The queue pairs' entries (R513). -/
def State.qp (s : State) (q : Nat) : Qp := tget s.qps q
def State.setQp (s : State) (q : Nat) (x : Qp) : State := { s with qps := tset s.qps q x }

/-- Whether a line has been written by an agent without a cache: nothing of it is open or held (R459, R483). -/
def linePerformed (s : State) (src line : Nat) : Bool :=
  !(s.mem.posted.any (fun p => p.src == src && p.line == line)) &&
  !(s.mem.txs.any (fun t => t.src == src && t.line == line)) &&
  !((List.range 4).any (fun c => (s.dmc c).held.any (fun h => h.1 == line)))

/-- HEAD of a ring passes the entries at its front whose every write has been performed, and PEND is set at each advance (R513);
`j` is 0 for the receive ring and 1 for the transmit ring. -/
def qpAdvance (s : State) (q j : Nat) : State :=
  let x := s.qp q
  let l := if j = 0 then x.rxw else x.txw
  let n := (l.takeWhile (fun e => e.all (linePerformed s 0x24))).length
  if n = 0 then s
  else
    let h := F.TEN_HEAD (2 * q + j)
    ((s.setQp q (if j = 0 then { x with rxw := x.rxw.drop n } else { x with txw := x.txw.drop n })).wr h (s.rd h + n)).wr
      (F.TEN_PEND (2 * q + j)) 1

def qpSettle (s : State) : State :=
  (s.qps.map (·.1)).foldl (fun s q => qpAdvance (qpAdvance s q 0) q 1) s

/-- The first request of a line, all of its snoops answered, is completed: a grant delivered (R453), a write merged and
written (R459, R465), a reclaim marked (R469). None while its DRAM read is missing. -/
def completeTx (s : State) (t : Tx) : Option State :=
  let pop (s : State) : State := s.setTxs (removeFirst s.mem.txs (fun x => x.line == t.line))
  if t.waits ≠ [] then none
  else if t.kind = 6 then some ((pop s).memWrite t.line zeroLine true)
  else if t.kind = 5 then
    (if fullLine t.wr then some (qpSettle ((pop s).memWrite t.line (writeBytes zeroLine t.wr) false))
     else match t.data with
      | some ws => some (qpSettle ((pop s).memWrite t.line (writeBytes ws t.wr) t.poison))
      | none => match readDram s t with
        | some (t', s) => some (qpSettle ((pop s).memWrite t.line (writeBytes (t'.data.getD zeroLine) t.wr) t'.poison))
        | none => none)
  else if t.kind = 4 then (match readDram s t with | some (_, s) => some (pop s) | none => none)
  else match srcDesk t.src with
    | none => some (pop s)
    | some d =>
      let put (s : State) (st : Nat) (ws : List Word) (poison : Bool) : State :=
        ((pop s).l2Install d t.line { line := t.line, st := st, poison := poison, words := ws }).setPres d t.line st
      if t.kind = 3 then some (put s 4 zeroLine false)
      else if t.kind = 2 ∧ ¬ upgLost s t then
        (let x := s.l2 d t.line
         some (put s 4 x.words x.poison))
      else match readDram s t with
        | some (t', s) =>
          let st := if t.kind = 0 then (if t.fromWb then 3 else if t.shared then 1 else 2) else 4
          some (put s st (t'.data.getD zeroLine) t'.poison)
        | none => none

/-- The writebacks of a line are ordered and acknowledged: memory is written unless a snoop or a grant took the data (R457,
R458). -/
def settleWbs (s : State) (line : Nat) : State :=
  let l := s.mem.wbs.filter (fun w => w.line == line)
  let s := s.setWbs (s.mem.wbs.filter (fun w => w.line ≠ line))
  l.foldl (fun s w => if w.spent then s else s.memWrite line w.words w.poison) s

/-- The open requests of a line carried as far as the desks and the channel let them. -/
def drive : Nat → State → Nat → State
  | 0, s, _ => s
  | n + 1, s, line =>
    match s.mem.txs.find? (fun t => t.line == line) with
    | none => s
    | some t =>
      let s := t.waits.foldl (fun s e => takeAnswer s line e (fun _ => true)) s
      match s.mem.txs.find? (fun t => t.line == line) with
      | none => s
      | some t => match completeTx s t with
        | some s => drive n s line
        | none => s

/-- An access of a scribe's desk to a line: for reading (S or better) or for writing (M), through the home agent where the desk
does not hold it so (R451 to R458). The answer says whether the desk now holds the line so. -/
def acquire (s : State) (src line : Nat) (own : Bool) : Bool × State :=
  let d := src / 8
  let holds (s : State) : Bool := if own then decide ((s.l2 d line).st = 4) else decide ((s.l2 d line).st ≠ 0)
  if holds s then (true, s.l2Touch d line)
  else if own ∧ (s.l2 d line).st = 2 then (true, (s.setL2 d line { s.l2 d line with st := 4 }).l2Touch d line)
  else
    let s := settleWbs (drive (s.mem.txs.length + 1) s line) line
    let s := if holds s ∨ s.mem.txs.any (fun t => t.line == line && srcDesk t.src == some d) then s
      else homeOrder s line (if own then (if (s.l2 d line).st = 0 then 1 else 2) else 0) src []
    let s := drive (s.mem.txs.length + 1) s line
    (holds s, s)

/-- DZERO's request: ownership without data (R451). -/
def acquireZero (s : State) (src line : Nat) : Bool × State :=
  let d := src / 8
  let s := settleWbs (drive (s.mem.txs.length + 1) s line) line
  if (s.l2 d line).st = 4 then (true, s.setL2 d line { line := line, st := 4, poison := false, words := zeroLine })
  else
    let s := if s.mem.txs.any (fun t => t.line == line && srcDesk t.src == some d) then s else homeOrder s line 3 src []
    let s := drive (s.mem.txs.length + 1) s line
    if (s.l2 d line).st = 4 then (true, s.setL2 d line { line := line, st := 4, poison := false, words := zeroLine }) else (false, s)

/-- The coherent value of a line as a reader without a cache receives it (R459), and its poison; none while it cannot be
had. -/
def ncRead (s : State) (src line : Nat) : Option (List Word × Bool) × State :=
  let s := settleWbs (drive (s.mem.txs.length + 1) s line) line
  if s.mem.txs.any (fun t => t.line == line) then (none, s)
  else
    let owner := (List.range 4).find? (fun d => decide ((s.l2 d line).st = 3) || decide ((s.l2 d line).st = 4))
    match owner with
    | some d => if deskDead s d ∨ ¬ canAnswer s d line 3 then (none, homeOrder s line 4 src []) else
        (some ((s.l2 d line).words, (s.l2 d line).poison), s)
    | none =>
      let c := (lineChannel s line).1
      if s.rd (F.DMC_STATE c) = 2 then
        (some (s.memLine line, s.marked line), if s.marked line then s.bump (F.DMC_POISRD c) else s)
      else (none, homeOrder s line 4 src [])

/-- An invalidate-all write ordered and, where the desks and the channel let it, performed (R459). -/
def ncWrite (s : State) (src line : Nat) (wr : List (Nat × Nat)) : State :=
  let s := settleWbs (drive (s.mem.txs.length + 1) s line) line
  let s := (homeOrder s line 5 src wr).clearResv line (fun n => n ≠ src)
  drive (s.mem.txs.length + 1) s line

/-! ### The commands -/

/-- HOME_RDS (R451). -/
def execHomeRds (t line src : Nat) (s : State) : Out := .next (homeOrder (s.tick t) line 0 src [])

/-- HOME_RDX (R451). -/
def execHomeRdx (t line src : Nat) (s : State) : Out := .next (homeOrder (s.tick t) line 1 src [])

/-- HOME_UPG (R453). -/
def execHomeUpg (t line src : Nat) (s : State) : Out := .next (homeOrder (s.tick t) line 2 src [])

/-- HOME_ZX (R451). -/
def execHomeZx (t line src : Nat) (s : State) : Out := .next (homeOrder (s.tick t) line 3 src [])

/-- HOME_WB (R457, R458): a snoop ordered before it meets the buffer first; then the WB is absorbed, or acknowledged and
discarded where its data was taken. -/
def execHomeWb (t line src : Nat) (s : State) : Out :=
  .next (let s := s.tick t
    let s := takeAnswer (takeAnswer s line (src / 8) (fun _ => true)) line (8 + src / 8) (fun _ => true)
    s.setWbs (replaceFirst s.mem.wbs (fun w => w.line == line && srcDesk src == some w.desk && !w.ordered)
      (fun w => { w with ordered := true })))

/-- HOME_NCRD (R459). -/
def execHomeNcrd (t line src : Nat) (s : State) : Out :=
  .next (let s := homeOrder (s.tick t) line 4 src []
    s)

/-- HOME_NCWR (R459): the first write of the initiator to the line is ordered; it is merged and written once every desk has
answered. -/
def execHomeNcwr (t line src : Nat) (s : State) : Out :=
  .next (let s := s.tick t
    match s.mem.posted.find? (fun p => p.src == src && p.line == line) with
    | none => s
    | some p =>
      let s := { s with mem := { s.mem with posted := removeFirst s.mem.posted (fun x => x == p) } }
      ncWrite s src line p.wr)

/-- The first request of a line completed when nothing of it is missing. -/
def finishLine (s : State) (line : Nat) : State :=
  match s.mem.txs.find? (fun t => t.line == line) with
  | some t => if caching t.kind then s else (match completeTx s t with | some s => s | none => s)
  | none => s

/-- SNOOP_SNPS (R452). -/
def execSnoopSnps (t desk line : Nat) (s : State) : Out := .next (takeAnswer (s.tick t) line desk (fun k => k == 0))

/-- SNOOP_SNPX (R452). -/
def execSnoopSnpx (t desk line : Nat) (s : State) : Out := .next (takeAnswer (s.tick t) line desk (fun k => k == 1))

/-- SNOOP_SNPINV (R452). -/
def execSnoopSnpinv (t desk line : Nat) (s : State) : Out :=
  .next (finishLine (takeAnswer (s.tick t) line desk (fun k => k == 2)) line)

/-- SNOOP_SNPRD (R452). -/
def execSnoopSnprd (t desk line : Nat) (s : State) : Out :=
  .next (finishLine (takeAnswer (s.tick t) line desk (fun k => k == 3)) line)

/-- FORWARDED_SNOOP (R456): the pending owner answers after its own grant was delivered and its access performed. -/
def execForwardedSnoop (t desk line : Nat) (s : State) : Out :=
  .next (finishLine (takeAnswer (s.tick t) line (8 + desk) (fun _ => true)) line)

/-- GRANT_DELIVER (R453): the first request of the line is the desk's, every snoop is answered and its data is there. -/
def execGrantDeliver (t desk line : Nat) (s : State) : Out :=
  .next (let s := s.tick t
    match s.mem.txs.find? (fun t => t.line == line) with
    | some x => if caching x.kind ∧ srcDesk x.src = some desk then (match completeTx s x with | some s => s | none => s) else s
    | none => s)

/-- WB_ACK (R454, R458): the desk frees its buffer; memory is written unless the data was taken. -/
def execWbAck (t desk line : Nat) (s : State) : Out :=
  .next (let s := s.tick t
    match s.mem.wbs.find? (fun w => w.desk == desk && w.line == line && w.ordered) with
    | some w =>
      let s := s.setWbs (removeFirst s.mem.wbs (fun x => x == w))
      if w.spent then s else s.memWrite line w.words w.poison
    | none => s)

/-- SNOOP_TIMEOUT (R466, R486): the desk has not answered 10 µs after the snoop; the first report is captured. -/
def execSnoopTimeout (t desk line : Nat) (s : State) : Out :=
  .next (let s := s.tick t
    if s.mem.txs.any (fun x => x.line == line && (x.waits.contains desk || x.waits.contains (8 + desk)) && decide (x.since + 10000 ≤ s.now)) then
      let c := (lineChannel s line).1
      if s.isSet (F.DMC_SV c) then s.bump (F.DMC_STCNT c)
      else ((((s.wr (F.DMC_SDESK c) desk).wr (F.DMC_SLINE c) line).wr (F.DMC_SV c) 1).pageErr (0x260 + c) 0x11 20 (line % 2 ^ 40)).setBit (F.DMC_EVT c) 1
    else s)

/-- RECLAIM_MESSAGE (R469): a reclaim of the line is ordered; its sharers drop their copies and the marker is written. -/
def execReclaimMessage (t line : Nat) (s : State) : Out :=
  .next (let s := s.tick t
    match s.mem.reclaims.find? (fun r => r.2 == line) with
    | none => s
    | some r =>
      let s := { s with mem := { s.mem with reclaims := removeFirst s.mem.reclaims (fun x => x == r) } }
      let s := drive (s.mem.txs.length + 1) s line
      let s := homeOrder s line 6 (8 * r.1) []
      drive (s.mem.txs.length + 1) s line)

end Sys2Proof.Machine
end

