-- ==== Sys2Proof/Machine/Gate.lean ====
section
/-! DEFINITION. Which access to a register page is let through (R53, R55, R56): the initiators that a page admits, the power
of its block, and a block in reset, where the access stalls.
Decisions: log entries 15 (DEDUCED), 17 (DEDUCED), 19 (DEDUCED), 79 (DESIGN CHOICE). -/

namespace Sys2Proof.Machine
open Sys2Proof

/-- The management controller, the debug bus master, and scribes at H with tenant ID 0. -/
def hostInit (s : State) (init : Nat) : Bool :=
  decide (init = 0x20) || decide (init = 0x21) ||
    (decide (init < 0x20) && decide (scribeLevel (s.scribe init) = 2) && decide (scribeTenant (s.scribe init) = 0))

/-- The tenant of an initiator; a virtual function is named by its number plus 1 (R507). -/
def tenantOf (s : State) (init vf : Nat) : Nat :=
  if init < 0x20 then scribeTenant (s.scribe init)
  else if init = 0x23 ∧ 0 < vf then bitsOf (s.rd F.TEN_VFT) (4 * (vf - 1)) 4 else 0

/-- Whether a scribe runs at U. -/
def atU (s : State) (init : Nat) : Bool := decide (init < 0x20) && decide (scribeLevel (s.scribe init) = 0)

/-- Access to a word of the TEN page (R515, R529). -/
def tenAdmits (s : State) (init vf off : Nat) (write : Bool) : Bool :=
  let t := tenantOf s init vf
  if 384 ≤ off then
    (decide (t = 0) || decide (s.rd (F.TEN_OWNER ((off - 384) / 2)) = t)) && (decide (init < 0x21) || decide (init = 0x21) || decide (init = 0x23))
  else if atU s init || decide (0 < vf) then false
  else if t = 0 then true
  else decide (init < 0x20) && decide (scribeLevel (s.scribe init) = 1) && decide (off = 16 + t) && !write

/-- Access to a word of the BLT page (R574, R590, R591). -/
def bltAdmits (s : State) (init off : Nat) (write : Bool) : Bool :=
  if 64 ≤ off ∧ off < 96 then
    write && (decide (init = 0x20) || (decide (init < 0x20) && (!atU s init || bitOf (s.rd F.BLT_SUSR) (off - 64))))
  else hostInit s init || (decide (off = 18) && write)

/-- Whether a page admits an initiator (R397, R428, R488, R506, R516, R529, R553, R554, R568, R591, R602, R617). -/
def pageAdmits (s : State) (init vf page off : Nat) (write : Bool) : Bool :=
  match pageKind page with
  | some .dsk | some .icu | some .dmc | some .phy | some .ucl | some .udf | some .pci | some .pwr | some .bst | some .dpx
  | some .mcb => hostInit s init
  | some .dma | some .dmb => !atU s init
  | some .ten => tenAdmits s init vf off write
  | some .blt => bltAdmits s init off write
  | _ => true

/-- A block whose low-power state is emulated keeps its supply (R584). -/
def emulated (s : State) (block : Nat) : Bool := s.pwr.emul.any (fun e => e.1 == block)

/-- Ferrule states, 0 RUN, 1 PARK, 2 OFF, 3 changing (R553). -/
def ferPower (s : State) (f : Nat) : Nat := s.rd (fldAt (0x2A0 * 512 + 16 + f / 32) (2 * (f % 32)) 2)
def setFerPower (s : State) (f v : Nat) : State := s.wr (fldAt (0x2A0 * 512 + 16 + f / 32) (2 * (f % 32)) 2) v

/-- Domain states, 0 OFF, 1 ON, 2 changing: 0 DRAM, 1 uplinks, 2 PCIe (R553). -/
def domPower (s : State) (d : Nat) : Nat := bitsOf (s.rd F.PWR_DOM) (2 * d) 2
def setDomPower (s : State) (d v : Nat) : State := s.wr (fldAt F.PWR_DOM.addr (2 * d) 2) v

/-- Whether a ferrule is in RUN, or only emulates a lower state. -/
def ferRuns (s : State) (f : Nat) : Bool := decide (ferPower s f = 0) || emulated s f

/-- Words that a chapter marks as always-on (R159, R215, R359, R529, R553, R554, R568, R591): of the ferrules' pages those of
the LNK, SUB and PUB pages that survive a reset of their block. -/
def alwaysOn (page off : Nat) : Bool :=
  decide (off ≤ 1) || match pageKind page with
    | some .lnk => decide (off = 8) || (decide (32 ≤ off) && decide (off < 288) && decide (off % 16 = 0))
    | some .sub => (decide (23 ≤ off) && decide (off ≤ 25)) || (decide (48 ≤ off) && decide (off < 112)) || decide (320 ≤ off)
    | some .pub => (decide (18 ≤ off) && decide (off ≤ 22)) || (decide (32 ≤ off) && decide (off ≤ 36)) || decide (off = 40) ||
        decide (48 ≤ off)
    | some .dev | some .csn | some .tim | some .rul0 | some .rul | some .msh | some .pwr | some .bst | some .blt | some .ten
    | some .mcb => true
    | _ => false

/-- Whether the power domain of a page is up (R56, R542, R543). -/
def pagePowered (s : State) (page : Nat) : Bool :=
  match pageKind page with
  | some .fer | some .lnk | some .sub | some .pub => ferRuns s ((page - 0x100) / 4)
  | some .dsk => let d := (page - 0x200) / 8
    decide (s.rd (F.PWR_DST d) < 2) || emulated s (64 + d)
  | some .dmc | some .phy | some .dma | some .dmb => decide (domPower s 0 = 1) || emulated s 128
  | some .upl | some .uplPair | some .ucl | some .udf => decide (domPower s 1 = 1) || emulated s 129
  | some .pci => decide (domPower s 2 = 1) || emulated s 130
  | _ => true

/-- Whether the block of a page is in reset (R56, R610): a ferrule or desk held by BRESET or by a scan, a ferrule reset, or a
block outside AON in a chip reset. -/
def pageInReset (s : State) (page : Nat) : Bool :=
  let chip := decide (1 ≤ s.phase) && decide (s.phase ≤ 3)
  match pageKind page with
  | some .fer | some .lnk | some .sub | some .pub => chip || (tget s.ferrules ((page - 0x100) / 4)).inReset
  | some .dsk => chip || s.pwr.held.contains (64 + (page - 0x200) / 8)
  | some .icu | some .dmc | some .phy | some .dma | some .dmb | some .upl | some .uplPair | some .ucl | some .udf | some .pci | some .dpx => chip
  | _ => false

/-- The bus-error code that an access to a page meets at once (R53); none where it meets none. -/
def accessFault (s : State) (init vf page off : Nat) (write : Bool) : Option Nat :=
  if pageKind page = none then some 3
  else if ¬ pageAdmits s init vf page off write then some 6
  else if wordFields page off = none then some 2
  else if ¬ alwaysOn page off ∧ ¬ pagePowered s page then some 7
  else none

/-- An access to a block in reset waits (R56). -/
def State.stall (s : State) (init vf page off : Nat) (write : Bool) (value : Word) (insn : Bool) : State :=
  let id := s.stalled.foldl (fun n a => max n (a.id + 1)) 0
  { s with stalled := s.stalled ++ [{ id := id, init := init, vf := vf, page := page, off := off, write := write, value := value,
                                      issued := s.now, insn := insn }] }

/-- A write that a command brings to a word of a page: performed when the page lets it through; a bus error is captured (R54);
an access to a block in reset stalls (R56). -/
def State.gated (s : State) (init page off : Nat) (value : Word) (f : State → State) : State :=
  match accessFault s init 0 page off true with
  | some c => s.busErr (pageAddr page off) c init true
  | none =>
    if ¬ alwaysOn page off ∧ pageInReset s page then s.stall init 0 page off true value false else f s

/-- A read that a command brings to a word of a page, with its effect. -/
def State.gatedRead (s : State) (init page off : Nat) (f : State → State) : State :=
  match accessFault s init 0 page off false with
  | some c => s.busErr (pageAddr page off) c init false
  | none => if ¬ alwaysOn page off ∧ pageInReset s page then s.stall init 0 page off false 0 false else f s

/-- The CMD word of a doorbell write (R66). -/
def cmdWord (seq opc handle : Nat) : Word := BitVec.ofNat 72 (seq % 256 + opc % 256 * 2 ^ 8 + handle % 2 ^ 36 * 2 ^ 36)

/-- A doorbell write that a command brings to a page. -/
def State.gatedCmd (s : State) (init page seq opc handle : Nat) (f : State → State) : State :=
  s.gated init page 8 (cmdWord seq opc handle) f

/-- An accepted doorbell is refused (R68). -/
def State.refuse (s : State) (page status reason : Nat) : State := s.complete page status reason 0

/-- A doorbell of a page without handles that only some initiators may use: it is accepted under R67 and then refused with
STATUS 01h, REASON 01h for another initiator. -/
def State.hostBell (s : State) (page seq opc : Nat) (allowed : Bool) (f : State → State) : State :=
  match s.doorbell page seq opc 0 (fun _ => none) with
  | (s, false) => s
  | (s, true) => if allowed then f s else s.refuse page 1 1

/-! ### The power controller's requests (R547, R548) -/

/-- The state index under which a request counts (R548). -/
def pwrIndex (r : PwrReq) : Nat :=
  if r.opc = 2 then bitsOf r.arg 4 2 - 1 else if r.opc = 3 then 2 + bitsOf r.arg 6 2 else if r.opc = 4 then 5
  else 5 + bitsOf r.arg 0 2

/-- A PWR command ends (R68, R553): no request is in progress, and EVT bit 0 tells of a request done. -/
def pwrEnd (s : State) (status reason : Nat) : State :=
  let s := { s with pwr := { s.pwr with req := none } }.wr F.PWR_HSB 0
  (if status = 0 then s.setBit F.PWR_EVT 0 else s).complete 0x2A0 status reason 0

/-- What a state of PWR_FST shows of a ferrule that is not changing, from its FSTATE (R276, R553). -/
def ferShown (s : State) (f : Nat) : Nat :=
  let v := s.rd (F.FER_FSTATE f)
  if v = 0 then 2 else if v = 1 then 1 else 0

/-- Changes that a request had been granted are undone: every block that granted is released unchanged (R547). -/
def pwrRelease (s : State) (blocks : List Nat) : State :=
  let s := { s with pwr := { s.pwr with change := s.pwr.change.filter (fun c => !(blocks.contains c.1)) } }
  blocks.foldl (fun s b =>
    if b < 64 then setFerPower s b (ferShown s b) else if 128 ≤ b then setDomPower s (b - 128) 1 else s) s

/-- A request ends by a refusal or an abort (R547): the block is recorded under the requested state. -/
def pwrFail (s : State) (block : Nat) (abort : Bool) : State :=
  match s.pwr.req with
  | none => s
  | some r =>
    let i := pwrIndex r
    let s := s.bump (fldAt (if abort then F.PWR_NABT.addr else F.PWR_NREF.addr) (8 * i) 8)
    let s := s.wr (fldAt F.PWR_LAST.addr (8 * i) 8) block
    let s := s.setBit F.PWR_EVT (if abort then 2 else 1)
    let s := if abort then s.pageErr 0x2A0 0x11 27 block else s
    pwrEnd (pwrRelease s r.granted) (if abort then 3 else 2) block

/-- A load, or the read of a staging area, names a ferrule that is not in RUN (R550): the power controller returns it to RUN; a
change that has been granted but not completed is aborted. -/
def wakeFerrule (s : State) (f : Nat) : State :=
  let granted := match s.pwr.req with
    | some r => r.granted.contains f && s.pwr.change.any (fun c => c.1 == f && decide (c.2 ≠ 0))
    | none => false
  if granted then pwrFail s f true
  else if ferPower s f = 0 ∨ ferPower s f = 3 then s
  else if emulated s f then
    let s := setFerPower s f 0
    let e := s.pwr.emul.filter (fun e => e.1 ≠ f)
    { s with pwr := { s.pwr with emul := e } }.wrb F.PWR_EMUL (!e.isEmpty)
  else { setFerPower s f 3 with pwr := { s.pwr with change := s.pwr.change ++ [(f, 0)] } }

end Sys2Proof.Machine
end

