-- ==== Sys2Proof/Machine/Dmc.lean ====
section
/-! DEFINITION. The DRAM controllers (R470 to R489): configuration, training, reads with errors, freezes and their end, patrol
and refresh.
Decisions: log entry 63 (DEDUCED). -/

namespace Sys2Proof.Machine
open Sys2Proof

def dmcPage (c : Nat) : Nat := 0x260 + c

/-- A write of DMC_CFG (R471, R488). -/
def dmcConfig (s : State) (c : Nat) (value : Word) : State :=
  if getField value 1 2 = 3 ∨ (s.rd (F.DMC_STATE c) ≠ 0 ∧ s.rd (F.DMC_STATE c) ≠ 1) then s.ignored (dmcPage c) 11 7
  else
    let s := s.setWord (dmcPage c * 512 + 11) (BitVec.ofNat 72 (getField value 0 11))
    if s.isSet (F.DMC_EN c) ∧ s.rd (F.DMC_STATE c) = 0 then s.wr (F.DMC_STATE c) 1 else s

/-- DMC_CONFIG_WRITE (R488). -/
def execDmcConfigWrite (t init ch : Nat) (value : Word) (s : State) : Out :=
  .next ((s.tick t).gated init (dmcPage ch) 11 value (fun s => dmcConfig s ch value))

/-- Requests of a channel whose snoops are all answered go on (R485). -/
def resumeChannel (s : State) (c : Nat) : State :=
  (s.mem.txs.filter (fun t => decide ((lineChannel s t.line).1 = c))).foldl (fun s t0 =>
    match s.mem.txs.find? (fun t => t.line == t0.line) with
    | some t => (match completeTx s t with | some s => s | none => s)
    | none => s) s

/-- The writes that a freeze held are performed in order (R485). -/
def performHeld (s : State) (c : Nat) : State :=
  let l := (s.dmc c).held
  qpSettle (l.foldl (fun s (w : Nat × List Word × Bool) => s.memStore w.1 w.2.1 w.2.2) (s.setDmc c { s.dmc c with held := [] }))

/-- RELEASE (R485): the failing read is answered poisoned and the marker is written over its line with the data as read; the
held queue resumes. -/
def dmcRelease (s : State) (c : Nat) : State :=
  let s := if (s.dmc c).fail.any (fun f => f.2 == 1) then
      (match (s.dmc c).fail with
       | some (line, _) =>
         let s := match s.mem.txs.find? (fun t => t.line == line && t.rd == 3) with
           | some t => s.memStore line (t.data.getD (s.memLine line)) true
           | none => s.memStore line (s.memLine line) true
         s.setTxs (s.mem.txs.map (fun t => if t.line = line ∧ t.rd = 3 then { t with rd := 2, poison := true } else t))
       | none => s) else s
  let s := (s.setDmc c { s.dmc c with fail := none }).wr (F.DMC_STATE c) 2
  resumeChannel ((performHeld s c).wr (F.DMC_WAITS c) 0) c

/-- RESET begins (R485): held reads are answered poisoned, held writes are discarded, and the channel retrains. -/
def dmcResetStart (s : State) (c : Nat) : State :=
  let x := s.dmc c
  let s := s.setTxs (s.mem.txs.map (fun t =>
    if (lineChannel s t.line).1 = c ∧ t.data.isNone ∧ (t.rd = 1 ∨ t.rd = 3) then
      { t with rd := 2, poison := true, data := some (s.memLine t.line) }
    else if (lineChannel s t.line).1 = c ∧ t.rd = 3 then { t with rd := 2, poison := true } else t))
  (s.setDmc c { x with fail := none, held := [], marks := x.held.map (·.1), retrain := true, step := 1 }).wr (F.DMC_STATE c) 1

/-- The end of a RESET's retraining (R485). -/
def dmcResetEnd (s : State) (c : Nat) : State :=
  let s := (s.dmc c).marks.foldl (fun s line => s.memStore line zeroLine true) s
  let s := (s.setDmc c { s.dmc c with marks := [], retrain := false, step := 0, activeAt := s.now }).wr (F.DMC_STATE c) 2
  resumeChannel ((performHeld s c).wr (F.DMC_WAITS c) 0) c

/-- The effect of an accepted DMC command from the management controller (R488). -/
def dmcCommand (s : State) (c opc : Nat) : State :=
  let p := dmcPage c
  let st := s.rd (F.DMC_STATE c)
  if opc = 1 then
    (if st = 3 then (dmcRelease s c).complete p 0 0 0 else s.refuse p 1 2)
  else if opc = 2 then
    (if st = 2 ∨ st = 3 then dmcResetStart s c else s.refuse p 1 2)
  else if opc = 3 then
    (let step := getField (s.word (p * 512 + 10)) 0 3
     if st = 1 ∧ 1 ≤ step ∧ step ≤ 6 then s.setDmc c { s.dmc c with step := step } else s.refuse p 1 2)
  else
    (if st = 1 ∧ s.rd (F.DMC_STEP c) = 6 then
       ((s.setDmc c { s.dmc c with activeAt := s.now, patrol := 0 }).wr (F.DMC_STATE c) 2).complete p 0 0 0
     else s.refuse p 1 2)

/-- A doorbell of a DMC page (R488). -/
def dmcBell (s : State) (init c seq opc : Nat) : State :=
  s.hostBell (dmcPage c) seq opc (init == 0x20) (fun s => dmcCommand s c opc)

/-- DMC_RELEASE (R485). -/
def execDmcRelease (t init ch seq : Nat) (s : State) : Out :=
  .next ((s.tick t).gatedCmd init (dmcPage ch) seq 1 0 (fun s => dmcBell s init ch seq 1))

/-- DMC_RESET (R485). -/
def execDmcReset (t init ch seq : Nat) (s : State) : Out :=
  .next ((s.tick t).gatedCmd init (dmcPage ch) seq 2 0 (fun s => dmcBell s init ch seq 2))

/-- DMC_TRAIN (R487). -/
def execDmcTrain (t init ch seq : Nat) (s : State) : Out :=
  .next ((s.tick t).gatedCmd init (dmcPage ch) seq 3 0 (fun s => dmcBell s init ch seq 3))

/-- DMC_ENABLE (R487). -/
def execDmcEnable (t init ch seq : Nat) (s : State) : Out :=
  .next ((s.tick t).gatedCmd init (dmcPage ch) seq 4 0 (fun s => dmcBell s init ch seq 4))

/-- The results of a training step written to the PHY page (R489). -/
def phyResults (s : State) (c : Nat) (l : List PhyLane) : State :=
  l.foldl (fun s x =>
    if x.lane < 40 ∧ x.sub < 2 ∧ x.rank < 2 then
      (let i := c * 160 + x.rank * 80 + x.sub * 40 + x.lane
       (((s.wr (F.PHY_RDLY i) x.rdly).wr (F.PHY_WDLY i) x.wdly).wr (F.PHY_RVREF i) x.rvref).wr (F.PHY_WVREF i) x.wvref)
    else s) s

/-- TRAINING_STEP_COMPLETE (R487): of a TRAIN, or of the retraining of a RESET, whose steps follow one another. -/
def execTrainingStepComplete (t ch : Nat) (pass : Bool) (lane sub rank : Nat) (results : List PhyLane) (s : State) : Out :=
  .next (let s := s.tick t
    let x := s.dmc ch
    if x.step = 0 then s
    else
      let s := phyResults s ch results
      let p := dmcPage ch
      if pass then
        let s := s.wr (F.DMC_STEP ch) x.step
        if ¬ x.retrain then (s.setDmc ch { x with step := 0 }).complete p 0 0 0
        else if x.step < 6 then s.setDmc ch { x with step := x.step + 1 }
        else (dmcResetEnd s ch).complete p 0 0 0
      else
        let s := ((s.wr (F.DMC_FLANE ch) lane).wr (F.DMC_FSUB ch) sub).wr (F.DMC_FRNK ch) rank
        let s := (s.pageErr p 0x13 23 0).setBit (F.DMC_EVT ch) 3
        (s.setDmc ch { x with step := 0, retrain := false }).refuse p 1 3)

/-- DRAM_READ_DECODE (R475): the read of the first open request of the line, with the symbols that met errors. -/
def execDramReadDecode (t ch line : Nat) (errs : List (Nat × Nat)) (s : State) : Out :=
  .next (let s := s.tick t
    match s.mem.txs.find? (fun x => x.line == line && x.rd == 1) with
    | none => s
    | some x =>
      if (lineChannel s line).1 ≠ ch ∨ s.rd (F.DMC_STATE ch) ≠ 2 then s
      else
        let d := decodeBurst (s.memLine line) (s.marked line) errs
        let put (s : State) (x' : Tx) : State := s.setTxs (replaceFirst s.mem.txs (fun y => y == x) (fun _ => x'))
        if d.out = 3 then
          (put s { x with rd := 3, data := some d.words }) |> (fun s => freezeChannel s ch 1 line 1 x.src d.synd)
        else
          let s := if d.out = 1 then s.bump (F.DMC_CECNT ch) else if d.out = 2 then s.bump (F.DMC_POISRD ch) else s
          finishLine (put s { x with rd := 2, data := some d.words, poison := d.out == 2 }) line)

/-- DRAM_ALERT_PARITY (R482): the failing request is the line's open one, where there is one. -/
def execDramAlertParity (t ch line : Nat) (s : State) : Out :=
  .next (let s := s.tick t
    if s.rd (F.DMC_STATE ch) ≠ 2 ∧ s.rd (F.DMC_STATE ch) ≠ 3 then s
    else match s.mem.txs.find? (fun x => x.line == line) with
      | some x => freezeChannel s ch 2 line (if x.kind = 5 then 2 else 1) x.src 0
      | none => freezeChannel s ch 2 line 3 0 0)

/-- DRAM_WRITE_CRC_ERROR (R482): the first two failures of a write are retried, the third in succession freezes. -/
def execDramWriteCrcError (t ch line : Nat) (s : State) : Out :=
  .next (let s := s.tick t
    if s.rd (F.DMC_STATE ch) = 3 then s.bump (F.DMC_ECNT ch)
    else if s.rd (F.DMC_STATE ch) ≠ 2 ∨ s.rd (F.DMC_WCRC ch) = 0 then s
    else
      let n := if (s.dmc ch).crc.1 = line then (s.dmc ch).crc.2 + 1 else 1
      if n < 3 then (s.setDmc ch { s.dmc ch with crc := (line, n) }).bump (F.DMC_WCRCR ch)
      else
        let s := s.setDmc ch { s.dmc ch with crc := (0, 0) }
        match s.mem.txs.find? (fun x => x.line == line) with
        | some x => freezeChannel s ch 3 line 2 x.src 0
        | none => let (v, s) := s.free 8
                  freezeChannel s ch 3 line 2 v.toNat 0)

/-- DRAM_PATROL_READ (R478): the next line of the patrol, with the symbols that met errors. -/
def execDramPatrolRead (t ch : Nat) (errs : List (Nat × Nat)) (s : State) : Out :=
  .next (let s := s.tick t
    let x := s.dmc ch
    if s.rd (F.DMC_STATE ch) ≠ 2 ∨ s.rd (F.DMC_SCRUB ch) = 0 ∨ s.now < x.activeAt + 1000000000 then s
    else
      let line := channelLine s ch x.patrol
      let d := decodeBurst (s.memLine line) (s.marked line) errs
      let s := s.setDmc ch { x with patrol := (x.patrol + 1) % channelLines s ch }
      if d.out = 1 then (s.memStore line d.words (s.marked line)).bump (F.DMC_SCOR ch)
      else if d.out = 3 then
        ((((s.memStore line d.words true).bump (F.DMC_SUNC ch)).pageErr (dmcPage ch) 0x12 17 (line % 2 ^ 40))).setBit (F.DMC_EVT ch) 2
      else s)

/-- Whether a request for a bank of a rank waits (R479). -/
def bankQueued (s : State) (c rank bank : Nat) : Bool :=
  s.mem.txs.any (fun t => let l := lineChannel s t.line
    let p := dramPlace s c l.2
    decide (l.1 = c) && decide (p.rank = rank) && decide (p.bank = bank))

/-- DRAM_REFRESH (R479): at each tREFI the rank owes one refresh more; three owed, or a frozen channel, call for a REFab,
otherwise a REFsb of a bank that no request waits for. -/
def execDramRefresh (t ch rank bank : Nat) (s : State) : Out :=
  .next (let s := s.tick t
    let st := s.rd (F.DMC_STATE ch)
    if st ≠ 2 ∧ st ≠ 3 then s
    else
      let x := s.dmc ch
      let n := tget x.owed rank + 1
      if 3 ≤ n ∨ st = 3 then ((s.setDmc ch { x with owed := tset x.owed rank (n - 1) }).bump (F.DMC_REFAB ch))
      else if bankQueued s ch rank bank then s.setDmc ch { x with owed := tset x.owed rank n }
      else (s.setDmc ch { x with owed := tset x.owed rank (n - 1) }).bump (F.DMC_REFSB ch))

/-- DRAM_MR4_POLL (R479). -/
def execDramMr4Poll (t ch rank rate : Nat) (s : State) : Out :=
  .next (let s := s.tick t
    if s.rd (F.DMC_STATE ch) = 2 ∧ rank ≤ s.rd (F.DMC_RANKS ch) then s.wr (F.DMC_RMUL ch) rate else s)

/-- FROZEN_WAIT_TIMEOUT (R484). -/
def execFrozenWaitTimeout (t ch scribe : Nat) (s : State) : Out :=
  .next (let s := s.tick t
    if scribe < 32 ∧ s.rd (F.DMC_STATE ch) = 3 ∧
       s.mem.txs.any (fun x => x.src == scribe && decide ((lineChannel s x.line).1 = ch) && decide (x.since + 10000 ≤ s.now)) then
      s.setBit (F.DMC_WAITS ch) scribe else s)

/-- PHY_DRIFT_TRACK (R487, R489). -/
def execPhyDriftTrack (t ch correction : Nat) (s : State) : Out :=
  .next (let s := s.tick t
    if s.rd (F.DMC_STATE ch) = 2 ∧ s.rd (F.PHY_DRIFT ch) < correction then s.wr (F.PHY_DRIFT ch) (min correction 65535) else s)

end Sys2Proof.Machine
end

