-- ==== Sys2Proof/Machine/Icu.lean ====
section
/-! DEFINITION. The interrupt controller (R421 to R428) and the management controller's own sources (R535): what asserts a
source, routing, claims and completions.
Decisions: log entries 61 (DEDUCED), 62 (DEDUCED). -/

namespace Sys2Proof.Machine
open Sys2Proof

/-- Edge sources (R421). -/
def icuEdgeSource (n : Nat) : Bool :=
  (decide (288 ≤ n) && decide (n ≤ 319)) || (decide (495 ≤ n) && decide (n ≤ 526)) || (decide (530 ≤ n) && decide (n ≤ 639))

def icuPage (n : Nat) : Nat := n / 160
def icuSlot (n : Nat) : Nat := n % 160
def State.icuRd (s : State) (f : Nat → Nat → Fld) (n : Nat) : Nat := s.rd (f (icuPage n) (icuSlot n))

/-- The event words of a ferrule whose enabled bits raise its four sources (R158, R214, R276, R359). -/
def ferruleSource (s : State) (f k : Nat) : Bool :=
  if k = 0 then getField (s.word (lnkPage f * 512 + 9)) 0 48 &&& s.rd (F.LNK_EVTEN f) ≠ 0
  else if k = 1 then
    (List.range 4).any (fun i => bitOf (s.rd (F.SUB_EVTEN f)) i && decide (getField (s.word (subPage f * 512 + 40 + i)) 0 64 ≠ 0))
  else if k = 2 then getField (s.word (ferPage f * 512 + 12)) 0 21 &&& s.rd (F.FER_EVTEN f) ≠ 0
  else
    let ev := b2n (decide (s.rd (F.PUB_ESOFF f) ≠ 0)) + 2 * b2n (decide (s.rd (F.PUB_ENOKEY f) ≠ 0)) +
      4 * getField (s.word (pubPage f * 512 + 26)) 0 5
    ev &&& s.rd (F.PUB_EVTEN f) ≠ 0

/-- Whether a word's event bits and their enables meet. -/
def evtOn (s : State) (a len : Nat) (en : Fld) : Bool := decide (getField (s.word a) 0 len &&& s.rd en ≠ 0)

/-- The events that time, ruler, self-test, power, blotter and duplex raise (R113, R329, R553, R568, R591, R602). -/
def timeEvent (s : State) : Bool := s.isSet F.TIM_QCHG || s.isSet F.TIM_SRCCHG
def rulerEvent (s : State) : Bool := evtOn s (4 * 512 + 15) 6 F.RUL_EVTEN
def bstEvent (s : State) : Bool := evtOn s (0x2B0 * 512 + 18) 4 F.BST_EVTEN
def pwrEvent (s : State) : Bool := evtOn s (0x2A0 * 512 + 27) 8 F.PWR_EVTEN
def bltEvent (s : State) : Bool := evtOn s (0x2C0 * 512 + 16) 4 F.BLT_EVTEN
def dpxEvent (s : State) : Bool := evtOn s (0x2E0 * 512 + 18) 3 F.DPX_EVTEN

/-- Whether a block asserts a level source (R421). Sources 491 and 494 have no event that the spec names. -/
def icuAsserted (s : State) (n : Nat) : Bool :=
  if n < 256 then ferruleSource s (n / 4) (n % 4)
  else if n < 288 then
    let k := n - 256
    let c := tget (s.scribe k).sr 0x00B
    decide (c ≠ 0) && decide (wordNs c ≤ s.replicaTime (72 + k / 8))
  else if 320 ≤ n ∧ n < 448 then s.isSet (F.TEN_PEND (n - 320))
  else if 448 ≤ n ∧ n < 480 then bitOf (s.rd F.DMA_CEVT) (n - 448)
  else if n = 480 then decide (getField (s.word (0x270 * 512 + 23)) 0 32 ≠ 0)
  else if 481 ≤ n ∧ n ≤ 484 then decide (s.rd (F.DMC_EVT (n - 481)) &&& s.rd (F.DMC_EVTEN (n - 481)) ≠ 0)
  else if 485 ≤ n ∧ n ≤ 488 then s.isSet (F.DSK_L2EV (n - 485))
  else if n = 489 then timeEvent s
  else if n = 490 then rulerEvent s
  else if n = 492 then dpxEvent s
  else if n = 493 then s.isSet F.MCB_OFULL
  else if n = 527 then bltEvent s
  else if n = 528 then bstEvent s
  else if n = 529 then pwrEvent s
  else false

/-- A source is pending before routing (R423). -/
def icuPending (s : State) (n : Nat) : Bool :=
  decide (s.icuRd F.ICU_EN n = 1) &&
    (if icuEdgeSource n then decide (s.icuRd F.ICU_PEND n = 1) else icuAsserted s n && decide (s.icuRd F.ICU_ACT n = 0))

/-- The scribe's mask level (R400). -/
def scribeMask (c : Scribe) : Nat := getField c.status 2 4

/-- A scribe that runs or waits in WFI (R397). -/
def scribeUp (s : State) (k : Nat) : Bool := decide (s.rd (F.DSK_SST k) = 1) || decide (s.rd (F.DSK_SST k) = 2)

/-- Whether a scribe's level and mask admit a source (R424). -/
def icuAdmits (s : State) (n k : Nat) : Bool :=
  let c := s.scribe k
  decide (scribeLevel c ≤ 1 + s.icuRd F.ICU_TLVL n) && decide (scribeMask c < s.icuRd F.ICU_LVL n)

/-- The scribe of a desk that lowest-busy delivery chooses (R424). -/
def icuLowestBusy (s : State) (n : Nat) : Option Nat :=
  let l := ((List.range 8).map (fun i => 8 * (s.icuRd F.ICU_TGT n % 4) + i)).filter (fun k => scribeUp s k && icuAdmits s n k)
  let key (k : Nat) : Nat := (if s.rd (F.DSK_SST k) = 2 then 0 else 1000) + 32 * scribeMask (s.scribe k) + k % 8
  l.foldl (fun (b : Option Nat) k => match b with
    | none => some k
    | some j => if key k < key j then some k else some j) none

/-- Whether a pending source is routed to a scribe (R424); copies of a broadcast that wait, and a lowest-busy source that a
scribe has taken, are routed to their scribes. -/
def icuRouted (s : State) (n k : Nat) : Bool :=
  if s.icu.copies.any (fun e => e.1 == n) then s.icu.copies.contains (n, k)
  else icuPending s n &&
    (let m := s.icuRd F.ICU_MODE n
     if m = 0 then decide (s.icuRd F.ICU_TGT n = k)
     else if m = 1 then icuLowestBusy s n == some k
     else decide (s.icuRd F.ICU_TGT n % 4 = k / 8) && scribeUp s k)

/-- The sources that are enabled or have copies, in number order. -/
def icuSources (s : State) : List Nat :=
  (List.range 640).filter (fun n => decide (s.icuRd F.ICU_EN n = 1) || s.icu.copies.any (fun e => e.1 == n))

/-- The source of highest level, and lowest number among equals, that a test accepts. -/
def icuBest (s : State) (p : Nat → Bool) : Option Nat :=
  ((icuSources s).filter (fun n => decide (s.icuRd F.ICU_LVL n ≠ 0) && p n)).foldl (fun (b : Option Nat) n => match b with
    | none => some n
    | some m => if s.icuRd F.ICU_LVL m < s.icuRd F.ICU_LVL n then some n else some m) none

/-- The interrupt that a scribe takes at its next boundary (R424). -/
def icuDeliverable (s : State) (k : Nat) : Option Nat := icuBest s (fun n => icuRouted s n k && icuAdmits s n k)

/-- The interrupt that a read of IACK claims (R425). -/
def icuClaimable (s : State) (k : Nat) : Option Nat :=
  icuBest s (fun n => icuRouted s n k && decide (scribeLevel (s.scribe k) ≤ 1 + s.icuRd F.ICU_TLVL n))

/-- An edge of a source (R423); a source with EN 0 is never pending. -/
def icuEdge (s : State) (n : Nat) : State :=
  if icuEdgeSource n ∧ s.icuRd F.ICU_EN n = 1 then s.wr (F.ICU_PEND (icuPage n) (icuSlot n)) 1 else s

/-- The configuration fields of a source written (R428). -/
def icuConfig (s : State) (n : Nat) (value : Word) : State :=
  let a := (0x240 + icuPage n) * 512 + 32 + icuSlot n
  let s := s.setWord a (putField (s.word a) 0 13 (getField value 0 13))
  if s.icuRd F.ICU_EN n = 0 then
    { s.wr (F.ICU_PEND (icuPage n) (icuSlot n)) 0 with icu := { s.icu with copies := s.icu.copies.filter (fun e => e.1 ≠ n) } }
  else s

/-- A claim of a source by a scribe (R423, R424, R428): a broadcast leaves copies to the other scribes of the desk that run. -/
def icuClaim (s : State) (n k : Nat) : State :=
  let first := decide (s.icuRd F.ICU_MODE n = 2) && !(s.icu.copies.any (fun e => e.1 == n))
  let others := if first then
      (((List.range 8).map (fun i => 8 * (k / 8) + i)).filter (fun j => j != k && scribeUp s j)).map (fun j => (n, j))
    else []
  let s := { s with icu := { s.icu with copies := (s.icu.copies.filter (fun e => e != (n, k))) ++ others,
                                        active := s.icu.active ++ [(n, k)] } }
  let s := (s.wr (F.ICU_PEND (icuPage n) (icuSlot n)) 0).wr (F.ICU_ACT (icuPage n) (icuSlot n)) 1
  match s.icu.next.find? (fun e => e.1 == n) with
  | some e => icuConfig { s with icu := { s.icu with next := s.icu.next.filter (fun x => x.1 ≠ n) } } n e.2
  | none => s

/-- What a read of IACK answers (R425). -/
def iackValue (s : State) : Option Nat → Word
  | none => 0x3FF
  | some n => BitVec.ofNat 72 (n + 1024 * s.icuRd F.ICU_LVL n)

/-- A read of IACK by a scribe: its value, and the claim (R425). -/
def iackRead (s : State) (k : Nat) : Word × State :=
  let c := icuClaimable s k
  (iackValue s c, match c with | some n => icuClaim s n k | none => s)

/-- A write of IEOI (R425). -/
def ieoiWrite (s : State) (k n : Nat) : State :=
  if s.icu.active.contains (n, k) then
    let s := { s with icu := { s.icu with active := s.icu.active.filter (fun e => e != (n, k)) } }
    if s.icu.active.any (fun e => e.1 == n) then s else s.wr (F.ICU_ACT (icuPage n) (icuSlot n)) 0
  else s

/-- A write of SWI (R426). -/
def swiWrite (s : State) (v : Nat) : State :=
  if (288 ≤ v ∧ v ≤ 319) ∨ (530 ≤ v ∧ v ≤ 639) then icuEdge s v else s

/-- A write of ICU_SRC (R428). -/
def icuSourceWrite (s : State) (n : Nat) (value : Word) : State :=
  if getField value 5 2 = 3 ∨ (getField value 5 2 ≠ 0 ∧ getField value 9 3 ≠ 0) then s.ignored (0x240 + icuPage n) (32 + icuSlot n) 7
  else if s.icuRd F.ICU_ACT n = 1 then
    { s with icu := { s.icu with next := (s.icu.next.filter (fun e => e.1 ≠ n)) ++ [(n, value)] } }
  else icuConfig s n value

/-- ICU_SOURCE_WRITE (R428). -/
def execIcuSourceWrite (t init source : Nat) (value : Word) (s : State) : Out :=
  .next ((s.tick t).gated init (0x240 + icuPage source) (32 + icuSlot source) value (fun s => icuSourceWrite s source value))

/-- SCRIBE_TIMER_EXPIRE (R426): the replica's time has come to the event, from where on the timer source is asserted. -/
def execScribeTimerExpire (t scribe : Nat) (s : State) : Out := let _ := scribe
  .next (s.tick t)

/-! ### The management controller's sources (R535) -/

/-- Whether a source of the management controller is asserted (R535). -/
def mcAsserted (s : State) (n : Nat) : Bool :=
  if n < 32 then decide (s.rd (F.DSK_SST n) = 4)
  else if n = 32 then bitOf (s.rd F.PWR_EVT) 4 || bitOf (s.rd F.PWR_EVT) 5
  else if n ≤ 64 then s.isSet (F.MCB_EXP (n - 33))
  else if n ≤ 68 then s.rd (F.DMC_EVT (n - 65)) % 4 ≠ 0
  else if n ≤ 72 then s.isSet (F.DSK_L2EV (n - 69))
  else if n = 73 then pwrEvent s
  else if n = 74 then s.isSet F.MCB_IFULL
  else if n = 75 then s.mcu.tick
  else if n = 77 then timeEvent s
  else if n = 78 then rulerEvent s
  else if n = 79 then bstEvent s
  else if n = 80 then dpxEvent s
  else if n = 82 then decide (getField (s.word (0x270 * 512 + 23)) 0 32 ≠ 0)
  else false

/-- The level of a source of the management controller. -/
def mcLevel (n : Nat) : Nat := if n ≤ 32 then 15 else if n ≤ 72 then 12 else 8

/-- Whether a source is enabled in MIE0 and MIE1; sources 0 to 32 always are (R536). -/
def mcEnabled (s : State) (n : Nat) : Bool :=
  decide (n ≤ 32) || (if n < 64 then (tget (s.scribe 32).sr 0x030).toNat.testBit n else (tget (s.scribe 32).sr 0x031).toNat.testBit (n - 64))

def mcPending (s : State) (n : Nat) : Bool := mcEnabled s n && mcAsserted s n

/-- The pending source that is taken next, whatever MASK holds (R535, R536). -/
def mcBest (s : State) : Option Nat :=
  ((List.range 83).filter (mcPending s)).foldl (fun (b : Option Nat) n => match b with
    | none => some n
    | some m => if mcLevel m < mcLevel n then some n else some m) none

/-- The bits of MIP0 and MIP1 (R536). -/
def mcPendingWord (s : State) (hi : Bool) : Word :=
  (List.range 64).foldl (fun w i => if mcPending s (i + if hi then 64 else 0) then putField w i 1 1 else w) 0

end Sys2Proof.Machine
end

