-- ==== Sys2Proof/Machine/Trace.lean ====
section
/-! DEFINITION. Trace sources and comparators: what every block calls when it produces a packet (R585 to R590) or makes
an access that a comparator may watch (R582, R583).
Decisions: log entry 49 (DEDUCED). -/

namespace Sys2Proof.Machine
open Sys2Proof

/-- The words that queued packets take. -/
def packetWords (l : List Packet) : Nat := l.foldl (fun n p => n + 1 + b2n p.ext.isSome) 0

/-- Whether packets are written at all (R591). -/
def blotOn (s : State) : Bool := s.isSet F.BLT_EN && !s.isSet F.BLT_STOPPED

/-- A packet put in its source's queue; a full queue loses it (R587). -/
def blotPut (s : State) (src : Nat) (p : Packet) : State :=
  let b := s.blot
  let q := tget b.queues src
  if packetWords (q ++ [p]) ≤ 32 then { s with blot := { b with queues := tset b.queues src (q ++ [p]) } }
  else
    let s := { s with blot := { b with lost := tset b.lost src (tget b.lost src + 1) } }
    (((s.bump F.BLT_LOST).wr F.BLT_LSRC src).wr F.BLT_OVF 1).pageErr 0x2C0 0x10 10 src

/-- A packet of a source: a RESYNC comes first after a PDOWN (R589). -/
def State.trace (s : State) (src ty payload : Nat) (ext : Option Word) : State :=
  if blotOn s then
    let t := s.devTime
    let s := if s.blot.down.contains src then
        blotPut { s with blot := { s.blot with down := s.blot.down.filter (· ≠ src) } } src
          { ty := 0xB, payload := 0, stamp := t, ext := some (timeWord t) } else s
    blotPut s src { ty := ty, payload := payload, stamp := t, ext := ext }
  else s

/-- PDOWN before a source stops (R589): 2 DOZE, 3 OFF, 4 reset, 5 PARK. -/
def State.tracePdown (s : State) (src kind : Nat) : State :=
  if blotOn s then
    let s := blotPut s src { ty := 0xA, payload := kind, stamp := s.devTime, ext := none }
    { s with blot := { s.blot with down := insertNat src s.blot.down } }
  else s

/-- Whether the stroke trace of a ferrule is on. -/
def strokeTrace (s : State) (f : Nat) : Bool := bitOf (s.rd F.BLT_STRK) f

/-- PSTATE of a block (R586, R589). -/
def tracePstate (s : State) (block code : Nat) (emul : Bool) : State :=
  if s.isSet F.BLT_PWRT then s.trace 0xA0 0xC (block + code * 2 ^ 8 + b2n emul * 2 ^ 11) none else s

/-- The register set of a comparator (R582): scribe n k at 8 n + k, the controller at 256 + k, a nib at
260 + 2 (18 f + n) + k. -/
def cmpScribe (core k : Nat) : Nat := if core = 32 then 256 + k else 8 * core + k
def cmpNib (f n k : Nat) : Nat := 260 + 2 * (18 * f + n) + k

/-- The comparator that CMP_IDX names; none when there is no such comparator (R591). -/
def cmpIndex (unit sc nib k : Nat) : Option Nat :=
  if unit = 0 then (if sc < 32 then some (8 * sc + k) else none)
  else if unit = 1 then (if nib < 18 ∧ k < 2 then some (cmpNib sc nib k) else none)
  else if unit = 2 then (if k < 4 then some (256 + k) else none)
  else none

/-- Whether a comparator hits an access (R582): 0 fetch, 1 load or X, 2 store or Y. -/
def cmpMatch (s : State) (x kind addr : Nat) : Bool :=
  s.isSet (F.BLT_CEN x) &&
  (s.rd (F.BLT_KIND_34 x) = kind || (s.rd (F.BLT_KIND_34 x) = 3 && kind ≠ 0)) &&
  (addr >>> s.rd (F.BLT_IGN x) = s.rd (F.BLT_CADDR x) >>> s.rd (F.BLT_IGN x))

/-- A TRIG packet (R585, R586). -/
def traceTrig (s : State) (src nib k addr : Nat) : State :=
  s.trace src 0xD (nib + k * 2 ^ 5 + addr % 2 ^ 40 * 2 ^ 8) none

/-- A nib's comparators see an access (R582, R583): the hits are counted and packets written; the answer says whether
one of them asks for a halt while ATTACH is 1 (R574). -/
def nibCompare (s : State) (f n kind addr : Nat) : State × Bool :=
  [0, 1].foldl (fun (r : State × Bool) k =>
    let x := cmpNib f n k
    if cmpMatch r.1 x kind addr then
      let s := r.1.bump (F.BLT_HITS x)
      let act := s.rd (F.BLT_ACT x)
      if act = 0 then (s, r.2 || s.isSet F.BLT_ATTACH)
      else if act = 3 then (s, r.2)
      else (traceTrig s (0x40 + f) n k addr, r.2)
    else r) (s, false)

/-- Whether a nib may be halted (R580). -/
def nibMayHalt (s : State) (f n : Nat) : Bool :=
  decide (s.rd F.BLT_LVL = 2) && s.isSet F.BLT_ATTACH && bitOf (s.rd F.BLT_BENCH) f && decide (s.rd (F.FER_NST f n) ≤ 1)

end Sys2Proof.Machine
end

