-- ==== Sys2Proof/Machine/Store.lean ====
section
/-! DEFINITION. A scribe's store buffer (R363, R461 to R465), its reset and release (R398, R399), and its lockup (R415,
R416).
Decisions: log entries 49 (DEDUCED), 52 (DEDUCED). -/

namespace Sys2Proof.Machine
open Sys2Proof

/-- Bytes written over earlier bytes of the same line. -/
def mergeBytes (old new : List (Nat × Nat)) : List (Nat × Nat) :=
  old.filter (fun e => !(new.any (fun x => x.1 == e.1))) ++ new

/-- The bytes of a line in an L2 that holds it in M are written; the store becomes visible (R462): copies in the other L1s
of the desk go, and other scribes' reservations on the line are cleared (R393). -/
def l2Write (s : State) (n line : Nat) (wr : List (Nat × Nat)) : State :=
  let d := n / 8
  let x := s.l2 d line
  let s := s.setL2 d line { x with words := writeBytes x.words wr, poison := x.poison && !(fullLine wr) }
  (s.l1Drop d line (some n)).clearResv line (fun k => k ≠ n)

/-- The oldest entry of a store buffer is written into the L2; the answer says whether the buffer was empty or the entry
went (R363). -/
def drainOne (s : State) (n : Nat) : Bool × State :=
  match (s.scribe n).sb with
  | [] => (true, s)
  | (line, wr) :: rest =>
    let (ok, s) := acquire s n line true
    if ok then (true, (l2Write s n line wr).modScribe n (fun c => { c with sb := rest })) else (false, s)

/-- Every entry of a store buffer is written, in order; the answer says whether all went. -/
def drainAll (s : State) (n : Nat) : Bool × State :=
  (List.range 8).foldl (fun (x : Bool × State) _ => if x.1 then drainOne x.2 n else x) (true, s)

/-- A store enters the store buffer: it merges into the newest entry of its line, or takes an entry of its own, after the
oldest has been written when all eight are taken (R363). The answer says whether it could enter. -/
def putStore (s : State) (n line : Nat) (wr : List (Nat × Nat)) : Bool × State :=
  let sb := (s.scribe n).sb
  match sb.getLast? with
  | some (l, old) =>
    if l = line then (true, s.modScribe n (fun c => { c with sb := sb.dropLast ++ [(line, mergeBytes old wr)] }))
    else
      let (ok, s) := if sb.length < 8 then (true, s) else drainOne s n
      if ok then (true, s.modScribe n (fun c => { c with sb := c.sb ++ [(line, wr)] })) else (false, s)
  | none => (true, s.modScribe n (fun c => { c with sb := [(line, wr)] }))

/-- STORE_BUFFER_DRAIN (R363, R462). -/
def execStoreBufferDrain (t scribe : Nat) (s : State) : Out :=
  .next (let s := s.tick t
    if scribe < 32 then (drainOne s scribe).2 else s)

/-- A desk whose scribes may run (R398): ACTIVE or NAP, and not in reset. -/
def deskOn (s : State) (d : Nat) : Bool := decide (s.rd (F.PWR_DST d) < 2) && !(s.pwr.held.contains (64 + d))

/-- The level that the DSK page shows. -/
def showLevel (s : State) (n : Nat) : State := if n < 32 then s.wr (F.DSK_LVL n) (scribeLevel (s.scribe n)) else s

/-- Whether any scribe of a desk is locked up, bit by bit (R397). -/
def showLock (s : State) (n : Nat) : State :=
  s.wr (fldAt (F.DSK_LOCKV (n / 8)).addr (3 + n % 8) 1) (b2n (decide (s.rd (F.DSK_SST n) = 4)))

/-- A scribe put into reset (R398): its buffered stores are written; everything else of it is lost. -/
def scribeHold (s : State) (n : Nat) : State :=
  let s := if s.rd (F.DSK_SST n) = 0 ∨ ¬ bitOf (s.rd F.BLT_SCRB) n then s else s.tracePdown n 4
  let s := (drainAll s n).2
  let s := s.setScribe n { (default : Scribe) with sb := (s.scribe n).sb }
  showLock ((s.wr (F.DSK_SST n) 0).wr (F.DSK_LVL n) 0) n

/-- A released scribe starts at RVEC in its reset state when its desk is up (R398, R399). -/
def scribeStart (s : State) (n : Nat) : State :=
  if s.rd (F.DSK_RUN n) = 1 ∧ s.rd (F.DSK_SST n) = 0 ∧ deskOn s (n / 8) then
    showLevel ((s.setScribe n { (default : Scribe) with sb := (s.scribe n).sb, pc := s.rd (F.DSK_RVEC n) }).wr (F.DSK_SST n) 1) n
  else s

/-- A write of SCTL.RUN (R398). -/
def runWrite (s : State) (n : Nat) (run : Bool) : State :=
  let s := s.wrb (F.DSK_RUN n) run
  if run then scribeStart s n else scribeHold s n

/-- SCRIBE_RUN_WRITE (R398). -/
def execScribeRunWrite (t init scribe : Nat) (run : Bool) (s : State) : Out :=
  .next ((s.tick t).gated init (0x200 + scribe) 8 (BitVec.ofNat 72 (b2n run)) (fun s => runWrite s scribe run))

/-- A scribe locks up (R415, R416). -/
def scribeLock (s : State) (n cause pc : Nat) : State :=
  let s := (drainAll s n).2
  let s := s.modScribe n (fun c => { c with resv := none, haltReq := false, stepping := false, walk := none })
  let s := (((s.wr (F.DSK_SST n) 4).wr (F.DSK_LKPC n) pc).wr (F.DSK_LKCAUSE n) cause).wr (F.DSK_LKV n) 1
  (showLock s n).pageErr (0x200 + n) 0x11 12 cause

/-- LOCKUP_N is low while any scribe has SST 4 (R416). -/
def lockupN (s : State) : Bool := !((List.range 32).any (fun n => decide (s.rd (F.DSK_SST n) = 4)))

/-- A program trace source that is enabled: a scribe, or the management controller (R588, R591). -/
def scribeTraced (s : State) (n : Nat) : Bool := if n < 32 then bitOf (s.rd F.BLT_SCRB) n else s.isSet F.BLT_MCT

/-- Whether trace of code at a level is authorised (R588). -/
def traceAllowed (s : State) (level : Nat) : Bool :=
  decide (level = 0) || (if level = 1 then s.isSet F.BLT_TRK else s.isSet F.BLT_TRH)

/-- The source code of a core's packets (R586). -/
def coreSrc (n : Nat) : Nat := if n < 32 then n else 0x20

/-- The pending branch outcomes written as a BRH packet (R586). -/
def flushBrh (s : State) (n : Nat) : State :=
  let l := (s.scribe n).brh
  if l.isEmpty then s
  else
    let p := l.zipIdx.foldl (fun a (x : Bool × Nat) => if x.1 then setBitN a (6 + x.2) else a) l.length
    (s.trace (coreSrc n) 1 p none).modScribe n (fun c => { c with brh := [] })

/-- The outcome of a conditional branch recorded for trace (R586, R588). -/
def traceBranch (s : State) (n : Nat) (taken : Bool) : State :=
  if scribeTraced s n ∧ traceAllowed s (scribeLevel (s.scribe n)) then
    let s := s.modScribe n (fun c => { c with brh := c.brh ++ [taken] })
    if (s.scribe n).brh.length = 42 then flushBrh s n else s
  else s

/-- A packet of a core at an authorised level, after its pending branches (R586). -/
def tracePacket (s : State) (n ty payload : Nat) (ext : Option Word) : State :=
  if scribeTraced s n ∧ traceAllowed s (scribeLevel (s.scribe n)) then (flushBrh s n).trace (coreSrc n) ty payload ext else s

end Sys2Proof.Machine
end

