-- ==== Sys2Proof/Machine/Time.lean ====
section
/-! DEFINITION. The time base (R99 to R123): stepping, slewing and refusing, the four sources and their
qualification, selection and holdoff, the quality state and the error estimate, and the writes of the TIM page.
Decisions: log entries 20 (DEDUCED), 26 (DEDUCED). -/

namespace Sys2Proof.Machine
open Sys2Proof

/-- The time base with device time and the rest of the slew folded into its base. -/
def State.rebase (s : State) : State :=
  { s with tim := { s.tim with base := s.devTime, baseAt := s.now, slew := s.slewLeft } }

/-- Device time stepped to a value (R101, R102). -/
def State.stepTime (s : State) (ns : Nat) : State :=
  { s with tim := { s.tim with base := ns, baseAt := s.now, slew := 0 } }

/-- An offset is slewed out from now on (R101). -/
def State.setSlew (s : State) (off : Int) : State :=
  let s := s.rebase
  { s with tim := { s.tim with slew := off } }

/-- A source of the time base (1 PTP-A, 2 PTP-B, 3 IRIG-B, 4 1PPS). -/
def State.src (s : State) (c : Nat) : TimeSrc := tget s.tim.srcs c

/-- A source changed. -/
def State.setSrc (s : State) (c : Nat) (x : TimeSrc) : State := { s with tim := { s.tim with srcs := tset s.tim.srcs c x } }

/-- ERREST as it stands now (R112): growing by HUNC each second while the source is lost, saturating. -/
def State.errestNow (s : State) : Nat :=
  if s.tim.holding then
    min 0xFFFFFF (s.tim.errBase + s.rd F.TIM_HUNC * (s.devTime - s.tim.errAt) / 1000000000)
  else s.rd F.TIM_ERREST

/-- The ERREST field brought up to date. -/
def State.errSync (s : State) : State := s.wr F.TIM_ERREST s.errestNow

/-- The stated accuracy of a source, in ns (R112, R121). -/
def srcAccuracy (s : State) (c : Nat) : Nat :=
  if c = 1 ∨ c = 2 then 25 else if c = 3 then 100
  else if s.isSet F.TIM_F10EN ∧ s.isSet F.TIM_F10OK then 10 else 50

/-- The quality state that the rows of R110 and R111 give. -/
def qualityNow (s : State) : Nat :=
  let c := s.rd F.TIM_SRC
  let x := s.src c
  let q :=
    if c ≠ 0 ∧ x.used then (if s.slewLeft.natAbs ≤ 100 then 1 else 3)
    else if s.tim.everUsed = false then 0
    else if s.errestNow ≤ s.rd F.TIM_HLIM then 2 else 3
  if (q = 1 ∨ q = 2) ∧ s.isSet F.TIM_PDEG then 3 else q

/-- The quality state brought up to date; a change sets QCHG (R113), and a slew that has reached ±100 ns ends. -/
def State.updQuality (s : State) : State :=
  let s := s.errSync
  let q := qualityNow s
  let s := if s.slewLeft.natAbs ≤ 100 then s.wr F.TIM_SLEW 0 else s
  if q = s.rd F.TIM_QSTATE then s else (s.wr F.TIM_QSTATE q).wr F.TIM_QCHG 1

/-- The error estimate starts to grow: no source is used any more (R112). -/
def State.startHolding (s : State) : State :=
  if s.tim.holding then s
  else { s with tim := { s.tim with holding := true, errBase := s.rd F.TIM_ERREST, errAt := s.devTime } }

/-- A source that has been selected is used for the first time, or again (R102). -/
def State.acquire (s : State) (c : Nat) : State :=
  let x := s.src c
  if (runningDomains s).isEmpty then
    let s := s.stepTime ((s.devTime : Int) + x.offset).toNat
    let s := s.setSrc c { x with used := true, refused := false, offset := 0 }
    let s := { s with tim := { s.tim with everUsed := true, holding := false } }
    ((s.wr F.TIM_STEPREF 0).wr F.TIM_SLEW 0).wr F.TIM_ERREST (srcAccuracy s c)
  else if x.offset.natAbs ≤ 1000000 then
    let s := s.setSlew x.offset
    let s := s.setSrc c { x with used := true, refused := false }
    let s := { s with tim := { s.tim with everUsed := true, holding := false } }
    ((s.wr F.TIM_STEPREF 0).wrb F.TIM_SLEW (decide (100 < x.offset.natAbs))).wr F.TIM_ERREST
      (min 0xFFFFFF (x.offset.natAbs + srcAccuracy s c))
  else
    let s := (s.setSrc c { x with used := false, refused := true }).startHolding
    ((s.wr F.TIM_STEPREF 1).wr F.TIM_STEPR 1).pageErr 2 0x10 9 0

/-- The source codes that TIM_SEL lists, up to the first 0, each at its first place (R107). -/
def srcList (s : State) : List Nat :=
  let l := [s.rd F.TIM_PRI0, s.rd F.TIM_PRI1, s.rd F.TIM_PRI2, s.rd F.TIM_PRI3]
  (l.takeWhile (fun c => c ≠ 0)).eraseDups

/-- The source that R107 selects. -/
def srcChoice (s : State) : Nat :=
  let l := srcList s
  let cur := s.rd F.TIM_SRC
  let ok (c : Nat) : Bool := (s.src c).qual
  if s.rd F.TIM_QSTATE = 1 ∧ cur ∈ l ∧ ok cur = true then
    match (l.takeWhile (fun c => c ≠ cur)).find?
        (fun c => ok c && decide ((s.src c).since + s.rd F.TIM_HOLDOFF * 1000000000 ≤ s.devTime)) with
    | some c => c
    | none => cur
  else (l.find? ok).getD 0

/-- Selection re-evaluated (R107); a change sets SRCCHG, and the new source is used or refused (R102). -/
def State.reselect (s : State) : State :=
  let s := s.errSync
  let cur := s.rd F.TIM_SRC
  let c := srcChoice s
  if c = cur then s.updQuality
  else
    let s := if cur = 0 then s else s.setSrc cur { s.src cur with used := false, refused := false }
    let s := (s.wr F.TIM_SRC c).wr F.TIM_SRCCHG 1
    let s := if c = 1 ∨ c = 2 then s.wr F.TIM_GMID (s.src c).gmId else s
    if c = 0 then (s.setSlew 0).startHolding.updQuality else (s.acquire c).updQuality

/-- A source becomes qualified (R106). -/
def State.gainQual (s : State) (c : Nat) : State :=
  let x := s.src c
  if x.qual then s
  else
    let s := s.setSrc c { x with qual := true, since := s.devTime }
    let s := if c = 1 ∨ c = 2 then s.wr (F.TIM_QUAL (c - 1)) 1 else s
    s.reselect

/-- A source loses qualification (R106); a PTP source sets its event bit, and a selected source is left at once. -/
def State.loseQual (s : State) (c : Nat) : State :=
  let x := s.src c
  let s := s.setSrc c { x with qual := false, run := 0, offs := [] }
  let s := if c = 1 then s.wr (F.TIM_QUAL 0) 0 else if c = 2 then s.wr (F.TIM_QUAL 1) 0 else s
  if x.qual then
    let s := if c = 1 then s.wr F.TIM_PTPLA 1 else if c = 2 then s.wr F.TIM_PTPLB 1 else s
    s.reselect
  else s

/-- A new offset of a source: a used source's offset is slewed out, and ERREST follows it (R101, R112). -/
def State.measured (s : State) (c : Nat) (off : Int) : State :=
  let x := s.src c
  let s := s.setSrc c { x with offset := off }
  if s.rd F.TIM_SRC = c ∧ x.used then
    let s := s.setSlew off
    let s := if 100 < off.natAbs then s.wr F.TIM_SLEW 1 else s
    (s.wr F.TIM_ERREST (min 0xFFFFFF (off.natAbs + srcAccuracy s c))).updQuality
  else s

/-- A refused source is looked at again once no domain runs, and device time is stepped to it (R102). -/
def State.domainsStopped (s : State) : State :=
  let c := s.rd F.TIM_SRC
  if (runningDomains s).isEmpty ∧ c ≠ 0 ∧ (s.src c).refused then (s.acquire c).updQuality else s

/-- Whether a PTP source names an uplink that is in neither 10GBASE-R nor 25GBASE-R mode (R123). -/
def ptpPortBad (s : State) (j : Nat) : Bool :=
  let m := s.rd (F.LNK_MODE (portBlock (1024 + s.rd (F.TIM_PORT j))))
  m ≠ 6 && m ≠ 7

/-- ECODE 11h of a PTP source (R123). -/
def ptpPortErr (s : State) (j : Nat) : State := s.pageErr 2 0x11 (11 + j) (s.rd (F.TIM_PORT j) + 8 * j)

/-- Whether the last sixteen offsets lie within 100 ns of each other (R106). -/
def offsetsAgree (l : List Int) : Bool :=
  decide (16 ≤ l.length) && l.all (fun a => l.all (fun b => decide ((a - b).natAbs ≤ 100)))

/-- A PTP exchange gives an offset (R106, R115); `count` for a two-step exchange. -/
def ptpExchange (s : State) (j : Nat) (origin stamp : Nat) (corr : Int) (count : Bool) : State :=
  let c := j + 1
  let x := s.src c
  let asym := signedOf (s.rd (if j = 0 then F.TIM_ASYMA else F.TIM_ASYMB)) 24
  let off : Int := (origin : Int) + corr + (x.meanPath : Int) + asym - (stamp : Int)
  let offs := if count then (off :: x.offs).take 16 else x.offs
  let s := s.setSrc c { x with offs := offs, wait := none }
  let s := s.wr (F.TIM_OFFSET j) (toField (clampInt off 24) 24)
  let s := s.measured c off
  if (s.src c).qual = false ∧ s.isSet (F.TIM_EN_11 j) ∧ s.rd (F.TIM_PSTATE j) = 3 ∧ (s.src c).annOk ∧
      ptpPortBad s j = false ∧ offsetsAgree offs = true then s.gainQual c else s

/-- The PTP sources that listen on an uplink in a domain. -/
def ptpOn (s : State) (port domain : Nat) : List Nat :=
  filterBelow 2 (fun j => s.isSet (F.TIM_EN_11 j) && decide (s.rd (F.TIM_PORT j) = port) &&
    decide (s.rd (F.TIM_DOMAIN j) = domain))

/-- PTP_SYNC_RX (R106, R114): a two-step Sync waits for its Follow_Up; a one-step Sync gives its offset at once. -/
def execPtpSyncRx (t port stamp : Nat) (msg : PtpSync) (s : State) : Out :=
  let s := s.tick t
  .next (forEach (ptpOn s port msg.domain) s (fun s j =>
    let x := s.src (j + 1)
    let s := s.setSrc (j + 1) { x with
      lastSync := s.now, syncInt := msg.interval, meanPath := msg.meanPath
      wait := if msg.twoStep then some (msg.seq, stamp, msg.corr) else none }
    let s := s.wr (F.TIM_MPD j) (min (2 ^ 24 - 1) msg.meanPath)
    if msg.twoStep then s else ptpExchange s j msg.origin stamp msg.corr false))

/-- PTP_FOLLOW_UP_RX (R106): completes the exchange of its Sync. -/
def execPtpFollowUpRx (t port seq origin domain : Nat) (corr : Int) (s : State) : Out :=
  let s := s.tick t
  .next (forEach (ptpOn s port domain) s (fun s j =>
    let x := s.src (j + 1)
    let s := s.setSrc (j + 1) { x with lastSync := s.now }
    match x.wait with
    | some (q, stamp, c) => if q = seq then ptpExchange s j origin stamp (c + corr) true else s
    | none => s))

/-- PTP_ANNOUNCE_RX (R106, R116): timescale, clockClass, port state, and UTCOFS of the selected source. -/
def execPtpAnnounceRx (t port : Nat) (msg : PtpAnnounce) (s : State) : Out :=
  let s := s.tick t
  .next (forEach (ptpOn s port msg.domain) s (fun s j =>
    let c := j + 1
    let ok := msg.ptpTimescale && decide (msg.clockClass ≤ s.rd (F.TIM_MAXCC j))
    let s := s.setSrc c { s.src c with
      lastAnn := s.now, annInt := msg.interval, announced := true, annOk := ok
      gmId := msg.gmId, steps := msg.stepsRemoved, prio1 := msg.priority1, prio2 := msg.priority2
      accuracy := msg.accuracy, inaccuracy := msg.inaccuracy }
    let s := (s.wr (F.TIM_CLASS j) msg.clockClass).wr (F.TIM_PSTATE j)
      (if ptpPortBad s j then 4 else if msg.slave then 3 else 1)
    let s := if s.rd (F.TIM_MAXCC j) < msg.clockClass then s.loseQual c else s
    if s.rd F.TIM_SRC = c then
      let s := s.wr F.TIM_GMID msg.gmId
      let s := s.wrb F.TIM_LEAPP msg.leap
      if msg.utcValid then (s.wr F.TIM_UTCOFS (toField msg.utcOffset 16)).wr F.TIM_LSRC 1 else s
    else s))

/-- PTP_QUAL_TIMEOUT (R106): no Sync or Follow_Up, or no Announce, for 3 of its intervals. -/
def execPtpQualTimeout (t src : Nat) (announce : Bool) (s : State) : Out :=
  let s := s.tick t
  let x := s.src src
  .next (if (src = 1 ∨ src = 2) ∧ (if announce then x.lastAnn + 3 * x.annInt ≤ s.now else x.lastSync + 3 * x.syncInt ≤ s.now)
    then s.loseQual src else s)

/-- The nearest candidate to device time of an IRIG-B time without a year (R120). -/
def nearestYear (dev : Int) (utc : Int) : List Int → Int
  | [] => utc
  | [y] => y + utc
  | y :: t => let r := nearestYear dev utc t
    if (y + utc - dev).natAbs ≤ (r - dev).natAbs then y + utc else r

/-- IRIG_FRAME_RX (R106, R119, R120), at the on-time mark. -/
def execIrigFrameRx (t : Nat) (frame : IrigFrame) (s : State) : Out :=
  let s := s.tick t
  let x := s.src 3
  .next (if s.isSet F.TIM_EN_17 = false then s
  else if frame.good = false then
    let s := (s.wr F.TIM_IRIGERR 1).setSrc 3 { x with miss := x.miss + 1, run := 0 }
    if 2 ≤ x.miss + 1 then s.loseQual 3 else s
  else
    let ext := s.isSet F.TIM_EXT
    let s := s.wr F.TIM_FMT frame.format
    let s := if ext then s.wrb F.TIM_LEAPP frame.leapPending else s
    let utcofs := signedOf (s.rd F.TIM_UTCOFS) 16
    let local' : Int := if ext then frame.localOffset else 0
    let devUtc : Int := (s.devTime / 1000000000 : Nat) - utcofs
    let utc := if 4 ≤ frame.format then frame.utc - local'
      else nearestYear devUtc (frame.utc - local') frame.years
    let sec := utc + utcofs
    let off : Int := sec * 1000000000 - ((s.devTime : Int) - (s.rd F.TIM_DLY_17 : Nat))
    let follows := decide (sec = x.lastSec + 1)
    let onTime := decide (x.lastMark + 1000000000 ≤ s.now + 1000 ∧ s.now ≤ x.lastMark + 1000001000)
    let run := if 0 < x.run ∧ follows ∧ onTime then x.run + 1 else 1
    let s := s.setSrc 3 { x with run := run, miss := 0, lastMark := s.now, lastSec := sec }
    let s := if x.qual ∧ onTime = false then s.loseQual 3 else s
    let s := s.measured 3 off
    if (s.src 3).qual = false ∧ 3 ≤ run ∧ (ext = false ∨ frame.timeQuality ≤ s.rd F.TIM_MAXTQ) ∧
        (4 ≤ frame.format ∨ s.rd F.TIM_QSTATE ≠ 0) then s.gainQual 3 else s)

/-- IRIG_FRAME_MISSING (R106). -/
def execIrigFrameMissing (t : Nat) (s : State) : Out :=
  let s := s.tick t
  let x := s.src 3
  .next (if s.isSet F.TIM_EN_17 ∧ x.lastMark + 1000000000 < s.now then
    let s := (s.wr F.TIM_IRIGERR 1).setSrc 3 { x with miss := x.miss + 1, run := 0 }
    if 2 ≤ x.miss + 1 then s.loseQual 3 else s
  else s)

/-- PPS_EDGE (R105, R106): the edge, less DLY, marks the start of the second to which device time is nearest. -/
def execPpsEdge (t : Nat) (falling : Bool) (s : State) : Out :=
  let s := s.tick t
  let x := s.src 4
  .next (if s.isSet F.TIM_EN_18 = false ∨ s.isSet F.TIM_EDGE ≠ falling then s
  else
    let e : Int := (s.devTime : Int) - (s.rd F.TIM_DLY_18 : Nat)
    let off : Int := ((e + 500000000) / 1000000000) * 1000000000 - e
    let onTime := decide (x.lastMark + 1000000000 ≤ s.now + 1000 ∧ s.now ≤ x.lastMark + 1000001000)
    let run := if 0 < x.run ∧ onTime then x.run + 1 else 1
    let s := s.setSrc 4 { x with run := run, miss := 0, lastMark := s.now }
    let s := if x.qual ∧ onTime = false then s.loseQual 4 else s
    let s := s.measured 4 off
    if (s.src 4).qual = false ∧ 4 ≤ run ∧ s.rd F.TIM_QSTATE ≠ 0 then s.gainQual 4 else s)

/-- PPS_EDGE_MISSING (R106). -/
def execPpsEdgeMissing (t : Nat) (s : State) : Out :=
  let s := s.tick t
  let x := s.src 4
  .next (if s.isSet F.TIM_EN_18 ∧ x.lastMark + 1000001000 < s.now then
    let s := (s.wr F.TIM_PPSMISS 1).setSrc 4 { x with miss := x.miss + 1, run := 0 }
    if 2 ≤ x.miss + 1 then s.loseQual 4 else s
  else s)

/-- F10M_STATUS_CHANGE (R104). -/
def execF10mStatusChange (t : Nat) (ok : Bool) (s : State) : Out := .next ((s.tick t).wrb F.TIM_F10OK ok)

/-- SOURCE_HOLDOFF_EXPIRE (R107): selection is re-evaluated; a source whose holdoff is over is selected. -/
def execSourceHoldoffExpire (t src : Nat) (s : State) : Out :=
  let s := s.tick t
  .next (if src ∈ srcList s then s.reselect else s)

/-- SLEW_COMPLETE (R111). -/
def execSlewComplete (t : Nat) (s : State) : Out := .next (s.tick t).updQuality

/-- HOLDOVER_LIMIT_EXCEEDED (R111, R112). -/
def execHoldoverLimitExceeded (t : Nat) (s : State) : Out := .next (s.tick t).updQuality

/-- LEAP_SECOND_APPLY (R120): a pending leap second ends, and UTCOFS increments. -/
def execLeapSecondApply (t : Nat) (s : State) : Out :=
  let s := s.tick t
  .next (if s.isSet F.TIM_EXT ∧ s.isSet F.TIM_LEAPP then
    (s.wr F.TIM_UTCOFS (toField (signedOf (s.rd F.TIM_UTCOFS) 16 + 1) 16)).wr F.TIM_LEAPP 0 else s)

/-- The effect of a write of TIM_SET (R103). -/
def timSetWrite (s : State) (value : Word) : State :=
  let s := s.wr F.TIM_SETV value.toNat
  match wordTime value with
  | some ns => if s.rd F.TIM_QSTATE = 0 ∧ (runningDomains s).isEmpty then s.stepTime ns else s.ignored 2 21 7
  | none => s.ignored 2 21 7

/-- TIM_SET (R103). -/
def execTimSet (t init : Nat) (value : Word) (s : State) : Out :=
  let _ := init
  .next (timSetWrite (s.tick t) value)

/-- Whether a configuration word of the TIM page belongs to the selected source (R109). -/
def timWordSelected (s : State) (off : Nat) : Bool :=
  let c := s.rd F.TIM_SRC
  (off = 11 && c = 1) || (off = 12 && c = 2) || (off = 16 && (c = 1 || c = 2)) || (off = 17 && c = 3) || (off = 18 && c = 4)

/-- The RW bits of a word take a written value; its other fields keep theirs. -/
def State.writeRW (s : State) (page off : Nat) (value : Word) : State :=
  let m := match wordFields page off with
    | some l => fieldMask l (fun f => f.acc = .rw)
    | none => 0
  let a := page * 512 + off
  s.setWord a ((s.word a &&& ~~~m) ||| (value &&& m))

/-- The effect of a write of TIM_PTPA, TIM_PTPB, TIM_ASYM, TIM_IRIG or TIM_PPS (R106, R109, R123). -/
def timConfigWrite (s : State) (off : Nat) (value : Word) : State :=
  if timWordSelected s off then s.ignored 2 off 7
  else
    let s := s.writeRW 2 off value
    if off = 11 ∨ off = 12 then
      let j := off - 11
      if s.isSet (F.TIM_EN_11 j) then
        let s := if s.rd (F.TIM_PSTATE j) = 0 then s.wr (F.TIM_PSTATE j) 1 else s
        if ptpPortBad s j then (ptpPortErr s j).loseQual (j + 1) else s
      else (s.wr (F.TIM_PSTATE j) 0).loseQual (j + 1)
    else if off = 17 then (if s.isSet F.TIM_EN_17 then s else s.loseQual 3)
    else if off = 18 then (if s.isSet F.TIM_EN_18 then s else s.loseQual 4)
    else s

/-- TIM_SOURCE_CONFIG_WRITE (R109): the words 11, 12, 16, 17 and 18. -/
def execTimSourceConfigWrite (t init off : Nat) (value : Word) (s : State) : Out :=
  let _ := init
  let s := s.tick t
  .next (if off = 11 ∨ off = 12 ∨ off = 16 ∨ off = 17 ∨ off = 18 then timConfigWrite s off value else s)

/-- An uplink leaves link-up or ON: the PTP sources on it lose qualification (R106). -/
def timUplinkDown (s : State) (k : Nat) : State :=
  forEach (filterBelow 2 (fun j => s.isSet (F.TIM_EN_11 j) && decide (s.rd (F.TIM_PORT j) = k))) s
    (fun s j => (s.wr (F.TIM_PSTATE j) 1).loseQual (j + 1))

/-- An uplink's MODE was written (R123). -/
def timUplinkMode (s : State) (k : Nat) : State :=
  forEach (filterBelow 2 (fun j => s.isSet (F.TIM_EN_11 j) && decide (s.rd (F.TIM_PORT j) = k) && ptpPortBad s j)) s
    (fun s j => (ptpPortErr s j).loseQual (j + 1))

/-- TIME_REPLICA_REALIGN (R33): a replica is re-aligned to the time base. -/
def execTimeReplicaRealign (t replica : Nat) (s : State) : Out :=
  let s := s.tick t
  .next { s with tim := { s.tim with replicas := tset s.tim.replicas replica 0 } }

end Sys2Proof.Machine
end

