-- ==== Sys2Proof/Machine/Ledger.lean ====
section
/-! DEFINITION. What every part of the fast plane shares: the inkwells, the digest function (R244), functions and
their descriptors (R308), the state map (R259, R260), sample rings (R230), and the stroke ledger (R239 to R243). -/

namespace Sys2Proof.Machine
open Sys2Proof

/-- An inkwell word. -/
def State.ink (s : State) (f a : Nat) : Word := tget s.inkwell (f * 2 ^ 18 + a)

/-- An inkwell word written. -/
def State.setInk (s : State) (f a : Nat) (v : Word) : State :=
  { s with inkwell := tset s.inkwell (f * 2 ^ 18 + a) v }

/-- An uncorrectable error in an inkwell word is counted and its address captured (R276). -/
def inkUncorr (s : State) (f a : Nat) : State :=
  let s := s.bump (F.FER_IUNC f)
  let s := if s.isSet (F.FER_IUV f) then s else (s.wr (F.FER_IUADR f) a).wr (F.FER_IUV f) 1
  s.wr (F.FER_INKUE f) 1

/-- Consecutive inkwell words. -/
def State.inks (s : State) (f a n : Nat) : List Word := (List.range n).map (fun i => s.ink f (a + i))

/-- Consecutive inkwell words written. -/
def State.setInks (s : State) (f a : Nat) (ws : List Word) : State :=
  (ws.zipIdx).foldl (fun s p => s.setInk f (a + p.2) p.1) s

/-- The digest of a sequence of words (R244). -/
def digest72 (ws : List Word) : Word :=
  let h := ws.foldl (fun h w => (h.rotateLeft 7 ^^^ w) * 0x9E3779B97F4A7C15F3#72) (BitVec.ofNat 72 ws.length)
  h ^^^ (h >>> 36)

/-- A function. -/
def State.fn (s : State) (i : Nat) : Fn := tget s.rul.fns i

/-- A function changed. -/
def State.setFn (s : State) (i : Nat) (x : Fn) : State := { s with rul := { s.rul with fns := tset s.rul.fns i x } }

/-- The fields of a descriptor (R308). -/
def Descr.fdw (d : Descr) (k : Nat) : Word := d.fd.getD k 0
def Descr.dom (d : Descr) : Nat := getField (d.fdw 0) 0 2
def Descr.crit (d : Descr) : Bool := getField (d.fdw 0) 2 1 = 1
def Descr.twin (d : Descr) : Bool := getField (d.fdw 0) 3 1 = 1
def Descr.ipol (d : Descr) : Nat := getField (d.fdw 0) 4 2
def Descr.hist (d : Descr) : Nat := getField (d.fdw 0) 6 6
def Descr.nb (d : Descr) : Nat := getField (d.fdw 0) 12 9
def Descr.nout (d : Descr) : Nat := getField (d.fdw 0) 21 7
def Descr.ntgt (d : Descr) : Nat := getField (d.fdw 0) 28 4
def Descr.budget (d : Descr) : Nat := getField (d.fdw 1) 0 16
def Descr.fast (d : Descr) : Nat := getField (d.fdw 1) 16 16
def Descr.sw (d : Descr) : Nat := getField (d.fdw 1) 32 15
def Descr.plen (d : Descr) : Nat := getField (d.fdw 2) 0 14
def Descr.xcon' (d : Descr) : Nat := getField (d.fdw 2) 14 14
def Descr.xscr (d : Descr) : Nat := getField (d.fdw 2) 28 14
def Descr.xstk (d : Descr) : Nat := getField (d.fdw 2) 42 14
def Descr.ycon' (d : Descr) : Nat := getField (d.fdw 3) 0 14
def Descr.yscr (d : Descr) : Nat := getField (d.fdw 3) 14 14
def Descr.xlen (d : Descr) : Nat := d.xcon' + d.xscr
def Descr.ylen (d : Descr) : Nat := d.ycon' + d.yscr

/-- The subscription index of a binding word (R70, R308). -/
def bindSub (w : Word) : Nat := getField w 0 20

/-- The subscriptions that a function binds, in binding order. -/
def Fn.subs (x : Fn) : List Nat := x.desc.binds.map bindSub

/-- Whether a function is placed (FST 2): it has strokes. -/
def isPlaced (s : State) (i : Nat) : Bool := s.rd (F.RUL_FST i) = 2

/-- The next stroke of a domain to open: the first of a run that has just started, else the one after CUR (R219). -/
def nextOpen (s : State) (d : Nat) : Nat := if s.rul.fresh.contains d then s.rd (F.DOM_CUR d) else s.rd (F.DOM_CUR d) + 1

/-- The functions that are not free, in index order. -/
def liveFns (s : State) : List Nat := (s.rul.fns.map (fun p => p.1)).filter (fun i => s.rd (F.RUL_FST i) ≠ 0)

/-- The placements of a function that run: A, and B for a twin, without the one that is lost (R273). -/
def Fn.places (x : Fn) : List (Nat × Place) :=
  if x.desc.twin then
    (if x.alone = 2 then [] else [(0, x.a)]) ++ (if x.alone = 1 then [] else [(1, x.b)])
  else [(0, x.a)]

/-- The function in a slot of a nib. -/
def slotFn (s : State) (f n k : Nat) : Nat := s.rd (F.FER_FIDX f (4 * n + k))

/-- Which placement of a function a slot holds: twin 0 or 1, and whether it is the new placement of a move. -/
def slotRole (s : State) (f n k : Nat) : Option (Nat × Place × Bool) :=
  if s.isSet (F.FER_SV f (4 * n + k)) then
    let x := s.fn (slotFn s f n k)
    let at' (p : Place) : Bool := p.fer = f && p.nib = n && p.slot = k
    let old := (if x.desc.twin then [(0, x.a), (1, x.b)] else [(0, x.a)]).find? (fun q => at' q.2)
    match old with
    | some (t, p) => some (t, p, false)
    | none => match x.move with
      | some m => if bitOf m.twins 0 && at' m.a then some (0, m.a, true)
          else if bitOf m.twins 1 && at' m.b then some (1, m.b, true) else none
      | none => none
  else none

/-- A ferrule beside its registers. -/
def State.ferrule (s : State) (f : Nat) : Ferrule := tget s.ferrules f
def State.setFerrule (s : State) (f : Nat) (x : Ferrule) : State := { s with ferrules := tset s.ferrules f x }

/-- Whether a ferrule is in RUN (R276). -/
def ferRun (s : State) (f : Nat) : Bool := s.rd (F.FER_FSTATE f) = 2

/-- The selector and the pending bit of a state pair (R259). -/
def smapSel (s : State) (f i : Nat) : Nat := tget (s.ferrule f).smap i % 2
def smapPend (s : State) (f i : Nat) : Bool := 2 ≤ tget (s.ferrule f).smap i

/-- The committed copy of a state word (R259, R261). -/
def stateWord (s : State) (p : Place) (j : Nat) : Word := s.ink p.fer (p.st + 2 * j + smapSel s p.fer (p.smap + j))

/-- The committed state of a placement. -/
def stateWords (s : State) (p : Place) (sw : Nat) : List Word := (List.range sw).map (stateWord s p)

/-- A state pair's map entry after commit or discard (R260). -/
def commitBits (commit : Bool) (b : Nat) : Nat := if 2 ≤ b then (if commit then 1 - b % 2 else b % 2) else b

/-- Commit or discard of the pending state of a placement (R260). -/
def settleState (s : State) (p : Place) (sw : Nat) (commit : Bool) : State :=
  let fx := s.ferrule p.fer
  let m := fx.smap.filterMap (fun e =>
    let v := if p.smap ≤ e.1 ∧ e.1 < p.smap + sw then commitBits commit e.2 else e.2
    if v = 0 then none else some (e.1, v))
  s.setFerrule p.fer { fx with smap := m }

/-- Every pending bit of a ferrule cleared (R260, R275). -/
def discardAll (s : State) (f : Nat) : State :=
  let fx := s.ferrule f
  s.setFerrule f { fx with smap := fx.smap.filterMap (fun e => if e.2 % 2 = 0 then none else some (e.1, 1)) }

/-- State words written as the committed state of a placement (R273, R312, R327). -/
def seedState (s : State) (p : Place) (ws : List Word) : State :=
  let fx := s.ferrule p.fer
  let s := s.setFerrule p.fer { fx with
    smap := fx.smap.filter (fun e => !(decide (p.smap ≤ e.1) && decide (e.1 < p.smap + ws.length))) }
  (ws.zipIdx).foldl (fun s q => (s.setInk p.fer (p.st + 2 * q.2) q.1).setInk p.fer (p.st + 2 * q.2 + 1) 0) s

/-- The ring of a subscription on a ferrule (R230). -/
def State.ring (s : State) (f sub : Nat) : Ring := tget s.rul.rings (f * 4096 + sub)
def State.setRing (s : State) (f sub : Nat) (r : Ring) : State :=
  { s with rul := { s.rul with rings := tset s.rul.rings (f * 4096 + sub) r } }

/-- The first word of a stroke's frame. -/
def frameAt (addr depth words stroke : Nat) : Nat := addr + (stroke % max depth 1) * (1 + words)

/-- The input words of a stroke's frame. -/
def frameWords (s : State) (f sub stroke : Nat) : List Word :=
  let r := s.ring f sub
  s.inks f (frameAt r.addr r.depth r.words stroke + 1) r.words

/-- Word 0 of a ledger entry (R242). -/
def ledgerWord0 (stroke dom kind ctx extra : Nat) : Word :=
  BitVec.ofNat 72 (stroke % 2 ^ 48 + dom * 2 ^ 48 + kind * 2 ^ 50 + ctx * 2 ^ 53 + extra * 2 ^ 65)

/-- The entries in the ledger that are not consumed (R240). -/
def ledgerOcc (s : State) (f : Nat) : Nat := (s.rd (F.FER_LWR f) + 65536 - s.rd (F.FER_LRD f)) % 65536

/-- An entry put at LWR (R239, R240). -/
def ledgerPut (s : State) (f : Nat) (e : List Word) : State :=
  (s.setInks f (0x3F000 + 4 * (s.rd (F.FER_LWR f) % 1024)) e).wrapInc (F.FER_LWR f)

/-- A GAP entry of cause 0 or 1 (R243). -/
def gapEntry (cause first last lost : Nat) : List Word :=
  [ledgerWord0 0 0 4 0 cause, timeWord first, timeWord last, BitVec.ofNat 72 (min lost (2 ^ 36 - 1))]

/-- A ledger entry is written or dropped (R241). -/
def ledgerWrite (s : State) (f dom : Nat) (e : List Word) : State :=
  let fx := s.ferrule f
  let s := match fx.owed with
    | some (a, b, n) => (ledgerPut s f (gapEntry 1 a b n)).setFerrule f { fx with owed := none }
    | none => s
  let fx := s.ferrule f
  let drop (s : State) : State :=
    (((s.bump (F.FER_LDROP f)).bump (F.DOM_NLDROP dom)).wr (F.FER_LDRP f) 1)
  if s.isSet (F.FER_GAPST f) then
    if ledgerOcc s f ≤ 1022 then
      let s := ledgerPut s f (gapEntry 0 fx.gapFirst fx.gapLast fx.gapLost)
      let s := (s.setFerrule f { fx with gapLost := 0, gapFirst := 0, gapLast := 0 }).wr (F.FER_GAPST f) 0
      ledgerPut s f e
    else drop (s.setFerrule f { fx with gapLast := s.devTime, gapLost := fx.gapLost + 1 })
  else if ledgerOcc s f ≤ 1023 then ledgerPut s f e
  else drop ((s.setFerrule f { fx with gapFirst := s.devTime, gapLast := s.devTime, gapLost := 1 }).wr (F.FER_GAPST f) 1)

/-- A GAP entry of cause 2 or 3 for the strokes that a function skipped on a ferrule, written when it next runs there
(R243). -/
def writeSkips (s : State) (f fn dom : Nat) : State :=
  let fx := s.ferrule f
  match fx.skips.find? (fun e => e.1 = fn) with
  | some (_, first, last, cause) =>
    let s := s.setFerrule f { fx with skips := fx.skips.filter (fun e => e.1 ≠ fn) }
    ledgerWrite s f dom [ledgerWord0 first dom 4 fn cause, BitVec.ofNat 72 last, 0, 0]
  | none => s

/-- A stroke of a function is skipped on a ferrule (R237, R243): the unbroken run of skipped strokes grows. -/
def noteSkip (s : State) (f fn stroke cause : Nat) : State :=
  let fx := s.ferrule f
  let old := fx.skips.find? (fun e => e.1 = fn)
  let rest := fx.skips.filter (fun e => e.1 ≠ fn)
  match old with
  | some (_, first, last, c) => s.setFerrule f { fx with skips := rest ++ [(fn, first, max last stroke, c)] }
  | none => s.setFerrule f { fx with skips := rest ++ [(fn, stroke, stroke, cause)] }

/-! ### Requests of DMA channels (R503) -/

def State.dmaChan (s : State) (n : Nat) : DmaChan := tget s.dma n
def State.setDma (s : State) (n : Nat) (c : DmaChan) : State := { s with dma := tset s.dma n c }

/-- A field of a channel's configuration as created (R492). -/
def dmaCfg (s : State) (n lo len : Nat) : Nat := bitsOf (s.rd (F.DMA_VCFG n)) lo len
def dmaXf (s : State) (n : Nat) : Nat := dmaCfg s n 0 4
def dmaPacked (s : State) (n : Nat) : Bool := decide (dmaCfg s n 4 1 = 1)
def dmaReqCode (s : State) (n : Nat) : Nat := dmaCfg s n 5 8
def dmaBurst (s : State) (n : Nat) : Nat := dmaCfg s n 14 8

/-- Whether a channel's request is asserted (R503). -/
def dmaRequest (s : State) (n : Nat) : Bool :=
  let r := dmaReqCode s n
  if r = 0 then true
  else if r = 1 then bitOf (s.rd F.DMA_SWREQ) n
  else decide (2 * dmaBurst s n ≤ ledgerOcc s (r - 0x40))

/-- Requests that are withdrawn while a burst runs are noted (R503). -/
def dmaWithdraw (s : State) : State :=
  (List.range 32).foldl (fun s n =>
    let c := s.dmaChan n
    if c.busy && !c.drew && !dmaRequest s n then s.setDma n { c with drew := true } else s) s

/-- The effect of a write of LRD (R240). -/
def lrdWrite (s : State) (f v : Nat) : State :=
  if (s.rd (F.FER_LWR f) + 65536 - v % 65536) % 65536 ≤ ledgerOcc s f ∧ ledgerOcc s f ≤ 1024 then
    dmaWithdraw (s.wr (F.FER_LRD f) v)
  else s.ignored (ferPage f) 9 7

/-- LEDGER_LRD_WRITE (R240). -/
def execLedgerLrdWrite (t init ferrule value : Nat) (s : State) : Out :=
  .next ((s.tick t).gated init (ferPage ferrule) 9 (BitVec.ofNat 72 (value % 2 ^ 16 * 2 ^ 16)) (fun s => lrdWrite s ferrule value))

/-- The input words of a function's stroke, in binding order. -/
def inputWords (s : State) (x : Fn) (f stroke : Nat) : List Word :=
  x.subs.flatMap (fun b => frameWords s f b stroke)

/-- The device time at which a stroke opens, and its deadline (R216). -/
def openAt (s : State) (d n : Nat) : Nat := domAnchor s d + n * domPeriod s d
def graceNs (s : State) (d : Nat) : Nat := s.rd (F.DOM_GRC d) * 10
def deadlineAt (s : State) (d n : Nat) : Nat := openAt s d n + graceNs s d

/-- The RUN entry of a run (R243). -/
def runEntry (s : State) (f fn : Nat) (x : Fn) (p : Place) (stroke : Nat) (flt derr : Bool) (odig : Word) : State :=
  let d := x.desc.dom
  let sh := s.inks f p.hdr 5
  let ins := inputWords s x f stroke
  let subst := ins.any (fun w => getField w 68 1 = 1)
  let extra := getField (sh.getD 0 0) 50 1 + 2 * getField (sh.getD 0 0) 51 1 + 4 * b2n subst + 8 * b2n flt +
    16 * b2n derr + 32 * b2n x.desc.twin + 64 * b2n (!x.desc.twin && (flt || derr))
  ledgerWrite s f d [ledgerWord0 stroke d 1 fn extra, digest72 (sh.drop 1), digest72 (sh.take 1 ++ ins),
    if flt || derr then 0 else odig]

end Sys2Proof.Machine
end

