-- ==== Sys2Proof/Machine/Fast.lean ====
section
/-! DEFINITION. What a function's run does outside its nib: its egress and comparison points (R22, R317, R332), the
messages it sends (R263, R270, R338), DERR records (R225), skipped strokes (R237), checkpoints (R245), and how a nib's
run ends, faults, halts or is skipped (R247, R260, R267 to R274).
Decisions: log entries 38 (DEDUCED), 40 (DEDUCED), 78 (DEDUCED), 86 (DEDUCED). -/

namespace Sys2Proof.Machine
open Sys2Proof

/-- The egress point of a publication by its DEST: its ferrule, or 64 + the uplink whose gateway builds it (R332). -/
def destPoint (p dest : Nat) : Nat :=
  if dest < 0x40 then p / 32 else if dest < 0x60 then 64 + dest % 8 else 64 + 2 * (dest % 4)

/-- DEST of a publication. -/
def pubDest (s : State) (p : Nat) : Nat := bitsOf (s.rd (F.PUB_A0 p)) 2 7

/-- A target word: the trip line it names, or the index of the publication (R308). -/
def targetLine (w : Word) : Option Nat := if getField w 36 1 = 1 then some (getField w 37 6) else none
def targetPub (w : Word) : Nat := getField w 0 20

/-- The egress point of a target. -/
def targetPoint (s : State) (w : Word) : Nat :=
  match targetLine w with
  | some l => l
  | none => destPoint (targetPub w) (pubDest s (targetPub w))

/-- The egress points of a function, rising (R314). -/
def egressPoints (s : State) (x : Fn) : List Nat :=
  x.desc.targets.foldl (fun l w => insertNat (targetPoint s w) l) []

/-- The ferrule beside the gateway of an uplink (R22). -/
def besideGateway (k : Nat) : Nat := 8 * k + 7

/-- Where a function's messages go: its egress points, or for a twin its comparison points (R317); a twin without targets
is compared at twin A's ferrule (assumption 40). -/
def outPoints (s : State) (x : Fn) : List Nat :=
  if x.desc.twin then
    (if x.desc.targets.isEmpty then [x.a.fer]
      else (egressPoints s x).foldl (fun l p => insertNat (if 64 ≤ p then besideGateway (p - 64) else p) l) [])
  else egressPoints s x

/-- The lowest comparison point, which sends the decision (R272). -/
def lowestPoint (s : State) (x : Fn) : Nat := (outPoints s x).headD 0

/-- The running of a slot: ferrule, nib, slot, function index and context, twin, placement, and whether the placement is
the new one of a move. -/
structure RunCtx where
  f : Nat
  n : Nat
  k : Nat
  fn : Nat
  x : Fn
  twin : Nat
  p : Place
  isNew : Bool

/-- The context of a slot; none while the slot is not occupied by a function. -/
def slotCtx (s : State) (f n k : Nat) : Option RunCtx :=
  (slotRole s f n k).map (fun r =>
    { f := f, n := n, k := k, fn := slotFn s f n k, x := s.fn (slotFn s f n k), twin := r.1, p := r.2.1, isNew := r.2.2 })

def State.nib (s : State) (f n : Nat) : Nib := tget s.nibs (f * 18 + n)
def State.setNib (s : State) (f n : Nat) (x : Nib) : State := { s with nibs := tset s.nibs (f * 18 + n) x }

/-- Messages of a run to every point of its function (R263, R270): outputs, or an error notice. -/
def sendMsgs (s : State) (c : RunCtx) (stroke : Nat) (err : Bool) (words : List Word) (sdig : Word) : State :=
  let shadow := match c.x.move with
    | some m => c.isNew && m.shadow
    | none => false
  { s with rul := { s.rul with outputs := s.rul.outputs ++ (outPoints s c.x).map (fun q =>
      { fn := c.fn, twin := c.twin, point := q, stroke := stroke, err := err, words := words, sdig := sdig,
        shadow := shadow }) } }

/-- A checkpoint of stroke `n` is taken from a twin's committed state when one was requested for it (R245). -/
def checkpoint (s : State) (fn stroke twin : Nat) (rb : Bool) : State :=
  let x := s.fn fn
  if x.ckpt = some stroke then
    let src := if twin = 1 then x.b else x.a
    let ws := stateWords s src x.desc.sw
    let s := s.setInks x.a.fer x.a.ck ws
    let s := ledgerWrite s x.a.fer x.desc.dom [ledgerWord0 stroke x.desc.dom 5 fn (b2n rb), digest72 ws,
      BitVec.ofNat 72 x.desc.sw, BitVec.ofNat 72 x.a.ck]
    s.setFn fn { s.fn fn with ckpt := none }
  else s

/-- The record of a function's stroke is changed (R600); records of eight strokes are kept. -/
def noteRec (s : State) (fn stroke : Nat) (g : StrokeRec → StrokeRec) : State :=
  let old := (s.rul.recs.find? (fun r => r.fn = fn && r.stroke = stroke)).getD { fn := fn, stroke := stroke }
  { s with rul := { s.rul with
      recs := s.rul.recs.filter (fun r => !(decide (r.fn = fn) && (decide (r.stroke = stroke) || decide (r.stroke + 8 ≤ stroke)))) ++ [g old] } }

/-- A run whose outcome no comparison decides: of a single function, or of a twin that runs alone (R273). -/
def RunCtx.solo (c : RunCtx) : Bool := !c.x.desc.twin || decide (c.x.alone ≠ 0)

/-- What a run leaves for the record of its stroke (R600). -/
def noteRun (s : State) (c : RunCtx) (stroke : Nat) (err : Bool) (odig : Word) : State :=
  if c.isNew then s
  else noteRec s c.fn stroke (fun r =>
    let r := { r with pdig := some (digest72 (s.inks c.f (c.p.hdr + 1) 4)) }
    if c.solo then { r with ind := err, odig := if err then none else some odig } else r)

/-- The stroke of a run is recorded with DERR: RUN entry, error notice, NIND for a single function, RUN packet
(R225, R236, R586). -/
def derrRun (s : State) (c : RunCtx) (stroke : Nat) : State :=
  let s := writeSkips s c.f c.fn c.x.desc.dom
  let s := noteRun (runEntry s c.f c.fn c.x c.p stroke false true 0) c stroke true 0
  let s := sendMsgs s c stroke true [] 0
  let s := if strokeTrace s c.f then
      s.trace (0x40 + c.f) 7 (c.fn + c.n * 2 ^ 12 + c.k * 2 ^ 17 + 2 ^ 36) none else s
  if !c.solo || c.isNew then s
  else checkpoint (s.bump (F.DOM_NIND c.x.desc.dom)) c.fn stroke c.twin true

/-- Whether a function's stroke is recorded as skipped on a ferrule. -/
def isSkipped (s : State) (f fn stroke : Nat) : Bool :=
  (s.ferrule f).skips.any (fun e => e.1 = fn && decide (e.2.1 ≤ stroke) && decide (stroke ≤ e.2.2.1))

/-- Both runs of a twin's stroke, or the one run of a function, are skipped (R341). -/
def strokeSkipped (s : State) (fn stroke : Nat) : Bool :=
  (s.fn fn).places.all (fun q => isSkipped s q.2.fer fn stroke)

/-- A stroke of a placement is skipped (R237): the GAP run grows, and NIND counts the function stroke once (R236). -/
def skipRun (s : State) (c : RunCtx) (stroke cause : Nat) : State :=
  if isSkipped s c.f c.fn stroke || c.isNew then s
  else
    let s := noteSkip s c.f c.fn stroke cause
    let s := s.setFn c.fn { s.fn c.fn with lastRun := stroke + 1 }
    if strokeSkipped s c.fn stroke then s.bump (F.DOM_NIND c.x.desc.dom) else s

/-- A GAP entry of the skipped strokes, and the checkpoint that was requested for one of them (R243, R245). -/
def closeSkips (s : State) (c : RunCtx) : State :=
  match (s.ferrule c.f).skips.find? (fun e => e.1 = c.fn) with
  | some (_, first, last, _) =>
    let s := writeSkips s c.f c.fn c.x.desc.dom
    match c.x.ckpt with
    | some n => if first ≤ n ∧ n ≤ last ∧ (c.twin = 0 ∨ c.solo = true) then checkpoint s c.fn n c.twin true else s
    | none => s
  | none => s

/-- The order of events that arrive in one AON cycle: class, then ferrule and nib, or function (R304). -/
def eventKey (e : RulEvent) : Nat :=
  match e with
  | .nibFault f n => f * 32 + n
  | .nibReturn f n => f * 32 + n
  | .twinOutcome i _ => 10000 + i
  | .shadow i _ => 20000 + i
  | .slice _ => 30000
  | .command => 40000

/-- RBUSY: the event whose turn it is, is an internal one (R329). -/
def rulBusy (s : State) : State :=
  s.wrb F.RUL_RBUSY (match s.rul.events with
    | (_, .command) :: _ => false
    | [] => false
    | _ => true)

/-- An event of the ruler joins the queue (R304): after those of earlier cycles, in the fixed order within its own. -/
def State.rulEvent (s : State) (e : RulEvent) : State :=
  let c := s.now * 2 / 5
  let before (q : Nat × RulEvent) : Bool := decide (q.1 < c) || decide (eventKey q.2 ≤ eventKey e)
  rulBusy { s with rul := { s.rul with events := s.rul.events.takeWhile before ++ [(c, e)] ++ s.rul.events.dropWhile before } }

/-- The nib is idle, or keeps a state above 2; the next slot may start 8 cycles later (R247). -/
def nibIdle (s : State) (f n gap : Nat) : State :=
  let b := s.nib f n
  let s := if s.rd (F.FER_NST f n) = 1 then (s.wr (F.FER_NST f n) 0).wr (F.FER_CSLOT f n) 0 else s
  s.setNib f n { b with startAt := b.startAt + b.cyc + gap, cyc := 0 }

/-- The RUN packet of a run (R586). -/
def runPacket (s : State) (c : RunCtx) (cyc : Nat) (flt : Bool) : State :=
  if strokeTrace s c.f then
    s.trace (0x40 + c.f) 7 (c.fn + c.n * 2 ^ 12 + c.k * 2 ^ 17 + cyc * 2 ^ 19 + b2n flt * 2 ^ 35) none else s

/-- Release of the outputs (R263, R264): the words of the output window and, for a twin, the store digest; a critical
function's release after FAST cycles counts in NLREL (R322). -/
def releaseOutputs (s : State) (c : RunCtx) : State :=
  let b := s.nib c.f c.n
  let words := (List.range c.x.desc.nout).map (fun i => tget b.out i)
  let s := sendMsgs s c b.stroke false words (digest72 b.stores.reverse)
  let s := if c.x.desc.crit && decide (c.x.desc.fast < b.cyc) then s.bump (F.RUL_NLREL c.fn) else s
  s.setNib c.f c.n { b with released := true, outs := words }

/-- Commit or discard at the decision of a twin's stroke on one of its ferrules (R260, R272), and the checkpoint that was
requested for the stroke, from a twin that holds the state after it (R245). -/
def applyDecision (s : State) (c : RunCtx) (stroke : Nat) (cA cB : Bool) : State :=
  let commit := if c.twin = 0 then cA else cB
  let s := settleState s c.p c.x.desc.sw commit
  let s := if commit then s else s.wr (F.FER_LFLT c.f (4 * c.n + c.k)) 1
  if c.twin = 0 then (if cA then checkpoint s c.fn stroke 0 false else if cB then s else checkpoint s c.fn stroke 0 true)
  else if cB && !cA then checkpoint s c.fn stroke 1 false else s

/-- The run ends with END (R247, R260, R262). -/
def endRun (s : State) (c : RunCtx) : State :=
  let b := s.nib c.f c.n
  let s := if b.released then s else releaseOutputs s c
  let b := s.nib c.f c.n
  let slot := 4 * c.n + c.k
  let s := (s.wr (F.FER_USED c.f slot) b.cyc).wr (F.FER_LFLT c.f slot) 0
  let s := noteRun (runEntry s c.f c.fn c.x c.p b.stroke false false (digest72 b.outs)) c b.stroke false (digest72 b.outs)
  let s := runPacket s c b.cyc false
  let x := s.fn c.fn
  let s :=
    if c.isNew then settleState s c.p c.x.desc.sw true
    else if !c.solo then
      let held := if c.twin = 0 then x.heldA else x.heldB
      if held.1 = b.stroke + 1 then
        applyDecision (s.setFn c.fn (if c.twin = 0 then { x with heldA := (0, false, false) }
          else { x with heldB := (0, false, false) })) c b.stroke held.2.1 held.2.2
      else s.setFn c.fn (if c.twin = 0 then { x with waitA := b.stroke + 1 } else { x with waitB := b.stroke + 1 })
    else checkpoint (settleState s c.p c.x.desc.sw true) c.fn b.stroke c.twin false
  nibIdle s c.f c.n 8

/-- The fault record (R269, R277): captured while FV is 0, else FCNT counts. -/
def faultRecord (s : State) (c : RunCtx) (kind sub cyc par0 : Nat) (par1 : Option Nat) : State :=
  let b := s.nib c.f c.n
  let f := c.f
  let n := c.n
  let s := s.setBit (F.FER_NFLT f) n
  if s.isSet (F.FER_FV f n) then s.bump (F.FER_FCNT f n)
  else
    let s := ((((s.wr (F.FER_FSTR f n) b.stroke).wr (F.FER_FDOM f n) c.x.desc.dom).wr (F.FER_FSLOT f n) c.k).wr
      (F.FER_FFIDX f n) c.fn).wr (F.FER_FKIND f n) kind
    let s := ((((((s.wr (F.FER_FPC f n) b.pc).wr (F.FER_FBANK f n) (s.rd (F.FER_PBANK f n))).wr (F.FER_FPAR0 f n) par0).wr
      (F.FER_FPAR1 f n) (par1.getD 0)).wr (F.FER_FEXT f n) (b2n par1.isSome)).wr (F.FER_FCYC f n) cyc).wr
      (F.FER_FRSD f n) b.ret.length
    (((((s.wr (F.FER_FLC0 f n) (tget b.lc 0)).wr (F.FER_FLC1 f n) (tget b.lc 1)).wr (F.FER_FLOOP f n) b.loops.length).wr
      (F.FER_FSP f n) b.sp).wr (F.FER_FSUB f n) sub).wr (F.FER_FV f n) 1

/-- The pending state of a run is discarded and its slot shows it (R260). -/
def discardRun (s : State) (c : RunCtx) : State :=
  (settleState s c.p c.x.desc.sw false).wr (F.FER_LFLT c.f (4 * c.n + c.k)) 1

/-- The slots that the nib still has to run, recorded with DERR after a fault of kind 3h (R268). -/
def derrRest (s : State) (f n : Nat) : State :=
  let b := s.nib f n
  let s := forEach b.queue s (fun s k => match slotCtx s f n k with
    | some c => derrRun s c b.stroke
    | none => s)
  s.setNib f n { s.nib f n with queue := [] }

/-- A fault stops the run (R267, R268). -/
def faultRun (s : State) (c : RunCtx) (kind sub cyc par0 : Nat) (par1 : Option Nat) : State :=
  let s := faultRecord s c kind sub cyc par0 par1
  let b := s.nib c.f c.n
  let s := s.setNib c.f c.n { b with cyc := cyc }
  let s := noteRun (runEntry s c.f c.fn c.x c.p b.stroke true false 0) c b.stroke true 0
  let s := runPacket s c cyc true
  let s := discardRun s c
  let s := if b.released then s else sendMsgs s c b.stroke true [] 0
  let x := s.fn c.fn
  let s := if c.isNew then s
    else if !c.solo then
      let s := s.setFn c.fn (if c.twin = 0 then { x with heldA := (0, false, false), waitA := 0 }
        else { x with heldB := (0, false, false), waitB := 0 })
      if b.released then s.rulEvent (.twinOutcome c.fn (if c.twin = 0 then 2 else 3)) else s
    else checkpoint (s.bump (F.DOM_NIND c.x.desc.dom)) c.fn b.stroke c.twin true
  if kind = 3 then
    let s := (nibIdle s c.f c.n 0).wr (F.FER_NST c.f c.n) 3
    derrRest (s.rulEvent (.nibFault c.f c.n)) c.f c.n
  else nibIdle s c.f c.n 8

/-- A run in progress is stopped, and the runs of the stroke that have not started are skipped (R237, R274, R275). -/
def skipNib (s : State) (f n cause : Nat) : State :=
  let b := s.nib f n
  let slots := (if s.rd (F.FER_NST f n) = 1 then [b.slot] else []) ++ b.queue
  let s := forEach slots s (fun s k => match slotCtx s f n k with
    | some c => skipRun s c b.stroke cause
    | none => s)
  s.setNib f n { s.nib f n with queue := [] }

/-- The nib is halted in bench mode (R274, R580). -/
def haltNib (s : State) (f n : Nat) : State := (skipNib s f n 3).wr (F.FER_NST f n) 2

/-- A halted nib is released (R581): its pending state is discarded and NST returns to 0. -/
def releaseNib (s : State) (f n : Nat) : State :=
  if s.rd (F.FER_NST f n) = 2 then
    let b := s.nib f n
    let s := match slotCtx s f n b.slot with
      | some c => settleState s c.p c.x.desc.sw false
      | none => s
    ((s.wr (F.FER_NST f n) 0).wr (F.FER_CSLOT f n) 0).setNib f n {}
  else s

/-- A run starts (R247, R249, R253): the registers are 0, sp is the top of the stack, scratch and output window read
0. -/
def startRun (s : State) (c : RunCtx) (rest : List Nat) : State :=
  let b := s.nib c.f c.n
  let s := s.setInks c.f c.p.out (List.replicate c.x.desc.nout 0)
  let s := ((s.wr (F.FER_NST c.f c.n) 1).wr (F.FER_CSLOT c.f c.n) c.k)
  let s := s.setFn c.fn { s.fn c.fn with lastRun := b.stroke + 1 }
  s.setNib c.f c.n { ({} : Nib) with
    stroke := b.stroke
    queue := rest
    startAt := max b.startAt s.now
    slot := c.k
    sp := c.x.desc.xlen - 1 }

/-- NIB_RUN_START (R247): an idle nib starts the run of its lowest waiting slot, once its time has come. -/
def execNibRunStart (t ferrule nib : Nat) (s : State) : Out :=
  let s := s.tick t
  let b := s.nib ferrule nib
  .next (match b.queue with
    | [] => s
    | k :: rest =>
      if s.rd (F.FER_NST ferrule nib) = 0 ∧ b.startAt ≤ s.now then
        match slotCtx s ferrule nib k with
        | some c => startRun s c rest
        | none => s.setNib ferrule nib { b with queue := rest }
      else s)

end Sys2Proof.Machine
end

