-- ==== Sys2Proof/Machine/Links.lean ====
section
/-! DEFINITION. What the link engines, the uplinks and the publications share: ports, redundancy pairs and their
duplicate windows (R135 to R141), key slots (R96, R97), the spoof check (R518), and frames made ready for a port's
transmit scheduler (R144).
Decisions: log entries 29 (DEDUCED), 31 (DEDUCED). -/

namespace Sys2Proof.Machine
open Sys2Proof

/-- The chip is in reset (R603, R611). -/
def inChipReset (s : State) : Bool := decide (1 ≤ s.phase) && decide (s.phase ≤ 3)

/-- A port beside its registers. -/
def State.port (s : State) (p : Nat) : Port := tget s.ports p
def State.setPort (s : State) (p : Nat) (x : Port) : State := { s with ports := tset s.ports p x }

/-- The cell-link side of a lane. -/
def State.cell (s : State) (l : Nat) : Cell := (s.port l).cell
def State.setCell (s : State) (l : Nat) (c : Cell) : State := s.setPort l { s.port l with cell := c }

/-- The pair of a port (R135, R153): 8 f + j for lanes, 512 + j for uplinks; management ports have none. -/
def pairOf (p : Nat) : Option Nat :=
  if p < 1024 then some (8 * (p / 16) + p % 16 / 2) else if p < 1032 then some (512 + (p - 1024) / 2) else none

/-- The other port of a pair. -/
def partner (p : Nat) : Nat := if p % 2 = 0 then p + 1 else p - 1

/-- The pair's configuration word and its status word (R156, R158). -/
def pairCfg (pr : Nat) : Nat := if pr < 512 then lnkPage (pr / 8) * 512 + 8 else (0x288 + (pr - 512)) * 512 + 8
def pairWord (pr : Nat) : Nat := if pr < 512 then lnkPage (pr / 8) * 512 + 12 + pr % 8 else (0x288 + (pr - 512)) * 512 + 9

def fPairMode (pr : Nat) : Fld := fldAt (pairCfg pr) (if pr < 512 then 2 * (pr % 8) else 0) 2
def fPairDdft (pr : Nat) : Fld := fldAt (pairCfg pr) 16 10
def fPairOcc (pr : Nat) : Fld := fldAt (pairWord pr) 0 12
def fPairEvict (pr : Nat) : Fld := fldAt (pairWord pr) 13 16
def fPairTxseq (pr : Nat) : Fld := fldAt (pairWord pr) 29 16
def fPairFwd (pr : Nat) : Fld := fldAt (pairWord pr) 45 27

/-- The pair mode of a port (R135): 0 independent, 1 PRP, 2 HSR. -/
def portPairMode (s : State) (p : Nat) : Nat :=
  match pairOf p with
  | some pr => s.rd (fPairMode pr)
  | none => 0

/-- A pair's window replaced; OCC shows its entries (R137, R158). -/
def setWindow (s : State) (pr : Nat) (w : List (Nat × Nat × Nat)) : State :=
  ({ s with pairs := tset s.pairs pr { window := w } }).wr (fPairOcc pr) w.length

/-- The entries of a window that have not expired (R138). -/
def windowLive (s : State) (pr : Nat) : List (Nat × Nat × Nat) :=
  (tget s.pairs pr).window.filter (fun e => decide (s.now < e.2.2 + s.rd (fPairDdft pr) * 1000000))

/-- Whether the window holds an entry. -/
def windowHas (s : State) (pr smac seq : Nat) : Bool :=
  (windowLive s pr).any (fun e => e.1 = smac && e.2.1 = seq)

/-- An entry removed. -/
def windowDel (s : State) (pr smac seq : Nat) : State :=
  setWindow s pr ((windowLive s pr).filter (fun e => !(decide (e.1 = smac) && decide (e.2.1 = seq))))

/-- An entry created (R138): a full window loses its oldest entry, which had not expired. -/
def windowAdd (s : State) (pr smac seq : Nat) : State :=
  let w := windowLive s pr
  if w.length < 2048 then setWindow s pr (w ++ [(smac, seq, s.now)])
  else
    let s := s.bump (fPairEvict pr)
    let s := s.pageErr (pairWord pr / 512) 0x10 (pairWord pr % 512) (if pr < 512 then pr % 8 else pr - 512)
    setWindow s pr (w.drop 1 ++ [(smac, seq, s.now)])

/-- The blocks of the two key slots of a pair of a SUB or PUB page (R215, R360). -/
def subKey (f p : Nat) : Nat := subPage f * 512 + 320 + 12 * p
def pubKey (f p : Nat) : Nat := pubPage f * 512 + 112 + 12 * p

/-- A key slot is not empty, and its valid-from has passed (R97). -/
def keyUsable (s : State) (b : Nat) : Bool :=
  decide (s.rd (F.KEY_ALG b) ≠ 0) && decide (s.rd (F.KEY_VFROM b) ≤ (timeWord s.devTime).toNat)

/-- The slot a publication tags with: the latest valid-from, slot 0 on a tie (R97). -/
def keySelect (s : State) (b : Nat) : Option Nat :=
  if keyUsable s b then
    (if keyUsable s (b + 6) && decide (s.rd (F.KEY_VFROM b) < s.rd (F.KEY_VFROM (b + 6))) then some (b + 6) else some b)
  else if keyUsable s (b + 6) then some (b + 6) else none

/-- Octets in packed form from a word address (R6): octet i in word i div 9, bits from 8 (i mod 9). -/
def packedOctets (s : State) (a n : Nat) : List Nat :=
  (List.range n).map (fun i => getField (s.word (a + i / 9)) (8 * (i % 9)) 8)

/-- The key octets of a slot. -/
def keyOctets (s : State) (b : Nat) : List Nat := packedOctets s (b + 2) 32

/-- The spoof check of a tenant's frame (R518); `id` is the goID, or the svID of the first ASDU, of a frame that decodes. -/
def spoofOk (s : State) (ten smac : Nat) (vlan : VlanTag) (etype appid : Nat) (id : Option (List Nat)) : Bool :=
  let app (k : Nat) : Bool := decide (bitsOf (s.rd (F.TEN_APP ten)) (32 * k) 16 ≤ appid) &&
    decide (appid ≤ bitsOf (s.rd (F.TEN_APP ten)) (32 * k + 16) 16)
  let pfx := (List.range (s.rd (F.TEN_IDPL ten))).map (fun i => bitsOf (s.rd (F.TEN_IDPFX ten)) (8 * i) 8)
  s.isSet (F.TEN_SPEN ten) && decide (smac = s.rd (F.TEN_SMAC ten)) &&
  (match vlan with
    | .tagged vid _ => [0, 1, 2, 3].any (fun k => bitOf (s.rd (F.TEN_VIDS ten)) (13 * k + 12) &&
        decide (bitsOf (s.rd (F.TEN_VIDS ten)) (13 * k) 12 = vid))
    | _ => s.isSet (F.TEN_UNT ten)) &&
  decide (etype ≠ 0x88F7) &&
  (if etype = 0x88B8 ∨ etype = 0x88BA then
    (app 0 || app 1) && (match id with
      | some l => decide (l.take pfx.length = pfx)
      | none => false)
  else true)

/-- A spoof drop is counted (R518). -/
def spoofDrop (s : State) (ten : Nat) : State := (s.bump (F.TEN_SPOOF ten)).wr F.TEN_SPF 1

/-- Whether a port can send: an uplink sends nothing during a chip reset or while its power domain is not ON (R345). -/
def portSends (s : State) (p : Nat) : Bool :=
  if p < 1024 then true
  else if p < 1032 then !inChipReset s && decide (bitsOf (s.rd F.PWR_DOM) 2 2 = 1)
  else !inChipReset s

/-- A frame joins a port's transmit scheduler (R144). -/
def enqueue (s : State) (p : Nat) (x : TxFrame) : State :=
  if portSends s p then s.setPort p { s.port p with txq := (s.port p).txq ++ [x] } else s

/-- A frame made ready on one port, or on both ports of a PRP or HSR pair under one sequence number (R141). -/
def sendOn (s : State) (ports : List Nat) (cls : Nat) (signoff : Bool) (key : Option Nat) (body : TxBody) : State :=
  match ports with
  | [] => s
  | p :: rest =>
    match rest, pairOf p with
    | [], _ | _, none => enqueue s p { cls := cls, signoff := signoff, red := .none, keyId := key, body := body }
    | _, some pr =>
      let seq := s.rd (fPairTxseq pr)
      let s := s.wrapInc (fPairTxseq pr)
      forEach ports s (fun s q =>
        let red := if s.rd (fPairMode pr) = 1 then RedTag.prp (q % 2) seq
          else if s.rd (fPairMode pr) = 2 then RedTag.hsr seq else RedTag.none
        enqueue s q { cls := cls, signoff := signoff, red := red, keyId := key, body := body })

end Sys2Proof.Machine
end

