-- ==== Sys2Proof/Machine/Pubs.lean ====
section
/-! DEFINITION. Publications (R331 to R354, R359): their contexts, what each shows in a stroke, GOOSE states and their
curve, SV frames, cell-link commands, sign-off, and the commands of the PUB page.
Decisions: log entries 30 (PRESUMED), 33 (DEDUCED), 34 (DEDUCED), 46 (DEDUCED), 87 (DEDUCED). -/

namespace Sys2Proof.Machine
open Sys2Proof

/-- The tenant of the initiator of a register write (R507). -/
def initTenant (s : State) (init : Nat) : Nat := if init < 0x20 then scribeTenant (s.scribe init) else 0

/-- A publication. -/
def State.pub (s : State) (p : Nat) : Pub := tget s.pubs p
def State.setPub (s : State) (p : Nat) (x : Pub) : State := { s with pubs := tset s.pubs p x }

/-- The fields of the words that created a publication (R334). -/
def pubA0 (s : State) (p lo len : Nat) : Nat := bitsOf (s.rd (F.PUB_A0 p)) lo len
def pubType (s : State) (p : Nat) : Nat := pubA0 s p 0 2
def pubDom (s : State) (p : Nat) : Nat := pubA0 s p 9 2
def pubKpair (s : State) (p : Nat) : Nat := pubA0 s p 11 5
def pubNval (s : State) (p : Nat) : Nat := pubA0 s p 17 7
def pubObase (s : State) (p : Nat) : Nat := pubA0 s p 24 6

/-- SV sample rates by code, in Hz (R193). -/
def svRate (code : Nat) : Nat := [4000, 4800, 12800, 14400, 15360, 96000].getD code 0

/-- K = P × r, rounded down (R352). -/
def strokeSamples (s : State) (d rate : Nat) : Nat := domPeriod s d * rate / 1000000000

def pubRateHz (s : State) (p : Nat) : Nat := svRate (pubA0 s p 30 3)
def pubK (s : State) (p : Nat) : Nat := strokeSamples s (pubDom s p) (pubRateHz s p)

/-- The output words that a publication uses (R336). -/
def pubUses (s : State) (p : Nat) : Nat :=
  if pubType s p = 1 then pubNval s p else if pubType s p = 2 then pubK s p * pubNval s p else 13

/-- The ports of a destination (R332). -/
def destPorts (f dest : Nat) : List Nat :=
  if dest < 0x10 then [16 * f + dest]
  else if dest < 0x40 then [16 * f + 2 * (dest % 8), 16 * f + 2 * (dest % 8) + 1]
  else if dest < 0x60 then [1024 + dest % 8]
  else [1024 + 2 * (dest % 4), 1024 + 2 * (dest % 4) + 1]

def pubPorts (s : State) (p : Nat) : List Nat := destPorts (p / 32) (pubDest s p)

/-- The octets of a template (R335). -/
def templateOctets (s : State) (f base len : Nat) : List Nat := packedOctets s (pubPage f * 512 + 192 + base) (9 * len)

/-- The strings of a template, each after its length octet of 0 to 129; none when the octets do not hold them. -/
def templateStrings : Nat → List Nat → Option (List (List Nat))
  | 0, _ => some []
  | _ + 1, [] => none
  | k + 1, n :: t =>
    if n ≤ 129 ∧ n ≤ t.length then (templateStrings k (t.drop n)).map (fun r => t.take n :: r) else none

def pubTemplate (s : State) (p : Nat) : List Nat :=
  templateOctets s (p / 32) (bitsOf (s.rd (F.PUB_A2 p)) 48 7) (bitsOf (s.rd (F.PUB_A2 p)) 55 7)

/-- The source MAC of a publication's frames (R335). -/
def pubSmac (s : State) (p : Nat) : Nat := ofOctets ((pubTemplate s p).take 6)

/-- The identifier of a publication's frames: goID, or svID (R335, R518). -/
def pubIdent (s : State) (p : Nat) : List Nat :=
  let strs := (templateStrings (if pubType s p = 1 then 3 else 2) ((pubTemplate s p).drop 6)).getD []
  strs.getD (if pubType s p = 1 then 2 else 0) []

/-- The time quality octet of UtcTime values (R351). -/
def timeQuality (s : State) : Nat :=
  if s.rd F.TIM_QSTATE = 1 then 0x94 else if s.rd F.TIM_QSTATE = 0 then 0xFF else 0xB4

/-- A device time as a UtcTime value of 8 octets (R351). -/
def utcTime (s : State) (w : Word) : Nat :=
  toField ((getField w 32 40 : Nat) - signedOf (s.rd F.TIM_UTCOFS) 16) 32 * 2 ^ 32 + getField w 8 24 * 2 ^ 8 + timeQuality s

/-- VALUE of an output word as a signed number (R209). -/
def wordValue (w : Word) : Int := signedOf (getField w 0 36) 36

/-- A GOOSE member as encoded from its output word, under its type code (R348). -/
def encodeMember (s : State) (ty : Nat) (w : Word) (openNs : Nat) : Nat × Nat :=
  (ty, if ty = 0 then getField w 0 1 else if ty = 1 then getField w 0 2
    else if ty = 2 then toField (clampInt (wordValue w) 32) 32
    else if ty = 3 then (if wordValue w < 0 then 0 else min (wordValue w).toNat (2 ^ 32 - 1))
    else if ty = 4 then getField w 0 32 else if ty = 5 then getField w 0 13
    else utcTime s (if w = 0 then timeWord openNs else w))

/-- The words of an image, as in effect for a stroke; beyond word 511 they are 0 (R359, R360). -/
def imageWords (s : State) (f base n openNs : Nat) : List Word :=
  (List.range n).map (fun i => if 320 + base + i < 512 then s.csWord (pubPage f * 512 + 320 + base + i) openNs else 0)

/-- The fields of PUB_PSO as in effect for a stroke (R359). -/
def pubSoff (s : State) (p openNs : Nat) : Nat := s.csRd (F.PUB_SOFF (p / 32) (p % 32)) openNs
def pubSbase (s : State) (p openNs : Nat) : Nat := s.csRd (F.PUB_SBASE (p / 32) (p % 32)) openNs
def pubTbase (s : State) (p openNs : Nat) : Nat := s.csRd (F.PUB_TBASE (p / 32) (p % 32)) openNs

/-- An image as the output words that a publication shows: for a cell-link command twelve words of 16 bits and BLK 1
(R340, R354). -/
def shownImage (s : State) (p base openNs : Nat) : List Word :=
  if pubType s p = 3 then
    let im := imageWords s (p / 32) base 3 openNs
    (List.range 12).map (fun k => BitVec.ofNat 72 (getField (im.getD (k / 4) 0) (16 * (k % 4)) 16)) ++ [1]
  else imageWords s (p / 32) base (pubUses s p) openNs

/-- The words last shown from a result or a policy output, or the sign-off image (R340). -/
def prevWords (s : State) (p openNs : Nat) : List Word :=
  ((s.pub p).prev).getD (shownImage s p (pubSbase s p openNs) openNs)

/-- Validity 11b unless it is 01b, in the QUAL of an SV word and in a GOOSE quality member (R340). -/
def svQuestionable (w : Word) : Word := if getField w 36 2 = 1 then w else putField w 36 2 3
def gooseQuestionable (w : Word) : Word := if getField w 0 2 = 1 then w else putField w 0 2 3

/-- What a publication shows by policy (R340). -/
def policyWords (s : State) (p ipol openNs : Nat) : List Word :=
  if ipol = 0 then
    let prev := prevWords s p openNs
    if pubType s p = 1 then (prev.zipIdx).map (fun q => if (s.pub p).types.getD q.2 0 = 5 then gooseQuestionable q.1 else q.1)
    else if pubType s p = 2 then prev.map svQuestionable else prev
  else if ipol = 1 ∧ pubType s p ≠ 3 ∧ pubTbase s p openNs ≠ 0xFF then shownImage s p (pubTbase s p openNs) openNs
  else shownImage s p (pubSbase s p openNs) openNs

/-- The retransmission interval after frame `k` of a state, in ns (R350). -/
def gooseInterval (s : State) (p k : Nat) : Nat :=
  min (bitsOf (s.rd (F.PUB_A3 p)) 0 10 * 2 ^ min k 30 * 100000) (bitsOf (s.rd (F.PUB_A3 p)) 10 16 * 1000000)

/-- The time of frame `k` after the first (R350). -/
def gooseDelay (s : State) (p : Nat) : Nat → Nat
  | 0 => 0
  | k + 1 => gooseDelay s p k + gooseInterval s p k

/-- A frame of a publication is tagged and checked, and handed to its lane or uplink; a frame without a usable key and a
frame that fails the spoof check are dropped (R331, R346, R347, R518). -/
def pubSend (s : State) (p cls : Nat) (signoff : Bool) (body : TxBody) : State :=
  let f := p / 32
  let kp := pubKpair s p
  let key := if kp = 0x1F then some none else (keySelect s (pubKey f kp)).map (fun b => some (s.rd (F.KEY_KEYID b)))
  match key with
  | none => ((s.bump (F.PUB_NDROP p)).setBit (F.PUB_ENOKEY f) (p % 32)).pageErr (pubPage f) 0x10 25 (p % 32)
  | some k =>
    let ten := s.rd (F.PUB_OWNER p)
    let a1 := s.rd (F.PUB_A1 p)
    let vlan := if bitsOf a1 48 1 = 1 then VlanTag.tagged (bitsOf a1 49 12) (bitsOf a1 61 3) else .untagged
    let etype := if pubType s p = 1 then 0x88B8 else 0x88BA
    if ten ≠ 0 ∧ spoofOk s ten (pubSmac s p) vlan etype (bitsOf (s.rd (F.PUB_A2 p)) 0 16) (some (pubIdent s p)) = false then
      (spoofDrop s ten).bump (F.PUB_NDROP p)
    else sendOn s (pubPorts s p) cls signoff k body

/-- NEXT of a publication: the time of its next GOOSE frame, 0 when none (R359). -/
def setNext (s : State) (p : Nat) : State :=
  let x := s.pub p
  s.wr (F.PUB_NEXT p) (if x.live then (timeWord (x.t1 + gooseDelay s p (x.step + 1))).toNat else 0)

/-- The present frame of a GOOSE state is sent (R349, R350). -/
def gooseFrame (s : State) (p cls : Nat) : State :=
  let x := s.pub p
  let tal := (2 * gooseInterval s p x.step + 999999) / 1000000
  pubSend s p cls x.image (.goose p (s.rd (F.PUB_STNUM p)) (s.rd (F.PUB_SQNUM p)) tal x.curT (timeQuality s) x.cur)

/-- A counter that wraps from 4,294,967,295 to 1 (R349). -/
def incNum (n : Nat) : Nat := if n = 2 ^ 32 - 1 then 1 else n + 1

/-- The values that a GOOSE publication shows: a new state when the encoded data differ, or when one is called for, and
its first frame at once (R343, R349, R350). -/
def gooseShow (s : State) (p : Nat) (words : List Word) (openNs : Nat) (image force : Bool) (cls : Nat) : State :=
  let x := s.pub p
  let cur := (x.types.zip words).map (fun q => encodeMember s q.1 q.2 openNs)
  if x.live && !force && decide (x.cur = cur) && (x.image == image) then s
  else
    let s := (s.wr (F.PUB_STNUM p) (incNum (s.rd (F.PUB_STNUM p)))).wr (F.PUB_SQNUM p) 0
    let s := s.setPub p { x with cur := cur, curT := openNs, live := true, step := 0, t1 := s.devTime, image := image }
    gooseFrame (setNext s p) p cls

/-- The curve of a GOOSE publication stops (R343). -/
def gooseStop (s : State) (p : Nat) : State := setNext (s.setPub p { s.pub p with live := false }) p

/-- smpSynch of SV frames (R353). -/
def smpSynchNow (s : State) : Nat := if s.rd F.TIM_QSTATE = 1 ∨ s.rd F.TIM_QSTATE = 2 then 2 else 0

/-- The SV frame of a stroke (R352, R353). -/
def svShow (s : State) (p n : Nat) (words : List Word) (signoff : Bool) (cls : Nat) : State :=
  let r := pubRateHz s p
  let nv := pubNval s p
  let idx := openAt s (pubDom s p) n % 1000000000 * r / 1000000000
  let asdus := (List.range (pubK s p)).map (fun a =>
    { svId := pubIdent s p
      smpCnt := (idx + a) % max r 1
      confRev := bitsOf (s.rd (F.PUB_A2 p)) 16 32
      smpSynch := smpSynchNow s
      smpRate := some r
      dataOctets := 8 * nv
      data := (List.range nv).map (fun c =>
        let w := words.getD (a * nv + c) 0
        { value := BitVec.ofInt 32 (clampInt (wordValue w) 32), qual := BitVec.ofNat 32 (getField w 36 32) : SvValue }) : SvAsdu })
  pubSend s p cls signoff (.sv p n (smpSynchNow s) asdus)

/-- A cell-link command frame becomes ready for its stroke (R178, R354). -/
def cellShow (s : State) (p n : Nat) (words : List Word) (ind : Bool) : State :=
  let l := 16 * (p / 32) + pubDest s p % 16
  let c := s.cell l
  s.setCell l { c with ready := (c.ready.filter (fun r => decide (n < r.stroke + 4))) ++
    [{ stroke := n, words := (words.take 12).map (fun w => getField w 0 16), blk := getField (words.getD 12 0) 0 1 = 1
       ind := ind, readyAt := s.devTime }] }

/-- A stroke of a publication is shown by a result or, without words, by its function's policy (R336, R337, R340). -/
def pubShow (s : State) (p n ipol : Nat) (crit : Bool) (res : Option (List Word)) : State :=
  let f := p / 32
  let k := p % 32
  let x := s.pub p
  if n < x.shown then s
  else
    let o := openAt s (pubDom s p) n
    let words := match res with
      | some ws => (List.range (pubUses s p)).map (fun i => ws.getD (pubObase s p + i) 0)
      | none => policyWords s p ipol o
    let s := if res.isNone then s.bump (F.PUB_NIND p) else s
    let left := s.isSet (F.PUB_SOA_48 f k)
    let s := (s.wrb (F.PUB_PIND_48 f k) res.isNone).wr (F.PUB_SOA_48 f k) 0
    let s := s.setPub p { x with prev := some words, shown := n, first := false }
    let cls := if crit then 0 else 1
    if pubType s p = 1 then gooseShow s p words o false left cls
    else if pubType s p = 2 then svShow s p n words false cls
    else cellShow s p n words res.isNone

/-- Whether the function that targets a publication is critical. -/
def pubCrit (s : State) (p : Nat) : Bool :=
  decide ((s.pub p).owner ≠ 0) && (s.fn ((s.pub p).owner - 1)).desc.crit

/-- A publication enters its sign-off state (R342, R359). -/
def pubEnter (s : State) (p : Nat) : State :=
  let f := p / 32
  if s.isSet (F.PUB_SOA_48 f (p % 32)) then s
  else
    let s := s.setPub p { s.pub p with first := pubCrit s p }
    (s.wr (F.PUB_SOA_48 f (p % 32)) 1).setBit (F.PUB_ESOFF f) (p % 32)

/-- The class of a sign-off frame: critical for the first one of a critical function's target (R346). -/
def signoffClass (s : State) (p : Nat) : Nat := if (s.pub p).first then 0 else 1

/-- The sign-off state of a publication as stroke `n` shows it; `stroke` is whether a stroke opens (R343). -/
def pubSignoff (s : State) (p n : Nat) (stroke : Bool) : State :=
  let o := openAt s (pubDom s p) n
  let soff := pubSoff s p o
  let cls := signoffClass s p
  let done (s : State) : State := s.setPub p { s.pub p with first := false }
  if pubType s p = 1 then
    if soff = 2 then gooseStop s p
    else if soff = 0 then s
    else done (gooseShow s p (shownImage s p (pubSbase s p o) o) o true false cls)
  else if pubType s p = 2 ∧ stroke = true then
    if soff = 2 then s
    else
      let ws := if soff = 0 then (prevWords s p o).map svQuestionable else shownImage s p (pubSbase s p o) o
      done (svShow s p n ws true cls)
  else s

/-- Whether a lane can carry command frames (R178): it is up, or in fault with CFR 6. -/
def cellSends (s : State) (l : Nat) : Bool :=
  let b := portBlock l
  decide (s.rd (F.LNK_LST b) = 4) || (decide (s.rd (F.LNK_LST b) = 5) && decide (s.rd (F.CEL_CFR b) = 6))

/-- Condition 3 of R341 for a publication: the ferrule of its lanes is not in RUN. -/
def pubFerOff (s : State) (p : Nat) : Bool := decide (pubDest s p < 0x40) && !ferRun s (p / 32)

/-- The publications that exist. -/
def livePubs (s : State) : List Nat := filterBelow 2048 (fun p => s.rd (F.PUB_PSTATE_48 (p / 32) (p % 32)) ≠ 0)

/-- The stroke that a domain is in. -/
def curStroke (s : State) (d : Nat) : Nat := s.rd (F.DOM_CUR d)

/-- The last stroke of a domain that has opened, counting one that opens at this instant (R342, R349). -/
def openedStroke (s : State) (d : Nat) : Nat :=
  if s.isSet (F.DOM_RUN d) ∧ openAt s d (nextOpen s d) ≤ s.devTime then nextOpen s d else curStroke s d

/-- A publication enters sign-off between strokes: a reset, a change of power, ARMED (R342). -/
def pubSignoffNow (s : State) (p : Nat) : State :=
  if s.isSet (F.PUB_SOA_48 (p / 32) (p % 32)) then s
  else pubSignoff (pubEnter s p) p (openedStroke s (pubDom s p)) false

/-- GOOSE_RETRANSMIT (R349, R350): the next frame of the curve leaves at its scheduled device time. -/
def execGooseRetransmit (t pub : Nat) (s : State) : Out :=
  let s := s.tick t
  let x := s.pub pub
  .next (if x.live ∧ x.t1 + gooseDelay s pub (x.step + 1) ≤ s.devTime then
    let s := s.wr (F.PUB_SQNUM pub) (incNum (s.rd (F.PUB_SQNUM pub)))
    let s := s.setPub pub { x with step := x.step + 1 }
    gooseFrame (setNext s pub) pub 1
  else s)

/-- The content octets of an integer in its shortest form. -/
def berLen (v : Nat) : Nat := (findBelow (fun n => decide (0 < n) && decide (v < 2 ^ (8 * n - 1))) 9).getD 9

/-- The octets of an element: tag, length and content (IEC 61850-8-1, 9-2). -/
def tlvLen (n : Nat) : Nat := 1 + (if n < 128 then 1 else if n < 256 then 2 else 3) + n

/-- The greatest length of a member by type, content octets (R348). -/
def memberLen (ty : Nat) : Nat :=
  tlvLen (if ty = 0 then 1 else if ty = 1 then 2 else if ty = 2 then 4 else if ty = 3 then 5 else if ty = 4 then 5
    else if ty = 5 then 3 else 8)

/-- The length, from destination MAC to FCS, of a frame with an APDU (R333); `key` and `red` add the authentication
extension and a redundancy trailer or tag. -/
def frameLen (apdu : Nat) (tag key red : Bool) : Nat :=
  max 64 (12 + (if tag then 4 else 0) + 2 + 8 + apdu + (if key then Config.authExtLen else 0) + (if red then 6 else 0) + 4)

/-- The longest APDU of a GOOSE publication. -/
def gooseLen (strs : List (List Nat)) (types : List Nat) (confRev tmax : Nat) : Nat :=
  tlvLen ((strs.map (fun x => tlvLen x.length)).sum + tlvLen (berLen (2 * tmax)) + tlvLen 8 + tlvLen 5 + tlvLen 5 +
    tlvLen 1 + tlvLen (berLen confRev) + tlvLen 1 + tlvLen (berLen types.length) + tlvLen ((types.map memberLen).sum))

/-- The APDU of an SV publication. -/
def svLen (strs : List (List Nat)) (k nval rate : Nat) : Nat :=
  let ds := (strs.getD 1 []).length
  let asdu := tlvLen (tlvLen (strs.getD 0 []).length + (if ds = 0 then 0 else tlvLen ds) + tlvLen 2 + tlvLen 4 + tlvLen 1 +
    tlvLen (if rate < 2 ^ 16 then 2 else 3) + tlvLen (8 * nval))
  tlvLen (tlvLen 1 + tlvLen (k * asdu))

/-- The fields of the arguments of a CREATE, beside the member types. -/
structure PubArgs where
  a0 : Nat
  a1 : Nat
  a2 : Nat
  a3 : Nat
  types : List Nat

/-- The arguments on a PUB page (R334). -/
def pubArgs (s : State) (f : Nat) : PubArgs :=
  let w (k : Nat) : Word := s.word (pubPage f * 512 + k)
  let n := getField (w 10) 17 7
  { a0 := getField (w 10) 0 33, a1 := getField (w 11) 0 64, a2 := getField (w 12) 0 62, a3 := getField (w 13) 0 26
    types := if getField (w 10) 0 2 = 1 then (List.range n).map (fun m => getField (w (14 + m / 24)) (3 * (m % 24)) 3) else [] }

/-- The longest frame of a publication with some arguments; none when the template does not hold its strings. -/
def argsLen (s : State) (f : Nat) (a : PubArgs) : Option Nat :=
  let ty := bitsOf a.a0 0 2
  let oct := templateOctets s f (bitsOf a.a2 48 7) (bitsOf a.a2 55 7)
  let dest := bitsOf a.a0 2 7
  let red := decide (2 ≤ (destPorts f dest).length)
  if oct.length < 6 then none
  else (templateStrings (if ty = 1 then 3 else 2) (oct.drop 6)).map (fun strs =>
    let apdu := if ty = 1 then gooseLen strs a.types (bitsOf a.a2 16 32) (bitsOf a.a3 10 16)
      else svLen strs (strokeSamples s (bitsOf a.a0 9 2) (svRate (bitsOf a.a0 30 3))) (bitsOf a.a0 17 7) (svRate (bitsOf a.a0 30 3))
    frameLen apdu (bitsOf a.a1 48 1 = 1) (bitsOf a.a0 11 5 ≠ 0x1F) red)

/-- DEST is valid and suited to TYPE (R333 reason 02h). -/
def destOk (s : State) (f ty dest : Nat) : Bool :=
  let lane := decide (dest < 0x10)
  let pair := decide (0x20 ≤ dest) && decide (dest < 0x28)
  let upl := decide (0x40 ≤ dest) && decide (dest < 0x48)
  let uplPair := decide (0x60 ≤ dest) && decide (dest < 0x64)
  let mode (p : Nat) : Nat := s.rd (F.LNK_MODE (portBlock p))
  let ports := destPorts f dest
  decide (1 ≤ ty) && decide (ty ≤ 3) && (lane || pair || upl || uplPair) &&
  (if ty = 3 then lane && decide (mode (16 * f + dest) = 4 ∨ mode (16 * f + dest) = 5) &&
      !((livePubs s).any (fun p => p / 32 = f && pubType s p = 3 && pubDest s p = dest))
    else if lane || pair then ports.all (fun p => decide (1 ≤ mode p) && decide (mode p ≤ 3)) else true) &&
  (if lane || upl then ports.all (fun p => (lane && decide (portPairMode s p = 0)) || upl)
    else ports.all (fun p => decide (portPairMode s p ≠ 0)))

/-- Whether the anchor and period of a domain suit an SV rate (R352). -/
def svCompatible (s : State) (d r : Nat) : Bool :=
  let k := domPeriod s d * r
  k % 1000000000 == 0 && decide (1 ≤ k / 1000000000) && decide (k / 1000000000 ≤ 8) &&
  (domAnchor s d % 1000000000 * r) % 1000000000 == 0

/-- Publications that the gateway of a point builds (R332). -/
def builderCount (s : State) (point : Nat) : Nat :=
  ((livePubs s).filter (fun p => destPoint p (pubDest s p) = point)).length

/-- The refusal reason of a CREATE; 0 when it is performed (R333). -/
def pubRefusal (s : State) (f init : Nat) (free : Option Nat) (a : PubArgs) : Nat :=
  let ten := initTenant s init
  let ty := bitsOf a.a0 0 2
  let dest := bitsOf a.a0 2 7
  let d := bitsOf a.a0 9 2
  let kp := bitsOf a.a0 11 5
  let nval := bitsOf a.a0 17 7
  let obase := bitsOf a.a0 24 6
  let code := bitsOf a.a0 30 3
  let k := strokeSamples s d (svRate code)
  let kOk := (domPeriod s d * svRate code) % 1000000000 == 0 && decide (1 ≤ k) && decide (k ≤ 8)
  let uses := if ty = 1 then nval else if ty = 2 then k * nval else 13
  let maxLen := (destPorts f dest).foldl (fun n p => min n (s.rd (F.LNK_MAXLEN (portBlock p)))) 2047
  let len := argsLen s f a
  let bad3 := (ty = 1 ∧ (nval < 1 ∨ 64 < nval)) ∨ (ty = 2 ∧ (nval < 1 ∨ 32 < nval ∨ 5 < code)) ∨ 64 < obase + uses ∨
    a.types.contains 7 = true ∨
    (ty ≠ 3 ∧ (128 < bitsOf a.a2 48 7 + bitsOf a.a2 55 7 ∨ len.isNone = true ∨
      ((ty = 1 ∨ kOk = true) ∧ maxLen < len.getD 0)))
  if s.rd (F.TEN_TSTATE ten) ≠ 1 then 9
  else if free.isNone then 1
  else if destOk s f ty dest = false then 2
  else if bad3 then 3
  else if domPeriod s d = 0 ∨ (ty = 2 ∧ svCompatible s d (svRate code) = false) ∨
      (ty = 3 ∧ domPeriod s d ≤ bitsOf a.a3 0 20) then 4
  else if kp ≠ 0x1F ∧ (3 < kp ∨ s.rd (F.KEY_KOWN (pubKey f kp)) ≠ ten ∨ ty = 3) then 5
  else if 0x40 ≤ dest ∧ 64 ≤ builderCount s (destPoint (32 * f) dest) then 6
  else if ty = 1 ∧ (bitsOf a.a3 0 10 < 1 ∨ 1000 < bitsOf a.a3 0 10 ∨ bitsOf a.a3 10 16 < 1 ∨ 60000 < bitsOf a.a3 10 16 ∨
      bitsOf a.a3 10 16 * 10 < bitsOf a.a3 0 10) then 7
  else 0

/-- A publication is created in a slot (R333, R359): it is in its sign-off state. -/
def pubMake (s : State) (p ten : Nat) (a : PubArgs) : State :=
  let f := p / 32
  let k := p % 32
  let s := (((s.wr (F.PUB_A0 p) a.a0).wr (F.PUB_A1 p) a.a1).wr (F.PUB_A2 p) a.a2).wr (F.PUB_A3 p) a.a3
  let s := ((s.wr (F.PUB_OWNER p) ten).wr (F.PUB_PSTATE_18 p) 1).wr (F.PUB_PSTATE_48 f k) 1
  let s := ((s.wr (F.PUB_TYPE_48 f k) (bitsOf a.a0 0 2)).wr (F.PUB_SOA_48 f k) 1).wr (F.PUB_PIND_48 f k) 0
  let s := s.setWord ((0x2000 + p) * 512 + 24) 0
  (((s.wr (F.PUB_STNUM p) 0).wr (F.PUB_SQNUM p) 0).wr (F.PUB_NEXT p) 0).setPub p { types := a.types }

/-- The kind and range of a PUB page's handles (R331). -/
def pubHandles : HandleSpec := { kind := 2, count := 2048, slot := fun i => i }

/-- Whether an index is of a publication that exists on a ferrule's page. -/
def pubHere (s : State) (f i : Nat) : Bool := decide (i / 32 = f) && decide (s.rd (F.PUB_PSTATE_48 f (i % 32)) ≠ 0)

/-- PUB_CREATE (R331, R333, R334). -/
def pubCreate (s : State) (init ferrule seq handle : Nat) : State :=
  let page := pubPage ferrule
  match s.doorbell page seq 1 handle (fun _ => if handle ≠ 0 then some 4 else none) with
    | (s, false) => s
    | (s, true) =>
      let a := pubArgs s ferrule
      let free := findBelow (fun k => s.rd (F.PUB_PSTATE_48 ferrule k) = 0) 32
      let r := pubRefusal s ferrule init free a
      if r ≠ 0 then s.complete page 1 r 0
      else
        let p := 32 * ferrule + free.getD 0
        (pubMake s p (initTenant s init) a).complete page 0 0 (s.handle 2 p p)

/-- The command, as a write of CMD. -/
def execPubCreate (t init ferrule seq handle : Nat) (s : State) : Out :=
  .next ((s.tick t).gatedCmd init (pubPage ferrule) seq 1 handle (fun s => pubCreate s init ferrule seq handle))

/-- A publication is freed and its generation advances (R333). -/
def pubFree (s : State) (p : Nat) : State :=
  let f := p / 32
  let k := p % 32
  let s := forEach [18, 19, 20, 21, 22, 23, 24] s (fun s w => s.setWord ((0x2000 + p) * 512 + w) 0)
  let s := (s.setWord (pubPage f * 512 + 48 + k) 0).setPub p {}
  s.bumpGen 2 p

/-- PUB_DESTROY (R331, R333, R528). -/
def pubDestroy (s : State) (init ferrule seq handle : Nat) : State :=
  let page := pubPage ferrule
  match s.doorbell page seq 2 handle (fun s =>
      match handleCheck s pubHandles handle (fun i => s.rd (F.PUB_OWNER i) = initTenant s init) with
      | some r => some r
      | none => if pubHere s ferrule (handle % 2 ^ 20) ∧ s.rd (F.TEN_TSTATE (s.rd (F.PUB_OWNER (handle % 2 ^ 20)))) ≠ 3 then none
          else some 7) with
    | (s, false) => s
    | (s, true) =>
      let p := handle % 2 ^ 20
      if s.rd (F.PUB_PSTATE_18 p) = 2 then s.complete page 1 8 0
      else (pubFree s p).complete page 0 0 0

/-- The command, as a write of CMD. -/
def execPubDestroy (t init ferrule seq handle : Nat) (s : State) : Out :=
  .next ((s.tick t).gatedCmd init (pubPage ferrule) seq 2 handle (fun s => pubDestroy s init ferrule seq handle))

end Sys2Proof.Machine
end

