-- ==== Sys2Proof/Machine/Lanes.lean ====
section
/-! DEFINITION. Lanes and uplinks as lines (R124 to R127, R144 to R153, R171): their state, configuration, pairs, measuring,
PTP on the lanes, and the transmit scheduler.
Decisions: log entries 29 (DEDUCED), 83 (DEDUCED), 88 (DEDUCED). -/

namespace Sys2Proof.Machine
open Sys2Proof

/-- The port whose block a page and a block number name (R124, R156). -/
def portAt (page block : Nat) : Option Nat :=
  if 0x100 ≤ page ∧ page ≤ 0x1FF ∧ page % 4 = 1 ∧ block < 16 then some (16 * ((page - 0x101) / 4) + block)
  else if 0x280 ≤ page ∧ page ≤ 0x287 then some (1024 + (page - 0x280))
  else if page = 0x28C ∨ page = 0x28D then some (1032 + (page - 0x28C)) else none

/-- The line mode and enable of a port. -/
def portMode (s : State) (p : Nat) : Nat := s.rd (F.LNK_MODE (portBlock p))
def portEn (s : State) (p : Nat) : Bool := s.isSet (F.LNK_EN (portBlock p))
def portLst (s : State) (p : Nat) : Nat := s.rd (F.LNK_LST (portBlock p))

/-- A port in a cell-link mode, and one in an Ethernet mode (R125, R153). -/
def isCell (s : State) (p : Nat) : Bool := decide (portMode s p = 4) || decide (portMode s p = 5)
def isEthernet (s : State) (p : Nat) : Bool :=
  decide (portMode s p ≠ 0) && !isCell s p

/-- The logic of a port runs: the ferrule of a lane in RUN; an uplink or management port outside a chip reset, an uplink
also with its power domain ON (R152, R634). -/
def portActive (s : State) (p : Nat) : Bool := if p < 1024 then ferRun s (p / 16) else portSends s p

/-- A bit of a lane's event word (R158); uplinks have none. -/
def lnkEvent (s : State) (p : Nat) (f : Nat → Fld) : State := if p < 1024 then s.setBit (f (p / 16)) (p % 16) else s

/-- The learned partner fields are released: PV 0 and every field 0 (R150); a change is an event. -/
def unlearn (s : State) (p : Nat) : State :=
  let b := portBlock p
  let s := if s.word (b + 4) ≠ 0 ∨ s.word (b + 5) ≠ 0 then lnkEvent s p F.LNK_PCHG else s
  ((s.setWord (b + 4) 0).setWord (b + 5) 0).setPort p { s.port p with lastSmp := none }

/-- The lane is in cell-link exchange (R172): a capability phase starts. -/
def startExchange (s : State) (l : Nat) : State :=
  let c := s.cell l
  s.setCell l { c with
    enteredAt := s.now, gotCap := false, cellSeen := false, echoing := false, echoIdx := 0, echoSum := 0, echoOut := none
    capAt := 0 }

/-- LST takes a value (R146, R147, R149, R150, R159, R171): LCHG, LDOWN, and what ends with the link. -/
def setLst (s : State) (p v : Nat) : State :=
  let b := portBlock p
  let old := s.rd (F.LNK_LST b)
  if old = v then s
  else
    let s := lnkEvent (s.wr (F.LNK_LST b) v) p F.LNK_LCHG
    let s := if old = 4 then s.bump (F.LNK_LDOWN b) else s
    let s := if v < 3 ∨ (isCell s p = false ∧ v ≠ 4) then
        (((s.wr (F.LNK_EYEV b) 0).wr (F.LNK_LOSSV b) 0).wr (F.LNK_PDV b) 0).setPort p { s.port p with pdelay := none }
      else s
    let s := if isCell s p then (if v < 3 then (unlearn s p).wr (F.LNK_RTTV b) 0 else if v = 3 then startExchange s p else s)
      else if old = 4 then unlearn s p else s
    if 1024 ≤ p ∧ p < 1032 ∧ old = 4 then timUplinkDown s (p - 1024) else s

/-- The state that follows synchronisation: negotiation under clause 37, exchange on a cell link, otherwise up (R125,
R171). -/
def afterSync (s : State) (p : Nat) : Nat :=
  if isCell s p then 3
  else if portMode s p = 2 ∧ s.isSet (F.LNK_AN (portBlock p)) = true then 3 else 4

/-- SIG shows the signal at a receiver that is on: with MODE 0h it is off (R125, R146). -/
def showSig (s : State) (p : Nat) : State :=
  if portActive s p then s.wrb (F.LNK_SIG (portBlock p)) ((s.port p).sig && decide (portMode s p ≠ 0)) else s

/-- The state that the signal and the synchronisation give an enabled port. -/
def evalLink (s : State) (p : Nat) : State :=
  if !portEn s p || decide (portMode s p = 0) then s
  else if !(s.port p).sig then setLst s p 1
  else if !(s.port p).pcs then setLst s p 2
  else if portLst s p < 3 then setLst (if portLst s p < 2 then s.wr (F.LNK_LST (portBlock p)) 2 else s) p (afterSync s p)
  else s

/-- A placed publication transmits on a port (R126). -/
def placedOn (s : State) (p : Nat) : Bool :=
  decide (p < 1024) && (List.range 32).any (fun k =>
    let q := 32 * (p / 16) + k
    decide (s.rd (F.PUB_PSTATE_48 (p / 16) k) = 2) && (pubPorts s q).contains p)

/-- Whether MODE and FEC of a written LCFG word suit the port (R125, R153). -/
def modeFecOk (p mode fec : Nat) : Bool :=
  if p < 1024 then decide (mode ≤ 5) && decide (fec = 0)
  else if p < 1032 then (decide (mode = 0) && decide (fec = 0)) || (decide (mode = 6) && decide (fec ≤ 1)) ||
    (decide (mode = 7) && decide (fec ≤ 2))
  else (decide (mode = 0) || decide (mode = 2)) && decide (fec = 0)

/-- Whether a written LCFG word is an ignored sequence (R125, R126, R132, R135, R153, R159). -/
def lcfgBad (s : State) (p : Nat) (value : Word) : Bool :=
  let en := getField value 0 1 = 1
  let mode := getField value 1 4
  let maxlen := getField value 8 11
  let oldEn := portEn s p
  let oldMode := portMode s p
  !modeFecOk p mode (getField value 24 2) || decide (getField value 6 2 = 3) || decide (maxlen < 64) || decide (2000 < maxlen) ||
  decide (4 < getField value 20 3) || (oldEn && decide (mode ≠ oldMode)) ||
  ((decide (en ≠ (oldEn = true)) || decide (mode ≠ oldMode)) && placedOn s p) ||
  (decide en && !oldEn && decide (portPairMode s p ≠ 0) &&
    (decide (portMode s (partner p) ≠ mode) || decide (mode = 4) || decide (mode = 5)))

/-- The effect of a write of an LCFG word (R126). -/
def laneConfigWrite (s : State) (p : Nat) (value : Word) : State :=
  if lcfgBad s p value then s.ignored (portPage p) (portOff p) 7
  else
    let b := portBlock p
    let was := portEn s p
    let value := if 1024 ≤ p then putField value 19 1 0 else value
    let s := showSig (s.writeRW (portPage p) (portOff p) value) p
    let en := portEn s p
    let s := if !was && en then
        evalLink (setLst (s.setPort p { s.port p with driving := decide (portMode s p ≠ 0), stopping := false, pcs := false }) p 1) p
      else if was && !en then
        unlearn (setLst (s.setPort p { s.port p with stopping := true }) p 0) p
      else s
    let s := if was && !en then s.wr (F.LNK_RFLT b) 0 else s
    if 1024 ≤ p ∧ p < 1032 then timUplinkMode s (p - 1024) else s

/-- LANE_CONFIG_WRITE (R126, R153). -/
def execLaneConfigWrite (t init page block : Nat) (value : Word) (s : State) : Out :=
  let s := s.tick t
  .next (match portAt page block with
    | some p => s.gated init page (portOff p) value (fun s => laneConfigWrite s p value)
    | none => s)

/-- LANE_TX_IDLE_AFTER_FRAME (R126): the frame in progress has ended on a port that was disabled. -/
def execLaneTxIdleAfterFrame (t lane : Nat) (s : State) : Out :=
  let s := s.tick t
  .next (if (s.port lane).stopping then s.setPort lane { s.port lane with stopping := false, driving := false, txq := [] } else s)

/-- The effect of a write of a PAIRCFG word (R135, R138). -/
def pairConfigWrite (s : State) (page : Nat) (value : Word) : State :=
  let lanes := decide (page < 0x280)
  let n := if lanes then 8 else 1
  let port (j : Nat) : Nat := if lanes then 16 * ((page - 0x101) / 4) + 2 * j else 1024 + 2 * (page - 0x288)
  let pr (j : Nat) : Nat := if lanes then 8 * ((page - 0x101) / 4) + j else 512 + (page - 0x288)
  let ddft := getField value 16 10
  let bad := decide (ddft < 1) || decide (1000 < ddft) || (List.range n).any (fun j =>
    let m := getField value (2 * j) 2
    decide (m = 3) || (decide (m ≠ s.rd (fPairMode (pr j))) && (portEn s (port j) || portEn s (port j + 1))))
  if bad then s.ignored page 8 7
  else forEach (List.range n) (s.writeRW page 8 value) (fun s j => setWindow s (pr j) (windowLive s (pr j)))

/-- PAIR_CONFIG_WRITE (R135, R138). -/
def execPairConfigWrite (t init page : Nat) (value : Word) (s : State) : Out :=
  let s := s.tick t
  .next (if (0x100 ≤ page ∧ page ≤ 0x1FF ∧ page % 4 = 1) ∨ (0x288 ≤ page ∧ page ≤ 0x28B) then
      s.gated init page 8 value (fun s => pairConfigWrite s page value)
    else s)

/-- DUP_ENTRY_EXPIRE (R138). -/
def execDupEntryExpire (t pair smac seq : Nat) (s : State) : Out :=
  let s := s.tick t
  .next (setWindow s pair ((tget s.pairs pair).window.filter (fun e => !(decide (e.1 = smac) && decide (e.2.1 = seq) &&
    decide (e.2.2 + s.rd (fPairDdft pair) * 1000000 ≤ s.now)))))

/-- LANE_SIGNAL_LOSS (R146, R171). -/
def execLaneSignalLoss (t lane : Nat) (s : State) : Out :=
  let s := s.tick t
  let x := s.port lane
  let s := s.setPort lane { x with sig := false, pcs := false }
  .next (if portActive s lane && s.isSet (F.LNK_SIG (portBlock lane)) then
    let b := portBlock lane
    let s := s.wr (F.LNK_SIG b) 0
    if portEn s lane then
      let s := lnkEvent (s.bump (F.LNK_SIGLOSS b)) lane F.LNK_SLOSS
      let s := s.pageErr (portPage lane) 0x11 (portOff lane + 1) (lane % 16)
      setLst s lane 1
    else s
  else s)

/-- LANE_SIGNAL_DETECT (R146, R171). -/
def execLaneSignalDetect (t lane : Nat) (s : State) : Out :=
  let s := s.tick t
  let s := s.setPort lane { s.port lane with sig := true }
  .next (if portActive s lane then evalLink (showSig s lane) lane else s)

/-- LANE_PCS_SYNC (R171). -/
def execLanePcsSync (t lane : Nat) (s : State) : Out :=
  let s := s.tick t
  let x := s.port lane
  .next (if x.sig && portEn s lane then
    let s := s.setPort lane { x with pcs := true }
    if portActive s lane then evalLink s lane else s
  else s)

/-- LANE_PCS_SYNC_LOSS (R171): every state but 0 and 1 goes to 2. -/
def execLanePcsSyncLoss (t lane : Nat) (s : State) : Out :=
  let s := s.tick t
  let s := s.setPort lane { s.port lane with pcs := false }
  .next (if portActive s lane ∧ 2 < portLst s lane then setLst s lane 2 else s)

/-- LANE_AUTONEG_COMPLETE (R127): a partner without full duplex leaves the lane in LST 5. -/
def execLaneAutonegComplete (t lane : Nat) (fullDuplex remoteFault : Bool) (s : State) : Out :=
  let s := s.tick t
  let b := portBlock lane
  .next (if portActive s lane && decide (portMode s lane = 2) && s.isSet (F.LNK_AN b) && decide (3 ≤ portLst s lane) then
    (setLst s lane (if fullDuplex then 4 else 5)).wrb (F.LNK_RFLT b) remoteFault
  else s)

/-- LANE_EYE_REPORT (R147): in modes 2h to 5h, while the link is up. -/
def execLaneEyeReport (t lane eyeh eyew loss : Nat) (s : State) : Out :=
  let s := s.tick t
  let b := portBlock lane
  let m := portMode s lane
  .next (if portActive s lane && decide (2 ≤ m) && decide (m ≤ 5) && (decide (portLst s lane = 4) ||
      (isCell s lane && decide (portLst s lane = 5))) then
    (((((s.wr (F.LNK_EYEH b) eyeh).wr (F.LNK_EYEW b) eyew).wr (F.LNK_LOSS b) loss).wr (F.LNK_EYEV b) 1).wr (F.LNK_LOSSV b) 1)
  else s)

/-- PARTNER_RELEARN (R150): a write of 1 to RELRN in an Ethernet mode. -/
def execPartnerRelearn (t init lane : Nat) (s : State) : Out :=
  let s := s.tick t
  .next (if lane < 1024 ∧ isCell s lane = false then
      s.gated init (portPage lane) (portOff lane + 5) (1#72 <<< 48) (fun s => unlearn s lane)
    else s)

/-- PTP leaves a lane: the lane is enabled in a mode that carries PTP, and its ferrule is in RUN (R117, R152). -/
def ptpLane (s : State) (l : Nat) : Bool :=
  decide (l < 1024) && portEn s l && decide (1 ≤ portMode s l) && decide (portMode s l ≤ 3) && ferRun s (l / 16)

/-- The next PTP sequence number of a lane. -/
def ptpSeqNext (s : State) (l : Nat) : Nat × State :=
  let n := tget s.tim.ptpSeq l
  (n, { s with tim := { s.tim with ptpSeq := tset s.tim.ptpSeq l ((n + 1) % 2 ^ 16) } })

/-- A PTP frame joins its lane's scheduler (R144). -/
def ptpSend (s : State) (l : Nat) (body : TxBody) : State :=
  enqueue s l { cls := 2, signoff := false, red := .none, keyId := none, body := body }

/-- PTP_MASTER_SYNC_TX (R117): a Sync each 2^-k s on a lane with PTPM 1. -/
def execPtpMasterSyncTx (t lane : Nat) (s : State) : Out :=
  let s := s.tick t
  let last := tget s.tim.lastSyncTx lane
  let due := decide (last = 0) || decide (last - 1 + 1000000000 / 2 ^ s.rd (F.LNK_SYNCI (portBlock lane)) ≤ s.now)
  .next (if ptpLane s lane && s.isSet (F.LNK_PTPM (portBlock lane)) && due then
    let (n, s) := ptpSeqNext s lane
    ptpSend { s with tim := { s.tim with lastSyncTx := tset s.tim.lastSyncTx lane (s.now + 1) } } lane (.ptpSync n)
  else s)

/-- The Announce that the device sends as master (R118). -/
def masterAnnounce (s : State) : PtpAnnounce × Option Nat :=
  let c := s.rd F.TIM_SRC
  let q := s.rd F.TIM_QSTATE
  let j := if c = 2 then 1 else 0
  let x := s.src c
  let up := decide (q = 1) && (decide (c = 1) || decide (c = 2))
  let cls := if q = 1 then 6 else if q = 2 then 7 else if q = 3 then 52 else 248
  let msg : PtpAnnounce := {
    domain := s.rd (F.TIM_DOMAIN j), ptpTimescale := true
    clockClass := if up then s.rd (F.TIM_CLASS j) else cls
    gmId := if up then x.gmId else s.rd F.DEV_UID
    stepsRemoved := if up then x.steps + 1 else 0
    priority1 := if up then x.prio1 else Config.ownPriority1, priority2 := if up then x.prio2 else Config.ownPriority2
    accuracy := if up then x.accuracy else Config.ownAccuracy
    inaccuracy := if up then x.inaccuracy + 50 else s.errestNow
    utcValid := s.isSet F.TIM_LSRC, utcOffset := signedOf (s.rd F.TIM_UTCOFS) 16, leap := s.isSet F.TIM_LEAPP
    slave := false, interval := 1000000000 }
  (msg, if s.isSet (F.TIM_PROF j) then some msg.inaccuracy else none)

/-- PTP_MASTER_ANNOUNCE_TX (R117, R118): an Announce every 1 s on a lane with PTPM 1. -/
def execPtpMasterAnnounceTx (t lane : Nat) (s : State) : Out :=
  let s := s.tick t
  let last := tget s.tim.lastAnnTx lane
  .next (if ptpLane s lane && s.isSet (F.LNK_PTPM (portBlock lane)) && (decide (last = 0) || decide (last - 1 + 1000000000 ≤ s.now)) then
    let (n, s) := ptpSeqNext s lane
    let (msg, tlv) := masterAnnounce s
    ptpSend { s with tim := { s.tim with lastAnnTx := tset s.tim.lastAnnTx lane (s.now + 1) } } lane (.ptpAnnounce n msg tlv)
  else s)

/-- PTP_PDELAY_REQ_RX (R114, R117): answered on every enabled lane, with a two-step response. -/
def execPtpPdelayReqRx (t lane seq stamp : Nat) (s : State) : Out :=
  let s := s.tick t
  .next (if ptpLane s lane && decide (portLst s lane = 4) then ptpSend s lane (.pdelayResp seq stamp) else s)

/-- PDELAY_MEASURE_TX (R149): a Pdelay_Req every 1 s on a lane with PTPM 1. -/
def execPdelayMeasureTx (t lane : Nat) (s : State) : Out :=
  let s := s.tick t
  let last := tget s.tim.lastPdelayTx lane
  .next (if ptpLane s lane && s.isSet (F.LNK_PTPM (portBlock lane)) && (decide (last = 0) || decide (last - 1 + 1000000000 ≤ s.now)) then
    let (n, s) := ptpSeqNext s lane
    ptpSend { s with tim := { s.tim with lastPdelayTx := tset s.tim.lastPdelayTx lane (s.now + 1) } } lane (.pdelayReq n)
  else s)

/-- PTP_PDELAY_RESP_RX (R149): the response and its follow-up complete a measurement. -/
def execPtpPdelayRespRx (t lane seq t2 t3 t4 : Nat) (s : State) : Out :=
  let s := s.tick t
  .next (match (s.port lane).pdelay with
    | some (q, t1) =>
      if q = seq ∧ ptpLane s lane = true ∧ portLst s lane = 4 then
        let d : Int := (((t4 : Int) - (t1 : Int)) - ((t3 : Int) - (t2 : Int))) / 2
        let b := portBlock lane
        ((s.setPort lane { s.port lane with pdelay := none }).wr (F.LNK_PDLY b)
          (if d < 0 then 0 else min d.toNat 0xFFFF)).wr (F.LNK_PDV b) 1
      else s
    | none => s)

/-- The rank of a class at a frame boundary (R144, R514, R592): critical, duplex, ordinary, queue pairs behind them, PTP,
forwarded. -/
def classRank (c : Nat) : Nat := if c = 0 then 0 else if c = 5 then 1 else if c = 1 then 2 else if c = 4 then 3 else if c = 2 then 4 else 5

/-- The frame that leaves at a frame boundary: the first ready of the best class. -/
def nextFrame (q : List TxFrame) : Option TxFrame :=
  q.foldl (fun (b : Option TxFrame) x => match b with
    | some y => if classRank x.cls < classRank y.cls then some x else b
    | none => some x) none

/-- A list without its first element equal to one. -/
def dropOne (q : List TxFrame) (x : TxFrame) : List TxFrame :=
  q.takeWhile (fun y => y ≠ x) ++ (q.dropWhile (fun y => y ≠ x)).drop 1

/-- The source MAC of a frame that a pair sends for itself. -/
def ownSmac (s : State) (body : TxBody) : Nat :=
  match body with
  | .goose p _ _ _ _ _ _ => pubSmac s p
  | .sv p _ _ _ => pubSmac s p
  | .raw o => ofOctets ((o.drop 6).take 6)
  | _ => s.rd F.DPX_SMAC

/-- LANE_FRAME_TX (R137, R139, R144 to R146): at a frame boundary of an Ethernet-mode port, the frame of highest priority
leaves. -/
def execLaneFrameTx (t lane : Nat) (s : State) : Out :=
  let s := s.tick t
  let x := s.port lane
  .next (if !portEn s lane || !isEthernet s lane || !portSends s lane then s
  else match nextFrame x.txq with
    | none => s
    | some f =>
      let b := portBlock lane
      let q := dropOne x.txq f
      let f : TxFrame := match f.body with
        | .dpxStatus v m => { f with body := .dpxStatus v { m with txt := timeWord s.devTime } }
        | _ => f
      let y : Port := { x with txq := q, sent := some f, sentAt := s.now }
      let s := s.setPort lane (match f.body with
        | .pdelayReq n => { y with pdelay := some (n, s.devTime) }
        | _ => y)
      let s := if portActive s lane then
          (let s := s.bump (F.LNK_TXFRM b)
           if f.signoff then s.bump (F.LNK_TXSGN b) else s) else s
      let s := match f.body with
        | .goose p _ _ _ _ _ _ | .sv p _ _ _ => s.bump (F.PUB_FSENT p)
        | _ => s
      let s := match f.body with
        | .ptpSync n => ptpSend s lane (.ptpFollowUp n s.devTime)
        | .pdelayResp n _ => ptpSend s lane (.pdelayRespFollow n s.devTime)
        | _ => s
      match f.red, f.body, pairOf lane with
      | _, .forwarded _, _ => s
      | .hsr q, body, some pr =>
        let m := ownSmac s body
        if windowHas s pr m q then s else windowAdd s pr m q
      | _, _, _ => s)

end Sys2Proof.Machine
end

