-- ==== Sys2Proof/Machine/Mesh.lean ====
section
/-! DEFINITION. The mesh (R21, R22, R316 to R320): routes, slot tables, the slots of a flow, the latency that the ruler
proves for it, and the deadline of each egress and comparison point (R323). Latencies are in thirds of a ns, so that
they stay whole: a frame of 256 slots lasts 512 thirds, a mesh cycle 2 thirds.
Decisions: log entries 25 (DEDUCED), 42 (DEDUCED), 77 (DEDUCED). -/

namespace Sys2Proof.Machine
open Sys2Proof

/-- Hops between two ferrules (R21). -/
def hops (a b : Nat) : Nat := (a % 8 - b % 8) + (b % 8 - a % 8) + ((a / 8 - b / 8) + (b / 8 - a / 8))

/-- Hops between a ferrule and a point: an uplink gateway counts as the router beside it, plus one (R21). -/
def hopsTo (f p : Nat) : Nat := if 64 ≤ p then hops f (besideGateway (p - 64)) + 1 else hops f p

/-- Router ports out along a row of the mesh from column `c` to column `d` of row `r`, then along the column to row
`q`: columns first, then rows (R317). -/
def routeCols (c d r : Nat) : List Nat :=
  if c ≤ d then (List.range (d - c)).map (fun i => (8 * r + c + i) * 8 + 1)
  else (List.range (c - d)).map (fun i => (8 * r + c - i) * 8 + 3)

def routeRows (r q d : Nat) : List Nat :=
  if r ≤ q then (List.range (q - r)).map (fun i => (8 * (r + i) + d) * 8 + 2)
  else (List.range (r - q)).map (fun i => (8 * (r - i) + d) * 8 + 0)

/-- The links of a route between two points (R317, R318): out of a source gateway, the router ports on the way, and last
the local port of the destination, or the port into its gateway. -/
def routeLinks (src dst : Nat) : List Nat :=
  let a := if 64 ≤ src then besideGateway (src - 64) else src
  let b := if 64 ≤ dst then besideGateway (dst - 64) else dst
  (if 64 ≤ src then [576 + (src - 64)] else []) ++ routeCols (a % 8) (b % 8) (a / 8) ++
    routeRows (a / 8) (b / 8) (b % 8) ++ [if 64 ≤ dst then b * 8 + 1 else b * 8 + 4]

/-- The slots of a flow on a link: `r` data slots 16 apart from `base`, each with its spare 8 later, modulo 256; one bit
for each slot (R316, R318). -/
def slotMask (base r : Nat) : Nat :=
  (List.range r).foldl (fun m i => setBitN (setBitN m ((base + 16 * i) % 256)) ((base + 16 * i + 8) % 256)) 0

/-- The data slots alone. -/
def dataMask (base r : Nat) : Nat := (List.range r).foldl (fun m i => setBitN m ((base + 16 * i) % 256)) 0

/-- The slot offset of a flow on a link it uses. -/
def Flow.offset (fl : Flow) (link : Nat) : Option Nat := (fl.links.find? (fun e => e.1 = link)).map (fun e => e.2)

/-- The reserved slots of a link. -/
def linkMask (flows : Tbl Flow) (link : Nat) : Nat :=
  flows.foldl (fun m e => match e.2.offset link with
    | some o => m ||| slotMask (e.2.s0 + o) e.2.r
    | none => m) 0

/-- The greatest number of reserved slots of a link (R316). -/
def linkCap (link : Nat) : Nat := if link < 576 ∧ link % 8 = 4 then 128 else 224

/-- Whether a flow's slots are free on a link, within its cap (R316, R318). -/
def slotsFree (flows : Tbl Flow) (link base r : Nat) : Bool :=
  let busy := linkMask flows link
  let want := slotMask base r
  decide (busy &&& want = 0) && decide (popcount (busy ||| want) 256 ≤ linkCap link)

/-- The slot offset for one more link of a route (R318): the first link's is 0; a link that the tree already uses keeps
its own; otherwise the lowest shift of at least 11 whose slots are free. -/
def nextOffset (flows : Tbl Flow) (r s0 : Nat) (used : List (Nat × Nat)) (first : Bool) (prev link : Nat) : Option Nat :=
  match used.find? (fun e => e.1 = link) with
  | some e => some e.2
  | none =>
    if first then (if slotsFree flows link s0 r then some 0 else none)
    else ((List.range 256).find? (fun d => slotsFree flows link (s0 + prev + 11 + d) r)).map (fun d => prev + 11 + d)

/-- The links of one route added to a tree; the answer also holds the offset of the last link. -/
def addRoute (flows : Tbl Flow) (r s0 : Nat) : List Nat → Bool → Nat → List (Nat × Nat) → Option (List (Nat × Nat) × Nat)
  | [], _, prev, used => some (used, prev)
  | l :: t, first, prev, used =>
    match nextOffset flows r s0 used first prev l with
    | some o => addRoute flows r s0 t false o (if used.any (fun e => e.1 = l) then used else used ++ [(l, o)])
    | none => none

/-- The tree of a flow from a first slot, and Σ δ to each destination: the last offset plus the last link's 11 (R318,
R320). -/
def addRoutes (flows : Tbl Flow) (r s0 src : Nat) : List Nat → List (Nat × Nat) → List (Nat × Nat) →
    Option (List (Nat × Nat) × List (Nat × Nat))
  | [], used, sums => some (used, sums)
  | d :: t, used, sums =>
    match addRoute flows r s0 (routeLinks src d) true 0 used with
    | some (u, last) => addRoutes flows r s0 src t u (sums ++ [(d, last + 11)])
    | none => none

/-- A flow planned over the present slot tables: the lowest first slot for which every link has its slots (R318). None
when the slots are exhausted. -/
def planFlow (flows : Tbl Flow) (kind key twin src : Nat) (dsts : List Nat) (w : Nat) : Option Flow :=
  let r := min 16 ((w + 1) / 2)
  let ds := dsts.filter (fun d => d ≠ src)
  (List.range 256).findSome? (fun s0 =>
    (addRoutes flows r s0 src ds [] []).map (fun p =>
      { kind := kind, key := key, twin := twin, src := src, dsts := ds, w := w, r := r, s0 := s0, links := p.1, sums := p.2 }))

/-- The lowest flow number that is free. -/
def freeFlow (flows : Tbl Flow) : Nat := (findBelow (fun n => !flows.any (fun e => e.1 = n)) 8192).getD 8191

/-- A flow added under the lowest free number; a flow without destinations is none. -/
def putFlow (flows : Tbl Flow) (fl : Flow) : Tbl Flow :=
  if fl.dsts.isEmpty then flows else tset flows (freeFlow flows) fl

/-- A flow planned and added. -/
def planPut (flows : Tbl Flow) (kind key twin src : Nat) (dsts : List Nat) (w : Nat) : Option (Tbl Flow) :=
  if (dsts.filter (fun d => d ≠ src)).isEmpty then some flows
  else (planFlow flows kind key twin src dsts w).map (putFlow flows)

/-- Where a subscription's receive buffer is: its ferrule, or its uplink's gateway (R188). -/
def recvPoint (s : State) (sub : Nat) : Nat :=
  let src := bitsOf (s.rd (F.SUB_A0 sub)) 2 7
  if src < 0x40 then sub / 64 else if src < 0x60 then 64 + src % 8 else 64 + 2 * (src % 4)

/-- A flow by what it carries. -/
def findFlow (flows : Tbl Flow) (kind key twin dst : Nat) : Option (Nat × Flow) :=
  flows.find? (fun e => e.2.kind = kind && e.2.key = key && e.2.twin = twin && e.2.dsts.contains dst)

/-- L of a flow to a destination, without Tsrc, in thirds of a ns (R320). -/
def Flow.lat3 (fl : Flow) (dst : Nat) : Nat :=
  let sum := ((fl.sums.find? (fun e => e.1 = dst)).map (fun e => e.2)).getD 0
  12 + (fl.w + fl.r - 1) / max fl.r 1 * 512 + 2 * sum + 24

/-- L of a message that stays on its ferrule, without Tsrc, in thirds of a ns (R320). -/
def localLat3 : Nat := 60

/-- Thirds of a ns rounded up to steps of 10 ns, in ns. -/
def up10 (t3 : Nat) : Nat := (t3 + 29) / 30 * 10

/-- The functions with a placement on a ferrule, the new placements of moves included. -/
def fnsOn (s : State) (f : Nat) : List Nat :=
  (liveFns s).filter (fun i =>
    let x := s.fn i
    (isPlaced s i && x.places.any (fun q => q.2.fer = f)) ||
    (match x.move with
      | some m => (bitOf m.twins 0 && decide (m.a.fer = f)) || (bitOf m.twins 1 && decide (m.b.fer = f))
      | none => false) || (decide (s.rd (F.RUL_FST i) = 1) && x.places.any (fun q => q.2.fer = f)))

/-- Tsrc of a function's output flows on a ferrule, in ns (R320): the words that its outputs can wait behind. -/
def tsrc (s : State) (fn : Nat) (d : Descr) (f : Nat) : Nat :=
  let others := (fnsOn s f).filter (fun i => i ≠ fn && (!d.crit || (s.fn i).desc.crit))
  6 * (d.nout + others.foldl (fun n i => n + (s.fn i).desc.nout) 0)

/-- L of a function's outputs from a placement's ferrule to a point, in thirds of a ns; `kind` 1 or 4 (R320). -/
def outLat3 (s : State) (flows : Tbl Flow) (kind fn twin : Nat) (d : Descr) (f point : Nat) : Nat :=
  let base := if f = point then localLat3 else match findFlow flows kind fn twin point with
    | some e => e.2.lat3 point
    | none => localLat3
  3 * tsrc s fn d f + base

/-- L of a gateway leg (R317, R320). -/
def legLat3 (flows : Tbl Flow) (fn gateway : Nat) : Nat :=
  match findFlow flows 2 fn 0 gateway with
  | some e => e.2.lat3 gateway
  | none => localLat3

/-- Σ (BUDGET + 8) over the slots below one (R323). -/
def lowerSum (s : State) (p : Place) : Nat :=
  (filterBelow p.slot (fun k => s.isSet (F.FER_SV p.fer (4 * p.nib + k)))).foldl
    (fun n k => n + s.rd (F.FER_BUDGET p.fer (4 * p.nib + k)) + 8) 0

/-- The largest L into a point (R323). -/
def largestL3 (s : State) (fn : Nat) (point : Nat) : Nat :=
  let x := s.fn fn
  if x.desc.twin && decide (64 ≤ point) then legLat3 s.rul.flows fn point
  else x.places.foldl (fun n q => max n (outLat3 s s.rul.flows 1 fn q.1 x.desc q.2.fer point)) 0

/-- EDL of a point, in ns from the opening of the stroke (R323). -/
def edlNs (s : State) (fn point : Nat) : Nat :=
  let x := s.fn fn
  up10 (3 * (graceNs s x.desc.dom + 150 + x.places.foldl (fun n q => max n (lowerSum s q.2)) 0 + x.desc.budget) +
    largestL3 s fn point)

/-- EDL of a new placement's shadow messages at a point (R323, R327). -/
def shadowEdlNs (s : State) (fn point : Nat) : Nat :=
  let x := s.fn fn
  match x.move with
  | some m =>
    let ps := (if bitOf m.twins 0 then [(0, m.a)] else []) ++ (if bitOf m.twins 1 then [(1, m.b)] else [])
    up10 (3 * (graceNs s x.desc.dom + 150 + ps.foldl (fun n q => max n (lowerSum s q.2)) 0 + x.desc.budget) +
      ps.foldl (fun n q => max n (outLat3 s s.rul.flows 4 fn q.1 x.desc q.2.fer point)) 0)
  | none => 0

/-- Every point at which a function's stroke is decided: egress and comparison points, rising. -/
def allPoints (s : State) (x : Fn) : List Nat := (outPoints s x).foldl (fun l p => insertNat p l) (egressPoints s x)

/-- RUL_VF6.EDL: the latest EDL of a function, in 10 ns (R323, R329). -/
def setEdl (s : State) (fn : Nat) : State :=
  s.wr (F.RUL_EDL fn) ((allPoints s (s.fn fn)).foldl (fun n p => max n (edlNs s fn p)) 0 / 10)

/-- The flows replaced, with NRSV of every router port (R316, R330). -/
def State.setFlows (s : State) (fl : Tbl Flow) : State :=
  let links := (s.rul.flows ++ fl).foldl (fun l e => e.2.links.foldl (fun l q => insertNat q.1 l) l) []
  let s := { s with rul := { s.rul with flows := fl } }
  forEach (links.filter (fun l => l < 512)) s (fun s l =>
    s.wr (F.MSH_NRSV (l / 32) (l / 8 % 4) (l % 8)) (popcount (linkMask fl l) 256))

/-- An entry of a link's slot table (R330): flow, reserved, spare. -/
def slotEntry (s : State) (link slot : Nat) : Nat :=
  match s.rul.flows.find? (fun e => match e.2.offset link with
      | some o => bitOf (slotMask (e.2.s0 + o) e.2.r) slot
      | none => false) with
  | some (n, fl) =>
    let o := (fl.offset link).getD 0
    n + 2 ^ 13 + b2n (!bitOf (dataMask (fl.s0 + o) fl.r) slot) * 2 ^ 14
  | none => 0

/-- The MSH_TDAT words of a page, from its index word (R330). -/
def mshData (s : State) (i j : Nat) : Word :=
  let link := (4 * i + s.rd (F.MSH_RTR i)) * 8 + s.rd (F.MSH_PORT i)
  (List.range 4).foldl (fun w k =>
    putField w (18 * k) 18 (slotEntry s link (8 * s.rd (F.MSH_GRP i) + 4 * j + k))) 0

/-- The destinations of a flow whose route uses a link. -/
def Flow.beyond (fl : Flow) (link : Nat) : List Nat := fl.dsts.filter (fun d => (routeLinks fl.src d).contains link)

/-- The lowest stroke of a flow's messages that are on their way. -/
def flowStroke (s : State) (fl : Flow) : Option Nat :=
  let l : List Nat := match fl.kind with
    | 0 => (s.rul.samples.filter (fun (m : SampleMsg) => m.sub = fl.key)).map (fun m => m.stroke)
    | 1 => (s.rul.outputs.filter (fun (m : OutMsg) => m.fn = fl.key && m.twin = fl.twin && !m.shadow && fl.dsts.contains m.point)).map (fun m => m.stroke)
    | 2 => (s.rul.legs.filter (fun m => m.1 = fl.key && fl.dsts.contains m.2.1)).map (fun m => m.2.2.1)
    | 3 => (s.rul.decisions.filter (fun m => m.1 = fl.key)).map (fun m => m.2.2.1)
    | _ => (s.rul.outputs.filter (fun (m : OutMsg) => m.fn = fl.key && m.twin = fl.twin && m.shadow && fl.dsts.contains m.point)).map (fun m => m.stroke)
  l.foldl (fun (a : Option Nat) n => match a with
    | some v => some (min v n)
    | none => some n) none

/-- A message of a flow that is on its way is lost at the destinations beyond a link (R319). -/
def loseMessage (s : State) (fl : Flow) (link stroke : Nat) : State :=
  let ds := fl.beyond link
  let fer (twin : Nat) : Nat := if twin = 0 then (s.fn fl.key).a.fer else (s.fn fl.key).b.fer
  let r : Rul := s.rul
  let r : Rul := match fl.kind with
    | 0 => { r with samples := r.samples.filter (fun (m : SampleMsg) => !(decide (m.sub = fl.key) && decide (m.stroke = stroke) && ds.contains m.ferrule)) }
    | 1 => { r with outputs := r.outputs.filter (fun (m : OutMsg) =>
        !(decide (m.fn = fl.key) && decide (m.twin = fl.twin) && !m.shadow && decide (m.stroke = stroke) && ds.contains m.point)) }
    | 2 => { r with legs := r.legs.filter (fun (m : Nat × Nat × Nat × Option (List Word)) => !(decide (m.1 = fl.key) && decide (m.2.2.1 = stroke) && ds.contains m.2.1)) }
    | 3 => { r with decisions := r.decisions.filter (fun (m : Nat × Nat × Nat × Bool × Bool) =>
        !(decide (m.1 = fl.key) && decide (m.2.2.1 = stroke) && ds.contains (fer m.2.1))) }
    | _ => { r with outputs := r.outputs.filter (fun (m : OutMsg) =>
        !(decide (m.fn = fl.key) && decide (m.twin = fl.twin) && m.shadow && decide (m.stroke = stroke) && ds.contains m.point)) }
  { s with rul := r }

/-- FLIT_PARITY_ERROR (R319, R330): the flit of a reserved flow is sent again in its spare slot; when the copy fails too,
it is lost and the destinations beyond the link discard the whole message. A slot whose flow has no message on its way
carries an unreserved flit, which is sent again with no other effect. -/
def execFlitParityError (t router port slot : Nat) (resentBad : Bool) (s : State) : Out :=
  let s := s.tick t
  let link := 8 * router + port
  let e := slotEntry s link slot
  .next (if e < 2 ^ 13 ∨ 2 ^ 14 ≤ e then s
  else
    let n := e % 2 ^ 13
    let fl := tget s.rul.flows n
    match flowStroke s fl with
    | some stroke =>
      let i := router / 4
      let r := router % 4
      let s := s.bump (F.MSH_RETX i r port)
      if resentBad then
        let s := (s.bump (F.MSH_LOST i r port)).pageErr (0x10 + i) 0x10 (16 + 8 * r + port) (r + port * 4 + n * 2 ^ 5)
        loseMessage s fl link stroke
      else s
    | none => s)

end Sys2Proof.Machine
end

