-- ==== Sys2Proof/Machine/Subs.lean ====
section
/-! DEFINITION. Subscriptions (R187 to R214, R634): the commands of the SUB pages, matching, the checks after delivery, the
mapping of samples to strokes, decisions and cut-offs, substitution and lateness.
Decisions: log entries 4 (DESIGN CHOICE), 33 (DEDUCED), 34 (DEDUCED), 35 (DEDUCED), 36 (DEDUCED), 37 (DEDUCED), 85
(DEDUCED). -/

namespace Sys2Proof.Machine
open Sys2Proof

/-- A subscription beside its registers. -/
def State.sub (s : State) (i : Nat) : Sub := tget s.subs i
def State.setSub (s : State) (i : Nat) (x : Sub) : State := { s with subs := tset s.subs i x }

/-- Fields of the arguments that a subscription was created with (R193). -/
def subA0 (s : State) (i lo len : Nat) : Nat := bitsOf (s.rd (F.SUB_A0 i)) lo len
def subA1 (s : State) (i lo len : Nat) : Nat := bitsOf (s.rd (F.SUB_A1 i)) lo len
def subA2 (s : State) (i lo len : Nat) : Nat := bitsOf (s.rd (F.SUB_A2 i)) lo len
def subType (s : State) (i : Nat) : Nat := subA0 s i 0 2
def subSrc (s : State) (i : Nat) : Nat := subA0 s i 2 7
def subDom (s : State) (i : Nat) : Nat := subA0 s i 9 2
def subAlign (s : State) (i : Nat) : Bool := subA0 s i 11 1 = 1
def subSimok (s : State) (i : Nat) : Bool := subA0 s i 12 1 = 1
def subLpol (s : State) (i : Nat) : Nat := subA0 s i 13 2
def subSdly (s : State) (i : Nat) : Nat := subA0 s i 20 8
/-- Channels, or members, of a position (R180, R193). -/
def subNch (s : State) (i : Nat) : Nat := if subType s i = 3 then 13 else subA2 s i 16 7
/-- The sample rate of an SV subscription, in Hz. -/
def subRate (s : State) (i : Nat) : Nat := svRate' (subA2 s i 27 3)
where svRate' (code : Nat) : Nat := [4000, 4800, 12800, 14400, 15360, 96000].getD code 0

/-- Whether a subscription exists. -/
def subLive (s : State) (i : Nat) : Bool := s.rd (F.SUB_SSTATE_23 i) ≠ 0

/-- The subscriptions that exist. -/
def liveSubs (s : State) : List Nat := (s.subs.map (fun e => e.1)).filter (subLive s)

/-- A closure member: synchronised SV, or cell status (R201, R204, R222). -/
def subClosure (s : State) (i : Nat) : Bool := decide (subType s i = 3) || (decide (subType s i = 1) && !subAlign s i)

/-- A flag of a slot shown both in its view word and in SUB_STS (R214). -/
def setSper (s : State) (i : Nat) (b : Bool) : State :=
  (s.wrb (F.SUB_SPER_23 i) b).wrb (F.SUB_SPER_48 (i / 64) (i % 64)) b
def setSimon (s : State) (i : Nat) (b : Bool) : State :=
  (s.wrb (F.SUB_SIMON_23 i) b).wrb (F.SUB_SIMON_48 (i / 64) (i % 64)) b
def setLpres (s : State) (i : Nat) (b : Bool) : State :=
  (s.wrb (F.SUB_LPRES_26 i) b).wrb (F.SUB_LPRES_48 (i / 64) (i % 64)) b
def setGexp (s : State) (i : Nat) (b : Bool) : State :=
  (s.wrb (F.SUB_GEXP_27 i) b).wrb (F.SUB_GEXP_48 (i / 64) (i % 64)) b
def setSstate (s : State) (i v : Nat) : State :=
  (s.wr (F.SUB_SSTATE_23 i) v).wr (F.SUB_SSTATE_48 (i / 64) (i % 64)) v

/-- K, when the domain's period suits the rate (R197). -/
def svK (per rate nch : Nat) : Option Nat :=
  let k := per * rate / 1000000000
  if per * rate % 1000000000 = 0 ∧ 1 ≤ k ∧ k ≤ 96 ∧ k * nch ≤ 256 then some k else none

/-- The anchor's nanosecond part suits the rate (R197). -/
def anchorSuits (anchor rate : Nat) : Bool := (anchor % 1000000000 * rate) % 1000000000 == 0

/-- The command publication of a lane (R168): the one created on it. -/
def lanePub (s : State) (l : Nat) : Option Nat :=
  findFrom' (fun k => let p := 32 * (l / 16) + k
    decide (s.rd (F.PUB_PSTATE_48 (p / 32) (p % 32)) ≠ 0) && decide (bitsOf (s.rd (F.PUB_A0 p)) 0 2 = 3) &&
    decide (bitsOf (s.rd (F.PUB_A0 p)) 2 7 = l % 16)) (32 * (l / 16))
where findFrom' (p : Nat → Bool) (base : Nat) : Option Nat := (findBelow p 32).map (fun k => base + k)

/-- The stroke domain of a lane's command publication. -/
def laneDom (s : State) (l : Nat) : Option Nat := (lanePub s l).map (fun p => bitsOf (s.rd (F.PUB_A0 p)) 9 2)

/-- A subscription's conditions are evaluated again (R197, R207): SPER, and K of the present period; SPER being set is
reported. -/
def subEval (s : State) (i : Nat) : State :=
  let d := subDom s i
  let was := s.isSet (F.SUB_SPER_23 i)
  let fail (s : State) : State :=
    let s := if was then s else s.pageErr (subPage (i / 64)) 0x11 (48 + i % 64) (i % 64)
    setSper s i true
  if subType s i = 1 then
    match svK (domPeriod s d) (subRate s i) (subNch s i) with
    | some k => if subAlign s i || anchorSuits (domAnchor s d) (subRate s i) then setSper (s.wr (F.SUB_K i) k) i false
        else fail s
    | none => fail s
  else if subType s i = 3 then
    match laneDom s (16 * (i / 64) + subSrc s i) with
    | some e => if e = d then setSper s i false else fail s
    | none => s
  else s

/-- Whether a receive buffer runs (R634). -/
def recvActive (s : State) (i : Nat) : Bool :=
  let p := recvPoint s i
  if p < 64 then ferRun s p else !inChipReset s && decide (bitsOf (s.rd F.PWR_DOM) 2 2 = 1)

/-- The ferrules whose functions bind a subscription for a stroke, rising (R222, R310, R312, R327). -/
def consumers (s : State) (i n : Nat) : List Nat :=
  (liveFns s).foldl (fun l g =>
    let x := s.fn g
    let eff := (decide (s.rd (F.RUL_FST g) = 2) && decide (x.here ≤ n)) ||
      (decide (s.rd (F.RUL_FST g) = 1) && x.loaded && decide (nextOpen s x.desc.dom ≤ n))
    let stays := match x.destroyAt with
      | some b => decide (openAt s x.desc.dom n < b)
      | none => true
    let back := decide (s.rd (F.RUL_FST g) = 3) && !x.held
    if x.subs.contains i && (eff || back) && stays then
      let l := if eff then x.places.foldl (fun l q => insertNat q.2.fer l) l else l
      match x.move with
      | some m => if m.loaded = true ∧ m.nr ≤ n then
          let l := if bitOf m.twins 0 then insertNat m.a.fer l else l
          if bitOf m.twins 1 then insertNat m.b.fer l else l
        else l
      | none => l
    else l) []

/-- A decided or cut stroke is sent to some ferrules (R208, R226, R317). -/
def sendSample (s : State) (i n : Nat) (pres : Bool) (words : List Word) (fs : List Nat) : State :=
  { s with rul := { s.rul with samples := s.rul.samples ++ fs.map (fun f =>
      { ferrule := f, sub := i, stroke := n, pres := pres, words := words }) } }

/-- What is decided for strokes that are still to open is sent to ferrules that newly take it (R208). -/
def sendDecided (s : State) (i from' : Nat) (fs : List Nat) : State :=
  if recvActive s i then
    forEach ((s.sub i).sent.filter (fun e => from' ≤ e.1)) s (fun s e => sendSample s i e.1 e.2.1 e.2.2 fs)
  else s

/-- The last value of a channel; before any, 0 with QUAL 0000_0001h (R212). -/
def lastOf (x : Sub) (c : Nat) : Word := if tget x.lastSet c then tget x.lastWord c else BitVec.ofNat 72 (2 ^ 36)

/-- The substitute of a channel (R212). -/
def substOf (lpol : Nat) (w : Word) : Word :=
  if lpol = 1 then BitVec.ofNat 72 (2 ^ 36 + 2 ^ 68)
  else
    let q := if lpol = 2 then putField w 36 2 1 else if getField w 36 2 = 1 then w else putField w 36 2 3
    putField q 68 1 1

/-- Substitutes for every channel of a position. -/
def substPos (s : State) (i : Nat) : List Word :=
  (List.range (subNch s i)).map (fun c => substOf (subLpol s i) (lastOf (s.sub i) c))

/-- The outcome of a stroke at its receive buffer is shown, kept and sent (R208, R214). -/
def subFinish (s : State) (i n : Nat) (pres : Bool) (words : List Word) : State :=
  let s := setLpres (s.wr (F.SUB_LASTS i) n) i pres
  let s := if pres then s else s.setBit (F.SUB_EABS (i / 64)) (i % 64)
  let x := s.sub i
  let cur := s.rd (F.DOM_CUR (subDom s i))
  let s := s.setSub i { x with sent := x.sent.filter (fun e => cur ≤ e.1 && e.1 ≠ n) ++ [(n, pres, words)] }
  sendSample s i n pres words (consumers s i n)

/-- A closure member decides a stroke (R208, R212). -/
def subDecide (s : State) (i n : Nat) : State :=
  let x := s.sub i
  let k := s.rd (F.SUB_K i)
  let pos := (List.range k).map (fun p => (x.rx.find? (fun e => e.1 = n && e.2.1 = p)).map (fun e => e.2.2))
  let missing := (pos.filter (fun e => e.isNone)).length
  let words := pos.flatMap (fun e => e.getD (substPos s i))
  let cur := s.rd (F.DOM_CUR (subDom s i))
  let s := s.setSub i { x with
    rx := x.rx.filter (fun e => e.1 ≠ n && decide (cur < e.1 + 2))
    decided := ((n, s.devTime) :: x.decided).take 512 }
  subFinish (s.bumpBy (F.SUB_SABS i) missing) i n (missing = 0) words

/-- Whether a stroke's presence is decided. -/
def subDecidedAt (s : State) (i n : Nat) : Option Nat := ((s.sub i).decided.find? (fun e => e.1 = n)).map (fun e => e.2)

/-- The deadline of a stroke for a closure member (R223). -/
def subDeadline (s : State) (i n : Nat) : Nat := deadlineAt s (subDom s i) n - s.rd (F.RUL_DLV i) * 10

/-- Whether a closure member decides a stroke at all (R208, R222, R634). -/
def subDecides (s : State) (i n : Nat) : Bool :=
  let d := subDom s i
  subLive s i && subClosure s i && s.isSet (F.DOM_RUN d) && decide (s.rd (F.DOM_FIRST d) ≤ n) && recvActive s i &&
  (subDecidedAt s i n).isNone && !(consumers s i n).isEmpty

/-- The deadline of a stroke passes (R208). -/
def passSubDeadline (s : State) (i n : Nat) : State :=
  if subDecides s i n && decide (subDeadline s i n ≤ s.devTime) && decide ((s.sub i).since ≤ subDeadline s i n + 1) then
    subDecide s i n else s

/-- SUB_DEADLINE (R208). -/
def execSubDeadline (t sub stroke : Nat) (s : State) : Out := .next (passSubDeadline (s.tick t) sub stroke)

/-- The words of a position join their stroke; the last position decides it (R199, R208, R212). -/
def subAccept (s : State) (i n k : Nat) (words : List Word) : State :=
  let x := s.sub i
  let zs := words.zipIdx
  let s := s.setSub i { x with
    rx := x.rx ++ [(n, k, words)]
    lastWord := zs.foldl (fun t q => tset t q.2 q.1) x.lastWord
    lastSet := zs.foldl (fun t q => tset t q.2 true) x.lastSet }
  let s := s.bump (F.SUB_SACC i)
  if s.rd (F.SUB_K i) ≤ ((s.sub i).rx.filter (fun e => e.1 = n)).length ∧ subDecides s i n = true then subDecide s i n else s

/-- A late input is counted and recorded (R211, R243). -/
def subLate (s : State) (i n k decidedAt : Nat) (words : List Word) : State :=
  let f := i / 64
  let a := s.devTime
  let ldly := min 0xFFFF ((a - decidedAt) / 100)
  let s := (s.bump (F.SUB_SLATE i)).setBit (F.SUB_ELATE f) (i % 64)
  let s := (((s.wr (F.SUB_LSTR i) n).wr (F.SUB_LPOS i) k).wr (F.SUB_LATEV i) 1).wr (F.SUB_LDLY i) ldly
  match consumers s i n with
  | [] => s
  | c :: _ =>
    if ferRun s c then
      let d := subDom s i
      let was := s.rd (F.FER_LDROP c)
      let s := ledgerWrite s c d [ledgerWord0 n d 3 i k, timeWord a, BitVec.ofNat 72 ldly, digest72 words]
      if s.rd (F.FER_LDROP c) = was then s.bump (F.DOM_NLATE d) else s
    else s

/-- A position for a stroke: late, a duplicate, or accepted (R199, R208). -/
def subPosition (s : State) (i n k : Nat) (words : List Word) : State :=
  let s := passSubDeadline s i n
  match subDecidedAt s i n with
  | some t => subLate s i n k t words
  | none =>
    if (s.sub i).rx.any (fun e => e.1 = n && e.2.1 = k) then s.bump (F.SUB_SDUP i)
    else subAccept s i n k words

/-- The stroke and position of a sample, and the latest stroke opened, from its smpCnt and the time of its delivery
(R198). Instants are counted in units of 1 / (r × 10^9) s, so that they stay whole. -/
def mapSample (anchor per rate c a : Nat) : Int × Nat × Int :=
  let g : Int := 1000000000
  let r : Int := (rate : Nat)
  -- S is the greatest integer with S + c / r ≤ a + 0.5 s
  let sec : Int := ((a : Int) * r + r * g / 2 - (c : Int) * g) / (r * g)
  let ts : Int := sec * r * g + (c : Int) * g
  let aU : Int := (anchor : Int) * r
  let pU : Int := (per : Int) * r
  let m := (ts - aU) / pU
  let k := (ts - aU - m * pU) / g
  (m, k.toNat, ((a : Int) - (anchor : Int)) / (per : Int))

/-- A word of an SV channel (R209). -/
def svWord (v : SvValue) (sim : Bool) : Word :=
  BitVec.ofNat 72 (toField v.value.toInt 36 + v.qual.toNat * 2 ^ 36 + b2n sim * 2 ^ 69)

/-- Cut-offs of the domain's strokes that have come: the latest stroke with open(N) − 1.0 µs at or before now, while the
domain runs (R200, R204). -/
def cutStroke (s : State) (d : Nat) : Option Nat :=
  let a := domAnchor s d
  let p := domPeriod s d
  if s.isSet (F.DOM_RUN d) ∧ a ≤ s.devTime + 1000 ∧ 0 < p then
    let n := (s.devTime + 1000 - a) / p
    if s.rd (F.DOM_FIRST d) ≤ n then some n else none
  else none

/-- The ASDUs of a cut in smpCnt order, counted modulo the rate from the first of them (R200). -/
def orderAsdus (rate : Nat) (l : List (Nat × List Word)) : List (List Word) :=
  match l with
  | [] => []
  | (c0, _) :: _ =>
    let key (c : Nat) : Nat := (c + rate - c0 % rate) % rate
    let ins (e : Nat × List Word) (t : List (Nat × List Word)) : List (Nat × List Word) :=
      t.takeWhile (fun q => decide (q.1 ≤ key e.1)) ++ [(key e.1, e.2)] ++ t.dropWhile (fun q => decide (q.1 ≤ key e.1))
    (l.foldl (fun t e => ins e t) []).map (fun e => e.2)

/-- The cut-off of a stroke (R200, R204, R226). -/
def subCut (s : State) (i n : Nat) : State :=
  let x := s.sub i
  if subType s i = 2 then
    let gv := s.isSet (F.SUB_GV i)
    let exp := gv && decide (s.rd (F.SUB_EXPT i) ≤ (timeWord (openAt s (subDom s i) n - 1000)).toNat)
    let s := if exp && !x.expired then (s.bump (F.SUB_STALX i)).setBit (F.SUB_ETAL (i / 64)) (i % 64) else s
    let s := (setGexp s i exp).setSub i { x with cut := n + 1, expired := exp }
    subFinish s i n (gv && !exp) (if gv && !exp then x.held else substPos s i)
  else
    let k := s.rd (F.SUB_K i)
    let extra := x.queue.length - k
    let q := orderAsdus (subRate s i) (x.queue.drop extra)
    let miss := k - q.length
    let s := (s.bumpBy (F.SUB_SDUP i) extra).bumpBy (F.SUB_SABS i) miss
    let s := s.setSub i { x with cut := n + 1, queue := [] }
    subFinish s i n (miss = 0) (q.flatMap (fun w => w) ++ (List.replicate miss (substPos s i)).flatMap (fun w => w))

/-- A cut-off that has come and is not yet taken is taken (R200, R204, R634). -/
def passCutoff (s : State) (i : Nat) : State :=
  if subLive s i && (decide (subType s i = 2) || (decide (subType s i = 1) && subAlign s i)) && recvActive s i then
    match cutStroke s (subDom s i) with
    | some n => if (s.sub i).cut ≤ n ∧ (s.sub i).since ≤ openAt s (subDom s i) n - 1000 + 1 then subCut s i n else s
    | none => s
  else s

/-- STROKE_CUTOFF (R200, R204). -/
def execStrokeCutoff (t sub : Nat) (s : State) : Out := .next (passCutoff (s.tick t) sub)

/-- GOOSE_TAL_EXPIRE (R204): the expiry time passes; the cut-off that follows it counts and shows the expiry, and a
cut-off that has come is taken. -/
def execGooseTalExpire (t sub : Nat) (s : State) : Out := .next (passCutoff (s.tick t) sub)

/-- One ASDU after checks 1 to 3 (R196 check 4, R198, R199, R200). -/
def subAsdu (s : State) (i : Nat) (sim : Bool) (x : SvAsdu) : State :=
  let words := x.data.map (fun v => svWord v sim)
  if subAlign s i then
    let y := s.sub i
    let zs := words.zipIdx
    (s.setSub i { y with
      queue := y.queue ++ [(x.smpCnt, words)]
      lastWord := zs.foldl (fun t q => tset t q.2 q.1) y.lastWord
      lastSet := zs.foldl (fun t q => tset t q.2 true) y.lastSet }).bump (F.SUB_SACC i)
  else if !(x.smpSynch = 1 ∨ x.smpSynch = 2 ∨ (5 ≤ x.smpSynch ∧ x.smpSynch ≤ 254)) then s.bump (F.SUB_SUNSY i)
  else
    let d := subDom s i
    let (m, k, c) := mapSample (domAnchor s d) (domPeriod s d) (subRate s i) x.smpCnt s.devTime
    let n := m + (subSdly s i : Nat)
    if c < m then
      (s.bump (F.SUB_SEARLY i)).pageErr (subPage (i / 64)) 0x10 (48 + i % 64) (i % 64)
    else if n < 0 then s.bump (F.SUB_SACC i)
    else subPosition s i n.toNat k words

/-- Whether a GOOSE member has its declared type and size (R202). -/
def memberOk (ty : Nat) (m : GooseMember) : Bool :=
  if ty = 0 then m.kind = 0
  else if ty = 1 then decide (m.kind = 1) && decide (m.size ≤ 32)
  else if ty = 2 then decide (m.kind = 2) && decide (m.size ≤ 4)
  else if ty = 3 then decide (m.kind = 3) && decide (m.size ≤ 5) && decide (m.value < 2 ^ 32)
  else if ty = 4 then decide (m.kind = 4) && decide (m.size = 5)
  else ty = 5

/-- The input word of a GOOSE member (R202, R206, R209). -/
def memberWord (ty : Nat) (m : GooseMember) (sim : Bool) : Word :=
  let v := if ty = 0 then b2n (m.value ≠ 0) else if ty = 1 then m.value % 2 ^ m.size
    else if ty = 5 then 0 else if ty = 4 then m.value % 2 ^ 32 else m.value % 2 ^ 36
  BitVec.ofNat 72 (v + b2n sim * 2 ^ 69)

/-- x is newer than y in 32-bit serial arithmetic (R203). -/
def serialNewer (x y : Nat) : Bool :=
  let d := (x + 2 ^ 32 - y % 2 ^ 32) % 2 ^ 32
  decide (1 ≤ d) && decide (d ≤ 2 ^ 31 - 1)

/-- State supervision of a GOOSE frame that passed the checks (R203). -/
def subGoose (s : State) (i : Nat) (sim : Bool) (g : GooseApdu) : State :=
  let x := s.sub i
  let words := (g.members.zipIdx).map (fun q => memberWord (x.types.getD q.2 0) q.1 sim)
  let h := s.rd (F.SUB_STNUM i)
  let q := s.rd (F.SUB_SQNUM i)
  let same := decide (g.stNum % 2 ^ 32 = h)
  let refresh (s : State) : State :=
    let s := s.wr (F.SUB_EXPT i) (timeWord (s.devTime + (g.tal + x.talm) * 1000000)).toNat
    (s.bump (F.SUB_SACC i)).setSub i { s.sub i with expired := false }
  let apply (s : State) : State :=
    let s := s.setSub i { x with
      held := words
      lastWord := (words.zipIdx).foldl (fun t q => tset t q.2 q.1) x.lastWord
      lastSet := (words.zipIdx).foldl (fun t q => tset t q.2 true) x.lastSet }
    refresh (((s.wr (F.SUB_STNUM i) g.stNum).wr (F.SUB_SQNUM i) g.sqNum).wr (F.SUB_GV i) 1)
  if s.isSet (F.SUB_GV i) = false then apply s
  else if same && serialNewer g.sqNum q then
    let differ := (words.map (fun w => getField w 0 68)) != (x.held.map (fun w => getField w 0 68))
    let s := if differ then s.bump (F.SUB_SGINC i) else s
    refresh (s.wr (F.SUB_SQNUM i) g.sqNum)
  else if same then s.bump (F.SUB_SDUP i)
  else if serialNewer g.stNum h then
    let s := s.bump (F.SUB_SSTCHG i)
    let succ := if h = 2 ^ 32 - 1 then 1 else h + 1
    apply (if g.stNum ≠ succ ∨ g.sqNum ≠ 0 then s.bump (F.SUB_SSTGAP i) else s)
  else if g.stNum = 1 then apply (s.bump (F.SUB_SRST i))
  else s.bump (F.SUB_SDUP i)

/-- A rejection at checks 1 to 3 (R196). -/
def subReject (s : State) (i : Nat) (counter : Fld) (frsn : Nat) : State :=
  let f := i / 64
  (((s.bump counter).wr (F.SUB_FSLOT f) (i % 64)).wr (F.SUB_FRSN f) frsn |>.wr (F.SUB_FV f) 1).setBit (F.SUB_EFMT f) (i % 64)

/-- Check 3 of an SV frame: the first FRSN that applies, 0 for none (R196). -/
def svFormat (s : State) (i noAsdu : Nat) (asdus : List SvAsdu) : Nat :=
  if noAsdu ≠ subA2 s i 23 4 ∨ asdus.length ≠ noAsdu then 3
  else if asdus.any (fun a => a.dataOctets ≠ 8 * subNch s i || a.data.length ≠ subNch s i) then 4
  else if asdus.any (fun a => a.svId ≠ (asdus.headD a).svId) then 6
  else if asdus.any (fun a => subRate s i ≤ a.smpCnt) then 7 else 0

/-- Check 3 of a GOOSE frame (R196). -/
def gooseFormat (s : State) (i : Nat) (g : GooseApdu) : Nat :=
  if g.entries ≠ subNch s i ∨ g.members.length ≠ subNch s i then 4
  else if (g.members.zipIdx).any (fun q => !memberOk ((s.sub i).types.getD q.2 0) q.1) then 5
  else if g.ndsCom then 8
  else if g.tal = 0 then 9 else 0

/-- A frame delivered at stage 9 passes the checks of its subscription (R196, R206). -/
def subDeliver (s : State) (i : Nat) (apdu : Apdu) : State :=
  let s := passCutoff s i
  let run (s : State) (sim : Bool) (revs : List Nat) (frsn : Nat) (act : State → State) : State :=
    let on := s.isSet (F.SUB_SIMON_23 i)
    if (sim && !subSimok s i) || (on && !sim) then subReject s i (F.SUB_SSIM i) 1
    else if subA2 s i 62 1 = 1 ∧ revs.any (fun r => r ≠ subA2 s i 30 32) = true then subReject s i (F.SUB_SCONF i) 2
    else if frsn ≠ 0 then subReject s i (F.SUB_SFMT i) frsn
    else act (if sim && !on then setSimon s i true else s)
  if s.isSet (F.SUB_SPER_23 i) then s
  else match apdu with
    | .sv sim n asdus => run s sim (asdus.map (fun a => a.confRev)) (svFormat s i n asdus)
        (fun s => forEach asdus s (fun s a => subAsdu s i sim a))
    | .goose sim g => run s sim [g.confRev] (gooseFormat s i g) (fun s => subGoose s i sim g)
    | _ => s

/-- Whether a VLAN tagging satisfies a VM condition; VID 0 counts as untagged (R194). -/
def vmMatches (vm vid : Nat) (v : VlanTag) : Bool :=
  match v with
  | .tagged w _ => if w = 0 then vm ≠ 2 else decide (vm = 0) || (decide (vm = 2) && decide (w = vid))
  | .untagged => vm ≠ 2
  | .refused => false

/-- The subscription that a frame from a source matches (R194, R195). -/
def subMatch (s : State) (page : Option Nat) (src etype dmac appid : Nat) (vlan : VlanTag) (id : List Nat) : Option Nat :=
  (liveSubs s).find? (fun i =>
    (match page with
      | some f => decide (i / 64 = f)
      | none => true) &&
    decide (subSrc s i = src) && decide (subType s i = (if etype = 0x88BA then 1 else 2)) && decide (subType s i ≠ 3) &&
    decide (subA1 s i 0 48 = dmac) && vmMatches (subA1 s i 48 2) (subA1 s i 50 12) vlan && decide (subA2 s i 0 16 = appid) &&
    ((s.sub i).ident.isEmpty || decide ((s.sub i).ident = id)))

/-- The VM conditions of two subscriptions that one frame could satisfy (R194). -/
def vmOverlap (vm1 vid1 vm2 vid2 : Nat) : Bool :=
  decide (vm1 = 0) || decide (vm2 = 0) || (decide (vm1 = vm2) && (decide (vm1 ≠ 2) || decide (vid1 = vid2)))

/-- A domain's period or anchor was written (R197): its subscriptions are evaluated again, and what they hold for strokes
numbered by the old parameters goes. -/
def domSubsEval (s : State) (d : Nat) : State :=
  forEach ((liveSubs s).filter (fun i => subDom s i = d)) s (fun s i =>
    let x := s.sub i
    subEval (s.setSub i { x with rx := [], decided := [], sent := [], queue := [], cut := 0 }) i)

/-- The arguments of a CREATE (R193). -/
structure SubArgs where
  a0 : Nat
  a1 : Nat
  a2 : Nat
  types : List Nat
  talm : Nat
  idlen : Nat
  ident : List Nat

/-- The arguments on a SUB page (R193). -/
def subArgs (s : State) (f : Nat) : SubArgs :=
  let w (k : Nat) : Word := s.word (subPage f * 512 + k)
  let nch := getField (w 12) 16 7
  let ty := getField (w 10) 0 2
  let idl := getField (w 16) 0 6
  { a0 := getField (w 10) 0 28, a1 := if ty = 3 then 0 else getField (w 11) 0 62, a2 := if ty = 3 then 0 else getField (w 12) 0 63
    types := if ty = 2 then (List.range nch).map (fun m => getField (w (13 + m / 24)) (3 * (m % 24)) 3) else []
    talm := if ty = 2 then getField (w 15) 48 8 else 0
    idlen := if ty = 3 then 0 else idl
    ident := if ty = 3 then [] else (List.range (min idl 45)).map (fun n => getField (w (17 + n / 9)) (8 * (n % 9)) 8) }

/-- TYPE, SRC and ALIGN are valid and suited to each other (R191 reason 02h). -/
def subSrcOk (s : State) (f : Nat) (a : SubArgs) : Bool :=
  let ty := bitsOf a.a0 0 2
  let src := bitsOf a.a0 2 7
  let mode (p : Nat) : Nat := s.rd (F.LNK_MODE (portBlock p))
  let lane := decide (src < 0x10)
  let pair := decide (0x20 ≤ src) && decide (src < 0x28)
  let upl := decide (0x40 ≤ src) && decide (src < 0x48)
  let uplPair := decide (0x60 ≤ src) && decide (src < 0x64)
  let suits (p : Nat) : Bool := decide (mode p = 0) ||
    (if ty = 3 then decide (mode p = 4 ∨ mode p = 5) else decide (mode p ≤ 3))
  decide (1 ≤ ty) && decide (ty ≤ 3) && (lane || pair || upl || uplPair) && (bitsOf a.a0 11 1 = 0 || decide (ty = 1)) &&
  (if lane then suits (16 * f + src) && (decide (ty = 3) || decide (portPairMode s (16 * f + src) = 0))
    else if ty = 3 then false
    else if pair then suits (16 * f + 2 * (src % 8)) && suits (16 * f + 2 * (src % 8) + 1) &&
      decide (portPairMode s (16 * f + 2 * (src % 8)) ≠ 0)
    else if upl then portPairMode s (1024 + src % 8) = 0
    else portPairMode s (1024 + 2 * (src % 4)) ≠ 0)

/-- The stroke inputs of a subscription have a shape that the fields allow (R191 reason 03h). -/
def subShapeOk (a : SubArgs) : Bool :=
  let ty := bitsOf a.a0 0 2
  let nch := bitsOf a.a2 16 7
  decide (a.idlen ≤ 45) &&
  (if ty = 1 then decide (1 ≤ nch) && decide (nch ≤ 32) && decide (1 ≤ bitsOf a.a2 23 4) && decide (bitsOf a.a2 23 4 ≤ 8) &&
      decide (bitsOf a.a2 27 3 ≤ 5) && (bitsOf a.a0 11 1 = 1 || decide (1 ≤ bitsOf a.a0 20 8))
    else if ty = 2 then decide (1 ≤ nch) && decide (nch ≤ 64) && a.types.all (fun t => decide (t < 6))
    else true)

/-- The match of a new subscription overlaps an existing one's (R194). -/
def subOverlaps (s : State) (f : Nat) (a : SubArgs) : Bool :=
  let src := bitsOf a.a0 2 7
  decide (bitsOf a.a0 0 2 ≠ 3) &&
  (liveSubs s).any (fun i => (decide (i / 64 = f) || decide (0x40 ≤ src)) && decide (subSrc s i = src) &&
    decide (subType s i = bitsOf a.a0 0 2) && decide (subA1 s i 0 48 = bitsOf a.a1 0 48) &&
    decide (subA2 s i 0 16 = bitsOf a.a2 0 16) &&
    vmOverlap (subA1 s i 48 2) (subA1 s i 50 12) (bitsOf a.a1 48 2) (bitsOf a.a1 50 12) &&
    ((s.sub i).ident.isEmpty || a.ident.isEmpty || decide ((s.sub i).ident = a.ident)))

/-- The refusal reason of a CREATE; 0 when it is performed (R191, R192). -/
def subRefusal (s : State) (f ten : Nat) (free : Option Nat) (a : SubArgs) : Nat :=
  let ty := bitsOf a.a0 0 2
  let d := bitsOf a.a0 9 2
  let kp := bitsOf a.a0 15 5
  let rate := [4000, 4800, 12800, 14400, 15360, 96000].getD (bitsOf a.a2 27 3) 0
  let point := if bitsOf a.a0 2 7 < 0x60 then 64 + bitsOf a.a0 2 7 % 8 else 64 + 2 * (bitsOf a.a0 2 7 % 4)
  if s.rd (F.TEN_TSTATE ten) ≠ 1 then 0xA
  else if free.isNone then 1
  else if subSrcOk s f a = false then 2
  else if subShapeOk a = false then 3
  else if domPeriod s d = 0 ∨ (ty = 1 ∧ ((svK (domPeriod s d) rate (bitsOf a.a2 16 7)).isNone = true ∨
      (bitsOf a.a0 11 1 = 0 ∧ anchorSuits (domAnchor s d) rate = false))) then 4
  else if subOverlaps s f a then 5
  else if kp ≠ 0x1F ∧ (0xF < kp ∨ s.rd (F.KEY_KOWN (subKey f kp)) ≠ ten ∨ ty = 3) then 6
  else if 0x40 ≤ bitsOf a.a0 2 7 ∧ 128 ≤ ((liveSubs s).filter (fun i => recvPoint s i = point)).length then 7
  else if bitsOf a.a0 13 2 = 3 ∨ (ty ≠ 3 ∧ bitsOf a.a1 48 2 = 3) then 9
  else 0

/-- A slot takes a subscription (R193, R214). -/
def subMake (s : State) (i ten : Nat) (a : SubArgs) : State :=
  let s := forEach [23, 24, 25, 26, 27, 28, 29, 30, 31, 32, 33] s (fun s w => s.setWord ((0x1000 + i) * 512 + w) 0)
  let s := s.setWord (subPage (i / 64) * 512 + 48 + i % 64) 0
  let s := (((s.wr (F.SUB_A0 i) a.a0).wr (F.SUB_A1 i) a.a1).wr (F.SUB_A2 i) a.a2).wr (F.SUB_OWNER i) ten
  let s := (setSstate s i 1).wr (F.SUB_TYPE_48 (i / 64) (i % 64)) (bitsOf a.a0 0 2)
  let s := s.setSub i { types := a.types, talm := a.talm, ident := a.ident, since := s.devTime + 1 }
  subEval (if bitsOf a.a0 0 2 = 1 then s else s.wr (F.SUB_K i) 1) i

/-- The kind and range of a SUB page's handles (R187). -/
def subHandles : HandleSpec := { kind := 1, count := 4096, slot := fun i => i }

/-- Checks 4 to 7 of a SUB page's handle (R67, R187, R189, R528). -/
def subHandleCheck (s : State) (init ferrule handle : Nat) : Option Nat :=
  match handleCheck s subHandles handle (fun i => s.rd (F.SUB_OWNER i) = initTen s init) with
  | some r => some r
  | none => if handle % 2 ^ 20 / 64 = ferrule ∧ subLive s (handle % 2 ^ 20) = true ∧
      s.rd (F.TEN_TSTATE (s.rd (F.SUB_OWNER (handle % 2 ^ 20)))) ≠ 3 then none else some 7
where initTen (s : State) (init : Nat) : Nat := if init < 0x20 then scribeTenant (s.scribe init) else 0

/-- SUB_CREATE (R191 to R193). -/
def subCreate (s : State) (init ferrule seq handle : Nat) : State :=
  let page := subPage ferrule
  match s.doorbell page seq 1 handle (fun _ => if handle ≠ 0 then some 4 else none) with
    | (s, false) => s
    | (s, true) =>
      let a := subArgs s ferrule
      let ten := if init < 0x20 then scribeTenant (s.scribe init) else 0
      let free := findBelow (fun k => !subLive s (64 * ferrule + k)) 64
      let r := subRefusal s ferrule ten free a
      if r ≠ 0 then s.complete page 1 r 0
      else
        let i := 64 * ferrule + free.getD 0
        (subMake s i ten a).complete page 0 0 (s.handle 1 i i)

/-- The command, as a write of CMD. -/
def execSubCreate (t init ferrule seq handle : Nat) (s : State) : Out :=
  .next ((s.tick t).gatedCmd init (subPage ferrule) seq 1 handle (fun s => subCreate s init ferrule seq handle))

/-- A slot is freed and its generation advances (R191, R71). -/
def subFree (s : State) (i : Nat) : State :=
  let s := forEach [23, 24, 25, 26, 27, 28, 29, 30, 31, 32, 33] s (fun s w => s.setWord ((0x1000 + i) * 512 + w) 0)
  ((s.setWord (subPage (i / 64) * 512 + 48 + i % 64) 0).setSub i {}).bumpGen 1 i

/-- SUB_DESTROY (R191). -/
def subDestroy (s : State) (init ferrule seq handle : Nat) : State :=
  let page := subPage ferrule
  match s.doorbell page seq 2 handle (fun s => subHandleCheck s init ferrule handle) with
    | (s, false) => s
    | (s, true) =>
      let i := handle % 2 ^ 20
      if s.rd (F.SUB_SSTATE_23 i) = 2 then s.complete page 1 8 0 else (subFree s i).complete page 0 0 0

/-- The command, as a write of CMD. -/
def execSubDestroy (t init ferrule seq handle : Nat) (s : State) : Out :=
  .next ((s.tick t).gatedCmd init (subPage ferrule) seq 2 handle (fun s => subDestroy s init ferrule seq handle))

/-- A SETPOL takes effect (R191, R206). -/
def applySetpol (s : State) (i lpol : Nat) (simok : Bool) : State :=
  let a := s.rd (F.SUB_A0 i)
  let a := (a - bitsOf a 12 3 * 2 ^ 12) + b2n simok * 2 ^ 12 + lpol % 4 * 2 ^ 13
  let s := (s.wr (F.SUB_A0 i) a).setSub i { s.sub i with setpol := none }
  if simok then s else setSimon s i false

/-- SUB_SETPOL (R191, R192): at once while the domain does not run, otherwise at the next stroke boundary. -/
def subSetpol (s : State) (init ferrule seq handle : Nat) : State :=
  let page := subPage ferrule
  match s.doorbell page seq 3 handle (fun s => subHandleCheck s init ferrule handle) with
    | (s, false) => s
    | (s, true) =>
      let i := handle % 2 ^ 20
      let lpol := s.rd (F.SUB_LPOL ferrule)
      let simok := s.isSet (F.SUB_SIMOK ferrule)
      if lpol = 3 then s.complete page 1 9 0
      else
        let d := subDom s i
        let s := if s.isSet (F.DOM_RUN d) then
            s.setSub i { s.sub i with setpol := some (nextBoundary s d (s.devTime + 1), lpol, simok) }
          else applySetpol s i lpol simok
        s.complete page 0 0 0

/-- The command, as a write of CMD. -/
def execSubSetpol (t init ferrule seq handle : Nat) (s : State) : Out :=
  .next ((s.tick t).gatedCmd init (subPage ferrule) seq 3 handle (fun s => subSetpol s init ferrule seq handle))

/-- SETPOLs of a domain whose boundary has come take effect (R191, R220). -/
def boundarySetpols (s : State) (d : Nat) : State :=
  forEach ((liveSubs s).filter (fun i => subDom s i = d)) s (fun s i =>
    match (s.sub i).setpol with
    | some (b, lpol, simok) => if b ≤ s.devTime then applySetpol s i lpol simok else s
    | none => s)

/-- What a reset of its ferrule, or of its gateway's power domain, clears of a subscription (R213). -/
def subReset (s : State) (i : Nat) : State :=
  let x := s.sub i
  let s := forEach [27, 28, 29, 30, 31, 32, 33] s (fun s w => s.setWord ((0x1000 + i) * 512 + w) 0)
  let s := setLpres (setGexp (setSimon (s.wr (F.SUB_LASTS i) 0) i false) i false) i false
  s.setSub i { types := x.types, talm := x.talm, ident := x.ident, setpol := x.setpol, since := s.devTime + 1 }

/-- The receive buffers of some subscriptions run again: what fell due meanwhile is not decided (R634). -/
def subsWake (s : State) (l : List Nat) : State := forEach l s (fun s i => s.setSub i { s.sub i with since := s.devTime + 1 })

/-- The page of a ferrule's subscriptions is reset with the ferrule (R213). -/
def subPageReset (s : State) (f : Nat) : State :=
  let s := forEach ((liveSubs s).filter (fun i => i / 64 = f && decide (subSrc s i < 0x40))) s subReset
  let base := subPage f * 512
  forEach (List.range' 10 13 ++ [34, 40, 41, 42, 43, 44]) (s.headerReset (subPage f)) (fun s w => s.setWord (base + w) 0)

end Sys2Proof.Machine
end

