-- ==== Sys2Proof/Machine/Rx.lean ====
section
/-! DEFINITION. The receive path (R127 to R143, R150, R154): the stages of a received frame, the duplicate window, HSR
forwarding, authentication and partner learning.
Decisions: log entries 29 (DEDUCED), 31 (DEDUCED), 88 (DEDUCED). -/

namespace Sys2Proof.Machine
open Sys2Proof

/-- The source code of a port for subscriptions: the lane or uplink, or its pair (R188, R195). -/
def portSrc (s : State) (p : Nat) : Nat :=
  if p < 1024 then (if portPairMode s p = 0 then p % 16 else 0x20 + p % 16 / 2)
  else if portPairMode s p = 0 then 0x40 + (p - 1024) else 0x60 + (p - 1024) / 2

/-- The SUB page whose subscriptions a port can feed: its ferrule's, or any for an uplink. -/
def portSubPage (p : Nat) : Option Nat := if p < 1024 then some (p / 16) else none

/-- The EtherType as the stages see it: an HSR tag where none is expected is an EtherType of its own (R136). -/
def rxEtype (s : State) (p : Nat) (x : RxFrame) : Nat :=
  match x.red with
  | .hsr _ => if portPairMode s p = 2 then x.etype else 0x892F
  | _ => x.etype

/-- The stage 3 checks (R132, R136): true for a frame that fails. -/
def stage3Bad (s : State) (p : Nat) (x : RxFrame) : Bool :=
  let vm := s.rd (F.LNK_VMODE (portBlock p))
  (match x.vlan with
    | .refused => true
    | .untagged => vm = 2
    | .tagged vid _ => if vid = 0 then vm = 2 else vm = 1) ||
  (match portPairMode s p, x.red with
    | 1, .malformed => true
    | 2, .hsr _ => false
    | 2, _ => true
    | _, _ => false)

/-- The identifier that a frame carries: svID of the first ASDU, or goID (R194). -/
def apduIdent (a : Apdu) : List Nat :=
  match a with
  | .sv _ _ asdus => (asdus.head?.map (fun x => x.svId)).getD []
  | .goose _ g => g.goId
  | _ => []

/-- Whether the APDU of an SV or GOOSE frame decodes as its EtherType says (R129 stage 6). -/
def apduDecodes (etype : Nat) (a : Apdu) : Bool :=
  match a with
  | .sv _ _ asdus => decide (etype = 0x88BA) && !asdus.isEmpty
  | .goose _ _ => etype = 0x88B8
  | _ => false

/-- The subscription that a frame matches (R194). -/
def rxMatch (s : State) (p : Nat) (x : RxFrame) : Option Nat :=
  subMatch s (portSubPage p) (portSrc s p) (rxEtype s p x) x.dmac x.appid x.vlan (apduIdent x.apdu)

/-- A frame passes authentication at stage 7 (R97, R142). -/
def authOk (s : State) (i : Nat) (x : RxFrame) : Bool :=
  let kp := subA0 s i 15 5
  if kp = 0x1F then true
  else
    let b0 := subKey (i / 64) kp
    let slots := [b0, b0 + 6]
    if slots.all (fun b => s.rd (F.KEY_ALG b) = 0) then true
    else match x.auth with
      | none => false
      | some e =>
        decide (e.tagBits = 128) && !e.encrypted && slots.any (fun b => keyUsable s b && decide (s.rd (F.KEY_KEYID b) = e.keyId) &&
          decide (Config.authTag (s.rd (F.KEY_ALG b))
            ((keyOctets s b).take (if s.rd (F.KEY_ALG b) = 2 then 16 else 32)) x.octets 128 = e.tag))

/-- The sequence number by which a pair judges a frame (R136). -/
def rxSeq (s : State) (p : Nat) (x : RxFrame) : Option Nat :=
  match portPairMode s p, x.red with
  | 1, .prp _ q => some q
  | 2, .hsr q => some q
  | _, _ => none

/-- An unmatched frame is counted and captured (R129, R133). -/
def rxUnmatched (s : State) (p : Nat) (x : RxFrame) : State :=
  let b := portBlock p
  let et := rxEtype s p x
  let s := ((s.bump (F.LNK_RXUNM b)).wr (F.LNK_UDMAC b) x.dmac).wr (F.LNK_UETYPE b) et
  let (vid, tag) := match x.vlan with
    | .tagged v _ => (v, true)
    | _ => (0, false)
  ((((s.wr (F.LNK_UVID b) vid).wrb (F.LNK_UTAG b) tag).wr (F.LNK_UAPPID b)
    (if et = 0x88B8 ∨ et = 0x88BA then x.appid else 0)).wr (F.LNK_UNMV b) 1)

/-- The last smpCnt after some ASDUs, and one more than the last one before a wrap to 0 among them (R150). -/
def smpWrap (l : List SvAsdu) (last : Option Nat) : Option Nat × Option Nat :=
  l.foldl (fun r a => (some a.smpCnt, match r.1 with
    | some q => if a.smpCnt = 0 ∧ 0 < q then some (q + 1) else r.2
    | none => r.2)) (last, none)

/-- The fields of the partner learned from SV frames that pass stage 4 (R150). -/
def partnerLearn (s : State) (p : Nat) (x : RxFrame) : State :=
  let b := portBlock p
  let locked := s.isSet (F.LNK_PV b)
  let a0 : Option SvAsdu := match x.apdu with
    | .sv _ _ l => l.head?
    | _ => none
  if rxEtype s p x ≠ 0x88BA then s
  else if locked && !(decide (s.rd (F.LNK_SMAC b) = x.smac) && decide (s.rd (F.LNK_APPID b) = x.appid)) then s
  else
    let before := (s.word (b + 4), s.word (b + 5))
    let s := if locked then s
      else ((s.wr (F.LNK_PV b) 1).wr (F.LNK_SMAC b) x.smac).wr (F.LNK_APPID b) x.appid
    let s := match a0, x.apdu with
      | some a, .sv _ n l =>
        let (last, wrap) := smpWrap l (s.port p).lastSmp
        let s := if !locked then s
          else
            let s := ((s.wr (F.LNK_SSYN b) a.smpSynch).wr (F.LNK_NASDU b) n).wr (F.LNK_NVAL b) (a.dataOctets / 8)
            match a.smpRate.or wrap with
            | some r => s.wr (F.LNK_SRATE b) r
            | none => s
        s.setPort p { s.port p with lastSmp := last }
      | _, _ => s
    if (s.word (b + 4), s.word (b + 5)) ≠ before then lnkEvent s p F.LNK_PCHG else s

/-- Whether a frame is for the device: its destination MAC matches a subscription of the source, or it is a Pdelay frame
(R139). -/
def forDevice (s : State) (p : Nat) (x : RxFrame) : Bool :=
  (match x.apdu with
    | .ptpPdelay => x.etype = 0x88F7
    | _ => false) ||
  (liveSubs s).any (fun i => decide (subSrc s i = portSrc s p) && decide (subType s i ≠ 3) && decide (subA1 s i 0 48 = x.dmac) &&
    (match portSubPage p with
      | some f => decide (i / 64 = f)
      | none => true))

/-- A frame of EtherType 88B5h that belongs to the peer link (R592). -/
def peerFrame (s : State) (p : Nat) (x : RxFrame) : Bool :=
  s.isSet F.DPX_EN && decide (x.etype = 0x88B5) && decide (1024 ≤ p) && decide (p < 1032) &&
  decide ((p - 1024) / 2 = s.rd F.DPX_PAIR) && decide (x.smac = s.rd F.DPX_PMAC)

/-- Stage 8 on a frame whose entry is present or not, and whether its entry was already made by forwarding (R137, R138):
true when it is delivered. -/
def stage8 (s : State) (p : Nat) (x : RxFrame) (known : Option Bool) : State × Bool :=
  match rxSeq s p x, pairOf p with
  | some q, some pr =>
    let here := known.getD (windowHas s pr x.smac q)
    if here then ((windowDel s pr x.smac q).bump (F.LNK_RXDUP (portBlock p)), false)
    else (if known.isSome then s else windowAdd s pr x.smac q, true)
  | _, _ => (s, true)

/-- The stages of a frame on a port (R129, R139). The answer is the state and whether the frame was left unmatched at
stage 6; `ptp` says whether the port takes a PTP message that it was sent. -/
def rxStages (s : State) (p : Nat) (x : RxFrame) (ptp : Bool) : State × Bool :=
  let b := portBlock p
  if !x.lineOk then (s.bump (F.LNK_RXCRC b), false)
  else if x.len < 64 ∨ s.rd (F.LNK_MAXLEN b) < x.len then (s.bump (F.LNK_RXLEN b), false)
  else if stage3Bad s p x then (s.bump (F.LNK_RXFMT b), false)
  else
    let s := match portPairMode s p, x.red with
      | 1, .prp lan _ => if lan ≠ p % 2 then s.bump (F.LNK_WLAN b) else s
      | _, _ => s
    let hsr := decide (portPairMode s p = 2)
    let multicast := (x.dmac >>> 40).testBit 0
    let dev := forDevice s p x
    let present : Option Bool := match rxSeq s p x, pairOf p with
      | some q, some pr => if hsr && (multicast || !dev) then some (windowHas s pr x.smac q) else none
      | _, _ => none
    let s := match present, rxSeq s p x, pairOf p with
      | some false, some q, some pr =>
        (enqueue (windowAdd s pr x.smac q) (partner p) { cls := 3, signoff := false, red := .hsr q, keyId := none, body := .forwarded x }).bump (fPairFwd pr)
      | _, _, _ => s
    if hsr && !multicast && !dev then (s, false)
    else
      let et := rxEtype s p x
      let s := if p < 1024 then partnerLearn s p x else s
      if et = 0x88F7 then (if ptp then s.bump (F.LNK_RXOK b) else s.bump (F.LNK_RXPTPD b), false)
      else if peerFrame s p x then
        let (s, ok) := stage8 s p x present
        (if ok then s.bump (F.LNK_RXOK b) else s, false)
      else if (et = 0x88B8 ∨ et = 0x88BA) ∧ apduDecodes et x.apdu = false then (s.bump (F.LNK_RXFMT b), false)
      else match (if et = 0x88B8 ∨ et = 0x88BA then rxMatch s p x else none) with
        | none => (rxUnmatched s p x, true)
        | some i =>
          if !authOk s i x then (s.bump (F.LNK_RXAUTH b), false)
          else
            let (s, ok) := stage8 s p x present
            if ok then (subDeliver (s.bump (F.LNK_RXOK b)) i x.apdu, false) else (s, false)

/-- LANE_FRAME_RX (R129, R152): a frame on a lane whose ferrule is not in RUN, or that is not up, is discarded and not
counted. -/
def execLaneFrameRx (t lane : Nat) (frame : RxFrame) (s : State) : Out :=
  let s := s.tick t
  .next (if portEn s lane && isEthernet s lane && portActive s lane && decide (portLst s lane = 4) then
    (rxStages s lane frame (match frame.apdu with
      | .ptpPdelay => true
      | _ => false)).1
  else s)

end Sys2Proof.Machine
end

