-- ==== Sys2Proof/Machine/Cell.lean ====
section
/-! DEFINITION. The cell link (R161 to R186): frames and their CRC, the exchange, the round trip, launches, status frames and
their judgement, and what a reset leaves of a LNK page (R151, R152, R183).
Decisions: log entries 25 (DEDUCED), 32 (DEDUCED). -/

namespace Sys2Proof.Machine
open Sys2Proof

/-- One octet taken into a reflected CRC-32C register (R164). -/
def crcStep (c o : Nat) : Nat :=
  (List.range 8).foldl (fun c _ => if c % 2 = 1 then (c / 2) ^^^ 0x82F63B78 else c / 2) (c ^^^ o % 256)

/-- CRC-32C (R164). -/
def crc32c (l : List Nat) : Nat := (l.foldl crcStep 0xFFFFFFFF) ^^^ 0xFFFFFFFF

/-- A frame: TYPE, FLAGS, SNUM, 24 payload octets and the CRC, least significant octet first (R163, R164). -/
def cellFrame (ty flags snum : Nat) (payload : List Nat) : List Nat :=
  let h := [ty * 16 + 1, flags] ++ octetsOf snum 2 ++ (payload ++ List.replicate 24 0).take 24
  h ++ (octetsOf (crc32c h) 4).reverse

/-- The frame duration in tenths of a ns (R161). -/
def cellDur10 (s : State) (l : Nat) : Nat := if portMode s l = 5 then 1088 else 1360

/-- The PERIOD of a lane's command publication as it stands now (R168). -/
def lanePeriod (s : State) (l : Nat) : Nat :=
  match laneDom s l with
  | some d => domPeriod s d
  | none => 0

/-- PERIOD brought up to date where no stroke boundary is to come: there is no publication, or its domain does not run
(R168, R171). -/
def periodNow (s : State) (l : Nat) : State :=
  match laneDom s l with
  | some d => if s.isSet (F.DOM_RUN d) then s else s.setCell l { s.cell l with period := lanePeriod s l }
  | none => s.setCell l { s.cell l with period := 0 }

/-- CLOFS of a lane's command publication (R177). -/
def laneClofs (s : State) (p : Nat) : Nat := bitsOf (s.rd (F.PUB_A3 p)) 0 20

/-- The CLEN that governs launches (R179). -/
def launchClen (s : State) (l : Nat) : Nat := ((s.cell l).nextClen).getD (s.rd (F.LNK_CLEN (portBlock l)))

/-- The instant L of a stroke, in tenths of a ns of device time, from a schedule (R177). -/
def launch10 (anchor per clofs clen dur10 n : Nat) : Nat := (anchor + n * per + clofs) * 10 - clen * 5 - dur10

/-- A capability frame or echo request that starts now would still be in progress, with four idle code groups, at some L
(R178). -/
def coversLaunch (s : State) (l : Nat) : Bool :=
  match (s.cell l).soCopy with
  | some (a, p, ofs, clen, _) =>
    let d := cellDur10 s l
    let t := s.devTime * 10
    let n := (s.devTime - a) / max p 1
    decide (0 < p) && [n - 1, n, n + 1].any (fun k =>
      decide (t < launch10 a p ofs clen d k) && decide (launch10 a p ofs clen d k < t + d + d * 4 / 34))
  | none => false

/-- A frame goes out on a cell-link lane. -/
def cellPut (s : State) (l : Nat) (octets : List Nat) (signoff : Bool) : State :=
  s.setPort l { s.port l with
    sent := some { cls := 0, signoff := signoff, red := .none, keyId := none, body := .cell octets }, sentAt := s.now }

/-- The exchange fails (R173). -/
def cellFail (s : State) (l cfr : Nat) : State :=
  let s := setLst (s.wr (F.CEL_CFR (portBlock l)) cfr) l 5
  s.setCell l { s.cell l with faultAt := s.now, echoing := false, echoOut := none }

/-- The device's capability frame (R168). -/
def capabilityOut (s : State) (l : Nat) : List Nat :=
  let uid := s.rd F.DEV_UID
  cellFrame 3 (b2n (s.cell l).gotCap) 0 (octetsOf uid 8 ++ octetsOf l 2 ++ octetsOf (s.cell l).period 4)

/-- CELL_CAPABILITY_TX (R172): every 2.0 µs in the capability phase. -/
def execCellCapabilityTx (t lane : Nat) (s : State) : Out :=
  let s := s.tick t
  .next (if portActive s lane && isCell s lane && decide (portLst s lane = 3) && !(s.cell lane).echoing &&
      (decide ((s.cell lane).capAt = 0) || decide ((s.cell lane).capAt - 1 + 2000 ≤ s.now)) && !coversLaunch s lane then
    let s := periodNow s lane
    let s := cellPut s lane (capabilityOut s lane) false
    s.setCell lane { s.cell lane with capAt := s.now + 1 }
  else s)

/-- CELL_ECHO_REQUEST_TX (R172): 1.0 µs after the reply to the request before it. -/
def execCellEchoRequestTx (t lane : Nat) (s : State) : Out :=
  let s := s.tick t
  let c := s.cell lane
  .next (if portActive s lane && isCell s lane && decide (portLst s lane = 3) && c.echoing && c.echoOut.isNone &&
      decide (c.echoIdx < 16) && (decide (c.echoIdx = 0) || decide (c.replyAt + 1000 ≤ s.now)) && !coversLaunch s lane then
    let s := cellPut s lane (cellFrame 4 0 c.echoIdx []) false
    s.setCell lane { s.cell lane with echoOut := some (s.now * 10 + cellDur10 s lane) }
  else s)

/-- A length from a round trip (R148). -/
def clenOf (s : State) (l rtt : Nat) : Nat := rtt - s.rd (F.CEL_TTURN (portBlock l))

/-- A capability frame of the cell (R168, R171 to R173). -/
def capabilityIn (s : State) (l : Nat) (o : List Nat) : State :=
  let b := portBlock l
  let num (i n : Nat) : Nat := ofOctets ((o.drop i).take n)
  let seen := num 1 1 % 2 = 1
  let s := if 3 < portLst s l then setLst s l 3 else s
  if (s.cell l).echoing = false ∧ ¬seen ∧ (s.cell l).gotCap = true then s.bump (F.LNK_RXFMT b)
  else
    let s := periodNow s l
    let before := (s.word (b + 4), s.word (b + 5))
    let s := (((s.wr (F.CEL_PV b) 1).wr (F.CEL_CTYPE b) (num 4 2)).wr (F.CEL_FWVER b) (num 6 4)).wr (F.CEL_TTURN b) (num 10 2)
    let s := ((s.wr (F.CEL_NMEAS b) (min (num 12 1) 15)).wrb (F.CEL_RATE25 b) ((num 13 1).testBit 0)).wrb (F.CEL_RATE31 b) ((num 13 1).testBit 1)
    let s := (s.wr (F.CEL_VLSB b) (num 14 2)).wr (F.CEL_MINPER b) (num 16 2)
    let s := if (s.word (b + 4), s.word (b + 5)) ≠ before then lnkEvent s l F.LNK_PCHG else s
    let s := s.setCell l { s.cell l with gotCap := true, cellSeen := decide seen, minPer := num 16 2 }
    if ¬seen ∨ (s.cell l).echoing = true then s
    else if 8 < num 12 1 ∨ num 10 2 < 100 ∨ 5000 < num 10 2 then cellFail s l 2
    else if (num 13 1).testBit (if portMode s l = 5 then 1 else 0) = false then cellFail s l 3
    else if (s.cell l).period ≠ 0 ∧ (s.cell l).period < num 16 2 * 10 then cellFail s l 4
    else s.setCell l { s.cell l with echoing := true, echoIdx := 0, echoSum := 0, echoOut := none }

/-- An echo reply (R172, R173, R186). -/
def echoReplyIn (s : State) (l : Nat) (o : List Nat) (first : Nat) : State :=
  let b := portBlock l
  let c := s.cell l
  match (if portLst s l = 3 ∧ c.echoing = true ∧ c.echoIdx = ofOctets ((o.drop 2).take 2) then c.echoOut else none) with
  | none => s.bump (F.LNK_RXFMT b)
  | some out =>
    let s := s.bump (F.LNK_RXPTPD b)
    let sum := c.echoSum + (first * 10 - out)
    let s := s.setCell l { c with echoSum := sum, echoIdx := c.echoIdx + 1, echoOut := none, replyAt := s.now }
    if c.echoIdx < 15 then s
    else
      let rtt := (sum + 80) / 160
      let clen := clenOf s l rtt
      if 20000 < clen then cellFail s l 5
      else
        let s := ((s.wr (F.LNK_RTT b) (min rtt (2 ^ 20 - 1))).wr (F.LNK_CLEN b) clen).wr (F.LNK_RTTV b) 1
        let s := setLst (s.wr (F.CEL_CFR b) 0) l 4
        s.setCell l { s.cell l with echoing := false, fails := 0, goods := 0, rttSum := 0, rttN := 0, nextClen := none }

/-- The words of a status frame, in channel order (R180, R209). -/
def statusWords (o : List Nat) : List Word :=
  let num (i n : Nat) : Nat := ofOctets ((o.drop i).take n)
  let v : List Nat := [num 4 2, toField (signedOf (num 6 2) 16) 36, num 8 2, num 1 1] ++
    (List.range 8).map (fun m => num (10 + 2 * m) 2) ++ [num 26 2]
  v.map (fun n => BitVec.ofNat 72 n)

/-- Sign-off frames go out on a lane: its command publication shows its sign-off state (R182). -/
def laneSignoff (s : State) (l : Nat) : Bool :=
  match lanePub s l with
  | some p => s.isSet (F.PUB_SOA_48 (p / 32) (p % 32))
  | none => false

/-- A status frame (R173, R179 to R181, R186, R207). -/
def statusIn (s : State) (l : Nat) (o : List Nat) (first : Nat) : State :=
  let b := portBlock l
  let c := s.cell l
  if portLst s l = 3 then (if laneSignoff s l then s else s.bump (F.LNK_RXFMT b))
  else if cellSends s l = false then s.bump (F.LNK_RXFMT b)
  else match c.last with
    | none => s.bump (F.LNK_RXUNM b)
    | some (snum, stroke, last10) =>
      if ofOctets ((o.drop 2).take 2) ≠ snum then s.bump (F.LNK_RXUNM b)
      else
        let s := s.bump (F.LNK_RXOK b)
        let s := s.setCell l { c with
          rttSum := c.rttSum + (first * 10 - last10), rttN := c.rttN + 1, answered := c.answered.filter (fun n => stroke < n + 8) ++ [stroke] }
        forEach ((liveSubs s).filter (fun i => subType s i = 3 && decide (i / 64 = l / 16) && decide (subSrc s i = l % 16))) s
          (fun s i =>
            let s := if laneDom s l = some (subDom s i) then s else subEval s i
            if s.isSet (F.SUB_SPER_23 i) then s else subPosition s i (stroke + 1) 0 (statusWords o))

/-- A frame of the cell: the checks of R162 to R164, then its type (R173, R186). A lane that is not in exchange, up or
fault, and one whose ferrule is not in RUN, takes none. -/
def cellReceive (s : State) (l : Nat) (rx : CellRx) : State :=
  let b := portBlock l
  let o := rx.octets
  if !portActive s l || !portEn s l || !isCell s l || decide (portLst s l < 3) then s
  else if rx.lineBad then s.bump (F.LNK_RXCRC b)
  else if o.length ≠ 32 then s.bump (F.LNK_RXLEN b)
  else if (octetsOf (crc32c (o.take 28)) 4).reverse ≠ o.drop 28 then s.bump (F.LNK_RXCRC b)
  else if o.getD 0 0 = 0x31 then capabilityIn s l o
  else if o.getD 0 0 = 0x51 then echoReplyIn s l o rx.first
  else if o.getD 0 0 = 0x21 then statusIn s l o rx.first
  else s.bump (F.LNK_RXFMT b)

/-- CELL_CAPABILITY_RX (R172). -/
def execCellCapabilityRx (t lane : Nat) (rx : CellRx) (s : State) : Out := .next (cellReceive (s.tick t) lane rx)

/-- CELL_ECHO_REPLY_RX (R172). -/
def execCellEchoReplyRx (t lane : Nat) (rx : CellRx) (s : State) : Out := .next (cellReceive (s.tick t) lane rx)

/-- CELL_STATUS_RX (R180). -/
def execCellStatusRx (t lane : Nat) (rx : CellRx) (s : State) : Out := .next (cellReceive (s.tick t) lane rx)

/-- CELL_EXCHANGE_TIMEOUT (R173): 10 ms after entering LST 3. -/
def execCellExchangeTimeout (t lane : Nat) (s : State) : Out :=
  let s := s.tick t
  .next (if portActive s lane && isCell s lane && decide (portLst s lane = 3) && decide ((s.cell lane).enteredAt + 10000000 ≤ s.now)
    then cellFail s lane 1 else s)

/-- CELL_ECHO_TIMEOUT (R173): no reply within 25 µs of an echo request. -/
def execCellEchoTimeout (t lane : Nat) (s : State) : Out :=
  let s := s.tick t
  .next (match (s.cell lane).echoOut with
    | some out => if portActive s lane && isCell s lane && decide (portLst s lane = 3) && decide (out + 250000 ≤ s.now * 10)
        then cellFail s lane 5 else s
    | none => s)

/-- CELL_EXCHANGE_RETRY (R173): 100 ms after a failure. -/
def execCellExchangeRetry (t lane : Nat) (s : State) : Out :=
  let s := s.tick t
  let cfr := s.rd (F.CEL_CFR (portBlock lane))
  .next (if portActive s lane && isCell s lane && decide (portLst s lane = 5) && decide (1 ≤ cfr) && decide (cfr ≤ 5) &&
      decide ((s.cell lane).faultAt + 100000000 ≤ s.now) then setLst s lane 3 else s)

/-- The effect of a write of 1 to RELRN in a cell-link mode (R173, R185). -/
def cellRelearn (s : State) (l : Nat) : State :=
  if portLst s l = 4 ∨ portLst s l = 5 then setLst s l 3 else s.ignored (portPage l) (portOff l + 5) 7

/-- CELL_LINK_RELEARN (R185). -/
def execCellLinkRelearn (t init lane : Nat) (s : State) : Out :=
  let s := s.tick t
  .next (if lane < 1024 ∧ isCell s lane = true then
      s.gated init (portPage lane) (portOff lane + 5) (1#72 <<< 48) (fun s => cellRelearn s lane)
    else s)

/-- A command or sign-off frame leaves (R166, R181, R182). -/
def cellSend (s : State) (l stroke : Nat) (words : List Nat) (blk sgn ind : Bool) : State :=
  let payload := (words ++ List.replicate 12 0).take 12 |>.flatMap (fun w => octetsOf w 2)
  let s := cellPut s l (cellFrame 1 (b2n blk + 2 * b2n sgn + 4 * b2n ind) (stroke % 65536) payload) sgn
  let s := match lanePub s l with
    | some p => s.bump (F.PUB_FSENT p)
    | none => s
  let c := s.cell l
  s.setCell l { c with
    last := some (stroke % 65536, stroke, s.now * 10 + cellDur10 s l), sent := c.sent.filter (fun n => stroke < n + 8) ++ [stroke]
    ready := c.ready.filter (fun r => decide (stroke < r.stroke)) }

/-- L of a stroke by the lane's present schedule. -/
def laneLaunch10 (s : State) (l p stroke : Nat) : Nat :=
  let d := bitsOf (s.rd (F.PUB_A0 p)) 9 2
  launch10 (domAnchor s d) (domPeriod s d) (laneClofs s p) (launchClen s l) (cellDur10 s l) stroke

/-- CELL_COMMAND_LAUNCH (R177, R178): at L, within 2 ns, when the frame was ready 10 ns before. A frame that is not ready is
counted in WLAN, unless the publication is in sign-off. -/
def execCellCommandLaunch (t lane stroke : Nat) (s : State) : Out :=
  let s := s.tick t
  let b := portBlock lane
  let c := s.cell lane
  .next (match lanePub s lane with
    | none => s
    | some p =>
      let at' := laneLaunch10 s lane p stroke
      if portEn s lane && isCell s lane && decide (at' ≤ s.devTime * 10 + 20) && !c.sent.contains stroke && decide (c.period ≠ 0) then
        match c.ready.find? (fun r => r.stroke = stroke && decide (r.readyAt * 10 + 100 ≤ at')) with
        | some r =>
          if cellSends s lane || !portActive s lane then
            let s := cellSend s lane stroke r.words r.blk false r.ind
            if portActive s lane then s.bump (F.LNK_TXFRM b) else s
          else s
        | none => if cellSends s lane && !laneSignoff s lane then s.bump (F.LNK_WLAN b) else s
      else s)

/-- CELL_SIGNOFF_LAUNCH (R182, R183): at L while the source is gone; through a reset, from the sign-off transmitter's own
copy. -/
def execCellSignoffLaunch (t lane stroke : Nat) (s : State) : Out :=
  let s := s.tick t
  let c := s.cell lane
  .next (match c.soCopy with
    | none => s
    | some (a, p, ofs, clen, image) =>
      let at' := launch10 a p ofs clen (cellDur10 s lane) stroke
      let reset := !portActive s lane || inChipReset s
      let able := if reset then (s.port lane).sig
        else decide (portLst s lane = 3) || cellSends s lane
      if portEn s lane && isCell s lane && able && (reset || laneSignoff s lane) && decide (p ≠ 0) &&
          decide (at' ≤ s.devTime * 10 + 20) && !c.sent.contains stroke then
        let s := cellSend s lane stroke image true true false
        if reset then s else s.bump (F.LNK_TXSGN (portBlock lane))
      else s)

/-- CELL_RTT_UPDATE (R148, R179): once a second the mean of that second's round trips. -/
def execCellRttUpdate (t lane : Nat) (s : State) : Out :=
  let s := s.tick t
  let b := portBlock lane
  let c := s.cell lane
  .next (if portActive s lane && isCell s lane && cellSends s lane && decide (0 < c.rttN) then
    let rtt := (c.rttSum + 5 * c.rttN) / (10 * c.rttN)
    let old := launchClen s lane
    let s := (s.wr (F.LNK_RTT b) (min rtt (2 ^ 20 - 1))).wr (F.LNK_CLEN b) (min (clenOf s lane rtt) 0xFFFF)
    s.setCell lane { c with rttSum := 0, rttN := 0, nextClen := some old }
  else s)

/-- The judgement of the frame that a lane sent for stroke `n`, at the close of stroke `n + 1` (R181, R186). -/
def cellJudge (s : State) (l n : Nat) : State :=
  let b := portBlock l
  let c := s.cell l
  if c.sent.contains n = false then s
  else
    let ok := c.answered.contains n
    let s := s.setCell l { c with
      sent := c.sent.filter (fun m => m ≠ n), answered := c.answered.filter (fun m => m ≠ n)
      fails := if ok then 0 else c.fails + 1, goods := if ok then c.goods + 1 else 0 }
    let s := if ok then s else s.bump (F.LNK_RXDUP b)
    if ok = false ∧ 2 ≤ c.fails + 1 ∧ portLst s l = 4 then setLst (s.wr (F.CEL_CFR b) 6) l 5
    else if ok = true ∧ 2 ≤ c.goods + 1 ∧ portLst s l = 5 ∧ s.rd (F.CEL_CFR b) = 6 then setLst (s.wr (F.CEL_CFR b) 0) l 4
    else s

/-- The lanes whose command publications are in a domain. -/
def cellLanes (s : State) (d : Nat) : List Nat :=
  ((livePubs s).filter (fun p => pubType s p = 3 && pubDom s p = d)).map (fun p => 16 * (p / 32) + pubDest s p % 16)

/-- A stroke boundary of a domain on its cell-link lanes (R171, R179, R183): PERIOD, the CLEN of launches, and the sign-off
transmitter's copy; lanes without a publication lose theirs. -/
def cellBoundary (s : State) (d n : Nat) : State :=
  let ls := cellLanes s d
  let s := forEach ((s.ports.map (fun e => e.1)).filter (fun l => l < 1024 && (lanePub s l).isNone && decide ((s.cell l).period ≠ 0))) s
    (fun s l =>
      let s := s.setCell l { s.cell l with period := 0, soCopy := none }
      if portActive s l && isCell s l && cellSends s l then setLst s l 3 else s)
  forEach ls s (fun s l =>
    match lanePub s l with
    | none => s
    | some p =>
      let c := s.cell l
      let per := lanePeriod s l
      let im := imageWords s (p / 32) (pubSbase s p (openAt s d n)) 3 (openAt s d n)
      let image := (List.range 12).map (fun k => getField (im.getD (k / 4) 0) (16 * (k % 4)) 16)
      let s := s.setCell l { c with period := per, nextClen := none }
      let s := s.setCell l { s.cell l with
        soCopy := some (domAnchor s d, per, laneClofs s p, s.rd (F.LNK_CLEN (portBlock l)), image) }
      if c.period ≠ per ∧ portActive s l = true ∧ cellSends s l = true then setLst s l 3 else s)

/-- A LNK page is reset with its ferrule (R151, R152, R183): every word but LCFG and PAIRCFG, and the duplicate windows.
Frames that are ready stay in the schedulers. -/
def lnkReset (s : State) (f : Nat) : State :=
  let p := lnkPage f
  let s := (s.headerReset p).resetWords (p * 512 + 9) 11
  let s := forEach (List.range 8) s (fun s j => { s with pairs := tset s.pairs (8 * f + j) {} })
  forEach (List.range 16) s (fun s n =>
    let l := 16 * f + n
    let x := s.port l
    let c := x.cell
    (s.resetWords (p * 512 + 33 + 16 * n) 13).setPort l { x with
      pdelay := none, lastSmp := none
      cell := { ({} : Cell) with last := c.last, sent := c.sent, ready := c.ready, soCopy := c.soCopy, period := c.period,
                                 nextClen := some (launchClen s l) } })

/-- The reset of a LNK page ends (R152, R183): link state is evaluated again, and an Ethernet lane that kept synchronisation
is up at once. -/
def lnkResetEnd (s : State) (f : Nat) : State :=
  forEach (List.range 16) s (fun s n =>
    let l := 16 * f + n
    let b := portBlock l
    let s := showSig s l
    if portEn s l && decide (portMode s l ≠ 0) then
      if (s.port l).sig && (s.port l).pcs then
        (if isCell s l then startExchange (s.wr (F.LNK_LST b) 3) l else s.wr (F.LNK_LST b) 4)
      else s.wr (F.LNK_LST b) (if (s.port l).sig then 2 else 1)
    else s)

end Sys2Proof.Machine
end

