-- ==== Sys2Proof/Machine/Trips.lean ====
section
/-! DEFINITION. Trip lines, scheduled edges and binary inputs (R355 to R358), what an egress point shows of a function's
stroke (R336 to R340), and the entry of targets into sign-off (R341, R342).
Decisions: log entries 47 (DEDUCED), 48 (DEDUCED), 81 (DEDUCED), 87 (DEDUCED). -/

namespace Sys2Proof.Machine
open Sys2Proof

/-- A trip line and binary input beside their registers. -/
def State.trip (s : State) (f : Nat) : Trip := tget s.trips f
def State.setTrip (s : State) (f : Nat) (x : Trip) : State := { s with trips := tset s.trips f x }

/-- The TL_CFG word of a trip line: TEN, POL, TMODE, TSOFF, OSEL (R359). -/
def tlCfgAddr (f : Nat) : Nat := pubPage f * 512 + 32
def cfgTen (w : Word) : Bool := getField w 0 1 = 1
def cfgPol (w : Word) : Bool := getField w 1 1 = 1
def cfgTmode (w : Word) : Bool := getField w 2 1 = 1
def cfgTsoff (w : Word) : Nat := getField w 3 2
def cfgOsel (w : Word) : Nat := getField w 5 6

/-- The line shows its sign-off state (R341, R356): in TMODE 1 conditions 1 to 3 do not apply. -/
def tripSignoff (s : State) (f : Nat) (cfg : Word) : Bool :=
  !s.isSet F.CSN_ARMED || inChipReset s || (!cfgTmode cfg && decide ((s.trip f).mode = 0))

/-- The level of the ball by the first matching row of R355. -/
def tripLevel (s : State) (f : Nat) (cfg : Word) : Bool :=
  let x := s.trip f
  let active := !cfgPol cfg
  let inactive := cfgPol cfg
  if cfgTen cfg = false ∨ s.isSet (F.PUB_BLATCH f) = true then inactive
  else if tripSignoff s f cfg then
    (if cfgTsoff cfg = 0 then false else if cfgTsoff cfg = 1 then true
      else if cfgTsoff cfg = 2 then s.isSet (F.PUB_LVL f) else inactive)
  else if cfgTmode cfg then (if x.sched then active else inactive)
  else if x.prev then active else inactive

/-- The line is driven (R344, R355, R359): entry into sign-off is counted, a force block latches, and an edge is
stamped. -/
def tripDrive (s : State) (f : Nat) (cfg : Word) : State :=
  let so := cfgTen cfg && tripSignoff s f cfg
  let x := s.trip f
  let s := if so && !x.so then (s.bump (F.PUB_NSOFF f)).wr (F.PUB_TLSOFF f) 1 else s
  let s := s.setTrip f { x with so := so }
  let s := if so && decide (cfgTsoff cfg = 3) && s.isSet F.CSN_ARMED && !s.isSet (F.PUB_BLATCH f) then
      (s.wr (F.PUB_BLATCH f) 1).wr (F.PUB_TLBLK f) 1 else s
  let s := s.wrb (F.PUB_SOA_33 f) (so && !s.isSet (F.PUB_BLATCH f))
  let lvl := tripLevel s f cfg
  if lvl = s.isSet (F.PUB_LVL f) then s
  else ((s.wrb (F.PUB_LVL f) lvl).wr (F.PUB_EDGE f) (timeWord s.devTime).toNat).bump (F.PUB_NEDGE f)

/-- The line is driven under its present configuration. -/
def tripNow (s : State) (f : Nat) : State := tripDrive s f (s.word (tlCfgAddr f))

/-- A stroke of a trip line is shown by a result or by policy (R336, R337, R340). -/
def tripShow (s : State) (f n ipol : Nat) (dom : Nat) (res : Option (List Word)) : State :=
  let cfg := s.csWord (tlCfgAddr f) (openAt s dom n)
  let x := s.trip f
  if cfgTmode cfg = true ∨ n < x.shown then s
  else
    let act := match res with
      | some ws => getField (ws.getD (cfgOsel cfg) 0) 0 1 = 1
      | none => if ipol = 0 then x.prev else ipol = 1
    let s := s.setTrip f { x with prev := act, mode := if res.isSome then 2 else 1, shown := n }
    tripDrive ((s.wrb (F.PUB_PIND_33 f) res.isNone).wr (F.PUB_LSTR f) n) f cfg

/-- A trip line enters its sign-off state (R341, R342). -/
def tripEnter (s : State) (f : Nat) : State := tripNow (s.setTrip f { s.trip f with mode := 0 }) f

/-- A point shows a stroke of a function, by a result or by policy, on every target it has there; while a target's source
is gone its sign-off state stands (R337, R341, R342). -/
def showPoint (s : State) (fn point n : Nat) (res : Option (List Word)) : State :=
  if !s.isSet F.CSN_ARMED || inChipReset s || (decide (point < 64) && !ferRun s point) then s
  else
    let d := (s.fn fn).desc
    forEach (d.targets.filter (fun w => targetPoint s w = point)) s (fun s w =>
      match targetLine w with
      | some l => tripShow s l n d.ipol d.dom res
      | none => pubShow s (targetPub w) n d.ipol d.crit res)

/-- A trip line's and its ferrule's lane publications' sources are gone: their ferrule left RUN (R341 condition 3). -/
def signoffFerrule (s : State) (f : Nat) : State :=
  let s := tripEnter s f
  forEach ((livePubs s).filter (fun p => p / 32 = f && decide (pubDest s p < 0x40))) s pubSignoffNow

/-- Every target enters sign-off: a chip reset, ARMED 0 (R341, R342). -/
def signoffAll (s : State) : State :=
  let s := forEach (List.range 64) s tripEnter
  forEach (livePubs s) s pubSignoffNow

/-- A pending scheduled edge is cancelled (R356). -/
def schedCancel (s : State) (f : Nat) : State :=
  if s.isSet (F.PUB_SPEND f) then
    (((s.wr (F.PUB_SPEND f) 0).bump (F.PUB_SMISS_36 f)).wr (F.PUB_SMISS_26 f) 1).pageErr (pubPage f) 0x11 36 0
  else s

/-- The effect of a write of TL_SCHT (R356). -/
def schtWrite (s : State) (f : Nat) (value : Word) : State :=
  if s.isSet (F.PUB_SPEND f) then s.ignored (pubPage f) 35 7 else s.wr (F.PUB_SCHT f) value.toNat

/-- The effect of a write of TL_SCHL (R356): SLVL, then SCAN, then SARM. -/
def schlWrite (s : State) (f : Nat) (value : Word) : State :=
  let pend := s.isSet (F.PUB_SPEND f)
  let sarm := getField value 1 1 = 1
  let scan := getField value 2 1 = 1
  let s := if pend then s else s.wr (F.PUB_SLVL f) (getField value 0 1)
  let ok := s.isSet (F.PUB_TEN f) && s.isSet (F.PUB_TMODE f) && s.isSet F.CSN_ARMED && !pend &&
    decide ((timeWord (s.devTime + 1000)).toNat ≤ s.rd (F.PUB_SCHT f))
  let s := if scan then schedCancel s f else s
  if sarm then (if ok then s.wr (F.PUB_SPEND f) 1 else s.ignored (pubPage f) 36 7)
  else if pend && !scan then s.ignored (pubPage f) 36 7 else s

/-- TRIP_SCHED_ARM (R356): a write of TL_SCHL with SARM 1. -/
def execTripSchedArm (t init line : Nat) (value : Word) (s : State) : Out :=
  let value := putField value 1 1 1
  .next ((s.tick t).gated init (pubPage line) 36 value (fun s => schlWrite s line value))

/-- TRIP_SCHED_CANCEL (R356): a write of 1 to SCAN. -/
def execTripSchedCancel (t init line : Nat) (s : State) : Out :=
  let value := putField (BitVec.ofNat 72 (s.rd (F.PUB_SLVL line))) 2 1 1
  .next ((s.tick t).gated init (pubPage line) 36 value (fun s => schlWrite s line value))

/-- SCHEDULED_EDGE_FIRE (R356): a pending edge whose time has come reaches the ball. -/
def execScheduledEdgeFire (t line : Nat) (s : State) : Out :=
  let s := s.tick t
  .next (if s.isSet (F.PUB_SPEND line) && decide (s.rd (F.PUB_SCHT line) ≤ (timeWord s.devTime).toNat) then
    let s := s.wr (F.PUB_SPEND line) 0
    tripNow (s.setTrip line { s.trip line with sched := s.isSet (F.PUB_SLVL line), schedAny := true }) line
  else s)

/-- The head of a binary input's queue as BI_STAT, BI_EVT0 and BI_EVT1 show it (R357, R359). -/
def biHead (s : State) (f : Nat) : State :=
  let q := (s.trip f).queue
  let s := s.wr (F.PUB_BDEPTH f) q.length
  match q with
  | (lvl, stamp, rst) :: _ =>
    (((s.wr (F.PUB_ETIME f) (timeWord stamp).toNat).wrb (F.PUB_ELVL f) lvl).wr (F.PUB_EV f) 1).wrb (F.PUB_ERST f) rst
  | [] => (((s.wr (F.PUB_ETIME f) 0).wr (F.PUB_ELVL f) 0).wr (F.PUB_EV f) 0).wr (F.PUB_ERST f) 0

/-- A level is accepted (R357, R358): BLVL changes and an event is queued, or dropped while 16 are queued. -/
def biAccept (s : State) (f : Nat) : State :=
  let x := s.trip f
  let lvl := s.isSet (F.PUB_RAW f)
  let s := s.wrb (F.PUB_BLVL f) lvl
  if x.queue.length < 16 then
    biHead ((s.setTrip f { x with queue := x.queue ++ [(lvl, x.since, x.fresh)], fresh := false }).wr (F.PUB_BIEV f) 1) f
  else ((s.setTrip f { x with fresh := false }).bump (F.PUB_BLOST f)).wr (F.PUB_BILOST f) 1

/-- Whether a new level has held for DEB × 10 µs (R357); the first level after a reset is accepted whatever it is
(R358). -/
def biDue (s : State) (f : Nat) : Bool :=
  let x := s.trip f
  s.isSet (F.PUB_BEN f) && ferRun s f && (x.fresh || s.rd (F.PUB_RAW f) != s.rd (F.PUB_BLVL f)) &&
  decide (x.since + s.rd (F.PUB_DEB f) * 10000 ≤ s.devTime)

/-- The input is sampled (R357). -/
def biSample (s : State) (f : Nat) : State :=
  if s.isSet (F.PUB_BEN f) && ferRun s f then
    let raw := (s.trip f).ball != s.isSet (F.PUB_BINV f)
    let s := if raw = s.isSet (F.PUB_RAW f) then s
      else (s.wrb (F.PUB_RAW f) raw).setTrip f { s.trip f with since := s.devTime }
    if s.rd (F.PUB_DEB f) = 0 ∧ biDue s f = true then biAccept s f else s
  else s

/-- BINARY_INPUT_CHANGE (R357): the level at the ball. -/
def execBinaryInputChange (t input : Nat) (ball : Bool) (s : State) : Out :=
  let s := s.tick t
  .next (biSample (s.setTrip input { s.trip input with ball := ball }) input)

/-- BINARY_INPUT_ACCEPT (R357). -/
def execBinaryInputAccept (t input : Nat) (s : State) : Out :=
  let s := s.tick t
  .next (if biDue s input then biAccept s input else s)

/-- The effect of a read of BI_EVT1 without the inspect attribute (R357): the head event is removed. -/
def biPop (s : State) (f : Nat) : State :=
  let x := s.trip f
  biHead (s.setTrip f { x with queue := x.queue.drop 1 }) f

/-- BI_EVENT_POP (R357). -/
def execBiEventPop (t init input : Nat) (s : State) : Out :=
  .next ((s.tick t).gatedRead init (pubPage input) 43 (fun s => biPop s input))

/-- A binary input's logic is reset with its ferrule (R358). -/
def biReset (s : State) (f : Nat) : State :=
  let s := (s.wr (F.PUB_BLVL f) 0).wr (F.PUB_RAW f) 0
  biHead (s.setTrip f { s.trip f with queue := [], fresh := false }) f

/-- The reset of a binary input ends (R358): the present level is accepted after DEB. -/
def biResetEnd (s : State) (f : Nat) : State :=
  let raw := (s.trip f).ball != s.isSet (F.PUB_BINV f)
  biSample ((s.wrb (F.PUB_RAW f) (raw && s.isSet (F.PUB_BEN f))).setTrip f { s.trip f with fresh := true, since := s.devTime }) f

/-- The targets of a function name it as the source they show, or no source (R341 condition 1). -/
def setOwner (s : State) (fn : Nat) (own : Bool) : State :=
  let v := if own then fn + 1 else 0
  let d := (s.fn fn).desc
  forEach d.targets s (fun s w =>
    match targetLine w with
    | some l => s.setTrip l { s.trip l with owner := v, dom := d.dom }
    | none => s.setPub (targetPub w) { s.pub (targetPub w) with owner := v })

/-- PSTATE of the publications that a function targets (R336, R359): 10b from its creation until it is free. -/
def setPstate (s : State) (fn : Nat) (held : Bool) : State :=
  forEach ((s.fn fn).desc.targets.filter (fun w => (targetLine w).isNone)) s (fun s w =>
    let p := targetPub w
    if s.rd (F.PUB_PSTATE_18 p) = 0 then s
    else (s.wr (F.PUB_PSTATE_18 p) (if held then 2 else 1)).wr (F.PUB_PSTATE_48 (p / 32) (p % 32)) (if held then 2 else 1))

/-- The stroke of a function is skipped for its targets as far as the opening shows it (R237, R342): neither placement is
on a ferrule in RUN with its nib not halted. -/
def sourceStopped (s : State) (fn : Nat) : Bool :=
  (s.fn fn).places.all (fun q => !ferRun s q.2.fer || decide (s.rd (F.FER_NST q.2.fer q.2.nib) = 2))

/-- A function is a present source in a stroke: placed, at or after its FSTART (R312, R341 condition 1). -/
def sourceLive (s : State) (owner n : Nat) : Bool :=
  decide (owner ≠ 0) && isPlaced s (owner - 1) && decide ((s.fn (owner - 1)).first ≤ n)

/-- Condition 5 of R341 for a publication. -/
def pubLaneOff (s : State) (p : Nat) : Bool :=
  decide (pubType s p = 3) && (!cellSends s (16 * (p / 32) + pubDest s p % 16) || decide (domPeriod s (pubDom s p) = 0))

/-- The targets of a domain as a stroke opens (R341 to R343). -/
def openTargets (s : State) (d n : Nat) : State :=
  let off := !s.isSet F.CSN_ARMED || inChipReset s
  let s := forEach (List.range 64) s (fun s f =>
    let o := (s.trip f).owner
    if (s.trip f).dom = d then
      (if off || !ferRun s f || !sourceLive s o n || sourceStopped s (o - 1) then
        tripEnter (s.setTrip f { s.trip f with shown := n }) f
      else s)
    else s)
  forEach ((livePubs s).filter (fun p => pubDom s p = d)) s (fun s p =>
    let o := (s.pub p).owner
    let lane := pubLaneOff s p
    if off || pubFerOff s p || !sourceLive s o n || sourceStopped s (o - 1) || lane then
      let s := s.setPub p { s.pub p with shown := if lane then n + 1 else n }
      pubSignoff (pubEnter s p) p n true
    else s)

end Sys2Proof.Machine
end

