-- ==== Sys2Proof/Machine/Egress.lean ====
section
/-! DEFINITION. Egress and comparison points (R270 to R273, R319, R323, R338, R339): the arrival of outputs and error
notices, the comparison of twins and their decision, gateway legs, and the deadlines.
Decisions: log entries 4 (DESIGN CHOICE), 41 (DEDUCED), 82 (DEDUCED). -/

namespace Sys2Proof.Machine
open Sys2Proof

/-- The last stroke decided at a point, plus 1 (R339). -/
def decidedAt (s : State) (fn point : Nat) : Nat := tget s.rul.decided (fn * 128 + point)

/-- A stroke is decided at a point. -/
def setDecided (s : State) (fn point stroke : Nat) : State :=
  { s with rul := { s.rul with decided := tset s.rul.decided (fn * 128 + point) (stroke + 1) } }

/-- Whether a twin's stroke is decided without comparison (R273). -/
def runsSolo (x : Fn) : Bool := !x.desc.twin || decide (x.alone ≠ 0)

/-- The twins of a move. -/
def moveTwins (m : Move) : List Nat := (if bitOf m.twins 0 then [0] else []) ++ (if bitOf m.twins 1 then [1] else [])

/-- A comparison of the shadow stroke comes out for a twin at a point (R327): the first disagreement, or the agreement of
every point, is an event of the ruler. -/
def shadowNote (s : State) (fn twin point : Nat) (ok : Bool) : State :=
  let x := s.fn fn
  match x.move with
  | some m =>
    if m.told || !m.shadow then s
    else if ok then
      let m := { m with agreed := (twin, point) :: m.agreed }
      let all := (moveTwins m).all (fun t => (outPoints s x).all (fun p => m.agreed.contains (t, p)))
      let s := s.setFn fn { x with move := some { m with told := all } }
      if all then s.rulEvent (.shadow fn true) else s
    else (s.setFn fn { x with move := some { m with told := true, bad := setBitN m.bad twin } }).rulEvent (.shadow fn false)
  | none => s

/-- The shadow messages at a point are compared as far as they can be (R325, R327): with what was used, or with each
other. -/
def shadowSettle (s : State) (fn point : Nat) : State :=
  match (s.fn fn).move with
  | some m =>
    let twin := (s.fn fn).desc.twin
    let here := s.rul.shadows.filter (fun (q : OutMsg) => q.fn = fn && q.point = point && q.stroke = m.ns)
    let same (a b : Option (List Word × Word)) : Bool := match a, b with
      | some p, some q => p.1 == q.1 && (!twin || p.2 == q.2)
      | none, none => true
      | _, _ => false
    let res (q : OutMsg) : Option (List Word × Word) := if q.err then none else some (q.words, q.sdig)
    if m.pair then
      match here.find? (fun q => q.twin = 0), here.find? (fun q => q.twin = 1) with
      | some a, some b =>
        let s := shadowNote s fn 0 point (same (res a) (res b))
        shadowNote s fn 1 point (same (res a) (res b))
      | _, _ => s
    else
      match s.rul.used.find? (fun (u : OutMsg) => u.fn = fn && u.point = point && u.stroke = m.ns) with
      | some u => forEach here s (fun s (q : OutMsg) => shadowNote s fn q.twin point (same (res q) (res u)))
      | none => s
  | none => s

/-- The outcome of a stroke at a point: the result is used, or the policy; a skipped stroke stays in sign-off (R337, R341).
The result used in a shadow stroke is kept for its comparison (R327), and a comparison point sends its gateway legs
(R317). -/
def usePoint (s : State) (fn point stroke : Nat) (res : Option (List Word × Word)) : State :=
  let x := s.fn fn
  let s := setDecided s fn point stroke
  let skipped := res.isNone && strokeSkipped s fn stroke
  let s := match x.move with
    | some m =>
      if m.shadow && decide (m.ns = stroke) && !skipped then
        let u : OutMsg := { fn := fn, twin := 0, point := point, stroke := stroke, err := res.isNone,
                            words := (res.getD ([], 0)).1, sdig := (res.getD ([], 0)).2, shadow := true }
        shadowSettle { s with rul := { s.rul with used := s.rul.used ++ [u] } } fn point
      else s
    | none => s
  if skipped then s
  else
    let words := res.map (fun r => r.1)
    let s := if x.desc.twin && decide (point < 64) then
        let gs := (egressPoints s x).filter (fun g => decide (64 ≤ g) && decide (besideGateway (g - 64) = point))
        { s with rul := { s.rul with legs := s.rul.legs ++ gs.map (fun g => (fn, g, stroke, words)) } } else s
    showPoint s fn point stroke words

/-- What a twin's message at a point says: its words and store digest, or a detected error. -/
def twinMsg (s : State) (fn twin point stroke : Nat) : Option OutMsg :=
  s.rul.atPoint.find? (fun m => m.fn = fn && m.twin = twin && m.point = point && m.stroke = stroke)

/-- The run of a twin is skipped in a stroke, or its ferrule is not in RUN: what is missing is not an error that it made
(R237, R328). -/
def twinSkipped (s : State) (fn twin stroke : Nat) : Bool :=
  let f := if twin = 0 then (s.fn fn).a.fer else (s.fn fn).b.fer
  isSkipped s f fn stroke || !ferRun s f

/-- Whether a decision calls for re-ruling (R273): not when every error in it is excused (R272) or comes of a skipped run
(R328). -/
def callsForRuling (s : State) (fn tws stroke : Nat) (a b : Option OutMsg) : Bool :=
  let excused (m : Option OutMsg) (twin : Nat) : Bool := match m with
    | some q => q.err && q.excused
    | none => twinSkipped s fn twin stroke
  if tws = 1 then false
  else if tws = 2 then !excused a 0
  else if tws = 3 then !excused b 1
  else if tws = 4 then true
  else !(excused a 0 && excused b 1)

/-- The decision of a twin function's stroke at a comparison point (R271, R243): the CMP entry, the outcome for the
point's own targets and gateway legs, and from the lowest point the decision to both twin ferrules (R272). -/
def twinDecide (s : State) (fn point stroke : Nat) : State :=
  let x := s.fn fn
  let a := twinMsg s fn 0 point stroke
  let b := twinMsg s fn 1 point stroke
  let ok (m : Option OutMsg) : Bool := match m with
    | some q => !q.err
    | none => false
  let same := (a.map (fun m => (m.words, m.sdig))) == (b.map (fun m => (m.words, m.sdig)))
  let tws := if ok a && ok b then (if same then 1 else 4) else if ok b then 2 else if ok a then 3 else 5
  let ind := decide (4 ≤ tws)
  let used := if ind then none else if tws = 2 then b else a
  let (fa, s) := s.free 72
  let (fb, s) := s.free 72
  let dig (m : Option OutMsg) (v : Word) : Word := match m with
    | some q => if q.err then v else q.sdig
    | none => v
  let odig := match used with
    | some m => digest72 m.words
    | none => 0
  let s := ledgerWrite s point x.desc.dom [ledgerWord0 stroke x.desc.dom 2 fn (tws + 8 * b2n ind), odig, dig a fa, dig b fb]
  let s := { s with rul := { s.rul with atPoint := s.rul.atPoint.filter (fun m =>
    !(decide (m.fn = fn) && decide (m.point = point) && decide (m.stroke ≤ stroke))) } }
  let s := if point = lowestPoint s x then
      let cA := decide (tws = 1 ∨ tws = 3)
      let cB := decide (tws = 1 ∨ tws = 2)
      let s := { s with rul := { s.rul with decisions := s.rul.decisions ++ [(fn, 0, stroke, cA, cB), (fn, 1, stroke, cA, cB)] } }
      let s := if ind && !strokeSkipped s fn stroke then s.bump (F.DOM_NIND x.desc.dom) else s
      let s := noteRec s fn stroke (fun r => { r with ind := ind, odig := used.map (fun m => digest72 m.words) })
      if callsForRuling s fn tws stroke a b then s.rulEvent (.twinOutcome fn tws) else s
    else s
  usePoint s fn point stroke (used.map (fun m => (m.words, m.sdig)))

/-- A comparison deadline passes (R271): a twin whose message has not arrived counts as having reported an error. -/
def compareDeadline (s : State) (fn point stroke : Nat) : State :=
  let s := (s.wr (F.FER_CDLM point) 1).pageErr (ferPage point) 0x11 12 fn
  twinDecide s fn point stroke

/-- Whether a stroke of a function is undecided at a point when its deadline has come, `slack` ns past it (R323). -/
def deadlinePast (s : State) (fn point stroke slack : Nat) : Bool :=
  let x := s.fn fn
  isPlaced s fn && (allPoints s x).contains point && decide (x.first ≤ stroke) &&
  decide (stroke ≤ curStroke s x.desc.dom) && decide (decidedAt s fn point ≤ stroke) &&
  decide (openAt s x.desc.dom stroke + edlNs s fn point + slack ≤ s.devTime)

/-- A point that decides: a gateway, or a ferrule in RUN (R272). -/
def pointRuns (s : State) (point : Nat) : Bool := decide (64 ≤ point) || ferRun s point

/-- A deadline that a point in RUN is to act on. -/
def deadlineDue (s : State) (fn point stroke slack : Nat) : Bool :=
  deadlinePast s fn point stroke slack && pointRuns s point

/-- A deadline that comes while its point is out of RUN (R272): the stroke is never decided there, and the lowest point sends
no decision. -/
def deadlineLost (s : State) (fn point stroke : Nat) : State :=
  if deadlinePast s fn point stroke 0 && !pointRuns s point then
    let s := setDecided s fn point stroke
    if point = lowestPoint s (s.fn fn) then { s with rul := { s.rul with unsent := tset s.rul.unsent fn (stroke + 1) } } else s
  else s

/-- A deadline that has passed decides the stroke at its point (R271, R323, R338). -/
def passDeadline (s : State) (fn point stroke slack : Nat) : State :=
  if deadlineDue s fn point stroke slack then
    (if !runsSolo (s.fn fn) && decide (point < 64) then compareDeadline s fn point stroke
      else usePoint s fn point stroke none)
  else s

/-- A message reaches its point (R271, R338, R339): after the deadline or the decision it is late and only counted; a
point out of RUN loses it; a twin's message waits for the other's. -/
def deliver (s : State) (m : OutMsg) : State :=
  let s := passDeadline s m.fn m.point m.stroke 1
  let x := s.fn m.fn
  if decide (m.point < 64) && !ferRun s m.point then s
  else if m.stroke < decidedAt s m.fn m.point then s.bump (F.RUL_NLOUT m.fn)
  else if runsSolo x then
    (if x.desc.twin && decide (m.twin + 1 ≠ x.alone) then s
      else usePoint s m.fn m.point m.stroke (if m.err then none else some (m.words, m.sdig)))
  else
    let s := { s with rul := { s.rul with atPoint := s.rul.atPoint ++ [m] } }
    if (twinMsg s m.fn (1 - m.twin) m.point m.stroke).isSome then twinDecide s m.fn m.point m.stroke else s

/-- A message on its way arrives. -/
def arrive (s : State) (fn twin point stroke : Nat) (err : Bool) : State :=
  let is (m : OutMsg) : Bool := m.fn = fn && m.twin = twin && m.point = point && m.stroke = stroke && (m.err == err) && !m.shadow
  match s.rul.outputs.find? is with
  | some m => deliver { s with rul := { s.rul with outputs := s.rul.outputs.filter (fun q => !is q) } } m
  | none => s

/-- OUTPUT_MESSAGE_ARRIVE (R271, R339). -/
def execOutputMessageArrive (t fn twin point stroke : Nat) (s : State) : Out :=
  .next (arrive (s.tick t) fn twin point stroke false)

/-- ERROR_NOTICE_ARRIVE (R270, R338). -/
def execErrorNoticeArrive (t fn twin point stroke : Nat) (s : State) : Out :=
  .next (arrive (s.tick t) fn twin point stroke true)

/-- TWIN_COMPARE_DEADLINE (R271). -/
def execTwinCompareDeadline (t fn point stroke : Nat) (s : State) : Out :=
  let s := s.tick t
  .next (if deadlineDue s fn point stroke 0 && !runsSolo (s.fn fn) && decide (point < 64) then compareDeadline s fn point stroke
    else deadlineLost s fn point stroke)

/-- EGRESS_DEADLINE (R323, R338). -/
def execEgressDeadline (t fn point stroke : Nat) (s : State) : Out :=
  let s := s.tick t
  .next (if deadlineDue s fn point stroke 0 && (runsSolo (s.fn fn) || decide (64 ≤ point)) then usePoint s fn point stroke none
    else if runsSolo (s.fn fn) then deadlineLost s fn point stroke else s)

/-- The run of a twin on its present placement. -/
def twinCtx (s : State) (fn twin : Nat) : RunCtx :=
  let x := s.fn fn
  let p := if twin = 0 then x.a else x.b
  { f := p.fer, n := p.nib, k := p.slot, fn := fn, x := x, twin := twin, p := p, isNew := false }

/-- A decision reaches a twin ferrule (R272): a run that has ended commits or discards, a run in progress holds it for its
END, and otherwise it is discarded. -/
def takeDecision (s : State) (fn twin stroke : Nat) (cA cB : Bool) : State :=
  let c := twinCtx s fn twin
  let x := s.fn fn
  let b := s.nib c.f c.n
  if !ferRun s c.f then s
  else if (if twin = 0 then x.waitA else x.waitB) = stroke + 1 then
    applyDecision (s.setFn fn (if twin = 0 then { x with waitA := 0 } else { x with waitB := 0 })) c stroke cA cB
  else if s.rd (F.FER_NST c.f c.n) = 1 ∧ b.slot = c.k ∧ b.stroke = stroke then
    s.setFn fn (if twin = 0 then { x with heldA := (stroke + 1, cA, cB) } else { x with heldB := (stroke + 1, cA, cB) })
  else s

/-- TWIN_DECISION_ARRIVE (R272). -/
def execTwinDecisionArrive (t fn twin stroke : Nat) (s : State) : Out :=
  let s := s.tick t
  let is (d : Nat × Nat × Nat × Bool × Bool) : Bool := d.1 = fn && d.2.1 = twin && d.2.2.1 = stroke
  .next (match s.rul.decisions.find? is with
    | some (_, _, _, cA, cB) =>
      takeDecision { s with rul := { s.rul with decisions := s.rul.decisions.filter (fun d => !is d) } } fn twin stroke cA cB
    | none => s)

/-- GATEWAY_LEG_ARRIVE (R317, R339): the decided outputs reach the gateway. -/
def execGatewayLegArrive (t fn gateway stroke : Nat) (s : State) : Out :=
  let s := s.tick t
  let is (d : Nat × Nat × Nat × Option (List Word)) : Bool := d.1 = fn && d.2.1 = gateway && d.2.2.1 = stroke
  .next (match s.rul.legs.find? is with
    | some (_, _, _, res) =>
      let s := { s with rul := { s.rul with legs := s.rul.legs.filter (fun d => !is d) } }
      let s := passDeadline s fn gateway stroke 1
      if stroke < decidedAt s fn gateway then s.bump (F.RUL_NLOUT fn)
      else usePoint s fn gateway stroke (res.map (fun ws => (ws, 0)))
    | none => s)

/-- SHADOW_MESSAGE_ARRIVE (R319, R327): a message of the shadow stroke is compared with what was used; one that comes after
its EDL, or that cannot be compared, disagrees. -/
def execShadowMessageArrive (t fn twin point stroke : Nat) (s : State) : Out :=
  let s := s.tick t
  let is (m : OutMsg) : Bool := m.fn = fn && m.twin = twin && m.point = point && m.stroke = stroke && m.shadow
  .next (match s.rul.outputs.find? is with
    | some m =>
      let s := { s with rul := { s.rul with outputs := s.rul.outputs.filter (fun q => !is q) } }
      if decide (point < 64) && !ferRun s point then s
      else match (s.fn fn).move with
        | some v =>
          if v.ns ≠ stroke then s
          else if openAt s (s.fn fn).desc.dom stroke + shadowEdlNs s fn point < s.devTime then shadowNote s fn twin point false
          else shadowSettle { s with rul := { s.rul with shadows := s.rul.shadows ++ [m] } } fn point
        | none => s
    | none => s)

end Sys2Proof.Machine
end

