-- ==== Sys2Proof/Machine/Place.lean ====
section
/-! DEFINITION. Placement and its proof (R313 to R324): what is free on a ferrule, the choice of a nib, the allotment of
words and rings, the flows, the checks of the proof, the order of the candidates, and what the pages show of it.
Decisions: log entries 42 (DEDUCED), 43 (DEDUCED). -/

namespace Sys2Proof.Machine
open Sys2Proof

/-- Words of an image store (R308, R315). -/
def Descr.iw (d : Descr) : Nat := (d.plen + 4) / 5 + (d.xcon' + 1) / 2 + (d.ycon' + 1) / 2

/-- The placements of a function that hold words and slots: present ones, unless the function is in transit without
them, and those of a move. -/
def heldPlaces (s : State) (i : Nat) : List (Nat × Place) :=
  let x := s.fn i
  (if s.rd (F.RUL_FST i) = 3 ∧ x.held = false then []
    else if x.desc.twin then [(0, x.a), (1, x.b)] else [(0, x.a)]) ++
  (match x.move with
    | some m => (moveTwins m).map (fun t => (t, if t = 0 then m.a else m.b))
    | none => [])

/-- Every held placement of the device: function, twin, placement. -/
def allPlaces (s : State) : List (Nat × Nat × Place) :=
  (liveFns s).flatMap (fun i => (heldPlaces s i).map (fun q => (i, q.1, q.2)))

/-- The functions with a held placement on a ferrule. -/
def heldOn (s : State) (f : Nat) : List Nat := (liveFns s).filter (fun i => (heldPlaces s i).any (fun q => q.2.fer = f))

/-- The functions that bind a subscription and are held on a ferrule. -/
def bindersOn (s : State) (f sub : Nat) : List Nat := (heldOn s f).filter (fun i => (s.fn i).subs.contains sub)

/-- The inkwell words that a placement owns: address and number (R314). -/
def placeWords (d : Descr) (twin : Nat) (p : Place) : List (Nat × Nat) :=
  [(p.img, d.iw), (p.hdr, 5), (p.out, d.nout), (p.st, 2 * d.sw)] ++ (if twin = 0 then [(p.ck, d.sw)] else [])

/-- The words of the rings of a ferrule. -/
def ringWords (s : State) (f : Nat) : List (Nat × Nat) :=
  (s.rul.rings.filter (fun e => e.1 / 4096 = f)).flatMap (fun e =>
    [(e.2.addr, e.2.depth * (1 + e.2.words))] ++ (match e.2.old with
      | some o => [(o.1, o.2.1 * (1 + o.2.2))]
      | none => []))

/-- The words of a ferrule that are owned (R307, R314). -/
def ownedWords (s : State) (f : Nat) : List (Nat × Nat) :=
  ((allPlaces s).filter (fun q => q.2.2.fer = f)).flatMap (fun q => placeWords (s.fn q.1).desc q.2.1 q.2.2) ++ ringWords s f

/-- The staging area of the command that the ruler handles, when it lies on a ferrule (R307). -/
def stagingWords (s : State) (f : Nat) : List (Nat × Nat) :=
  match s.rul.cmd, s.rul.staged with
  | some c, some d =>
    if (c.opc = 1 ∨ c.opc = 3) ∧ getField c.arg 0 6 = f then
      [(getField c.arg 6 18, d.fd.length + d.targets.length + d.binds.length + d.prog.length + d.xcon.length + d.ycon.length)]
    else []
  | _, _ => []

/-- Two runs of words overlap. -/
def runsMeet (a n b m : Nat) : Bool := decide (0 < n) && decide (0 < m) && decide (a < b + m) && decide (b < a + n)

/-- First fit: the lowest address at which `n` words are free below a limit. -/
def firstFit (busy : List (Nat × Nat)) (n limit : Nat) : Option Nat :=
  let free (a : Nat) : Bool := decide (a + n ≤ limit) && !busy.any (fun b => runsMeet a n b.1 b.2)
  (0 :: busy.map (fun b => b.1 + b.2)).foldl (fun (best : Option Nat) a =>
    if free a then (match best with
      | some v => some (min v a)
      | none => some a)
    else best) none

/-- A nib of a ferrule is placeable: in service and not spare (R313). -/
def placeable (s : State) (f n : Nat) : Bool := bitOf (s.rd (F.RUL_SVC f)) n && !bitOf (s.rd (F.RUL_SPR f)) n

/-- The lowest spare of a ferrule (R313). -/
def lowestSpare (s : State) (f : Nat) : Option Nat :=
  findBelow (fun n => bitOf (s.rd (F.RUL_SVC f)) n && bitOf (s.rd (F.RUL_SPR f)) n) 18

/-- A nib qualifies for a function of a domain (R314). -/
def nibQualifies (s : State) (f n d : Nat) : Bool :=
  placeable s f n && !s.rul.spares.any (fun e => e.1 = f && e.2.2 = n) && (decide (s.rd (F.FER_SLOTV f n) = 0) || decide (s.rd (F.FER_DOM f n) = d)) &&
  !bitOf (s.rd (F.FER_SLOTV f n)) 3

/-- The parts held on a nib: base and length of the program, X and Y parts. -/
def nibParts (s : State) (f n k : Nat) : List (Nat × Nat) :=
  ((allPlaces s).filter (fun q => q.2.2.fer = f && q.2.2.nib = n)).map (fun q =>
    let d := (s.fn q.1).desc
    if k = 0 then (q.2.2.prog, d.plen) else if k = 1 then (q.2.2.x, d.xlen) else (q.2.2.y, d.ylen))

/-- The bases of a function's parts on a nib, when they fit (R251, R314). -/
def partsFit (s : State) (f n : Nat) (d : Descr) : Option (Nat × Nat × Nat) :=
  match firstFit (nibParts s f n 0) d.plen 8192, firstFit (nibParts s f n 1) d.xlen 8192,
    firstFit (nibParts s f n 2) d.ylen 8192 with
  | some p, some x, some y => some (p, x, y)
  | _, _, _ => none

/-- One above the highest occupied slot (R314). -/
def nextSlot (s : State) (f n : Nat) : Nat :=
  (List.range 4).foldl (fun a k => if bitOf (s.rd (F.FER_SLOTV f n)) k then k + 1 else a) 0

/-- The nib for a function on a ferrule: the one named, or the lowest that qualifies and holds the parts (R314); else the
reason. -/
def chooseNib (s : State) (f : Nat) (named : Option Nat) (d : Descr) : Except Nat (Nat × Nat × Nat × Nat) :=
  let ok (n : Nat) : Bool := nibQualifies s f n d.dom && (match named with
    | some m => decide (n = m)
    | none => true)
  match (filterBelow 18 ok).findSome? (fun n => (partsFit s f n d).map (fun p => (n, p))) with
  | some r => .ok r
  | none => .error (if (filterBelow 18 ok).isEmpty then 0x10 else 0x11)

/-- Inkwell words set to 0 (R312). -/
def zeroInks (s : State) (f a n : Nat) : State :=
  let lo := f * 2 ^ 18 + a
  { s with inkwell := s.inkwell.filter (fun e => !(decide (lo ≤ e.1) && decide (e.1 < lo + n))) }

/-- A placement of a function recorded: its new one while a move runs, else its present one. -/
def setPlace (s : State) (i twin : Nat) (p : Place) : State :=
  let x := s.fn i
  s.setFn i (match x.move with
    | some m => { x with move := some (if twin = 0 then { m with a := p } else { m with b := p }) }
    | none => if twin = 0 then { x with a := p } else { x with b := p })

/-- A nib's SLOTV, DOM and, while it is idle on a running ferrule, NST, and a ferrule's NFUNC and SMUSE, from the placements
held and the marking of spares (R276, R310, R313). -/
def refreshFer (s : State) (f : Nat) : State :=
  let here := (allPlaces s).filter (fun q => q.2.2.fer = f)
  let s := forEach (List.range 18) s (fun s n =>
    let on := here.filter (fun q => q.2.2.nib = n)
    let nst := s.rd (F.FER_NST f n)
    let s := if ferRun s f && (decide (nst = 0) || decide (nst = 4) || decide (nst = 6)) then
        s.wr (F.FER_NST f n) (if bitOf (s.rd (F.RUL_OUT f)) n && on.isEmpty then 6
          else if bitOf (s.rd (F.RUL_SVC f)) n && bitOf (s.rd (F.RUL_SPR f)) n then 4 else 0)
      else s
    let s := s.wr (F.FER_SLOTV f n) (on.foldl (fun m q => setBitN m q.2.2.slot) 0)
    match on with
    | q :: _ => s.wr (F.FER_DOM f n) (s.fn q.1).desc.dom
    | [] => s.wr (F.FER_DOM f n) 0)
  (s.wr (F.FER_NFUNC f) (heldOn s f).length).wr (F.FER_SMUSE f) ((here.map (fun q => (s.fn q.1).desc.sw)).sum)

/-- The slot word of a placement (R276). -/
def slotFill (s : State) (i : Nat) (p : Place) : State :=
  let d := (s.fn i).desc
  let k := 4 * p.nib + p.slot
  let s := s.setWord ((0x100 + 4 * p.fer) * 512 + 64 + k) 0
  let s := (((s.wr (F.FER_FIDX p.fer k) i).wr (F.FER_SV p.fer k) 1).wrb (F.FER_TWIN p.fer k) d.twin).wrb (F.FER_CRIT p.fer k) d.crit
  (s.wr (F.FER_BUDGET p.fer k) d.budget).wr (F.FER_HADDR p.fer k) p.hdr

/-- A slot is empty again. -/
def slotClear (s : State) (p : Place) : State := s.setWord ((0x100 + 4 * p.fer) * 512 + 64 + 4 * p.nib + p.slot) 0

/-- A ferrule's words and slot for one placement of a function (R314), set to 0 and its images stored (R312); else the
reason. -/
def allot (s : State) (i twin f : Nat) (named : Option Nat) : Except Nat State :=
  let d := (s.fn i).desc
  match chooseNib s f named d with
  | .error r => .error r
  | .ok (n, pb, xb, yb) =>
    let pairs := ((allPlaces s).filter (fun q => q.2.2.fer = f)).map (fun q => (q.2.2.smap, (s.fn q.1).desc.sw))
    let busy := ownedWords s f ++ stagingWords s f
    let sizes := [d.iw, 5, d.nout, 2 * d.sw] ++ (if twin = 0 then [d.sw] else [])
    let r := sizes.foldl (fun (r : Option (List (Nat × Nat) × List Nat)) n => match r with
      | some (b, l) => (firstFit b n 0x3F000).map (fun a => (b ++ [(a, n)], l ++ [a]))
      | none => none) (some (busy, []))
    match firstFit pairs d.sw 32768, r with
    | some sm, some (_, l) =>
      let p : Place := { fer := f, nib := n, slot := nextSlot s f n, img := l.getD 0 0, hdr := l.getD 1 0, out := l.getD 2 0,
                         st := l.getD 3 0, ck := l.getD 4 0, prog := pb, x := xb, y := yb, smap := sm }
      let s := (placeWords d twin p).foldl (fun s w => zeroInks s f w.1 w.2) s
      let s := seedState s p (List.replicate d.sw 0)
      let s := s.setInks f p.img (d.prog ++ d.xcon ++ d.ycon)
      .ok (wakeFerrule (refreshFer (slotFill (setPlace s i twin p) i p) f) f)
    | _, _ => .error 0x12

/-- SDLY as a ring counts it (R230). -/
def ringSdly (s : State) (sub : Nat) : Nat := if subType s sub = 1 ∧ subAlign s sub = false then subSdly s sub else 0

/-- The input words of a stroke of a subscription: K × NCH. -/
def strokeWords (s : State) (sub : Nat) : Nat := s.rd (F.SUB_K sub) * subNch s sub

/-- A ferrule's ring for a subscription, deep enough for a history (R230, R314). -/
def allotRing (s : State) (f sub hist : Nat) : Option State :=
  let r := s.ring f sub
  let need := hist + ringSdly s sub + 2
  let w := strokeWords s sub
  if need ≤ r.depth then some s
  else
    let old := match r.old with
      | some o => some o
      | none => if r.depth = 0 then none else some (r.addr, r.depth, r.words)
    let s := s.setRing f sub { addr := 0, depth := 0, words := 0, old := old }
    (firstFit (ownedWords s f ++ stagingWords s f) (need * (1 + w)) 0x3F000).map (fun a =>
      (zeroInks s f a (need * (1 + w))).setRing f sub { addr := a, depth := need, words := w, old := old })

/-- A frame of the old ring carried into the new one (R314). -/
def carryFrame (s : State) (f : Nat) (r : Ring) (o : Nat × Nat × Nat) (k : Nat) : State :=
  let a := o.1 + k * (1 + o.2.2)
  let h := s.ink f a
  if h = 0 then s
  else s.setInks f (frameAt r.addr r.depth r.words (getField h 0 48)) (s.inks f a (1 + o.2.2))

/-- The changeover of a ferrule's deeper ring (R314). -/
def ringChange (s : State) (f sub : Nat) : State :=
  let r := s.ring f sub
  match r.old with
  | some o => (forEach (List.range o.2.1) s (fun s k => carryFrame s f r o k)).setRing f sub { r with old := none }
  | none => s

/-- The changeovers of the rings of a function on a ferrule. -/
def ringsChange (s : State) (i f : Nat) : State := forEach (s.fn i).subs s (fun s b => ringChange s f b)

/-- The rings of a ferrule that nothing binds any more are freed. -/
def ringSweep (s : State) (f : Nat) : State :=
  { s with rul := { s.rul with rings := s.rul.rings.filter (fun e =>
    decide (e.1 / 4096 ≠ f) || !(bindersOn s f (e.1 % 4096)).isEmpty) } }

/-- The ferrules that take the inputs of a subscription, rising. -/
def allConsumers (s : State) (sub : Nat) : List Nat :=
  ((allPlaces s).filter (fun q => (s.fn q.1).subs.contains sub)).foldl (fun l q => insertNat q.2.2.fer l) []

/-- The sample flow of a subscription serves every consumer (R317). -/
def planSample (s : State) (sub : Nat) : Option State :=
  let src := recvPoint s sub
  let want := (allConsumers s sub).filter (fun f => f ≠ src)
  let now := s.rul.flows.find? (fun e => e.2.kind = 0 && e.2.key = sub)
  let have' : List Nat := match now with
    | some e => e.2.dsts
    | none => []
  if want.all (fun f => have'.contains f) then some s
  else (planPut s.rul.flows 0 sub 0 src want (1 + strokeWords s sub)).map (fun fl =>
    s.setFlows (match now with
      | some e => fl.filter (fun q => q.1 ≠ e.1)
      | none => fl))

/-- The placements that a function will have: twin, placement, kind of its output flows (R317). -/
def finalPlaces (x : Fn) : List (Nat × Place × Nat) :=
  match x.move with
  | some m =>
    let k := if m.shadow then 4 else 1
    let pick (t : Nat) (old new : Place) : List (Nat × Place × Nat) :=
      if bitOf m.twins t then [(t, new, k)] else if x.alone = (if t = 0 then 2 else 1) then [] else [(t, old, 1)]
    pick 0 x.a m.a ++ (if x.desc.twin then pick 1 x.b m.b else [])
  | none => x.places.map (fun q => (q.1, q.2, 1))

/-- A function's own flows (R317): outputs and shadows of its new placements, gateway legs, the decision. -/
def planFn (s : State) (i : Nat) : Option State :=
  let x := s.fn i
  let shadow := match x.move with
    | some m => m.shadow
    | none => false
  let new := (finalPlaces x).filter (fun q => match x.move with
    | some m => bitOf m.twins q.1
    | none => true)
  let add (s : Option State) (kind twin src : Nat) (dsts : List Nat) (w : Nat) : Option State :=
    s.bind (fun s => (planPut s.rul.flows kind i twin src dsts w).map (fun fl => s.setFlows fl))
  let pts := outPoints s x
  let s1 := new.foldl (fun r q => pts.foldl (fun r p =>
    add r q.2.2 q.1 q.2.1.fer [p] (1 + x.desc.nout + b2n x.desc.twin)) r) (some s)
  if x.desc.twin then
    let gs := (egressPoints s x).filter (fun p => 64 ≤ p)
    let s2 := gs.foldl (fun (r : Option State) g => r.bind (fun s =>
      if (findFlow s.rul.flows 2 i 0 g).isSome then some s else add (some s) 2 0 (besideGateway (g - 64)) [g] (1 + x.desc.nout))) s1
    add s2 (if shadow then 5 else 3) 0 (lowestPoint s x) ((finalPlaces x).map (fun q => q.2.1.fer)) 1
  else s1

/-- L of a subscription's inputs to a ferrule, in thirds of a ns (R320). -/
def subLat3 (s : State) (sub f : Nat) : Nat :=
  if recvPoint s sub = f then localLat3 else match s.rul.flows.find? (fun e => e.2.kind = 0 && e.2.key = sub) with
    | some e => e.2.lat3 f
    | none => localLat3

/-- The largest L of a subscription over its consumers. -/
def subMaxLat3 (s : State) (sub : Nat) : Nat := (allConsumers s sub).foldl (fun n f => max n (subLat3 s sub f)) 0

/-- The half-period rule on the nibs of a function's new placements (R315). -/
def halfPeriodOk (s : State) (i : Nat) : Bool :=
  let d := (s.fn i).desc
  let x2 := domPeriod s d.dom - graceNs s d.dom
  let nibSum (p : Place) : Nat := (List.range 4).foldl (fun n k =>
    if s.isSet (F.FER_SV p.fer (4 * p.nib + k)) then n + s.rd (F.FER_BUDGET p.fer (4 * p.nib + k)) + 8 else n) 150
  (finalPlaces (s.fn i)).all (fun q => decide (2 * nibSum q.2.1 ≤ x2)) && decide (12 * d.iw ≤ x2) && decide (12 * d.sw ≤ x2)

/-- DLV and the cut-off inputs are within their caps (R321). -/
def inputsOk (s : State) (i : Nat) : Bool :=
  (s.fn i).subs.all (fun b => if subClosure s b then decide (up10 (subMaxLat3 s b) ≤ 800) else decide (subMaxLat3 s b ≤ 3000))

/-- An octet's time on a port, in hundredths of a ns (R125, R153). -/
def octetTime (mode : Nat) : Nat :=
  if mode = 1 then 8000 else if mode = 2 then 800 else if mode = 3 then 320 else if mode = 6 then 80 else 32

/-- The longest frame of a publication (R333). -/
def pubLen (s : State) (p : Nat) : Nat :=
  let strs := ((templateStrings (if pubType s p = 1 then 3 else 2) ((pubTemplate s p).drop 6))).getD []
  let apdu := if pubType s p = 1 then gooseLen strs (s.pub p).types (bitsOf (s.rd (F.PUB_A2 p)) 16 32) (bitsOf (s.rd (F.PUB_A3 p)) 10 16)
    else svLen strs (pubK s p) (pubNval s p) (pubRateHz s p)
  frameLen apdu (bitsOf (s.rd (F.PUB_A1 p)) 48 1 = 1) (pubKpair s p ≠ 0x1F) (decide (2 ≤ (pubPorts s p).length))

/-- Whether a publication is the target of a critical function. -/
def critTarget (s : State) (p : Nat) : Bool :=
  (liveFns s).any (fun i => (s.fn i).desc.crit && (s.fn i).desc.targets.any (fun w => (targetLine w).isNone && decide (targetPub w = p)))

/-- Serialiser start of a publication on one of its ports (R45, R321), in hundredths of a ns. -/
def serialiser (s : State) (p port : Nat) : Nat :=
  let others := (livePubs s).filter (fun q => q ≠ p && pubType s q ≠ 3 && (pubPorts s q).contains port)
  let busy := !others.isEmpty || decide (1024 ≤ port) || s.isSet (F.LNK_PTPM (portBlock port)) || decide (portPairMode s port = 2)
  let first := if busy then s.rd (F.LNK_MAXLEN (portBlock port)) + 20 else 0
  let oct := (others.filter (critTarget s)).foldl (fun n q => n + pubLen s q + 20) first
  oct * octetTime (portMode s port) +
    (if 1024 ≤ port then 2560 + Config.fecLatency (s.rd (F.LNK_FEC (portBlock port))) else 0)

/-- Σ (BUDGET + 8) below a function's placements, the largest (R321). -/
def lowerMax (s : State) (x : Fn) : Nat := (finalPlaces x).foldl (fun n q => max n (lowerSum s q.2.1)) 0

/-- Mesh to egress for an egress point, in thirds of a ns (R321). -/
def egressLat3 (s : State) (i point : Nat) : Nat :=
  let x := s.fn i
  let via := if x.desc.twin ∧ 64 ≤ point then besideGateway (point - 64) else point
  (finalPlaces x).foldl (fun n q => max n (outLat3 s s.rul.flows q.2.2 i q.1 x.desc q.2.1.fer via)) 0 +
    (if x.desc.twin ∧ 64 ≤ point then legLat3 s.rul.flows i point else 0)

/-- A cell-link command frame is proven ready 10 ns before L (R46, R178, R321). -/
def cellReadyOk (s : State) (i p : Nat) : Bool :=
  let x := s.fn i
  let l := 16 * (p / 32) + pubDest s p % 16
  let ready3 := 3 * (graceNs s x.desc.dom + 200 + lowerMax s x + x.desc.fast + (if x.desc.twin then 100 else 0) + 600) +
    egressLat3 s i (p / 32)
  decide (10 * (ready3 + 30) + 15 * s.rd (F.LNK_CLEN (portBlock l)) + 3 * cellDur10 s l ≤ 30 * laneClofs s p)

/-- The reason for which the stages of a critical function fail (R321). -/
def critReason (s : State) (i : Nat) : Option Nat :=
  let x := s.fn i
  let pubs := (x.desc.targets.filter (fun w => (targetLine w).isNone)).map targetPub
  if 2500 < lowerMax s x + x.desc.fast then some 0x17
  else if (egressPoints s x).any (fun p => 2400 < egressLat3 s i p) then some 0x18
  else if pubs.any (fun p => pubType s p ≠ 3 && (pubPorts s p).any (fun q => 60000 < serialiser s p q)) then some 0x19
  else if pubs.any (fun p => pubType s p = 3 && !cellReadyOk s i p) then some 0x1A
  else none

/-- The reason for which a placement is not accepted (R311, R321, R324); `crit` asks for the proof of a critical function. -/
def proofReason (s : State) (i : Nat) (crit : Bool) : Option Nat :=
  if !halfPeriodOk s i then some 0x14
  else if !inputsOk s i then some 0x16
  else match (if crit then critReason s i else none) with
    | some r => some r
    | none =>
      if (liveFns s).any (fun j => j ≠ i && (s.fn j).desc.crit && !s.isSet (F.RUL_NOPRF_18 j) && !(finalPlaces (s.fn j)).isEmpty &&
        ((critReason s j).isSome || !inputsOk s j)) then some 0x1B else none

/-- One candidate: placements, rings, flows and the proof (R314). -/
def tryPlaces (s : State) (i : Nat) (crit : Bool) (news : List (Nat × Nat × Option Nat)) : Except Nat State :=
  let x := s.fn i
  let r := news.foldl (fun (r : Except Nat State) q => match r with
    | .ok s => allot s i q.1 q.2.1 q.2.2
    | .error e => .error e) (.ok s)
  match r with
  | .error e => .error e
  | .ok s1 =>
    let s2 := news.foldl (fun (r : Option State) q => x.subs.foldl (fun (r : Option State) b =>
      r.bind (fun s => allotRing s q.2.1 b x.desc.hist)) r) (some s1)
    match s2 with
    | none => .error 0x12
    | some s2 =>
      if !halfPeriodOk s2 i then .error 0x14
      else
      match (x.subs.foldl (fun (r : Option State) b => r.bind (fun s => planSample s b)) (some s2)).bind (fun s => planFn s i) with
      | none => .error 0x15
      | some s3 => match proofReason s3 i crit with
        | some e => .error e
        | none => .ok s3

/-- The first candidate that passes; else the cause that rejected the first, 10h when there is none (R311). -/
def firstPass (s : State) (i : Nat) (crit : Bool) : List (List (Nat × Nat × Option Nat)) → Nat → Except Nat State
  | [], r => .error r
  | c :: t, r => match tryPlaces s i crit c with
    | .ok s' => .ok s'
    | .error e => firstPass s i crit t (if r = 0 then e else r)

/-- cost of a ferrule for a function (R314). -/
def fnCost (s : State) (x : Fn) (f : Nat) : Nat :=
  (x.subs.map (recvPoint s) ++ egressPoints s x).foldl (fun n p => max n (hopsTo f p)) 0

/-- Insertion into a list ordered by a key. -/
def insertBy {α : Type} (key : α → Nat) (x : α) : List α → List α
  | [] => [x]
  | y :: t => if key x < key y then x :: y :: t else y :: insertBy key x t

/-- A list ordered by a key, equal keys in their order. -/
def sortBy {α : Type} (key : α → Nat) (l : List α) : List α := l.foldl (fun a x => insertBy key x a) []

/-- The ferrules of a function's slice with a nib that qualifies (R314). -/
def sliceFers (s : State) (i : Nat) : List Nat :=
  filterBelow 64 (fun f => bitOf (s.rd (F.TEN_SLICE (s.rd (F.RUL_TEN i)))) f &&
    (List.range 18).any (fun n => nibQualifies s f n (s.fn i).desc.dom))

/-- R314 for some of a function's twins; the answer is the state with the placements, or the reason. -/
def placeSearch (s : State) (i twins : Nat) (crit : Bool) : Except Nat State :=
  let x := s.fn i
  let fs := sliceFers s i
  let cost := fnCost s x
  let one (twin : Nat) (l : List Nat) : Except Nat State :=
    firstPass s i crit ((sortBy cost l).map (fun f => [(twin, f, none)])) 0
  if !x.desc.twin then (if fs.isEmpty then .error 0x10 else one 0 fs)
  else if twins = 3 then
    if fs.length < 2 then .error 0x10
    else
      let pairs := (fs.flatMap (fun a => fs.map (fun b => (a, b)))).filter (fun q => q.1 < q.2 && decide (2 ≤ hops q.1 q.2))
      if pairs.isEmpty then .error 0x13
      else firstPass s i crit ((sortBy (fun q => (max (cost q.1) (cost q.2)) * 1000 + cost q.1 + cost q.2) pairs).map
        (fun q => [(0, q.1, none), (1, q.2, none)])) 0
  else
    let stay := if twins = 1 then x.b.fer else x.a.fer
    let l := fs.filter (fun f => decide (2 ≤ hops f stay) && (if twins = 1 then decide (f < stay) else decide (stay < f)))
    if fs.isEmpty then .error 0x10 else if l.isEmpty then .error 0x13 else one (if twins = 1 then 0 else 1) l

/-- The view words of a function (R329). -/
def setView (s : State) (i ten : Nat) : State :=
  let x := s.fn i
  let d := x.desc
  let s := ((((s.wr (F.RUL_TEN i) ten).wr (F.RUL_DOM i) d.dom).wrb (F.RUL_CRIT i) d.crit).wrb (F.RUL_TWIN i) d.twin).wr (F.RUL_IPOL i) d.ipol
  let s := ((((s.wr (F.RUL_H i) d.hist).wr (F.RUL_NB i) d.nb).wr (F.RUL_NOUT i) d.nout).wr (F.RUL_NTGT i) d.ntgt).wr (F.RUL_GEN i) (s.gen 3 i)
  let s := (((s.wr (F.RUL_FERA i) x.a.fer).wr (F.RUL_NIBA i) x.a.nib).wr (F.RUL_SLOTA i) x.a.slot)
  let s := (((s.wr (F.RUL_FERB i) x.b.fer).wr (F.RUL_NIBB i) x.b.nib).wr (F.RUL_SLOTB i) x.b.slot)
  let s := ((s.wr (F.RUL_STA i) x.a.st).wr (F.RUL_OWA i) x.a.out).wr (F.RUL_CKA i) x.a.ck
  let s := (s.wr (F.RUL_STB i) x.b.st).wr (F.RUL_OWB i) x.b.out
  ((s.wr (F.RUL_BUDGET i) d.budget).wr (F.RUL_FAST i) d.fast).wr (F.RUL_SW i) d.sw

/-- The ruler's view of a subscription, and its SSTATE (R214, R329). -/
def setSubView (s : State) (b : Nat) : State :=
  let cons := allConsumers s b
  let clos := subClosure s b && !cons.isEmpty
  let s := (s.wr (F.RUL_CONS b) (cons.foldl setBitN 0)).wrb (F.RUL_CLOS b) clos
  let s := s.wr (F.RUL_DLV b) (if clos then up10 (subMaxLat3 s b) / 10 else 0)
  let s := match s.rul.flows.find? (fun e => e.2.kind = 0 && e.2.key = b) with
    | some e => (((s.wr (F.RUL_FLOW b) e.1).wr (F.RUL_R b) e.2.r).wr (F.RUL_W b) e.2.w).wr (F.RUL_FV b) 1
    | none => (((s.wr (F.RUL_FLOW b) 0).wr (F.RUL_R b) 0).wr (F.RUL_W b) 0).wr (F.RUL_FV b) 0
  if subLive s b then setSstate s b (if (liveFns s).any (fun j => (s.fn j).subs.contains b) then 2 else 1) else s

/-- What the pages show after a change of placements: every function's view and EDL, the subscriptions it binds. -/
def refreshAll (s : State) (subs : List Nat) : State :=
  let s := forEach (liveFns s) s (fun s i => setEdl (setView s i (s.rd (F.RUL_TEN i))) i)
  let s := forEach subs s setSubView
  s.wr F.RUL_NPL (liveFns s).length

/-- A placement given up: its slot, its words and the rings that nothing else binds are free. -/
def dropPlace (s : State) (p : Place) : State := ringSweep (refreshFer (slotClear s p) p.fer) p.fer

/-- A function's flows of some kinds are freed, for some twins. -/
def dropFlows (s : State) (i : Nat) (kinds twins : List Nat) : State :=
  s.setFlows (s.rul.flows.filter (fun e => !(decide (e.2.key = i) && kinds.contains e.2.kind && twins.contains e.2.twin)))

/-- Sample flows of subscriptions without consumers are freed. -/
def sampleSweep (s : State) (subs : List Nat) : State :=
  s.setFlows (s.rul.flows.filter (fun e => !(decide (e.2.kind = 0) && subs.contains e.2.key && (allConsumers s e.2.key).isEmpty)))

end Sys2Proof.Machine
end

