-- ==== Sys2Proof/Machine/Ruler.lean ====
section
/-! DEFINITION. The ruler (R304 to R313, R324 to R328): its history, its commands, descriptors, the events it handles, and
the moves that follow from them.
Decisions: log entries 33 (DEDUCED), 44 (DEDUCED), 81 (DEDUCED), 90 (DEDUCED). -/

namespace Sys2Proof.Machine
open Sys2Proof

/-- An event in RUL_HALL (R305). -/
def histAll (s : State) (ws : List Word) : State :=
  (s.setWord F.RUL_HALL.addr (digest72 (s.word F.RUL_HALL.addr :: ws))).wrapInc F.RUL_NHIST

/-- An accepted command in both digests (R305). -/
def histCmd (s : State) (ws : List Word) : State :=
  histAll (s.setWord F.RUL_HCMD.addr (digest72 (s.word F.RUL_HCMD.addr :: ws))) ws

/-- The word of a fault-map change (R305). -/
def faultWord (kind f n : Nat) : Word := BitVec.ofNat 72 (kind + f * 2 ^ 4 + n * 2 ^ 10)

/-- A RUL_EVT bit with its ECODE (R329). -/
def rulError (s : State) (bit : Fld) (code i : Nat) : State := (s.wr bit 1).pageErr 4 code 15 i

/-- TEN_T.NFN of a tenant (R529). -/
def countFns (s : State) (t : Nat) : State :=
  s.wr (F.TEN_NFN t) ((liveFns s).filter (fun i => s.rd (F.RUL_TEN i) = t)).length

/-- Messages of a function that are on their way or waiting are gone. -/
def dropMessages (s : State) (i : Nat) : State :=
  let r : Rul := s.rul
  { s with rul := { r with
    outputs := r.outputs.filter (fun m => m.fn ≠ i), atPoint := r.atPoint.filter (fun m => m.fn ≠ i)
    used := r.used.filter (fun m => m.fn ≠ i), shadows := r.shadows.filter (fun m => m.fn ≠ i)
    decisions := r.decisions.filter (fun m => m.1 ≠ i), legs := r.legs.filter (fun m => m.1 ≠ i) } }

/-- A function becomes free (R310, R71): placements, flows and rings go, and its index generation advances. -/
def fnFree (s : State) (i : Nat) : State :=
  let x := s.fn i
  let ten := s.rd (F.RUL_TEN i)
  let ps := heldPlaces s i
  let s := setPstate (setOwner s i false) i false
  let s := dropMessages (dropFlows s i [1, 2, 3, 4, 5] [0, 1]) i
  let s := (s.resetWords ((0x3000 + i) * 512 + 18) 7).setFn i {}
  let s := { s with rul := { s.rul with decided := s.rul.decided.filter (fun e => e.1 / 128 ≠ i), unsent := tset s.rul.unsent i 0 } }
  let s := ps.foldl (fun s q => dropPlace s q.2) s
  let s := ps.foldl (fun s q => s.setFerrule q.2.fer { s.ferrule q.2.fer with
    skips := (s.ferrule q.2.fer).skips.filter (fun e => e.1 ≠ i) }) s
  countFns (refreshAll (sampleSweep (s.bumpGen 3 i) x.subs) x.subs) ten

/-- A rolling test of a nib is abandoned (R563). -/
def dropNibTest (s : State) (f n : Nat) : State :=
  if s.rd F.BST_RKIND = 1 ∧ s.rd F.BST_RFER = f ∧ s.rd F.BST_RIDX = n then
    ((s.wr F.BST_RKIND 0).wr F.BST_RPH 0).wr (F.FER_NST f n) s.bst.before
  else s

/-- A spare is marked placeable (R313); using the last one is reported. -/
def useSpare (s : State) (f n : Nat) : State :=
  let s := dropNibTest s f n
  let s := s.wr (F.RUL_SPR f) (clrBitN (s.rd (F.RUL_SPR f)) n)
  refreshFer (if (lowestSpare s f).isNone then s.wr F.RUL_NOSPR 1 else s) f

/-- A nib leaves service (R313): the lowest spare becomes placeable when it was placeable; the answer names that spare. -/
def leaveService (s : State) (f n : Nat) : State × Option Nat :=
  let was := placeable s f n
  let s := (s.wr (F.RUL_SVC f) (clrBitN (s.rd (F.RUL_SVC f)) n)).wr (F.RUL_SPR f) (clrBitN (s.rd (F.RUL_SPR f)) n)
  if was then (match lowestSpare s f with
    | some m => (useSpare s f m, some m)
    | none => (s, none)) else (s, none)

/-- A nib returns to service: spare while its ferrule has fewer than two spares (R313). -/
def enterService (s : State) (f n : Nat) : State :=
  let few := decide (popcount (s.rd (F.RUL_SPR f)) 18 < 2)
  let s := ((s.setBit (F.RUL_SVC f) n).wr (F.RUL_FAIL f) (clrBitN (s.rd (F.RUL_FAIL f)) n)).wr (F.RUL_OUT f) (clrBitN (s.rd (F.RUL_OUT f)) n)
  let s := if few then s.setBit (F.RUL_SPR f) n else s
  refreshFer (s.wr (F.FER_NST f n) 0) f

/-- A move is given up (R327): its new placements, their flows and messages go. -/
def cancelMove (s : State) (i : Nat) : State :=
  let x := s.fn i
  match x.move with
  | some m =>
    let new := (moveTwins m).map (fun t => if t = 0 then m.a else m.b)
    let s := dropFlows s i (if m.shadow then [4, 5] else [1, 2, 3]) [0, 1]
    let r : Rul := s.rul
    let s := { s with rul := { r with outputs := r.outputs.filter (fun q => !(decide (q.fn = i) && q.shadow))
                                      used := r.used.filter (fun q => q.fn ≠ i), shadows := r.shadows.filter (fun q => q.fn ≠ i) } }
    let s := (s.setFn i { s.fn i with move := none }).wr (F.RUL_MOVING i) 0
    refreshAll (sampleSweep (new.foldl dropPlace s) x.subs) x.subs
  | none => s

/-- A function loses its proof, or finds it again (R324). -/
def setNoProof (s : State) (i : Nat) (b : Bool) : State :=
  let was := s.isSet (F.RUL_NOPRF_18 i)
  let s := s.wrb (F.RUL_NOPRF_18 i) b
  if b && !was then rulError s F.RUL_NOPRF_15 0x13 i else s

/-- The spares on which a move places its twins: the lowest of each twin's ferrule, marked placeable; none when one of them
has none (R325). -/
def moveSpares (s : State) (i : Nat) (twins : List Nat) : Option (State × List (Nat × Nat × Option Nat)) :=
  twins.foldl (fun r t => r.bind (fun q =>
    let f := if t = 0 then (s.fn i).a.fer else (s.fn i).b.fer
    (lowestSpare q.1 f).map (fun m => (useSpare q.1 f m, q.2 ++ [(t, f, some m)])))) (some (s, []))

/-- New placements for a move (R325): the given candidate first, then R314; a critical function without a proven placement
is placed as an ordinary one (R324). The answer is none when no placement exists. -/
def startMove (s : State) (i : Nat) (m : Move) (first : Option (State × List (Nat × Nat × Option Nat))) : Option State :=
  let x := s.fn i
  let begin' (s : State) : State := s.setFn i { x with move := some m }
  let crit := x.desc.crit
  let search (crit : Bool) : Except Nat State :=
    match first.map (fun q => tryPlaces (begin' q.1) i crit q.2) with
    | some (.ok s') => .ok s'
    | _ => placeSearch (begin' s) i m.twins crit
  let done (s : State) : State := refreshAll (s.wr (F.RUL_MOVING i) 1) x.subs
  match search crit with
  | .ok s' => some (done (setNoProof s' i false))
  | .error _ =>
    if crit then (match search false with
      | .ok s' => some (done (setNoProof s' i true))
      | .error _ => none)
    else none

/-- All the twins of a function, as bits. -/
def allTwins (x : Fn) : Nat := if x.desc.twin then 3 else 1

/-- A function in transit, without a placement (R326); its committed state is kept. -/
def toTransit (s : State) (i : Nat) (ws : List Word) : State :=
  let x := s.fn i
  let ps := heldPlaces s i
  let s := setOwner s i false
  let s := dropMessages (dropFlows s i [1, 2, 3, 4, 5] [0, 1]) i
  let s := (s.wr (F.RUL_FST i) 3).setFn i { x with a := {}, b := {}, move := none, alone := 0, aloneNext := 0, carried := ws,
                                                     loaded := false, waitA := 0, waitB := 0, heldA := (0, false, false),
                                                     heldB := (0, false, false), held := false }
  let s := ps.foldl (fun s q => dropPlace s q.2) s
  let s := (refreshAll (sampleSweep s x.subs) x.subs).wr (F.RUL_MOVING i) 0
  rulError s F.RUL_TRANS 0x10 i

/-- A function in transit is placed again, without a shadow stroke (R325, R326). -/
def replace (s : State) (i : Nat) : State :=
  (startMove s i { twins := allTwins (s.fn i), shadow := false } none).getD s

/-- A function's tenant is frozen, or the instant of its freeze has come (R509, R522, R523). -/
def isFrozen (s : State) (i : Nat) : Bool :=
  let t := s.rd (F.RUL_TEN i)
  decide (s.rd (F.TEN_TSTATE t) = 2) || (match (tget s.tens t).freezeAt with
    | some T => decide (T ≤ s.devTime)
    | none => false)

/-- A function lies outside its tenant's slice (R325). -/
def outside (s : State) (i : Nat) : Bool :=
  (s.fn i).places.any (fun q => !bitOf (s.rd (F.TEN_SLICE (s.rd (F.RUL_TEN i)))) q.2.fer)

/-- A function is placed and nothing else is under way for it. -/
def settled (s : State) (i : Nat) : Bool :=
  isPlaced s i && (s.fn i).move.isNone && (s.fn i).destroyAt.isNone && !isFrozen s i

/-- A function outside its slice moves into it, or stays with OUTSL (R325). -/
def slicePlace (s : State) (i : Nat) : State :=
  if outside s i then
    match startMove s i { twins := allTwins (s.fn i), shadow := true } none with
    | some s' => s'
    | none =>
      if s.isSet (F.RUL_OUTSL_18 i) then s else rulError (s.wr (F.RUL_OUTSL_18 i) 1) F.RUL_OUTSL_15 0x12 i
  else s.wr (F.RUL_OUTSL_18 i) 0

/-- What the ruler tries again after an event (R324 to R326): functions in transit, twins that run alone, functions outside
their slice, and critical functions without a proof. -/
def retryOne (s : State) (i : Nat) : State :=
  let x := s.fn i
  if s.rd (F.RUL_FST i) = 3 then
    (if x.move.isNone && !x.held && !isFrozen s i then replace s i else s)
  else if settled s i then
    if x.alone ≠ 0 ∨ x.aloneNext ≠ 0 then
      let gone := if (if x.aloneNext ≠ 0 then x.aloneNext - 1 else x.alone) = 1 then 1 else 0
      (startMove s i { twins := gone + 1, shadow := true } none).getD s
    else if outside s i ∨ s.isSet (F.RUL_OUTSL_18 i) = true then slicePlace s i
    else if s.isSet (F.RUL_NOPRF_18 i) then
      (if (critReason s i).isNone then setNoProof s i false
      else
        let st := s.setFn i { x with move := some { twins := allTwins x, shadow := true } }
        match placeSearch st i (allTwins x) true with
        | .ok s' => refreshAll ((setNoProof s' i false).wr (F.RUL_MOVING i) 1) x.subs
        | .error _ => s)
    else s
  else s

/-- An event has been handled: what could not be placed is tried again. -/
def afterEvent (s : State) : State := rulBusy (forEach (liveFns s) s retryOne)

/-- The committed state of a function: of twin A, or of the twin that runs alone. -/
def committed (s : State) (i : Nat) : List Word :=
  let x := s.fn i
  if s.rd (F.RUL_FST i) = 3 then x.carried
  else stateWords s (if x.alone = 2 ∨ x.aloneNext = 3 then x.b else x.a) x.desc.sw

/-- A twin is lost (R273, R325): from the next boundary the other runs alone, and a replacement is sought on the lowest
spare of its ferrule, or otherwise by R314. -/
def loseTwin (s : State) (i twin : Nat) (spares : Bool) : State :=
  let s := s.setFn i { s.fn i with aloneNext := (if twin = 0 then 2 else 1) + 1 }
  let first := if spares then moveSpares s i [twin] else none
  (startMove s i { twins := twin + 1, shadow := true } first).getD s

/-- A nib that failed or was taken out has no spare: one placement of a function on it is given up (R325). `gone` says that
the nib runs nothing any more. -/
def evict (s : State) (i f n : Nat) (gone : Bool) : State :=
  let x := s.fn i
  let on (p : Place) : Bool := p.fer = f && p.nib = n
  let newOn := match x.move with
    | some m => (moveTwins m).any (fun t => on (if t = 0 then m.a else m.b))
    | none => false
  if s.rd (F.RUL_FST i) = 3 ∧ x.held = true then
    (if heldPlaces s i |>.any (fun q => on q.2) then
      let ps := heldPlaces s i
      let s := dropFlows (s.setFn i { x with a := {}, b := {}, held := false }) i [1, 2, 3, 4, 5] [0, 1]
      ps.foldl (fun s q => dropPlace s q.2) s
    else s)
  else if newOn then
    let m := x.move.getD {}
    let s := cancelMove s i
    (startMove s i { twins := m.twins, shadow := m.shadow, pair := m.pair } none).getD s
  else if s.rd (F.RUL_FST i) = 1 then replace (toTransit s i []) i
  else if gone then
    if x.desc.twin ∧ x.alone = 0 ∧ x.aloneNext = 0 then
      let s := cancelMove s i
      loseTwin s i (if on x.a then 0 else 1) false
    else if x.places.any (fun q => on q.2) then replace (toTransit s i (committed s i)) i
    else s
  else if x.move.isNone then
    (startMove s i { twins := (if on x.a then 1 else 0) + (if x.desc.twin && on x.b then 2 else 0), shadow := true } none).getD s
  else s

/-- The functions with a placement on a nib, in slot order (R325). -/
def nibFns (s : State) (f n : Nat) : List Nat :=
  (sortBy (fun q => q.2.2.slot) ((allPlaces s).filter (fun q => q.2.2.fer = f && q.2.2.nib = n))).map (fun q => q.1)

/-- A nib is marked failed (R268, R313, R325): its spare takes its place at the next boundary, or its functions are placed
again. -/
def nibFails (s : State) (f n : Nat) : State :=
  let s := s.setBit (F.RUL_FAIL f) n
  let (s, spare) := leaveService s f n
  let s := histAll s [faultWord 1 f n]
  match spare with
  | some m => if (nibFns s f n).isEmpty then s
      else { s with rul := { s.rul with spares := s.rul.spares ++ [(f, n, m)] } }
  | none => forEach (nibFns s f n) s (fun s i => evict s i f n true)

/-- The ruler is free, and the event at the head of the queue is the one asked for (R304). -/
def headEvent (s : State) (p : RulEvent → Bool) : Option RulEvent :=
  let idle := match s.rul.cmd with
    | some c => !c.started
    | none => true
  match s.rul.events with
  | (_, e) :: _ => if idle && p e then some e else none
  | [] => none

/-- The head of the queue is taken. -/
def popEvent (s : State) : State := { s with rul := { s.rul with events := s.rul.events.drop 1 } }

/-- RULER_HANDLE_NIB_FAULT (R268, R305, R325, R563): a fault, or a nib that a rolling test returns. -/
def execRulerHandleNibFault (t : Nat) (s : State) : Out :=
  let s := s.tick t
  .next (match headEvent s (fun e => match e with
      | .nibFault _ _ => true
      | .nibReturn _ _ => true
      | _ => false) with
    | some (.nibFault f n) => afterEvent (nibFails (popEvent s) f n)
    | some (.nibReturn f n) => afterEvent (histAll (enterService (popEvent s) f n) [faultWord 3 f n])
    | _ => s)

/-- A twin outcome is handled (R273, R325). -/
def twinRuling (s : State) (i tws : Nat) : State :=
  let s := histAll s []
  let x := s.fn i
  if settled s i && x.desc.twin && decide (x.alone = 0) && decide (x.aloneNext = 0) then
    if tws = 2 then loseTwin s i 0 true
    else if tws = 3 then loseTwin s i 1 true
    else (startMove s i { twins := 3, shadow := true, pair := true } (moveSpares s i [0, 1])).getD s
  else s

/-- RULER_HANDLE_TWIN_OUTCOME (R273, R325). -/
def execRulerHandleTwinOutcome (t : Nat) (s : State) : Out :=
  let s := s.tick t
  .next (match headEvent s (fun e => match e with
      | .twinOutcome _ _ => true
      | _ => false) with
    | some (.twinOutcome i tws) => afterEvent (twinRuling (popEvent s) i tws)
    | _ => s)

/-- RULER_HANDLE_SLICE_COMMIT (R305, R325, R509). -/
def execRulerHandleSliceCommit (t : Nat) (s : State) : Out :=
  let s := s.tick t
  .next (match headEvent s (fun e => match e with
      | .slice _ => true
      | _ => false) with
    | some (.slice ws) =>
      let s := histAll (popEvent s) ws
      afterEvent (forEach (liveFns s) s (fun s i => if settled s i then slicePlace s i else s))
    | _ => s)

/-- A shadow stroke has come out (R327): after a first disagreement it is repeated, after a second the target nibs are
marked failed and R314 chooses again. -/
def shadowRuling (s : State) (i : Nat) (agree : Bool) : State :=
  let s := histAll s []
  let x := s.fn i
  match x.move with
  | some m =>
    if agree || !m.told then s
    else
      let s := rulError s F.RUL_SHMM 0x11 i
      if !m.retry then
        let nr := nextOpen s x.desc.dom
        s.setFn i { x with move := some { m with retry := true, agreed := [], bad := 0, told := false, nr := nr, ns := nr + x.desc.hist } }
      else
        let bad := (moveTwins m).filter (fun t => m.pair || bitOf m.bad t)
        let s := cancelMove s i
        let s := forEach bad s (fun s t =>
          let p := if t = 0 then m.a else m.b
          nibFails (s.wr (F.FER_NST p.fer p.nib) 3) p.fer p.nib)
        if settled s i then
          (startMove s i { twins := m.twins, shadow := true, pair := m.pair } none).getD s else s
  | none => s

/-- RULER_HANDLE_SHADOW_OUTCOME (R327). -/
def execRulerHandleShadowOutcome (t : Nat) (s : State) : Out :=
  let s := s.tick t
  .next (match headEvent s (fun e => match e with
      | .shadow _ _ => true
      | _ => false) with
    | some (.shadow i agree) => afterEvent (shadowRuling (popEvent s) i agree)
    | _ => s)

/-- A command of the ruler ends (R68); the next event's turn comes. -/
def endCmd (s : State) (status reason rhandle : Nat) : State :=
  rulBusy { (s.complete 4 status reason rhandle) with rul := { s.rul with cmd := none, staged := none } }

/-- STATUS of a completed placement: some ferrule of it has no spare left (R311). -/
def spareStatus (s : State) (i : Nat) : Nat :=
  if (finalPlaces (s.fn i)).any (fun q => (lowestSpare s q.2.1.fer).isNone) then 0x80 else 0

/-- Consecutive words cut off a list. -/
def cutWords (n : Nat) (l : List Word) : List Word × List Word := (l.take n, l.drop n)

/-- A descriptor as its words spell it (R308). -/
def readDescr (l : List Word) : Descr :=
  let (fd, l) := cutWords 4 l
  let d : Descr := { fd := fd }
  let (tg, l) := cutWords d.ntgt l
  let (bd, l) := cutWords d.nb l
  let (pr, l) := cutWords ((d.plen + 4) / 5) l
  let (xc, l) := cutWords ((d.xcon' + 1) / 2) l
  { fd := fd, targets := tg, binds := bd, prog := pr, xcon := xc, ycon := l.take ((d.ycon' + 1) / 2) }

/-- The words of the descriptor that starts with four words. -/
def descrLen (fd : List Word) : Nat :=
  let d : Descr := { fd := fd }
  4 + d.ntgt + d.nb + d.iw

/-- A staging area is in range and holds no owned word (R307). -/
def areaOk (s : State) (f a n : Nat) : Bool :=
  decide (a + n ≤ 0x3F000) && !(ownedWords s f).any (fun b => runsMeet a n b.1 b.2)

/-- Reason 02h: a field out of range, or a bit that the table does not list (R308). -/
def descrOk (d : Descr) : Bool :=
  decide (getField (d.fdw 0) 32 40 = 0) && decide (getField (d.fdw 1) 47 25 = 0) && decide (getField (d.fdw 2) 56 16 = 0) &&
  decide (getField (d.fdw 3) 28 44 = 0) && d.targets.all (fun w => getField w 43 29 = 0) && d.binds.all (fun w => getField w 36 36 = 0) &&
  d.prog.all (fun w => getField w 70 2 = 0) &&
  decide (d.ipol ≠ 3) && decide (d.nb ≤ 256) && decide (1 ≤ d.nout) && decide (d.nout ≤ 64) && decide (d.ntgt ≤ 8) &&
  decide (1 ≤ d.budget) && decide (1 ≤ d.fast) && decide (d.fast ≤ d.budget) && decide (d.sw ≤ 16384) && decide (1 ≤ d.plen) &&
  decide (d.plen ≤ 8192) && decide (d.xlen ≤ 8192) && decide (2 ≤ d.xstk) && decide (d.xstk ≤ d.xscr) && decide (d.ylen ≤ 8192)

/-- A binding is a current handle of a subscription that the tenant may bind (R309). -/
def bindOk (s : State) (ten : Nat) (w : Word) : Bool :=
  let i := bindSub w
  (handleCheck s subHandles (getField w 0 36) (fun _ => true)).isNone && subLive s i &&
  (decide (ten = 0) || decide (s.rd (F.SUB_OWNER i) = ten))

/-- A target is a current handle, or a trip line, that the tenant may target, and no function holds it (R309, R336). -/
def targetOk (s : State) (ten : Nat) (w : Word) : Bool :=
  let same (v : Word) : Bool := match targetLine w, targetLine v with
    | some l, some k => l = k
    | none, none => targetPub w = targetPub v
    | _, _ => false
  !(liveFns s).any (fun j => (s.fn j).desc.targets.any same) &&
  (match targetLine w with
    | some l => decide (ten = 0) || bitOf (s.rd (F.TEN_SLICE ten)) l
    | none =>
      let p := targetPub w
      (handleCheck s pubHandles (getField w 0 36) (fun _ => true)).isNone && pubHere s (p / 32) p &&
      (decide (ten = 0) || decide (s.rd (F.PUB_OWNER p) = ten)))

/-- A list holds an element twice. -/
def repeats (l : List Nat) : Bool := match l with
  | [] => false
  | a :: t => t.contains a || repeats t

/-- The first of reasons 02h to 07h for which a CREATE is invalid (R311). -/
def createReason (s : State) (ten : Nat) (d : Descr) : Option Nat :=
  let names := d.targets.map (fun w => match targetLine w with
    | some l => l
    | none => 64 + targetPub w)
  if !descrOk d then some 2
  else if s.rd (F.TEN_TSTATE ten) ≠ 1 ∨ d.binds.all (bindOk s ten) = false then some 3
  else if d.binds.any (fun w => decide (subDom s (bindSub w) ≠ d.dom) || s.isSet (F.SUB_SPER_23 (bindSub w))) = true ∨
      repeats (d.binds.map bindSub) = true then some 4
  else if d.targets.all (targetOk s ten) = false ∨ repeats names = true then some 5
  else if domPeriod s d.dom = 0 then some 6
  else if (findBelow (fun i => s.rd (F.RUL_FST i) = 0) 4096).isNone then some 7
  else none

/-- A command that took effect is kept with its tenant's, for an export (R525). -/
def logCmd (s : State) (c : RulCmd) (i : Nat) (words : List Word) : State :=
  let t := s.rd (F.RUL_TEN i)
  { s with tens := tmod s.tens t (fun x => { x with cmds := x.cmds ++ [(c.cmd, c.arg, words, i)] }) }

/-- The words of a descriptor as it was staged (R308). -/
def Descr.staged (d : Descr) : List Word := d.fd ++ d.targets ++ d.binds ++ d.prog ++ d.xcon ++ d.ycon

/-- CREATE of a valid descriptor (R310, R312, R314). -/
def createFn (s : State) (c : RulCmd) (d : Descr) : State :=
  match createReason s c.tenant d with
  | some r => endCmd s 1 r 0
  | none =>
    let i := (findBelow (fun i => s.rd (F.RUL_FST i) = 0) 4096).getD 0
    let s1 := ((s.setFn i { desc := d }).wr (F.RUL_FST i) 1).wr (F.RUL_TEN i) c.tenant
    match placeSearch s1 i 3 d.crit with
    | .error r => endCmd s 2 r 0
    | .ok s2 =>
      let s2 := setPstate (countFns (refreshAll s2 (d.binds.map bindSub)) c.tenant) i true
      endCmd (logCmd s2 c i d.staged) (spareStatus s2 i) 0 (s2.handle 3 i i)

/-- UPDATE of a valid descriptor (R310, R328): it takes effect at the first boundary after its load. -/
def updateFn (s : State) (c : RulCmd) (d : Descr) : State :=
  let x := s.fn c.index
  if !descrOk d then endCmd s 1 2 0
  else if d.fd ≠ x.desc.fd then endCmd s 3 0x24 0
  else endCmd (logCmd (s.setFn c.index { x with
    update := some ({ x.desc with prog := d.prog, xcon := d.xcon, ycon := d.ycon }, none) }) c c.index d.staged) 0 0 0

/-- STAGING_AREA_READ (R307, R308, R311): the area of the command that the ruler handles is read, once its ferrule is in
RUN. -/
def execStagingAreaRead (t : Nat) (s : State) : Out :=
  let s := s.tick t
  .next (match s.rul.cmd with
    | some c =>
      let f := getField c.arg 0 6
      let a := getField c.arg 6 18
      if c.started && (decide (c.opc = 1) || decide (c.opc = 3)) && ferRun s f then
        let words := if areaOk s f a 4 then
            (let fd := s.inks f a 4
            if areaOk s f a (descrLen fd) then s.inks f a (descrLen fd) else fd)
          else []
        let s := histCmd s ([c.cmd, c.arg] ++ words)
        let ok := areaOk s f a 4 && areaOk s f a (descrLen (words.take 4))
        afterEvent (if !ok then endCmd s 1 1 0
          else
            let d := readDescr words
            let s := { s with rul := { s.rul with staged := some d } }
            if c.opc = 1 then createFn s c d else updateFn s c d)
      else s
    | none => s)

/-- A function may not be named by a command now (R311 reason 21h, R304, R327, R523): a DESTROY is accepted during a move. -/
def fnBusy (s : State) (c : RulCmd) : Bool :=
  let x := s.fn c.index
  decide (s.gen 3 c.index ≠ getField c.cmd 56 12) || decide (s.rd (F.RUL_FST c.index) ≠ 2) || x.destroyAt.isSome ||
  x.update.isSome || (x.move.isSome && decide (c.opc ≠ 2)) || isFrozen s c.index

/-- DESTROY (R310, R327): at the next boundary, or at once while the domain does not run. -/
def destroyFn (s : State) (i : Nat) : State :=
  let s := cancelMove s i
  let d := (s.fn i).desc.dom
  if s.isSet (F.DOM_RUN d) then s.setFn i { s.fn i with destroyAt := some (openAt s d (nextOpen s d)) }
  else fnFree s i

/-- NIBOUT (R310, R313, R325): the nib's functions go to the lowest spare, or otherwise by R314, with a shadow stroke. -/
def nibOut (s : State) (f n : Nat) : State :=
  let s := s.setBit (F.RUL_OUT f) n
  let (s, spare) := leaveService s f n
  let s := histAll s [faultWord 2 f n]
  let s := forEach (nibFns s f n) s (fun s i =>
    let x := s.fn i
    let on (p : Place) : Bool := p.fer = f && p.nib = n
    if settled s i then
      let tw := if on x.a then 0 else 1
      let first := spare.map (fun m => (s, [(tw, f, some m)]))
      (startMove s i { twins := tw + 1, shadow := true } first).getD s
    else evict s i f n false)
  refreshFer s f

/-- A command whose turn has come (R304): it is checked against the state that it finds. -/
def startCmd (s : State) (c : RulCmd) : State :=
  let s := { s with rul := { s.rul with cmd := some { c with started := true } } }
  let names := decide (2 ≤ c.opc) && decide (c.opc ≤ 4)
  if c.opc = 1 ∨ (c.opc = 3 ∧ fnBusy s c = false) then wakeFerrule s (getField c.arg 0 6)
  else
    let s := histCmd s [c.cmd, c.arg]
    let i := c.index
    let f := getField c.arg 0 6
    let n := getField c.arg 6 5
    let inService := decide (n < 18) && bitOf (s.rd (F.RUL_SVC f)) n
    afterEvent (
      if names && fnBusy s c then endCmd s 3 0x21 0
      else if c.opc = 2 then endCmd (destroyFn (logCmd s c i []) i) 0 0 0
      else if c.opc = 4 then
        let x := s.fn i
        let m := getField c.arg 0 48
        if m ≤ curStroke s x.desc.dom then endCmd s 3 0x22 0
        else endCmd (s.setFn i { x with ckpt := some m }) (if x.ckpt.isSome then 0x81 else 0) 0 0
      else if c.init ≠ 0x20 then endCmd s 3 0x20 0
      else if c.opc = 5 then (if inService then endCmd (nibOut s f n) 0 0 0 else endCmd s 3 0x23 0)
      else if n < 18 ∧ inService = false then endCmd (histAll (enterService s f n) [faultWord 3 f n]) 0 0 0
      else endCmd s 3 0x23 0)

/-- The kind and range of the ruler's handles (R71, R329). -/
def fnHandles : HandleSpec := { kind := 3, count := 4096, slot := fun i => i }

/-- A doorbell of the ruler (R304, R310): accepted, it is handled at once when no event waits and none is being handled. -/
def rulDoorbell (s : State) (init seq opc handle : Nat) : State :=
  let late (s : State) : Option Nat :=
    if opc = 1 ∨ opc = 5 ∨ opc = 6 then (if handle ≠ 0 then some 4 else none)
    else match handleCheck s fnHandles handle (fun i => s.rd (F.RUL_TEN i) = initTenant s init) with
      | some r => some r
      | none => if s.rd (F.RUL_FST (handle % 2 ^ 20)) = 0 ∨ s.rd (F.TEN_TSTATE (s.rd (F.RUL_TEN (handle % 2 ^ 20)))) = 3 then some 7
          else none
  match s.doorbell 4 seq opc handle late with
  | (s, false) => s
  | (s, true) =>
    let c : RulCmd := { opc := opc, cmd := s.word (F.DBL_SEQ 4).addr, index := handle % 2 ^ 20, arg := s.word (4 * 512 + 10),
                        init := init, tenant := initTenant s init }
    if s.rul.events.isEmpty then startCmd s c
    else { s with rul := { s.rul with cmd := some c } }.rulEvent .command

/-- RULER_CREATE (R310). -/
def execRulerCreate (t init seq handle : Nat) (s : State) : Out := .next (rulDoorbell (s.tick t) init seq 1 handle)

/-- RULER_DESTROY (R310, R327). -/
def execRulerDestroy (t init seq handle : Nat) (s : State) : Out := .next (rulDoorbell (s.tick t) init seq 2 handle)

/-- RULER_UPDATE (R310, R328). -/
def execRulerUpdate (t init seq handle : Nat) (s : State) : Out := .next (rulDoorbell (s.tick t) init seq 3 handle)

/-- RULER_CKPT (R245, R310). -/
def execRulerCkpt (t init seq handle : Nat) (s : State) : Out := .next (rulDoorbell (s.tick t) init seq 4 handle)

/-- NIBOUT (R310, R325). -/
def execNibout (t init seq handle : Nat) (s : State) : Out := .next (rulDoorbell (s.tick t) init seq 5 handle)

/-- NIBIN (R310, R313). -/
def execNibin (t init seq handle : Nat) (s : State) : Out := .next (rulDoorbell (s.tick t) init seq 6 handle)

/-- RULER_QUEUED_COMMAND_START (R304): a command that waited has its turn. -/
def execRulerQueuedCommandStart (t : Nat) (s : State) : Out :=
  let s := s.tick t
  .next (match headEvent s (fun e => match e with
      | .command => true
      | _ => false), s.rul.cmd with
    | some .command, some c => startCmd (popEvent s) c
    | _, _ => s)

/-- The ferrules of some placements are in RUN. -/
def fersRun (s : State) (l : List Place) : Bool := l.all (fun p => ferRun s p.fer)

/-- FUNCTION_LOAD_COMPLETE (R312, R325, R327): images are loaded; the decisions already taken for strokes to come are sent to
the ferrules that newly take them. -/
def execFunctionLoadComplete (t fn : Nat) (s : State) : Out :=
  let s := s.tick t
  let x := s.fn fn
  let d := x.desc.dom
  let n := nextOpen s d
  let send (s : State) (ps : List Place) : State :=
    forEach x.subs s (fun s b => sendDecided s b n (ps.foldl (fun l p => insertNat p.fer l) []))
  let s := if s.rd (F.RUL_FST fn) = 1 ∧ x.loaded = false ∧ fersRun s (x.places.map (fun q => q.2)) = true then
      send (s.setFn fn { x with loaded := true }) (x.places.map (fun q => q.2)) else s
  let s := match x.update with
    | some (u, none) => s.setFn fn { s.fn fn with update := some (u, some (openAt s d n)) }
    | _ => s
  .next (match x.move with
    | some m =>
      let ps := (moveTwins m).map (fun t => if t = 0 then m.a else m.b)
      if m.loaded = false ∧ fersRun s ps = true then
        send (s.setFn fn { s.fn fn with move := some { m with loaded := true, nr := n, ns := n + (if m.shadow then x.desc.hist else 0) } }) ps
      else s
    | none => s)

end Sys2Proof.Machine
end

