-- ==== Sys2Proof/Machine/Strokes.lean ====
section
/-! DEFINITION. Strokes (R216 to R231): the parameters of the domains, the opening of a stroke with the changes that take
effect at its boundary (R220, R310 to R314, R325 to R327), sample messages, and the close of a stroke on a ferrule.
Decisions: log entries 36 (DEDUCED), 38 (DEDUCED), 39 (DEDUCED), 84 (DEDUCED), 89 (DEDUCED). -/

namespace Sys2Proof.Machine
open Sys2Proof

/-- The effect of a write of DOM_PER, DOM_ANC or DOM_GRC (R218). -/
def domParamWrite (s : State) (d off : Nat) (value : Word) : State :=
  let page := 4 + d
  if s.isSet (F.DOM_RUN d) then s.ignored page off 7
  else if off = 64 then
    let v := getField value 0 20
    if v ≠ 0 ∧ (v < 10000 ∨ 1000000 < v) then s.ignored page off 7
    else forEach (cellLanes s d) (domSubsEval (s.wr (F.DOM_PER d) v) d) periodNow
  else if off = 65 then
    (if (wordTime value).isNone then s.ignored page off 7 else domSubsEval (s.wr (F.DOM_ANC d) value.toNat) d)
  else if off = 66 then
    (if 5000 < getField value 0 13 then s.ignored page off 7 else s.wr (F.DOM_GRC d) (getField value 0 13))
  else s

/-- DOMAIN_PARAM_WRITE (R218). -/
def execDomainParamWrite (t init dom off : Nat) (value : Word) (s : State) : Out :=
  let _ := init
  .next (domParamWrite (s.tick t) dom off value)

/-- The first stroke of a start now: the first that opens 10.000 µs or more later (R219). -/
def firstStroke (s : State) (d : Nat) : Nat :=
  (s.devTime + 10000 - domAnchor s d + domPeriod s d - 1) / max (domPeriod s d) 1

/-- What is kept by stroke of a domain is void when it starts: with another anchor or period its numbers may come again (R216,
R219). -/
def strokesForget (s : State) (d : Nat) : State :=
  let other (i : Nat) : Bool := decide ((s.fn i).desc.dom ≠ d)
  let r : Rul := s.rul
  let s : State := { s with
    ferDoms := s.ferDoms.filter (fun e => decide (e.1 % 4 ≠ d))
    rul := { r with
      decided := r.decided.filter (fun e => other (e.1 / 128)), unsent := r.unsent.filter (fun e => other e.1)
      recs := r.recs.filter (fun e => other e.fn) }
    dpx := { s.dpx with
      own := s.dpx.own.filter (fun o => decide (o.dom ≠ d)), peer := s.dpx.peer.filter (fun o => decide (o.dom ≠ d))
      sent := tset s.dpx.sent d 0 } }
  let s := forEach ((livePubs s).filter (fun p => pubDom s p = d)) s (fun s p => s.setPub p { s.pub p with shown := 0 })
  let s := forEach ((List.range 64).filter (fun f => (s.trip f).dom = d)) s (fun s f => s.setTrip f { s.trip f with shown := 0 })
  forEach (cellLanes s d) s (fun s l => s.setCell l { s.cell l with sent := [], answered := [], ready := [] })

/-- The effect of a write of DOM_CTL (R219). -/
def domCtlWrite (s : State) (d : Nat) (start stop : Bool) : State :=
  let page := 4 + d
  if start && stop then s.ignored page 67 7
  else if start then
    if s.isSet (F.DOM_RUN d) = false ∧ domPeriod s d ≠ 0 ∧ graceNs s d + 6000 ≤ domPeriod s d ∧
        s.rd (F.DOM_ANC d) ≤ (timeWord s.devTime).toNat ∧ firstStroke s d < 2 ^ 48 then
      let n := firstStroke s d
      let s := (((strokesForget s d).wr (F.DOM_RUN d) 1).wr (F.DOM_FIRST d) n).wr (F.DOM_CUR d) n
      { s with rul := { s.rul with fresh := insertNat d s.rul.fresh } }
    else s.ignored page 67 7
  else if stop then
    if (liveFns s).any (fun i => isPlaced s i && decide ((s.fn i).desc.dom = d)) then s.ignored page 67 7
    else
      let s := s.wr (F.DOM_RUN d) 0
      let s := { s with rul := { s.rul with fresh := s.rul.fresh.filter (fun e => e ≠ d) } }
      forEach (cellLanes s d) ((liveSubs s).foldl (fun s i => match (s.sub i).setpol with
        | some (_, lpol, simok) => if subDom s i = d then applySetpol s i lpol simok else s
        | none => s) s).domainsStopped periodNow
  else s

/-- DOMAIN_START (R219). -/
def execDomainStart (t init dom : Nat) (s : State) : Out :=
  let _ := init
  .next (domCtlWrite (s.tick t) dom true false)

/-- DOMAIN_STOP (R219). -/
def execDomainStop (t init dom : Nat) (s : State) : Out :=
  let _ := init
  .next (domCtlWrite (s.tick t) dom false true)

/-- The program bank of a placement's nib swaps (R250). -/
def swapBank (s : State) (p : Place) : State := s.wr (F.FER_PBANK p.fer p.nib) (1 - s.rd (F.FER_PBANK p.fer p.nib))

/-- A move takes over at the opening of stroke `n` (R325 to R327). -/
def takeover (s : State) (i n : Nat) : State :=
  let x := s.fn i
  match x.move with
  | some m =>
    let was := s.rd (F.RUL_FST i) = 3
    let ts := moveTwins m
    let old := if was then [] else ts.map (fun t => if t = 0 then x.a else x.b)
    let new := ts.map (fun t => if t = 0 then m.a else m.b)
    let s := if m.shadow then
        (let s := dropFlows (dropFlows s i [1] ts) i [3] [0]
        { s with rul := { s.rul with flows := s.rul.flows.map (fun e =>
          if e.2.key = i ∧ e.2.kind = 4 then (e.1, { e.2 with kind := 1 })
          else if e.2.key = i ∧ e.2.kind = 5 then (e.1, { e.2 with kind := 3 }) else e) } })
      else s
    let heal := decide (x.alone ≠ 0) && bitOf m.twins (if x.alone = 1 then 1 else 0)
    let x := { x with a := (if bitOf m.twins 0 then m.a else x.a), b := (if bitOf m.twins 1 then m.b else x.b), move := none
                      alone := (if heal then 0 else x.alone), aloneNext := (if heal then 0 else x.aloneNext)
                      waitA := (if bitOf m.twins 0 then 0 else x.waitA), waitB := (if bitOf m.twins 1 then 0 else x.waitB)
                      carried := [], lastRun := n, first := if was then n else x.first, here := n }
    let s := s.setFn i x
    let s := old.foldl dropPlace s
    let s := new.foldl swapBank s
    let s := new.foldl (fun s p => refreshFer s p.fer) s
    let s := (((s.wr (F.RUL_FST i) 2).wr (F.RUL_FSTART i) n).wr (F.RUL_MOVING i) 0).bump (F.RUL_NMOVE i)
    let s := s.wr F.RUL_MOVED 1
    let s := if outside s i then s else s.wr (F.RUL_OUTSL_18 i) 0
    let s := if was then setOwner s i true else s
    refreshAll (sampleSweep s x.subs) x.subs
  | none => s

/-- A move at a stroke boundary (R325, R327): the rings change at Nr, the state is seeded before the shadow stroke, and the
new placements take over after it when every point agreed. -/
def boundaryMove (s : State) (i n : Nat) : State :=
  let x := s.fn i
  match x.move with
  | some m =>
    if !m.loaded then s
    else
      let new := (moveTwins m).map (fun t => if t = 0 then m.a else m.b)
      let s := if m.nr = n then new.foldl (fun s p => ringsChange s i p.fer) s else s
      let seed (s : State) (ws : List Word) : State := new.foldl (fun s p => seedState s p ws) s
      if !m.shadow then
        (if m.nr ≤ n ∧ !x.held then takeover (seed s (if x.carried.isEmpty then List.replicate x.desc.sw 0 else x.carried)) i n else s)
      else if m.ns = n then seed s (committed s i)
      else if m.ns < n then
        let pts := outPoints s x
        if (moveTwins m).all (fun t => pts.all (fun p => m.agreed.contains (t, p))) then takeover s i n
        else if m.told then s
        else (s.setFn i { x with move := some { m with
          told := true
          bad := (moveTwins m).foldl (fun b t => if pts.all (fun p => m.agreed.contains (t, p)) then b else setBitN b t) m.bad } }).rulEvent
            (.shadow i false)
      else s
  | none => s

/-- A function at the opening of stroke `n` of its domain (R220, R310, R312, R326). -/
def boundaryFn (s : State) (n i : Nat) : State :=
  let x := s.fn i
  let fst := s.rd (F.RUL_FST i)
  let now := openAt s x.desc.dom n
  let due (o : Option Nat) : Bool := match o with
    | some b => decide (b ≤ now)
    | none => false
  if due x.destroyAt then fnFree s i
  else if fst = 1 then
    if x.loaded then
      let ps := x.places.map (fun q => q.2)
      let s := ps.foldl (fun s p => ringsChange (swapBank s p) i p.fer) s
      let s := ((s.wr (F.RUL_FST i) 2).wr (F.RUL_FSTART i) n).setFn i { x with lastRun := n, first := n, here := n }
      setOwner s i true
    else s
  else
    let s : State := match x.update with
      | some (u, b) => if due b then
          (let s := s.setFn i { x with desc := u, update := none }
          (heldPlaces s i).foldl (fun s q => swapBank (s.setInks q.2.fer q.2.img (u.prog ++ u.xcon ++ u.ycon)) q.2) s)
        else s
      | none => s
    let x := s.fn i
    let s := if x.aloneNext ≠ 0 then s.setFn i { x with alone := x.aloneNext - 1, aloneNext := 0 } else s
    let s := boundaryMove s i n
    if s.rd (F.RUL_FST i) = 3 then s.bump (F.RUL_NTRANS i) else s

/-- A placement on a failed nib passes to the spare (R325). -/
def spareOf (f n m : Nat) (p : Place) : Place := if p.fer = f ∧ p.nib = n then { p with nib := m } else p

/-- A spare takes a failed nib's place (R325): slots, parts, state areas, rings and flows unchanged. -/
def spareTakes (s : State) (stroke f n m : Nat) : State :=
  let ids := nibFns s f n
  let g := spareOf f n m
  let s := forEach (List.range 4) s (fun s k =>
    let a := (0x100 + 4 * f) * 512 + 64
    (s.setWord (a + 4 * m + k) (s.word (a + 4 * n + k))).setWord (a + 4 * n + k) 0)
  let s := forEach ids s (fun s i =>
    let x := s.fn i
    let s := s.setFn i { x with
      a := g x.a
      b := g x.b
      move := x.move.map (fun v => { v with a := g v.a, b := g v.b }) }
    ((s.wr (F.RUL_FSTART i) stroke).bump (F.RUL_NMOVE i)).wr F.RUL_MOVED 1)
  let s := (refreshFer (s.setNib f m {}) f).wr (F.FER_PBANK f m) (1 - s.rd (F.FER_PBANK f m))
  refreshAll s []

/-- The spares due at a boundary of a domain (R325). -/
def spareTakeovers (s : State) (d n : Nat) : State :=
  let due := s.rul.spares.filter (fun e => s.rd (F.FER_DOM e.1 e.2.1) = d)
  let s := { s with rul := { s.rul with spares := s.rul.spares.filter (fun e => s.rd (F.FER_DOM e.1 e.2.1) ≠ d) } }
  forEach due s (fun s e => spareTakes s n e.1 e.2.1 e.2.2)

/-- The functions that a ferrule computes in a stroke, with the placement there, and whether it is the new one of a move
(R222, R327). -/
def fnsFor (s : State) (f d n : Nat) : List (Nat × Nat × Place × Bool) :=
  ((liveFns s).filter (fun i => (s.fn i).desc.dom = d)).flatMap (fun i =>
    let x := s.fn i
    (if isPlaced s i && decide (x.here ≤ n) then
      (x.places.filter (fun q => q.2.fer = f)).map (fun q => (i, q.1, q.2, false)) else []) ++
    (match x.move with
      | some m => if m.shadow && m.loaded && decide (m.nr ≤ n) && decide (n ≤ m.ns) then
          ((moveTwins m).map (fun t => (i, t, (if t = 0 then m.a else m.b), true))).filter (fun q => q.2.2.1.fer = f)
        else []
      | none => []))

/-- A ferrule's view of a domain. -/
def State.ferDom (s : State) (f d : Nat) : FerDom := tget s.ferDoms (4 * f + d)
def State.setFerDom (s : State) (f d : Nat) (x : FerDom) : State := { s with ferDoms := tset s.ferDoms (4 * f + d) x }

/-! ### Freezing and resuming a tenant at a boundary (R522, R527) -/

/-- The last stroke that opens before an instant (R522). -/
def lastBefore (s : State) (d T : Nat) : Nat := (T - 1 - domAnchor s d) / max (domPeriod s d) 1

/-- A function is held as one in transit, with its placement (R522): its move is given up. -/
def holdFn (s : State) (i : Nat) : State :=
  let s := cancelMove s i
  let x := s.fn i
  let fst := s.rd (F.RUL_FST i)
  if fst = 3 then s
  else
    let s := setOwner s i false
    (s.setFn i { x with held := true, carried := if fst = 1 then List.replicate x.desc.sw 0 else [] }).wr (F.RUL_FST i) 3

/-- The freeze of a tenant takes effect in a domain (R522). -/
def freezeDom (s : State) (t d : Nat) : State :=
  let x := tget s.tens t
  match x.freezeAt with
  | none => s
  | some T =>
    if x.nds.any (fun e => e.1 == d) then s
    else
      let s := forEach ((liveFns s).filter (fun i => s.rd (F.RUL_TEN i) = t && (s.fn i).desc.dom = d)) s holdFn
      { s with tens := tset s.tens t { x with nds := x.nds ++ [(d, lastBefore s d T)] } }

/-- A checkpoint of a stroke from the committed state, beside any that was requested (R522, R527). -/
def ckptOf (s : State) (i n : Nat) : State :=
  let x := s.fn i
  let s := checkpoint (s.setFn i { x with ckpt := some n }) i n (if x.alone = 2 then 1 else 0) false
  s.setFn i { s.fn i with ckpt := x.ckpt }

/-- A held function runs again from a stroke on (R527). -/
def resumeFn (s : State) (i n : Nat) : State :=
  let x := s.fn i
  let nd := s.rd (F.TEN_FRZ_196 (s.rd (F.RUL_TEN i)) x.desc.dom)
  let s := ckptOf s i nd
  let s := s.setFn i { s.fn i with held := false, carried := [], loaded := true, lastRun := n, first := n, here := n }
  let s := setOwner ((s.wr (F.RUL_FST i) 2).wr (F.RUL_FSTART i) n) i true
  if outside s i then slicePlace s i else s

/-- Freezes and resumptions that are due at the opening of stroke `n` of a domain (R522, R527). -/
def boundaryTenants (s : State) (d n : Nat) : State :=
  let now := openAt s d n
  let s := forEach (List.range' 1 15) s (fun s t =>
    match (tget s.tens t).freezeAt with
    | some T => if T ≤ now then freezeDom s t d else s
    | none => s)
  forEach (liveFns s) s (fun s i =>
    let x := s.fn i
    match (tget s.tens (s.rd (F.RUL_TEN i))).resumeAt with
    | some Tr => if Tr ≤ now ∧ x.desc.dom = d ∧ x.held = true ∧ s.rd (F.RUL_FST i) = 3 then resumeFn s i n else s
    | none => s)

/-- STROKE_OPEN (R216, R220): the next stroke of a running domain opens, and what waited for its boundary takes effect. -/
def strokeOpen (s : State) (d : Nat) : State :=
  let n := nextOpen s d
  if s.isSet (F.DOM_RUN d) && decide (openAt s d n ≤ s.devTime) then
    let s := s.wr (F.DOM_CUR d) n
    let s := { s with rul := { s.rul with fresh := s.rul.fresh.filter (fun e => e ≠ d) } }
    let s := boundarySetpols s d
    let s := boundaryTenants (spareTakeovers s d n) d n
    let s := forEach ((liveFns s).filter (fun i => (s.fn i).desc.dom = d)) s (fun s i => boundaryFn s n i)
    let s := forEach ((liveFns s).filter (fun i => (s.fn i).desc.dom = d)) s setEdl
    let s := forEach ((liveSubs s).filter (fun i => subType s i = 3 && subDom s i = d)) s subEval
    let s := cellBoundary s d n
    let s := forEach ((cellLanes s d).filter (fun l => (fnsFor s (l / 16) d n).isEmpty)) s (fun s l => cellJudge s l (n - 1))
    openTargets s d n
  else s

/-- STROKE_OPEN. -/
def execStrokeOpen (t dom : Nat) (s : State) : Out := .next (strokeOpen (s.tick t) dom)

/-- A frame's words and header written into a ring at some address (R230). -/
def putFrame (s : State) (f sub n : Nat) (head : Word) (ws : List Word) : State :=
  let r := s.ring f sub
  let put (s : State) (addr depth words : Nat) : State :=
    if depth = 0 then s else s.setInks f (frameAt addr depth words n) (head :: (ws ++ List.replicate (words - ws.length) 0).take words)
  let s := put s r.addr r.depth r.words
  match r.old with
  | some (a, k, w) => put s a k w
  | none => s

/-- The header word of a frame (R230). -/
def frameHead (n : Nat) (pres frozen : Bool) : Word := BitVec.ofNat 72 (n % 2 ^ 48 + b2n pres * 2 ^ 48 + b2n frozen * 2 ^ 49)

/-- SAMPLE_MESSAGE_ARRIVE (R224, R226, R230, R634): a decision, or cut-off values, with their input words reach a consuming
ferrule; one that is not in RUN loses them, and what comes after the close is of no use. -/
def execSampleMessageArrive (t ferrule sub stroke : Nat) (s : State) : Out :=
  let s := s.tick t
  let is (m : SampleMsg) : Bool := m.ferrule = ferrule && m.sub = sub && m.stroke = stroke
  .next (match s.rul.samples.find? is with
    | some m =>
      let s := { s with rul := { s.rul with samples := s.rul.samples.filter (fun q => !is q) } }
      let d := subDom s sub
      let fd := s.ferDom ferrule d
      if ferRun s ferrule = false ∨ stroke < fd.closed then s
      else (putFrame s ferrule sub stroke (frameHead stroke m.pres false) m.words).setFerDom ferrule d
        { fd with arrived := fd.arrived.filter (fun e => !(decide (e.1 = sub) && decide (e.2.1 = stroke))) ++
                             [(sub, stroke, m.pres, s.devTime)] }
    | none => s)

/-- The run context of a function on a ferrule. -/
def ctxOf (s : State) (q : Nat × Nat × Place × Bool) : RunCtx :=
  { f := q.2.2.1.fer, n := q.2.2.1.nib, k := q.2.2.1.slot, fn := q.1, x := s.fn q.1, twin := q.2.1, p := q.2.2.1, isNew := q.2.2.2 }

/-- What has arrived for a subscription and stroke: its presence. -/
def arrivedPres (fd : FerDom) (sub n : Nat) : Option Bool :=
  (fd.arrived.find? (fun e => e.1 = sub && e.2.1 = n)).map (fun e => e.2.2.1)

/-- The stroke header of a function (R229). -/
def strokeHeader (s : State) (c : RunCtx) (fd : FerDom) (n : Nat) : State :=
  let subs := c.x.subs
  let aa := subs.any (fun b => subType s b = 1 && subAlign s b)
  let sim := (inputWords s c.x c.f n).any (fun w => getField w 69 1 = 1)
  let pv := subs.zipIdx.foldl (fun v q => if arrivedPres fd q.1 n = some true then setBitN v q.2 else v) 0
  s.setInks c.f c.p.hdr (BitVec.ofNat 72 (n % 2 ^ 48 + c.x.desc.dom * 2 ^ 48 + b2n aa * 2 ^ 50 + b2n sim * 2 ^ 51) ::
    (List.range 4).map (fun k => BitVec.ofNat 72 (bitsOf pv (64 * k) 64)))

/-- A twin whose decision of the stroke before has not arrived by the close (R272): its pending state is discarded; the
answer says whether it missed it. -/
def missDecision (s : State) (c : RunCtx) : State × Bool :=
  let w := if c.twin = 0 then c.x.waitA else c.x.waitB
  if c.isNew || c.solo || decide (w = 0) then (s, false)
  else
    let s := (settleState s c.p c.x.desc.sw false).wr (F.FER_LFLT c.f (4 * c.n + c.k)) 1
    (s.setFn c.fn (if c.twin = 0 then { s.fn c.fn with waitA := 0 } else { s.fn c.fn with waitB := 0 }), true)

/-- The error notices of a twin's stroke call for no re-ruling: the decision was missed because the lowest point was not in
RUN (R272). -/
def excuse (s : State) (c : RunCtx) (n : Nat) : State :=
  { s with rul := { s.rul with outputs := s.rul.outputs.map (fun (m : OutMsg) =>
    if m.fn = c.fn ∧ m.twin = c.twin ∧ m.stroke = n ∧ m.err = true then { m with excused := true } else m) } }

/-- One function at the close of a stroke (R225, R229, R237, R268, R272): skipped, recorded with DERR, or set to run; the
answer is whether it runs. -/
def closeFn (s : State) (fd : FerDom) (n : Nat) (c : RunCtx) : State × Bool :=
  let s := strokeHeader s c fd n
  let nst := s.rd (F.FER_NST c.f c.n)
  if nst = 2 then (skipRun s c n 3, false)
  else
    let lowest := lowestPoint s c.x
    let (s, missed) := missDecision s c
    let s := if c.isNew then s else closeSkips s c
    let derr := missed || c.x.subs.any (fun b => (arrivedPres fd b n).isNone) || decide (3 ≤ nst)
    if derr then
      let s := if c.isNew then s else s.setFn c.fn { s.fn c.fn with lastRun := n + 1 }
      let s := derrRun s { c with x := s.fn c.fn } n
      (if missed && (!ferRun s lowest || decide (decidedAt s c.fn lowest + 1 ≤ n) || decide (tget s.rul.unsent c.fn = n)) then excuse s c n else s, false)
    else (s, true)

/-- The stroke that a ferrule closes next in a domain, if one is open (R224). -/
def nextClose (s : State) (f d : Nat) : Option Nat :=
  let fd := s.ferDom f d
  let cur := curStroke s d
  let starts := ((liveFns s).filter (fun i => (s.fn i).desc.dom = d)).filterMap (fun i =>
    let x := s.fn i
    if isPlaced s i && x.places.any (fun q => q.2.fer = f) then some x.here
    else match x.move with
      | some m => if m.shadow && m.loaded && (moveTwins m).any (fun t => (if t = 0 then m.a else m.b).fer = f) then some m.nr else none
      | none => none)
  match starts with
  | [] => none
  | a :: t =>
    let n := max fd.closed (t.foldl min a)
    if n ≤ cur ∧ s.rul.fresh.contains d = false ∧ (fnsFor s f d n).isEmpty = false then some n else none

/-- Some run of the stroke before on a ferrule has not ended (R224). -/
def runsLeft (s : State) (f d : Nat) : Bool :=
  (List.range 18).any (fun n => s.rd (F.FER_DOM f n) = d &&
    (decide (s.rd (F.FER_NST f n) = 1) || (decide (s.rd (F.FER_NST f n) = 0) && !(s.nib f n).queue.isEmpty)))

/-- The close of a stroke on a ferrule in RUN (R224 to R230). -/
def closeNow (s : State) (f d n : Nat) (atDl : Bool) : State :=
  let fd := s.ferDom f d
  let fs := fnsFor s f d n
  let subs := fs.foldl (fun l q => (s.fn q.1).subs.foldl (fun l b => insertNat b l) l) []
  let s := if atDl then s.bump (F.DOM_NDL d) else s
  let s := if strokeTrace s f then s.trace (0x40 + f) 6 (n % 2 ^ 48) (some (BitVec.ofNat 72 (d + 4 * b2n atDl))) else s
  let s := forEach subs s (fun s b => match arrivedPres fd b n with
    | some p => putFrame s f b n (frameHead n p true) (frameWords s f b n)
    | none => putFrame s f b n (frameHead n false true) [])
  let r := fs.foldl (fun (r : State × List (Nat × Nat)) q =>
    let c := ctxOf r.1 q
    let shadowRun := match c.x.move with
      | some m => decide (m.ns = n)
      | none => false
    if c.isNew && !shadowRun then r
    else
      let (s, runs) := closeFn r.1 fd n c
      (s, if runs then r.2 ++ [(c.n, c.k)] else r.2)) (s, [])
  let s := forEach (List.range 18) r.1 (fun s m =>
    let ks := (sortBy (fun k => k) ((r.2.filter (fun q => q.1 = m)).map (fun q => q.2)))
    if ks.isEmpty then s else s.setNib f m { s.nib f m with stroke := n, queue := ks, startAt := s.now + 150 })
  let s := s.setFerDom f d { closed := n + 1, arrived := fd.arrived.filter (fun e => n < e.2.1) }
  forEach ((cellLanes s d).filter (fun l => l / 16 = f)) s (fun s l => cellJudge s l (n - 1))

/-- A stroke that a ferrule out of RUN does not close is skipped by its functions (R237). -/
def closeSkipped (s : State) (f d n : Nat) : State :=
  let fd := s.ferDom f d
  let s := forEach (fnsFor s f d n) s (fun s q => skipRun s (ctxOf s q) n 2)
  s.setFerDom f d { closed := n + 1, arrived := fd.arrived.filter (fun e => n < e.2.1) }

/-- STROKE_CLOSE (R224): the ferrule's next open stroke closes, when everything awaited has arrived or at the deadline, and
not before the runs of the stroke before have ended. -/
def strokeClose (s : State) (f d : Nat) : State :=
  match nextClose s f d with
  | none => s
  | some n =>
    let fd := s.ferDom f d
    let dl := deadlineAt s d n
    let now := s.devTime
    let members := ((fnsFor s f d n).foldl (fun l q => (s.fn q.1).subs.foldl (fun l b => insertNat b l) l) []).filter (subClosure s)
    let times := members.map (fun b => (fd.arrived.find? (fun e => e.1 = b && e.2.1 = n)).map (fun e => e.2.2.2))
    let full := times.all (fun t => t.isSome)
    let inst := max (openAt s d n) (if full then min dl (times.foldl (fun a t => max a (t.getD 0)) 0) else dl)
    if now < inst then s
    else if !ferRun s f then closeSkipped s f d n
    else if runsLeft s f d then s
    else closeNow s f d n (inst = dl)

/-- STROKE_CLOSE. -/
def execStrokeClose (t ferrule dom : Nat) (s : State) : Out := .next (strokeClose (s.tick t) ferrule dom)

end Sys2Proof.Machine
end

