-- ==== Sys2Proof/Machine/Blocks.lean ====
section
/-! DEFINITION. What happens to a block that leaves its running state or returns to it: the reset of a ferrule (R275) and of a
desk (R610), low-power states (R542 to R550), and the domains; and the changes that the power controller has under way.
Decisions: log entries 72 (DEDUCED), 76 (DEDUCED), 85 (DEDUCED). -/

namespace Sys2Proof.Machine
open Sys2Proof

/-! ### Ferrules -/

/-- A segment test of a ferrule is abandoned: its restore is still to run, or there is none (R564). -/
def dropSegTest (s : State) (f : Nat) (restore : Bool) : State :=
  if s.rd F.BST_RKIND = 2 ∧ s.rd F.BST_RFER = f then
    (if restore then { s.wr F.BST_RPH 3 with bst := { s.bst with dropped := true } } else (s.wr F.BST_RKIND 0).wr F.BST_RPH 0)
  else s

/-- The rolling test leaves a ferrule that leaves RUN (R563, R564). -/
def dropTests (s : State) (f : Nat) (restore : Bool) : State :=
  dropNibTest (dropSegTest s f restore) f (s.rd F.BST_RIDX)

/-- The restore of an abandoned segment test has run (R564). -/
def endRestore (s : State) (f : Nat) : State :=
  if s.rd F.BST_RKIND = 2 ∧ s.rd F.BST_RFER = f ∧ s.bst.dropped then (s.wr F.BST_RKIND 0).wr F.BST_RPH 0 else s

/-- The runs of a ferrule stop and are skipped, its pending state is discarded, and halted nibs are released (R275). -/
def stopRuns (s : State) (f : Nat) : State :=
  let s := forEach (List.range 18) s (fun s n =>
    let s := skipNib s f n 2
    let nst := s.rd (F.FER_NST f n)
    let s := if nst = 1 ∨ nst = 2 then s.wr (F.FER_NST f n) 0 else s
    (s.wr (F.FER_CSLOT f n) 0).setNib f n {})
  discardAll s f

/-- The words of a FER page that a reset clears (R240, R275, R276): not the nibs' states, banks and slot assignments. -/
def ferWordsReset (s : State) (f : Nat) : State :=
  let base := ferPage f * 512
  let s := (((s.headerReset (ferPage f)).resetWords (base + 9) 2).resetWords (base + 12) 2).resetWords (base + 144) 54
  let s := forEach (List.range 18) s (fun s n => s.wr (F.FER_MCOR f n) 0)
  forEach (List.range 72) s (fun s k => (s.wr (F.FER_USED f k) 0).wr (F.FER_LFLT f k) 0)

/-- The counters of a ferrule's router are cleared (R330). -/
def routerReset (s : State) (f : Nat) : State :=
  forEach (List.range 5) s (fun s p => (s.wr (F.MSH_RETX (f / 4) (f % 4) p) 0).wr (F.MSH_LOST (f / 4) (f % 4) p) 0)

/-- What a reset of a ferrule clears (R151, R152, R213, R240, R243, R275, R330, R358, R610). -/
def ferClear (s : State) (f : Nat) : State :=
  let fx := s.ferrule f
  let now := s.devTime
  let gap := s.isSet (F.FER_GAPST f)
  let owed := (if gap then fx.gapFirst else now, now, ledgerOcc s f + if gap then fx.gapLost else 0)
  let s := ferWordsReset (stopRuns s f) f
  let s := s.setFerrule f { s.ferrule f with gapFirst := 0, gapLast := 0, gapLost := 0, owed := some owed }
  let s := { s with rul := { s.rul with atPoint := s.rul.atPoint.filter (fun m => m.point ≠ f) } }
  let s := dmaWithdraw (routerReset (biReset (subPageReset (lnkReset s f) f) f) f)
  forEach (List.range 4) s (fun s d => s.setFerDom f d { s.ferDom f d with arrived := [] })

/-- A ferrule enters reset (R275, R341, R345, R589). -/
def ferResetStart (s : State) (f : Nat) : State :=
  let s := if strokeTrace s f ∧ ferRun s f then s.tracePdown (0x40 + f) 4 else s
  let s := (dropTests s f true).wr (F.FER_FSTATE f) 3
  let s := ferClear (signoffFerrule s f) f
  s.setFerrule f { s.ferrule f with inReset := true }

/-- A ferrule returns to RUN from a reset or a low-power state (R152, R221, R275, R358, R550). -/
def ferUp (s : State) (f : Nat) : State :=
  let s := (endRestore s f).wr (F.FER_FSTATE f) 2
  let s := s.setFerrule f { s.ferrule f with inReset := false }
  let s := subsWake s ((liveSubs s).filter (fun i => i / 64 = f && decide (subSrc s i < 0x40)))
  refreshFer (biResetEnd (lnkResetEnd s f) f) f

/-- The reset of a ferrule ends, unless BRESET or a scan holds it (R275, R570, R612). -/
def ferResetEnd (s : State) (f : Nat) : State :=
  if (s.ferrule f).inReset ∧ ¬ s.pwr.held.contains f then ferUp s f else s

/-- A ferrule enters PARK (1) or OFF (0), as FSTATE shows it (R542, R543, R550, R589): PARK keeps its registers and its
inkwell, OFF loses both. -/
def ferDown (s : State) (f v : Nat) : State :=
  let s := if strokeTrace s f ∧ ferRun s f then s.tracePdown (0x40 + f) (if v = 1 then 5 else 3) else s
  let s := (endRestore (dropTests s f (decide (v = 1))) f).wr (F.FER_FSTATE f) v
  let s := signoffFerrule s f
  if v = 1 then forEach (List.range 8) s (fun s j => { s with pairs := tset s.pairs (8 * f + j) {} })
  else
    let s := ferClear s f
    { s with inkwell := s.inkwell.filter (fun e => e.1 / 2 ^ 18 ≠ f)
             ferrules := tmod s.ferrules f (fun x => { x with smap := [], owed := none, inReset := false })
             pwr := { s.pwr with held := s.pwr.held.filter (fun b => b ≠ f) } }

/-- The conditions under which a ferrule grants PARK or OFF (R547). -/
def ferGrants (s : State) (f : Nat) : Bool :=
  let staging := match s.rul.cmd with
    | some c => (decide (c.opc = 1) || decide (c.opc = 3)) && decide (getField c.arg 0 6 = f)
    | none => false
  decide (s.rd (F.FER_NFUNC f) = 0) && (heldOn s f).isEmpty && !staging &&
    (List.range 64).all (fun j => decide (s.rd (F.SUB_SSTATE_48 f j) ≠ 2)) &&
    (List.range 32).all (fun j => decide (s.rd (F.PUB_PSTATE_48 f j) ≠ 2)) &&
    (List.range 18).all (fun n => decide (s.rd (F.FER_NST f n) ≠ 5))

/-! ### Desks -/

/-- The scribes of a desk. -/
def deskScribes (d : Nat) : List Nat := (List.range 8).map (fun i => 8 * d + i)

/-- The lines of a desk that hold data newer than memory. -/
def dirtyLines (s : State) (d : Nat) : List L2Line :=
  ((s.desk d).ways.map (fun e => e.2)).filter (fun x => decide (x.st = 3) || decide (x.st = 4))

/-- A desk writes back its M and O lines (R547, R612): first its store buffers are emptied; the answer says whether every line
could be written, its channel being ACTIVE. -/
def deskWriteBack (s : State) (d : Nat) : Bool × State :=
  let r := (deskScribes d).foldl (fun (x : Bool × State) n =>
    let y := drainAll x.2 n
    (x.1 && y.1, y.2)) (true, s)
  let s := r.2
  let lines := dirtyLines s d
  let go' := lines.filter (fun x => s.rd (F.DMC_STATE (lineChannel s x.line).1) = 2)
  let s := go'.foldl (fun s x =>
    let st := if x.st = 4 then 2 else 1
    ((s.memWrite x.line x.words x.poison).setL2 d x.line { x with st := st }).setPres d x.line st) s
  (r.1 && decide (go'.length = lines.length), s)

/-- A desk loses the contents of its L2, its L1s and predictors (R610); its scribes hold nothing but their registers. -/
def deskDrop (s : State) (d : Nat) : State :=
  let s := s.setDesk d {}
  (deskScribes d).foldl (fun s n => s.modScribe n (fun c =>
    { c with l1d := [], tlb := [], wcache := [], itab := [], hist := [], rstack := [], resv := none, sb := [], walk := none })) s

/-- The scribes of a desk are in their reset state (R398, R399). -/
def deskScribesReset (s : State) (d : Nat) : State :=
  (deskScribes d).foldl (fun s n =>
    showLock (((s.setScribe n (default : Scribe)).wr (F.DSK_SST n) 0).wr (F.DSK_LVL n) 0) n) s

/-- A desk is reset (R397, R610): its scribes with RUN 0, its caches, and the words of its pages but word 9. -/
def deskReset (s : State) (d : Nat) : State :=
  let s := (deskScribes d).foldl (fun s n => if s.rd (F.DSK_SST n) ≠ 0 ∧ bitOf (s.rd F.BLT_SCRB) n then s.tracePdown n 4 else s) s
  let s := deskDrop s d
  let s := (deskScribes d).foldl (fun s n =>
    let p := 0x200 + n
    ((s.headerReset p).resetWords (p * 512 + 8) 1).resetWords (p * 512 + 10) 26) s
  (deskScribesReset s d).wr (F.DSK_PL d) (s.rd (F.PWR_PL d))

/-- The released scribes of a desk that is up start (R398, R549). -/
def deskStart (s : State) (d : Nat) : State := (deskScribes d).foldl scribeStart s

/-- A desk takes a power state, as DST codes it (R547, R549, R589). -/
def deskEnter (s : State) (d v : Nat) : State :=
  let old := s.rd (F.PWR_DST d)
  let s := s.wr (F.PWR_DST d) v
  let s := if v = 2 ∨ v = 3 then
      (deskScribes d).foldl (fun s n => if bitOf (s.rd F.BLT_SCRB) n then s.tracePdown n v else s) s else s
  if v = 3 then deskScribesReset (deskDrop s d) d
  else if v = 0 ∧ old = 3 then deskStart (s.wr (F.DSK_PL d) (s.rd (F.PWR_PL d))) d
  else s

/-- The conditions under which a desk grants NAP, DOZE or OFF (R547). -/
def deskGrants (s : State) (d v : Nat) : Bool :=
  (deskScribes d).all (fun n =>
    let t := s.rd (F.DSK_SST n)
    decide (t = 0) || decide (t = 4) || (decide (t = 2) && decide (v ≠ 3)))

/-! ### Domains -/

/-- The DMA engine is reset: every channel is freed, with generation 1 (R71, R506, R610). -/
def dmaReset (s : State) : State :=
  let s := ((s.headerReset 0x270).resetWords (0x270 * 512 + 10) 14).resetWords (0x271 * 512 + 8) 160
  let s := (s.headerReset 0x271)
  let s := (List.range 32).foldl (fun s n => s.resetWords ((F.DMA_VCFG n).addr) 5) s
  { s with dma := [], gens := s.gens.filter (fun e => e.1 / 2 ^ 20 ≠ 5), mem := { s.mem with posted := s.mem.posted.filter (fun p => p.src ≠ 0x22) } }

/-- The DRAM controllers and PHYs are reset (R488, R610, R613); what the home agents held is gone. -/
def dramReset (s : State) : State :=
  let s := (List.range 4).foldl (fun s c =>
    let s := (((s.headerReset (0x260 + c)).resetWords ((0x260 + c) * 512 + 10) 502).headerReset (0x264 + c)).resetWords
      ((0x264 + c) * 512 + 8) 504
    s.resetWords ((0x4400 + 160 * c) * 512) (160 * 512)) s
  { s with mem := { s.mem with wbs := [], txs := [], posted := [], pres := [], reclaims := [], dmcs := [] } }

/-- The DRAM domain loses its supply; DRAM itself keeps its contents in self-refresh (R542, R547). -/
def dramDown (s : State) : State := dmaReset (dramReset s)

/-- A port of the uplink pages is reset (R156). -/
def uplinkPortReset (s : State) (p : Nat) : State :=
  let pg := portPage p
  let s := if p < 1032 ∧ portLst s p = 4 then timUplinkDown s (p - 1024) else s
  ((s.headerReset pg).resetWords (pg * 512 + 8) 16).setPort p { ({} : Port) with sig := (s.port p).sig }

/-- The gateways and ports of the uplinks lose their supply (R156, R213, R634). -/
def uplinksDown (s : State) : State :=
  let s := (List.range 8).foldl (fun s k => uplinkPortReset s (1024 + k)) s
  let s := uplinkPortReset (uplinkPortReset s 1032) 1033
  let s := (List.range 4).foldl (fun s j => (s.headerReset (0x288 + j)).resetWords ((0x288 + j) * 512 + 8) 2) s
  let s := [0x28E, 0x28F].foldl (fun s p => (s.headerReset p).resetWords (p * 512 + 8) 504) s
  let s := { s with pairs := s.pairs.filter (fun e => decide (e.1 < 512)) }
  forEach ((liveSubs s).filter (fun i => decide (0x40 ≤ subSrc s i))) s subReset

/-- The PCIe controller loses its supply or is reset (R542, R617). -/
def pcieDown (s : State) : State :=
  let ep := s.rd F.PCI_EP
  ((s.headerReset 0x290).resetWords (0x290 * 512 + 8) 24).wr F.PCI_EP ep

/-- A domain is switched off or on, as DOM codes it. -/
def domEnter (s : State) (k v : Nat) : State :=
  let s := if v = 0 then (if k = 0 then dramDown s else if k = 1 then uplinksDown s else pcieDown s) else s
  let s := setDomPower s k v
  if v = 1 ∧ k = 1 then subsWake s ((liveSubs s).filter (fun i => decide (0x40 ≤ subSrc s i))) else s

/-! ### Changes under way -/

/-- A block takes the state that it granted: ferrules, desks as 64 + d, domains as 128 + k (R548); emulated while a debugger is
attached (R584). -/
def blockEnter (s : State) (b v : Nat) : State :=
  let low := if 128 ≤ b then decide (v = 0) else decide (v ≠ 0)
  let was := emulated s b
  let em := low && s.isSet F.BLT_ATTACH
  let list := (s.pwr.emul.filter (fun e => e.1 ≠ b)) ++ if em then [(b, v)] else []
  let s := { s with pwr := { s.pwr with emul := list } }.wrb F.PWR_EMUL (!list.isEmpty)
  let s := tracePstate s b v em
  if em ∨ (was ∧ ¬ low) then
    (if b < 64 then setFerPower s b v
     else if b < 128 then s.wr (F.PWR_DST (b - 64)) v else setDomPower s (b - 128) v)
  else if b < 64 then
    (let s := setFerPower s b v
     if v = 0 then ferUp s b else ferDown s b (if v = 1 then 1 else 0))
  else if b < 128 then deskEnter s (b - 64) v
  else domEnter s (b - 128) v

/-- The changes of some blocks end (R551): domains and desks in the order in which power goes down or comes up, as listed. -/
def endChanges (s : State) (p : Nat → Bool) : State :=
  let l := s.pwr.change.filter (fun c => p c.1)
  let s := { s with pwr := { s.pwr with change := s.pwr.change.filter (fun c => !(p c.1)) } }
  l.foldl (fun s c => blockEnter s c.1 c.2) s

/-- A PWR command in progress is abandoned with STATUS 03h (R539): a request that blocks have not all granted is released, and a
change that has begun ends in the states granted. -/
def pwrAbandon (s : State) : State :=
  let s := { s with pwr := { s.pwr with level := none, wback := none } }
  let s := match s.pwr.req with
    | some r => if r.asked.isEmpty then endChanges s (fun b => r.granted.contains b) else s
    | none => s
  if s.rd (F.DBL_STATE 0x2A0) = 1 then pwrEnd s 3 0 else s

end Sys2Proof.Machine
end

