-- ==== Sys2Proof/Machine/Mcu.lean ====
section
/-! DEFINITION. The management controller beside its instructions (R530 to R541): image verification (R93, R94), watchdogs,
restart, health, mailbox and the flash fetch unit.
Decisions: log entries 70 (DEDUCED), 71 (DEDUCED). -/

namespace Sys2Proof.Machine
open Sys2Proof

/-! ### Images (R93, R94) -/

/-- Octets of the flash, and a big-endian number in them. -/
def State.flashOctets (s : State) (off n : Nat) : List Nat := (List.range n).map (fun i => tget s.mcu.flash (off + i) % 256)
def State.flashNum (s : State) (off n : Nat) : Nat := ofOctets (s.flashOctets off n)

/-- Whether the image at a flash offset is accepted as an image of a kind (R94). -/
def imageOk (s : State) (off kind : Nat) : Bool :=
  let root := s.flashNum (off + 7) 1
  if s.flashNum off 4 ≠ 0x4546414C ∨ s.flashNum (off + 6) 1 ≠ kind ∨ 1 < root then false
  else if s.otp.revoke.testBit root then false
  else
    let keyOct := s.flashOctets (off + 28) 96
    decide (Config.sha384 keyOct = if root = 0 then s.otp.rooth0 else s.otp.rooth1) &&
    decide (popcount s.otp.svn 64 ≤ s.flashNum (off + 8) 4) &&
    decide (Config.sha384 (s.flashOctets (off + 512) (s.flashNum (off + 12) 8)) = s.flashNum (off + 124) 48) &&
    Config.ecdsaVerify (ofOctets keyOct) (Config.sha384 (s.flashOctets off 172)) (s.flashNum (off + 172) 48) (s.flashNum (off + 220) 48)

/-- The boot ROM verifies the management images and starts the accepted one in place, or stops in boot failure (R94, R532). The
answer says whether one was accepted. -/
def bootVerify (s : State) : Bool × State :=
  let start (s : State) (img off : Nat) : State :=
    let s := (s.wr F.MCB_BIMG img).wr F.MCB_BSVN (s.flashNum (off + 8) 4)
    ({ s with mcu := { s.mcu with xbase := off + 512, wp := true } }).setScribe 32 { (default : Scribe) with pc := 0xFF400000000 }
  if imageOk s 0 1 then (true, start s 0 0)
  else if imageOk s 0x1000000 1 then (true, start s 1 0x1000000)
  else (false, (s.wr F.MCB_BIMG 3).setScribe 32 (default : Scribe))

/-- Whether the management controller executes: it was started, and no debugger halts it. -/
def mcRuns (s : State) : Bool := decide (s.phase = 0) && decide (s.rd F.MCB_BIMG ≠ 3) && !s.isSet F.BLT_MCH

/-- A restart of the management controller (R539): the core, its SRAM and MIE1 are reset, a PWR command in progress completes with
STATUS 03h, and the boot ROM verifies the image again. -/
def mcRestart (s : State) (cause : Nat) : State :=
  let s := (s.bump F.MCB_MRSTC).wr F.MCB_MCAUSE cause
  let s := s.wr F.MCB_MREM (s.rd F.MCB_MPER)
  let s := { s with mcu := { s.mcu with sram := [], btb := [], bufs := [], req := none, next := none, cur := 0 } }
  let s := (pwrAbandon s).wr F.BLT_MCH 0
  (bootVerify s).2

/-! ### Watchdogs (R537 to R539) -/

/-- Whether a scribe's watchdog counts (R537, R538). -/
def wdgCounts (s : State) (n : Nat) : Bool :=
  decide (s.rd (F.MCB_PER n) ≠ 0) && scribeUp s n && decide (s.rd (F.PWR_DST (n / 8)) < 2)

/-- The watchdogs counted up to the present device time. A count that has come to 0 is taken to 0 for the watchdog whose expiry
is this command's (32 is the controller's), and waits at 1 for any other. -/
def wdgCount (s : State) (due : Option Nat) : State :=
  let ms := s.devTime / 1000000
  let e := ms - s.mcu.ms
  let left (i r : Nat) : Nat := if e < r then r - e else if due = some i then 0 else min r 1
  let s := { s with mcu := { s.mcu with ms := ms } }
  let s := forEach (List.range 32) s (fun s n =>
    if wdgCounts s n then s.wr (F.MCB_REM n) (left n (s.rd (F.MCB_REM n))) else s)
  if mcRuns s then s.wr F.MCB_MREM (left 32 (s.rd F.MCB_MREM)) else s

/-- A KICK (R537). -/
def wdgKick (s : State) (init n : Nat) : State :=
  if init = 0x20 ∨ init = n then let s := wdgCount s none
    s.wr (F.MCB_REM n) (s.rd (F.MCB_PER n))
  else s.ignored 0x2F0 (48 + n) 7

/-- A write of PER and RST (R537). -/
def wdgConfig (s : State) (init n : Nat) (value : Word) : State :=
  if init = 0x20 then
    let s := wdgCount s none
    ((s.wr (F.MCB_PER n) (getField value 0 16)).wr (F.MCB_RST n) (getField value 33 1)).wr (F.MCB_REM n) (getField value 0 16)
  else s.ignored 0x2F0 (48 + n) 7

/-- WDG_KICK (R537). -/
def execWdgKick (t init scribe : Nat) (s : State) : Out :=
  .next ((s.tick t).gated init 0x2F0 (48 + scribe) (1#72 <<< 32) (fun s => wdgKick s init scribe))

/-- WDG_PER_WRITE (R537). -/
def execWdgPerWrite (t init scribe : Nat) (value : Word) (s : State) : Out :=
  .next ((s.tick t).gated init 0x2F0 (48 + scribe) value (fun s => wdgConfig s init scribe value))

/-- SCRIBE_WATCHDOG_EXPIRE (R537). -/
def execScribeWatchdogExpire (t scribe : Nat) (s : State) : Out :=
  .next (let s := s.tick t
    let was := s.rd (F.MCB_REM scribe)
    let s := wdgCount s (some scribe)
    if scribe < 32 ∧ wdgCounts s scribe ∧ was ≠ 0 ∧ s.rd (F.MCB_REM scribe) = 0 then
      let s := (s.wr (F.MCB_EXP scribe) 1).bump (F.MCB_NEXP scribe)
      if s.isSet (F.MCB_RST scribe) then runWrite s scribe false else s
    else s)

/-- MC_MKICK (R539, R554). -/
def mcKick (s : State) (init : Nat) : State :=
  if init = 0x20 then let s := wdgCount s none
    s.wr F.MCB_MREM (s.rd F.MCB_MPER)
  else s.ignored 0x2F0 81 7
def execMcMkick (t init : Nat) (s : State) : Out :=
  .next ((s.tick t).gated init 0x2F0 81 (1#72 <<< 32) (fun s => mcKick s init))

/-- A write of MPER (R539, R554). -/
def mcPeriod (s : State) (init v : Nat) : State :=
  if init = 0x20 ∧ v ≠ 0 then s.wr F.MCB_MPER v else s.ignored 0x2F0 81 7

/-- MC_MPER_WRITE (R539). -/
def execMcMperWrite (t init value : Nat) (s : State) : Out :=
  .next ((s.tick t).gated init 0x2F0 81 (BitVec.ofNat 72 value) (fun s => mcPeriod s init (value % 65536)))

/-- A write of MRST (R539, R554). -/
def mcReset (s : State) (init : Nat) : State := if init = 0x21 then mcRestart s 3 else s.ignored 0x2F0 81 7

/-- MC_MRST (R539). -/
def execMcMrst (t init : Nat) (fails : List TestElement) (s : State) : Out := let _ := fails
  .next ((s.tick t).gated init 0x2F0 81 (1#72 <<< 33) (fun s => mcReset s init))

/-- MC_WATCHDOG_EXPIRE (R539). -/
def execMcWatchdogExpire (t : Nat) (fails : List TestElement) (s : State) : Out := let _ := fails
  .next (let s := s.tick t
    let was := s.rd F.MCB_MREM
    let s := wdgCount s (some 32)
    if mcRuns s ∧ was ≠ 0 ∧ s.rd F.MCB_MREM = 0 then mcRestart s 1 else s)

/-! ### Mailbox (R541) -/

/-- A scribe at H with tenant ID 0. -/
def hostScribe (s : State) (init : Nat) : Bool := decide (init < 0x20) && hostInit s init

/-- A posting bit of MB_CTL: 0 IPOST, 2 IDONE, 3 OPOST, 5 ODONE (R541). -/
def mbPost (s : State) (init bit : Nat) : State :=
  let no := s.ignored 0x2F0 40 7
  if bit = 0 then (if hostScribe s init ∧ s.rd F.MCB_IFULL = 0 then s.wr F.MCB_IFULL 1 else no)
  else if bit = 2 then (if init = 0x20 ∧ s.rd F.MCB_IFULL = 1 then s.wr F.MCB_IFULL 0 else no)
  else if bit = 3 then (if init = 0x20 ∧ s.rd F.MCB_OFULL = 0 then s.wr F.MCB_OFULL 1 else no)
  else (if hostScribe s init ∧ s.rd F.MCB_OFULL = 1 then s.wr F.MCB_OFULL 0 else no)

/-- MB_IPOST (R541). -/
def execMbIpost (t init : Nat) (s : State) : Out := .next ((s.tick t).gated init 0x2F0 40 1 (fun s => mbPost s init 0))

/-- MB_IDONE (R541). -/
def execMbIdone (t init : Nat) (s : State) : Out := .next ((s.tick t).gated init 0x2F0 40 4 (fun s => mbPost s init 2))

/-- MB_OPOST (R541). -/
def execMbOpost (t init : Nat) (s : State) : Out := .next ((s.tick t).gated init 0x2F0 40 8 (fun s => mbPost s init 3))

/-- MB_ODONE (R541). -/
def execMbOdone (t init : Nat) (s : State) : Out := .next ((s.tick t).gated init 0x2F0 40 32 (fun s => mbPost s init 5))

/-! ### The flash fetch unit (R533) -/

/-- The window line of an address in the flash window. -/
def flashLine (pc : Nat) : Option Nat :=
  if 0xFF400000000 ≤ pc ∧ pc ≤ 0xFF7FFFFFFFF then some ((pc - 0xFF400000000) / 32) else none

/-- A line asked for: the request under way is never abandoned, a later one waits; a sequential prefetch that a taken transfer
passes by is discarded when it completes (second component 1). -/
def flashAsk (m : Mcu) (line : Nat) : Mcu :=
  match m.req with
  | none => { m with req := some (line, 0) }
  | some (l, _) => if l = line then { m with req := some (l, 0) } else { m with req := some (l, 1), next := some line }

/-- The controller's fetch at a PC: whether the instruction's word is there, and the fetch unit after it. `taken` says that the PC is
the target of the last taken transfer. -/
def mcFetch (s : State) (pc : Nat) (taken : Bool) : Bool × State :=
  match flashLine pc with
  | none => (true, s)
  | some line =>
    let m := s.mcu
    let idx := pc / 8 % 64
    let buffered := m.bufs.contains line
    let hit := decide (tget m.btb idx ≠ 0) && decide ((tget m.btb idx - 1) / 8 = pc / 8) && decide (tget m.btb idx - 1 ≤ pc)
    let m := if buffered ∧ taken then { m with btb := tset m.btb idx (pc + 1) } else m
    let m := if ¬ buffered then flashAsk m line
      else if m.cur ≠ line + 1 ∧ ¬ m.bufs.contains (line + 1) then
        (match m.req with | none => { m with req := some (line + 1, 0) } | some _ => m) else m
    (buffered || hit, { s with mcu := { m with cur := if buffered then line + 1 else m.cur } })

/-- FLASH_LINE_FILL (R533). -/
def execFlashLineFill (t : Nat) (s : State) : Out :=
  .next (let s := s.tick t
    let m := s.mcu
    match m.req with
    | none => s
    | some (line, drop) =>
      let bufs := if drop = 1 then m.bufs else (line :: m.bufs.filter (· ≠ line)).take 2
      { s with mcu := { m with bufs := bufs, req := m.next.map (fun l => (l, 0)), next := none } })

end Sys2Proof.Machine
end

