-- ==== Sys2Proof/Machine/Pwr.lean ====
section
/-! DEFINITION. The power controller's commands and events (R542 to R553, R612): levels, requests and their answers, changes of
state, dead desks, block resets, and the monitors.
Decisions: log entry 72 (DEDUCED). -/

namespace Sys2Proof.Machine
open Sys2Proof

/-- ARG0 of the PWR page. -/
def pwrArg (s : State) : Nat := (s.word (0x2A0 * 512 + 10)).toNat

/-- A refusal of a PWR command (R553). -/
def pwrRefuse (s : State) (reason : Nat) : State := s.refuse 0x2A0 1 reason

/-! ### Levels (R545, R546) -/

/-- DESKPL: the rail and the PLL start to change (R545); in DOZE and OFF a desk runs at no level. -/
def deskLevel (s : State) : State :=
  let arg := pwrArg s
  let d := bitsOf arg 0 2
  let pl := bitsOf arg 2 3
  if 5 < pl then pwrRefuse s 2
  else if s.rd F.PWR_DEVST ≠ 0 ∨ 2 ≤ s.rd (F.PWR_DST d) ∨ (s.pwr.hwtrip ∧ 0 < pl) then pwrRefuse s (if deskDead s d then 4 else 3)
  else if deskDead s d then pwrRefuse s 4
  else { s with pwr := { s.pwr with level := some (d, pl) } }

/-- The end of a change of level (R545): it is reached, or the rail failed three attempts or reported a fault. -/
def levelEnd (s : State) (ok : Bool) (rail : Nat) : State :=
  match s.pwr.level with
  | none => s
  | some (d, pl) =>
    let s := { s with pwr := { s.pwr with level := none } }
    if ok then pwrEnd ((s.wr (F.PWR_PL d) pl).wr (F.DSK_PL d) pl) 0 0
    else pwrEnd ((s.setBit F.PWR_EVT 6).pageErr 0x2A0 0x10 27 rail) 4 rail

/-! ### Requests (R547 to R552) -/

/-- The DRAM domain's condition for OFF (R547); `off` are the desks that the same request turns off. -/
def dramGrants (s : State) (off : List Nat) : Bool :=
  (List.range 4).all (fun d => decide (s.rd (F.PWR_DST d) = 3) || off.contains d) &&
    (List.range 32).all (fun n => decide (s.rd (F.DMB_CST n) ≠ 2) && decide (s.rd (F.DMB_CST n) ≠ 3))

/-- The uplinks' condition for OFF (R547). -/
def uplinksGrant (s : State) : Bool :=
  !((livePubs s).any (fun p => decide (s.rd (F.PUB_PSTATE_18 p) = 2) && decide (0x40 ≤ pubDest s p))) &&
    decide (s.rd F.TIM_SRC ≠ 1) && decide (s.rd F.TIM_SRC ≠ 2) && (List.range 64).all (fun q => decide (s.rd (F.TEN_QSTATE q) ≠ 1))

/-- Whether a block meets the condition of its entry to a state (R547). -/
def blockGrants (s : State) (off : List Nat) (b v : Nat) : Bool :=
  if b < 64 then ferGrants s b
  else if b < 128 then deskGrants s (b - 64) v
  else if b = 128 then dramGrants s off
  else if b = 129 then uplinksGrant s
  else decide (s.rd F.TEN_VFEN = 0)

/-- Whether a block that meets its condition has something to finish before it grants (R547). -/
def blockDelays (s : State) (b v : Nat) : Bool :=
  if b < 64 then false
  else if b < 128 then decide (2 ≤ v) && (!(dirtyLines s (b - 64)).isEmpty || (deskScribes (b - 64)).any (fun n => !(s.scribe n).sb.isEmpty))
  else if b = 128 then !s.mem.txs.isEmpty || !s.mem.wbs.isEmpty || !s.mem.posted.isEmpty || (List.range 4).any (fun c => decide (2 ≤ s.rd (F.DMC_STATE c)))
  else if b = 129 then false
  else s.isSet F.PCI_DLUP

/-- What a delaying block finishes (R547); the answer says whether it could. -/
def blockFinish (s : State) (b v : Nat) : Bool × State :=
  if 64 ≤ b ∧ b < 128 then (if 2 ≤ v then deskWriteBack s (b - 64) else (true, s))
  else if b = 128 then (s.mem.txs.isEmpty && s.mem.wbs.isEmpty && s.mem.posted.isEmpty, s)
  else if b = 130 then (true, s.wr F.PCI_DLUP 0)
  else (true, s)

/-- The state that a request asks of a block. -/
def wanted (r : PwrReq) (b : Nat) : Nat :=
  if r.opc = 2 then bitsOf r.arg 4 2
  else if r.opc = 3 then bitsOf r.arg 6 2
  else if r.opc = 4 then 0
  else if b < 64 then bitsOf r.arg 0 2 else if b < 128 then 3 else 0

/-- The order in which power goes down (R551): PCIe, uplinks, desks, DRAM, ferrules. -/
def downKey (b : Nat) : Nat := if b = 130 then 0 else if b = 129 then 1 else if b = 128 then 100 else if 64 ≤ b then b - 60 else 200 + b

/-- Every block asked has granted (R547): the changes begin, and ferrules and domains show it. -/
def requestGranted (s : State) (r : PwrReq) : State :=
  let l := sortBy downKey r.granted
  let s := l.foldl (fun s b => if b < 64 then setFerPower s b 3 else if 128 ≤ b then setDomPower s (b - 128) 2 else s) s
  { s with pwr := { s.pwr with change := s.pwr.change ++ l.map (fun b => (b, wanted r b)) } }

/-- The blocks still asked answer as far as they can at once (R547, R551): the first refusal ends the request; a block that has
something to finish delays; the DRAM domain answers after every desk. -/
def answerRequest (s : State) : State :=
  match s.pwr.req with
  | none => s
  | some r =>
    let off := (r.asked ++ r.granted).filter (fun b => decide (64 ≤ b) && decide (b < 128) && decide (wanted r b = 3)) |>.map (· - 64)
    let desks := r.asked.any (fun b => decide (64 ≤ b) && decide (b < 128) && blockDelays s b (wanted r b))
    let ready := r.asked.filter (fun b => !(decide (b = 128) && desks))
    match ready.find? (fun b => !(blockGrants s off b (wanted r b))) with
    | some b => pwrFail s b false
    | none =>
      let now := ready.filter (fun b => !(blockDelays s b (wanted r b)))
      let r' : PwrReq := { r with asked := r.asked.filter (fun b => !(now.contains b)), granted := r.granted ++ now }
      let s := { s with pwr := { s.pwr with req := some r' } }
      if r'.asked.isEmpty then requestGranted s r' else s

/-- A request for lower states opens (R547). -/
def openRequest (s : State) (opc : Nat) (blocks : List Nat) : State :=
  let r : PwrReq := { opc := opc, arg := pwrArg s, asked := blocks, granted := [], since := s.devTime }
  answerRequest ({ s with pwr := { s.pwr with req := some r } }.wr F.PWR_HSB 1)

/-- A command that brings blocks back (R549, R550, R551): their changes begin without a handshake. -/
def openReturn (s : State) (opc : Nat) (l : List (Nat × Nat)) : State :=
  let r : PwrReq := { opc := opc, arg := pwrArg s, asked := [], granted := l.map (·.1), since := s.devTime }
  let s := l.foldl (fun s (c : Nat × Nat) =>
    if c.1 < 64 then setFerPower s c.1 3 else if 128 ≤ c.1 then setDomPower s (c.1 - 128) 2 else s) s
  { s with pwr := { s.pwr with req := some r, change := s.pwr.change ++ l } }.wr F.PWR_HSB 1

/-- The state last commanded of a block, plus 1 (R551). -/
def commanded (s : State) (b v : Nat) : State := { s with pwr := { s.pwr with cmd := tset s.pwr.cmd b (v + 1) } }

/-- Some channel of DRAM is ACTIVE in a domain that is ON: what R605 asks for before a desk is brought up. -/
def dramReady (s : State) : Bool :=
  decide (domPower s 0 = 1) && (List.range 4).any (fun c => decide (s.rd (F.DMC_STATE c) = 2))

/-- DESKST (R547, R549, R552, R605). -/
def deskState (s : State) : State :=
  let arg := pwrArg s
  let d := bitsOf arg 0 2
  let v := bitsOf arg 4 2
  let cur := s.rd (F.PWR_DST d)
  if (bitsOf arg 2 2 ≠ 0) ∨ arg ≥ 64 then pwrRefuse s 2
  else if s.rd F.PWR_DEVST ≠ 0 ∨ s.isSet (F.PWR_RECL d) then pwrRefuse s 3
  else if s.isSet (F.PWR_DEAD d) ∧ v ≠ 0 then pwrRefuse s 4
  else if v = cur then pwrEnd (commanded s (64 + d) v) 0 0
  else if v = 0 then
    (if cur = 3 ∧ ¬ dramReady s ∧ ¬ emulated s (64 + d) then pwrRefuse s 3
     else openReturn (commanded (s.wr (F.PWR_DEAD d) 0) (64 + d) 0) 2 [(64 + d, 0)])
  else if v < cur then pwrRefuse s 3
  else openRequest (commanded s (64 + d) v) 2 [64 + d]

/-- FERST (R547, R550, R551, R607): RUN completes as soon as the power-up has begun, so that ferrules come up in parallel. -/
def ferruleState (s : State) : State :=
  let arg := pwrArg s
  let f := bitsOf arg 0 6
  let v := bitsOf arg 6 2
  let cur := ferPower s f
  if v = 3 ∨ arg ≥ 256 then pwrRefuse s 2
  else if s.rd F.PWR_DEVST = 2 ∨ cur = 3 ∨ (s.pwr.held.contains f ∧ v ≠ 0) then pwrRefuse s 3
  else if v = cur then pwrEnd (commanded s f v) 0 0
  else if v = 0 then
    let s := setFerPower (commanded s f 0) f 3
    pwrEnd { s with pwr := { s.pwr with change := s.pwr.change ++ [(f, 0)] } } 0 0
  else if v < cur then pwrRefuse s 3
  else openRequest (commanded s f v) 3 [f]

/-- DOMST (R547, R605): the DRAM domain comes after the ferrules. -/
def domainState (s : State) : State :=
  let arg := pwrArg s
  let k := bitsOf arg 0 2
  let on := bitOf arg 2
  let cur := domPower s k
  if k = 3 ∨ arg ≥ 8 then pwrRefuse s 2
  else if s.rd F.PWR_DEVST ≠ 0 ∨ cur = 2 then pwrRefuse s 3
  else if cur = b2n on then pwrEnd (commanded s (128 + k) (b2n on)) 0 0
  else if on then
    (if k = 0 ∧ (List.range 64).all (fun f => decide (ferPower s f = 2)) then pwrRefuse s 3
     else openReturn (commanded s (128 + k) 1) 4 [(128 + k, 1)])
  else openRequest (commanded s (128 + k) 0) 4 [128 + k]

/-- DEVST (R551, R584). -/
def deviceState (s : State) : State :=
  let arg := pwrArg s
  let v := bitsOf arg 0 2
  let cur := s.rd F.PWR_DEVST
  let domsOn := [130, 129].filter (fun b => domPower s (b - 128) ≠ 0)
  let desksUp := ((List.range 4).filter (fun d => decide (s.rd (F.PWR_DST d) ≠ 3))).map (64 + ·)
  let dram := if domPower s 0 ≠ 0 then [128] else []
  let last (b off : Nat) : Nat := if tget s.pwr.cmd b = 0 then off else tget s.pwr.cmd b - 1
  if v = 3 ∨ arg ≥ 4 then pwrRefuse s 2
  else if cur = 2 ∨ (v = 2 ∧ s.isSet F.BLT_ATTACH) ∨ s.pwr.change ≠ [] then pwrRefuse s 3
  else if v = cur then pwrEnd s 0 0
  else if v = 0 then
    let fers := ((List.range 64).filter (fun f => decide (ferPower s f ≠ last f 2))).map (fun f => (f, last f 2))
    let doms (b : Nat) : List (Nat × Nat) := if last b 0 = 1 then [(b, 1)] else []
    let desks := ((List.range 4).filter (fun d => decide (last (64 + d) 3 ≠ 3) && !deskDead s d)).map (fun d => (64 + d, last (64 + d) 3))
    openReturn s 5 (fers ++ doms 128 ++ desks ++ doms 129 ++ doms 130)
  else if v = 1 then
    let fers := (List.range 64).filter (fun f => decide (ferPower s f = 0) && ferGrants s f)
    openRequest s 5 (domsOn ++ desksUp ++ dram ++ fers)
  else openRequest s 5 (domsOn ++ desksUp ++ dram ++ (List.range 64).filter (fun f => decide (ferPower s f ≠ 2)))

/-- The walk of a dead desk's presence table sends a reclaim message for each M or O entry and removes the others (R469). -/
def walkTable (s : State) (d : Nat) : State :=
  let mine := s.mem.pres.filter (fun e => e.1 / 2 ^ 40 = d)
  let dirty := mine.filter (fun e => decide (e.2 = 3) || decide (e.2 = 4))
  { s with mem := { s.mem with pres := s.mem.pres.filter (fun e => e.1 / 2 ^ 40 ≠ d)
                               reclaims := s.mem.reclaims ++ dirty.map (fun e => (d, e.1 % 2 ^ 40)) } }

/-- DEAD (R468, R552): the desk's stop drops what it injects from now on; the reclaim starts. -/
def deskDie (s : State) : State :=
  let arg := pwrArg s
  let d := bitsOf arg 0 2
  if arg ≥ 4 then pwrRefuse s 2
  else if deskDead s d then pwrRefuse s 4
  else
    let s := (deskScribes d).foldl (fun s n => s.modScribe n (fun c => { c with sb := [] })) s
    walkTable (s.wr (F.PWR_RECL d) 1) d

/-- A desk that is being reclaimed. -/
def reclaimDesk (s : State) : Option Nat := (List.range 4).find? (fun d => s.isSet (F.PWR_RECL d))

/-- The reclaim is complete when every reclaim message has been performed (R552): the desk is dead and held OFF. -/
def reclaimEnd (s : State) : State :=
  match reclaimDesk s with
  | none => s
  | some d =>
    let left := s.mem.reclaims.any (fun r => r.1 == d) || s.mem.txs.any (fun t => t.kind == 6 && t.src == 8 * d) ||
      (List.range 4).any (fun c => (s.dmc c).held.any (fun w => w.2.2))
    if left then s
    else
      let s := (s.wr (F.PWR_RECL d) 0).wr (F.PWR_DEAD d) 1
      let s := { s with pwr := { s.pwr with held := s.pwr.held.filter (fun b => b ≠ 64 + d && b ≠ 192 + d) } }
      let s := deskReset (s.wr (F.PWR_DST d) 3) d
      pwrEnd (commanded s (64 + d) 3) 0 0

/-! ### Block resets (R612) -/

/-- A desk in a block reset has written its lines back and is reset (R612). -/
def deskHold (s : State) (d : Nat) : State :=
  let s := { s with pwr := { s.pwr with wback := none, held := s.pwr.held ++ [64 + d] } }
  pwrEnd (deskReset s d) 0 0

/-- BRESET (R612). -/
def blockReset (s : State) : State :=
  let arg := pwrArg s
  let b := bitsOf arg 0 8
  let enter := bitOf arg 8
  let held := s.pwr.held.contains b
  if 68 ≤ b ∨ arg ≥ 512 then pwrRefuse s 2
  else if ¬ enter then
    (if ¬ held ∨ s.pwr.held.contains (128 + b) then pwrRefuse s 3
     else
      let s := { s with pwr := { s.pwr with held := s.pwr.held.filter (fun x => x ≠ b) } }
      pwrEnd (if b < 64 then ferResetEnd s b else deskStart s (b - 64)) 0 0)
  else if held then pwrEnd s 0 0
  else if b < 64 then
    (if ferPower s b ≠ 0 then pwrRefuse s 3
     else pwrEnd (ferResetStart { s with pwr := { s.pwr with held := s.pwr.held ++ [b] } } b) 0 0)
  else
    let d := b - 64
    if deskDead s d then pwrRefuse s 4
    else if s.rd (F.PWR_DST d) = 3 then pwrRefuse s 3
    else match deskWriteBack s d with
      | (true, s) => deskHold s d
      | (false, s) => { s with pwr := { s.pwr with wback := some d, req := some { opc := 7, arg := arg, asked := [b], granted := [], since := s.devTime } } }

/-! ### The commands -/

/-- A doorbell of the PWR page (R553, R612): the initiators that an opcode admits, and then its effect. -/
def pwrBell (s : State) (init seq opc : Nat) : State :=
  let allowed := decide (init = 0x20) || (decide (opc ≤ 2) && hostScribe s init)
  s.hostBell 0x2A0 seq opc allowed (fun s =>
    if opc = 1 then deskLevel s else if opc = 2 then deskState s else if opc = 3 then ferruleState s
    else if opc = 4 then domainState s else if opc = 5 then deviceState s else if opc = 6 then deskDie s else blockReset s)

/-- DESKPL (R544 to R546). -/
def execDeskpl (t init seq : Nat) (s : State) : Out := .next ((s.tick t).gatedCmd init 0x2A0 seq 1 0 (fun s => pwrBell s init seq 1))
/-- DESKST (R547, R549). -/
def execDeskst (t init seq : Nat) (s : State) : Out := .next ((s.tick t).gatedCmd init 0x2A0 seq 2 0 (fun s => pwrBell s init seq 2))
/-- FERST (R547, R550). -/
def execFerst (t init seq : Nat) (s : State) : Out := .next ((s.tick t).gatedCmd init 0x2A0 seq 3 0 (fun s => pwrBell s init seq 3))
/-- DOMST (R547). -/
def execDomst (t init seq : Nat) (s : State) : Out := .next ((s.tick t).gatedCmd init 0x2A0 seq 4 0 (fun s => pwrBell s init seq 4))
/-- DEVST (R551). -/
def execDevst (t init seq : Nat) (s : State) : Out := .next ((s.tick t).gatedCmd init 0x2A0 seq 5 0 (fun s => pwrBell s init seq 5))
/-- DEAD (R468, R469, R552). -/
def execPwrDead (t init seq : Nat) (s : State) : Out := .next ((s.tick t).gatedCmd init 0x2A0 seq 6 0 (fun s => pwrBell s init seq 6))
/-- BRESET (R612). -/
def execBreset (t init seq : Nat) (s : State) : Out := .next ((s.tick t).gatedCmd init 0x2A0 seq 7 0 (fun s => pwrBell s init seq 7))

/-- PWR_BLOCK_GRANT (R547, R612): a block that delayed has finished what it had to, or refuses after all. -/
def execPwrBlockGrant (t block : Nat) (s : State) : Out :=
  .next (let s := s.tick t
    match s.pwr.req with
    | none => s
    | some r =>
      if ¬ r.asked.contains block then s
      else if s.pwr.wback = some (block - 64) then
        (match deskWriteBack s (block - 64) with
         | (true, s) => deskHold s (block - 64)
         | (false, s) => s)
      else if block = 128 ∧ r.asked.any (fun b => decide (64 ≤ b) && decide (b < 128)) then s
      else
        let off := r.granted.filter (fun b => decide (64 ≤ b) && decide (b < 128)) |>.map (· - 64)
        if ¬ blockGrants s off block (wanted r block) then pwrFail s block false
        else match blockFinish s block (wanted r block) with
          | (false, s) => s
          | (true, s) =>
            let r' : PwrReq := { r with asked := r.asked.filter (· ≠ block), granted := r.granted ++ [block] }
            let s := { s with pwr := { s.pwr with req := some r' } }
            if r'.asked.isEmpty then requestGranted s r' else if r'.asked = [128] then answerRequest s else s)

/-- PWR_REQUEST_TIMEOUT (R547, R612): 1 ms after the request the block has not granted. A desk that has not finished its
write-back stays as it is until it is declared dead. -/
def execPwrRequestTimeout (t block : Nat) (s : State) : Out :=
  .next (let s := s.tick t
    match s.pwr.req with
    | none => s
    | some r =>
      if r.asked.contains block ∧ r.since + 1000000 ≤ s.devTime then
        (if s.pwr.wback = some (block - 64) then
          let s := { s with pwr := { s.pwr with wback := none, held := s.pwr.held ++ [block, 128 + block] } }
          pwrEnd (s.pageErr 0x2A0 0x11 27 block) 3 block
         else pwrFail s block true)
      else s)

/-- DESK_LEVEL_CHANGE_COMPLETE (R545). -/
def execDeskLevelChangeComplete (t : Nat) (ok : Bool) (rail : Nat) (s : State) : Out := .next (levelEnd (s.tick t) ok rail)

/-- DESK_NAP_EXIT (R549, R584): an interrupt that is deliverable to a scribe of a NAP or DOZE desk returns it to ACTIVE; NAPX
and the NAP exit event tell of an exit from NAP. -/
def execDeskNapExit (t desk : Nat) (s : State) : Out :=
  .next (let s := s.tick t
    let st := s.rd (F.PWR_DST desk)
    if desk < 4 ∧ (st = 1 ∨ st = 2) ∧ (deskScribes desk).any (fun n => (icuDeliverable s n).isSome) then
      let s := blockEnter s (64 + desk) 0
      if st = 1 then (s.bump (F.PWR_NAPX desk)).setBit F.PWR_EVT 7 else s
    else s)

/-- The command whose changes have all ended completes (R551). -/
def changesDone (s : State) : State :=
  match s.pwr.req with
  | some r =>
    if r.asked.isEmpty ∧ ¬ s.pwr.change.any (fun c => r.granted.contains c.1) then
      let s := if r.opc = 5 then s.wr F.PWR_DEVST (bitsOf r.arg 0 2) else s
      pwrEnd s 0 0
    else s
  | none => s

/-- FERRULE_POWER_UP_COMPLETE (R550): a ferrule that was asked for, or that a load or read needs, is in RUN. -/
def execFerrulePowerUpComplete (t ferrule : Nat) (s : State) : Out :=
  .next (let s := s.tick t
    if s.pwr.change.contains (ferrule, 0) ∧ ferrule < 64 then changesDone (endChanges s (fun b => b == ferrule)) else s)

/-- PWR_TRANSITION_COMPLETE (R549 to R551): the changes of the command in progress end, in the order of power. -/
def execPwrTransitionComplete (t : Nat) (s : State) : Out :=
  .next (let s := s.tick t
    match s.pwr.req with
    | some r => if r.asked.isEmpty then changesDone (endChanges s (fun b => r.granted.contains b)) else s
    | none => s)

/-- RECLAIM_WALK_COMPLETE (R469, R552). -/
def execReclaimWalkComplete (t desk : Nat) (s : State) : Out :=
  .next (let s := s.tick t
    if reclaimDesk s = some desk then reclaimEnd s else s)

/-! ### Monitors (R546, R628, R629) -/

/-- The greatest junction temperature of the grade, in units of 0.125 °C (R2, R628). -/
def maxTj (s : State) : Int := if s.rd F.DEV_GRADE = 2 then 1000 else 880

/-- The hottest of the 72 sensors and its number, the lowest among equals (R546). -/
def hottest (s : State) : Int × Nat :=
  (List.range 72).foldl (fun (b : Int × Nat) i => if b.1 < tget s.pwr.temps i then (tget s.pwr.temps i, i) else b) (tget s.pwr.temps 0, 0)

/-- THERMAL_SAMPLE (R546, R628): a sensor's sample; the alarm; and the hardware trip, which takes every ACTIVE desk to PL0. -/
def execThermalSample (t sensor : Nat) (temp : Int) (s : State) : Out :=
  .next (let s := s.tick t
    let s : State := if sensor < 72 then { s with pwr := { s.pwr with temps := tset s.pwr.temps sensor temp } } else s
    let (hot, n) := hottest s
    let s := (s.wr F.PWR_TMAX (toField hot 12)).wr F.PWR_TSEN n
    let s := if signedOf (s.rd F.PWR_TALRM) 12 < hot then s.setBit F.PWR_EVT 3 else s
    if maxTj s + 40 ≤ hot then
      let s := { s with pwr := { s.pwr with hwtrip := true } }.setBit F.PWR_EVT 4
      (List.range 4).foldl (fun s d => if s.rd (F.PWR_DST d) = 0 then (s.wr (F.PWR_PL d) 0).wr (F.DSK_PL d) 0 else s) s
    else if hot < maxTj s then { s with pwr := { s.pwr with hwtrip := false } }
    else s)

/-- RAIL_LOW (R546): a rail's measured voltage; below VLOWTH it sets VLOW and asserts the alert. -/
def execRailLow (t rail mv : Nat) (s : State) : Out :=
  .next (let s := s.tick t
    if rail < 8 then
      let s := s.wr (F.PWR_VMEAS rail) mv
      let s := if mv < s.rd (F.PWR_VMIN rail) then s.wr (F.PWR_VMIN rail) mv else s
      if mv < s.rd (F.PWR_VLOWTH rail) then s.setBit F.PWR_EVT 5 else s
    else s)

/-- AGEING_MONITOR_SAMPLE (R629): DEGR, and the powered hours. -/
def execAgeingMonitorSample (t monitor degr : Nat) (s : State) : Out :=
  .next (let s := s.tick t
    if monitor < 8 then (s.wr (F.PWR_DEGR monitor) degr).wr (F.PWR_HOURS monitor) (s.now / 3600000000000) else s)

end Sys2Proof.Machine
end

