-- ==== Sys2Proof/Machine/Bst.lean ====
section
/-! DEFINITION. Self-test and repair (R555 to R568): the full test, fusing and the record, the boot decision, and the rolling
test.
Decisions: log entry 73 (DEDUCED). -/

namespace Sys2Proof.Machine
open Sys2Proof

/-! ### Elements and repairs -/

/-- The same element, whatever its repair (R557). -/
def sameElement (a b : TestElement) : Bool :=
  a.kind == b.kind && a.unit == b.unit && a.bank == b.bank && a.row == b.row

/-- The soft repairs in effect (R565). -/
def setSoft (s : State) (l : List TestElement) : State :=
  { s with bst := { s.bst with soft := l } }.wr F.BST_NSOFT (min l.length 4095)

/-- The last failure is shown (R568). -/
def showFailure (s : State) (e : TestElement) : State :=
  ((((s.wr F.BST_LKIND e.kind).wr F.BST_LFER e.unit).wr F.BST_LBANK e.bank).wr F.BST_LROW e.row).wrb F.BST_LREP e.repaired

/-- The failing elements of a full test are shown, and its soft repairs replace the earlier ones (R555, R565). -/
def testFails (s : State) (l : List TestElement) : State :=
  let s := setSoft s (l.filter (fun e => e.repaired))
  match l.getLast? with
  | some e => showFailure s e
  | none => s

/-! ### Secrets (R567) -/

/-- A storage word that a clearing of secrets sets to 0: the key pairs of the SUB and PUB pages and TEN_MKEY. -/
def isSecret (a : Nat) : Bool :=
  let p := a / 512
  let w := a % 512
  (decide (0x100 ≤ p) && decide (p < 0x200) &&
    ((decide (p % 4 = 2) && decide (320 ≤ w)) || (decide (p % 4 = 3) && decide (112 ≤ w) && decide (w < 160)))) ||
  (decide (p = 0x2D0) && decide (48 ≤ w) && decide (w ≤ 51))

/-- Secrets are cleared before a scan of some ferrules and desks (R567): their inkwells, the nibs' memories, L1s and L2s. -/
def clearSecrets (s : State) (fers desks : List Nat) : State :=
  let s := { s with regs := s.regs.filter (fun e => !(isSecret e.1))
                    inkwell := s.inkwell.filter (fun e => !(fers.contains (e.1 / 2 ^ 18)))
                    nibs := s.nibs.filter (fun e => !(fers.contains (e.1 / 18))) }
  let s := desks.foldl deskDrop s
  (s.bump F.BST_NSCLR).wr F.BST_SECCLR 1

/-! ### The full test, fusing and sealing (R555 to R558) -/

/-- FULLTEST (R555, R567, R568): secrets are cleared before the scan; the test runs until its end is reported. -/
def fullTest (s : State) : State :=
  if s.rd F.PWR_DEVST ≠ 2 then s.refuse 0x2B0 1 2
  else
    let s := clearSecrets s (List.range 64) (List.range 4)
    { s with bst := { s.bst with running := true } }

/-- FULL_TEST_COMPLETE (R555). -/
def execFullTestComplete (t : Nat) (fails : List TestElement) (s : State) : Out :=
  .next (let s := s.tick t
    if s.bst.running then
      let s := { s with bst := { s.bst with running := false, tested := true, fails := fails } }
      ((testFails s fails).wr F.BST_TDONE 1).complete 0x2B0 0 0 0
    else s)

/-- Whether a failing element of this test is confirmed (R558). -/
def confirmed (s : State) (e : TestElement) : Bool :=
  match s.bst.stored with
  | some r => r.entries.any (fun x => sameElement x.1 e && x.1.repaired)
  | none => false

/-- The number of fuse entries used and left (R558). -/
def showFuses (s : State) : State :=
  let n := s.bst.fused.length
  (s.wr F.BST_NFUSE n).wr F.BST_FLEFT (512 - n)

/-- FUSE (R558): one entry for each confirmed element that is not fused yet. -/
def fuse (s : State) : State :=
  if s.rd F.PWR_DEVST ≠ 2 then s.refuse 0x2B0 1 2
  else if ¬ s.bst.tested then s.refuse 0x2B0 1 3
  else
    let new := s.bst.fails.filter (fun e => confirmed s e && !(s.bst.fused.any (sameElement e)))
    let room := 512 - s.bst.fused.length
    let s := showFuses { s with bst := { s.bst with fused := s.bst.fused ++ new.take room } }
    if room < new.length then (s.pageErr 0x2B0 0x11 0 0).complete 0x2B0 0x80 0 0 else s.complete 0x2B0 0 0 0

/-- The record that the ROM writes (R556, R557): the elements that failed, with what became of them. -/
def newRecord (s : State) : BstRecord :=
  { sealed := true, uid := s.otp.uid, time := timeWord s.devTime, quality := qualityNow s
    entries := s.bst.fails.map (fun e => (e, confirmed s e, s.bst.fused.any (sameElement e))) }

/-- The record phase of the boot ROM (R556): the record is written and checked, the shelf timer starts, and the flash is
write-protected. -/
def recordPhase (s : State) (r : BstRecord) : State :=
  let s := { s with phase := 6, bst := { s.bst with stored := some r, shelfAt := s.now, tested := false }, mcu := { s.mcu with wp := true } }
  (s.wr F.BST_SHELF 0).wr F.BST_SHV 1

/-- A doorbell of the BST page (R568); SEAL is given where a chip reset is. -/
def bstBell (s : State) (init seq opc : Nat) (f : State → State) : State :=
  s.hostBell 0x2B0 seq opc (decide (init = 0x20)) f

/-- FULLTEST (R555). -/
def execFulltest (t init seq : Nat) (s : State) : Out :=
  .next ((s.tick t).gatedCmd init 0x2B0 seq 1 0 (fun s => bstBell s init seq 1 fullTest))

/-- FUSE (R558). -/
def execFuse (t init seq : Nat) (s : State) : Out :=
  .next ((s.tick t).gatedCmd init 0x2B0 seq 2 0 (fun s => bstBell s init seq 2 fuse))

/-! ### The shelf timer and the boot decision (R559 to R561) -/

/-- The shelf timer's count, in seconds since the record phase (R559). -/
def shelfSeconds (s : State) : Nat := if s.isSet F.BST_SHV then min ((s.now - s.bst.shelfAt) / 1000000000) (2 ^ 32 - 1) else s.rd F.BST_SHELF

/-- VBAT_RETENTION_LOSS (R559, R621): without main power the shelf timer loses its count. -/
def execVbatRetentionLoss (t : Nat) (s : State) : Out :=
  .next (let s := s.tick t
    if s.phase = 3 then (s.wr F.BST_SHELF (shelfSeconds s)).wr F.BST_SHV 0 else s)

/-- The nibs that a boot leaves failed enter the ruler's fault map (R561). -/
def bootNibs (s : State) (l : List TestElement) : State :=
  (l.filter (fun e => decide (e.kind = 4) && !e.repaired && decide (e.unit < 64) && decide (e.bank < 18))).foldl (fun s e =>
    nibFails (s.wr (F.FER_NST e.unit e.bank) 3) e.unit e.bank) s

/-- The boot decision (R560, R561): the record is read and consumed; the full test is skipped, or has the failing elements that
are given. -/
def bootDecision (s : State) (fails : List TestElement) : State :=
  let valid := match s.bst.stored with | some r => decide (r.uid = s.otp.uid) | none => false
  let ord := match s.bst.stored with | some r => r.sealed | none => false
  let age := s.isSet F.BST_SHV && decide (shelfSeconds s < 2592000)
  let skip := valid && ord && age
  let s := (((s.wrb F.BST_SKIP skip).wrb F.BST_RVALID valid).wrb F.BST_RORD ord).wrb F.BST_AGEOK age
  let entries := match s.bst.stored with | some r => r.entries | none => []
  let s := { s with bst := { s.bst with stored := s.bst.stored.map (fun r => { r with sealed := false }) }, mcu := { s.mcu with wp := true } }
  if skip then
    bootNibs (setSoft s ((entries.filter (fun e => e.1.repaired && !e.2.2)).map (·.1))) (entries.map (·.1))
  else
    let s := clearSecrets s (List.range 64) (List.range 4)
    bootNibs ((testFails s fails).wr F.BST_NBFAIL (min fails.length 1023)) fails

/-! ### The rolling test (R562 to R566) -/

/-- Whether an element of the rolling test is taken: nibs by ferrule * 18 + nib, then segments by 1,152 + ferrule * 64 + segment. -/
def rollTakes (s : State) (e : Nat) : Bool :=
  if e < 1152 then
    let nst := s.rd (F.FER_NST (e / 18) (e % 18))
    ferRun s (e / 18) && (decide (nst = 3) || decide (nst = 4) || decide (nst = 6))
  else ferRun s ((e - 1152) / 64) && !(s.bst.shadows.any (fun x => x.1 == (e - 1152) / 64))

/-- The next element from the present place on (R562). -/
def rollNext (s : State) : Option Nat :=
  (List.range' s.bst.place (5248 - s.bst.place)).find? (rollTakes s)

/-- An element's test starts (R563, R564). -/
def rollStart (s : State) (e : Nat) : State :=
  let s := { s with bst := { s.bst with place := e + 1, pass := 0, failed := false, dropped := false } }
  if e < 1152 then
    let f := e / 18
    let n := e % 18
    let s := { s with bst := { s.bst with before := s.rd (F.FER_NST f n) } }.wr (F.FER_NST f n) 5
    (((s.wr F.BST_RKIND 1).wr F.BST_RFER f).wr F.BST_RIDX n).wr F.BST_RPH 2
  else
    (((s.wr F.BST_RKIND 2).wr F.BST_RFER ((e - 1152) / 64)).wr F.BST_RIDX ((e - 1152) % 64)).wr F.BST_RPH 1

/-- ROLLING_TEST_START (R562): the next element's test starts; a round of both lists counts in NPASS when it is over. -/
def execRollingTestStart (t : Nat) (s : State) : Out :=
  .next (let s := s.tick t
    if s.isSet F.BST_REN ∧ s.rd F.PWR_DEVST = 0 ∧ s.rd F.BST_RKIND = 0 then
      match rollNext s with
      | some e => rollStart s e
      | none =>
        if s.bst.place = 0 then s
        else
          let s := { s.bump F.BST_NPASS with bst := { s.bst with place := 0 } }
          match rollNext s with
          | some e => rollStart s e
          | none => s
    else s)

/-- No element is under test. -/
def rollIdle (s : State) : State := (s.wr F.BST_RKIND 0).wr F.BST_RPH 0

/-- A rolling test has failed (R568). -/
def rollFailed (s : State) (e : TestElement) : State := ((showFailure s e).bump F.BST_NRFAIL).wr F.BST_RFAIL 1

/-- NIB_TEST_COMPLETE (R563): the outcome by the nib's state before. -/
def execNibTestComplete (t : Nat) (pass : Bool) (s : State) : Out :=
  .next (let s := s.tick t
    if s.rd F.BST_RKIND = 1 then
      let f := s.rd F.BST_RFER
      let n := s.rd F.BST_RIDX
      let b := s.bst.before
      let s := (rollIdle s).bump F.BST_NTEST
      let s := if pass then s else rollFailed s { kind := 4, unit := f, bank := n, row := 0, repaired := false }
      if pass then
        (let s := s.wr (F.FER_NST f n) b
         if b = 3 then s.rulEvent (.nibReturn f n) else s)
      else
        (let s := s.wr (F.FER_NST f n) 3
         if b = 4 then s.rulEvent (.nibFault f n) else s.setBit (F.RUL_FAIL f) n)
    else s)

/-- SEGMENT_SAVE_COMPLETE (R564). -/
def execSegmentSaveComplete (t : Nat) (s : State) : Out :=
  .next (let s := s.tick t
    if s.rd F.BST_RKIND = 2 ∧ s.rd F.BST_RPH = 1 then { s.wr F.BST_RPH 2 with bst := { s.bst with pass := 1 } } else s)

/-- SEGMENT_TEST_PASS_COMPLETE (R564 to R566): a clean pass leads to the restore; after a failing pass the rows and columns are
repaired and one more pass runs; what cannot be repaired leaves the shadow in place of the segment. -/
def execSegmentTestPassComplete (t : Nat) (fails : List TestElement) (repairable : Bool) (s : State) : Out :=
  .next (let s := s.tick t
    if s.rd F.BST_RKIND = 2 ∧ s.rd F.BST_RPH = 2 then
      match fails.getLast? with
      | none => s.wr F.BST_RPH 3
      | some e =>
        let again := s.bst.failed
        let s := showFailure s { e with repaired := repairable }
        let s := (if again then s else s.bump F.BST_NRFAIL).wr F.BST_RFAIL 1
        let s := { s with bst := { s.bst with failed := true } }
        if repairable then
          let s := setSoft s (s.bst.soft ++ fails.map (fun x => { x with repaired := true }))
          { s with bst := { s.bst with pass := s.bst.pass + 1, repairAt := s.now + 1 } }
        else
          let s := { s with bst := { s.bst with shadows := s.bst.shadows ++ [(s.rd F.BST_RFER, s.rd F.BST_RIDX)] } }
          ((rollIdle s).bump F.BST_NTEST).wr F.BST_UNREP 1 |>.pageErr 0x2B0 0x10 18 0
    else s)

/-- RPH as BST_RSTAT shows it (R564, R568): 4 for 1 µs after a failing pass. -/
def rollPhase (s : State) : Nat :=
  if s.rd F.BST_RPH = 2 ∧ s.bst.repairAt ≠ 0 ∧ s.now < s.bst.repairAt - 1 + 1000 then 4 else s.rd F.BST_RPH

/-- SEGMENT_RESTORE_COMPLETE (R564): service returns to the segment; an abandoned test does not count. -/
def execSegmentRestoreComplete (t : Nat) (s : State) : Out :=
  .next (let s := s.tick t
    if s.rd F.BST_RKIND = 2 ∧ s.rd F.BST_RPH = 3 then
      let n := s.bst.dropped
      let s := rollIdle s
      if n then s else s.bump F.BST_NTEST
    else s)

end Sys2Proof.Machine
end

