-- ==== Sys2Proof/Machine/Duplex.lean ====
section
/-! DEFINITION. Duplex pairs (R592 to R602) and the health tick (R540): status frames and their checks, the time between the
two devices, and output frames.
Decisions: log entry 75 (DEDUCED). -/

namespace Sys2Proof.Machine
open Sys2Proof

/-- The uplinks of the peer link (R592). -/
def dpxPorts (s : State) : List Nat := [1024 + 2 * s.rd F.DPX_PAIR, 1025 + 2 * s.rd F.DPX_PAIR]

/-- Every implemented CS word, in ascending page and word order (R88, R595). -/
def csWords : List Nat :=
  (List.range 0x300).flatMap (fun p =>
    if pageKind p = none then [] else ((List.range 512).filter (fun w => csMask p w ≠ 0)).map (fun w => p * 512 + w))

/-- CFGDIG (R595). -/
def cfgDigest (s : State) : Word :=
  digest72 (csWords.flatMap (fun a => [BitVec.ofNat 72 a, s.word a &&& csMask (a / 512) (a % 512)]))

/-- The domains' part of a status frame of a second boundary (R593). -/
def dpxDomains (s : State) (second : Nat) : List DpxDomain :=
  (List.range 4).map (fun d =>
    let run := s.rd (F.DOM_RUN d)
    { run := run, per := domPeriod s d, anc := s.word (F.DOM_ANC d).addr
      snum := if run = 1 then (second - domAnchor s d) / max (domPeriod s d) 1 else 0 })

/-- The figures of a second (R593). -/
def dpxFigures (s : State) (second : Nat) : DpxStatus :=
  { role := s.rd F.DPX_ROLE, elig := s.isSet F.DPX_ELIG, cfgdig := cfgDigest s, hcmd := s.word F.RUL_HCMD.addr
    fwv := s.rd F.DPX_MFW + s.rd F.DPX_SFW * 2 ^ 32, txt := 0, etxt := s.dpx.txt, erxt := s.dpx.erxt, doms := dpxDomains s second }

/-- A status frame is sent at a second boundary (R594). -/
def dpxStatusTx (s : State) : State :=
  if s.isSet F.DPX_EN then
    let second := s.devTime / 1000000000 * 1000000000
    let m := dpxFigures s second
    let s := { s with dpx := { s.dpx with mine := some (second, m) } }.wr F.DPX_CFGDIG m.cfgdig.toNat
    sendOn s (dpxPorts s) 5 false none (.dpxStatus 1 m)
  else s

/-- HEALTH_TICK (R540, R594): the fraction of device time becomes 0. -/
def execHealthTick (t : Nat) (s : State) : Out :=
  .next (let s := (s.tick t).wrapInc F.MCB_HCNT
    dpxStatusTx { s with mcu := { s.mcu with tick := true } })

/-! ### Reasons (R596, R597) -/

/-- ELIG as the reasons leave it (R597). -/
def dpxEligible (s : State) : State :=
  s.wrb F.DPX_ELIG (decide (s.rd F.DPX_ROLE = 2) && s.isSet F.DPX_EN && s.isSet F.DPX_PEERUP && decide (s.rd F.DPX_RSN = 0))

/-- A reason becomes set, or clears (R597). -/
def dpxReason (s : State) (r : Nat) (on : Bool) : State :=
  let was := bitOf (s.rd F.DPX_RSN) (r - 1)
  let s := if on then s.setBit F.DPX_RSN (r - 1) else s.clrBit F.DPX_RSN (r - 1)
  if on && !was then (s.wr F.DPX_INE 1).pageErr 0x2E0 0x10 12 r else s

/-- A latched check of a status frame: its failures in succession reach HOLD (R596, R597). -/
def dpxCheck (s : State) (r : Nat) (bad : Bool) : State :=
  let n := if bad then min (tget s.dpx.fails r + 1) 15 else 0
  let s : State := { s with dpx := { s.dpx with fails := tset s.dpx.fails r n } }
  if bad ∧ s.rd F.DPX_HOLD ≤ n then dpxReason s r true else s

/-- FCNT (R602): consecutive failures of the checks now failing. -/
def dpxCount (s : State) : State :=
  s.wr F.DPX_FCNT (max (tget s.dpx.fails 1) (max (tget s.dpx.fails 2) (tget s.dpx.fails 3)))

/-- PDEG set or cleared (R111, R599). -/
def setPdeg (s : State) (b : Bool) : State := (s.wrb F.TIM_PDEG b).updQuality

/-- The offset of the peer by the four stamps of a status frame (R599). -/
def dpxOffset (s : State) (msg : DpxStatus) (stamp : Nat) : State :=
  if msg.etxt = 0 then s
  else
    let t (w : Word) : Int := (wordNs w : Nat)
    let ofs : Int := ((t msg.erxt - t msg.etxt) - ((stamp : Int) - t msg.txt)) / 2
    let s := (s.wr F.DPX_OFS (toField (clampInt ofs 24) 24)).wr F.DPX_OV 1
    if 1000 < ofs ∨ ofs < -1000 then setPdeg { s with dpx := { s.dpx with good := 0 } } true
    else
      let s : State := { s with dpx := { s.dpx with good := min (s.dpx.good + 1) 3 } }
      if s.dpx.good = 3 then setPdeg s false else s

/-- DUPLEX_STATUS_RX (R593 to R599). -/
def execDuplexStatusRx (t stamp version : Nat) (msg : DpxStatus) (s : State) : Out :=
  .next (let s := s.tick t
    if ¬ s.isSet F.DPX_EN then s
    else if version ≠ 1 then s.bump F.DPX_NBAD
    else
      let second := (s.devTime + 500000000) / 1000000000 * 1000000000
      let mine := match s.dpx.mine with
        | some (b, m) => if b = second then m else dpxFigures s second
        | none => dpxFigures s second
      let s : State := { s with dpx := { s.dpx with heardAt := s.now, txt := msg.txt, erxt := timeWord stamp } }
      let s := ((((s.bump F.DPX_NSTAT).wr F.DPX_PEERUP 1).wrb F.DPX_PELIG msg.elig).wr F.DPX_PROLE msg.role).wr F.DPX_PCFG msg.cfgdig.toNat
      let s := (s.wr F.DPX_PHCMD msg.hcmd.toNat).wr F.DPX_PFWV msg.fwv
      let s := dpxCheck (dpxCheck (dpxCheck s 1 (msg.cfgdig != mine.cfgdig)) 2 (msg.hcmd != mine.hcmd)) 3 (msg.fwv != mine.fwv)
      let s := dpxReason s 4 (msg.doms != mine.doms)
      let role := s.rd F.DPX_ROLE
      let s := dpxReason s 6 (decide (msg.role = role) && (decide (role = 1) || decide (role = 2)))
      dpxOffset (dpxEligible (dpxCount (dpxReason s 5 false))) msg stamp)

/-- DUPLEX_PEER_TIMEOUT (R594, R597, R599): 3 s without a status frame. -/
def execDuplexPeerTimeout (t : Nat) (s : State) : Out :=
  .next (let s := s.tick t
    if s.isSet F.DPX_PEERUP ∧ s.dpx.heardAt + 3000000000 ≤ s.now then
      let s := (s.wr F.DPX_PEERUP 0).wr F.DPX_PLOST 1
      let s : State := { s with dpx := { s.dpx with good := 0 } }
      dpxEligible (dpxReason (setPdeg s false) 5 true)
    else s)

/-! ### Configuration (R592, R597, R602) -/

/-- A write of DPX_CFG, DPX_PMAC, DPX_SMAC or DPX_FWV. -/
def dpxConfig (s : State) (init off : Nat) (value : Word) : State :=
  let no := s.ignored 0x2E0 off 7
  if off = 8 then
    let en := getField value 0 1
    let role := getField value 1 2
    let pair := getField value 3 2
    let hold := getField value 5 4
    if role = 3 ∨ hold = 0 then no
    else if s.isSet F.DPX_EN ∧ (en = 0 ∨ pair ≠ s.rd F.DPX_PAIR) then no
    else if en = 1 ∧ ¬ s.isSet F.DPX_EN ∧ s.rd (fPairMode (512 + pair)) ≠ 1 then no
    else
      let was := s.isSet F.DPX_EN
      let s := (((s.wr F.DPX_EN en).wr F.DPX_ROLE role).wr F.DPX_PAIR pair).wr F.DPX_HOLD hold
      let s := if en = 1 ∧ ¬ was ∧ ¬ s.isSet F.DPX_PEERUP then dpxReason s 5 true else s
      dpxEligible s
  else if off = 11 then
    (if init ≠ 0x20 ∨ (s.isSet F.DPX_EN ∧ getField value 0 64 ≠ s.rd F.DPX_MFW + s.rd F.DPX_SFW * 2 ^ 32) then no
     else (s.wr F.DPX_MFW (getField value 0 32)).wr F.DPX_SFW (getField value 32 32))
  else if off = 9 then s.wr F.DPX_PMAC (getField value 0 48)
  else if off = 10 then s.wr F.DPX_SMAC (getField value 0 48)
  else s

/-- DUPLEX_CONFIG_WRITE (R592, R602). -/
def execDuplexConfigWrite (t init off : Nat) (value : Word) (s : State) : Out :=
  .next ((s.tick t).gated init 0x2E0 off value (fun s => dpxConfig s init off value))

/-- CLR (R597): reasons 1 to 3 clear, and set again only when their checks count anew. -/
def dpxClear (s : State) : State :=
  let s : State := { s with dpx := { s.dpx with fails := [] } }
  dpxEligible (dpxCount (((s.clrBit F.DPX_RSN 0).clrBit F.DPX_RSN 1).clrBit F.DPX_RSN 2))

/-- DUPLEX_CLR (R597). -/
def execDuplexClr (t init : Nat) (s : State) : Out :=
  .next ((s.tick t).gated init 0x2E0 12 (1#72 <<< 11) dpxClear)

/-! ### Output frames (R600, R601) -/

/-- The critical functions that an output frame of a domain's stroke covers, in index order. -/
def dpxFns (s : State) (d n : Nat) : List Nat :=
  (liveFns s).filter (fun i => isPlaced s i && (s.fn i).desc.crit && decide ((s.fn i).desc.dom = d) && decide ((s.fn i).first ≤ n))

/-- The record of a function's stroke; a stroke without one was skipped. -/
def dpxRec (s : State) (i n : Nat) : StrokeRec :=
  match s.rul.recs.find? (fun r => decide (r.fn = i) && decide (r.stroke = n)) with
  | some r => if r.odig.isNone then { r with ind := true } else r
  | none => { fn := i, stroke := n, ind := true }

/-- The output frame of a domain's stroke. -/
def dpxOutput (s : State) (d n : Nat) : DpxOutput :=
  let rs := (dpxFns s d n).map (fun i => dpxRec s i n)
  let pd := rs.flatMap (fun r => [BitVec.ofNat 72 (r.fn + 4096 * b2n r.ind), r.pdig.getD 0])
  let od := (rs.filter (fun r => !r.ind)).flatMap (fun r => [BitVec.ofNat 72 r.fn, r.odig.getD 0])
  { dom := d, stroke := n, odsum := digest72 od, pdsum := digest72 pd, nfn := rs.length, nind := (rs.filter (fun r => r.ind)).length }

/-- Every egress decision of the stroke is made, or DXT has come (R600). -/
def dpxReady (s : State) (d n : Nat) : Bool :=
  let l := dpxFns s d n
  let dxt := l.foldl (fun m i => (outPoints s (s.fn i)).foldl (fun m p => max m (edlNs s i p)) m) 0 + 1000
  l.all (fun i => (egressPoints s (s.fn i)).all (fun p => decide (n < decidedAt s i p)) || strokeSkipped s i n) ||
    decide (openAt s d n + dxt ≤ s.devTime)

/-- An own frame and the peer's for one stroke are compared (R601). -/
def dpxCompare (s : State) (a b : DpxOutput) : State :=
  let d := a.dom
  if a.pdsum ≠ b.pdsum ∨ a.nfn ≠ b.nfn then s.bump (F.DPX_PDIFF d)
  else if a.odsum ≠ b.odsum then ((s.bump (F.DPX_ODIFF d)).wr (F.DPX_LSTR d) a.stroke).wr F.DPX_ODF 1
  else s

def sameStroke (a b : DpxOutput) : Bool := a.dom == b.dom && a.stroke == b.stroke

/-- DUPLEX_OUTPUT_TX (R600, R601): the frame is sent, compared with a held frame of the peer, and the miss of the frame four
strokes before is counted. -/
def execDuplexOutputTx (t dom stroke : Nat) (s : State) : Out :=
  .next (let s := s.tick t
    if s.isSet F.DPX_EN ∧ dom < 4 ∧ s.isSet (F.DOM_RUN dom) ∧ stroke ≤ curStroke s dom ∧ tget s.dpx.sent dom ≤ stroke ∧
       dpxFns s dom stroke ≠ [] ∧ dpxReady s dom stroke then
      let m := dpxOutput s dom stroke
      let s := sendOn s (dpxPorts s) 5 false none (.dpxOutput 1 m)
      let late (x : DpxOutput) : Bool := decide (x.dom = dom) && decide (x.stroke + 4 ≤ stroke)
      let s := (s.dpx.own.filter late).foldl (fun s _ => s.bump (F.DPX_NMISS dom)) s
      let x := s.dpx
      let s : State := { s with dpx := { x with own := x.own.filter (fun o => !(late o)), sent := tset x.sent dom (stroke + 1) } }
      let s := match s.dpx.peer.find? (sameStroke m) with
        | some p => dpxCompare s m p
        | none => { s with dpx := { s.dpx with own := s.dpx.own ++ [m] } }
      { s with dpx := { s.dpx with peer := s.dpx.peer.filter (fun p => decide (p.dom ≠ dom) || decide (stroke < p.stroke)) } }
    else s)

/-- DUPLEX_OUTPUT_RX (R593, R601): the peer's frame is compared with the own frame, held for it, or discarded. -/
def execDuplexOutputRx (t version : Nat) (msg : DpxOutput) (s : State) : Out :=
  .next (let s := s.tick t
    if ¬ s.isSet F.DPX_EN then s
    else if version ≠ 1 ∨ 3 < msg.dom then s.bump F.DPX_NBAD
    else match s.dpx.own.find? (sameStroke msg) with
      | some o =>
        dpxCompare { s with dpx := { s.dpx with own := s.dpx.own.filter (fun x => !(sameStroke msg x)) } } o msg
      | none =>
        if tget s.dpx.sent msg.dom ≤ msg.stroke then
          { s with dpx := { s.dpx with peer := (s.dpx.peer.filter (fun p => decide (p.dom ≠ msg.dom) || decide (msg.stroke < p.stroke + 4))) ++ [msg] } }
        else s)

end Sys2Proof.Machine
end

