-- ==== Sys2Proof/Machine/Debug.lean ====
section
/-! DEFINITION. The debug port, attaching, halting and stepping (R569 to R577, R580, R581, R584), and the blotter
(R585 to R591).
Decisions: log entries 49 (DEDUCED), 74 (DEDUCED). -/

namespace Sys2Proof.Machine
open Sys2Proof

/-! ### Halting and stepping (R574 to R579) -/

/-- A core is halted: a scribe with SST 3, or the management controller (32). -/
def coreHalted (s : State) (n : Nat) : Bool := if n < 32 then decide (s.rd (F.DSK_SST n) = 3) else s.isSet F.BLT_MCH

/-- A core halts at the present boundary (R575, R579): its store buffer drains, its reservation is cleared and its watchdog
pauses. -/
def coreHalt (s : State) (n : Nat) : State :=
  if n < 32 then
    let wfi := decide (s.rd (F.DSK_SST n) = 2)
    let s := (drainAll s n).2
    let s := s.modScribe n (fun c => { c with haltReq := false, stepping := false, inWfi := wfi, resv := none })
    (s.wr (F.DSK_SST n) 3).wr (F.MCB_PAUSE n) 1
  else (s.modScribe 32 (fun c => { c with haltReq := false, stepping := false })).wr F.BLT_MCH 1

/-- A halted core goes on (R538, R575, R579): its watchdog is reloaded; a step ends after one instruction. -/
def coreRelease (s : State) (n : Nat) (step : Bool) : State :=
  if ¬ coreHalted s n then s
  else if n < 32 then
    let wfi := (s.scribe n).inWfi
    let s := s.modScribe n (fun c => { c with inWfi := false, stepping := step })
    ((s.wr (F.DSK_SST n) (if wfi then 2 else 1)).wr (F.MCB_PAUSE n) 0).wr (F.MCB_REM n) (s.rd (F.MCB_PER n))
  else ((s.modScribe 32 (fun c => { c with stepping := step })).wr F.BLT_MCH 0).wr F.MCB_MREM (s.rd F.MCB_MPER)

/-- The state index under which an emulated block's refusal counts (R548). -/
def emulIndex (b v : Nat) : Nat := if b < 64 then 2 + v else if b < 128 then v - 1 else 5

/-- An emulated block enters its state by a real handshake, or is reported running again (R584). -/
def emulEnd (s : State) (b v : Nat) : State :=
  let s := { s with pwr := { s.pwr with emul := s.pwr.emul.filter (fun e => e.1 ≠ b) } }
  let off := (List.range 4).filter (fun d => decide (s.rd (F.PWR_DST d) = 3))
  let back (s : State) : State :=
    if b < 64 then setFerPower s b 0 else if b < 128 then s.wr (F.PWR_DST (b - 64)) 0 else setDomPower s (b - 128) 1
  let count (s : State) (abort : Bool) : State :=
    let i := emulIndex b v
    let s := (s.bump (fldAt (if abort then F.PWR_NABT.addr else F.PWR_NREF.addr) (8 * i) 8)).wr (fldAt F.PWR_LAST.addr (8 * i) 8) b
    s.setBit F.PWR_EVT (if abort then 2 else 1)
  if ¬ blockGrants s off b v then count (back s) false
  else match blockFinish s b v with
    | (false, s) => count (back s) true
    | (true, s) => blockEnter s b v

/-- ATTACH falls to 0 (R574, R584): every halted core and nib is released, and emulated blocks enter their states. -/
def detach (s : State) : State :=
  let s := s.wr F.BLT_ATTACH 0
  let s := (List.range 33).foldl (fun s n =>
    coreRelease (s.modScribe n (fun c => { c with haltReq := false, stepping := false })) n false) s
  let s := (List.range 64).foldl (fun s f => (List.range 18).foldl (fun s n => releaseNib s f n) s) s
  let list := s.pwr.emul
  (list.foldl (fun s e => emulEnd s e.1 e.2) s).wr F.PWR_EMUL 0

/-- A write of DBG_STAT.ATTACH (R574). -/
def attachWrite (s : State) (init : Nat) (attach : Bool) : State :=
  if init = 0x21 ∧ 1 ≤ s.rd F.BLT_LVL then
    (if attach then s.wr F.BLT_ATTACH 1 else if s.isSet F.BLT_ATTACH then detach s else s)
  else s.ignored 0x2C0 18 7

/-- DEBUG_ATTACH_WRITE (R574). -/
def execDebugAttachWrite (t init : Nat) (attach : Bool) (s : State) : Out :=
  .next ((s.tick t).gated init 0x2C0 18 (if attach then 4 else 0) (fun s => attachWrite s init attach))

/-- A write of DBG_HREQ (R575, R579): each core named is asked to halt at its next boundary. -/
def haltWrite (s : State) (mask : Nat) : State :=
  if ¬ s.isSet F.BLT_ATTACH then s.ignored 0x2C0 19 7
  else (bitList mask 33).foldl (fun s n =>
    let up := if n < 32 then scribeUp s n else mcRuns s
    if up then s.modScribe n (fun c => { c with haltReq := true }) else s.ignored 0x2C0 19 7) s

/-- DEBUG_HALT (R575). -/
def execDebugHalt (t init : Nat) (mask : BitVec 33) (s : State) : Out :=
  .next ((s.tick t).gated init 0x2C0 19 (mask.setWidth 72) (fun s => haltWrite s mask.toNat))

/-- SCRIBE_HALTED (R575): a core that was asked to halt reaches a boundary. -/
def execScribeHalted (t scribe : Nat) (s : State) : Out :=
  .next (let s := s.tick t
    if scribe ≤ 32 ∧ (s.scribe scribe).haltReq ∧ (if scribe < 32 then scribeUp s scribe else mcRuns s) then coreHalt s scribe else s)

/-- A write of DBG_RREQ (R576). -/
def resumeWrite (s : State) (mask : Nat) : State := (bitList mask 33).foldl (fun s n => coreRelease s n false) s

/-- DEBUG_RESUME (R576). -/
def execDebugResume (t init : Nat) (mask : BitVec 33) (s : State) : Out :=
  .next ((s.tick t).gated init 0x2C0 20 (mask.setWidth 72) (fun s => resumeWrite s mask.toNat))

/-- A write of DBG_SREQ (R576): each halted core named performs one step; its reservation is cleared. -/
def stepWrite (s : State) (mask : Nat) : State :=
  if ¬ s.isSet F.BLT_ATTACH then s.ignored 0x2C0 21 7
  else (bitList mask 33).foldl (fun s n => coreRelease (s.modScribe n (fun c => { c with resv := none })) n true) s

/-- DEBUG_STEP (R576). -/
def execDebugStep (t init : Nat) (mask : BitVec 33) (s : State) : Out :=
  .next ((s.tick t).gated init 0x2C0 21 (mask.setWidth 72) (fun s => stepWrite s mask.toNat))

/-! ### Halting nibs (R580, R581) -/

/-- A write of NIB_DSEL: a HALT that may not be performed is an ignored sequence. -/
def nibSelect (s : State) (value : Word) : State :=
  let f := getField value 0 6
  let n := getField value 6 5
  let halt := getField value 11 1 = 1
  if halt ∧ ¬ (n < 18 ∧ nibMayHalt s f n) then s.ignored 0x2C0 25 7
  else
    let s := s.setWord (0x2C0 * 512 + 25) (value &&& 0xFFFE7FF#72)
    let s := if halt then haltNib s f n else s
    if getField value 12 1 = 1 ∧ n < 18 then releaseNib s f n else s

/-- NIB_DEBUG_HALT (R580). -/
def execNibDebugHalt (t init : Nat) (value : Word) (s : State) : Out :=
  .next ((s.tick t).gated init 0x2C0 25 (value ||| (1#72 <<< 11)) (fun s => nibSelect s (value ||| (1#72 <<< 11))))

/-- NIB_DEBUG_RELEASE (R581). -/
def execNibDebugRelease (t init : Nat) (value : Word) (s : State) : Out :=
  .next ((s.tick t).gated init 0x2C0 25 (value ||| (1#72 <<< 12)) (fun s => nibSelect s (value ||| (1#72 <<< 12))))

/-! ### The JTAG port (R98, R569 to R571) -/

/-- Another instruction is loaded: the region of a scan is reset once more and released (R570). -/
def loadIr (s : State) (code : Nat) : State :=
  let s : State := { s with dbg := { s.dbg with ir := code } }
  match s.dbg.scan with
  | none => s
  | some b =>
    let s : State := { s with dbg := { s.dbg with scan := none }, pwr := { s.pwr with held := s.pwr.held.filter (fun x => x ≠ b) } }
    if b < 64 then ferResetEnd (ferResetStart s b) b else deskStart (deskReset s (b - 64)) (b - 64)

/-- An instruction of the boundary register; while ARMED is 1 it acts as SAMPLE/PRELOAD (R570). -/
def boundaryScan (s : State) (code dr : Nat) : State :=
  let s := loadIr s (if s.isSet F.CSN_ARMED then 1 else code)
  { s with dbg := { s.dbg with boundary := dr } }

/-- EXTEST (R569, R570). -/
def execExtest (t dr : Nat) (s : State) : Out := .next (boundaryScan (s.tick t) 0 dr)
/-- SAMPLE/PRELOAD (R569). -/
def execSamplePreload (t dr : Nat) (s : State) : Out := .next (boundaryScan (s.tick t) 1 dr)
/-- EXTEST_PULSE (R569, R570). -/
def execExtestPulse (t dr : Nat) (s : State) : Out := .next (boundaryScan (s.tick t) 2 dr)
/-- EXTEST_TRAIN (R569, R570). -/
def execExtestTrain (t dr : Nat) (s : State) : Out := .next (boundaryScan (s.tick t) 3 dr)

/-- The identification register (R569). -/
def idCode (s : State) : Nat := s.rd F.DEV_STEP % 16 * 2 ^ 28 + 0x0400 * 2 ^ 12 + 0x2C5 * 2 + 1

/-- IDCODE (R569). -/
def execIdcode (t : Nat) (s : State) : Out :=
  .next (let s := loadIr (s.tick t) 4
    { s with dbg := { s.dbg with out := idCode s } })

/-- BYPASS (R569): one bit between TDI and TDO. -/
def execBypass (t : Nat) (tdi : Bool) (s : State) : Out :=
  .next (let s := loadIr (s.tick t) 0xFF
    { s with dbg := { s.dbg with out := b2n tdi } })

/-- A scan of a region (R567, R570): reset, secrets, and its chains connected. -/
def scanRegion (s : State) (b : Nat) : State :=
  let s : State := { s with pwr := { s.pwr with held := (s.pwr.held.filter (fun x => x ≠ b)) ++ [b] }, dbg := { s.dbg with scan := some b } }
  if b < 64 then clearSecrets (ferResetStart s b) [b] [] else clearSecrets (deskReset s (b - 64)) [] [b - 64]

/-- SCANR (R569, R570): below level 2 the code selects BYPASS; a region without power is not scanned. -/
def execScanr (t : Nat) (sel : BitVec 8) (s : State) : Out :=
  .next (let s := s.tick t
    let b := sel.toNat
    if s.isSet F.CSN_ARMED then loadIr s 1
    else if s.rd F.BLT_LVL ≠ 2 ∨ 68 ≤ b then loadIr s 0xFF
    else
      let s := loadIr s 0x12
      let up := if b < 64 then decide (ferPower s b = 0) else decide (s.rd (F.PWR_DST (b - 64)) ≠ 3)
      if up then scanRegion s b else s)

/-- Seconds before the next challenge (R98, R591). -/
def challengeWait (s : State) : Nat := (s.dbg.waitEnd - s.devTime + 999999999) / 1000000000

/-- The number whose octet k is bits [8k+7:8k] (R571). -/
def lsbOctets (l : List Nat) : Nat := ofOctets l.reverse

/-- UNLOCK, OP 01h or 02h (R98, R571): a challenge of UID, nonce and level; all zeros during the wait. -/
def execUnlockRequest (t : Nat) (op : BitVec 8) (s : State) : Out :=
  .next (let s := loadIr (s.tick t) 0x10
    if op = 1 ∨ op = 2 then
      (if challengeWait s ≠ 0 then { s with dbg := { s.dbg with capture := 0, chal := none } }
       else
        let (nonce, s) := s.free 128
        let l := octetsOf (s.rd F.DEV_UID) 8 ++ octetsOf nonce.toNat 16 ++ [op.toNat]
        { s with dbg := { s.dbg with capture := lsbOctets l, chal := some (op.toNat, l) } })
    else s)

/-- Whether an answer is a signature of the challenge under the key whose hash is DBGH (R98). -/
def answerOk (s : State) (sigR sigS pubKey : Nat) : Bool :=
  match s.dbg.chal with
  | some (_, l) => decide (Config.sha384 (octetsOf pubKey 96) = s.otp.dbgh) && Config.ecdsaVerify pubKey (Config.sha384 l) sigR sigS
  | none => false

/-- UNLOCK, OP 03h (R98, R571). -/
def execUnlockAnswer (t sigR sigS pubKey : Nat) (s : State) : Out :=
  .next (let s := loadIr (s.tick t) 0x10
    let lvl := match s.dbg.chal with | some (l, _) => l | none => 0
    let ok := answerOk s sigR sigS pubKey
    let s : State := { s with dbg := { s.dbg with chal := none, capture := b2n (!ok) } }
    if ok then s.wr F.BLT_LVL lvl
    else
      let s : State := { s with dbg := { s.dbg with waitEnd := s.devTime + s.dbg.waitNext * 1000000000, waitNext := min (2 * s.dbg.waitNext) 64 } }
      (((s.bump F.BLT_NFAIL).wr F.BLT_UFAIL 1).wr F.BLT_WAIT (challengeWait s)).pageErr 0x2C0 0x11 18 0)

/-- The port is locked again (R571, R574). -/
def relock (s : State) : State :=
  let s := s.wr F.BLT_LVL 0
  if s.isSet F.BLT_ATTACH then detach s else s

/-- UNLOCK, OP 04h (R571). -/
def execUnlockRelock (t : Nat) (s : State) : Out := .next (relock (loadIr (s.tick t) 0x10))

/-- CHALLENGE_WAIT_EXPIRE (R98): the wait before the next challenge is over. -/
def execChallengeWaitExpire (t : Nat) (s : State) : Out :=
  .next (let s := s.tick t
    if challengeWait s = 0 then s.wr F.BLT_WAIT 0 else s)

/-! ### The blotter (R585 to R590) -/

/-- A word written at WPTR (R585); after a trigger, POST further words are written. -/
def blotWord (s : State) (w : Word) : State :=
  if s.isSet F.BLT_STOPPED then s
  else
    let p := s.rd F.BLT_WPTR
    let s : State := { s with blot := { s.blot with mem := tset s.blot.mem p w } }
    let s := s.wr F.BLT_WPTR (p + 1)
    let s := if p = 2 ^ 20 - 1 then { s.bump F.BLT_WRAPS with blot := { s.blot with syncNext := true } } else s
    match s.blot.post with
    | some (k + 1) => { (if k = 0 then s.wr F.BLT_STOPPED 1 else s) with blot := { s.blot with post := if k = 0 then none else some k } }
    | _ => s

/-- The header of a packet (R586). -/
def packetHeader (ty src dcyc payload : Nat) : Word :=
  BitVec.ofNat 72 (ty % 16 * 2 ^ 68 + src % 256 * 2 ^ 60 + dcyc % 4096 * 2 ^ 48 + payload % 2 ^ 48)

/-- The packet that is written next: the lowest stamp, then the lowest SRC (R587). -/
def nextPacket (s : State) : Option (Nat × Packet) :=
  s.blot.queues.foldl (fun (b : Option (Nat × Packet)) (e : Nat × List Packet) =>
    match e.2, b with
    | [], _ => b
    | p :: _, none => some (e.1, p)
    | p :: _, some (src, q) => if p.stamp < q.stamp ∨ (p.stamp = q.stamp ∧ e.1 < src) then some (e.1, p) else b) none

/-- The queue of a source has room again: the GAP of what it lost joins it (R587). -/
def owedGap (s : State) (src : Nat) : State :=
  let n := tget s.blot.lost src
  if n = 0 then s
  else
    let g : Packet := { ty := 9, payload := 1 + min n (2 ^ 36 - 1) * 2 ^ 12, stamp := s.devTime, ext := none }
    { s with blot := { s.blot with lost := tset s.blot.lost src 0, queues := tset s.blot.queues src (tget s.blot.queues src ++ [g]) } }

/-- The words of a packet, with the SYNC that comes before it (R585 to R587). -/
def writePacket (s : State) (src : Nat) (p : Packet) : State :=
  let sync := s.blot.syncNext || decide (s.blot.lastSync + 4096 ≤ p.stamp)
  let words := 1 + b2n p.ext.isSome + if sync then 2 else 0
  if s.isSet F.BLT_SMODE ∧ 2 ^ 20 < s.rd F.BLT_WPTR + words then (s.wr F.BLT_STOPPED 1).wr F.BLT_FULL 1
  else
    let s := if sync then blotWord (blotWord s (packetHeader 0 0xFF 0 0)) (timeWord p.stamp) else s
    let dcyc := if sync then 0 else p.stamp - s.blot.last
    let at' := s.rd F.BLT_WPTR
    let s : State := { s with blot := { s.blot with last := p.stamp, lastSync := if sync then p.stamp else s.blot.lastSync, syncNext := decide (p.ty = 9) } }
    let s := blotWord s (packetHeader p.ty src dcyc p.payload)
    let s := match p.ext with | some e => blotWord s e | none => s
    if p.ty = 0xD ∧ ¬ s.isSet F.BLT_TRIGD then
      let s := ((s.wr F.BLT_TRIGD 1).wr F.BLT_TRIGW at').wr F.BLT_TRIG 1
      let k := s.rd F.BLT_POST
      if k = 0 then s else { s with blot := { s.blot with post := some k } }
    else s

/-- BLOTTER_PACKET_WRITE (R585 to R587): the next queued packet is written. -/
def execBlotterPacketWrite (t : Nat) (s : State) : Out :=
  .next (let s := s.tick t
    if ¬ blotOn s then s
    else match nextPacket s with
      | none => s
      | some (src, p) =>
        let s : State := { s with blot := { s.blot with queues := tset s.blot.queues src ((tget s.blot.queues src).drop 1) } }
        owedGap (writePacket s src p) src)

/-- A write of a stimulus word (R590). -/
def stimWrite (s : State) (p : Nat) (value : Word) : State :=
  let s := s.wr (F.BLT_STIM p) value.toNat
  if bitOf (s.rd F.BLT_SEN) p then s.trace (0x80 + p) 8 0 (some value) else s

/-- BLOTTER_STIM_WRITE (R590). -/
def execBlotterStimWrite (t init port : Nat) (value : Word) (s : State) : Out :=
  .next ((s.tick t).gated init 0x2C0 (64 + port) value (fun s => stimWrite s port value))

/-- CLR and STOP of BLT_CTL (R591). -/
def blotClear (s : State) : State :=
  let s := (((s.wr F.BLT_WPTR 0).wr F.BLT_WRAPS 0).wr F.BLT_TRIGD 0).wr F.BLT_STOPPED 0
  { s with blot := { s.blot with post := none, syncNext := true } }

/-- BLOTTER_CLR (R591). -/
def execBlotterClr (t init : Nat) (s : State) : Out := .next ((s.tick t).gated init 0x2C0 8 8 blotClear)

/-- BLOTTER_STOP (R591). -/
def execBlotterStop (t init : Nat) (s : State) : Out := .next ((s.tick t).gated init 0x2C0 8 16 (fun s => s.wr F.BLT_STOPPED 1))

end Sys2Proof.Machine
end

