-- ==== Sys2Proof/Machine/Flags.lean ====
section
/-! DEFINITION. The flags of a nib (R281, R287, R288): setting from a result, saturation, the status register and the
conditions. -/

namespace Sys2Proof.Machine
open Sys2Proof

/-- Z and N from a 36-bit result (R287). -/
def Nib.setZN (b : Nib) (r : Half) : Nib := { b with fZ := decide (r = 0), fN := r.msb }

/-- Z and N from a 72-bit result (R287). -/
def Nib.setZN72 (b : Nib) (r : Word) : Nib := { b with fZ := decide (r = 0), fN := r.msb }

/-- V set by a saturation, otherwise left (R287). -/
def Nib.orV (b : Nib) (v : Bool) : Nib := { b with fV := b.fV || v }

/-- An exact integer held to the range of an accumulator, and whether it fell outside (R288). -/
def sat72 (i : Int) : Word × Bool :=
  if i < -(2 ^ 71 : Int) then (BitVec.ofInt 72 (-(2 ^ 71)), true)
  else if (2 ^ 71 : Int) - 1 < i then (BitVec.ofInt 72 (2 ^ 71 - 1), true)
  else (BitVec.ofInt 72 i, false)

/-- An exact integer held to the range of a d register, and whether it fell outside (R288). -/
def sat36 (i : Int) : Half × Bool :=
  if i < -(2 ^ 35 : Int) then (BitVec.ofInt 36 (-(2 ^ 35)), true)
  else if (2 ^ 35 : Int) - 1 < i then (BitVec.ofInt 36 (2 ^ 35 - 1), true)
  else (BitVec.ofInt 36 i, false)

/-- The status register (R287). -/
def Nib.st (b : Nib) : Nat :=
  b.fF.toNat + 2 * b.fZ.toNat + 4 * b.fN.toNat + 8 * b.fV.toNat + 16 * b.released.toNat + 32 * b.loops.length +
    128 * b.ret.length

/-- Whether a condition holds (R281). -/
def Nib.holds (b : Nib) (cond : BitVec 3) : Bool :=
  match cond.toNat with
  | 0 => true
  | 1 => b.fZ
  | 2 => !b.fZ
  | 3 => b.fN
  | 4 => !b.fN
  | 5 => b.fF
  | 6 => !b.fF
  | _ => b.fV

end Sys2Proof.Machine
end

