-- ==== Sys2Proof/Machine/Operands.lean ====
section
/-! DEFINITION. The operand forms of nib instructions: registers by code (R285, R286), X and Y addresses (R292), the
constant and scratch regions (R251, R253), the stack region (R294), windows (R257, R295, R296), and program parcels.
Decisions: log entries 12 (DEDUCED), 45 (DEDUCED). -/

namespace Sys2Proof.Machine
open Sys2Proof

/-- A half of an image of constants: half 2j is in bits 35 to 0 of word j, half 2j + 1 in bits 71 to 36 (R308). -/
def imageHalf (ws : List Word) (h : Nat) : Half := BitVec.ofNat 36 (getField (ws.getD (h / 2) 0) (36 * (h % 2)) 36)

/-- A parcel of a program image: parcel 5j + k is bits 14k + 13 to 14k of word j (R308). -/
def parcelAt (d : Descr) (a : Nat) : Nat := getField (d.prog.getD (a / 5) 0) (14 * (a % 5)) 14

/-- The parcel at an address of the program part has an opcode of no instruction, 1Dh to 1Fh (R280). -/
def noOpcode (d : Descr) (pc : Nat) : Bool := decide (pc < d.plen) && decide (0x1D ≤ bitsOf (parcelAt d pc) 6 5)

/-- Whether the instruction with a first parcel has an extension (R278, R289). -/
def parcelExt (par : Nat) : Bool :=
  let op := bitsOf par 6 5
  let operand := par % 64
  if op ∈ [1, 2, 3, 4, 5, 6, 0xF, 0x10, 0x17, 0x1A, 0x1B, 0x1C] then true
  else if op = 0x11 ∨ op = 0x13 then decide (6 ≤ operand % 8)
  else if op = 0x12 ∨ op = 0x14 then decide (operand % 8 = 6)
  else op == 0x19 && decide (2 ≤ operand % 4)

/-- The cycles of the instruction with a first parcel (R289, R290). -/
def parcelCycles (par : Nat) : Nat :=
  let op := bitsOf par 6 5
  if op = 0 then (if par % 64 = 3 then 2 else 1)
  else if op ≤ 3 then 2
  else if op = 0x1B ∨ op = 0x1C then 6 else 1

/-- A half of X as the running program reads it: constants, then scratch, which reads 0 until written (R251, R253). -/
def readX (c : RunCtx) (b : Nib) (a : Nat) : Half :=
  if a < c.x.desc.xcon' then imageHalf c.x.desc.xcon a else tget b.x a

/-- A half of Y as the running program reads it. -/
def readY (c : RunCtx) (b : Nib) (a : Nat) : Half :=
  if a < c.x.desc.ycon' then imageHalf c.x.desc.ycon a else tget b.y a

/-- The stack region: its low bound and its top (R294). -/
def stackLow (c : RunCtx) : Nat := c.x.desc.xlen - c.x.desc.xstk
def stackTop (c : RunCtx) : Nat := c.x.desc.xlen - 1

/-- A register read as 36 bits (R285, R287). -/
def Nib.reg (b : Nib) (code : Nat) : Half :=
  if code < 8 then tget b.d code
  else if code < 0xE then BitVec.ofNat 36 (tget b.a (code - 8))
  else if code < 0x10 then BitVec.ofInt 36 (signedOf (tget b.m (code - 0xE)) 14)
  else if code = 0x10 then BitVec.ofNat 36 b.sp
  else if code = 0x11 then BitVec.ofNat 36 (tget b.lc 0)
  else if code = 0x12 then BitVec.ofNat 36 (tget b.lc 1)
  else if code = 0x13 then (tget b.acc 0).extractLsb' 0 36
  else if code = 0x14 then (tget b.acc 0).extractLsb' 36 36
  else if code = 0x15 then (tget b.acc 1).extractLsb' 0 36
  else if code = 0x16 then (tget b.acc 1).extractLsb' 36 36
  else if code = 0x17 then BitVec.ofNat 36 b.st
  else 0

/-- Whether a full code may be written (R285). -/
def codeWritable (code : Nat) : Bool := decide (code < 0x11) || (decide (0x13 ≤ code) && decide (code ≤ 0x16))

/-- An accumulator written. -/
def Nib.setAcc (b : Nib) (i : Nat) (v : Word) : Nib := { b with acc := tset b.acc i v }

/-- A register written from 36 bits (R285, R286). -/
def Nib.setReg (b : Nib) (code : Nat) (v : Half) : Nib :=
  if code < 8 then { b with d := tset b.d code v }
  else if code < 0xE then { b with a := tset b.a (code - 8) (v.toNat % 2 ^ 13) }
  else if code < 0x10 then { b with m := tset b.m (code - 0xE) (v.toNat % 2 ^ 14) }
  else if code = 0x10 then { b with sp := v.toNat % 2 ^ 13 }
  else if code = 0x13 then b.setAcc 0 ((tget b.acc 0).extractLsb' 36 36 ++ v)
  else if code = 0x14 then b.setAcc 0 (v ++ (tget b.acc 0).extractLsb' 0 36)
  else if code = 0x15 then b.setAcc 1 ((tget b.acc 1).extractLsb' 36 36 ++ v)
  else if code = 0x16 then b.setAcc 1 (v ++ (tget b.acc 1).extractLsb' 0 36)
  else b

/-- Post-modify of an address register by a modifier (R286). -/
def Nib.postMod (b : Nib) (a m : Nat) : Nib :=
  { b with a := tset b.a a ((((tget b.a a : Nat) : Int) + signedOf (tget b.m m) 14) % 8192).toNat }

/-- The address of an X or Y access by its mode (R292). -/
def memAddr (b : Nib) (mode ext : Nat) : Nat :=
  if mode < 6 then tget b.a mode else if mode = 6 then ext % 2 ^ 13 else b.sp + ext % 2 ^ 13

/-- The offset that IN and OUT give (R296). -/
def winOffset (b : Nib) (win : Nat) (x : Bool) (ext : Nat) : Nat :=
  if win = 3 then tget b.a 4 else ext + (if x then tget b.a 5 else 0)

/-- The subcode of a window access that is out of range (R257, R296). -/
def winRange (s : State) (c : RunCtx) (b : Nib) (win : Nat) (x : Bool) (ext : Nat) : Option Nat :=
  let o := winOffset b win x ext
  let bad := match win with
    | 0 => decide (4 < o)
    | 1 => decide (c.x.desc.sw ≤ o)
    | 2 => decide (c.x.desc.nout ≤ o)
    | _ => decide (c.x.desc.nb ≤ ext % 256) || decide (c.x.desc.hist < ext / 256 % 64) ||
        decide ((s.ring c.f (c.x.subs.getD (ext % 256) 0)).words < o)
  if bad then some 3 else none

/-- The ring that a run reads: the old one until the changeover (R314). -/
def ringNow (r : Ring) : Nat × Nat × Nat :=
  match r.old with
  | some o => o
  | none => (r.addr, r.depth, r.words)

/-- The inkwell address of a window word (R230, R257, R259). -/
def winAddr (s : State) (c : RunCtx) (b : Nib) (win : Nat) (x : Bool) (ext : Nat) : Nat :=
  let o := winOffset b win x ext
  match win with
  | 0 => c.p.hdr + o
  | 1 =>
    let i := c.p.smap + o
    c.p.st + 2 * o + (if smapPend s c.f i then 1 - smapSel s c.f i else smapSel s c.f i)
  | 2 => c.p.out + o
  | _ =>
    let r := ringNow (s.ring c.f (c.x.subs.getD (ext % 256) 0))
    r.1 + ((((b.stroke : Int) - (ext / 256 % 64 : Nat)) % (max r.2.1 1 : Nat)).toNat) * (1 + r.2.2) + o

/-- The value of a window word (R258, R297). -/
def winRead (s : State) (c : RunCtx) (b : Nib) (win : Nat) (x : Bool) (ext : Nat) : Word :=
  if win = 2 then tget b.out (winOffset b win x ext) else s.ink c.f (winAddr s c b win x ext)

/-- The register side of IN and OUT (R295). -/
def Nib.pair (b : Nib) (data : Nat) : Word :=
  if data < 4 then tget b.d (2 * data + 1) ++ tget b.d (2 * data) else tget b.acc (data - 4)
def Nib.setPair (b : Nib) (data : Nat) (w : Word) : Nib :=
  if data < 4 then (b.setReg (2 * data) (w.extractLsb' 0 36)).setReg (2 * data + 1) (w.extractLsb' 36 36)
  else b.setAcc (data - 4) w

end Sys2Proof.Machine
end

