-- ==== Sys2Proof/Machine/Sregs.lean ====
section
/-! DEFINITION. The registers of a core: general registers (R369), system registers (R368, R400 to R402, R430, R536), the
flush of its predictors (R382), and their view by the debugger (R578).
Decisions: log entries 20 (DEDUCED), 45 (DEDUCED). -/

namespace Sys2Proof.Machine
open Sys2Proof

/-- A general register; g0 reads 0 (R369). -/
def State.g (s : State) (n i : Nat) : Word := if i = 0 then 0 else tget (s.scribe n).g i

/-- A general register written; a write to g0 is discarded (R369). -/
def State.setG (s : State) (n i : Nat) (v : Word) : State :=
  if i = 0 then s else s.modScribe n (fun c => { c with g := tset c.g i v })

/-- A system register: number, lowest level that reads it, lowest level that writes it (3: none), and its bits. -/
structure SregRow where
  num : Nat
  rd : Nat
  wr : Nat
  mask : Word
  deriving DecidableEq, Repr

def allOnes : Word := 0xFFFFFFFFFFFFFFFFFF#72
def stackMask : Word := 0xFFFFFFFFFFFFFFFFC0#72
def vectorMask : Word := 0xFFFFFFFFFFFFFFF000#72
def rootMask : Word := 0xFFFFFFFF0000#72

/-- The system registers of a scribe (R402, R430). -/
def scribeSregs : List SregRow :=
  [⟨0x000, 0, 1, 0x7F#72⟩, ⟨0x001, 1, 1, stackMask⟩, ⟨0x002, 1, 1, stackMask⟩, ⟨0x003, 1, 1, vectorMask⟩,
   ⟨0x004, 2, 2, stackMask⟩, ⟨0x005, 2, 2, stackMask⟩, ⟨0x006, 2, 2, vectorMask⟩, ⟨0x007, 1, 2, 0x1F#72⟩,
   ⟨0x009, 1, 3, 0#72⟩, ⟨0x00A, 3, 1, 0#72⟩, ⟨0x00B, 1, 1, allOnes⟩, ⟨0x00C, 3, 1, 0#72⟩,
   ⟨0x010, 0, 0, 0xFF#72⟩, ⟨0x011, 1, 1, allOnes⟩, ⟨0x012, 2, 2, allOnes⟩,
   ⟨0x020, 1, 1, 1#72⟩, ⟨0x021, 1, 1, 0xFFFFFFFFFFFF#72⟩, ⟨0x022, 2, 2, 3#72⟩, ⟨0x023, 2, 2, 0xFFFFFFFF0FFF#72⟩,
   ⟨0x024, 2, 2, rootMask⟩]

/-- The system registers of the management controller (R530, R536). -/
def mcSregs : List SregRow :=
  [⟨0x000, 2, 2, 0x7F#72⟩, ⟨0x004, 2, 2, stackMask⟩, ⟨0x005, 2, 2, stackMask⟩, ⟨0x006, 2, 2, vectorMask⟩,
   ⟨0x012, 2, 2, allOnes⟩, ⟨0x030, 2, 2, 0xFFFFFFFFFFFFFFFF#72⟩, ⟨0x031, 2, 2, 0xFFFFFFFFFFFFFFFF#72⟩,
   ⟨0x032, 2, 3, 0#72⟩, ⟨0x033, 2, 3, 0#72⟩, ⟨0x034, 2, 3, 0#72⟩]

/-- The row of a system register of a core; none for an unlisted number. -/
def sregRow (core n : Nat) : Option SregRow := (if core = 32 then mcSregs else scribeSregs).find? (fun r => r.num == n)

/-- The value of a system register; IACK, IEOI and SWI, which are actions, show 0 here. -/
def sregValue (s : State) (core n : Nat) : Word :=
  let c := s.scribe core
  if n = 0 then c.status else if n = 7 then c.hctl
  else if core = 32 ∧ n = 0x030 then tget c.sr n ||| 0x1FFFFFFFF#72
  else if n = 0x032 then mcPendingWord s false
  else if n = 0x033 then mcPendingWord s true
  else if n = 0x034 then BitVec.ofNat 72 ((mcBest s).getD 0xFF)
  else tget c.sr n

/-- All predictor state is flushed (R382). -/
def flushPred (s : State) (n : Nat) : State :=
  let s := s.modScribe n (fun c => { c with itab := [], hist := [], rstack := [] })
  if n < 32 then s.bump (F.DSK_PFLUSH n) else s

/-- STATUS takes a value: a change of level flushes the predictors (R382), and trace of code leaves off on entry into a level
that is not authorised (R588). -/
def setStatus (s : State) (n : Nat) (v : Word) : State :=
  let old := scribeLevel (s.scribe n)
  let new := getField v 0 2
  let s := if old ≠ new ∧ scribeTraced s n ∧ traceAllowed s old ∧ ¬ traceAllowed s new then (flushBrh s n).trace (coreSrc n) 9 0 none
    else s
  let s := s.modScribe n (fun c => { c with status := v &&& 0x7F#72 })
  showLevel (if old ≠ new then flushPred s n else s) n

/-- A system register takes a value, in the bits it has (R400, R402, R430, R536); a change of ASID or VMID flushes the
predictors. -/
def sregPut (s : State) (core n : Nat) (v : Word) : State :=
  match sregRow core n with
  | none => s
  | some r =>
    if r.wr = 3 ∨ n = 0x00A ∨ n = 0x00C then s
    else if n = 0 then setStatus s core v
    else if n = 7 then s.modScribe core (fun c => { c with hctl := v &&& r.mask })
    else
      let old := tget (s.scribe core).sr n
      let new := v &&& r.mask
      let s := s.modScribe core (fun c => { c with sr := tset c.sr n new })
      if (n = 0x021 ∧ getField old 0 16 ≠ getField new 0 16) ∨ (n = 0x023 ∧ getField old 0 12 ≠ getField new 0 12) then flushPred s core
      else s

/-- DBG_SRVAL as it reads (R578). -/
def srval (s : State) : Word :=
  let tgt := s.rd F.BLT_TGT
  let n := s.rd F.BLT_NUM
  if 32 < tgt ∨ ¬ coreHalted s tgt then 0
  else if s.rd F.BLT_KIND_23 = 0 then (if n < 32 then s.g tgt n else 0)
  else if n = 0x3FF then BitVec.ofNat 72 (s.scribe tgt).pc
  else if (sregRow tgt n).isSome then sregValue s tgt n else 0

/-- A write of DBG_SRVAL (R578). -/
def srvalWrite (s : State) (v : Word) : State :=
  let no := s.ignored 0x2C0 24 7
  let tgt := s.rd F.BLT_TGT
  let n := s.rd F.BLT_NUM
  if 32 < tgt ∨ ¬ coreHalted s tgt then no
  else if s.rd F.BLT_KIND_23 = 0 then (if n < 32 then s.setG tgt n v else s)
  else if n = 0x3FF then (if getField v 0 2 ≠ 0 then no else s.modScribe tgt (fun c => { c with pc := getField v 0 48 }))
  else if n = 0 ∧ (getField v 0 2 = 3 ∨ (tgt = 32 ∧ getField v 0 2 ≠ 2)) then no
  else sregPut s tgt n v

/-- DEBUG_REG_WRITE (R578). -/
def execDebugRegWrite (t init : Nat) (value : Word) (s : State) : Out :=
  .next ((s.tick t).gated init 0x2C0 24 value (fun s => srvalWrite s value))

/-- NIB_DVAL (R580): the register, X or Y half that NIB_DSEL names, of a halted nib. None where a half is asked for that no
constant covers and that the halted run did not hold. -/
def dval (s : State) : Option Word :=
  let f := s.rd F.BLT_FER
  let n := s.rd F.BLT_NIB_25
  let a := s.rd F.BLT_ADDR
  let b := s.nib f n
  let sp := s.rd F.BLT_SPACE
  let half (isX : Bool) : Option Word :=
    ([0, 1, 2, 3].filterMap (fun k => match slotCtx s f n k with
      | some c =>
        let base := if isX then c.p.x else c.p.y
        let len := if isX then c.x.desc.xlen else c.x.desc.ylen
        let con := if isX then c.x.desc.xcon' else c.x.desc.ycon'
        if base ≤ a ∧ a < base + len ∧ (k = b.slot ∨ a - base < con) then
          some (BitVec.ofNat 72 (if isX then readX c b (a - base) else readY c b (a - base)).toNat) else none
      | none => none)).head?
  if 18 ≤ n ∨ s.rd (F.FER_NST f n) ≠ 2 then some 0
  else if sp = 0 then some (BitVec.ofNat 72 (if a = 0x18 then b.pc else (b.reg a).toNat))
  else if sp = 1 then half true else if sp = 2 then half false else some 0

end Sys2Proof.Machine
end

