-- ==== Sys2Proof/Machine/Reset.lean ====
section
/-! DEFINITION. Start-up and reset (R603 to R613, R625): supplies, power-on reset, chip reset, the seal of a shutdown, and the
reset of a ferrule.
Decisions: log entries 7 (DESIGN CHOICE), 76 (DEDUCED). -/

namespace Sys2Proof.Machine
open Sys2Proof

/-! ### Supplies and power-on reset (R603, R604) -/

/-- Words of the AON domain that VBAT holds: the shelf timer (R559). -/
def shelfWord (a : Nat) : Bool := decide (a = F.BST_SHELF.addr)

/-- The machine in power-on reset, or without supply (R100, R604, R610, R621, R625): every field at its reset value, device time 0;
OTP, fuses, the flash with its record and the shelf timer remain, and so does what stands at the inputs. -/
def coldState (s : State) (phase : Nat) : State :=
  let r := State.reset
  { r with
    pending := s.pending, now := s.now, phase := phase, freeCtr := s.freeCtr, otp := s.otp
    regs := s.regs.filter (fun e => shelfWord e.1)
    tim := { r.tim with baseAt := s.now }
    ports := s.ports.foldl (fun (t : Tbl Port) (e : Nat × Port) => tset t e.1 { ({} : Port) with sig := e.2.sig }) []
    trips := s.trips.foldl (fun (t : Tbl Trip) (e : Nat × Trip) => tset t e.1 { ({} : Trip) with ball := e.2.ball }) []
    mcu := { r.mcu with flash := s.mcu.flash }
    bst := { r.bst with stored := s.bst.stored, fused := s.bst.fused, shelfAt := s.bst.shelfAt } }

/-- OTP is loaded, and the fused repairs take effect (R73, R558, R604). -/
def loadOtp (s : State) : State :=
  showFuses (((s.wr F.DEV_UID s.otp.uid).wr F.DEV_STEP s.otp.step).wr F.DEV_GRADE s.otp.grade)

/-- SUPPLY_AON_GOOD (R603, R604): with VDD_AON within its limits and POR_N low the device is in power-on reset. -/
def execSupplyAonGood (t : Nat) (s : State) : Out :=
  .next (let s := s.tick t
    if s.phase = 3 then { s with phase := 2 } else s)

/-- POWER_ON_RESET (R604): POR_N is low. -/
def execPowerOnReset (t : Nat) (s : State) : Out :=
  .next (let s := s.tick t
    if s.phase = 3 then s else coldState s 2)

/-- The boot ROM after a reset (R94, R560, R605): the image, then the record; a boot failure ends the boot. -/
def boot (s : State) (fails : List TestElement) (failed : Nat) : State :=
  match bootVerify { s with phase := 0 } with
  | (true, s) => bootDecision s fails
  | (false, s) => { s with phase := failed }

/-- POWER_ON_RESET_END (R604, R605): POR_N rises. -/
def execPowerOnResetEnd (t : Nat) (fails : List TestElement) (s : State) : Out :=
  .next (let s := s.tick t
    if s.phase = 2 then boot (loadOtp { s with tim := { s.tim with baseAt := s.now } }) fails 4 else s)

/-- POWER_LOSS (R184, R345, R625): nothing is sent and no output is driven. -/
def execPowerLoss (t : Nat) (s : State) : Out :=
  .next (let s := s.tick t
    coldState s 3)

/-! ### Chip reset (R610, R611) -/

/-- The ruler in a chip reset (R611): a busy command is refused; every function is free and its index's generation advances; flows
and slot tables are clear; every nib is in service, nibs 16 and 17 as spares. -/
def rulChipReset (s : State) : State :=
  let s := if s.rd (F.DBL_STATE 4) = 1 then s.complete 4 3 0x21 0 else s
  let live := liveFns s
  let s := live.foldl fnFree s
  let idle := (List.range 4096).filter (fun i => !(live.contains i))
  let s := idle.foldl (fun s i => s.bumpGen 3 i) s
  let s := s.setFlows []
  let s := { s with rul := { ({} : Rul) with fresh := s.rul.fresh }, tens := s.tens.foldl (fun (t : Tbl Ten) (e : Nat × Ten) => tset t e.1 { e.2 with cmds := [] }) [] }
  let s := ((s.setWord F.RUL_HCMD.addr 0).setWord F.RUL_HALL.addr 0).wr F.RUL_RBUSY 0
  let s := s.resetWords (F.RUL_SVC 0).addr 64
  (List.range 64).foldl (fun s f =>
    (List.range 18).foldl (fun s n => (s.wr (F.FER_NST f n) 0).wr (F.FER_PBANK f n) 0) s) s

/-- The ferrules in a chip reset: those that run enter reset; a parked one keeps its state of power (R610). -/
def fersChipReset (s : State) : State :=
  let s := (List.range 64).foldl (fun s f =>
    if s.rd (F.FER_FSTATE f) = 2 ∨ s.rd (F.FER_FSTATE f) = 3 then ferResetStart s f
    else if s.rd (F.FER_FSTATE f) = 1 then ferClear s f else s) s
  { s with ferrules := s.ferrules.foldl (fun (t : Tbl Ferrule) (e : Nat × Ferrule) => tset t e.1 { e.2 with smap := [] }) [] }

/-- The queue pairs are freed (R529). -/
def qpsFree (s : State) : State :=
  (List.range 64).foldl (fun s q =>
    if s.rd (F.TEN_QSTATE q) = 0 then s
    else ((s.resetWords ((0x4200 + q) * 512 + 192) 4).resetWords (F.TEN_TAIL (2 * q)).addr 2).bumpGen 6 q) s

/-- The management controller in a chip reset (R605, R610). -/
def mcChipReset (s : State) : State :=
  let s := { s with mcu := { s.mcu with sram := [], btb := [], bufs := [], req := none, next := none, cur := 0, wp := false, tick := false } }
  ((pwrAbandon s).wr F.MCB_MREM (s.rd F.MCB_MPER)).setScribe 32 (default : Scribe)

/-- A chip reset starts (R86, R342, R356, R571, R610, R611). -/
def chipResetStart (s : State) : State :=
  let frozen := (List.range 4).any (fun c => s.rd (F.DMC_STATE c) = 3)
  let s := (List.range 64).foldl schedCancel (csnChipReset s)
  let s : State := { s with phase := 1, dbg := { s.dbg with chal := none } }
  let s := mcChipReset (relock (signoffAll s))
  let s := if s.rd (F.DBL_STATE 0x2B0) = 1 then { s with bst := { s.bst with running := false } }.complete 0x2B0 3 0 0 else s
  let s := rulChipReset (fersChipReset s)
  let s := (List.range 64).foldl routerReset s
  let s := (List.range 4).foldl (fun s d => (List.range 8).foldl (fun s i => s.wr (F.DSK_RUN (8 * d + i)) 0) (deskReset s d)) s
  let s := (List.range 4).foldl (fun s d => (List.range 8).foldl (fun s i => s.resetWords ((0x200 + 8 * d + i) * 512 + 9) 1) s) s
  let s := (List.range 4).foldl (fun s p => (s.headerReset (0x240 + p)).resetWords ((0x240 + p) * 512 + 8) 504) s
  let s := pcieDown (uplinksDown (dmaReset (dramReset s)))
  let s := if frozen then s.dramLose else s
  let s := (s.headerReset 0x2E0).resetWords (0x2E0 * 512 + 8) 504
  qpsFree { s with icu := {}, dpx := {} }

/-- CHIP_RESET (R611): RESET_N is low. A device in SHUTDOWN leaves it (R551); POR_N takes precedence (R613). -/
def execChipReset (t : Nat) (s : State) : Out :=
  .next (let s := s.tick t
    if 1 ≤ s.phase ∧ s.phase ≤ 3 then s
    else
      let s := chipResetStart s
      { s.wr F.PWR_DEVST (if s.rd F.PWR_DEVST = 2 then 0 else s.rd F.PWR_DEVST) with bst := { s.bst with tested := false } })

/-- The blocks leave a chip reset: ferrules that a reset or a scan does not hold run again; the PCIE_EP ball is sampled (R611, R612,
R614). -/
def chipResetLeave (s : State) : State :=
  let s := (List.range 64).foldl ferResetEnd s
  s.wrb F.PCI_EP s.otp.epStrap

/-- CHIP_RESET_END (R605, R611, R614). -/
def execChipResetEnd (t : Nat) (fails : List TestElement) (s : State) : Out :=
  .next (let s := s.tick t
    if s.phase = 1 then boot (chipResetLeave { s with phase := 0 }) fails 5 else s)

/-- SEAL (R556, R568): the device goes through a chip reset into the record phase, and stays in SHUTDOWN. -/
def sealRecord (s : State) : State :=
  if s.rd F.PWR_DEVST ≠ 2 then s.refuse 0x2B0 1 2
  else if ¬ s.bst.tested then s.refuse 0x2B0 1 3
  else
    let r := newRecord s
    recordPhase (chipResetLeave (chipResetStart (s.complete 0x2B0 0 0 0))) r

/-- SEAL (R556, R557). -/
def execSeal (t init seq : Nat) (s : State) : Out :=
  .next ((s.tick t).gatedCmd init 0x2B0 seq 3 0 (fun s => bstBell s init seq 3 sealRecord))

/-! ### The reset of a ferrule (R275, R612) -/

/-- FERRULE_RESET (R275): a running ferrule enters reset. -/
def execFerruleReset (t ferrule : Nat) (s : State) : Out :=
  .next (let s := s.tick t
    if ferrule < 64 ∧ s.rd (F.FER_FSTATE ferrule) = 2 then ferResetStart s ferrule else s)

/-- FERRULE_RESET_END (R275, R612): the reset is over, unless BRESET or a scan holds the ferrule. -/
def execFerruleResetEnd (t ferrule : Nat) (s : State) : Out :=
  .next (let s := s.tick t
    if ferrule < 64 ∧ s.phase ≠ 1 then ferResetEnd s ferrule else s)

end Sys2Proof.Machine
end

