-- ==== Sys2Proof/Machine/DmaCtl.lean ====
section
/-! DEFINITION. DMA channels (R490 to R493, R501, R503 to R506): their commands, requests, errors, and the settling of stops.
Decisions: log entries 33 (DEDUCED), 65 (DEDUCED). -/

namespace Sys2Proof.Machine
open Sys2Proof

/-- DMA_EEVT (R506). -/
def dmaEevt : Fld := fldAt (0x270 * 512 + 23) 0 32

/-- Whether a range of bytes lies inside one window (R493, R510). -/
def inWindow (w : Word) (addr len : Nat) : Bool :=
  let base := getField w 0 32 * 4096
  let top := base + getField w 32 32 * 4096
  decide (base ≤ addr) && decide (addr + len ≤ top) && decide (base < top)

/-- Whether a channel may access a range of bytes (R493). -/
def dmaAllowed (s : State) (n addr len : Nat) : Bool :=
  decide (s.rd (F.DMB_OWNER n) = 0) ||
    (List.range 4).any (fun j => inWindow (BitVec.ofNat 72 (s.rd (F.DMA_VWIN n j))) addr len)

/-- A channel that runs and moves no burst shows whether it waits (R503). -/
def dmaShowWait (s : State) (n : Nat) : State :=
  s.wrb (F.DMB_WAIT n) (decide (s.rd (F.DMB_CST n) = 2) && !(s.dmaChan n).busy && !dmaRequest s n)

/-- A write of DMA_SWREQ (R503). -/
def swreqWrite (s : State) (v : Nat) : State := dmaWithdraw (s.wr F.DMA_SWREQ v)

/-- CEVT at DONE and STOPPED (R506). -/
def dmaEvent (s : State) (n : Nat) : State := if dmaCfg s n 44 1 = 1 then s.setBit F.DMA_CEVT n else s

/-- A channel stops with an error (R501): what it met first is shown and captured. -/
def dmaFail (s : State) (n : Nat) (e : DmaErr) : State :=
  let s := [(F.DMB_CST n, 5), (F.DMB_WAIT n, 0), (F.DMB_ERR n, e.code), (F.DMB_BCODE n, e.bcode), (F.DMB_EDESC n, e.desc),
    (F.DMB_DSIDE n, b2n e.dst), (F.DMB_EDATA n, e.addr)].foldl (fun s (x : Fld × Nat) => s.wr x.1 x.2) s
  (s.wr dmaEevt (setBitN (s.rd dmaEevt) n)).pageErr 0x270 0x10 23 (n + e.code * 32)

/-- A channel is freed and its generation advances (R491). -/
def dmaFree (s : State) (n : Nat) : State :=
  let s := s.resetWords (F.DMA_VCFG n).addr 5
  let s := [8, 40, 72, 104, 136].foldl (fun s w => s.resetWords (0x271 * 512 + w + n) 1) s
  (s.setDma n {}).bumpGen 5 n

/-- The channel has nothing under way (R505): a stop that waits is done. -/
def dmaStopped (s : State) (n : Nat) : State :=
  let stop := (s.dmaChan n).stop
  if stop = 0 then s
  else
    let s := if s.rd (F.DMB_CST n) = 3 then dmaEvent (s.wr (F.DMB_CST n) 6) n else s
    let s := (s.setDma n { s.dmaChan n with stop := 0 }).wr (F.DMB_WAIT n) 0
    if stop ≤ 2 then s.complete 0x270 0 0 0 else s

/-- A stop asked of a running channel (R505): a channel without a burst stops at once. -/
def dmaStop (s : State) (n how : Nat) : State :=
  let s := (s.wr (F.DMB_CST n) 3).wr (F.DMB_WAIT n) 0
  let s := s.setDma n { s.dmaChan n with stop := how }
  if (s.dmaChan n).busy then s else dmaStopped s n

/-- The kind and range of the engine's handles (R490). -/
def dmaHandles : HandleSpec := { kind := 5, count := 32, slot := fun i => i }

/-- Checks 4 to 7 of a channel's handle (R67, R490, R528). -/
def dmaHandleCheck (s : State) (init handle : Nat) : Option Nat :=
  match handleCheck s dmaHandles handle (fun n => s.rd (F.DMB_OWNER n) = initTenant s init || initTenant s init = 0) with
  | some r => some r
  | none =>
    let n := handle % 2 ^ 20
    if s.rd (F.DMB_CST n) = 0 ∨ s.rd (F.TEN_TSTATE (s.rd (F.DMB_OWNER n))) = 3 then some 7 else none

/-- Whether a field of ARG0 is invalid (R492, R508). -/
def dmaArgBad (s : State) : Bool :=
  let xf := s.rd F.DMA_XF
  let req := s.rd F.DMA_REQ
  let ledger := decide (0x40 ≤ req) && decide (req < 0x80)
  decide (6 < xf) || (s.isSet F.DMA_FORM && decide (xf ≠ 1) && decide (xf ≠ 2)) ||
    (decide (1 < req) && !ledger) || (s.isSet F.DMA_ADV && !ledger) ||
    decide (s.rd F.DMA_BURST = 0) || decide (128 < s.rd F.DMA_BURST) ||
    decide (s.rd (F.TEN_TSTATE (s.rd F.DMA_OWNER)) ≠ 1)

/-- A window argument reaches beyond the 44-bit space (R493). -/
def winBeyond (w : Word) : Bool :=
  decide (getField w 32 32 ≠ 0) && decide (2 ^ 32 < getField w 0 32 + getField w 32 32)

/-- The argument words of the page. -/
def dmaArg (s : State) (k : Nat) : Word := s.word (0x270 * 512 + 10 + k)

/-- CREATE (R491 to R493). -/
def dmaCreate (s : State) (init : Nat) : State :=
  if ¬ hostScribe s init then s.refuse 0x270 1 5
  else match findBelow (fun n => decide (s.rd (F.DMB_CST n) = 0)) 32 with
    | none => s.refuse 0x270 1 1
    | some n =>
      if dmaArgBad s then s.refuse 0x270 1 2
      else if (List.range 4).any (fun j => winBeyond (dmaArg s (1 + j))) then s.refuse 0x270 1 3
      else
        let s := (s.setDma n {}).wr (F.DMA_VCFG n) (getField (dmaArg s 0) 0 45)
        let s := (List.range 4).foldl (fun s j => s.wr (F.DMA_VWIN n j) (getField (dmaArg s (1 + j)) 0 64)) s
        let s := (s.wr (F.DMB_CST n) 1).wr (F.DMB_OWNER n) (dmaCfg s n 40 4)
        s.complete 0x270 0 0 (s.handle 5 n n)

/-- START (R491, R495, R503): the counters and the CRC are cleared, the lists begin, and the request is evaluated. -/
def dmaStart (s : State) (n : Nat) : State :=
  let src := getField (dmaArg s 0) 0 44
  let dst := getField (dmaArg s 1) 0 44
  let crc := if dmaXf s n = 1 ∨ dmaXf s n = 2 then 2 ^ 32 - 1 else 0
  let s := (s.resetWords (0x271 * 512 + 104 + n) 1).resetWords (0x271 * 512 + 136 + n) 1
  let s := (((s.wr (F.DMB_CRC n) crc).wr (F.DMB_ERR n) 0).wr (F.DMB_BCODE n) 0).wr (F.DMB_CST n) 2
  let s := s.setDma n { src := { next := src }, dst := { next := dst }, crc := crc }
  let s := if src % 8 ≠ 0 then dmaFail s n { code := 2, desc := src }
    else if dst % 8 ≠ 0 then dmaFail s n { code := 2, desc := dst, dst := true }
    else dmaShowWait s n
  s.complete 0x270 0 0 0

/-- A doorbell of page 270h (R491). -/
def dmaBell (s : State) (init seq opc handle : Nat) : State :=
  let late (s : State) : Option Nat :=
    if opc = 1 then (if handle ≠ 0 then some 4 else none) else dmaHandleCheck s init handle
  match s.doorbell 0x270 seq opc handle late with
  | (s, false) => s
  | (s, true) =>
    let n := handle % 2 ^ 20
    let cst := s.rd (F.DMB_CST n)
    let live := decide (cst = 2) || decide (cst = 3)
    if opc = 1 then dmaCreate s init
    else if opc = 2 then (if live then s.refuse 0x270 1 4 else (dmaFree s n).complete 0x270 0 0 0)
    else if opc = 3 then (if live then s.refuse 0x270 1 4 else dmaStart s n)
    else if live then dmaStop s n (if getField (dmaArg s 0) 0 1 = 1 then 2 else 1)
    else s.complete 0x270 0x80 0 0

/-- DMA_CREATE (R491). -/
def execDmaCreate (t init seq handle : Nat) (s : State) : Out :=
  .next ((s.tick t).gatedCmd init 0x270 seq 1 handle (fun s => dmaBell s init seq 1 handle))
/-- DMA_DESTROY (R491). -/
def execDmaDestroy (t init seq handle : Nat) (s : State) : Out :=
  .next ((s.tick t).gatedCmd init 0x270 seq 2 handle (fun s => dmaBell s init seq 2 handle))
/-- DMA_START (R491, R495). -/
def execDmaStart (t init seq handle : Nat) (s : State) : Out :=
  .next ((s.tick t).gatedCmd init 0x270 seq 3 handle (fun s => dmaBell s init seq 3 handle))
/-- DMA_STOP (R505). -/
def execDmaStop (t init seq handle : Nat) (s : State) : Out :=
  .next ((s.tick t).gatedCmd init 0x270 seq 4 handle (fun s => dmaBell s init seq 4 handle))

end Sys2Proof.Machine
end

