-- ==== Sys2Proof/Machine/Ten.lean ====
section
/-! DEFINITION. Tenants (R507 to R529): activation, queue pairs, freezing, export and import, resuming, and the reset of a
tenant.
Decisions: log entries 66 (DEDUCED), 67 (DESIGN CHOICE). -/

namespace Sys2Proof.Machine
open Sys2Proof

def tenArg (s : State) (k : Nat) : Word := s.word (0x2D0 * 512 + 10 + k)
def State.ten (s : State) (t : Nat) : Ten := tget s.tens t
def State.setTen (s : State) (t : Nat) (x : Ten) : State := { s with tens := tset s.tens t x }

/-- The device time that a written instant names, in ns, rounded up (R522, R527). -/
def instantNs (w : Word) : Nat :=
  match wordTime w with
  | some n => n
  | none => wordNs w + 1

/-! ### DRAM as the queue pairs and the TEN page see it (R459) -/

/-- Words of DRAM read by an agent without a cache; none when some line cannot be had now. The answer says whether any was
poisoned. -/
def dramRead (s : State) (src addr n : Nat) : Option (List Word × Bool × State) :=
  let first := addr / 64
  let last := (addr + 8 * n - 1) / 64
  if n = 0 then some ([], false, s)
  else
    let r := (List.range' first (last + 1 - first)).foldl (fun (r : Option (List Word × Bool × State)) line =>
      r.bind (fun (x : List Word × Bool × State) => match ncRead x.2.2 src line with
        | (some (ws, p), s) => some (x.1 ++ ws, x.2.1 || p, s)
        | (none, _) => none)) (some ([], false, s))
    r.map (fun x => ((x.1.drop (addr / 8 % 8)).take n, x.2.1, x.2.2))

/-- The bytes of words at an address, by line: line, and bytes as place and value. -/
def wordBytes (addr : Nat) (ws : List Word) : List (Nat × List (Nat × Nat)) :=
  let bs := ws.zipIdx.flatMap (fun (p : Word × Nat) => (List.range 8).map (fun k => (addr + 8 * p.2 + k, getField p.1 (9 * k) 9)))
  let first := addr / 64
  (List.range' first (if ws.isEmpty then 0 else (addr + 8 * ws.length - 1) / 64 + 1 - first)).map (fun line =>
    (line, (bs.filter (fun b => b.1 / 64 = line)).map (fun b => (b.1 % 64, b.2))))

/-- Words written to DRAM by an agent without a cache, line by line in order. -/
def dramWrite (s : State) (src addr : Nat) (ws : List Word) : State :=
  (wordBytes addr ws).foldl (fun s x => ncWrite s src x.1 x.2) s

/-- Bytes that lie in DRAM (R35, R36). -/
def inDram (s : State) (addr len : Nat) : Bool := decide (addr + len ≤ dramCapacity s)

/-! ### Octets and words (R6) -/

/-- Octets in packed form, nine to a word; the rest of the last word is 0. -/
def packWords (l : List Nat) : List Word :=
  (List.range ((l.length + 8) / 9)).map (fun k => BitVec.ofNat 72 (ofOctets ((l.drop (9 * k)).take 9).reverse))

/-- The octets of words in packed form. -/
def unpackWords (l : List Word) : List Nat := l.flatMap (fun w => (List.range 9).map (fun k => getField w (8 * k) 8))

/-! ### Records (R525) -/

/-- A record: its header word and its body. -/
def record (kind : Nat) (body : List Word) : List Word := BitVec.ofNat 72 (kind + body.length * 256) :: body

def wordOf (n : Nat) : Word := BitVec.ofNat 72 n

/-- A list of words before which its length stands. -/
def counted (l : List Word) : List Word := wordOf l.length :: l

/-- The domains that a tenant uses: those of its functions (R522). -/
def usedDoms (s : State) (t : Nat) : List Nat :=
  (List.range 4).filter (fun d => (liveFns s).any (fun i => decide (s.rd (F.RUL_TEN i) = t) && decide ((s.fn i).desc.dom = d)))

/-- The functions, subscriptions and publications of a tenant. -/
def tenFns (s : State) (t : Nat) : List Nat := (liveFns s).filter (fun i => s.rd (F.RUL_TEN i) = t)
def tenSubs (s : State) (t : Nat) : List Nat := (liveSubs s).filter (fun i => s.rd (F.SUB_OWNER i) = t)
def tenPubs (s : State) (t : Nat) : List Nat := (livePubs s).filter (fun p => s.rd (F.PUB_OWNER p) = t)

/-- Kind 01h: the strokes frozen at, and the parameters of the domains used. -/
def tenantRecord (s : State) (t : Nat) : List Word :=
  let used := (List.range 4).filter (fun d => s.isSet (F.TEN_FUSED t d))
  record 1 ((List.range 4).map (fun d => wordOf (s.rd (F.TEN_FRZ_196 t d) + s.rd (F.TEN_FUSED t d) * 2 ^ 48)) ++
    used.flatMap (fun d => [wordOf (domPeriod s d), wordOf (s.rd (F.DOM_ANC d))]))

/-- Kind 02h. -/
def subRecord (s : State) (i : Nat) : List Word :=
  let x := s.sub i
  record 2 ([wordOf (i / 64), wordOf (i % 64), wordOf (s.rd (F.SUB_A0 i)), wordOf (s.rd (F.SUB_A1 i)), wordOf (s.rd (F.SUB_A2 i))] ++
    [wordOf x.ident.length] ++ packWords x.ident ++ [wordOf x.talm] ++ x.types.map wordOf)

/-- The key pairs of a tenant: ferrule and pair, 0 to 15 of the SUB page and 16 to 19 of the PUB page. -/
def keyBlock (f k : Nat) : Nat := if k < 16 then subKey f k else pubKey f (k - 16)
def tenKeys (s : State) (t : Nat) : List (Nat × Nat) :=
  (List.range 64).flatMap (fun f => ((List.range 20).filter (fun k => s.rd (F.KEY_KOWN (keyBlock f k)) = t)).map (fun k => (f, k)))

/-- Kind 03h. -/
def keyRecord (s : State) (k : Nat × Nat) : List Word :=
  record 3 ([wordOf k.1, wordOf k.2] ++ (List.range 12).map (fun j => s.word (keyBlock k.1 k.2 + j)))

/-- The template and image words of a publication (R334, R343). -/
def pubTplWords (s : State) (p : Nat) : List Nat :=
  let a2 := s.rd (F.PUB_A2 p)
  (List.range (bitsOf a2 55 7)).map (fun k => bitsOf a2 48 7 + k)
def pubImgWords (s : State) (p : Nat) : List Nat :=
  let n := if pubType s p = 3 then 3 else bitsOf (s.rd (F.PUB_A0 p)) 17 7
  (List.range n).map (fun k => s.rd (F.PUB_SBASE (p / 32) (p % 32)) + k)

/-- Kind 04h. -/
def pubRecord (s : State) (p : Nat) : List Word :=
  let f := p / 32
  record 4 ([wordOf f, wordOf (p % 32), wordOf (s.rd (F.PUB_A0 p)), wordOf (s.rd (F.PUB_A1 p)), wordOf (s.rd (F.PUB_A2 p)),
      wordOf (s.rd (F.PUB_A3 p)), s.word ((0x2000 + p) * 512 + 22), s.word (pubPage f * 512 + 80 + p % 32)] ++
    counted ((s.pub p).types.map wordOf) ++
    (pubTplWords s p).map (fun k => s.word (pubPage f * 512 + 192 + k)) ++ (pubImgWords s p).map (fun k => s.word (pubPage f * 512 + 320 + k)))

/-- Kind 05h: a command; a CREATE carries the handle that it returned. -/
def cmdRecord (s : State) (c : Word × Word × List Word × Nat) : List Word :=
  let cmd := if getField c.1 8 8 = 1 then putField c.1 36 36 (s.handle 3 c.2.2.2 c.2.2.2) else c.1
  record 5 ([cmd, c.2.1] ++ c.2.2.1)

/-- Kind 06h: the position of a function's CREATE among the commands, and its state. -/
def stateRecord (s : State) (t i : Nat) : List Word :=
  let cs := (s.ten t).cmds
  let creates := (cs.zipIdx).filter (fun (e : (Word × Word × List Word × Nat) × Nat) => decide (getField e.1.1 8 8 = 1) && decide (e.1.2.2.2 = i))
  let pos := match creates.getLast? with | some e => e.2 | none => 0
  record 6 (wordOf pos :: committed s i)

/-- The payload of a tenant's blob (R525). -/
def blobPayload (s : State) (t : Nat) : List Word :=
  tenantRecord s t ++ (tenSubs s t).flatMap (subRecord s) ++ (tenKeys s t).flatMap (keyRecord s) ++ (tenPubs s t).flatMap (pubRecord s) ++
    (s.ten t).cmds.flatMap (cmdRecord s) ++ (tenFns s t).flatMap (stateRecord s t)

/-- The first 512 octets of a blob (R93, R524). -/
def blobHeader (len nonce tag t uid : Nat) : List Nat :=
  octetsOf 0x4546414C 4 ++ [0, 1, 3, 0] ++ octetsOf 0 4 ++ octetsOf len 8 ++ octetsOf 0 8 ++ octetsOf nonce 12 ++ octetsOf tag 16 ++
    [t] ++ octetsOf uid 8 ++ List.replicate 447 0

/-- The migration key (R524, R529). -/
def migrationKey (s : State) : Nat := ofOctets (packedOctets s (F.TEN_MKEY_48 0).addr 32)

/-! ### The commands (R520, R521) -/

def tenRefuse (s : State) (reason : Nat) : State := s.refuse 0x2D0 1 reason
def tenDone (s : State) (rhandle : Nat) : State := s.complete 0x2D0 0 0 rhandle

/-- ACTIVATE. -/
def tenActivate (s : State) : State :=
  let t := getField (tenArg s 0) 0 4
  if t = 0 ∨ s.rd (F.TEN_TSTATE t) ≠ 0 then tenRefuse s 2 else tenDone (s.wr (F.TEN_TSTATE t) 1) 0

/-- QPCREATE (R511, R512). -/
def qpCreate (s : State) : State :=
  let a := tenArg s 0
  let rx := getField (tenArg s 1) 0 44
  let tx := getField (tenArg s 2) 0 44
  let rlog := getField a 8 4
  let tlog := getField a 12 4
  let ringOk (base log : Nat) : Bool := decide (base % 32 = 0) && inDram s base (32 * 2 ^ log)
  match findBelow (fun q => decide (s.rd (F.TEN_QSTATE q) = 0)) 64 with
  | none => tenRefuse s 3
  | some q =>
    if 9 < getField a 4 4 ∨ rlog < 4 ∨ 12 < rlog ∨ tlog < 4 ∨ 12 < tlog ∨ getField a 16 8 < 8 ∨ 223 < getField a 16 8 ∨
       s.rd (F.TEN_TSTATE (getField a 0 4)) ≠ 1 ∨ ¬ ringOk rx rlog ∨ ¬ ringOk tx tlog then tenRefuse s 4
    else
      let s := [(F.TEN_QSTATE q, 1), (F.TEN_OWNER q, getField a 0 4), (F.TEN_PORT q, getField a 4 4), (F.TEN_RXLOG q, rlog),
        (F.TEN_TXLOG q, tlog), (F.TEN_BUFW q, getField a 16 8), (F.TEN_RINGBASE q 0, rx), (F.TEN_RINGBASE q 1, tx),
        (F.TEN_TAIL (2 * q), 0), (F.TEN_HEAD (2 * q), 0), (F.TEN_TAIL (2 * q + 1), 0), (F.TEN_HEAD (2 * q + 1), 0)].foldl
          (fun s (x : Fld × Nat) => s.wr x.1 x.2) s
      tenDone (s.setQp q {}) (s.handle 6 q q)

/-- A queue pair is freed and its generation advances (R520, R529). -/
def qpFree (s : State) (q : Nat) : State :=
  (((s.resetWords ((0x4200 + q) * 512 + 192) 4).resetWords (F.TEN_TAIL (2 * q)).addr 2).setQp q {}).bumpGen 6 q

/-- FREEZE (R522). -/
def tenFreeze (s : State) : State :=
  let t := getField (tenArg s 0) 0 4
  let T := instantNs (tenArg s 1)
  if t = 0 ∨ s.rd (F.TEN_TSTATE t) ≠ 1 ∨ (s.ten t).freezeAt.isSome then tenRefuse s 2
  else if T < s.devTime + 1000000 then tenRefuse s 5
  else tenDone (s.setTen t { s.ten t with freezeAt := some T, nds := [], resumeAt := none }) 0

/-- EXPORT (R524). -/
def tenExport (s : State) : State :=
  let t := getField (tenArg s 0) 0 4
  let addr := getField (tenArg s 1) 0 44
  if t = 0 ∨ s.rd (F.TEN_TSTATE t) ≠ 2 then tenRefuse s 2
  else
    let payload := unpackWords (blobPayload s t)
    let len := 8 * ((512 + payload.length + 8) / 9)
    if addr % 8 ≠ 0 ∨ ¬ inDram s addr len then tenRefuse s 4
    else if getField (tenArg s 2) 0 32 < len then tenRefuse s 8
    else
      let (nonce, s) := s.free 96
      let head (tag : Nat) : List Nat := blobHeader payload.length nonce.toNat tag t s.otp.uid
      let (body, tag) := Config.gcmSeal (migrationKey s) nonce.toNat (head 0) payload
      tenDone (dramWrite s 0x25 addr (packWords (head tag ++ body))) 0

/-! ### Import (R526) -/

/-- The records of a payload: kind and body. -/
def readRecords : Nat → List Word → Option (List (Nat × List Word))
  | 0, _ => none
  | _, [] => some []
  | fuel + 1, h :: rest =>
    let n := getField h 8 24
    if rest.length < n ∨ getField h 32 40 ≠ 0 then none
    else (readRecords fuel (rest.drop n)).map (fun l => (getField h 0 8, rest.take n) :: l)

def bodyNat (b : List Word) (k : Nat) : Nat := (b.getD k 0).toNat

/-- The parameters of the used domains are those of the record (R526). -/
def domsAgree (s : State) (b : List Word) : Bool :=
  let used := (List.range 4).filter (fun d => bitOf (bodyNat b d) 48)
  used.zipIdx.all (fun (e : Nat × Nat) =>
    decide (domPeriod s e.1 = bodyNat b (4 + 2 * e.2)) && decide (s.rd (F.DOM_ANC e.1) = bodyNat b (5 + 2 * e.2)))

/-- A named slot is free (R526). -/
def slotFree (s : State) (r : Nat × List Word) : Bool :=
  let f := bodyNat r.2 0
  let k := bodyNat r.2 1
  if r.1 = 2 then decide (f < 64) && decide (k < 64) && !subLive s (64 * f + k)
  else if r.1 = 3 then decide (f < 64) && decide (k < 20) && decide (s.rd (F.KEY_ALG (keyBlock f k)) = 0) && decide (s.rd (F.KEY_ALG (keyBlock f k + 6)) = 0)
  else if r.1 = 4 then decide (f < 64) && decide (k < 32) && decide (s.rd (F.PUB_PSTATE_48 f k) = 0)
  else true

/-- A context of the record is created for a tenant (R526). -/
def importContext (s : State) (t : Nat) (r : Nat × List Word) : State :=
  let b := r.2
  let f := bodyNat b 0
  let k := bodyNat b 1
  if r.1 = 2 then
    let n := bodyNat b 5
    let iw := (n + 8) / 9
    subMake s (64 * f + k) t { a0 := bodyNat b 2, a1 := bodyNat b 3, a2 := bodyNat b 4, idlen := n
                               ident := (unpackWords ((b.drop 6).take iw)).take n, talm := bodyNat b (6 + iw)
                               types := (b.drop (7 + iw)).map (·.toNat) }
  else if r.1 = 3 then
    let s := (List.range 12).foldl (fun s j => s.setWord (keyBlock f k + j) (b.getD (2 + j) 0)) s
    s.wr (F.KEY_KOWN (keyBlock f k)) t
  else if r.1 = 4 then
    let p := 32 * f + k
    let nt := bodyNat b 8
    let s := pubMake s p t { a0 := bodyNat b 2, a1 := bodyNat b 3, a2 := bodyNat b 4, a3 := bodyNat b 5
                             types := ((b.drop 9).take nt).map (·.toNat) }
    let s := (s.setWord ((0x2000 + p) * 512 + 22) (b.getD 6 0)).setWord (pubPage f * 512 + 80 + k) (b.getD 7 0)
    let tpl := pubTplWords s p
    let words := b.drop (9 + nt)
    let s := tpl.zipIdx.foldl (fun s (e : Nat × Nat) => s.setWord (pubPage f * 512 + 192 + e.1) (words.getD e.2 0)) s
    (pubImgWords s p).zipIdx.foldl (fun s (e : Nat × Nat) => s.setWord (pubPage f * 512 + 320 + e.1) (words.getD (tpl.length + e.2) 0)) s
  else s

/-- The handles of a descriptor under the generations of this device's slots (R526). -/
def rebind (s : State) (d : Descr) : Descr :=
  { d with
    binds := d.binds.map (fun w => putField w 20 12 (s.gen 1 (bindSub w)))
    targets := d.targets.map (fun w => if (targetLine w).isSome then w else putField w 20 12 (s.gen 2 (targetPub w))) }

/-- A command of the record is replayed (R305, R526): the indices so far, by the index on the exporting device; none when it leaves a
function unplaceable. -/
def replayCmd (t : Nat) (r : Option (State × List (Nat × Nat) × List Nat)) (b : List Word) : Option (State × List (Nat × Nat) × List Nat) :=
  r.bind (fun (x : State × List (Nat × Nat) × List Nat) =>
    let s := x.1
    let cmd := b.getD 0 0
    let opc := getField cmd 8 8
    let old := getField cmd 36 20
    let d := rebind s (readDescr (b.drop 2))
    let s := histCmd s b
    if opc = 1 then
      match createReason s t d with
      | some _ => none
      | none =>
        let i := (findBelow (fun i => decide (s.rd (F.RUL_FST i) = 0)) 4096).getD 0
        match placeSearch (((s.setFn i { desc := d }).wr (F.RUL_FST i) 1).wr (F.RUL_TEN i) t) i 3 d.crit with
        | .error _ => none
        | .ok s =>
          let s := setPstate (countFns (refreshAll s (d.binds.map bindSub)) t) i true
          some (logCmd s { opc := 1, cmd := cmd, index := i, arg := b.getD 1 0, init := 0, tenant := t } i d.staged, (old, i) :: x.2.1, x.2.2 ++ [i])
    else match x.2.1.find? (fun e => e.1 == old) with
      | none => some (s, x.2.1, x.2.2 ++ [4096])
      | some (_, i) =>
        let s := logCmd s { opc := opc, cmd := putField cmd 36 36 (s.handle 3 i i), index := i, arg := b.getD 1 0, init := 0, tenant := t } i
          (if opc = 3 then d.staged else [])
        let s := if opc = 2 then fnFree s i
          else
            let y := s.fn i
            s.setFn i { y with desc := { y.desc with prog := d.prog, xcon := d.xcon, ycon := d.ycon } }
        some (s, x.2.1.filter (fun e => decide (opc ≠ 2) || e.1 != old), x.2.2 ++ [i]))

/-- The state of a function, and its holding (R526). -/
def importState (idx : List Nat) (s : State) (b : List Word) : State :=
  let i := idx.getD (bodyNat b 0) 4096
  if s.rd (F.RUL_FST i) = 0 ∨ 4096 ≤ i then s
  else
    let ws := b.drop 1
    let s := (heldPlaces s i).foldl (fun s q => seedState s q.2 ws) s
    let s := (heldPlaces s i).foldl (fun s q => ringsChange (swapBank s q.2) i q.2.fer) s
    (s.setFn i { s.fn i with held := true, loaded := true, carried := ws }).wr (F.RUL_FST i) 3

/-- The contents of an accepted blob take effect; none where it is incompatible (R526). -/
def importBlob (s : State) (t : Nat) (recs : List (Nat × List Word)) : Option State :=
  let of (k : Nat) : List (List Word) := (recs.filter (fun r => r.1 = k)).map (·.2)
  let ten := (of 1).headD []
  if ¬ domsAgree s ten ∨ ¬ recs.all (slotFree s) then none
  else
    let s := (recs.foldl (fun s r => importContext s t r) (s.wr (F.TEN_TSTATE t) 1)).setTen t {}
    match (of 5).foldl (replayCmd t) (some (s, [], [])) with
    | none => none
    | some (s, _, idx) =>
      let s := (of 6).foldl (importState idx) s
      let s := (List.range 4).foldl (fun s d =>
        (s.wr (F.TEN_FRZ_196 t d) (bitsOf (bodyNat ten d) 0 48)).wrb (F.TEN_FUSED t d) (bitOf (bodyNat ten d) 48)) s
      some (afterEvent (s.wr (F.TEN_TSTATE t) 2))

/-- IMPORT (R524, R526); none where a line of the blob cannot be had now. -/
def tenImport (s : State) : Option State :=
  let t := getField (tenArg s 0) 0 4
  let addr := getField (tenArg s 1) 0 44
  if t = 0 ∨ s.rd (F.TEN_TSTATE t) ≠ 0 then some (tenRefuse s 2)
  else if addr % 8 ≠ 0 ∨ ¬ inDram s addr 456 then some (tenRefuse s 4)
  else match dramRead s 0x25 addr 57 with
    | none => none
    | some (hw, _, _) =>
      let h := unpackWords hw
      let num (o n : Nat) : Nat := ofOctets ((h.drop o).take n)
      let len := num 12 8
      let words := (512 + len + 8) / 9
      if num 0 4 ≠ 0x4546414C ∨ num 4 2 ≠ 1 ∨ num 6 1 ≠ 3 then some (tenRefuse s 6)
      else if ¬ inDram s addr (8 * words) then some (tenRefuse s 4)
      else match dramRead s 0x25 addr words with
        | none => none
        | some (bw, _, s) =>
          let all := unpackWords bw
          let head := all.take 40 ++ List.replicate 16 0 ++ (all.take 512).drop 56
          match Config.gcmOpen (migrationKey s) (num 28 12) head ((all.drop 512).take len) (num 40 16) with
          | none => some (tenRefuse s 6)
          | some plain =>
            match readRecords (plain.length + 1) (packWords plain) with
            | none => some (tenRefuse s 6)
            | some recs => match importBlob s t recs with
              | none => some (tenRefuse s 7)
              | some s => some (tenDone s 0)

/-- RESUME (R527). -/
def tenResume (s : State) : State :=
  let t := getField (tenArg s 0) 0 4
  let T := instantNs (tenArg s 1)
  if t = 0 ∨ s.rd (F.TEN_TSTATE t) ≠ 2 then tenRefuse s 2
  else if T < s.devTime + 1000000 then tenRefuse s 5
  else tenDone (s.setTen t { s.ten t with resumeAt := some T }) 0

/-- TRESET (R528): the tenant's channels are stopped and its functions destroyed at the next boundary; the rest waits for that. -/
def tenReset (s : State) : State :=
  let t := getField (tenArg s 0) 0 4
  let squash := getField (tenArg s 0) 4 1 = 1
  let st := s.rd (F.TEN_TSTATE t)
  if t = 0 ∨ (st ≠ 1 ∧ st ≠ 2) then tenRefuse s 2
  else
    let s := (s.wr (F.TEN_TSTATE t) 3).setTen t { s.ten t with squash := squash, freezeAt := none, resumeAt := none, nds := [] }
    let s := (List.range 32).foldl (fun s n =>
      if s.rd (F.DMB_OWNER n) = t ∧ s.rd (F.DMB_CST n) = 2 then dmaStop s n (if squash then 4 else 3) else s) s
    (tenFns s t).foldl destroyFn s

/-- The kind and range of the TEN page's handles (R511). -/
def qpHandles : HandleSpec := { kind := 6, count := 64, slot := fun i => i }

/-- A doorbell of the TEN page (R520, R521). -/
def tenBell (s : State) (init seq opc handle : Nat) : State :=
  let late (s : State) : Option Nat :=
    if opc ≠ 3 then (if handle ≠ 0 then some 4 else none)
    else match handleCheck s qpHandles handle (fun q => s.rd (F.TEN_OWNER q) = initTenant s init || initTenant s init = 0) with
      | some r => some r
      | none =>
        let q := handle % 2 ^ 20
        if s.rd (F.TEN_QSTATE q) = 0 ∨ s.rd (F.TEN_TSTATE (s.rd (F.TEN_OWNER q))) = 3 then some 7 else none
  match s.doorbell 0x2D0 seq opc handle late with
  | (s, false) => s
  | (s1, true) =>
    let before := s
    let s := s1
    if ¬ hostScribe s init then tenRefuse s 1
    else if opc = 1 then tenActivate s else if opc = 2 then qpCreate s
    else if opc = 3 then tenDone (qpFree s (handle % 2 ^ 20)) 0
    else if opc = 4 then tenFreeze s else if opc = 5 then tenExport s else if opc = 6 then (tenImport s).getD before
    else if opc = 7 then tenResume s else tenReset s

/-- TENANT_ACTIVATE (R508, R520). -/
def execTenantActivate (t init seq : Nat) (s : State) : Out :=
  .next ((s.tick t).gatedCmd init 0x2D0 seq 1 0 (fun s => tenBell s init seq 1 0))
/-- QPCREATE (R511, R520). -/
def execQpcreate (t init seq : Nat) (s : State) : Out :=
  .next ((s.tick t).gatedCmd init 0x2D0 seq 2 0 (fun s => tenBell s init seq 2 0))
/-- QPDESTROY (R520). -/
def execQpdestroy (t init seq handle : Nat) (s : State) : Out :=
  .next ((s.tick t).gatedCmd init 0x2D0 seq 3 handle (fun s => tenBell s init seq 3 handle))
/-- TENANT_FREEZE (R522). -/
def execTenantFreeze (t init seq : Nat) (s : State) : Out :=
  .next ((s.tick t).gatedCmd init 0x2D0 seq 4 0 (fun s => tenBell s init seq 4 0))
/-- TENANT_EXPORT (R524, R525). -/
def execTenantExport (t init seq : Nat) (s : State) : Out :=
  .next ((s.tick t).gatedCmd init 0x2D0 seq 5 0 (fun s => tenBell s init seq 5 0))
/-- TENANT_IMPORT (R526). -/
def execTenantImport (t init seq : Nat) (s : State) : Out :=
  .next ((s.tick t).gatedCmd init 0x2D0 seq 6 0 (fun s => tenBell s init seq 6 0))
/-- TENANT_RESUME (R527). -/
def execTenantResume (t init seq : Nat) (s : State) : Out :=
  .next ((s.tick t).gatedCmd init 0x2D0 seq 7 0 (fun s => tenBell s init seq 7 0))
/-- TRESET (R528). -/
def execTreset (t init seq : Nat) (s : State) : Out :=
  .next ((s.tick t).gatedCmd init 0x2D0 seq 8 0 (fun s => tenBell s init seq 8 0))

/-- TENANT_FREEZE_TAKE_EFFECT (R522): at the boundary of the first stroke that opens at or after T; in a domain that does not run,
at T. -/
def execTenantFreezeTakeEffect (t tenant dom : Nat) (s : State) : Out :=
  .next (let s := s.tick t
    match (s.ten tenant).freezeAt with
    | none => s
    | some T =>
      let due := if s.isSet (F.DOM_RUN dom) then
          decide (T ≤ openAt s dom (nextOpen s dom)) && decide (openAt s dom (nextOpen s dom) ≤ s.devTime)
        else decide (T ≤ s.devTime)
      if due ∧ tenant < 16 ∧ dom < 4 then freezeDom s tenant dom else s)

/-- Whether a function's stroke before a freeze is settled (R522): no run of it is left, and no decision is awaited. -/
def fnSettled (s : State) (i : Nat) : Bool :=
  let x := s.fn i
  decide (x.waitA = 0) && decide (x.waitB = 0) &&
  (heldPlaces s i).all (fun q =>
    let y := s.nib q.2.fer q.2.nib
    !(y.queue.contains q.2.slot) && !(decide (s.rd (F.FER_NST q.2.fer q.2.nib) = 1) && decide (y.slot = q.2.slot)))

/-- TENANT_FREEZE_COMPLETE (R522). -/
def execTenantFreezeComplete (t tenant : Nat) (s : State) : Out :=
  .next (let s := s.tick t
    match (s.ten tenant).freezeAt with
    | none => s
    | some T =>
      let doms := usedDoms s tenant
      let nds := (s.ten tenant).nds
      let fns := tenFns s tenant
      if tenant < 16 ∧ T ≤ s.devTime ∧ s.rd (F.TEN_TSTATE tenant) = 1 ∧ doms.all (fun d => nds.any (fun e => e.1 == d)) ∧ fns.all (fnSettled s) then
        let s := fns.foldl (fun s i =>
          let x := s.fn i
          if x.held then
            let p := if x.alone = 2 ∨ x.aloneNext = 3 then x.b else x.a
            let nd := match nds.find? (fun e => e.1 == x.desc.dom) with | some e => e.2 | none => 0
            let s := if x.carried.isEmpty then ckptOf s i nd else s
            s.setFn i { s.fn i with carried := if x.carried.isEmpty then stateWords s p x.desc.sw else x.carried }
          else s) s
        let s := (List.range 4).foldl (fun s d =>
          match nds.find? (fun e => e.1 == d) with
          | some e => if doms.contains d then (s.wr (F.TEN_FRZ_196 tenant d) e.2).wr (F.TEN_FUSED tenant d) 1 else s.wr (F.TEN_FUSED tenant d) 0
          | none => s.wr (F.TEN_FUSED tenant d) 0) s
        (s.wr (F.TEN_TSTATE tenant) 2).wr F.TEN_FRZ_15 1
      else s)

/-- TENANT_RESUME_TAKE_EFFECT (R509, R527): the tenant is active, and the slice in effect applies. -/
def execTenantResumeTakeEffect (t tenant : Nat) (s : State) : Out :=
  .next (let s := s.tick t
    match (s.ten tenant).resumeAt with
    | none => s
    | some T =>
      if T ≤ s.devTime ∧ s.rd (F.TEN_TSTATE tenant) = 2 ∧ tenant < 16 then
        let s := (s.wr (F.TEN_TSTATE tenant) 1).setTen tenant { s.ten tenant with freezeAt := none, nds := [] }
        let s := (tenFns s tenant).foldl (fun s i => if settled s i then slicePlace s i else s) s
        afterEvent s
      else s)

/-- Nothing of a tenant is under way any more (R528). -/
def tenQuiet (s : State) (t : Nat) : Bool :=
  (tenFns s t).isEmpty &&
  (List.range 32).all (fun n => !(decide (s.rd (F.DMB_OWNER n) = t) && (decide (s.rd (F.DMB_CST n) = 2) || decide (s.rd (F.DMB_CST n) = 3)))) &&
  (List.range 64).all (fun q => !(decide (s.rd (F.TEN_QSTATE q) ≠ 0) && decide (s.rd (F.TEN_OWNER q) = t)) ||
    (((s.qp q).rxw ++ (s.qp q).txw).all (fun l => l.all (linePerformed s 0x24))))

/-- TENANT_RESET_COMPLETE (R528). -/
def execTenantResetComplete (t tenant : Nat) (s : State) : Out :=
  .next (let s := s.tick t
    if tenant < 16 ∧ tenant ≠ 0 ∧ s.rd (F.TEN_TSTATE tenant) = 3 ∧ tenQuiet s tenant then
      let s := (tenPubs s tenant).foldl pubFree s
      let s := (tenSubs s tenant).foldl subFree s
      let s := (List.range 64).foldl (fun s q =>
        if s.rd (F.TEN_QSTATE q) ≠ 0 ∧ s.rd (F.TEN_OWNER q) = tenant then qpFree s q else s) s
      let s := (List.range 32).foldl (fun s n => if s.rd (F.DMB_CST n) ≠ 0 ∧ s.rd (F.DMB_OWNER n) = tenant then dmaFree s n else s) s
      let s := ((s.setTen tenant {}).wr (F.TEN_TSTATE tenant) 0).wr F.TEN_RST 1
      tenDone s 0
    else s)

end Sys2Proof.Machine
end

