-- ==== Sys2Proof/Machine/Access.lean ====
section
/-! DEFINITION. Register accesses (R48 to R73): what a read of a word shows and clears, what a write of a word does on every
page, the doorbells, the accesses that stall, and the correction of voted fields.
Decisions: log entries 16 (DEDUCED), 17 (DEDUCED), 18 (DEDUCED), 20 (DEDUCED), 21 (DEDUCED), 54 (DEDUCED). -/

namespace Sys2Proof.Machine
open Sys2Proof

/-! ### Views and derived words -/

/-- The storage address of a word: the words of a view lie at the entry that the page's index selects (R83, R91, R214, R331,
R329, R488, R506, R529, R553, R591). -/
def viewAddr (s : State) (page off : Nat) : Nat :=
  let own := page * 512 + off
  let f := (page - 0x100) / 4
  match pageKind page with
  | some .csn => if 19 ≤ off ∧ off ≤ 21 then (0x4000 + s.rd F.CSN_LIDX) * 512 + off else own
  | some .rul0 =>
    if 18 ≤ off ∧ off ≤ 24 then (0x3000 + s.rd F.RUL_FIDX) * 512 + off
    else if off = 26 ∨ off = 27 then (0x1000 + s.rd F.RUL_SIDX) * 512 + 100 + off else own
  | some .sub => if 23 ≤ off ∧ off ≤ 33 then (0x1000 + 64 * f + s.rd (F.SUB_SLOT f)) * 512 + off else own
  | some .pub => if 18 ≤ off ∧ off ≤ 24 then (0x2000 + 32 * f + s.rd (F.PUB_SLOT f)) * 512 + off else own
  | some .phy =>
    let c := page - 0x264
    if off = 9 then (0x4400 + 160 * c + 80 * s.rd (F.PHY_IRNK c) + 40 * s.rd (F.PHY_ISUB c) + s.rd (F.PHY_LANE c)) * 512 + off
    else own
  | some .dma => if 16 ≤ off ∧ off ≤ 20 then (0x4900 + s.rd F.DMA_CH) * 512 + off else own
  | some .pwr =>
    if off = 24 then (0x4800 + s.rd F.PWR_RIDX) * 512 + off else if off = 26 then (0x4810 + s.rd F.PWR_AIDX) * 512 + off else own
  | some .ten =>
    if 192 ≤ off ∧ off ≤ 195 then (0x4200 + s.rd F.TEN_QIDX) * 512 + off
    else if 196 ≤ off ∧ off ≤ 199 then (0x4100 + s.rd F.TEN_TIDX) * 512 + off else own
  | some .blt =>
    if off = 33 ∨ off = 34 then
      (match cmpIndex (s.rd F.BLT_UNIT) (s.rd F.BLT_SC) (s.rd F.BLT_NIB_32) (s.rd F.BLT_K) with
       | some x => (0x5000 + x) * 512 + off
       | none => own)
    else own
  | _ => own

/-- Words that hold key material (R96, R529): they read 0. -/
def keyWord (page off : Nat) : Bool :=
  match pageKind page with
  | some .sub => decide (320 ≤ off) && decide (2 ≤ (off - 320) % 6)
  | some .pub => decide (112 ≤ off) && decide (off < 160) && decide (2 ≤ (off - 112) % 6)
  | some .ten => decide (48 ≤ off) && decide (off ≤ 51)
  | _ => false

/-- CSN_VENT and CSN_VVAL (R83). -/
def csnShown (s : State) (init off : Nat) (raw : Word) : Word :=
  match s.csn.entries[s.rd F.CSN_VIDX]? with
  | none => if off = 15 ∨ off = 16 then 0 else raw
  | some e =>
    if off = 15 then BitVec.ofNat 72 (e.1 / 512 + e.1 % 512 * 2 ^ 16 + 2 ^ 25)
    else if off = 16 then (if keyWord (e.1 / 512) (e.1 % 512) ∧ party s init = 0 then 0 else e.2) else raw

/-- A word of the watchdogs with its count as it stands (R537, R539). -/
def wdgShown (s : State) (off : Nat) : Word := (wdgCount s none).word (0x2F0 * 512 + off)

/-- The sources of a page, as a field of pending or active bits (R428). -/
def icuShown (s : State) (p off : Nat) : Word :=
  let k := if off < 11 then off - 8 else off - 11
  let n := if k = 2 then 32 else 64
  BitVec.ofNat 72 ((List.range n).foldl (fun a j =>
    let src := 160 * p + 64 * k + j
    if (if off < 11 then icuPending s src else decide (s.icuRd F.ICU_ACT src = 1)) then a + 2 ^ j else a) 0)

/-- What a read of a word shows (R58, and the block chapters for the words that are computed). -/
def shownWord (s : State) (init page off : Nat) : Word :=
  let raw := s.word (viewAddr s page off)
  if off = 0 then pageIdWord page
  else if off = 1 then pageCapWord page
  else if off = 2 then
    putField raw 0 4 (b2n (s.rd (F.HDR_ECODE page) ≠ 0) + 2 * b2n (s.rd (F.HDR_IGNCNT page) ≠ 0) +
      4 * b2n (s.rd (F.HDR_TCNT page) ≠ 0) + 8 * b2n (s.rd (F.HDR_STG page) ≠ 0))
  else if off = 6 then (if hasDoorbell page then putField raw 8 1 (b2n (s.rd (F.DBL_STATE page) = 1)) else 0)
  else if keyWord page off then 0
  else match pageKind page with
  | some .dev =>
    if off = 8 then putField (putField raw 24 8 s.otp.step) 32 4 s.otp.grade
    else if off = 9 then BitVec.ofNat 72 (s.otp.uid % 2 ^ 64) else raw
  | some .csn => csnShown s init off raw
  | some .tim =>
    if off = 8 then timeWord s.devTime else if off = 9 then putField raw 16 24 s.errestNow else raw
  | some .rul0 => if 18 ≤ off ∧ off ≤ 24 ∧ s.rd (F.RUL_FST (s.rd F.RUL_FIDX)) = 0 then 0 else raw
  | some .msh => if off = 9 ∨ off = 10 then mshData s (page - 0x10) (off - 9) else raw
  | some .icu =>
    if off < 14 ∧ 8 ≤ off then icuShown s (page - 0x240) off
    else if 32 ≤ off ∧ off < 192 then putField raw 13 1 (b2n (icuPending s (160 * (page - 0x240) + (off - 32))))
    else raw
  | some .phy => if off = 9 ∧ 40 ≤ s.rd (F.PHY_LANE (page - 0x264)) then 0 else raw
  | some .dmb => if 8 ≤ off ∧ off < 40 then (dmaShowWait s (off - 8)).word (page * 512 + off) else raw
  | some .bst =>
    if off = 12 then putField raw 0 32 (shelfSeconds s) else if off = 14 then putField raw 14 3 (rollPhase s) else raw
  | some .blt =>
    if off = 18 then putField raw 4 7 (challengeWait s) else if off = 24 then srval s
    else if off = 26 then (dval s).getD 0 else raw
  | some .mcb => if (48 ≤ off ∧ off < 80) ∨ off = 81 then wdgShown s off else raw
  | _ => raw

/-- A read: its value, free where the spec leaves the value of NIB_DVAL open. -/
def readWord (s : State) (init page off : Nat) : Word × State :=
  if page = 0x2C0 ∧ off = 26 ∧ (dval s).isNone then ((s.free 36).1.setWidth 72, (s.free 36).2) else (shownWord s init page off, s)

/-- The clear-on-read fields of a word cleared (R60). -/
def clearRC (s : State) (page off : Nat) : State :=
  let m := match wordFields page off with
    | some l => fieldMask l (fun f => f.acc = .rc)
    | none => 0
  let a := viewAddr s page off
  s.setWord a (s.word a &&& ~~~m)

/-- What a read without the inspect attribute does (R60, R91, R357, R540). -/
def readEffect (s : State) (page off : Nat) : State :=
  match pageKind page with
  | some .csn => if 19 ≤ off ∧ off ≤ 21 then
      { s with csn := { s.csn with logRead := tset s.csn.logRead (s.rd F.CSN_LIDX) true } } else clearRC s page off
  | some .pub => if off = 43 then biPop s ((page - 0x100) / 4) else clearRC s page off
  | some .mcb => if off = 80 then { s with mcu := { s.mcu with tick := false } } else clearRC s page off
  | _ => clearRC s page off

/-- A read of a word that the page lets through (R60, R61). -/
def pageRead (s : State) (init page off : Nat) (inspect : Bool) : Word × State :=
  let r := readWord s init page off
  (r.1, if inspect then r.2 else readEffect r.2 page off)

/-! ### Writes -/

/-- A doorbell write (R66, R67); an opcode that the page does not define fails check 3. -/
def pageBell (s : State) (init page : Nat) (value : Word) : State :=
  let seq := getField value 0 8
  let opc := getField value 8 8
  let handle := getField value 36 36
  let f := (page - 0x100) / 4
  let unknown := (s.doorbell page seq opc handle (fun _ => some 3)).1
  match pageKind page with
  | some .rul0 => if 1 ≤ opc ∧ opc ≤ 6 then rulDoorbell s init seq opc handle else unknown
  | some .sub =>
    if opc = 1 then subCreate s init f seq handle else if opc = 2 then subDestroy s init f seq handle
    else if opc = 3 then subSetpol s init f seq handle else unknown
  | some .pub =>
    if opc = 1 then pubCreate s init f seq handle else if opc = 2 then pubDestroy s init f seq handle else unknown
  | some .dmc => if 1 ≤ opc ∧ opc ≤ 3 then dmcBell s init (page - 0x260) seq opc else unknown
  | some .dma => if 1 ≤ opc ∧ opc ≤ 4 then dmaBell s init seq opc handle else unknown
  | some .pwr => if 1 ≤ opc ∧ opc ≤ 7 then pwrBell s init seq opc else unknown
  | some .bst =>
    if opc = 1 then bstBell s init seq 1 fullTest else if opc = 2 then bstBell s init seq 2 fuse
    else if opc = 3 then bstBell s init seq 3 sealRecord else unknown
  | some .ten => if 1 ≤ opc ∧ opc ≤ 8 then tenBell s init seq opc handle else unknown
  | _ => s

/-- A queue pair's TAIL (R513): word j = 2q for the receive ring and 2q + 1 for the transmit ring. -/
def qpTailWrite (s : State) (j v : Nat) : State :=
  let q := j / 2
  let size := 2 ^ (if j % 2 = 0 then s.rd (F.TEN_RXLOG q) else s.rd (F.TEN_TXLOG q))
  let ahead (t : Nat) : Nat := (t + 65536 - s.rd (F.TEN_HEAD j)) % 65536
  if s.rd (F.TEN_QSTATE q) = 0 ∨ size < ahead (v % 65536) ∨ ahead (v % 65536) < ahead (s.rd (F.TEN_TAIL j)) then
    s.ignored 0x2D0 (384 + j) 7
  else s.wr (F.TEN_TAIL j) v

/-- TEN_VFT and TEN_VFEN (R517): a change of the mapping of an enabled virtual function is ignored. -/
def vfMapWrite (s : State) (off : Nat) (value : Word) : State :=
  let en := s.rd F.TEN_VFEN
  let bad := if off = 52 then (List.range 16).any (fun v => bitOf en v &&
        decide (getField value (4 * v) 4 ≠ bitsOf (s.rd F.TEN_VFT) (4 * v) 4))
    else decide (en &&& (65535 - getField value 0 16) ≠ 0)
  if bad then s.ignored 0x2D0 off 7 else s.writeRW 0x2D0 off value

/-- PCI_CFG (R617). -/
def pciConfig (s : State) (value : Word) : State :=
  if 16 < getField value 5 5 ∨ (s.isSet F.PCI_DLUP ∧ getField value 1 9 ≠ getField (s.word (0x290 * 512 + 8)) 1 9) then
    s.ignored 0x290 8 7
  else s.writeRW 0x290 8 value

/-- A write of the management page (R534, R537, R539, R540, R541). -/
def mcbWrite (s : State) (init off : Nat) (value : Word) : State :=
  if 8 ≤ off ∧ off < 24 then (if s.isSet F.MCB_IFULL then s.ignored 0x2F0 off 7 else s.writeRW 0x2F0 off value)
  else if 24 ≤ off ∧ off < 40 then (if s.isSet F.MCB_OFULL then s.ignored 0x2F0 off 7 else s.writeRW 0x2F0 off value)
  else if off = 40 then [0, 2, 3, 5].foldl (fun s b => if getField value b 1 = 1 then mbPost s init b else s) s
  else if 48 ≤ off ∧ off < 80 then
    (if init = 0x20 then wdgConfig s init (off - 48) value
     else if getField value 32 1 = 1 then wdgKick s init (off - 48) else s.ignored 0x2F0 off 7)
  else if off = 80 then (if init = 0x20 then s.writeRW 0x2F0 off value else s.ignored 0x2F0 off 7)
  else if off = 81 then
    (if getField value 33 1 = 1 then mcReset s init
     else
       let kick := decide (getField value 32 1 = 1)
       let s := if getField value 0 16 ≠ 0 ∨ ¬ kick then mcPeriod s init (getField value 0 16) else s
       if kick then mcKick s init else s)
  else s

/-- A write of the blotter and debug page (R574 to R583, R590, R591). -/
def bltWrite (s : State) (init off : Nat) (value : Word) : State :=
  if off = 8 then
    let s := s.writeRW 0x2C0 8 value
    let s := if getField value 3 1 = 1 then blotClear s else s
    if getField value 4 1 = 1 then s.wr F.BLT_STOPPED 1 else s
  else if off = 18 then attachWrite s init (getField value 2 1 = 1)
  else if off = 19 then haltWrite s (getField value 0 33)
  else if off = 20 then resumeWrite s (getField value 0 33)
  else if off = 21 then stepWrite s (getField value 0 33)
  else if off = 24 then srvalWrite s value
  else if off = 25 then nibSelect s value
  else if off = 32 then
    (if (cmpIndex (getField value 0 2) (getField value 2 6) (getField value 8 5) (getField value 13 3)).isSome then
      s.writeRW 0x2C0 32 value else s.ignored 0x2C0 32 7)
  else if 64 ≤ off ∧ off < 96 then stimWrite s (off - 64) value
  else if off = 33 ∨ off = 34 then
    let a := viewAddr s 0x2C0 off
    let m : Word := if off = 33 then 0xFFFFFFFFFFFF#72 else 0x7FF#72
    s.setWord a ((s.word a &&& ~~~m) ||| (value &&& m))
  else s.writeRW 0x2C0 off value

/-- A write of a port's configuration or of its RELRN bit (R126, R150, R171). -/
def portWrite (s : State) (page off : Nat) (value : Word) : State :=
  let lane := decide (page < 0x200)
  let p := if lane then portAt page ((off - 32) / 16) else portAt page 0
  let rel := if lane then off - 32 else off - 8
  match p with
  | none => s.writeRW page off value
  | some p =>
    if lane ∧ (off < 32 ∨ 288 ≤ off) then s.writeRW page off value
    else if rel % 16 = 0 then laneConfigWrite s p value
    else if rel % 16 = 5 then
      (if getField value 48 1 = 1 ∧ lane then (if isCell s p then cellRelearn s p else unlearn s p) else s)
    else s.writeRW page off value

/-- A write of a word that the page lets through. CS fields are staged (R65); words without a behaviour of their own take
their RW fields (R13, R16). -/
def pageWrite (s : State) (init page off : Nat) (value : Word) : State :=
  let plain := s.writeRW page off value
  let f := (page - 0x100) / 4
  if csMask page off ≠ 0 then stageWrite s init page off value
  else if hasDoorbell page ∧ off = 8 then pageBell s init page value
  else match pageKind page with
  | some .csn =>
    if off = 10 then csnSealWrite s init value else if off = 11 then csnSignWrite (csnExpire s) init value
    else if off = 12 then (if getField value 0 1 = 1 then csnAbortWrite (csnExpire s) init else s) else plain
  | some .tim =>
    if off = 11 ∨ off = 12 ∨ (16 ≤ off ∧ off ≤ 18) then timConfigWrite s off value
    else if off = 21 then timSetWrite s value
    else if off = 19 then plain.wr F.TIM_LSRC 0
    else if off = 20 then s.errSync.writeRW page off value else plain
  | some .rul0 | some .rul =>
    if 64 ≤ off ∧ off ≤ 66 then domParamWrite s (page - 4) off value
    else if off = 67 then domCtlWrite s (page - 4) (getField value 1 1 = 1) (getField value 2 1 = 1) else plain
  | some .msh => if off = 8 ∧ 4 < getField value 2 3 then s.ignored page 8 7 else plain
  | some .fer => if off = 9 then lrdWrite s f (getField value 16 16) else plain
  | some .lnk => if off = 8 then pairConfigWrite s page value else portWrite s page off value
  | some .upl => portWrite s page off value
  | some .uplPair => if off = 8 then pairConfigWrite s page value else plain
  | some .pub =>
    if off = 35 then schtWrite s f value else if off = 36 then schlWrite s f value
    else if off = 40 then (if 1000 < getField value 2 10 then s.ignored page 40 7 else biSample plain f) else plain
  | some .dsk =>
    if off = 8 then runWrite s (page - 0x200) (getField value 0 1 = 1)
    else if off = 9 then s.writeRW page 9 (putField value 0 2 0) else plain
  | some .icu => if 32 ≤ off ∧ off < 192 then icuSourceWrite s (160 * (page - 0x240) + (off - 32)) value else plain
  | some .dmc => if off = 11 then dmcConfig s (page - 0x260) value else plain
  | some .dma => if off = 21 then swreqWrite s (getField value 0 32) else plain
  | some .ucl => if off % 2 = 0 ∧ getField value 61 2 = 3 then s.ignored page off 7 else plain
  | some .pci => if off = 8 then pciConfig s value else plain
  | some .pwr =>
    if off = 24 then
      let a := viewAddr s page off
      s.setWord a (putField (s.word a) 36 12 (getField value 36 12))
    else plain
  | some .bst => if off = 13 ∧ (getField value 1 16 < 10 ∨ 60000 < getField value 1 16) then s.ignored page 13 7 else plain
  | some .blt => bltWrite s init off value
  | some .ten =>
    if off = 52 ∨ off = 53 then vfMapWrite s off value
    else if 384 ≤ off then qpTailWrite s (off - 384) (getField value 0 16) else plain
  | some .dpx =>
    if 8 ≤ off ∧ off ≤ 11 then dpxConfig s init off value
    else if off = 12 then (if getField value 11 1 = 1 then dpxClear s else s) else plain
  | some .mcb => mcbWrite s init off value
  | _ => plain

/-! ### Accesses -/

/-- What an access to a register page comes to: performed with a value, a bus error, or a wait for a reset to end. -/
inductive Access where
  | done (value : Word)
  | fault (code : Nat)
  | stall
  deriving DecidableEq, Repr

/-- The words of a desk's page that its scribes share are those of its first scribe's page (R397). -/
def deskWord (page off : Nat) : Nat :=
  if 0x200 ≤ page ∧ page ≤ 0x21F ∧ 32 ≤ off then 0x200 + 8 * ((page - 0x200) / 8) else page

/-- A bus error of an initiator. The uplink queue pairs and the tenant commands have no initiator code in the spec: BINIT is a free
value for them (codes 24h and above are the model's own). -/
def State.busErrFor (s : State) (addr code init : Nat) (write : Bool) : State :=
  if init < 0x24 then s.busErr addr code init write
  else (s.free 8).2.busErr addr code (s.free 8).1.toNat write

/-- An access to a register page (R51 to R57). `size` is in bytes; a value to write makes it a write. Its bus error is captured
on the DEV page (R54, R73). -/
def regAccess (s : State) (init vf page off size : Nat) (value : Option Word) (inspect : Bool) : Access × State :=
  let page := deskWord page off
  let code : Option Nat :=
    if pageKind page = none then some 3
    else if ¬ pageAdmits s init vf page off value.isSome then some 6
    else if size ≠ 8 then some 1
    else accessFault s init vf page off value.isSome
  match code with
  | some c => (.fault c, s.busErrFor (pageAddr page off) c init value.isSome)
  | none =>
    if ¬ alwaysOn page off ∧ pageInReset s page then (.stall, s)
    else match value with
      | some v => (.done 0, pageWrite s init page off v)
      | none => let r := pageRead s init page off inspect
        (.done r.1, r.2)

/-- An access that comes as a command: a stalled one waits (R56). -/
def commandAccess (s : State) (init vf page off size : Nat) (value : Option Word) : State :=
  match regAccess s init vf page off size value false with
  | (.stall, s) => s.stall init vf page off value.isSome (value.getD 0) false
  | (_, s) => s

/-- REGISTER_WRITE (R57). -/
def execRegisterWrite (t init vf page off size : Nat) (value : Word) (s : State) : Out :=
  .next (commandAccess (s.tick t) init vf page off size (some value))

/-- STAGED_WRITE (R77). -/
def execStagedWrite (t init page off : Nat) (value : Word) (s : State) : Out :=
  .next (commandAccess (s.tick t) init 0 page off 8 (some value))

/-- CLEAR_ON_READ (R60). -/
def execClearOnRead (t init vf page off size : Nat) (s : State) : Out :=
  .next (commandAccess (s.tick t) init vf page off size none)

/-- QP_RX_DOORBELL (R513). -/
def execQpRxDoorbell (t init vf qp tail : Nat) (s : State) : Out :=
  .next (if qp < 64 then commandAccess (s.tick t) init vf 0x2D0 (384 + 2 * qp) 8 (some (BitVec.ofNat 72 (tail % 65536))) else s.tick t)

/-- QP_TX_DOORBELL (R513). -/
def execQpTxDoorbell (t init vf qp tail : Nat) (s : State) : Out :=
  .next (if qp < 64 then commandAccess (s.tick t) init vf 0x2D0 (385 + 2 * qp) 8 (some (BitVec.ofNat 72 (tail % 65536))) else s.tick t)

/-- A stalled access by its number. -/
def State.stalledAt (s : State) (id : Nat) : Option StalledAccess := s.stalled.find? (fun a => a.id == id)
def State.unstall (s : State) (id : Nat) : State := { s with stalled := s.stalled.filter (fun a => a.id ≠ id) }

/-- STALLED_ACCESS_RESUME (R56, R57): the reset has ended, and the oldest access of its initiator to the page is performed. An
instruction that waits is sent again instead. -/
def execStalledAccessResume (t acc : Nat) (s : State) : Out :=
  let s := s.tick t
  .next (match s.stalledAt acc with
    | none => s
    | some a =>
      let older := s.stalled.any (fun b => decide (b.id < a.id) && b.init == a.init && b.page == a.page)
      if a.insn ∨ older ∨ pageInReset s a.page then s
      else commandAccess (s.unstall acc) a.init a.vf a.page a.off 8 (if a.write then some a.value else none))

/-! ### Voted fields -/

/-- One visit to a voted word (R62, R63): the copies as upsets left them, field by field. -/
def voteField (s : State) (page word : Nat) (c0 c1 c2 : Word) (f : FieldDesc) (r : Word × Bool) : Word × Bool :=
  let a := getField c0 f.lo f.len
  let b := getField c1 f.lo f.len
  let c := getField c2 f.lo f.len
  if ¬ f.voted then r
  else if a ≠ b ∧ b ≠ c ∧ a ≠ c then (putField r.1 f.lo f.len (getField (resetWord (viewAddr s page word)) f.lo f.len), true)
  else (putField r.1 f.lo f.len (if a = b ∨ a = c then a else b), r.2)

/-- What a field set to its reset value by R63 entails beyond its word: a port, a trip line, a scribe and the arm state take it
as they take any change. -/
def voteEntails (s : State) (page word : Nat) (value : Word) : State :=
  let f := (page - 0x100) / 4
  match pageKind page with
  | some .lnk => if word = 8 ∨ word < 32 then s.setWord (page * 512 + word) value
      else match portAt page ((word - 32) / 16) with
        | some p => if lcfgBad s p value then s.setWord (page * 512 + word) value else laneConfigWrite s p value
        | none => s
  | some .upl => match portAt page 0 with
      | some p => if lcfgBad s p value then s.setWord (page * 512 + word) value else laneConfigWrite s p value
      | none => s
  | some .dsk => if word = 8 then runWrite s (page - 0x200) (getField value 0 1 = 1) else s.setWord (page * 512 + word) value
  | some .pub => let s := s.setWord (viewAddr s page word) value
      if word = 32 then tripNow s f else s
  | some .csn => let s := s.setWord (page * 512 + word) value
      if word = 13 ∧ getField value 0 1 = 0 then signoffAll s else s
  | _ => s.setWord (viewAddr s page word) value

/-- VOTE_SCRUB (R62 to R64): the copies of a word's voted fields carry the upsets `up0` to `up2`; a visit corrects a minority
copy and counts the word; a field without majority takes its reset value. -/
def execVoteScrub (t page word : Nat) (up0 up1 up2 : Word) (written : Bool) (s : State) : Out :=
  let s := s.tick t
  .next (match wordFields page word with
    | none => s
    | some l =>
      let m := fieldMask l (fun f => f.voted)
      let v := s.word (viewAddr s page word)
      let c0 := v ^^^ (up0 &&& m)
      let c1 := v ^^^ (up1 &&& m)
      let c2 := v ^^^ (up2 &&& m)
      if written ∨ word < 2 ∨ (c0 = c1 ∧ c1 = c2) then s
      else
        let r := l.foldl (fun r f => voteField s page word c0 c1 c2 f r) (v, false)
        let s := (s.bump (F.HDR_TCNT page)).wr (F.HDR_TOFS page) word
        let s := if r.2 then (s.wr (F.HDR_TRIPLE page) 1).pageErr page 1 word 0 else s
        if r.1 = v then s else voteEntails s page word r.1)

end Sys2Proof.Machine
end

