-- ==== Sys2Proof/Machine/Commit.lean ====
section
/-! DEFINITION. The commit instant (R84, R85): every entry of the proposal takes effect together, and what changes with it.
Decisions: log entry 24 (DEDUCED). -/

namespace Sys2Proof.Machine
open Sys2Proof

/-- A trip line after a commit (R344, R355, R356): BCLR clears the latch, a cleared TEN or TMODE cancels a pending edge, and the
drive follows the new word. -/
def commitTrip (s : State) (f : Nat) : State :=
  let s := if s.isSet (F.PUB_BCLR f) then (s.wr (F.PUB_BLATCH f) 0).wr (F.PUB_BCLR f) 0 else s
  let s := if s.isSet (F.PUB_SPEND f) ∧ ¬ (s.isSet (F.PUB_TEN f) ∧ s.isSet (F.PUB_TMODE f)) then schedCancel s f else s
  tripNow s f

/-- A change of ARMED (R89, R342, R356). -/
def commitArmed (s : State) (was : Bool) : State :=
  let on := s.isSet F.CSN_ARMED
  if was ∧ ¬ on then
    signoffAll (forEach (List.range 64) s (fun s f => if s.isSet (F.PUB_SPEND f) then schedCancel s f else s))
  else if ¬ was ∧ on then forEach (List.range 64) s tripNow else s

/-- Nibs whose bench bit a commit has cleared are released (R581). -/
def commitBench (s : State) (was : Nat) : State :=
  let now := s.rd F.BLT_BENCH
  forEach ((List.range 64).filter (fun f => bitOf was f && !bitOf now f)) s (fun s f =>
    forEach (List.range 18) s (fun s n => releaseNib s f n))

/-- The entries of a proposal that are slice-table words (R304, R305). -/
def sliceEntries (es : List (Nat × Word)) : List (Nat × Word) :=
  es.filter (fun e => decide (0x2D0 * 512 + 32 ≤ e.1) && decide (e.1 < 0x2D0 * 512 + 48))

/-- What a commit at T changes (R85, R88): the values first, then the fields that act at once. -/
def commitAll (s : State) (T : Nat) : State :=
  let before := s
  let es := s.csn.entries
  let s := csnApply s T
  let changed (a : Nat) : Bool := decide (s.word a ≠ before.word a)
  let s := if es.any (fun e => e.1 == 2 * 512 + 10) then s.reselect else s
  let lines := (List.range 64).filter (fun f => es.any (fun e => e.1 == tlCfgAddr f))
  let s := commitArmed (forEach lines s commitTrip) (before.isSet F.CSN_ARMED)
  let s := commitBench s (before.rd F.BLT_BENCH)
  let sl := sliceEntries es
  if sl.any (fun e => changed e.1) then s.rulEvent (.slice (sl.map (fun e => s.word e.1))) else s

/-- COMMIT_INSTANT (R85): the instant T fixed when the countersign was accepted has come. -/
def execCommitInstant (t : Nat) (s : State) : Out :=
  let s := s.tick t
  .next (match s.csn.commitAt with
    | some T => if s.rd F.CSN_CST = 3 ∧ T ≤ s.devTime then commitAll s T else s
    | none => s)

end Sys2Proof.Machine
end

