-- ==== Sys2Proof/Machine/Phys.lean ====
section
/-! DEFINITION. Accesses by physical address (R6, R27, R28, R35 to R38, R53, R54): the ranges of the map, and a word read or
written by an initiator.
Decisions: log entries 21 (DEDUCED), 70 (DEDUCED). -/

namespace Sys2Proof.Machine
open Sys2Proof

/-- The ranges of the physical map (R35), with the place within each. -/
inductive Region where
  | dram
  | inkwell (f a : Nat)
  | page (p off : Nat)
  | pcie (offset : Nat)
  | sram (w : Nat)
  | rom (w : Nat)
  | blotter (w : Nat)
  | flash (w : Nat)
  | outside
  deriving DecidableEq, Repr

/-- The range of an address (R35). -/
def regionOf (a : Nat) : Region :=
  if a < 0x80000000000 then .dram
  else if 0xF0000000000 ≤ a ∧ a < 0xF0008000000 then
    .inkwell ((a - 0xF0000000000) / 0x200000) ((a - 0xF0000000000) % 0x200000 / 8)
  else if 0xF8000000000 ≤ a ∧ a < 0xFC000000000 then .page ((a - 0xF8000000000) / 0x1000) ((a - 0xF8000000000) % 0x1000 / 8)
  else if 0xFC000000000 ≤ a ∧ a < 0xFE000000000 then .pcie (a - 0xFC000000000)
  else if 0xFF000000000 ≤ a ∧ a < 0xFF000080000 then .sram ((a - 0xFF000000000) / 8)
  else if 0xFF000100000 ≤ a ∧ a < 0xFF000120000 then .rom ((a - 0xFF000100000) / 8)
  else if 0xFF001000000 ≤ a ∧ a < 0xFF001800000 then .blotter ((a - 0xFF001000000) / 8)
  else if 0xFF400000000 ≤ a ∧ a < 0xFF800000000 then .flash ((a - 0xFF400000000) / 8)
  else .outside

/-- What an access comes to: performed with a value and a poison indication, a bus error, a wait for a page's reset to end, or a
wait for a line of DRAM. -/
inductive Phys where
  | ok (value : Word) (poison : Bool)
  | err (code : Nat)
  | stall (page off : Nat)
  | wait (line : Nat)
  deriving DecidableEq, Repr

/-- The words of an inkwell that a slow-plane write does not reach (R28, R239): state areas, sample rings, the ledger. -/
def inkOwned (s : State) (f a : Nat) : Bool :=
  decide (0x3F000 ≤ a) ||
  (allPlaces s).any (fun q => decide (q.2.2.fer = f) && decide (q.2.2.st ≤ a) && decide (a < q.2.2.st + 2 * (s.fn q.1).desc.sw)) ||
  (ringWords s f).any (fun r => decide (r.1 ≤ a) && decide (a < r.1 + r.2))

/-- The bus error that an access outside DRAM and the pages meets (R36, R37, R53, R532, R615). -/
def regionFault (s : State) (init : Nat) (r : Region) (write : Bool) : Option Nat :=
  let mcDbg := decide (init = 0x20) || decide (init = 0x21)
  match r with
  | .inkwell f a => if ¬ ferRuns s f then some 7 else if write ∧ inkOwned s f a then some 5 else none
  | .sram _ | .rom _ => if mcDbg then none else some 6
  | .blotter _ => if mcDbg ∨ ((init < 0x20 ∨ init = 0x23) ∧ s.isSet F.BLT_RDEN) then none else some 6
  | .flash _ => if write then some 6 else none
  | .pcie _ => if domPower s 2 ≠ 1 ∧ ¬ emulated s 130 then some 7 else if ¬ s.isSet F.PCI_DLUP then some 6 else none
  | .outside => some 3
  | _ => none

/-- The bus error of an access to DRAM (R36, R542). -/
def dramFault (s : State) (addr : Nat) : Option Nat :=
  if dramCapacity s ≤ addr then some 3 else if domPower s 0 ≠ 1 ∧ ¬ emulated s 128 then some 7 else none

/-- A read of an inkwell word through the mesh port (R28, R276): an uncorrectable error is counted and captured. -/
def inkRead (s : State) (f a : Nat) (ecc : Ecc) : Phys × State :=
  match ecc with
  | .clean => (.ok (s.ink f a) false, s)
  | .corrected => (.ok (s.ink f a) false, s.bump (F.FER_ICOR f))
  | .uncorrectable => (.ok (s.ink f a) true, (inkUncorr s f a).pageErr (ferPage f) 0x10 10 a)

/-- The octets of a word outside the device, one to a byte with bit 8 zero; the spec does not give them. -/
def outerWord (s : State) : Word × State :=
  let r := s.free 64
  ((List.range 8).foldl (fun w k => putField w (9 * k) 8 (bitsOf r.1.toNat (8 * k) 8)) 0, r.2)

/-- The words of the flash window (R532). -/
def flashWord (s : State) (w : Nat) : Word := (packWords (s.flashOctets (s.mcu.xbase + 9 * w) 9)).headD 0

/-- Whether a request to the PCIe window completes with an error (R615): the other side decides. -/
def outerFails (s : State) : Bool × State := ((s.free 1).1 = 1#1, (s.free 1).2)

/-- The word that holds an address, read by an initiator. -/
def physRead (s : State) (init vf addr size : Nat) (inspect : Bool) (ecc : Ecc) : Phys × State :=
  let fail (s : State) (c : Nat) : Phys × State := (.err c, s.busErrFor addr c init false)
  match regionOf addr with
  | .dram => match dramFault s addr with
    | some c => fail s c
    | none => match ncRead s init (addr / 64) with
      | (some (ws, p), s) => (.ok (ws.getD (addr / 8 % 8) 0) p, s)
      | (none, s) => (.wait (addr / 64), s)
  | .page p off => match regAccess s init vf p off (if addr % 8 = 0 then size else 1) none inspect with
    | (.done v, s) => (.ok v false, s)
    | (.fault c, s) => (.err c, s)
    | (.stall, s) => (.stall p off, s)
  | r => match regionFault s init r false with
    | some c => fail s c
    | none => match r with
      | .inkwell f a => inkRead s f a ecc
      | .sram w => (.ok (tget s.mcu.sram w) false, s)
      | .rom w => (.ok (Config.bootRom w) false, s)
      | .blotter w => (.ok (tget s.blot.mem w) false, s)
      | .flash w => (.ok (flashWord s w) false, s)
      | .pcie _ => if (outerFails s).1 then fail (outerFails s).2 6
          else (.ok (outerWord (outerFails s).2).1 false, (outerWord (outerFails s).2).2)
      | _ => fail s 3

/-- The bytes of a word that a mask covers, as place in the line and value. -/
def maskBytes (addr : Nat) (value mask : Word) : List (Nat × Nat) :=
  ((List.range 8).filter (fun k => getField mask (9 * k) 9 ≠ 0)).map (fun k => (addr % 64 / 8 * 8 + k, getField value (9 * k) 9))

/-- The word that holds an address, written by an initiator in the bytes of a mask. -/
def physWrite (s : State) (init vf addr size : Nat) (value mask : Word) : Phys × State :=
  let fail (s : State) (c : Nat) : Phys × State := (.err c, s.busErrFor addr c init true)
  let merge (old : Word) : Word := (old &&& ~~~mask) ||| (value &&& mask)
  let done (s : State) : Phys × State := (.ok 0 false, s)
  match regionOf addr with
  | .dram => match dramFault s addr with
    | some c => fail s c
    | none => done (ncWrite s init (addr / 64) (maskBytes addr value mask))
  | .page p off => match regAccess s init vf p off (if addr % 8 = 0 then size else 1) (some value) false with
    | (.done _, s) => done s
    | (.fault c, s) => (.err c, s)
    | (.stall, s) => (.stall p off, s)
  | r => match regionFault s init r true with
    | some c => fail s c
    | none => match r with
      | .inkwell f a => done (s.setInk f a (merge (s.ink f a)))
      | .sram w => done { s with mcu := { s.mcu with sram := tset s.mcu.sram w (merge (tget s.mcu.sram w)) } }
      | .rom _ | .blotter _ => done s
      | .pcie _ => if (outerFails s).1 then fail (outerFails s).2 6 else done (outerFails s).2
      | _ => fail s 3

/-- INKWELL_WINDOW_WRITE (R28). -/
def execInkwellWindowWrite (t init ferrule addr : Nat) (value : Word) (s : State) : Out :=
  .next (if ferrule < 64 ∧ addr < 2 ^ 18 then
      (physWrite (s.tick t) init 0 (0xF0000000000 + ferrule * 0x200000 + addr * 8) 8 value allOnes).2
    else s.tick t)

/-- INKWELL_WINDOW_READ (R28). -/
def execInkwellWindowRead (t init ferrule addr : Nat) (ecc : Ecc) (s : State) : Out :=
  .next (if ferrule < 64 ∧ addr < 2 ^ 18 then
      (physRead (s.tick t) init 0 (0xF0000000000 + ferrule * 0x200000 + addr * 8) 8 false ecc).2
    else s.tick t)

end Sys2Proof.Machine
end

