-- ==== Sys2Proof/Machine/Dma.lean ====
section
/-! DEFINITION. The bursts of the DMA engine (R494 to R504): descriptors, the transform, reads and writes of a burst, its
completion, and a target that does not answer.
Decisions: log entry 65 (DEDUCED). -/

namespace Sys2Proof.Machine
open Sys2Proof

/-! ### The transform (R497, R498) -/

/-- One octet into a reflected CRC of 32 bits with a polynomial (R391). -/
def crcOctet (poly c o : Nat) : Nat :=
  (List.range 8).foldl (fun c _ => if c % 2 = 1 then (c / 2) ^^^ poly else c / 2) ((c % 2 ^ 32) ^^^ o % 256)

def crcPoly (xf : Nat) : Nat := if xf = 1 then 0x82F63B78 else 0xEDB88320

/-- The bytes of words, in address order. -/
def bytesOf (ws : List Word) : List Nat := ws.flatMap (fun w => (List.range 8).map (fun k => getField w (9 * k) 9))

/-- The words of bytes. -/
def wordsOf (l : List Nat) : List Word :=
  (List.range (l.length / 8)).map (fun i => (List.range 8).foldl (fun w k => putField w (9 * k) 9 (l.getD (8 * i + k) 0)) 0)

/-- The octets of the stream in the form FORM names. -/
def formOctets (packed : Bool) (ws : List Word) : List Nat :=
  if packed then unpackWords ws else (bytesOf ws).map (· % 256)

/-- Groups of `n` bytes with their halves exchanged. -/
def swapHalves (n : Nat) (l : List Nat) : List Nat :=
  (List.range (l.length / n)).flatMap (fun i => let g := (l.drop (n * i)).take n; g.drop (n / 2) ++ g.take (n / 2))

/-- The channel after words of the source stream were read. -/
def dmaTake (xf : Nat) (packed : Bool) (c : DmaChan) (ws : List Word) : DmaChan :=
  if xf = 1 ∨ xf = 2 then
    { c with out := c.out ++ bytesOf ws, crc := (formOctets packed ws).foldl (crcOctet (crcPoly xf)) c.crc }
  else if xf = 3 then { c with out := c.out ++ swapHalves 2 (bytesOf ws) }
  else if xf = 4 then { c with out := c.out ++ swapHalves 4 (bytesOf ws) }
  else if xf = 5 then
    let o := c.octs ++ (bytesOf ws).map (· % 256)
    let k := o.length / 9 * 9
    { c with out := c.out ++ bytesOf (packWords (o.take k)), octs := o.drop k }
  else if xf = 6 then { c with out := c.out ++ unpackWords ws }
  else { c with out := c.out ++ bytesOf ws }

/-- The channel after the source stream ended: the CRC word, or what is left over filled with zeros. -/
def dmaFinish (xf : Nat) (packed : Bool) (c : DmaChan) : DmaChan :=
  let fin := c.crc ^^^ 0xFFFFFFFF
  let out := if xf = 1 ∨ xf = 2 then
      c.out ++ bytesOf [if packed then BitVec.ofNat 72 fin
        else (List.range 4).foldl (fun w k => putField w (9 * k) 8 (bitsOf fin (8 * k) 8)) 0]
    else if xf = 5 then c.out ++ bytesOf (packWords c.octs)
    else c.out ++ List.replicate ((8 - c.out.length % 8) % 8) 0
  { c with out := out, octs := [], ended := true }

/-! ### Requests -/

/-- What a request of the engine comes to. -/
inductive DmaRes where
  | got (ws : List Word)
  | fails (code bcode : Nat)
  | waits (line : Nat)
  deriving DecidableEq, Repr

/-- The engine's access that a page's reset holds up is on record until it is performed or times out (R55, R502). -/
def dmaStall (s : State) (n page off : Nat) (write : Bool) (value : Word) : State :=
  if s.stalled.any (fun a => a.init == 0x22 && a.vf == n) then s else s.stall 0x22 n page off write value true
def dmaUnstall (s : State) (n : Nat) : State :=
  { s with stalled := s.stalled.filter (fun a => !(a.init == 0x22 && a.vf == n)) }

/-- What an access to the physical map means for the channel. -/
def dmaResult (n addr : Nat) (write : Bool) (value : Word) (r : Phys × State) : DmaRes × State :=
  match r with
  | (.ok w false, s) => (.got [w], dmaUnstall s n)
  | (.ok _ true, s) => (.fails 6 0, dmaUnstall s n)
  | (.err c, s) => (.fails 5 c, dmaUnstall s n)
  | (.stall p off, s) => (.waits (addr / 64), dmaStall s n p off write value)
  | (.wait line, s) => (.waits line, s)

/-- A read of `k` words of one line of DRAM, or of one word elsewhere (R500). A line that the engine still has to write is read
after the write (R459). -/
def dmaReads (s : State) (n addr k : Nat) : DmaRes × State :=
  match regionOf addr with
  | .dram => match dramFault s addr with
    | some c => (.fails 5 c, s.busErrFor addr c 0x22 false)
    | none =>
      if s.mem.posted.any (fun p => p.src == 0x22 && p.line == addr / 64) then (.waits (addr / 64), s)
      else match ncRead s 0x22 (addr / 64) with
        | (some (_, true), s) => (.fails 6 0, s)
        | (some (ws, false), s) => (.got ((ws.drop (addr / 8 % 8)).take k), s)
        | (none, s) => (.waits (addr / 64), s)
  | _ => dmaResult n addr false 0 (physRead s 0x22 n addr 8 false .clean)

/-- A write of words of one line of DRAM, which its home agent orders later, or of one word elsewhere (R459, R500). -/
def dmaWrites (s : State) (n addr : Nat) (ws : List Word) : DmaRes × State :=
  match regionOf addr with
  | .dram => match dramFault s addr with
    | some c => (.fails 5 c, s.busErrFor addr c 0x22 true)
    | none =>
      let p : List Posted := (wordBytes addr ws).map (fun x => { src := 0x22, chan := n, line := x.1, wr := x.2 })
      let s := s.setDma n { s.dmaChan n with lines := insertNat (addr / 64) (s.dmaChan n).lines }
      (.got [], { s with mem := { s.mem with posted := s.mem.posted ++ p } })
  | _ => dmaResult n addr true (ws.headD 0) (physWrite s 0x22 n addr 8 (ws.headD 0) allOnes)

/-- How many bytes from an address one request covers. -/
def dmaSpan (addr : Nat) : Nat := if regionOf addr = .dram then 64 - addr % 64 else 8

/-- A list of a channel. -/
def dmaList (c : DmaChan) (dst : Bool) : DmaList := if dst then c.dst else c.src
def setDmaList (s : State) (n : Nat) (dst : Bool) (l : DmaList) : State :=
  s.setDma n (if dst then { s.dmaChan n with dst := l } else { s.dmaChan n with src := l })

/-- The first error of a channel is kept (R501); the output in hand is dropped by a second. -/
def dmaErr (s : State) (n : Nat) (e : DmaErr) : State :=
  let c := s.dmaChan n
  s.setDma n (if c.err.isSome then { c with out := [] } else { c with err := some e, out := if e.dst then [] else c.out })

/-- A request was issued (R501): its time, and the line that is waited for. -/
def dmaIssued (s : State) (n : Nat) (wait : Option Nat) : State :=
  let c := s.dmaChan n
  s.setDma n { c with since := if wait.isSome ∧ c.wait = wait then c.since else s.now, wait := wait }

/-! ### The moves of a burst -/

/-- A descriptor that has been read (R494, R495). -/
def dmaTakeDesc (s : State) (n : Nat) (dst : Bool) (a : Nat) (w0 w1 : Word) : State :=
  let s := s.bump (F.DMB_NENT n)
  let l := { dmaList (s.dmaChan n) dst with count := (dmaList (s.dmaChan n) dst).count + 1, desc := a }
  let s := setDmaList s n dst l
  let addr := getField w0 0 44
  let len := getField w1 0 32
  let bad (code data : Nat) : State := dmaErr s n { code := code, desc := a, dst := dst, addr := data }
  if getField w0 44 28 ≠ 0 ∨ getField w1 35 37 ≠ 0 then bad 2 0
  else if getField w1 33 1 = 1 then
    (if addr % 8 ≠ 0 then bad 2 0 else setDmaList s n dst { l with next := addr })
  else if addr % 8 ≠ 0 ∨ len % 8 ≠ 0 then bad 1 addr
  else setDmaList s n dst { l with inHand := true, addr := addr, left := len, last := getField w1 32 1 = 1,
                                   irq := getField w1 34 1 = 1, next := a + 16 }

/-- The next descriptor of a list is fetched (R494, R496). The flag tells whether the engine goes on. -/
def dmaFetch (s : State) (n : Nat) (dst : Bool) : State × Bool :=
  let l := dmaList (s.dmaChan n) dst
  let a := l.next
  let limit := if dmaCfg s n 22 17 = 0 then 65536 else dmaCfg s n 22 17
  let bad (s : State) (code bcode : Nat) : State × Bool := (dmaErr s n { code := code, bcode := bcode, desc := a, dst := dst }, true)
  if dmaCfg s n 39 1 = 0 ∧ limit < l.count + 1 then bad s 3 0
  else if ¬ dmaAllowed s n a 16 then bad s 7 0
  else match dmaReads s n a 1 with
    | (.fails c b, s) => bad s c b
    | (.waits line, s) => (dmaIssued s n (some line), false)
    | (.got w0, s) => match dmaReads s n (a + 8) 1 with
      | (.fails c b, s) => bad s c b
      | (.waits line, s) => (dmaIssued s n (some line), false)
      | (.got w1, s) => (dmaTakeDesc (dmaIssued s n none) n dst a (w0.headD 0) (w1.headD 0), true)

/-- A descriptor whose data is done is given up; IRQ sets the channel's event bit. -/
def dmaDescDone (s : State) (n : Nat) (dst : Bool) : State :=
  let l := dmaList (s.dmaChan n) dst
  setDmaList (if l.irq then s.setBit F.DMA_CEVT n else s) n dst { l with inHand := false }

/-- Output is written through the destination list (R499). -/
def dmaPut (s : State) (n : Nat) : State × Bool :=
  let c := s.dmaChan n
  let l := c.dst
  if ¬ l.inHand then (if l.last then (dmaErr s n { code := 8, desc := l.desc, dst := true }, true) else dmaFetch s n true)
  else if l.left = 0 then (dmaDescDone s n true, true)
  else
    let k := min (min (dmaSpan l.addr) l.left) (c.out.length / 8 * 8)
    let bad (s : State) (code bcode : Nat) : State × Bool :=
      (dmaErr s n { code := code, bcode := bcode, desc := l.desc, dst := true, addr := l.addr }, true)
    if ¬ dmaAllowed s n l.addr k then bad s 7 0
    else match dmaWrites s n l.addr (wordsOf (c.out.take k)) with
      | (.fails e b, s) => bad s e b
      | (.waits line, s) => (dmaIssued s n (some line), false)
      | (.got _, s) =>
        let s := dmaIssued s n none
        let s := s.setDma n { s.dmaChan n with out := c.out.drop k, dst := { l with addr := l.addr + k, left := l.left - k } }
        (s.wr (F.DMB_DBYTES n) (s.rd (F.DMB_DBYTES n) + k), true)

/-- Source data is read (R497). -/
def dmaGet (s : State) (n : Nat) : State × Bool :=
  let c := s.dmaChan n
  let l := c.src
  if ¬ l.inHand then dmaFetch s n false
  else if l.left = 0 then
    let s := dmaDescDone s n false
    (if l.last then s.setDma n (dmaFinish (dmaXf s n) (dmaPacked s n) (s.dmaChan n)) else s, true)
  else
    let k := min (min (dmaSpan l.addr) l.left) c.quota
    let bad (s : State) (code bcode : Nat) : State × Bool :=
      (dmaErr s n { code := code, bcode := bcode, desc := l.desc, addr := l.addr }, true)
    if ¬ dmaAllowed s n l.addr k then bad s 7 0
    else match dmaReads s n l.addr (k / 8) with
      | (.fails e b, s) => bad s e b
      | (.waits line, s) => (dmaIssued s n (some line), false)
      | (.got ws, s) =>
        let s := dmaIssued s n none
        let c := dmaTake (dmaXf s n) (dmaPacked s n) (s.dmaChan n) ws
        let s := s.setDma n { c with quota := c.quota - k, src := { l with addr := l.addr + k, left := l.left - k } }
        ((s.wr (F.DMB_SBYTES n) (s.rd (F.DMB_SBYTES n) + k)).wr (F.DMB_CRC n) c.crc, true)

/-- The source has no more to give to this burst. -/
def dmaDrained (c : DmaChan) : Bool := c.ended || decide (c.quota = 0) || c.err.isSome

/-- One move: output by full lines, and by whole words once the burst's source is drained; otherwise more source. The flag tells
whether another move may follow. -/
def dmaMove (s : State) (n : Nat) : State × Bool :=
  let c := s.dmaChan n
  if 64 ≤ c.out.length ∨ (dmaDrained c ∧ 8 ≤ c.out.length) then dmaPut s n
  else if dmaDrained c then (s, false)
  else dmaGet s n

def dmaMoves : Nat → State → Nat → State
  | 0, s, _ => s
  | k + 1, s, n => match dmaMove s n with
    | (s, true) => dmaMoves k s n
    | (s, false) => s

/-- A channel that may start a burst (R500, R503). -/
def dmaReady (s : State) (n : Nat) : Bool := decide (s.rd (F.DMB_CST n) = 2) && !(s.dmaChan n).busy && dmaRequest s n

/-- The channel whose turn it is: the first ready one after the one that moved last. -/
def dmaTurn (s : State) : Option Nat :=
  ((List.range 32).map (fun k => (s.dmaLast + 1 + k) % 32)).find? (fun n => dmaReady s n)

/-- The most moves of one command; a burst that needs more goes on with the next. -/
def dmaFuel : Nat := 1024

/-- DMA_BURST (R500, R503): the channel whose turn it is starts a burst, or a burst that waited goes on. A squash issues no
further request (R505). -/
def execDmaBurst (t chan : Nat) (s : State) : Out :=
  let s := s.tick t
  let c := s.dmaChan chan
  .next (if 32 ≤ chan then s
    else if c.busy then (if c.stop = 2 ∨ c.stop = 4 then s else dmaMoves dmaFuel s chan)
    else if (List.range 32).any (fun n => (s.dmaChan n).busy) ∨ dmaTurn s ≠ some chan then s
    else
      let s := { s.setDma chan { c with busy := true, quota := dmaBurst s chan * 64, lines := [], since := s.now } with dmaLast := chan }
      dmaMoves dmaFuel (s.wr (F.DMB_WAIT chan) 0) chan)

/-- A channel gives up its burst. -/
def dmaRelease (s : State) (n : Nat) : State :=
  (dmaUnstall s n).setDma n { s.dmaChan n with busy := false, drew := false, lines := [], wait := none }

/-- A burst whose requests are settled ends (R500, R501, R503 to R505). -/
def dmaBurstEnd (s : State) (n : Nat) : State :=
  let c := s.dmaChan n
  match c.err with
  | some e => dmaStopped (dmaFail (dmaRelease s n) n e) n
  | none =>
    if c.stop = 2 ∨ c.stop = 4 then dmaStopped (dmaRelease s n) n
    else
      let s := if c.drew then s.bump (F.DMB_WDRAW n) else s
      let f := dmaReqCode s n - 0x40
      let s := dmaRelease s n
      let s := if dmaCfg s n 13 1 = 1 then
          (let v := (s.rd (F.FER_LRD f) + 2 * dmaBurst s n) % 65536
           s.gated 0x22 (ferPage f) 9 (BitVec.ofNat 72 (v * 2 ^ 16)) (fun s => lrdWrite s f v)) else s
      if c.stop ≠ 0 then dmaStopped s n
      else if c.ended then
        let s := (s.wr (F.DMB_CST n) 4).wr (F.DMB_WAIT n) 0
        dmaEvent (if dmaXf s n = 1 ∨ dmaXf s n = 2 then s.wr (F.DMB_CRC n) (c.crc ^^^ 0xFFFFFFFF) else s) n
      else dmaShowWait s n

/-- Whether a burst has issued all that it will, and all of it is settled. -/
def dmaSettled (s : State) (n : Nat) : Bool :=
  let c := s.dmaChan n
  let squash := decide (c.stop = 2) || decide (c.stop = 4)
  c.busy && (squash || (c.wait.isNone && dmaDrained c && decide (c.out.length < 8))) && c.lines.all (linePerformed s 0x22)

/-- DMA_BURST_COMPLETE (R503). -/
def execDmaBurstComplete (t chan : Nat) (s : State) : Out :=
  let s := s.tick t
  .next (if dmaSettled s chan then dmaBurstEnd s chan else s)

/-- DMA_TARGET_TIMEOUT (R501, R502): a request has had no response for 50 µs. -/
def execDmaTargetTimeout (t chan : Nat) (s : State) : Out :=
  let s := s.tick t
  let c := s.dmaChan chan
  .next (if c.busy ∧ ¬ dmaSettled s chan ∧ c.since + 50000 ≤ s.now ∧ (c.wait.isSome ∨ c.lines.any (fun l => !linePerformed s 0x22 l)) then
      dmaBurstEnd (dmaErr s chan { code := 4, desc := if c.wait.isSome then c.src.desc else c.dst.desc, dst := c.wait.isNone,
                                   addr := (c.wait.getD (c.lines.headD 0)) * 64 }) chan
    else s)

end Sys2Proof.Machine
end

