-- ==== Sys2Proof/Machine/Walk.lean ====
section
/-! DEFINITION. Translation (R429 to R446): tables, the walk of both stages, permissions, accessed and dirty bits, the
translation caches, and their invalidation.
Decisions: log entry 55 (DEDUCED). -/

namespace Sys2Proof.Machine
open Sys2Proof

/-- What an exception reports (R403, R409): code, SUB, whether it is taken at H, SPLIT, NUM, FADDR, FPADDR, the instruction half
and the saved PC. -/
structure Exc where
  code : Nat
  sub : Nat := 0
  atH : Bool := false
  split : Bool := false
  num : Nat := 0
  faddr : Nat := 0
  fpaddr : Nat := 0
  inst : Nat := 0
  saved : Nat := 0
  deriving DecidableEq, Repr

/-- What part of an instruction comes to: a result, an exception, or a wait for memory, after which the instruction is sent
again. -/
inductive Res (α : Type) where
  | ok (a : α)
  | bad (x : Exc)
  | wait
  deriving DecidableEq, Repr

/-- The next part of an instruction, where the earlier ones came to a result. -/
def andThen {α β : Type} (r : Res α × State) (f : α → State → Res β × State) : Res β × State :=
  match r with
  | (.ok a, s) => f a s
  | (.bad x, s) => (.bad x, s)
  | (.wait, s) => (.wait, s)

/-- An access of a core: at a level, a load (0), a store (1) or a fetch (2), with REACH, the instruction half, whether it is the
second part of a split access, and whether it writes an exception frame. -/
structure CoreAcc where
  n : Nat
  level : Nat
  kind : Nat
  reach : Bool := false
  inst : Nat := 0
  split : Bool := false
  entry : Bool := false
  deriving DecidableEq, Repr

/-! ### Entries -/

/-- A leaf (R433): the physical address of its word, its fields, its output base and its page size in bytes. -/
structure Leaf where
  addr : Nat
  r : Bool
  w : Bool
  x : Bool
  u : Bool
  g : Bool
  a : Bool
  d : Bool
  attr : Nat
  base : Nat
  size : Nat
  deriving DecidableEq, Repr

/-- What a table word says: a page-fault subcode, a pointer to a frame, or a leaf (R432 to R434). -/
inductive Pte where
  | bad (sub : Nat)
  | ptr (frame : Nat)
  | leaf (l : Leaf)
  deriving DecidableEq, Repr

/-- A table word at a level, read at a physical address. -/
def readPte (v : Word) (level addr : Nat) : Pte :=
  let b (k : Nat) : Bool := decide (getField v k 1 = 1)
  let frame := getField v 19 32
  let attr := getField v 8 3
  let size := 4096 * 512 ^ (3 - level)
  if ¬ b 0 then .bad 2
  else if getField v 51 21 ≠ 0 then .bad 3
  else if ¬ b 1 ∧ ¬ b 2 ∧ ¬ b 3 then
    (if b 4 ∨ b 5 ∨ b 6 ∨ b 7 ∨ attr ≠ 0 ∨ level = 3 then .bad 3 else .ptr frame)
  else if (¬ b 1 ∧ b 2) ∨ level = 0 ∨ 2 < attr then .bad 3
  else if frame * 4096 % size ≠ 0 then .bad 4
  else .leaf { addr := addr, r := b 1, w := b 2, x := b 3, u := b 4, g := b 5, a := b 6, d := b 7, attr := attr, base := frame * 4096, size := size }

/-- The index of an input address at a level (R432). -/
def tableIndex (a level : Nat) : Nat := a / 2 ^ (39 - 9 * level) % 512

/-! ### The regime of an access (R429 to R431) -/

def sr (s : State) (n k : Nat) : Word := tget (s.scribe n).sr k
def stage1On (s : State) (x : CoreAcc) : Bool :=
  if x.level = 2 then decide (getField (sr s x.n 0x022) 1 1 = 1) else decide (getField (sr s x.n 0x020) 0 1 = 1)
def stage2On (s : State) (x : CoreAcc) : Bool := decide (x.level ≠ 2) && decide (getField (sr s x.n 0x022) 0 1 = 1)
def root1 (s : State) (x : CoreAcc) : Nat := getField (sr s x.n (if x.level = 2 then 0x024 else 0x021)) 16 32
def root2 (s : State) (x : CoreAcc) : Nat := getField (sr s x.n 0x023) 16 32

/-- The VM tag, plus 1; 0 for no VM. -/
def vmTag (s : State) (n : Nat) : Nat := if getField (sr s n 0x022) 0 1 = 1 then getField (sr s n 0x023) 0 12 + 1 else 0
def asidOf (s : State) (n : Nat) : Nat := getField (sr s n 0x021) 0 16

/-- The tags of a walk-cache entry (R431). -/
def walkTags (s : State) (x : CoreAcc) (stage2 : Bool) : Bool × Nat × Nat :=
  if x.level = 2 then (true, 0, 0) else (false, vmTag s x.n, if stage2 then 0 else asidOf s x.n)

/-! ### The walk -/

/-- The walk waits for a table word. -/
def noteWalk (s : State) (x : CoreAcc) (va pa sub : Nat) : State :=
  let w : WalkWait := { va := va, pa := pa, sub := sub, since := s.now, inst := x.inst, split := x.split, entry := x.entry, timed := false }
  match (s.scribe x.n).walk with
  | some v => if v.pa = pa ∧ v.va = va then s else s.modScribe x.n (fun c => { c with walk := some w })
  | none => s.modScribe x.n (fun c => { c with walk := some w })

/-- A table word, read through the desk's L2 (R435, R446); `sub` holds SUB[7:6]. -/
def tableWord (s : State) (x : CoreAcc) (va pa sub : Nat) : Res Word × State :=
  let bad (k : Nat) (s : State) : Res Word × State := (.bad { code := 5, sub := sub + k, fpaddr := pa, atH := decide (128 ≤ sub) }, s)
  let timed := match (s.scribe x.n).walk with
    | some w => w.timed && decide (w.pa = pa)
    | none => false
  if 2 ^ 43 ≤ pa then bad 3 s
  else match dramFault s pa with
    | some c => bad 1 (s.busErrFor pa c x.n false)
    | none =>
      if timed then bad 2 s
      else match acquire s x.n (pa / 64) false with
        | (false, s) => (.wait, noteWalk s x va pa sub)
        | (true, s) => if (s.l2 (x.n / 8) (pa / 64)).poison then bad 5 s
            else (.ok ((s.l2 (x.n / 8) (pa / 64)).words.getD (pa / 8 % 8) 0), s)

/-- A pointer that the walk cache gives at a level, where it is still held and used (R441, R443; assumption 5). -/
def cachedPtr (s : State) (x : CoreAcc) (stage2 : Bool) (a level : Nat) : Option Nat × State :=
  let t := walkTags s x stage2
  match (s.scribe x.n).wcache.find? (fun e => e.h == t.1 && e.vm == t.2.1 && e.asid == t.2.2 && e.stage2 == stage2 &&
      e.level == level + 1 && e.pfx == a / 2 ^ (39 - 9 * level)) with
  | some e => if (s.free 1).1 = 1#1 then (some e.frame, (s.free 1).2) else (none, (s.free 1).2)
  | none => (none, s)

/-- A pointer entry that the walk used is held. -/
def keepPtr (s : State) (x : CoreAcc) (stage2 : Bool) (a level frame : Nat) : State :=
  let t := walkTags s x stage2
  let e : WalkEntry := { h := t.1, vm := t.2.1, asid := t.2.2, stage2 := stage2, level := level + 1, pfx := a / 2 ^ (39 - 9 * level), frame := frame }
  s.modScribe x.n (fun c => { c with wcache := (e :: c.wcache.filter (fun y => !(y.h == e.h && y.vm == e.vm && y.asid == e.asid &&
    y.stage2 == e.stage2 && y.level == e.level && y.pfx == e.pfx))).take 32 })

/-- A stage-2 walk of an IPA (R432, R438), from a table at a frame with so many levels left; `sub` holds SUB[7:6]. -/
def walk2 (x : CoreAcc) (va ipa sub : Nat) : Nat → Nat → State → Res Leaf × State
  | 0, _, s => (.bad { code := 4, sub := sub + 3, fpaddr := ipa, atH := true }, s)
  | k + 1, frame, s =>
    let level := 3 - k
    match cachedPtr s x true ipa level with
    | (some f, s) => walk2 x va ipa sub k f s
    | (none, s) =>
      let pa := frame * 4096 + 8 * tableIndex ipa level
      andThen (tableWord s x va pa sub) (fun v s => match readPte v level pa with
        | .bad c => (.bad { code := 4, sub := sub + c, fpaddr := ipa, atH := true }, s)
        | .ptr f => walk2 x va ipa sub k f (keepPtr s x true ipa level f)
        | .leaf l => (.ok l, s))

/-- A stage-2 page fault of a permission (R437). -/
def need2 (sub ipa kind : Nat) (l : Leaf) : Option Exc :=
  let ex (c : Nat) : Option Exc := some { code := 4, sub := sub + c, fpaddr := ipa, atH := true }
  if kind = 0 ∧ ¬ l.r then ex 5 else if kind = 1 ∧ ¬ (l.r ∧ l.w) then ex 6 else if kind = 2 ∧ ¬ l.x then ex 7 else none

/-- Where a stage-1 table word lies: its address, and the stage-2 leaf that maps it (R438). -/
def place2 (x : CoreAcc) (va ipa : Nat) (s : State) : Res (Nat × Option Leaf) × State :=
  if ¬ stage2On s x then (.ok (ipa, none), s)
  else andThen (walk2 x va ipa 0xC0 4 (root2 s x) s) (fun l s => match need2 0xC0 ipa 0 l with
    | some e => (.bad e, s)
    | none => (.ok (l.base + ipa % l.size, some l), s))

/-- What a stage-1 walk found: the leaf, the IPA of its word, the stage-2 leaf that maps that word, and all those used. -/
structure Found where
  leaf : Leaf
  ipa : Nat
  map : Option Leaf
  used : List Leaf
  deriving DecidableEq, Repr

/-- A stage-1 walk of a virtual address (R438). -/
def walk1 (x : CoreAcc) (va : Nat) : Nat → Nat → List Leaf → State → Res Found × State
  | 0, _, _, s => (.bad { code := 4, sub := 3 }, s)
  | k + 1, frame, used, s =>
    let level := 3 - k
    match cachedPtr s x false va level with
    | (some f, s) => walk1 x va k f used s
    | (none, s) =>
      let ipa := frame * 4096 + 8 * tableIndex va level
      andThen (place2 x va ipa s) (fun p s => andThen (tableWord s x va p.1 0) (fun v s =>
        let used := used ++ p.2.toList
        match readPte v level p.1 with
        | .bad c => (.bad { code := 4, sub := c }, s)
        | .ptr f => walk1 x va k f used (keepPtr s x false va level f)
        | .leaf l => (.ok { leaf := l, ipa := ipa, map := p.2, used := used }, s)))

/-- The stage-1 permission checks (R437): the subcode of the first that fails. -/
def need1 (x : CoreAcc) (l : Leaf) : Option Nat :=
  if x.level = 0 ∧ ¬ l.u then some 9
  else if x.kind = 0 ∧ ¬ l.r then some 5
  else if x.kind = 1 ∧ ¬ (l.r ∧ l.w) then some 6
  else if x.kind = 2 ∧ ¬ l.x then some 7
  else if x.kind = 2 ∧ l.attr = 2 then some 10
  else if x.level ≠ 0 ∧ l.u ∧ (x.kind = 2 ∨ ¬ x.reach) then some 8
  else none

/-- Bits set in table words, in the L2 that holds them in M (R439, R462). -/
def setBits (s : State) (x : CoreAcc) (va : Nat) : List (Nat × Nat) → Res Unit × State
  | [] => (.ok (), s)
  | (pa, bits) :: rest => match acquire s x.n (pa / 64) true with
    | (false, s) => (.wait, noteWalk s x va pa 0)
    | (true, s) =>
      let v := (s.l2 (x.n / 8) (pa / 64)).words.getD (pa / 8 % 8) 0
      setBits (l2Write s x.n (pa / 64) (maskBytes pa (v ||| BitVec.ofNat 72 bits) allOnes)) x va rest

/-! ### The translation caches (R431, R440 to R443) -/

/-- An entry matches an access's address and the present tags. -/
def tlbMatch (s : State) (x : CoreAcc) (va : Nat) (e : TlbEntry) : Bool :=
  e.h == decide (x.level = 2) && (e.h || (e.vm == vmTag s x.n && (e.asid.isNone || e.asid == some (asidOf s x.n)))) &&
  decide (e.vpn ≤ va / 4096) && decide (va / 4096 < e.vpn + e.pages)

/-- An entry serves an access: it permits it, and a store finds D set. -/
def tlbServes (x : CoreAcc) (e : TlbEntry) : Bool :=
  (if x.level = 0 then e.u else !e.u || (decide (x.kind ≠ 2) && x.reach)) &&
  (if x.kind = 0 then e.r else if x.kind = 1 then e.r && e.w && e.d else e.x && decide (e.attr ≠ 2))

/-- The entries of a scribe for the page of an address in the present tags, and the pointers on its path, are removed (R442). -/
def tlbDropPage (s : State) (x : CoreAcc) (va : Nat) : State :=
  let t := walkTags s x false
  s.modScribe x.n (fun c => { c with
    tlb := c.tlb.filter (fun e => !tlbMatch s x va e)
    wcache := c.wcache.filter (fun e => !(e.h == t.1 && e.vm == t.2.1 && (e.stage2 || (e.asid == t.2.2 && e.pfx == va / 2 ^ (39 - 9 * (e.level - 1)))))) })

/-- A combined translation is held: the smaller of the two page sizes (R441). -/
def tlbFill (s : State) (x : CoreAcc) (va pa attr size : Nat) (f : Option Found) (l2 : Option Leaf) (ipa : Nat) (d : Bool) : State :=
  let both (p : Leaf → Bool) : Bool := (match f with | some f => p f.leaf | none => true) && (match l2 with | some l => p l | none => true)
  let e : TlbEntry :=
    { h := decide (x.level = 2), vm := if x.level = 2 then 0 else vmTag s x.n,
      asid := if x.level = 2 then none else (match f with
        | some f => if f.leaf.g then none else some (asidOf s x.n)
        | none => some (asidOf s x.n)),
      vpn := va / size * size / 4096, pages := size / 4096, ppn := pa / size * size / 4096,
      r := both (·.r), w := both (·.w), x := both (·.x),
      u := (match f with | some f => f.leaf.u | none => decide (x.level = 0)),
      attr := attr, d := d, ipn := ipa / size * size / 4096 }
  s.modScribe x.n (fun c => { c with tlb := (e :: c.tlb.filter (fun y => !(y.h == e.h && y.vm == e.vm && y.asid == e.asid && y.vpn == e.vpn))).take 2176 })

/-- The attribute of a physical address (R436): 0 normal cacheable, 1 normal not cacheable, 2 device. -/
def physAttr (pa attr : Nat) : Nat := if 2 ^ 43 ≤ pa then 2 else attr

/-- The output of stage 1 found, stage 2 and the permission checks follow, then the accessed and dirty bits, and the translation
is held (R437 to R441). -/
def finishWalk (x : CoreAcc) (va ipa : Nat) (f : Option Found) (s : State) : Res (Nat × Nat) × State :=
  let r2 : Res (Option Leaf) × State :=
    if stage2On s x then andThen (walk2 x va ipa 0x80 4 (root2 s x) s) (fun l s => (.ok (some l), s)) else (.ok none, s)
  andThen r2 (fun l2 s =>
    let e1 : Option Exc := (f.bind (fun f => need1 x f.leaf)).map (fun c => { code := 4, sub := c })
    let e2 : Option Exc := l2.bind (need2 0x80 ipa x.kind)
    let pa := match l2 with
      | some l => l.base + ipa % l.size
      | none => ipa
    let attr := physAttr pa (max (match f with | some f => f.leaf.attr | none => 0) (match l2 with | some l => l.attr | none => 0))
    let upd := match f with
      | some f => !f.leaf.a || (decide (x.kind = 1) && !f.leaf.d)
      | none => false
    let e3 : Option Exc := if upd then (match f with
      | some f => f.map.bind (need2 0xC0 f.ipa 1)
      | none => none) else none
    match e1, e2 with
    | some e, _ => (.bad e, s)
    | none, some e => (.bad e, s)
    | none, none =>
      if x.kind = 2 ∧ attr = 2 then (.bad { code := 4, sub := 10 }, s)
      else match e3 with
      | some e => (.bad e, s)
      | none =>
        let abit (l : Leaf) : List (Nat × Nat) := if l.a then [] else [(l.addr, 64)]
        let own := match f with
          | some f => if upd then [(f.leaf.addr, if x.kind = 1 then 192 else 64)] else []
          | none => []
        let maps := match f with
          | some f => f.used.flatMap abit ++ (if upd then (match f.map with | some l => [(l.addr, 192)] | none => []) else [])
          | none => []
        andThen (setBits s x va (own ++ maps ++ (match l2 with | some l => abit l | none => []))) (fun _ s =>
          let size := match f, l2 with
            | some f, some l => min f.leaf.size l.size
            | some f, none => f.leaf.size
            | none, some l => l.size
            | none, none => 4096
          let d := match f with
            | some f => f.leaf.d || decide (x.kind = 1)
            | none => true
          (.ok (pa, attr), tlbFill s x va pa attr size f l2 ipa d)))

/-- A walk from the root (R438). -/
def walkAll (x : CoreAcc) (va : Nat) (s : State) : Res (Nat × Nat) × State :=
  if stage1On s x then
    andThen (walk1 x va 4 (root1 s x) [] s) (fun f s => finishWalk x va (f.leaf.base + va % f.leaf.size) (some f) s)
  else if 2 ^ 44 ≤ va then (.bad { code := 4, sub := 1 }, s)
  else finishWalk x va va none s

/-- The translation of an address: the physical address and its attribute (R429, R438). -/
def translate (s : State) (x : CoreAcc) (ea : Word) : Res (Nat × Nat) × State :=
  let va := getField ea 0 48
  let report (e : Exc) : Exc := { e with faddr := va, split := x.split, inst := x.inst }
  if getField ea 48 24 ≠ 0 then (.bad (report { code := 4, sub := 1 }), s)
  else if ¬ stage1On s x ∧ ¬ stage2On s x then
    (if 2 ^ 44 ≤ va then (.bad (report { code := 4, sub := 1 }), s)
     else if x.kind = 2 ∧ physAttr va 0 = 2 then (.bad (report { code := 4, sub := 10 }), s)
     else (.ok (va, physAttr va 0), s))
  else
    let hit := (s.scribe x.n).tlb.find? (fun e => tlbMatch s x va e && tlbServes x e)
    let r : Res (Nat × Nat) × State := match hit with
      | some e => if (s.free 1).1 = 1#1 then (.ok (e.ppn * 4096 + (va - e.vpn * 4096), e.attr), (s.free 1).2)
          else walkAll x va (s.free 1).2
      | none => walkAll x va s
    match r with
    | (.wait, s) => (.wait, s)
    | (.ok a, s) => (.ok a, s.modScribe x.n (fun c => { c with walk := none }))
    | (.bad e, s) =>
      let s := s.modScribe x.n (fun c => { c with walk := none })
      (.bad (report e), if e.code = 4 then tlbDropPage s x va else s)

/-! ### Invalidation (R444) -/

/-- Whether a combined entry of a scribe goes, by kind, the issuer's VM tag, a page, an ASID and a VMID. -/
def tlbiDrops (kind vm page asid vmid : Nat) (e : TlbEntry) : Bool :=
  let uk := !e.h && e.vm == vm
  let covers := decide (e.vpn ≤ page) && decide (page < e.vpn + e.pages)
  if kind = 0 then uk && covers && (e.asid.isNone || e.asid == some asid)
  else if kind = 1 then uk && e.asid == some asid
  else if kind = 2 then uk && covers
  else if kind = 3 then uk
  else if kind = 4 ∨ kind = 5 then !e.h && e.vm == vmid + 1
  else if kind = 6 then e.h
  else true

/-- Whether a walk-cache entry goes; `a` is the virtual address of kinds 0 and 2, or the IPA of kind 4. -/
def tlbiDropsPtr (kind vm a asid vmid : Nat) (e : WalkEntry) : Bool :=
  let uk := !e.h && e.vm == vm
  let path := e.pfx == a / 2 ^ (39 - 9 * (e.level - 1))
  if kind = 0 ∨ kind = 2 then uk && !e.stage2 && path
  else if kind = 1 then uk && !e.stage2 && e.asid == asid
  else if kind = 3 then uk
  else if kind = 4 then !e.h && e.vm == vmid + 1 && e.stage2 && path
  else if kind = 5 then !e.h && e.vm == vmid + 1
  else if kind = 6 then e.h
  else true

/-- The removal, on every scribe of the device. -/
def tlbInvalidate (s : State) (n kind : Nat) (ga gb : Word) : State :=
  let vm := vmTag s n
  let a := if kind = 4 then getField ga 0 44 else getField ga 0 48
  let asid := getField gb 0 16
  let vmid := getField gb 0 12
  forEach (List.range 32) s (fun s k => s.modScribe k (fun c => { c with
    tlb := c.tlb.filter (fun e => !tlbiDrops kind vm (a / 4096) asid vmid e)
    wcache := c.wcache.filter (fun e => !tlbiDropsPtr kind vm a asid vmid e) }))

end Sys2Proof.Machine
end

