-- ==== Sys2Proof/Machine/Exc.lean ====
section
/-! DEFINITION. Exceptions of a core (R403 to R418, R530, R534): the frame, entry, limits, masks, escalation, lockup, and
interrupts.
Decisions: log entry 56 (DEDUCED). -/

namespace Sys2Proof.Machine
open Sys2Proof

/-- The level of a class (R403). -/
def classLevel (code : Nat) : Nat :=
  if code = 4 then 10 else if 5 ≤ code ∧ code ≤ 7 then 13 else if code = 8 then 4 else if code = 9 then 14 else 12

/-- An entry about to be made (R408 to R413): the level, the code and ORIG, NUM and ILVL, the new MASK, ENTRY, and the exception
that is reported. -/
structure Entry where
  level : Nat
  code : Nat
  orig : Nat
  num : Nat := 0
  ilvl : Nat := 0
  mask : Nat
  entry : Bool := false
  x : Exc
  deriving DecidableEq, Repr

/-- Flag bit. -/
def bit (b : Bool) (k : Nat) : Nat := if b then 2 ^ k else 0

/-- The eight words of the frame (R409). -/
def excFrame (s : State) (n : Nat) (e : Entry) : List Word :=
  let c := s.scribe n
  let w2 := e.code + e.x.sub * 2 ^ 8 + scribeLevel c * 2 ^ 16 + bit e.entry 18 + bit e.x.split 19 + e.orig * 2 ^ 20 +
    e.num * 2 ^ 28 + e.ilvl * 2 ^ 38
  [BitVec.ofNat 72 (e.x.saved % 2 ^ 48), BitVec.ofNat 72 (getField c.status 0 7), BitVec.ofNat 72 w2,
   BitVec.ofNat 72 (e.x.faddr % 2 ^ 48), BitVec.ofNat 72 (e.x.fpaddr % 2 ^ 44), timeWord s.devTime, BitVec.ofNat 72 e.x.inst, 0]

/-- The bytes of consecutive words of a line, from its start. -/
def lineBytes (ws : List Word) : List (Nat × Nat) :=
  ws.zipIdx.flatMap (fun (p : Word × Nat) => (List.range 8).map (fun k => (8 * p.2 + k, getField p.1 (9 * k) 9)))

/-- Entries of the store buffer are written until so many places are free (R363). -/
def makeRoom : Nat → State → Nat → Nat → Bool × State
  | 0, s, _, _ => (false, s)
  | k + 1, s, n, need =>
    if (s.scribe n).sb.length + need ≤ 8 then (true, s)
    else match drainOne s n with
      | (false, s) => (false, s)
      | (true, s) => makeRoom k s n need

/-- A bus error as an exception (R53, R54). -/
def busExc (x : CoreAcc) (va pa c : Nat) : Exc := { code := 6, sub := c, faddr := va, fpaddr := pa, split := x.split, inst := x.inst }

/-- Words written one at a time at a physical address, in a device region or by the management controller. -/
def writeWords (s : State) (x : CoreAcc) (va pa : Nat) (ws : List Word) : Res Unit × State :=
  ws.zipIdx.foldl (fun (r : Res Unit × State) (w : Word × Nat) => andThen r (fun _ s =>
    match physWrite s x.n 0 (pa + 8 * w.2) 8 w.1 allOnes with
    | (.ok _ _, s) => (.ok (), s)
    | (.err c, s) => (.bad (busExc x va pa c), s)
    | (_, s) => (.wait, s))) (.ok (), s)

/-- The frame is written at E through the translation of its level with REACH 0 (R408). -/
def writeFrame (s : State) (n level : Nat) (esp : Word) (ws : List Word) : Res Unit × State :=
  let x : CoreAcc := { n := n, level := level, kind := 1, entry := true }
  let va := getField esp 0 48
  if n = 32 then writeWords s x va esp.toNat ws
  else andThen (translate s x esp) (fun p s =>
    if p.2 = 2 then writeWords s x va p.1 ws
    else match dramFault s p.1 with
      | some c => (.bad (busExc x va p.1 c), s.busErrFor p.1 c n true)
      | none =>
        if p.2 = 1 then (.ok (), ncWrite s n (p.1 / 64) (lineBytes ws))
        else match makeRoom 9 s n 1 with
          | (false, s) => (.wait, s)
          | (true, s) => (.ok (), (putStore s n (p.1 / 64) (lineBytes ws)).2))

/-- The exception stack pointer, stack limit and vector base of a level (R402). -/
def espNum (level : Nat) : Nat := if level = 2 then 0x004 else 0x001
def slimNum (level : Nat) : Nat := if level = 2 then 0x005 else 0x002
def vbNum (level : Nat) : Nat := if level = 2 then 0x006 else 0x003

/-- A core locks up (R415); the management controller restarts (R530, R539). -/
def coreLock (s : State) (n cause pc : Nat) : State := if n = 32 then mcRestart s 2 else scribeLock s n cause pc

/-- The state after an entry whose frame is written (R408, R413, R586, R588). -/
def entered (s : State) (n : Nat) (e : Entry) (esp : Word) : State :=
  let s := s.modScribe n (fun c => { c with sr := tset c.sr (espNum e.level) esp, resv := none, walk := none })
  let s := setStatus s n (BitVec.ofNat 72 (e.level + e.mask * 4))
  let pc := (getField (sr s n (vbNum e.level)) 0 48 + e.code * 0x40) % 2 ^ 48
  let s := s.modScribe n (fun c => { c with pc := pc })
  let s := tracePacket s n 3 (e.code + e.num * 2 ^ 8 + e.level * 2 ^ 18) none
  tracePacket s n 2 (pc / 4 * 4 + 2) none

/-- Entry at a level (R408, R411, R412). An entry that fails its limit becomes a stack overflow, and one whose frame cannot be
written an escalated fault, both at H; a mask-15 entry at H that fails locks the core up. -/
def enter : Nat → State → Nat → Entry → Res Unit × State
  | 0, s, _, _ => (.ok (), s)
  | k + 1, s, n, e =>
    let esp : Word := sr s n (espNum e.level) - 64
    let slim := (sr s n (slimNum e.level)).toNat
    let last := decide (e.level = 2) && decide (e.mask = 15)
    if (if last then esp.toNat + 128 else esp.toNat) < slim then
      (if last then (.ok (), coreLock s n 3 e.x.saved)
       else enter k s n { level := 2, code := 0x0B, orig := e.code, mask := 15, x := e.x })
    else match writeFrame s n e.level esp (excFrame s n e) with
      | (.wait, s) => (.wait, s)
      | (.bad _, s) =>
        if last then (.ok (), coreLock s n 2 e.x.saved)
        else enter k s n { level := 2, code := 0x0C, orig := e.code, mask := 15, entry := true, x := e.x }
      | (.ok _, s) => (.ok (), entered s n e esp)

/-- A synchronous exception of classes 01h to 0Ah (R403, R404, R413, R414). -/
def raiseExc (s : State) (n : Nat) (x : Exc) : Res Unit × State :=
  let c := s.scribe n
  let cl := classLevel x.code
  if cl ≤ scribeMask c then
    (if scribeMask c = 15 then (.ok (), coreLock s n 1 x.saved)
     else enter 3 s n { level := 2, code := 0x0C, orig := x.code, mask := 15, x := x })
  else enter 3 s n { level := if n = 32 ∨ x.atH then 2 else max 1 (scribeLevel c), code := x.code, orig := x.code, num := x.num,
                     mask := max (scribeMask c) cl, x := x }

/-- An instruction, or one step of a block instruction, is done (R576): a core that steps, or that a comparator stops, halts. -/
def stepDone (s : State) (n : Nat) : State :=
  let c := s.scribe n
  let up := if n < 32 then scribeUp s n else mcRuns s
  if up ∧ (c.stepping ∨ c.haltReq) then coreHalt s n else s

/-- An instruction raises an exception (R405); the saved PC of a system call is the next instruction, which has then completed. -/
def trap (s : State) (n : Nat) (x : Exc) : State :=
  let pc := (s.scribe n).pc
  match raiseExc s n { x with saved := if x.code = 8 then (pc + 4) % 2 ^ 48 else pc } with
  | (.wait, s) => s
  | (_, s) =>
    let s := if x.code = 8 ∧ n < 32 then (s.bump (F.DSK_INST n)).wr (F.DSK_PC n) pc else s
    stepDone s n

/-- An interrupt of a source is taken at a level of privilege and an interrupt level (R406, R424). -/
def takeInterrupt (s : State) (n src level ilvl : Nat) : State :=
  let x : Exc := { code := 0x10, saved := (s.scribe n).pc }
  match enter 3 s n { level := level, code := 0x10, orig := 0x10, num := src, ilvl := ilvl, mask := ilvl, x := x } with
  | (.wait, s) => s
  | (_, s) => stepDone s n

/-- The interrupt that a core takes at its next boundary: source, level entered, interrupt level (R424, R535). -/
def coreInterrupt (s : State) (n : Nat) : Option (Nat × Nat × Nat) :=
  if n < 32 then (icuDeliverable s n).map (fun k => (k, 1 + s.icuRd F.ICU_TLVL k, s.icuRd F.ICU_LVL k))
  else match mcBest s with
    | some k => if scribeMask (s.scribe 32) < mcLevel k then some (k, 2, mcLevel k) else none
    | none => none

/-- A source in lowest-busy mode stays with the scribe that took it (R424). -/
def icuTaken (s : State) (n src : Nat) : State :=
  if n < 32 ∧ s.icuRd F.ICU_MODE src = 1 ∧ ¬ s.icu.copies.contains (src, n) then
    { s with icu := { s.icu with copies := s.icu.copies ++ [(src, n)] } }
  else s

/-- A WFI completes (R420). -/
def wake (s : State) (n : Nat) : State :=
  let pc := (s.scribe n).pc
  let s := s.modScribe n (fun c => { c with pc := (pc + 4) % 2 ^ 48 })
  if n < 32 then ((s.wr (F.DSK_SST n) 1).wr (F.DSK_PC n) pc).bump (F.DSK_INST n) else s

/-- SCRIBE_INTERRUPT_ENTRY (R406, R424): at a boundary where an interrupt is deliverable; a halt that is asked for comes first. -/
def execScribeInterruptEntry (t scribe : Nat) (s : State) : Out :=
  let s := s.tick t
  .next (if 32 ≤ scribe ∨ ¬ scribeUp s scribe ∨ (s.scribe scribe).haltReq then s
    else match coreInterrupt s scribe with
      | none => s
      | some (src, level, ilvl) =>
        let s := if s.rd (F.DSK_SST scribe) = 2 then wake s scribe else s
        takeInterrupt (icuTaken s scribe src) scribe src level ilvl)

/-- MC_INTERRUPT_ENTRY (R534, R535). -/
def execMcInterruptEntry (t : Nat) (s : State) : Out :=
  let s := s.tick t
  .next (if ¬ mcRuns s ∨ (s.scribe 32).haltReq then s
    else match coreInterrupt s 32 with
      | none => s
      | some (src, level, ilvl) => takeInterrupt s 32 src level ilvl)

/-- WFI_WAKE (R420): an interrupt routed to the scribe at its level or above is pending. -/
def execWfiWake (t scribe : Nat) (s : State) : Out :=
  let s := s.tick t
  .next (if scribe < 32 ∧ s.rd (F.DSK_SST scribe) = 2 ∧ (icuClaimable s scribe).isSome then stepDone (wake s scribe) scribe else s)

/-- WALK_TIMEOUT (R435, R446): a table access has had no answer for 10 µs. The walk of an exception frame gives up when the
entry is tried again; any other raises its walk error. -/
def execWalkTimeout (t scribe : Nat) (s : State) : Out :=
  let s := s.tick t
  .next (match (s.scribe scribe).walk with
    | none => s
    | some w =>
      if s.now < w.since + 10000 ∨ 32 ≤ scribe ∨ ¬ scribeUp s scribe then s
      else if w.entry then s.modScribe scribe (fun c => { c with walk := some { w with timed := true } })
      else
        let x : Exc := { code := 5, sub := w.sub + 2, atH := decide (128 ≤ w.sub), split := w.split, faddr := w.va, fpaddr := w.pa, inst := w.inst }
        trap (s.modScribe scribe (fun c => { c with walk := none })) scribe x)

/-! ### IACK, IEOI and SWI as commands (R425, R426) -/

/-- A core's access of an interrupt register that needs K: at U the privileged-instruction fault. -/
def icuCommand (s : State) (n : Nat) (f : State → State) : State :=
  if 32 ≤ n ∨ s.rd (F.DSK_SST n) ≠ 1 then s
  else if scribeLevel (s.scribe n) = 0 then trap s n { code := 2 }
  else f s

/-- IACK_READ (R425). -/
def execIackRead (t scribe : Nat) (gd : BitVec 5) (s : State) : Out :=
  .next (icuCommand (s.tick t) scribe (fun s => (iackRead s scribe).2.setG scribe gd.toNat (iackRead s scribe).1))

/-- IEOI_WRITE (R425). -/
def execIeoiWrite (t scribe : Nat) (value : Word) (s : State) : Out :=
  .next (icuCommand (s.tick t) scribe (fun s => ieoiWrite s scribe value.toNat))

/-- SWI_WRITE (R426). -/
def execSwiWrite (t scribe : Nat) (value : Word) (s : State) : Out :=
  .next (icuCommand (s.tick t) scribe (fun s => swiWrite s value.toNat))

end Sys2Proof.Machine
end

