-- ==== Sys2Proof/Machine/Data.lean ====
section
/-! DEFINITION. Data accesses of a core (R363 to R366, R371, R407, R436, R460 to R464): where the parts of an access lie, loads and
stores, errors met in the caches, and comparators.
Decisions: log entry 50 (DEDUCED). -/

namespace Sys2Proof.Machine
open Sys2Proof

/-- A part of an access: first address, bytes, physical address, attribute (3: memory of the management controller), and whether
it is the second part. -/
structure Part where
  ea : Word
  len : Nat
  pa : Nat
  attr : Nat
  split : Bool
  deriving DecidableEq, Repr

/-- The parts of an access (R407): at a line boundary for a scribe, at a word boundary for the management controller. -/
def splitAt (n : Nat) (ea : Word) (size : Nat) : List (Word × Nat × Bool) :=
  let unit := if n = 32 then 8 else 64
  let room := unit - ea.toNat % unit
  if size ≤ room then [(ea, size, false)]
  else [(ea, room, false), (ea + BitVec.ofNat 72 room, size - room, decide (n ≠ 32))]

/-- The kind of memory that an address of the management controller names: its own memories and DRAM are normal. -/
def mcAttr (pa : Nat) : Nat :=
  match regionOf pa with
  | .dram => 3
  | .sram _ => 3
  | .rom _ => 3
  | .flash _ => 3
  | .blotter _ => 3
  | _ => 2

def alignExc (x : CoreAcc) (ea : Word) : Exc := { code := 3, faddr := getField ea 0 48, split := x.split, inst := x.inst }

/-- Every part of an access is translated, then alignment is checked (R38, R365, R407). -/
def locate (s : State) (x : CoreAcc) (ea : Word) (size : Nat) : Res (List Part) × State :=
  let parts := splitAt x.n ea size
  let r : Res (List Part) × State := parts.foldl (fun (r : Res (List Part) × State) (p : Word × Nat × Bool) =>
    andThen r (fun l s =>
      if x.n = 32 then (.ok (l ++ [{ ea := p.1, len := p.2.1, pa := p.1.toNat, attr := mcAttr p.1.toNat, split := p.2.2 }]), s)
      else andThen (translate s { x with split := p.2.2 } p.1) (fun a s =>
        (.ok (l ++ [{ ea := p.1, len := p.2.1, pa := a.1, attr := a.2, split := p.2.2 }]), s)))) (.ok [], s)
  andThen r (fun l s => match l.find? (fun p => decide (p.attr = 2) && (decide (l.length ≠ 1) || decide (ea.toNat % size ≠ 0))) with
    | some p => (.bad (alignExc { x with split := p.split } p.ea), s)
    | none => (.ok l, s))

/-! ### Errors met in the caches (R363, R397, R464) -/

/-- An uncorrectable error in a line of the L2: a line in M or O is poisoned, one in E or S is dropped. -/
def l2Uncorr (s : State) (d line : Nat) : State :=
  let s := s.bump (F.DSK_L2UNC d)
  let s := if s.isSet (F.DSK_L2EV d) then s else (s.wr (F.DSK_L2EADR d) (line * 64)).wr (F.DSK_L2EV d) 1
  let s := s.pageErr (0x200 + 8 * d) 0x10 34 0
  let x := s.l2 d line
  if x.st = 3 ∨ x.st = 4 then s.setL2 d line { x with poison := true } else s.l2Lose d line

/-- A line is used in a scribe's L1 data cache, least recently used last (R362). -/
def l1Use (s : State) (n line : Nat) : State :=
  s.modScribe n (fun c => { c with l1d := tset c.l1d (line % 128) ((line :: (tget c.l1d (line % 128)).filter (· ≠ line)).take 4) })

/-- The words of a line as a scribe's load finds them, before its own buffered stores, and whether they are poisoned. -/
def cacheRead (s : State) (n line : Nat) (own : Bool) (err : MemErr) : Res (List Word × Bool) × State :=
  let d := n / 8
  match acquire s n line own with
  | (false, s) => (.wait, s)
  | (true, s) =>
    let hit := (tget (s.scribe n).l1d (line % 128)).contains line
    let s := if hit then (if err = .l1Parity then s.bump (F.DSK_L1PERR n) else s) else s.bump (F.DSK_L1DM n)
    let s := if ¬ hit ∧ err = .l2Corrected then s.bump (F.DSK_L2COR d) else s
    let s := if ¬ hit ∧ err = .l2Uncorrectable then l2Uncorr s d line else s
    match acquire s n line own with
    | (false, s) => (.wait, s)
    | (true, s) => (.ok ((s.l2 d line).words, (s.l2 d line).poison), l1Use s n line)

/-- The bytes that a scribe's store buffer holds for a line, the newest last (R461). -/
def ownBytes (s : State) (n line : Nat) : List (Nat × Nat) :=
  (s.scribe n).sb.foldl (fun l e => if e.1 = line then l ++ e.2 else l) []

/-- The low bytes of a value, from a place in a line. -/
def valueBytes (at' len : Nat) (v : Word) : List (Nat × Nat) := (List.range len).map (fun i => (at' + i, getField v (9 * i) 9))

/-- Bytes as a value, the first lowest (R364). -/
def byteValue (l : List Nat) : Word := BitVec.ofNat 72 (l.reverse.foldl (fun a b => a * 512 + b % 512) 0)

/-- An access to a device region by a core, or a reference of the management controller: a stall is on record until it is
performed or times out (R55, R56). -/
def coreStall (s : State) (x : CoreAcc) (p : Part) (page off : Nat) (value : Word) : State :=
  if s.stalled.any (fun a => a.init == x.n && a.insn) then s
  else
    let id := s.stalled.foldl (fun k a => max k (a.id + 1)) 0
    let a : StalledAccess :=
      { id := id, init := x.n, vf := 0, page := page, off := off, write := decide (x.kind = 1), value := value, issued := s.now,
        insn := true, va := getField p.ea 0 48, inst := x.inst }
    { s with stalled := s.stalled ++ [a] }
def coreUnstall (s : State) (n : Nat) : State := { s with stalled := s.stalled.filter (fun a => !(a.init == n && a.insn)) }

def physResult (x : CoreAcc) (p : Part) (value : Word) (r : Phys × State) : Res (Word × Bool) × State :=
  match r with
  | (.ok w b, s) => (.ok (w, b), coreUnstall s x.n)
  | (.err c, s) => (.bad { (busExc x (getField p.ea 0 48) p.pa c) with split := p.split }, coreUnstall s x.n)
  | (.stall page off, s) => (.wait, coreStall s x p page off value)
  | (.wait _, s) => (.wait, s)

/-- A poisoned-data exception (R464). -/
def poisonExc (x : CoreAcc) (p : Part) : Exc :=
  { code := 7, faddr := getField p.ea 0 48, fpaddr := p.pa / 64 * 64, split := p.split, inst := x.inst }

/-- A part in normal memory read: its bytes, with the scribe's own earlier stores (R461). -/
def readBytes (s : State) (x : CoreAcc) (p : Part) (own : Bool) (err : MemErr) : Res (List Nat) × State :=
  let at' := p.pa % 64
  let line := p.pa / 64
  match dramFault s p.pa with
  | some c => (.bad { (busExc x (getField p.ea 0 48) p.pa c) with split := p.split }, s.busErrFor p.pa c x.n false)
  | none =>
    let r : Res (List Word × Bool) × State := if p.attr = 1 then (match ncRead s x.n line with
      | (some w, s) => (.ok w, s)
      | (none, s) => (.wait, s)) else cacheRead s x.n line own err
    andThen r (fun w s =>
      let wr := ownBytes s x.n line
      let ws := writeBytes w.1 wr
      if w.2 ∧ ¬ (List.range p.len).all (fun i => wr.any (fun e => e.1 == at' + i)) then (.bad (poisonExc x p), s)
      else (.ok ((List.range p.len).map (fun i => getField (ws.getD ((at' + i) / 8) 0) (9 * ((at' + i) % 8)) 9)), s))

/-- One part read: its bytes as a value. -/
def readPart (s : State) (x : CoreAcc) (p : Part) (own : Bool) (err : MemErr) : Res Word × State :=
  if p.attr = 2 ∨ p.attr = 3 then
    let ecc : Ecc := match err with
      | .l2Corrected => .corrected
      | .l2Uncorrectable => .uncorrectable
      | _ => .clean
    andThen (physResult x p 0 (physRead s x.n 0 p.pa p.len false ecc)) (fun w s =>
      if w.2 then (.bad (poisonExc x p), s)
      else (.ok (BitVec.ofNat 72 (getField w.1 (9 * (p.pa % 8)) (9 * p.len))), s))
  else andThen (readBytes s x p own err) (fun l s => (.ok (byteValue l), s))

/-- A load of some bytes at EA, zero-extended (R364, R407). -/
def memLoad (s : State) (x : CoreAcc) (ea : Word) (size : Nat) (err : MemErr) : Res Word × State :=
  andThen (locate s x ea size) (fun l s =>
    (l.zipIdx).foldl (fun (r : Res Word × State) (p : Part × Nat) => andThen r (fun v s =>
      andThen (readPart s x p.1 false (if p.2 = 0 then err else .clean)) (fun w s =>
        (.ok (v ||| (w <<< (9 * (if p.2 = 0 then 0 else size - p.1.len)))), s)))) (.ok 0, s))

/-- A bus error that a store to a part would meet in DRAM. -/
def storeFault (s : State) (l : List Part) : Option (Part × Nat) :=
  l.findSome? (fun p => if p.attr ≤ 1 then (dramFault s p.pa).map (fun c => (p, c)) else none)

/-- An error met by a store in the caches. -/
def storeErr (s : State) (n line : Nat) (err : MemErr) : State :=
  match err with
  | .clean => s
  | .l1Parity => if (tget (s.scribe n).l1d (line % 128)).contains line then s.bump (F.DSK_L1PERR n) else s
  | .l2Corrected => s.bump (F.DSK_L2COR (n / 8))
  | .l2Uncorrectable => l2Uncorr s (n / 8) line

/-- A store of the low bytes of a value at parts that have been located (R363, R405, R407). -/
def storeParts (s : State) (x : CoreAcc) (l : List Part) (size : Nat) (v : Word) (err : MemErr) : Res Unit × State :=
  match storeFault s l with
  | some (p, c) => (.bad { (busExc x (getField p.ea 0 48) p.pa c) with split := p.split }, s.busErrFor p.pa c x.n true)
  | none =>
    let room : Bool × State := if x.n < 32 then makeRoom 9 s x.n l.length else (true, s)
    if ¬ room.1 then (.wait, room.2)
    else (l.zipIdx).foldl (fun (r : Res Unit × State) (p : Part × Nat) => andThen r (fun _ s =>
      let part := v >>> (9 * (if p.2 = 0 then 0 else size - p.1.len))
      let wr := valueBytes (p.1.pa % 64) p.1.len part
      if p.1.attr = 2 ∨ p.1.attr = 3 then
        let lane := 9 * (p.1.pa % 8)
        andThen (physResult x p.1 v (physWrite s x.n 0 p.1.pa p.1.len (part <<< lane)
          (BitVec.ofNat 72 ((2 ^ (9 * p.1.len) - 1) * 2 ^ lane)))) (fun _ s => (.ok (), s))
      else
        let s := if p.2 = 0 then storeErr s x.n (p.1.pa / 64) err else s
        (.ok (), if p.1.attr = 1 then ncWrite s x.n (p.1.pa / 64) wr else (putStore s x.n (p.1.pa / 64) wr).2))) (.ok (), room.2)

/-- A store of the low bytes of a value at EA. -/
def memStore (s : State) (x : CoreAcc) (ea : Word) (size : Nat) (v : Word) (err : MemErr) : Res Unit × State :=
  andThen (locate s x ea size) (fun l s => storeParts s x l size v err)

/-! ### Comparators (R582, R583) -/

/-- The comparators of a core, by their index. -/
def coreCmps (n : Nat) : List Nat := (List.range (if n < 32 then 8 else 4)).map (cmpScribe n)

/-- A core's comparators see an access: hits are counted, packets written at an authorised level, and a halt asked for. -/
def coreCompare (s : State) (n kind addr : Nat) (value : Word) : State :=
  (coreCmps n).zipIdx.foldl (fun s (p : Nat × Nat) =>
    if ¬ cmpMatch s p.1 kind addr then s
    else
      let s := s.bump (F.BLT_HITS p.1)
      let act := s.rd (F.BLT_ACT p.1)
      let ok := traceAllowed s (scribeLevel (s.scribe n))
      if act = 0 then (if s.isSet F.BLT_ATTACH ∧ kind ≠ 0 then s.modScribe n (fun c => { c with haltReq := true }) else s)
      else if act = 3 ∨ ¬ ok then s
      else if act = 1 ∧ kind ≠ 0 then (flushBrh s n).trace (coreSrc n) (if kind = 2 then 5 else 4) addr (some value)
      else if act = 2 then traceTrig (flushBrh s n) (coreSrc n) 0 p.2 addr
      else s) s

/-- Whether a comparator halts a core before it issues the instruction at an address (R583). -/
def fetchHalts (s : State) (n pc : Nat) : Bool :=
  s.isSet F.BLT_ATTACH && (coreCmps n).any (fun k => cmpMatch s k 0 pc && decide (s.rd (F.BLT_ACT k) = 0))

end Sys2Proof.Machine
end

