-- ==== Sys2Proof/Machine/Insn.lean ====
section
/-! DEFINITION. The issue of an instruction by a core (R369 to R373, R384, R405, R406, R530): its boundary, its fetch, its
completion, and the formats of an instruction half.
Decisions: log entries 11 (DESIGN CHOICE), 13 (DEDUCED), 53 (DEDUCED). -/

namespace Sys2Proof.Machine
open Sys2Proof

/-- An instruction half by its format (R370). -/
def encR (op gd ga gb fn : Nat) : Nat := op * 2 ^ 29 + gd * 2 ^ 24 + ga * 2 ^ 19 + gb * 2 ^ 14 + fn
def encI (op gd ga imm : Nat) : Nat := op * 2 ^ 29 + gd * 2 ^ 24 + ga * 2 ^ 19 + imm
def encM (op gd ga mode imm : Nat) : Nat := encI op gd ga (mode * 2 ^ 16 + imm)
def encJ (op disp : Nat) : Nat := op * 2 ^ 29 + disp

/-- A line of DRAM is poisoned where a fetch would find it (R464). -/
def linePoison (s : State) (line : Nat) : Bool :=
  match (List.range 4).find? (fun d => decide ((s.l2 d line).st ≠ 0)) with
  | some d => (s.l2 d line).poison
  | none => s.marked line

/-- The fetch of the instruction at the PC (R384, R403, R437, R531, R533). -/
def fetch (s : State) (n : Nat) : Res Unit × State :=
  let c := s.scribe n
  let x : CoreAcc := { n := n, level := scribeLevel c, kind := 2, reach := decide (getField c.status 6 1 = 1) }
  if n = 32 then
    let inside : Bool := match regionOf c.pc with
      | .sram _ => true
      | .rom _ => true
      | .flash _ => true
      | _ => false
    if ¬ inside then (.bad (busExc x c.pc c.pc 6), s.busErrFor c.pc 6 0x20 false)
    else match mcFetch s c.pc (decide (c.hist.head? = some c.pc)) with
      | (true, s) => (.ok (), s)
      | (false, s) => (.wait, s)
  else andThen (translate s x (BitVec.ofNat 72 c.pc)) (fun p s => match dramFault s p.1 with
    | some k => (.bad (busExc x c.pc p.1 k), s.busErrFor p.1 k n false)
    | none => if linePoison s (p.1 / 64) then (.bad { code := 7, faddr := c.pc, fpaddr := p.1 / 64 * 64 }, s) else (.ok (), s))

/-- A core issues instructions (R397, R539). -/
def coreIssues (s : State) (n : Nat) : Bool :=
  if n < 32 then decide (s.rd (F.DSK_SST n) = 1) else decide (n = 32) && mcRuns s

/-- An instruction completes with the next PC, or a step of a block instruction ends without one (R386, R397). -/
def finish (s : State) (n : Nat) (next : Option Nat) : State :=
  match next with
  | none => stepDone s n
  | some pc =>
    let old := (s.scribe n).pc
    let s := s.modScribe n (fun c => { c with pc := pc % 2 ^ 48 })
    stepDone (if n < 32 then (s.wr (F.DSK_PC n) old).bump (F.DSK_INST n) else s) n

/-- What an instruction does: its next PC (none: the instruction again), an exception, or a wait. -/
abbrev Body := State → Res (Option Nat) × State

/-- An instruction reaches a core's boundary: a halt asked for comes first, then a deliverable interrupt (R406, R575); then its
fetch, its fetch comparators (R583), and the instruction itself. An instruction that waits for memory has no effect and is sent
again. -/
def issue (s : State) (n half : Nat) (body : Body) : State :=
  if ¬ coreIssues s n then s
  else if (s.scribe n).haltReq then coreHalt s n
  else match coreInterrupt s n with
    | some (src, level, ilvl) => takeInterrupt (icuTaken s n src) n src level ilvl
    | none => match fetch s n with
      | (.wait, s) => s
      | (.bad x, s) => trap s n x
      | (.ok _, s) =>
        let pc := (s.scribe n).pc
        if fetchHalts s n pc ∧ ¬ (s.scribe n).stepping then coreHalt (coreCompare s n 0 pc 0) n
        else match body (coreCompare s n 0 pc 0) with
          | (.wait, _) => (body s).2
          | (.bad x, s) => trap s n { x with inst := half }
          | (.ok next, s) => finish s n next

/-- The illegal-instruction fault (R373). -/
def illegal (s : State) : Res (Option Nat) × State := (.bad { code := 1 }, s)

/-- The instruction after the present one (R369). -/
def nextPc (s : State) (n : Nat) : Nat := ((s.scribe n).pc + 4) % 2 ^ 48

/-- A result is written and the next instruction follows. -/
def result (s : State) (n gd : Nat) (v : Word) : Res (Option Nat) × State := (.ok (some (nextPc s n)), s.setG n gd v)

/-- The level of a core and its REACH. -/
def coreLevel (s : State) (n : Nat) : Nat := scribeLevel (s.scribe n)
def coreReach (s : State) (n : Nat) : Bool := decide (getField (s.scribe n).status 6 1 = 1)

/-- An access of the present instruction. -/
def accOf (s : State) (n kind half : Nat) : CoreAcc := { n := n, level := coreLevel s n, kind := kind, reach := coreReach s n, inst := half }

end Sys2Proof.Machine
end

