-- ==== Sys2Proof/Machine/Alu.lean ====
section
/-! DEFINITION. Integer instructions, selection, multiplication and division, the immediate format, OPACK, OUNPACK and CRC
(R372, R390, R391).
Decisions: log entry 57 (DEDUCED). -/

namespace Sys2Proof.Machine
open Sys2Proof

def flag (b : Bool) : Word := if b then 1 else 0
def leadingZeros (a : Word) : Word := BitVec.ofNat 72 ((findBelow (fun k => bitOf a.toNat (71 - k)) 72).getD 72)
def trailingZeros (a : Word) : Word := BitVec.ofNat 72 ((findBelow (fun k => bitOf a.toNat k) 72).getD 72)
def setBitsOf (a : Word) : Word := BitVec.ofNat 72 ((List.range 72).filter (fun k => bitOf a.toNat k)).length

/-- A register operation of two operands (R372). -/
def regOp (n gd ga gb : Nat) (f : Word → Word → Word) : Body :=
  fun s => result s n gd (f (s.g n ga) (s.g n gb))

/-- A register operation of one operand; the gb field is 0. -/
def unaryOp (n gd ga gb : Nat) (f : Word → Word) : Body :=
  fun s => if gb ≠ 0 then illegal s else result s n gd (f (s.g n ga))

/-- ADD (R372). -/
def execAdd (core : Nat) (gd ga gb : BitVec 5) (s : State) : Out :=
  .next (issue s core (encR 0x00 gd.toNat ga.toNat gb.toNat 0x000) (regOp core gd.toNat ga.toNat gb.toNat (fun a b => a + b)))

/-- SUB (R372). -/
def execSub (core : Nat) (gd ga gb : BitVec 5) (s : State) : Out :=
  .next (issue s core (encR 0x00 gd.toNat ga.toNat gb.toNat 0x001) (regOp core gd.toNat ga.toNat gb.toNat (fun a b => a - b)))

/-- AND (R372). -/
def execAnd (core : Nat) (gd ga gb : BitVec 5) (s : State) : Out :=
  .next (issue s core (encR 0x00 gd.toNat ga.toNat gb.toNat 0x002) (regOp core gd.toNat ga.toNat gb.toNat (fun a b => a &&& b)))

/-- OR (R372). -/
def execOr (core : Nat) (gd ga gb : BitVec 5) (s : State) : Out :=
  .next (issue s core (encR 0x00 gd.toNat ga.toNat gb.toNat 0x003) (regOp core gd.toNat ga.toNat gb.toNat (fun a b => a ||| b)))

/-- XOR (R372). -/
def execXor (core : Nat) (gd ga gb : BitVec 5) (s : State) : Out :=
  .next (issue s core (encR 0x00 gd.toNat ga.toNat gb.toNat 0x004) (regOp core gd.toNat ga.toNat gb.toNat (fun a b => a ^^^ b)))

/-- ANDN (R372). -/
def execAndn (core : Nat) (gd ga gb : BitVec 5) (s : State) : Out :=
  .next (issue s core (encR 0x00 gd.toNat ga.toNat gb.toNat 0x005) (regOp core gd.toNat ga.toNat gb.toNat (fun a b => a &&& ~~~b)))

/-- SLL (R372). -/
def execSll (core : Nat) (gd ga gb : BitVec 5) (s : State) : Out :=
  .next (issue s core (encR 0x00 gd.toNat ga.toNat gb.toNat 0x006) (regOp core gd.toNat ga.toNat gb.toNat (fun a b => a <<< getField b 0 7)))

/-- SRL (R372). -/
def execSrl (core : Nat) (gd ga gb : BitVec 5) (s : State) : Out :=
  .next (issue s core (encR 0x00 gd.toNat ga.toNat gb.toNat 0x007) (regOp core gd.toNat ga.toNat gb.toNat (fun a b => a >>> getField b 0 7)))

/-- SRA (R372). -/
def execSra (core : Nat) (gd ga gb : BitVec 5) (s : State) : Out :=
  .next (issue s core (encR 0x00 gd.toNat ga.toNat gb.toNat 0x008) (regOp core gd.toNat ga.toNat gb.toNat (fun a b => a.sshiftRight (getField b 0 7))))

/-- ROR (R372). -/
def execRor (core : Nat) (gd ga gb : BitVec 5) (s : State) : Out :=
  .next (issue s core (encR 0x00 gd.toNat ga.toNat gb.toNat 0x009) (regOp core gd.toNat ga.toNat gb.toNat (fun a b => a.rotateRight (b.toNat % 72))))

/-- SLT (R372). -/
def execSlt (core : Nat) (gd ga gb : BitVec 5) (s : State) : Out :=
  .next (issue s core (encR 0x00 gd.toNat ga.toNat gb.toNat 0x00a) (regOp core gd.toNat ga.toNat gb.toNat (fun a b => flag (a.slt b))))

/-- SLTU (R372). -/
def execSltu (core : Nat) (gd ga gb : BitVec 5) (s : State) : Out :=
  .next (issue s core (encR 0x00 gd.toNat ga.toNat gb.toNat 0x00b) (regOp core gd.toNat ga.toNat gb.toNat (fun a b => flag (a.ult b))))

/-- MIN (R372). -/
def execMin (core : Nat) (gd ga gb : BitVec 5) (s : State) : Out :=
  .next (issue s core (encR 0x00 gd.toNat ga.toNat gb.toNat 0x00c) (regOp core gd.toNat ga.toNat gb.toNat (fun a b => if a.slt b then a else b)))

/-- MAX (R372). -/
def execMax (core : Nat) (gd ga gb : BitVec 5) (s : State) : Out :=
  .next (issue s core (encR 0x00 gd.toNat ga.toNat gb.toNat 0x00d) (regOp core gd.toNat ga.toNat gb.toNat (fun a b => if a.slt b then b else a)))

/-- MINU (R372). -/
def execMinu (core : Nat) (gd ga gb : BitVec 5) (s : State) : Out :=
  .next (issue s core (encR 0x00 gd.toNat ga.toNat gb.toNat 0x00e) (regOp core gd.toNat ga.toNat gb.toNat (fun a b => if a.ult b then a else b)))

/-- MAXU (R372). -/
def execMaxu (core : Nat) (gd ga gb : BitVec 5) (s : State) : Out :=
  .next (issue s core (encR 0x00 gd.toNat ga.toNat gb.toNat 0x00f) (regOp core gd.toNat ga.toNat gb.toNat (fun a b => if a.ult b then b else a)))

/-- CLZ (R372). -/
def execClz (core : Nat) (gd ga gb : BitVec 5) (s : State) : Out :=
  .next (issue s core (encR 0x00 gd.toNat ga.toNat gb.toNat 0x010) (unaryOp core gd.toNat ga.toNat gb.toNat (fun a => leadingZeros a)))

/-- CTZ (R372). -/
def execCtz (core : Nat) (gd ga gb : BitVec 5) (s : State) : Out :=
  .next (issue s core (encR 0x00 gd.toNat ga.toNat gb.toNat 0x011) (unaryOp core gd.toNat ga.toNat gb.toNat (fun a => trailingZeros a)))

/-- POPC (R372). -/
def execPopc (core : Nat) (gd ga gb : BitVec 5) (s : State) : Out :=
  .next (issue s core (encR 0x00 gd.toNat ga.toNat gb.toNat 0x012) (unaryOp core gd.toNat ga.toNat gb.toNat (fun a => setBitsOf a)))

/-- SXB (R372). -/
def execSxb (core : Nat) (gd ga gb : BitVec 5) (s : State) : Out :=
  .next (issue s core (encR 0x00 gd.toNat ga.toNat gb.toNat 0x013) (unaryOp core gd.toNat ga.toNat gb.toNat (fun a => (a.extractLsb' 0 9).signExtend 72)))

/-- SXQ (R372). -/
def execSxq (core : Nat) (gd ga gb : BitVec 5) (s : State) : Out :=
  .next (issue s core (encR 0x00 gd.toNat ga.toNat gb.toNat 0x014) (unaryOp core gd.toNat ga.toNat gb.toNat (fun a => (a.extractLsb' 0 18).signExtend 72)))

/-- SXH (R372). -/
def execSxh (core : Nat) (gd ga gb : BitVec 5) (s : State) : Out :=
  .next (issue s core (encR 0x00 gd.toNat ga.toNat gb.toNat 0x015) (unaryOp core gd.toNat ga.toNat gb.toNat (fun a => (a.extractLsb' 0 36).signExtend 72)))

/-- ZXB (R372). -/
def execZxb (core : Nat) (gd ga gb : BitVec 5) (s : State) : Out :=
  .next (issue s core (encR 0x00 gd.toNat ga.toNat gb.toNat 0x016) (unaryOp core gd.toNat ga.toNat gb.toNat (fun a => (a.extractLsb' 0 9).setWidth 72)))

/-- ZXQ (R372). -/
def execZxq (core : Nat) (gd ga gb : BitVec 5) (s : State) : Out :=
  .next (issue s core (encR 0x00 gd.toNat ga.toNat gb.toNat 0x017) (unaryOp core gd.toNat ga.toNat gb.toNat (fun a => (a.extractLsb' 0 18).setWidth 72)))

/-- ZXH (R372). -/
def execZxh (core : Nat) (gd ga gb : BitVec 5) (s : State) : Out :=
  .next (issue s core (encR 0x00 gd.toNat ga.toNat gb.toNat 0x018) (unaryOp core gd.toNat ga.toNat gb.toNat (fun a => (a.extractLsb' 0 36).setWidth 72)))

/-- MUL (R372). -/
def execMul (core : Nat) (gd ga gb : BitVec 5) (s : State) : Out :=
  .next (issue s core (encR 0x01 gd.toNat ga.toNat gb.toNat 0x000) (regOp core gd.toNat ga.toNat gb.toNat (fun a b => a * b)))

/-- MULH (R372). -/
def execMulh (core : Nat) (gd ga gb : BitVec 5) (s : State) : Out :=
  .next (issue s core (encR 0x01 gd.toNat ga.toNat gb.toNat 0x001) (regOp core gd.toNat ga.toNat gb.toNat (fun a b => BitVec.ofInt 72 (a.toInt * b.toInt / 2 ^ 72))))

/-- MULHU (R372). -/
def execMulhu (core : Nat) (gd ga gb : BitVec 5) (s : State) : Out :=
  .next (issue s core (encR 0x01 gd.toNat ga.toNat gb.toNat 0x002) (regOp core gd.toNat ga.toNat gb.toNat (fun a b => BitVec.ofNat 72 (a.toNat * b.toNat / 2 ^ 72))))

/-- DIV (R372). -/
def execDiv (core : Nat) (gd ga gb : BitVec 5) (s : State) : Out :=
  .next (issue s core (encR 0x01 gd.toNat ga.toNat gb.toNat 0x003) (regOp core gd.toNat ga.toNat gb.toNat (fun a b => if b = 0 then allOnes else a.sdiv b)))

/-- DIVU (R372). -/
def execDivu (core : Nat) (gd ga gb : BitVec 5) (s : State) : Out :=
  .next (issue s core (encR 0x01 gd.toNat ga.toNat gb.toNat 0x004) (regOp core gd.toNat ga.toNat gb.toNat (fun a b => if b = 0 then allOnes else a.udiv b)))

/-- REM (R372). -/
def execRem (core : Nat) (gd ga gb : BitVec 5) (s : State) : Out :=
  .next (issue s core (encR 0x01 gd.toNat ga.toNat gb.toNat 0x005) (regOp core gd.toNat ga.toNat gb.toNat (fun a b => if b = 0 then a else a.srem b)))

/-- REMU (R372). -/
def execRemu (core : Nat) (gd ga gb : BitVec 5) (s : State) : Out :=
  .next (issue s core (encR 0x01 gd.toNat ga.toNat gb.toNat 0x006) (regOp core gd.toNat ga.toNat gb.toNat (fun a b => if b = 0 then a else a.umod b)))

/-- The conditions of SEL (R372); none for a code that is not defined. -/
def selCond (c : Nat) (a : Word) : Option Bool :=
  if c = 0 then some (decide (a = 0)) else if c = 1 then some (decide (a ≠ 0)) else if c = 2 then some a.msb
  else if c = 3 then some (!a.msb) else if c = 4 then some (!a.msb && decide (a ≠ 0)) else if c = 5 then some (a.msb || decide (a = 0))
  else none

/-- What SEL does. -/
def selBody (n gd ga gb fn : Nat) : Body := fun s =>
  if bitsOf fn 8 6 ≠ 0 then illegal s
  else match selCond (bitsOf fn 5 3) (s.g n ga) with
    | none => illegal s
    | some b => result s n gd (if b then s.g n gb else s.g n (fn % 32))

/-- SEL (R372). -/
def execSel (core : Nat) (gd ga gb : BitVec 5) (fn : BitVec 14) (s : State) : Out :=
  .next (issue s core (encR 0x02 gd.toNat ga.toNat gb.toNat fn.toNat) (selBody core gd.toNat ga.toNat gb.toNat fn.toNat))

/-- An operation of a register and an immediate (R372). -/
def immOp (n gd ga : Nat) (f : Word → Word) : Body := fun s => result s n gd (f (s.g n ga))

/-- A shift by an immediate: amounts 0 to 71, and imm[18:7] 0. -/
def shiftImm (n gd ga imm : Nat) (f : Word → Nat → Word) : Body :=
  fun s => if 72 ≤ imm then illegal s else result s n gd (f (s.g n ga) imm)

/-- ADDI (R372). -/
def execAddi (core : Nat) (gd ga : BitVec 5) (imm : BitVec 19) (s : State) : Out :=
  .next (issue s core (encI 0x10 gd.toNat ga.toNat imm.toNat) (immOp core gd.toNat ga.toNat (fun a => a + imm.signExtend 72)))

/-- ANDI (R372). -/
def execAndi (core : Nat) (gd ga : BitVec 5) (imm : BitVec 19) (s : State) : Out :=
  .next (issue s core (encI 0x11 gd.toNat ga.toNat imm.toNat) (immOp core gd.toNat ga.toNat (fun a => a &&& imm.signExtend 72)))

/-- ORI (R372). -/
def execOri (core : Nat) (gd ga : BitVec 5) (imm : BitVec 19) (s : State) : Out :=
  .next (issue s core (encI 0x12 gd.toNat ga.toNat imm.toNat) (immOp core gd.toNat ga.toNat (fun a => a ||| imm.setWidth 72)))

/-- XORI (R372). -/
def execXori (core : Nat) (gd ga : BitVec 5) (imm : BitVec 19) (s : State) : Out :=
  .next (issue s core (encI 0x13 gd.toNat ga.toNat imm.toNat) (immOp core gd.toNat ga.toNat (fun a => a ^^^ imm.setWidth 72)))

/-- SLTI (R372). -/
def execSlti (core : Nat) (gd ga : BitVec 5) (imm : BitVec 19) (s : State) : Out :=
  .next (issue s core (encI 0x14 gd.toNat ga.toNat imm.toNat) (immOp core gd.toNat ga.toNat (fun a => flag (a.slt (imm.signExtend 72)))))

/-- SLTIU (R372). -/
def execSltiu (core : Nat) (gd ga : BitVec 5) (imm : BitVec 19) (s : State) : Out :=
  .next (issue s core (encI 0x15 gd.toNat ga.toNat imm.toNat) (immOp core gd.toNat ga.toNat (fun a => flag (a.ult (imm.signExtend 72)))))

/-- SLLI (R372). -/
def execSlli (core : Nat) (gd ga : BitVec 5) (imm : BitVec 19) (s : State) : Out :=
  .next (issue s core (encI 0x16 gd.toNat ga.toNat imm.toNat) (shiftImm core gd.toNat ga.toNat imm.toNat (fun a k => a <<< k)))

/-- SRLI (R372). -/
def execSrli (core : Nat) (gd ga : BitVec 5) (imm : BitVec 19) (s : State) : Out :=
  .next (issue s core (encI 0x17 gd.toNat ga.toNat imm.toNat) (shiftImm core gd.toNat ga.toNat imm.toNat (fun a k => a >>> k)))

/-- SRAI (R372). -/
def execSrai (core : Nat) (gd ga : BitVec 5) (imm : BitVec 19) (s : State) : Out :=
  .next (issue s core (encI 0x18 gd.toNat ga.toNat imm.toNat) (shiftImm core gd.toNat ga.toNat imm.toNat (fun a k => a.sshiftRight k)))

/-- RORI (R372). -/
def execRori (core : Nat) (gd ga : BitVec 5) (imm : BitVec 19) (s : State) : Out :=
  .next (issue s core (encI 0x19 gd.toNat ga.toNat imm.toNat) (shiftImm core gd.toNat ga.toNat imm.toNat (fun a k => a.rotateRight k)))

/-- SHIN (R372). -/
def execShin (core : Nat) (gd ga : BitVec 5) (imm : BitVec 19) (s : State) : Out :=
  .next (issue s core (encI 0x1A gd.toNat ga.toNat imm.toNat) (immOp core gd.toNat ga.toNat (fun a => (a <<< 19) + imm.setWidth 72)))

/-- ADDPC (R372): the ga field is 0. -/
def execAddpc (core : Nat) (gd ga : BitVec 5) (imm : BitVec 19) (s : State) : Out :=
  .next (issue s core (encI 0x1B gd.toNat ga.toNat imm.toNat) (fun s =>
    if ga ≠ 0 then illegal s
    else result s core gd.toNat (BitVec.ofNat 72 (s.scribe core).pc + (imm.signExtend 72 <<< 2))))

/-! ### Packed octets and CRC -/

/-- OUNPACK: octets k to k + 7 of gb:ga, one to a byte (R390). -/
def unpackBody (n gd ga gb fn : Nat) : Body := fun s =>
  let v := (s.g n gb).toNat * 2 ^ 72 + (s.g n ga).toNat
  if bitsOf fn 4 10 ≠ 0 ∨ 10 < fn % 16 then illegal s
  else result s n gd ((List.range 8).foldl (fun w j => putField w (9 * j) 8 (bitsOf v (8 * (fn % 16 + j)) 8)) 0)

/-- OUNPACK (R390). -/
def execOunpack (core : Nat) (gd ga gb : BitVec 5) (fn : BitVec 14) (s : State) : Out :=
  .next (issue s core (encR 0x05 gd.toNat ga.toNat gb.toNat fn.toNat) (unpackBody core gd.toNat ga.toNat gb.toNat fn.toNat))

/-- OPACK: octets k to k + 8 of the bytes of gb:ga in packed form (R390). -/
def packBody (n gd ga gb fn : Nat) : Body := fun s =>
  let octet (j : Nat) : Nat := if j < 8 then getField (s.g n ga) (9 * j) 8 else getField (s.g n gb) (9 * (j - 8)) 8
  if bitsOf fn 12 2 ≠ 1 ∨ bitsOf fn 4 8 ≠ 0 ∨ 7 < fn % 16 then illegal s
  else result s n gd ((List.range 9).foldl (fun w j => putField w (8 * j) 8 (octet (fn % 16 + j))) 0)

/-- OPACK (R390). -/
def execOpack (core : Nat) (gd ga gb : BitVec 5) (fn : BitVec 14) (s : State) : Out :=
  .next (issue s core (encR 0x05 gd.toNat ga.toNat gb.toNat fn.toNat) (packBody core gd.toNat ga.toNat gb.toNat fn.toNat))

/-- CRC: n octets of gb, one to a byte or packed (R391). -/
def crcBody (n gd ga gb fn : Nat) : Body := fun s =>
  let count := bitsOf fn 2 4
  let packed := bitOf fn 1
  let poly := if bitOf fn 0 then 0xEDB88320 else 0x82F63B78
  let octet (i : Nat) : Nat := if packed then getField (s.g n gb) (8 * i) 8 else getField (s.g n gb) (9 * i) 8
  if bitsOf fn 6 8 ≠ 0 ∨ count = 0 ∨ (if packed then 9 else 8) < count then illegal s
  else result s n gd (BitVec.ofNat 72 ((List.range count).foldl (fun c i => crcOctet poly c (octet i)) (getField (s.g n ga) 0 32)))

/-- CRC (R391). -/
def execCrc (core : Nat) (gd ga gb : BitVec 5) (fn : BitVec 14) (s : State) : Out :=
  .next (issue s core (encR 0x06 gd.toNat ga.toNat gb.toNat fn.toNat) (crcBody core gd.toNat ga.toNat gb.toNat fn.toNat))

end Sys2Proof.Machine
end

