-- ==== Sys2Proof/Machine/Block.lean ====
section
/-! DEFINITION. Block instructions (R386 to R389): one step is one command.
Decisions: log entry 58 (DEDUCED). -/

namespace Sys2Proof.Machine
open Sys2Proof

/-- The operands of a block instruction are distinct and none is g0 (R386). -/
def blockOk (n gd ga gb : Nat) : Bool :=
  decide (n ≠ 32) && decide (gd ≠ 0) && decide (ga ≠ 0) && decide (gb ≠ 0) && decide (gd ≠ ga) && decide (gd ≠ gb) && decide (ga ≠ gb)

/-- The bytes from an address to the end of its line (R386). -/
def toLineEnd (a : Word) : Nat := 64 - a.toNat % 64

/-- A step's bytes at an address, translated; a device region is an alignment fault, and DRAM that is absent a bus error. -/
def blockPlace (s : State) (x : CoreAcc) (ea : Word) (len : Nat) : Res Part × State :=
  andThen (translate s x ea) (fun p s =>
    if p.2 = 2 then (.bad (alignExc x ea), s)
    else match dramFault s p.1 with
      | some c => (.bad (busExc x (getField ea 0 48) p.1 c), s.busErrFor p.1 c x.n (decide (x.kind = 1)))
      | none => (.ok { ea := ea, len := len, pa := p.1, attr := p.2, split := false }, s))

/-- A step's bytes are written. -/
def blockWrite (s : State) (n : Nat) (p : Part) (l : List Nat) : Res Unit × State :=
  let wr := l.zipIdx.map (fun (b : Nat × Nat) => (p.pa % 64 + b.2, b.1))
  if p.attr = 1 then (.ok (), ncWrite s n (p.pa / 64) wr)
  else match makeRoom 9 s n 1 with
    | (false, s) => (.wait, s)
    | (true, s) => (.ok (), (putStore s n (p.pa / 64) wr).2)

/-- After a step: the instruction is over when no byte is left (R386). -/
def blockNext (s : State) (n gb : Nat) : Res (Option Nat) × State :=
  (.ok (if s.g n gb = 0 then some (nextPc s n) else none), s)

/-- One step of BMOVE (R387). A destination that lies less than a step above the source takes the bytes that the copy itself has
written. -/
def bmoveBody (n half gd ga gb : Nat) (err : MemErr) : Body := fun s =>
  let dst := s.g n gd
  let src := s.g n ga
  let left := s.g n gb
  if ¬ blockOk n gd ga gb then illegal s
  else if left = 0 then blockNext s n gb
  else
    let k := min left.toNat (min (toLineEnd src) (toLineEnd dst))
    let delta := (dst - src).toNat
    andThen (blockPlace s (accOf s n 0 half) src k) (fun ps s => andThen (blockPlace s (accOf s n 1 half) dst k) (fun pd s =>
      andThen (readBytes s (accOf s n 0 half) ps false err) (fun l s =>
        let l := (List.range k).map (fun i => l.getD (if 0 < delta ∧ delta < k then i % delta else i) 0)
        andThen (blockWrite s n pd l) (fun _ s =>
          let w := BitVec.ofNat 72 k
          let s := ((s.setG n gd (dst + w)).setG n ga (src + w)).setG n gb (left - w)
          let s := coreCompare s n 1 (getField src 0 48) (byteValue (l.take 8))
          blockNext (coreCompare s n 2 (getField dst 0 48) (byteValue (l.take 8))) n gb))))

/-- BMOVE (R386, R387). -/
def execBmove (core : Nat) (gd ga gb : BitVec 5) (err : MemErr) (s : State) : Out :=
  let half := encR 0x07 gd.toNat ga.toNat gb.toNat 0
  .next (issue s core half (bmoveBody core half gd.toNat ga.toNat gb.toNat err))

/-- One step of BFILL (R388). -/
def bfillBody (n half gd ga gb : Nat) (err : MemErr) : Body := fun s =>
  let dst := s.g n gd
  let left := s.g n gb
  if ¬ blockOk n gd ga gb then illegal s
  else if left = 0 then blockNext s n gb
  else
    let k := min left.toNat (toLineEnd dst)
    andThen (blockPlace s (accOf s n 1 half) dst k) (fun pd s =>
      let s := if pd.attr = 0 then storeErr s n (pd.pa / 64) err else s
      let l := (List.range k).map (fun i => getField (s.g n ga) (9 * ((dst.toNat + i) % 8)) 9)
      andThen (blockWrite s n pd l) (fun _ s =>
        let w := BitVec.ofNat 72 k
        let s := (s.setG n gd (dst + w)).setG n gb (left - w)
        blockNext (coreCompare s n 2 (getField dst 0 48) (byteValue (l.take 8))) n gb))

/-- BFILL (R386, R388). -/
def execBfill (core : Nat) (gd ga gb : BitVec 5) (err : MemErr) (s : State) : Out :=
  let half := encR 0x07 gd.toNat ga.toNat gb.toNat 1
  .next (issue s core half (bfillBody core half gd.toNat ga.toNat gb.toNat err))

/-- One step of BSCAN (R389). -/
def bscanBody (n half gd ga gb fn : Nat) (err : MemErr) : Body := fun s =>
  let start := s.g n gd
  let left := s.g n gb
  let u := 2 ^ (fn % 4)
  let x := accOf s n 0 half
  if ¬ blockOk n gd ga gb ∨ bitsOf fn 12 2 ≠ 2 ∨ bitsOf fn 3 9 ≠ 0 then illegal s
  else if left = 0 then blockNext s n gb
  else if start.toNat % u ≠ 0 ∨ left.toNat % u ≠ 0 then (.bad (alignExc x start), s)
  else
    let k := min left.toNat (toLineEnd start)
    andThen (blockPlace s x start k) (fun p s => andThen (readBytes s x p false err) (fun l s =>
      let key := getField (s.g n ga) 0 (9 * u)
      let s := coreCompare s n 1 (getField start 0 48) (byteValue (l.take 8))
      let hit (j : Nat) : Bool := decide ((byteValue ((l.drop (j * u)).take u)).toNat = key) != bitOf fn 2
      match findBelow hit (k / u) with
      | some j => (.ok (some (nextPc s n)), (s.setG n gd (start + BitVec.ofNat 72 (j * u))).setG n gb (left - BitVec.ofNat 72 (j * u)))
      | none => blockNext ((s.setG n gd (start + BitVec.ofNat 72 k)).setG n gb (left - BitVec.ofNat 72 k)) n gb))

/-- BSCAN (R386, R389). -/
def execBscan (core : Nat) (gd ga gb : BitVec 5) (fn : BitVec 14) (err : MemErr) (s : State) : Out :=
  let half := encR 0x07 gd.toNat ga.toNat gb.toNat fn.toNat
  .next (issue s core half (bscanBody core half gd.toNat ga.toNat gb.toNat fn.toNat err))

end Sys2Proof.Machine
end

