-- ==== Sys2Proof/Machine/Control.lean ====
section
/-! DEFINITION. Branches, jumps and calls, and the predictors (R370, R372, R379, R380, R586).
Decisions: log entries 57 (DEDUCED), 60 (DEDUCED). -/

namespace Sys2Proof.Machine
open Sys2Proof

/-- A target relative to the PC, in halves (R370). -/
def pcTarget (s : State) (n disp len : Nat) : Nat := ((((s.scribe n).pc : Nat) : Int) + signedOf disp len * 4).emod (2 ^ 48) |>.toNat

/-- A taken transfer enters its target into the history (R379). -/
def transfer (s : State) (n target : Nat) : State := s.modScribe n (fun c => { c with hist := (target :: c.hist).take 16 })

/-- What a conditional branch does. -/
def branchBody (n ga gb disp : Nat) (test : Word → Word → Bool) : Body := fun s =>
  let taken := test (s.g n ga) (s.g n gb)
  let target := pcTarget s n disp 19
  let s := if n < 32 then s.bump (F.DSK_CBR n) else s
  let s := traceBranch s n taken
  if taken then (.ok (some target), transfer s n target) else (.ok (some (nextPc s n)), s)

/-- BEQ (R372). -/
def execBeq (core : Nat) (ga gb : BitVec 5) (disp : BitVec 19) (s : State) : Out :=
  .next (issue s core (encI 0x30 ga.toNat gb.toNat disp.toNat) (branchBody core ga.toNat gb.toNat disp.toNat (fun a b => decide (a = b))))

/-- BNE (R372). -/
def execBne (core : Nat) (ga gb : BitVec 5) (disp : BitVec 19) (s : State) : Out :=
  .next (issue s core (encI 0x31 ga.toNat gb.toNat disp.toNat) (branchBody core ga.toNat gb.toNat disp.toNat (fun a b => decide (a ≠ b))))

/-- BLT (R372). -/
def execBlt (core : Nat) (ga gb : BitVec 5) (disp : BitVec 19) (s : State) : Out :=
  .next (issue s core (encI 0x32 ga.toNat gb.toNat disp.toNat) (branchBody core ga.toNat gb.toNat disp.toNat (fun a b => a.slt b)))

/-- BGE (R372). -/
def execBge (core : Nat) (ga gb : BitVec 5) (disp : BitVec 19) (s : State) : Out :=
  .next (issue s core (encI 0x33 ga.toNat gb.toNat disp.toNat) (branchBody core ga.toNat gb.toNat disp.toNat (fun a b => !(a.slt b))))

/-- BLTU (R372). -/
def execBltu (core : Nat) (ga gb : BitVec 5) (disp : BitVec 19) (s : State) : Out :=
  .next (issue s core (encI 0x34 ga.toNat gb.toNat disp.toNat) (branchBody core ga.toNat gb.toNat disp.toNat (fun a b => a.ult b)))

/-- BGEU (R372). -/
def execBgeu (core : Nat) (ga gb : BitVec 5) (disp : BitVec 19) (s : State) : Out :=
  .next (issue s core (encI 0x35 ga.toNat gb.toNat disp.toNat) (branchBody core ga.toNat gb.toNat disp.toNat (fun a b => !(a.ult b))))

/-- JMP (R372). -/
def execJmp (core : Nat) (disp : BitVec 29) (s : State) : Out :=
  .next (issue s core (encJ 0x38 disp.toNat) (fun s =>
    let target := pcTarget s core disp.toNat 29
    (.ok (some target), transfer s core target)))

/-- The return stack takes the address after a call (R380). -/
def pushReturn (s : State) (n : Nat) : State :=
  let next := nextPc s n
  s.modScribe n (fun c => { c with rstack := (next :: c.rstack).take 32 })

/-- CALL (R372). -/
def execCall (core : Nat) (disp : BitVec 29) (s : State) : Out :=
  .next (issue s core (encJ 0x39 disp.toNat) (fun s =>
    let target := pcTarget s core disp.toNat 29
    let s := (pushReturn s core).setG core 31 (BitVec.ofNat 72 (nextPc s core))
    (.ok (some target), transfer s core target)))

/-- The index of the indirect-target table (R379). -/
def targetIndex (pc : Nat) (hist : List Nat) : Nat :=
  (List.range 16).foldl (fun x i =>
    let v := hist.getD i 0 / 4 % 4096
    x ^^^ ((v * 2 ^ (i % 12) % 4096) + v / 2 ^ (12 - i % 12))) (pc / 4 % 4096)

/-- What JALR does: a return pops the return stack; any other takes its target from the table, which learns it; a call pushes
the return stack (R379, R380). -/
def jalrBody (n gd ga gb fn : Nat) : Body := fun s =>
  if gb ≠ 0 then illegal s
  else
    let c := s.scribe n
    let target := getField (s.g n ga + BitVec.ofInt 72 (signedOf fn 14 * 4)) 0 48 / 4 * 4
    let ret := decide (gd = 0) && decide (ga = 31) && decide (fn = 0)
    let idx := targetIndex c.pc c.hist
    let s := if ret then
        (let s := if n < 32 ∧ c.rstack.head? ≠ some target then s.bump (F.DSK_RMISS n) else s
         s.modScribe n (fun c => { c with rstack := c.rstack.drop 1 }))
      else
        (let s := if n < 32 ∧ tget c.itab idx ≠ target + 1 then s.bump (F.DSK_IMISS n) else s
         s.modScribe n (fun c => { c with itab := tset c.itab idx (target + 1) }))
    let s := if gd = 31 then pushReturn s n else s
    let s := s.setG n gd (BitVec.ofNat 72 (nextPc s n))
    let s := transfer s n target
    (.ok (some target), tracePacket s n 2 (target + (if ret then 1 else 0)) none)

/-- JALR (R372, R379). -/
def execJalr (core : Nat) (gd ga gb : BitVec 5) (fn : BitVec 14) (s : State) : Out :=
  .next (issue s core (encR 0x08 gd.toNat ga.toNat gb.toNat fn.toNat) (jalrBody core gd.toNat ga.toNat gb.toNat fn.toNat))

end Sys2Proof.Machine
end

