-- ==== Sys2Proof/Machine/Dbgacc.lean ====
section
/-! DEFINITION. The debug bus master (R572, R573).
Decisions: log entry 74 (DEDUCED). -/

namespace Sys2Proof.Machine
open Sys2Proof

/-- The result of the latest access: STATUS and DATA (R572). -/
def dbgResult (s : State) (status : Nat) (data : Word) : State := { s with dbg := { s.dbg with status := status, data := data } }

/-- The bytes of an access: their number, and the byte of the word at which it starts. -/
def dbgLen (size : Nat) : Nat := if size = 0 then 1 else if size = 1 then 2 else if size = 2 then 4 else 8

/-- Whether a write at level 1 is refused (R573). -/
def dbgBarred (addr : Nat) : Bool :=
  match regionOf addr with
  | .inkwell _ _ => true
  | .page p _ => match pageKind p with
    | some k => decide (k = .csn ∨ k = .tim ∨ k = .rul0 ∨ k = .rul ∨ k = .msh ∨ k = .fer ∨ k = .lnk ∨ k = .sub ∨ k = .pub)
    | none => false
  | _ => false

/-- The bytes of an access that lie in its first word, and a mask of the low n bytes. -/
def dbgFirst (a : DbgAcc) : Nat := min (dbgLen a.size) (8 - a.addr % 8)
def lowBytes (n : Nat) : Word := BitVec.ofNat 72 (2 ^ (9 * n) - 1)

/-- The word access size that a part of an access has (R51): only a whole aligned word on a register page. -/
def dbgPart (a : DbgAcc) (n : Nat) : Nat := if n = dbgLen a.size then n else 1

/-- The value read, in its low bytes. -/
def dbgRead (s : State) (a : DbgAcc) : Phys × State :=
  let n := dbgFirst a
  let m := dbgLen a.size - n
  let inspect := decide (a.op = 1)
  match physRead s 0x21 0 a.addr (dbgPart a n) inspect .clean with
  | (.ok w p, s) =>
    let lo := (w >>> (9 * (a.addr % 8))) &&& lowBytes n
    if m = 0 then (.ok lo p, s)
    else (match physRead s 0x21 0 (a.addr + n) (dbgPart a m) inspect .clean with
      | (.ok v q, s) => (.ok (lo ||| ((v &&& lowBytes m) <<< (9 * n))) (p || q), s)
      | r => r)
  | r => r

/-- The low bytes of the data written. -/
def dbgWrite (s : State) (a : DbgAcc) : Phys × State :=
  let n := dbgFirst a
  let m := dbgLen a.size - n
  let lane := 9 * (a.addr % 8)
  match physWrite s 0x21 0 a.addr (dbgPart a n) (a.data <<< lane) (lowBytes n <<< lane) with
  | (.ok w p, s) => if m = 0 then (.ok w p, s)
    else physWrite s 0x21 0 (a.addr + n) (dbgPart a m) (a.data >>> (9 * n)) (lowBytes m)
  | r => r

/-- The access under way is over. -/
def dbgEnd (s : State) : State :=
  { s with dbg := { s.dbg with acc := none }, stalled := s.stalled.filter (fun x => !(x.init == 0x21 && x.insn)) }

/-- The access under way is performed, or goes on waiting (R572). -/
def dbgPerform (s : State) (a : DbgAcc) : State :=
  match (if a.op = 2 then dbgWrite s a else dbgRead s a) with
  | (.ok w p, s) => dbgResult (dbgEnd s) (if a.op ≠ 2 ∧ p then 3 else 0) w
  | (.err c, s) => dbgResult (dbgEnd s) 2 (BitVec.ofNat 72 c)
  | (.stall p o, s) =>
    if s.stalled.any (fun x => x.init == 0x21 && x.insn) then s else s.stall 0x21 0 p o (decide (a.op = 2)) a.data true
  | (.wait _, s) => s

/-- An Update-DR of DBGACC (R572). -/
def dbgUpdate (s : State) (addr size op : Nat) (data : Word) : State :=
  if s.rd F.BLT_LVL = 0 then dbgResult (loadIr s 0xFF) 5 0
  else
    let s := loadIr s 0x11
    if s.dbg.acc.isSome then dbgResult s 1 0
    else if op = 2 ∧ s.rd F.BLT_LVL = 1 ∧ dbgBarred addr then dbgResult s 4 0
    else
      let a : DbgAcc := { addr := addr, size := size, op := op, data := data, since := s.now }
      dbgPerform { s with dbg := { s.dbg with acc := some a } } a

/-- DBGACC_READ (R572). -/
def execDbgaccRead (t : Nat) (addr : BitVec 44) (size : BitVec 2) (s : State) : Out :=
  .next (dbgUpdate (s.tick t) addr.toNat size.toNat 0 0)

/-- DBGACC_INSPECT_READ (R61, R572). -/
def execDbgaccInspectRead (t : Nat) (addr : BitVec 44) (size : BitVec 2) (s : State) : Out :=
  .next (dbgUpdate (s.tick t) addr.toNat size.toNat 1 0)

/-- DBGACC_WRITE (R572, R573). -/
def execDbgaccWrite (t : Nat) (addr : BitVec 44) (size : BitVec 2) (data : Word) (s : State) : Out :=
  .next (dbgUpdate (s.tick t) addr.toNat size.toNat 2 data)

/-- DBGACC_POLL (R572): no access; an access under way that can now be performed is. -/
def execDbgaccPoll (t : Nat) (s : State) : Out :=
  .next (let s := s.tick t
    if s.rd F.BLT_LVL = 0 then dbgResult (loadIr s 0xFF) 5 0
    else
      let s := loadIr s 0x11
      match s.dbg.acc with
      | some a =>
        let s := dbgPerform s a
        if s.dbg.acc.isSome then dbgResult s 1 0 else s
      | none => s)

/-- DBGACC_TIMEOUT (R572): no completion within 100 µs; the access is withdrawn. -/
def execDbgaccTimeout (t : Nat) (s : State) : Out :=
  .next (let s := s.tick t
    match s.dbg.acc with
    | some a => if a.since + 100000 ≤ s.now then
        dbgResult (dbgEnd s) 6 0
      else s
    | none => s)

end Sys2Proof.Machine
end

