-- ==== Sys2Proof/Machine/Qp.lean ====
section
/-! DEFINITION. Uplink queue pairs at work (R154, R155, R510 to R518): classification, the receive and transmit rings, the
windows, and the spoof check of a raw frame.
Decisions: log entries 30 (PRESUMED), 68 (DEDUCED). -/

namespace Sys2Proof.Machine
open Sys2Proof

/-- Whether a tenant's windows admit a range of bytes (R510). -/
def tenAllowed (s : State) (t addr len : Nat) : Bool :=
  decide (t = 0) || [0, 1].any (fun j => inWindow (BitVec.ofNat 72 (s.rd (F.TEN_WIN_128 (2 * t + j)))) addr len)

/-- A window failure is captured (R510, R529). -/
def windowFail (s : State) (t : Nat) : State := (s.wr F.TEN_WIN_15 1).pageErr 0x2D0 0x11 15 t

/-- What an access of a queue pair comes to: the words read, an error that stops the pair, or a wait at an address. -/
inductive QpRes where
  | got (ws : List Word)
  | failed
  | waits (addr : Nat)
  deriving DecidableEq, Repr

/-- A queue pair enters its error state (R511). -/
def qpStop (s : State) (q : Nat) : State := s.wr (F.TEN_QSTATE q) 3

/-- Words read by a queue pair; a poisoned word is a free value (assumption 5). -/
def qpRead (s : State) (q addr n : Nat) : QpRes × State :=
  let t := s.rd (F.TEN_OWNER q)
  if ¬ tenAllowed s t addr (8 * n) then (.failed, windowFail (qpStop s q) t)
  else (List.range n).foldl (fun (r : QpRes × State) k => match r.1 with
    | .got ws => match physRead r.2 0x24 0 (addr + 8 * k) 8 false .clean with
      | (.ok w false, s) => (.got (ws ++ [w]), s)
      | (.ok _ true, s) => (.got (ws ++ [(s.free 72).1]), (s.free 72).2)
      | (.err _, s) => (.failed, qpStop s q)
      | (_, s) => (.waits (addr + 8 * k), s)
    | _ => r) (.got [], s)

/-- Words written by a queue pair. -/
def qpWrite (s : State) (q addr : Nat) (ws : List Word) : QpRes × State :=
  let t := s.rd (F.TEN_OWNER q)
  if ¬ tenAllowed s t addr (8 * ws.length) then (.failed, windowFail (qpStop s q) t)
  else ws.zipIdx.foldl (fun (r : QpRes × State) (w : Word × Nat) => match r.1 with
    | .got _ => match physWrite r.2 0x24 0 (addr + 8 * w.2) 8 w.1 allOnes with
      | (.ok _ _, s) => (.got [], s)
      | (.err _, s) => (.failed, qpStop s q)
      | (_, s) => (.waits (addr + 8 * w.2), s)
    | _ => r) (.got [], s)

/-- The lines of DRAM that a write covers. -/
def dramLines (addr n : Nat) : List Nat :=
  if regionOf addr = .dram ∧ n ≠ 0 then List.range' (addr / 64) ((addr + 8 * n - 1) / 64 + 1 - addr / 64) else []

/-- A command of a queue pair that must wait for memory leaves only its request behind, and is sent again. -/
def qpWaiting (s : State) (addr : Nat) : State := (physRead s 0x24 0 addr 8 false .clean).2

/-- Entries of a ring not yet counted by HEAD, and the entry that is next. -/
def qpNext (s : State) (q j : Nat) : Nat :=
  let x := s.qp q
  (s.rd (F.TEN_HEAD (2 * q + j)) + (if j = 0 then x.rxw.length else x.txw.length)) % 65536
def qpEntry (s : State) (q j : Nat) : Nat :=
  s.rd (F.TEN_RINGBASE q j) + 32 * (qpNext s q j % 2 ^ (if j = 0 then s.rd (F.TEN_RXLOG q) else s.rd (F.TEN_TXLOG q)))

/-- A queue pair runs and its tenant is not being reset (R511, R528). -/
def qpRuns (s : State) (q : Nat) : Bool :=
  decide (s.rd (F.TEN_QSTATE q) = 1) && decide (s.rd (F.TEN_TSTATE (s.rd (F.TEN_OWNER q))) ≠ 3)

/-- The entry in hand is complete but for its writes: HEAD passes it when they have been performed (R513). -/
def qpDone (s : State) (q j : Nat) (lines : List Nat) : State :=
  let x := s.qp q
  qpSettle (s.setQp q (if j = 0 then { x with rxw := x.rxw ++ [lines] } else { x with txw := x.txw ++ [lines] }))

/-! ### A raw frame -/

/-- The parts of a raw frame: source MAC, tagging, EtherType after any tag, and what follows. -/
structure RawFrame where
  smac : Nat
  vlan : VlanTag
  etype : Nat
  rest : List Nat
  deriving DecidableEq, Repr

def rawFrame (o : List Nat) : RawFrame :=
  let num (k n : Nat) : Nat := ofOctets ((o.drop k).take n)
  if num 12 2 = 0x8100 then
    { smac := num 6 6, vlan := .tagged (num 14 2 % 4096) (num 14 2 / 8192), etype := num 16 2, rest := o.drop 18 }
  else { smac := num 6 6, vlan := .untagged, etype := num 12 2, rest := o.drop 14 }

/-- The first element of a BER sequence: tag, contents, and what follows. -/
def berTlv (l : List Nat) : Option (Nat × List Nat × List Nat) :=
  match l with
  | tag :: len :: rest =>
    let k := if len < 128 then 0 else len - 128
    let n := if len < 128 then len else ofOctets (rest.take k)
    let body := rest.drop k
    if len = 128 ∨ rest.length < k ∨ body.length < n then none else some (tag, body.take n, body.drop n)
  | _ => none

/-- The contents of the first element with a tag, among at most so many. -/
def berFind : Nat → Nat → List Nat → Option (List Nat)
  | 0, _, _ => none
  | k + 1, tag, l => match berTlv l with
    | some (t, v, rest) => if t = tag then some v else berFind k tag rest
    | none => none

/-- The goID of a GOOSE frame, or the svID of the first ASDU of an SV frame, where the frame decodes to it (R518). -/
def rawIdent (f : RawFrame) : Option (List Nat) :=
  let apdu := f.rest.drop 8
  if f.etype = 0x88B8 then (berFind 1 0x61 apdu).bind (berFind 32 0x83)
  else (((berFind 1 0x60 apdu).bind (berFind 32 0xA2)).bind (berFind 1 0x30)).bind (berFind 32 0x80)

/-- The spoof check of a queue pair's frame (R518). -/
def rawSpoofOk (s : State) (t : Nat) (o : List Nat) : Bool :=
  let f := rawFrame o
  decide (t = 0) || spoofOk s t f.smac f.vlan f.etype (ofOctets (f.rest.take 2)) (rawIdent f)

/-! ### Transmission (R513, R514) -/

/-- A queue pair has a transmit entry. -/
def qpTxReady (s : State) (q : Nat) : Bool := qpRuns s q && decide (qpNext s q 1 ≠ s.rd (F.TEN_TAIL (2 * q + 1)))

/-- The frame boundary of a port is a queue pair's: no publication frame waits, and its turn has come. -/
def qpMaySend (s : State) (q : Nat) : Bool :=
  let port := s.rd (F.TEN_PORT q)
  let p := 1024 + port
  let dist (k : Nat) : Nat := (k + 64 - tget s.qpTurn port % 64) % 64
  portEn s p && isEthernet s p && portSends s p && !((s.port p).txq.any (fun x => decide (classRank x.cls < 3))) &&
  !((List.range 64).any (fun k => decide (s.rd (F.TEN_PORT k) = port) && qpTxReady s k && decide (dist k < dist q)))

/-- A queue pair's frame leaves its port; on a PRP or HSR pair both uplinks send it under the pair's number (R141, R514). -/
def qpSend (s : State) (q : Nat) (o : List Nat) : State :=
  let port := s.rd (F.TEN_PORT q)
  let p := 1024 + port
  let s : State := { s with qpTurn := tset s.qpTurn port (q + 1) }
  let mk (red : RedTag) : TxFrame := { cls := 4, signoff := false, red := red, keyId := none, body := .raw o }
  let leave (s : State) (f : TxFrame) : State :=
    let s := s.setPort p { s.port p with sent := some f, sentAt := s.now }
    if portActive s p then s.bump (F.LNK_TXFRM (portBlock p)) else s
  match pairOf p with
  | none => leave s (mk .none)
  | some pr =>
    let mode := s.rd (fPairMode pr)
    let seq := s.rd (fPairTxseq pr)
    let red (k : Nat) : RedTag := if mode = 1 then .prp (k % 2) seq else .hsr seq
    if mode = 0 then leave s (mk .none)
    else
      let s := leave (s.wrapInc (fPairTxseq pr)) (mk (red p))
      let smac := ofOctets ((o.drop 6).take 6)
      let s := if mode = 2 ∧ windowHas s pr smac seq = false then windowAdd s pr smac seq else s
      enqueue s (partner p) (mk (red (partner p)))

/-- Words 2 and 3 of a transmit entry are written (R512). -/
def qpTxDone (s : State) (q entry status : Nat) (stamp : Word) : State :=
  match qpWrite s q (entry + 16) [stamp, BitVec.ofNat 72 status] with
  | (.got _, s) => qpDone s q 1 (dramLines (entry + 16) 2)
  | (_, s) => s

/-- The transmit entry of a queue pair is carried out. -/
def qpTransmit (s : State) (q : Nat) : State :=
  let entry := qpEntry s q 1
  let t := s.rd (F.TEN_OWNER q)
  match qpRead s q entry 2 with
  | (.waits a, _) => qpWaiting s a
  | (.failed, s') => s'
  | (.got ws, s') =>
    let len := getField (ws.getD 1 0) 0 11
    if len < 60 ∨ 1996 < len then qpTxDone (s'.free 72).2 q entry 2 (s'.free 72).1
    else match qpRead s' q (getField (ws.getD 0 0) 0 44 / 8 * 8) ((len + 8) / 9) with
      | (.waits a, _) => qpWaiting s a
      | (.failed, s') => s'
      | (.got ws, s') =>
        let o := (unpackWords ws).take len
        if ¬ rawSpoofOk s' t o then
          qpTxDone (spoofDrop (s'.free 72).2 t |>.bump (F.TEN_NOBUF (2 * q + 1))) q entry 1 (s'.free 72).1
        else if ¬ qpMaySend s q then s
        else (qpTxDone (qpSend s' q o) q entry 0 (timeWord s.devTime)).bump (F.TEN_TXFR q)

/-- QP_TX_FRAME (R513, R514). -/
def execQpTxFrame (t qp : Nat) (s : State) : Out :=
  let s := s.tick t
  .next (if qp < 64 ∧ qpTxReady s qp then qpTransmit s qp else s)

/-! ### Reception (R154, R513, R516) -/

/-- The queue pair that classification names (R516). -/
def qpClass (s : State) (p : Nat) (x : RxFrame) : Option Nat :=
  let hit (e : Nat) : Bool :=
    s.isSet (F.UCL_EN e) && bitOf (s.rd (F.UCL_PORTS e)) (p - 1024) &&
    (!s.isSet (F.UCL_MDMAC e) || decide (s.rd (F.UCL_DMAC e) = x.dmac)) &&
    vmMatches (s.rd (F.UCL_VM e)) (s.rd (F.UCL_VID e)) x.vlan &&
    (!s.isSet (F.UCL_MET e) || decide (s.rd (F.UCL_ETYPE e) = rxEtype s p x))
  match findBelow hit 128 with
  | some e => some (s.rd (F.UCL_QP e))
  | none => if s.isSet (F.UDF_DEFEN (p - 1024)) then some (s.rd (F.UDF_DEFQ (p - 1024))) else none

/-- A frame enters a queue pair's receive ring, or is dropped; `s0` is the state to which a command that must wait returns. -/
def qpReceive (s0 s : State) (q p : Nat) (x : RxFrame) : State :=
  let n := x.octets.length
  if qpNext s q 0 = s.rd (F.TEN_TAIL (2 * q)) ∨ 9 * s.rd (F.TEN_BUFW q) < n then s.bump (F.TEN_NOBUF (2 * q))
  else
    let entry := qpEntry s q 0
    match qpRead s q entry 1 with
    | (.waits a, _) => qpWaiting s0 a
    | (.failed, s) => s
    | (.got ws, s) =>
      let buf := getField (ws.getD 0 0) 0 44 / 8 * 8
      let words := packWords x.octets
      let tagged := match x.vlan with
        | .tagged _ _ => 1
        | _ => 0
      match qpWrite s q buf words with
      | (.waits a, _) => qpWaiting s0 a
      | (.failed, s) => s
      | (.got _, s) => match qpWrite s q (entry + 8) [BitVec.ofNat 72 (n % 2048 + (p - 1024) * 2 ^ 11 + tagged * 2 ^ 15), timeWord x.stamp] with
        | (.got _, s) => qpDone (s.bump (F.TEN_RXFR q)) q 0 (dramLines buf words.length ++ dramLines (entry + 8) 2)
        | (_, s) => s

/-- A frame is classified (R516). -/
def qpClassify (s0 s : State) (p : Nat) (x : RxFrame) : State :=
  match qpClass s p x with
  | some q => if qpRuns s q then qpReceive s0 s q p x else s.bump (F.UDF_NOQ (p - 1024))
  | none => s.bump (F.UDF_NOQ (p - 1024))

/-- The PTP slaves that an uplink carries (R114, R154). -/
def uplinkSlaves (s : State) (p : Nat) : List Nat :=
  filterBelow 2 (fun j => s.isSet (F.TIM_EN_11 j) && decide (s.rd (F.TIM_PORT j) = p - 1024))

/-- A Management or Signaling message that reaches the PTP slave of its uplink. -/
def ptpDiscard (s : State) (p : Nat) (x : RxFrame) : Bool :=
  x.lineOk && decide (64 ≤ x.len) && decide (x.len ≤ s.rd (F.LNK_MAXLEN (portBlock p))) && !stage3Bad s p x &&
  decide (rxEtype s p x = 0x88F7) && decide (x.apdu = .ptpOther true) &&
  (decide (portPairMode s p ≠ 2) || (x.dmac >>> 40).testBit 0 || forDevice s p x)

/-- A frame on an uplink, or on a management port, which carries no subscription and no PTP (R154). -/
def uplinkFrame (s : State) (p : Nat) (x : RxFrame) : State :=
  let b := portBlock p
  if p < 1032 then
    let slaves := uplinkSlaves s p
    let s1 := if ptpDiscard s p x then forEach slaves s (fun s j => s.bump (F.TIM_DROPS j)) else s
    match rxStages s1 p x (!slaves.isEmpty) with
    | (s2, true) => qpClassify s s2 p x
    | (s2, false) => s2
  else if !x.lineOk then s.bump (F.LNK_RXCRC b)
  else if x.len < 64 ∨ s.rd (F.LNK_MAXLEN b) < x.len then s.bump (F.LNK_RXLEN b)
  else if stage3Bad s p x then s.bump (F.LNK_RXFMT b)
  else qpClassify s s p x

/-- UPLINK_FRAME_RX (R154): a frame on a port that is not up is discarded and not counted. -/
def execUplinkFrameRx (t port : Nat) (frame : RxFrame) (s : State) : Out :=
  let s := s.tick t
  .next (if 1024 ≤ port ∧ port < 1034 ∧ portEn s port ∧ isEthernet s port ∧ portActive s port ∧ portLst s port = 4 then
    uplinkFrame s port frame else s)

end Sys2Proof.Machine
end

