-- ==== Sys2Proof/Machine/Pcie.lean ====
section
/-! DEFINITION. PCIe inbound requests and the link's state (R510, R517, R614 to R617).
Decisions: log entry 69 (PRESUMED). -/

namespace Sys2Proof.Machine
open Sys2Proof

/-- The request is answered: 0 successful, 1 Unsupported Request, 4 Completer Abort. -/
def pcieDone (s : State) (status : Nat) (ep : Bool) (octets : List Nat) : State :=
  { s with pcie := some { status := status, ep := ep, octets := octets } }

/-- The word and the octet of it that a window gives an octet address (R616). -/
def pcieMap (s : State) (a : Nat) : Option (Nat × Nat) :=
  ((List.range 8).find? (fun i => decide (s.rd (F.PCI_NPAGES i) ≠ 0) && decide (s.rd (F.PCI_PBASE i) ≤ a) &&
    decide (a < s.rd (F.PCI_PBASE i) + 4608 * s.rd (F.PCI_NPAGES i)))).map (fun i =>
      (s.rd (F.PCI_BFRAME i) * 4096 + 8 * ((a - s.rd (F.PCI_PBASE i)) / 9), (a - s.rd (F.PCI_PBASE i)) % 9))

/-- The word and octet of an octet of BAR0 of a virtual function: TEN words 384 to 511 (R517). -/
def bar0Map (a : Nat) : Option (Nat × Nat) := if a < 128 * 9 then some (pageAddr 0x2D0 (384 + a / 9), a % 9) else none

/-- The words of a request in order, each with its octets as place and position in the request. -/
def pcieWords (l : List (Nat × Nat)) : List (Nat × List (Nat × Nat)) :=
  (l.zipIdx).foldl (fun (r : List (Nat × List (Nat × Nat))) (x : (Nat × Nat) × Nat) => match r.getLast? with
    | some g => if g.1 = x.1.1 then r.dropLast ++ [(g.1, g.2 ++ [(x.1.2, x.2)])] else r ++ [(x.1.1, [(x.1.2, x.2)])]
    | none => [(x.1.1, [(x.1.2, x.2)])]) []

/-- How far a request has come: the octets read and their poison; an error; a wait for DRAM or for a page. -/
inductive PcieRes where
  | got (octets : List Nat) (ep : Bool)
  | failed
  | waits (addr : Nat)
  | stalls (page off : Nat)
  deriving DecidableEq, Repr

def pcieRes (addr : Nat) (r : Phys × State) (f : Word → Bool → State → PcieRes × State) : PcieRes × State :=
  match r with
  | (.ok w p, s) => f w p s
  | (.err _, s) => (.failed, s)
  | (.stall p o, s) => (.stalls p o, s)
  | (.wait _, s) => (.waits addr, s)

/-- One word of a request. A write of part of a word outside the pages reads the word first. -/
def pcieWord (s : State) (vf : Nat) (data : Option (List Nat)) (g : Nat × List (Nat × Nat)) (done : List Nat) (ep : Bool) :
    PcieRes × State :=
  let whole := decide (g.2.length = 9)
  let page : Bool := match regionOf g.1 with
    | .page _ _ => true
    | _ => false
  let size := if whole then 8 else 1
  match data with
  | none => pcieRes g.1 (physRead s 0x23 vf g.1 size false .clean) (fun w p s =>
      (.got (done ++ g.2.map (fun x => getField w (8 * x.1) 8)) (ep || p), s))
  | some d =>
    let put (w : Word) (s : State) : PcieRes × State :=
      let w := g.2.foldl (fun w x => putField w (8 * x.1) 8 (d.getD x.2 0 % 256)) w
      pcieRes g.1 (physWrite s 0x23 vf g.1 size w allOnes) (fun _ _ s => (.got [] false, s))
    if whole ∨ page then put 0 s
    else pcieRes g.1 (physRead s 0x23 vf g.1 8 false .clean) (fun w _ s => put w s)

/-- The words of a request in order, up to the first that does not complete. -/
def pcieAll (s : State) (vf : Nat) (data : Option (List Nat)) (l : List (Nat × List (Nat × Nat))) : PcieRes × State :=
  l.foldl (fun (r : PcieRes × State) g => match r.1 with
    | .got o ep => pcieWord r.2 vf data g o ep
    | _ => r) (.got [] false, s)

/-- A request whose octets have a place each is performed. A wait leaves only its request behind, and the requester sends it again. -/
def pciePerform (s : State) (vf : Nat) (data : Option (List Nat)) (places : List (Nat × Nat)) : State :=
  let clear (s : State) : State := { s with stalled := s.stalled.filter (fun a => !(a.init == 0x23 && a.vf == vf)) }
  match pcieAll s vf data (pcieWords places) with
  | (.got o ep, s) => pcieDone (clear s) 0 ep o
  | (.failed, s) => pcieDone (clear s) 4 false []
  | (.waits a, _) => (physRead s 0x23 vf a 8 false .clean).2
  | (.stalls p o, _) =>
    if s.stalled.any (fun a => a.init == 0x23 && a.vf == vf) then s else s.stall 0x23 vf p o data.isSome 0 true

/-- A request by its kind (R517, R614, R616). -/
def pcieRequest (s : State) (vf : Nat) (req : PcieReq) : State :=
  let n := if req.write then req.data.length else req.octets
  let data : Option (List Nat) := if req.write then some req.data else none
  let addrs := (List.range n).map (fun k => req.addr + k)
  let t := bitsOf (s.rd F.TEN_VFT) (4 * (vf - 1)) 4
  if vf ≠ 0 ∧ ¬ (s.isSet F.PCI_EP ∧ vf ≤ 16 ∧ bitOf (s.rd F.TEN_VFEN) (vf - 1)) then pcieDone s 1 false []
  else if req.bar0 ∧ vf = 0 then pcieDone s 1 false []
  else if ¬ s.isSet F.PCI_EP ∧ req.write ∧ req.addr = Config.msiAddress then
    pcieDone (icuEdge s (495 + req.data.headD 0 % 32)) 0 false []
  else
    let places := addrs.filterMap (fun a => if req.bar0 then bar0Map a else pcieMap s a)
    if places.length ≠ n then pcieDone s 4 false []
    else if vf ≠ 0 ∧ ¬ req.bar0 ∧ places.any (fun x => !tenAllowed s t x.1 8) then
      pcieDone (windowFail (s.bump (F.TEN_VFERR t)) t) 4 false []
    else pciePerform s vf data places

/-- PCIE_INBOUND_REQUEST (R510, R517, R616): a request arrives only while the data link is up. `vf` is 0 for the physical function
or the root port's device, and v + 1 for virtual function v. -/
def execPcieInboundRequest (t vf : Nat) (req : PcieReq) (s : State) : Out :=
  let s := s.tick t
  .next (if s.isSet F.PCI_DLUP then pcieRequest s vf req else s)

/-- PCIE_LINK_STATE_CHANGE (R614): the link is up only while LEN is 1 and its domain is ON, at a rate up to MAXG. -/
def execPcieLinkStateChange (t ltssm width gen : Nat) (up : Bool) (s : State) : Out :=
  let s := s.tick t
  let may := s.isSet F.PCI_LEN && decide (domPower s 2 = 1) && !inChipReset s
  .next (if inChipReset s ∨ (up ∧ ¬ may) then s
    else (((s.wr F.PCI_LTSSM ltssm).wr F.PCI_WIDTH (if up then width else 0)).wr F.PCI_GEN
      (if up then min gen (s.rd F.PCI_MAXG) else 0)).wrb F.PCI_DLUP up)

end Sys2Proof.Machine
end

