-- ==== Sys2Proof/Machine/Cross.lean ====
section
/-! DEFINITION. An access that has not crossed in time (R55).
Decisions: log entry 17 (DEDUCED). -/

namespace Sys2Proof.Machine
open Sys2Proof

/-- The DMA channel whose access timed out stops with error 05h (R502). -/
def dmaCrossing (s : State) (a : StalledAccess) : State :=
  let c := s.dmaChan a.vf
  if ¬ c.busy then s
  else
    let e : DmaErr := { code := 5, bcode := 4, desc := if a.write then c.dst.desc else c.src.desc, dst := a.write,
                        addr := pageAddr a.page a.off }
    let s := dmaErr s a.vf e
    s.setDma a.vf { s.dmaChan a.vf with wait := none }

/-- The instruction whose access timed out takes bus error 04h (R53 to R55); `s0` is the state to which a command that must wait
returns. -/
def insnCrossing (s0 s : State) (a : StalledAccess) : State :=
  let n := a.init
  if ¬ coreIssues s n then s
  else match raiseExc s n { code := 6, sub := 4, faddr := a.va, fpaddr := pageAddr a.page a.off, inst := a.inst, saved := (s.scribe n).pc } with
    | (.wait, _) => s0
    | (_, s) => stepDone s n

/-- ACCESS_CROSSING_TIMEOUT (R55): 2 µs have passed since the access was issued. Its initiator gets bus error 04h, and the access is
withdrawn. -/
def execAccessCrossingTimeout (t acc : Nat) (s : State) : Out :=
  let s := s.tick t
  .next (match s.stalledAt acc with
    | none => s
    | some a =>
      if s.now < a.issued + 2000 then s
      else
        let s1 := (s.unstall acc).busErrFor (pageAddr a.page a.off) 4 a.init a.write
        if ¬ a.insn then s1
        else if a.init = 0x22 then dmaCrossing s1 a
        else if a.init = 0x23 then pcieDone s1 4 false []
        else if a.init = 0x21 then dbgResult (dbgEnd s1) 2 4
        else insnCrossing s s1 a)

end Sys2Proof.Machine
end

