-- ==== Sys2Proof/Machine/Float.lean ====
section
/-! DEFINITION. Floating point (R367, R368, R372): values as exact integers times powers of two, IEEE 754-2019 rounding, and the
instructions of op 03h.
Decisions: log entry 59 (DEDUCED). -/

namespace Sys2Proof.Machine
open Sys2Proof

/-- A floating-point value: a NaN, signalling or quiet; an infinity; or a number, its sign, and an integer times a power of two. -/
inductive FVal where
  | nan (signalling : Bool)
  | inf (neg : Bool)
  | num (neg : Bool) (m : Nat) (e : Int)
  deriving DecidableEq, Repr

/-- A result as bits of its format, or of the register, and the flags it raises: NV 1, DZ 2, OF 4, UF 8, NX 16. -/
structure FRes where
  bits : Nat
  flags : Nat := 0
  deriving DecidableEq, Repr

/-- The formats: binary64, or binary32 when `single`. -/
def fPrec (single : Bool) : Nat := if single then 24 else 53
def fExpBits (single : Bool) : Nat := if single then 8 else 11
def fWidth (single : Bool) : Nat := if single then 32 else 64
def fBias (single : Bool) : Nat := 2 ^ (fExpBits single - 1) - 1
def fMin (single : Bool) : Int := 1 - (fBias single : Int)
def fSignBit (single neg : Bool) : Nat := if neg then 2 ^ (fWidth single - 1) else 0
def fInfBits (single neg : Bool) : Nat := fSignBit single neg + (2 ^ fExpBits single - 1) * 2 ^ (fPrec single - 1)
def fNanBits (single : Bool) : Nat := fInfBits single false + 2 ^ (fPrec single - 2)
def fZeroBits (single neg : Bool) : Nat := fSignBit single neg

/-- The default NaN with NV (R367). -/
def fInvalid (single : Bool) : FRes := { bits := fNanBits single, flags := 1 }

/-- The value of the low bits of an operand (R367). -/
def fUnpack (single : Bool) (w : Word) : FVal :=
  let p := fPrec single
  let bits := w.toNat % 2 ^ fWidth single
  let neg := bits.testBit (fWidth single - 1)
  let ex := bits / 2 ^ (p - 1) % 2 ^ fExpBits single
  let frac := bits % 2 ^ (p - 1)
  if ex = 2 ^ fExpBits single - 1 then (if frac = 0 then .inf neg else .nan (!frac.testBit (p - 2)))
  else if ex = 0 then .num neg frac (fMin single - (p - 1 : Nat))
  else .num neg (2 ^ (p - 1) + frac) ((ex : Int) - (fBias single : Int) - (p - 1 : Nat))

def FVal.isNan : FVal → Bool
  | .nan _ => true
  | _ => false
def FVal.isSnan : FVal → Bool
  | .nan s => s
  | _ => false

/-- A magnitude shifted right and rounded under a mode: 0 to nearest, ties to even; 1 toward zero; 2 downward; 3 upward; 4 to
nearest, ties away (R368). The answer says whether it was inexact. -/
def roundShift (rm : Nat) (neg : Bool) (m sh : Nat) : Nat × Bool :=
  let q := m >>> sh
  let r := m % 2 ^ sh
  let up : Bool :=
    if r = 0 then false
    else if rm = 1 then false else if rm = 2 then neg else if rm = 3 then !neg
    else if 2 * r = 2 ^ sh then (if rm = 4 then true else decide (q % 2 = 1)) else decide (2 ^ sh < 2 * r)
  (q + (if up then 1 else 0), decide (r ≠ 0))

/-- An overflow under a mode: an infinity, or the largest number. -/
def fOverflow (single : Bool) (rm : Nat) (neg : Bool) : FRes :=
  let big := decide (rm = 1) || (decide (rm = 2) && !neg) || (decide (rm = 3) && neg)
  { bits := if big then fInfBits single neg - 1 else fInfBits single neg, flags := 20 }

/-- An exact number rounded to a format, with OF, UF and NX (R367). -/
def fRound (single : Bool) (rm : Nat) (neg : Bool) (m : Nat) (e : Int) : FRes :=
  let p := fPrec single
  if m = 0 then { bits := fZeroBits single neg }
  else
    let len := Nat.log2 m + 1
    let top : Int := e + (len : Int) - 1
    let ulp : Int := max (top - ((p - 1 : Nat) : Int)) (fMin single - ((p - 1 : Nat) : Int))
    let (sig, inexact) := if ulp ≤ e then (m * 2 ^ (e - ulp).toNat, false) else roundShift rm neg m (ulp - e).toNat
    let (sig, ulp) := if sig = 2 ^ p then (2 ^ (p - 1), ulp + 1) else (sig, ulp)
    let biased : Nat := if sig < 2 ^ (p - 1) then 0 else (ulp + ((p - 1 : Nat) : Int) + (fBias single : Int)).toNat
    let rounds1 := decide (p < len) && decide ((roundShift rm neg m (len - p)).1 = 2 ^ p)
    let tiny := decide (top < fMin single) && (Config.tinyBefore || !(decide (top + 1 = fMin single) && rounds1))
    if 2 ^ fExpBits single - 1 ≤ biased then fOverflow single rm neg
    else { bits := fSignBit single neg + biased * 2 ^ (p - 1) + sig % 2 ^ (p - 1),
           flags := (if inexact then 16 else 0) + (if inexact ∧ tiny then 8 else 0) }

/-- A signed integer magnitude. -/
def signedMag (neg : Bool) (m : Nat) : Int := if neg then -(m : Int) else (m : Int)

/-- The sum of two numbers, rounded once; an exact zero of unlike signs is +0, or -0 when rounding downward. -/
def fSum (single : Bool) (rm : Nat) (n1 : Bool) (m1 : Nat) (e1 : Int) (n2 : Bool) (m2 : Nat) (e2 : Int) : FRes :=
  let e := min e1 e2
  let v := signedMag n1 (m1 * 2 ^ (e1 - e).toNat) + signedMag n2 (m2 * 2 ^ (e2 - e).toNat)
  if v = 0 then { bits := fZeroBits single (if n1 = n2 then n1 else decide (rm = 2)) }
  else fRound single rm (decide (v < 0)) v.natAbs e

/-- Addition of two values. -/
def fAdd (single : Bool) (rm : Nat) (a b : FVal) : FRes :=
  match a, b with
  | .nan x, b => { bits := fNanBits single, flags := if x || b.isSnan then 1 else 0 }
  | _, .nan y => { bits := fNanBits single, flags := if y then 1 else 0 }
  | .inf x, .inf y => if x = y then { bits := fInfBits single x } else fInvalid single
  | .inf x, .num _ _ _ => { bits := fInfBits single x }
  | .num _ _ _, .inf y => { bits := fInfBits single y }
  | .num n1 m1 e1, .num n2 m2 e2 => fSum single rm n1 m1 e1 n2 m2 e2

/-- A value with its sign inverted; a NaN stays. -/
def FVal.negate : FVal → FVal
  | .nan s => .nan s
  | .inf x => .inf (!x)
  | .num x m e => .num (!x) m e

/-- Multiplication. -/
def fMul (single : Bool) (rm : Nat) (a b : FVal) : FRes :=
  match a, b with
  | .nan x, b => { bits := fNanBits single, flags := if x || b.isSnan then 1 else 0 }
  | _, .nan y => { bits := fNanBits single, flags := if y then 1 else 0 }
  | .inf x, .inf y => { bits := fInfBits single (x != y) }
  | .inf x, .num y m _ => if m = 0 then fInvalid single else { bits := fInfBits single (x != y) }
  | .num x m _, .inf y => if m = 0 then fInvalid single else { bits := fInfBits single (x != y) }
  | .num x m1 e1, .num y m2 e2 => fRound single rm (x != y) (m1 * m2) (e1 + e2)

/-- Division. -/
def fDiv (single : Bool) (rm : Nat) (a b : FVal) : FRes :=
  match a, b with
  | .nan x, b => { bits := fNanBits single, flags := if x || b.isSnan then 1 else 0 }
  | _, .nan y => { bits := fNanBits single, flags := if y then 1 else 0 }
  | .inf _, .inf _ => fInvalid single
  | .inf x, .num y _ _ => { bits := fInfBits single (x != y) }
  | .num x _ _, .inf y => { bits := fZeroBits single (x != y) }
  | .num x m1 e1, .num y m2 e2 =>
    if m2 = 0 then (if m1 = 0 then fInvalid single else { bits := fInfBits single (x != y), flags := 2 })
    else
      let k := fPrec single + 2 + Nat.log2 m2
      let q := m1 * 2 ^ k / m2
      fRound single rm (x != y) (2 * q + (if m1 * 2 ^ k % m2 = 0 then 0 else 1)) (e1 - e2 - (k : Int) - 1)

/-- The integer square root of a number below 2^200. -/
def natRoot (n : Nat) : Nat :=
  (List.range 100).foldl (fun r i => if (r + 2 ^ (99 - i)) * (r + 2 ^ (99 - i)) ≤ n then r + 2 ^ (99 - i) else r) 0

/-- Square root. -/
def fSqrt (single : Bool) (rm : Nat) (a : FVal) : FRes :=
  match a with
  | .nan x => { bits := fNanBits single, flags := if x then 1 else 0 }
  | .inf x => if x then fInvalid single else { bits := fInfBits single false }
  | .num x m e =>
    if m = 0 then { bits := fZeroBits single x }
    else if x then fInvalid single
    else
      let k := fPrec single + 2
      let odd := if e % 2 = 0 then 0 else 1
      let v := m * 2 ^ (2 * k + odd)
      let r := natRoot v
      fRound single rm false (2 * r + (if r * r = v then 0 else 1)) ((e - (odd : Int)) / 2 - (k : Int) - 1)

/-- Fused multiplication and addition, one rounding. -/
def fFma (single : Bool) (rm : Nat) (a b c : FVal) : FRes :=
  let badProd : Bool := match a, b with
    | .inf _, .num _ m _ => decide (m = 0)
    | .num _ m _, .inf _ => decide (m = 0)
    | _, _ => false
  if a.isNan ∨ b.isNan ∨ c.isNan then
    { bits := fNanBits single, flags := if a.isSnan ∨ b.isSnan ∨ c.isSnan ∨ (badProd ∧ Config.fmaQuietInvalid) then 1 else 0 }
  else if badProd then fInvalid single
  else match a, b with
    | .num x m1 e1, .num y m2 e2 => (match c with
      | .num z m3 e3 => fSum single rm (x != y) (m1 * m2) (e1 + e2) z m3 e3
      | .inf z => { bits := fInfBits single z }
      | .nan _ => fInvalid single)
    | a, b =>
      let sign (v : FVal) : Bool := match v with
        | .nan _ => false
        | .inf n => n
        | .num n _ _ => n
      fAdd single rm (.inf (sign a != sign b)) c

/-- The order of two values that are no NaN: whether the first is less, and whether they are equal (zeros are equal). -/
def fLess (a b : FVal) : Bool :=
  match a, b with
  | .inf x, .inf y => x && !y
  | .inf x, .num _ _ _ => x
  | .num _ _ _, .inf y => !y
  | .num x m1 e1, .num y m2 e2 =>
    let e := min e1 e2
    decide (signedMag x (m1 * 2 ^ (e1 - e).toNat) < signedMag y (m2 * 2 ^ (e2 - e).toNat))
  | _, _ => false
def fSame (a b : FVal) : Bool := !a.isNan && !b.isNan && !fLess a b && !fLess b a

/-- The sign of an operand. -/
def fNeg (single : Bool) (w : Word) : Bool := bitOf w.toNat (fWidth single - 1)
def fLow (single : Bool) (w : Word) : Nat := w.toNat % 2 ^ fWidth single

/-- minimumNumber, or maximumNumber: a number rather than a NaN; -0 below +0. -/
def fMinMax (single : Bool) (maximum : Bool) (wa wb : Word) : FRes :=
  let a := fUnpack single wa
  let b := fUnpack single wb
  let flags := if a.isSnan ∨ b.isSnan then 1 else 0
  if a.isNan ∧ b.isNan then { bits := fNanBits single, flags := flags }
  else if a.isNan then { bits := fLow single wb, flags := flags }
  else if b.isNan then { bits := fLow single wa, flags := flags }
  else
    let less := fLess a b || (fSame a b && fNeg single wa && !fNeg single wb)
    { bits := fLow single (if less != maximum then wa else wb) }

/-- FEQ, FLT and FLE. -/
def fCompare (single : Bool) (quiet : Bool) (test : FVal → FVal → Bool) (wa wb : Word) : FRes :=
  let a := fUnpack single wa
  let b := fUnpack single wb
  if a.isNan ∨ b.isNan then { bits := 0, flags := if !quiet || a.isSnan || b.isSnan then 1 else 0 }
  else { bits := b2n (test a b) }

/-- The class mask of FCLASS. -/
def fClass (single : Bool) (w : Word) : FRes :=
  match fUnpack single w with
  | .nan s => { bits := if s then 256 else 512 }
  | .inf n => { bits := if n then 1 else 128 }
  | .num n m _ =>
    if m = 0 then { bits := if n then 8 else 16 }
    else if m < 2 ^ (fPrec single - 1) then { bits := if n then 4 else 32 }
    else { bits := if n then 2 else 64 }

/-- FCVT: to the other format. -/
def fConvert (single : Bool) (rm : Nat) (w : Word) : FRes :=
  match fUnpack single w with
  | .nan s => { bits := fNanBits (!single), flags := if s then 1 else 0 }
  | .inf n => { bits := fInfBits (!single) n }
  | .num n m e => fRound (!single) rm n m e

/-- FCVTI and FCVTU: to an integer held to its range. -/
def fToInt (single : Bool) (rm : Nat) (signed : Bool) (w : Word) : FRes :=
  let lo : Int := if signed then -(2 ^ 71 : Int) else 0
  let hi : Int := if signed then 2 ^ 71 - 1 else 2 ^ 72 - 1
  let word (v : Int) : Nat := (v % (2 ^ 72 : Int)).toNat
  match fUnpack single w with
  | .nan _ => { bits := 0, flags := 1 }
  | .inf n => { bits := word (if n then lo else hi), flags := 1 }
  | .num n m e =>
    let (q, inexact) := if 0 ≤ e then (m * 2 ^ e.toNat, false) else roundShift rm n m (-e).toNat
    let v := signedMag n q
    if v < lo then { bits := word lo, flags := 1 } else if hi < v then { bits := word hi, flags := 1 }
    else { bits := word v, flags := if inexact then 16 else 0 }

/-- ICVTF and UCVTF: from an integer. -/
def fFromInt (single : Bool) (rm : Nat) (v : Int) : FRes := fRound single rm (decide (v < 0)) v.natAbs 0

/-- A magnitude under a sign. -/
def fWithSign (single : Bool) (w : Word) (neg : Bool) : FRes :=
  { bits := w.toNat % 2 ^ (fWidth single - 1) + fSignBit single neg }

/-- The rounding of an instruction: its field, or FPCR.RM for 111b. RM 101b and 110b act as 000b; for RM 111b the spec states no
rounding, and the mode is a free value (assumption 5). -/
def fRounding (s : State) (n rnd : Nat) : Nat × State :=
  let rm := getField (sr s n 0x010) 0 3
  if rnd ≠ 7 then (rnd, s)
  else if rm = 7 then ((s.free 3).1.toNat % 5, (s.free 3).2)
  else (if 5 ≤ rm then 0 else rm, s)

/-- A floating-point instruction: which fields it uses, whether it rounds, and its result from the format, the rounding and the
three operands (R372). -/
def fpBody (n gd ga gb fmt rnd gc : Nat) (useB useC rounds : Bool) (f : Bool → Nat → Word → Word → Word → FRes) : Body := fun s =>
  if n = 32 ∨ rnd = 5 ∨ rnd = 6 ∨ (rounds = false ∧ rnd ≠ 0) ∨ (useB = false ∧ gb ≠ 0) ∨ (useC = false ∧ gc ≠ 0) then illegal s
  else
    let r := fRounding s n rnd
    let x := f (decide (fmt = 1)) r.1 (s.g n ga) (s.g n gb) (s.g n gc)
    let s := r.2.modScribe n (fun c => { c with sr := tset c.sr 0x010 (tget c.sr 0x010 ||| BitVec.ofNat 72 (x.flags * 8)) })
    result s n gd (BitVec.ofNat 72 x.bits)

/-- FADD (R372). -/
def execFadd (core : Nat) (gd ga gb : BitVec 5) (fmt : BitVec 1) (rnd : BitVec 3) (gc : BitVec 5) (s : State) : Out :=
  .next (issue s core (encR 0x03 gd.toNat ga.toNat gb.toNat (fmt.toNat * 2 ^ 13 + 0x00 * 2 ^ 8 + rnd.toNat * 2 ^ 5 + gc.toNat))
    (fpBody core gd.toNat ga.toNat gb.toNat fmt.toNat rnd.toNat gc.toNat true false true (fun p rm a b _ => fAdd p rm (fUnpack p a) (fUnpack p b))))

/-- FSUB (R372). -/
def execFsub (core : Nat) (gd ga gb : BitVec 5) (fmt : BitVec 1) (rnd : BitVec 3) (gc : BitVec 5) (s : State) : Out :=
  .next (issue s core (encR 0x03 gd.toNat ga.toNat gb.toNat (fmt.toNat * 2 ^ 13 + 0x01 * 2 ^ 8 + rnd.toNat * 2 ^ 5 + gc.toNat))
    (fpBody core gd.toNat ga.toNat gb.toNat fmt.toNat rnd.toNat gc.toNat true false true (fun p rm a b _ => fAdd p rm (fUnpack p a) (fUnpack p b).negate)))

/-- FMUL (R372). -/
def execFmul (core : Nat) (gd ga gb : BitVec 5) (fmt : BitVec 1) (rnd : BitVec 3) (gc : BitVec 5) (s : State) : Out :=
  .next (issue s core (encR 0x03 gd.toNat ga.toNat gb.toNat (fmt.toNat * 2 ^ 13 + 0x02 * 2 ^ 8 + rnd.toNat * 2 ^ 5 + gc.toNat))
    (fpBody core gd.toNat ga.toNat gb.toNat fmt.toNat rnd.toNat gc.toNat true false true (fun p rm a b _ => fMul p rm (fUnpack p a) (fUnpack p b))))

/-- FDIV (R372). -/
def execFdiv (core : Nat) (gd ga gb : BitVec 5) (fmt : BitVec 1) (rnd : BitVec 3) (gc : BitVec 5) (s : State) : Out :=
  .next (issue s core (encR 0x03 gd.toNat ga.toNat gb.toNat (fmt.toNat * 2 ^ 13 + 0x03 * 2 ^ 8 + rnd.toNat * 2 ^ 5 + gc.toNat))
    (fpBody core gd.toNat ga.toNat gb.toNat fmt.toNat rnd.toNat gc.toNat true false true (fun p rm a b _ => fDiv p rm (fUnpack p a) (fUnpack p b))))

/-- FSQRT (R372). -/
def execFsqrt (core : Nat) (gd ga gb : BitVec 5) (fmt : BitVec 1) (rnd : BitVec 3) (gc : BitVec 5) (s : State) : Out :=
  .next (issue s core (encR 0x03 gd.toNat ga.toNat gb.toNat (fmt.toNat * 2 ^ 13 + 0x04 * 2 ^ 8 + rnd.toNat * 2 ^ 5 + gc.toNat))
    (fpBody core gd.toNat ga.toNat gb.toNat fmt.toNat rnd.toNat gc.toNat false false true (fun p rm a _ _ => fSqrt p rm (fUnpack p a))))

/-- FMIN (R372). -/
def execFmin (core : Nat) (gd ga gb : BitVec 5) (fmt : BitVec 1) (rnd : BitVec 3) (gc : BitVec 5) (s : State) : Out :=
  .next (issue s core (encR 0x03 gd.toNat ga.toNat gb.toNat (fmt.toNat * 2 ^ 13 + 0x05 * 2 ^ 8 + rnd.toNat * 2 ^ 5 + gc.toNat))
    (fpBody core gd.toNat ga.toNat gb.toNat fmt.toNat rnd.toNat gc.toNat true false false (fun p _ a b _ => fMinMax p false a b)))

/-- FMAX (R372). -/
def execFmax (core : Nat) (gd ga gb : BitVec 5) (fmt : BitVec 1) (rnd : BitVec 3) (gc : BitVec 5) (s : State) : Out :=
  .next (issue s core (encR 0x03 gd.toNat ga.toNat gb.toNat (fmt.toNat * 2 ^ 13 + 0x06 * 2 ^ 8 + rnd.toNat * 2 ^ 5 + gc.toNat))
    (fpBody core gd.toNat ga.toNat gb.toNat fmt.toNat rnd.toNat gc.toNat true false false (fun p _ a b _ => fMinMax p true a b)))

/-- FMADD (R372). -/
def execFmadd (core : Nat) (gd ga gb : BitVec 5) (fmt : BitVec 1) (rnd : BitVec 3) (gc : BitVec 5) (s : State) : Out :=
  .next (issue s core (encR 0x03 gd.toNat ga.toNat gb.toNat (fmt.toNat * 2 ^ 13 + 0x07 * 2 ^ 8 + rnd.toNat * 2 ^ 5 + gc.toNat))
    (fpBody core gd.toNat ga.toNat gb.toNat fmt.toNat rnd.toNat gc.toNat true true true (fun p rm a b c => fFma p rm (fUnpack p a) (fUnpack p b) (fUnpack p c))))

/-- FMSUB (R372). -/
def execFmsub (core : Nat) (gd ga gb : BitVec 5) (fmt : BitVec 1) (rnd : BitVec 3) (gc : BitVec 5) (s : State) : Out :=
  .next (issue s core (encR 0x03 gd.toNat ga.toNat gb.toNat (fmt.toNat * 2 ^ 13 + 0x08 * 2 ^ 8 + rnd.toNat * 2 ^ 5 + gc.toNat))
    (fpBody core gd.toNat ga.toNat gb.toNat fmt.toNat rnd.toNat gc.toNat true true true (fun p rm a b c => fFma p rm (fUnpack p a) (fUnpack p b) (fUnpack p c).negate)))

/-- FNMSUB (R372). -/
def execFnmsub (core : Nat) (gd ga gb : BitVec 5) (fmt : BitVec 1) (rnd : BitVec 3) (gc : BitVec 5) (s : State) : Out :=
  .next (issue s core (encR 0x03 gd.toNat ga.toNat gb.toNat (fmt.toNat * 2 ^ 13 + 0x09 * 2 ^ 8 + rnd.toNat * 2 ^ 5 + gc.toNat))
    (fpBody core gd.toNat ga.toNat gb.toNat fmt.toNat rnd.toNat gc.toNat true true true (fun p rm a b c => fFma p rm (fUnpack p a).negate (fUnpack p b) (fUnpack p c))))

/-- FEQ (R372). -/
def execFeq (core : Nat) (gd ga gb : BitVec 5) (fmt : BitVec 1) (rnd : BitVec 3) (gc : BitVec 5) (s : State) : Out :=
  .next (issue s core (encR 0x03 gd.toNat ga.toNat gb.toNat (fmt.toNat * 2 ^ 13 + 0x0a * 2 ^ 8 + rnd.toNat * 2 ^ 5 + gc.toNat))
    (fpBody core gd.toNat ga.toNat gb.toNat fmt.toNat rnd.toNat gc.toNat true false false (fun p _ a b _ => fCompare p true fSame a b)))

/-- FLT (R372). -/
def execFlt (core : Nat) (gd ga gb : BitVec 5) (fmt : BitVec 1) (rnd : BitVec 3) (gc : BitVec 5) (s : State) : Out :=
  .next (issue s core (encR 0x03 gd.toNat ga.toNat gb.toNat (fmt.toNat * 2 ^ 13 + 0x0b * 2 ^ 8 + rnd.toNat * 2 ^ 5 + gc.toNat))
    (fpBody core gd.toNat ga.toNat gb.toNat fmt.toNat rnd.toNat gc.toNat true false false (fun p _ a b _ => fCompare p false fLess a b)))

/-- FLE (R372). -/
def execFle (core : Nat) (gd ga gb : BitVec 5) (fmt : BitVec 1) (rnd : BitVec 3) (gc : BitVec 5) (s : State) : Out :=
  .next (issue s core (encR 0x03 gd.toNat ga.toNat gb.toNat (fmt.toNat * 2 ^ 13 + 0x0c * 2 ^ 8 + rnd.toNat * 2 ^ 5 + gc.toNat))
    (fpBody core gd.toNat ga.toNat gb.toNat fmt.toNat rnd.toNat gc.toNat true false false (fun p _ a b _ => fCompare p false (fun x y => fLess x y || fSame x y) a b)))

/-- FCLASS (R372). -/
def execFclass (core : Nat) (gd ga gb : BitVec 5) (fmt : BitVec 1) (rnd : BitVec 3) (gc : BitVec 5) (s : State) : Out :=
  .next (issue s core (encR 0x03 gd.toNat ga.toNat gb.toNat (fmt.toNat * 2 ^ 13 + 0x0d * 2 ^ 8 + rnd.toNat * 2 ^ 5 + gc.toNat))
    (fpBody core gd.toNat ga.toNat gb.toNat fmt.toNat rnd.toNat gc.toNat false false false (fun p _ a _ _ => fClass p a)))

/-- FCVT (R372). -/
def execFcvt (core : Nat) (gd ga gb : BitVec 5) (fmt : BitVec 1) (rnd : BitVec 3) (gc : BitVec 5) (s : State) : Out :=
  .next (issue s core (encR 0x03 gd.toNat ga.toNat gb.toNat (fmt.toNat * 2 ^ 13 + 0x0e * 2 ^ 8 + rnd.toNat * 2 ^ 5 + gc.toNat))
    (fpBody core gd.toNat ga.toNat gb.toNat fmt.toNat rnd.toNat gc.toNat false false true (fun p rm a _ _ => fConvert p rm a)))

/-- FCVTI (R372). -/
def execFcvti (core : Nat) (gd ga gb : BitVec 5) (fmt : BitVec 1) (rnd : BitVec 3) (gc : BitVec 5) (s : State) : Out :=
  .next (issue s core (encR 0x03 gd.toNat ga.toNat gb.toNat (fmt.toNat * 2 ^ 13 + 0x0f * 2 ^ 8 + rnd.toNat * 2 ^ 5 + gc.toNat))
    (fpBody core gd.toNat ga.toNat gb.toNat fmt.toNat rnd.toNat gc.toNat false false true (fun p rm a _ _ => fToInt p rm true a)))

/-- FCVTU (R372). -/
def execFcvtu (core : Nat) (gd ga gb : BitVec 5) (fmt : BitVec 1) (rnd : BitVec 3) (gc : BitVec 5) (s : State) : Out :=
  .next (issue s core (encR 0x03 gd.toNat ga.toNat gb.toNat (fmt.toNat * 2 ^ 13 + 0x10 * 2 ^ 8 + rnd.toNat * 2 ^ 5 + gc.toNat))
    (fpBody core gd.toNat ga.toNat gb.toNat fmt.toNat rnd.toNat gc.toNat false false true (fun p rm a _ _ => fToInt p rm false a)))

/-- ICVTF (R372). -/
def execIcvtf (core : Nat) (gd ga gb : BitVec 5) (fmt : BitVec 1) (rnd : BitVec 3) (gc : BitVec 5) (s : State) : Out :=
  .next (issue s core (encR 0x03 gd.toNat ga.toNat gb.toNat (fmt.toNat * 2 ^ 13 + 0x11 * 2 ^ 8 + rnd.toNat * 2 ^ 5 + gc.toNat))
    (fpBody core gd.toNat ga.toNat gb.toNat fmt.toNat rnd.toNat gc.toNat false false true (fun p rm a _ _ => fFromInt p rm a.toInt)))

/-- UCVTF (R372). -/
def execUcvtf (core : Nat) (gd ga gb : BitVec 5) (fmt : BitVec 1) (rnd : BitVec 3) (gc : BitVec 5) (s : State) : Out :=
  .next (issue s core (encR 0x03 gd.toNat ga.toNat gb.toNat (fmt.toNat * 2 ^ 13 + 0x12 * 2 ^ 8 + rnd.toNat * 2 ^ 5 + gc.toNat))
    (fpBody core gd.toNat ga.toNat gb.toNat fmt.toNat rnd.toNat gc.toNat false false true (fun p rm a _ _ => fFromInt p rm (a.toNat : Int))))

/-- FSCOPY (R372). -/
def execFscopy (core : Nat) (gd ga gb : BitVec 5) (fmt : BitVec 1) (rnd : BitVec 3) (gc : BitVec 5) (s : State) : Out :=
  .next (issue s core (encR 0x03 gd.toNat ga.toNat gb.toNat (fmt.toNat * 2 ^ 13 + 0x13 * 2 ^ 8 + rnd.toNat * 2 ^ 5 + gc.toNat))
    (fpBody core gd.toNat ga.toNat gb.toNat fmt.toNat rnd.toNat gc.toNat true false false (fun p _ a b _ => fWithSign p a (fNeg p b))))

/-- FSNCOPY (R372). -/
def execFsncopy (core : Nat) (gd ga gb : BitVec 5) (fmt : BitVec 1) (rnd : BitVec 3) (gc : BitVec 5) (s : State) : Out :=
  .next (issue s core (encR 0x03 gd.toNat ga.toNat gb.toNat (fmt.toNat * 2 ^ 13 + 0x14 * 2 ^ 8 + rnd.toNat * 2 ^ 5 + gc.toNat))
    (fpBody core gd.toNat ga.toNat gb.toNat fmt.toNat rnd.toNat gc.toNat true false false (fun p _ a b _ => fWithSign p a (!fNeg p b))))

/-- FSXOR (R372). -/
def execFsxor (core : Nat) (gd ga gb : BitVec 5) (fmt : BitVec 1) (rnd : BitVec 3) (gc : BitVec 5) (s : State) : Out :=
  .next (issue s core (encR 0x03 gd.toNat ga.toNat gb.toNat (fmt.toNat * 2 ^ 13 + 0x15 * 2 ^ 8 + rnd.toNat * 2 ^ 5 + gc.toNat))
    (fpBody core gd.toNat ga.toNat gb.toNat fmt.toNat rnd.toNat gc.toNat true false false (fun p _ a b _ => fWithSign p a (fNeg p a != fNeg p b))))

end Sys2Proof.Machine
end

