-- ==== Sys2Proof/Machine/Loads.lean ====
section
/-! DEFINITION. Loads and stores, LR and SC (R364, R371, R372, R392 to R394).
Decisions: log entry 52 (DEDUCED). -/

namespace Sys2Proof.Machine
open Sys2Proof

/-- The effective address of a memory-format instruction, and the value that its base register takes afterwards, by its mode;
none where the form is undefined (R371). -/
def effAddr (s : State) (n gd ga mode imm size : Nat) (load : Bool) : Option (Word × Option Word) :=
  let a := s.g n ga
  let i : Word := BitVec.ofInt 72 (signedOf imm 16)
  let upd := decide (ga ≠ 0) && !(load && decide (gd = ga))
  if mode = 0 then some (a + i, none)
  else if mode = 1 then some (a + i * BitVec.ofNat 72 size, none)
  else if mode = 2 then (if upd then some (a, some (a + i)) else none)
  else if mode = 3 then (if upd then some (a + i, some (a + i)) else none)
  else if mode = 4 then (if imm / 32 ≠ 0 then none else some (a + s.g n (imm % 32) * BitVec.ofNat 72 size, none))
  else if mode = 5 then (if load ∧ ga = 0 then some (BitVec.ofNat 72 (s.scribe n).pc + (i <<< 2), none) else none)
  else none

/-- The base register takes its new value. -/
def updateBase (s : State) (n ga : Nat) (u : Option Word) : State :=
  match u with
  | some v => s.setG n ga v
  | none => s

/-- What a load does (R371, R372): nothing is written when it faults. -/
def loadBody (n half gd ga mode imm size : Nat) (ext : Word → Word) (err : MemErr) : Body := fun s =>
  match effAddr s n gd ga mode imm size true with
  | none => illegal s
  | some (ea, u) => andThen (memLoad s (accOf s n 0 half) ea size err) (fun v s =>
      let s := (updateBase s n ga u).setG n gd (ext v)
      (.ok (some (nextPc s n)), coreCompare s n 1 (getField ea 0 48) (ext v)))

/-- What a store does (R371, R372). -/
def storeBody (n half gd ga mode imm size : Nat) (err : MemErr) : Body := fun s =>
  match effAddr s n gd ga mode imm size false with
  | none => illegal s
  | some (ea, u) =>
    let v := s.g n gd
    andThen (memStore s (accOf s n 1 half) ea size v err) (fun _ s =>
      let s := updateBase s n ga u
      (.ok (some (nextPc s n)), coreCompare s n 2 (getField ea 0 48) (v &&& BitVec.ofNat 72 (2 ^ (9 * size) - 1))))

/-- LB (R372). -/
def execLb (core : Nat) (gd ga : BitVec 5) (mode : BitVec 3) (imm : BitVec 16) (err : MemErr) (s : State) : Out :=
  let half := encM 0x20 gd.toNat ga.toNat mode.toNat imm.toNat
  .next (issue s core half (loadBody core half gd.toNat ga.toNat mode.toNat imm.toNat 1 (fun v => (v.extractLsb' 0 9).signExtend 72) err))

/-- LBU (R372). -/
def execLbu (core : Nat) (gd ga : BitVec 5) (mode : BitVec 3) (imm : BitVec 16) (err : MemErr) (s : State) : Out :=
  let half := encM 0x21 gd.toNat ga.toNat mode.toNat imm.toNat
  .next (issue s core half (loadBody core half gd.toNat ga.toNat mode.toNat imm.toNat 1 (fun v => (v.extractLsb' 0 9).setWidth 72) err))

/-- LQ (R372). -/
def execLq (core : Nat) (gd ga : BitVec 5) (mode : BitVec 3) (imm : BitVec 16) (err : MemErr) (s : State) : Out :=
  let half := encM 0x22 gd.toNat ga.toNat mode.toNat imm.toNat
  .next (issue s core half (loadBody core half gd.toNat ga.toNat mode.toNat imm.toNat 2 (fun v => (v.extractLsb' 0 18).signExtend 72) err))

/-- LQU (R372). -/
def execLqu (core : Nat) (gd ga : BitVec 5) (mode : BitVec 3) (imm : BitVec 16) (err : MemErr) (s : State) : Out :=
  let half := encM 0x23 gd.toNat ga.toNat mode.toNat imm.toNat
  .next (issue s core half (loadBody core half gd.toNat ga.toNat mode.toNat imm.toNat 2 (fun v => (v.extractLsb' 0 18).setWidth 72) err))

/-- LH (R372). -/
def execLh (core : Nat) (gd ga : BitVec 5) (mode : BitVec 3) (imm : BitVec 16) (err : MemErr) (s : State) : Out :=
  let half := encM 0x24 gd.toNat ga.toNat mode.toNat imm.toNat
  .next (issue s core half (loadBody core half gd.toNat ga.toNat mode.toNat imm.toNat 4 (fun v => (v.extractLsb' 0 36).signExtend 72) err))

/-- LHU (R372). -/
def execLhu (core : Nat) (gd ga : BitVec 5) (mode : BitVec 3) (imm : BitVec 16) (err : MemErr) (s : State) : Out :=
  let half := encM 0x25 gd.toNat ga.toNat mode.toNat imm.toNat
  .next (issue s core half (loadBody core half gd.toNat ga.toNat mode.toNat imm.toNat 4 (fun v => (v.extractLsb' 0 36).setWidth 72) err))

/-- LW (R372). -/
def execLw (core : Nat) (gd ga : BitVec 5) (mode : BitVec 3) (imm : BitVec 16) (err : MemErr) (s : State) : Out :=
  let half := encM 0x26 gd.toNat ga.toNat mode.toNat imm.toNat
  .next (issue s core half (loadBody core half gd.toNat ga.toNat mode.toNat imm.toNat 8 (fun v => v) err))

/-- SB (R372). -/
def execSb (core : Nat) (gd ga : BitVec 5) (mode : BitVec 3) (imm : BitVec 16) (err : MemErr) (s : State) : Out :=
  let half := encM 0x28 gd.toNat ga.toNat mode.toNat imm.toNat
  .next (issue s core half (storeBody core half gd.toNat ga.toNat mode.toNat imm.toNat 1 err))

/-- SQ (R372). -/
def execSq (core : Nat) (gd ga : BitVec 5) (mode : BitVec 3) (imm : BitVec 16) (err : MemErr) (s : State) : Out :=
  let half := encM 0x29 gd.toNat ga.toNat mode.toNat imm.toNat
  .next (issue s core half (storeBody core half gd.toNat ga.toNat mode.toNat imm.toNat 2 err))

/-- SH (R372). -/
def execSh (core : Nat) (gd ga : BitVec 5) (mode : BitVec 3) (imm : BitVec 16) (err : MemErr) (s : State) : Out :=
  let half := encM 0x2a gd.toNat ga.toNat mode.toNat imm.toNat
  .next (issue s core half (storeBody core half gd.toNat ga.toNat mode.toNat imm.toNat 4 err))

/-- SW (R372). -/
def execSw (core : Nat) (gd ga : BitVec 5) (mode : BitVec 3) (imm : BitVec 16) (err : MemErr) (s : State) : Out :=
  let half := encM 0x2b gd.toNat ga.toNat mode.toNat imm.toNat
  .next (issue s core half (storeBody core half gd.toNat ga.toNat mode.toNat imm.toNat 8 err))

/-! ### LR and SC -/

/-- Desk clock in MHz by performance level (R544). -/
def deskMhz (s : State) (d : Nat) : Nat := [600, 1000, 1400, 1800, 2100, 2400].getD (s.rd (F.DSK_PL d)) 600

/-- LR and SC name a word of a normal cacheable page (R392). -/
def wordPlace (s : State) (x : CoreAcc) (ea : Word) : Res Part × State :=
  andThen (translate s x ea) (fun p s =>
    if ea.toNat % 8 ≠ 0 ∨ p.2 ≠ 0 then (.bad (alignExc x ea), s)
    else (.ok { ea := ea, len := 8, pa := p.1, attr := 0, split := false }, s))

/-- What LR does: the reservation records the address, and the desk keeps the line for 64 cycles (R392, R394). -/
def lrBody (n half gd ga gb : Nat) (err : MemErr) : Body := fun s =>
  if n = 32 ∨ gb ≠ 0 then illegal s
  else
    let ea := s.g n ga
    let x := accOf s n 0 half
    andThen (wordPlace s x ea) (fun p s => andThen (readPart s x p true err) (fun v s =>
      let s := s.modScribe n (fun c => { c with resv := some p.pa })
      let d := n / 8
      let s := s.setDesk d { s.desk d with holds :=
        (p.pa / 64, s.now + 64000 / deskMhz s d) :: (s.desk d).holds.filter (fun h => decide (s.now < h.2) && decide (h.1 ≠ p.pa / 64)) }
      let s := s.setG n gd v
      (.ok (some (nextPc s n)), coreCompare s n 1 (getField ea 0 48) v)))

/-- LR (R392). -/
def execLr (core : Nat) (gd ga gb : BitVec 5) (err : MemErr) (s : State) : Out :=
  let half := encR 0x04 gd.toNat ga.toNat gb.toNat 0
  .next (issue s core half (lrBody core half gd.toNat ga.toNat gb.toNat err))

/-- An SC that does not write (R392). -/
def scFail (s : State) (n gd : Nat) : Res (Option Nat) × State :=
  let s := (s.modScribe n (fun c => { c with resv := none })).bump (F.DSK_SCFAIL n)
  result s n gd 1

/-- What SC does: earlier stores are written, the line is held in M, and the word is written if the reservation still names it
(R392, R462). -/
def scBody (n half gd ga gb : Nat) (err : MemErr) : Body := fun s =>
  if n = 32 then illegal s
  else
    let ea := s.g n ga
    let v := s.g n gb
    let x := accOf s n 1 half
    andThen (wordPlace s x ea) (fun p s => match dramFault s p.pa with
      | some c => (.bad (busExc x (getField ea 0 48) p.pa c), s.busErrFor p.pa c n true)
      | none =>
        if (s.scribe n).resv ≠ some p.pa then scFail s n gd
        else match drainAll s n with
          | (false, s) => (.wait, s)
          | (true, s) => andThen (cacheRead s n (p.pa / 64) true err) (fun w s =>
            if (s.scribe n).resv ≠ some p.pa then scFail s n gd
            else if w.2 then (.bad (poisonExc x p), s)
            else
              let s := l2Write s n (p.pa / 64) (maskBytes p.pa v allOnes)
              let s := (s.modScribe n (fun c => { c with resv := none })).setG n gd 0
              (.ok (some (nextPc s n)), coreCompare s n 2 (getField ea 0 48) v)))

/-- SC (R392). -/
def execSc (core : Nat) (gd ga gb : BitVec 5) (err : MemErr) (s : State) : Out :=
  let half := encR 0x04 gd.toNat ga.toNat gb.toNat 1
  .next (issue s core half (scBody core half gd.toNat ga.toNat gb.toNat err))

end Sys2Proof.Machine
end

