-- ==== Sys2Proof/Machine/NibIns.lean ====
section
/-! DEFINITION. The nib instruction set (R278 to R303, R633): the checks of an instruction and its faults in their
order, its cycles and the budget, loop-back, and the meaning of each instruction. A command carries the condition, the
operand and the extension of its first parcels, and the memory error that the instruction met (assumption 12).
Decisions: log entry 12 (DEDUCED). -/

namespace Sys2Proof.Machine
open Sys2Proof

/-- What an instruction is, for a given nib: cycles and extension; undefined by its first parcel or by its extension
(2h/01h); a third loop level (2h/07h); the subcode of a fault 04h to 06h and of a fault 03h or 08h; the kind and subcode of a stack
fault; which memories it reads; whether it is END; its effect when the condition holds, and what it does otherwise. -/
structure NibIns where
  cyc : Nat := 1
  ext : Bool := false
  undef : Bool := false
  undefExt : Bool := false
  third : Bool := false
  win : Option Nat := none
  range : Option Nat := none
  stack : Option (Nat × Nat) := none
  rdX : Bool := false
  rdY : Bool := false
  /-- The inkwell word that IN reads. -/
  rdI : Option Nat := none
  isEnd : Bool := false
  /-- An X access and a Y access, at their half addresses, for the comparators (R582). -/
  xAt : Option Nat := none
  yAt : Option Nat := none
  eff : State → State := id
  unheld : Nib → Nib := id

/-- The fault of an instruction in its first cycle, the first in the order of R633: kind and subcode. -/
def firstFault (i : NibIns) (plen pc : Nat) (held : Bool) (err : NibErr) : Option (Nat × Nat) :=
  if err = .parity then some (3, 5)
  else if plen ≤ pc then some (2, 3)
  else if err = .program then some (3, 1)
  else if i.undef then some (2, 1)
  else if i.ext && decide (plen ≤ pc + 1) then some (2, 2)
  else if i.undefExt then some (2, 1)
  else if i.third then some (2, 7)
  else if !held then none
  else match i.win, i.range, i.stack with
  | some u, _, _ => some (2, u)
  | none, some u, _ => some (2, u)
  | none, none, some k => some k
  | none, none, none =>
    if err = .x && i.rdX then some (3, 2) else if err = .y && i.rdY then some (3, 3) else none

/-- Loop-back at the end address of the innermost level (R301). -/
def loopBack (pc : Nat) : List (Nat × Nat × Nat) → Nib → Nib
  | [], b => { b with loops := [] }
  | (ctr, body, e) :: rest, b =>
    if pc = e then
      let v := tget b.lc ctr - 1
      let b := { b with lc := tset b.lc ctr v }
      if 0 < v then { b with pc := body, loops := (ctr, body, e) :: rest } else loopBack pc rest b
    else { b with loops := (ctr, body, e) :: rest }

/-- A halt that a comparator asked for (R583). -/
def haltIf (s : State) (f n : Nat) (h : Bool) : State := if h && nibMayHalt s f n then haltNib s f n else s

/-- The comparators see the X and Y accesses of an instruction. -/
def memCompare (s : State) (c : RunCtx) (i : NibIns) : State × Bool :=
  let r := match i.xAt with
    | some a => nibCompare s c.f c.n 1 (c.p.x + a)
    | none => (s, false)
  match i.yAt with
  | some a => let q := nibCompare r.1 c.f c.n 2 (c.p.y + a); (q.1, q.2 || r.2)
  | none => r

/-- One instruction of the run in progress on a nib: faults, budget, effect, loop-back (R279 to R284, R301, R633). At a
parcel of the program with an opcode of no instruction, the nib meets that parcel instead of the commanded one (R280). -/
def nibStep (s : State) (f n op : Nat) (cond : BitVec 3) (operand : BitVec 6) (ext : BitVec 14) (err : NibErr)
    (mk : RunCtx → Nib → NibIns) : State :=
  if s.rd (F.FER_NST f n) = 1 then
    match slotCtx s f n (s.nib f n).slot with
    | none => s
    | some c =>
      let b := s.nib f n
      let i := if noOpcode c.x.desc b.pc then { undef := true } else mk c b
      let held := b.holds cond
      let par0 := if noOpcode c.x.desc b.pc then parcelAt c.x.desc b.pc else cond.toNat * 2 ^ 11 + op * 2 ^ 6 + operand.toNat
      let par1 := if i.ext && decide (b.pc + 1 < c.x.desc.plen) then some ext.toNat else none
      let fetch := nibCompare s f n 0 (c.p.prog + b.pc)
      let s := fetch.1
      if fetch.2 && nibMayHalt s f n then haltNib s f n
      else
      let s := if err = .corrected then s.bump (F.FER_MCOR f n) else s
      match firstFault i c.x.desc.plen b.pc held err with
      | some (k, u) => faultRun s c k u (b.cyc + 1) par0 par1
      | none =>
        if err = .inkwell && i.rdI.isSome && held && decide (b.cyc + 6 ≤ c.x.desc.budget) then
          faultRun (inkUncorr s f (i.rdI.getD 0)) c 3 4 (b.cyc + 6) par0 par1
        else if c.x.desc.budget ≤ b.cyc + i.cyc && !(i.isEnd && held) then
          faultRun s c 1 0 c.x.desc.budget par0 par1
        else
          let pc := b.pc
          let s := s.setNib f n { b with pc := pc + 1 + b2n i.ext, cyc := b.cyc + i.cyc }
          if held then
            let s := i.eff s
            if i.isEnd then s
            else
              let b := s.nib f n
              let s := s.setNib f n (loopBack pc b.loops b)
              let m := memCompare s c i
              haltIf m.1 f n m.2
          else
            let b := i.unheld (s.nib f n)
            s.setNib f n (loopBack pc b.loops b)
  else s

/-- An effect on the nib's registers alone. -/
def onNib (f n : Nat) (g : Nib → Nib) (s : State) : State := s.setNib f n (g (s.nib f n))

/-- The fields of the two-register form (R289). -/
def opD (operand : BitVec 6) : Nat := operand.toNat / 8
def opS (operand : BitVec 6) : Nat := operand.toNat % 8

/-- A CTL instruction on the nib's registers; an operand beyond 0Dh is undefined (R290). -/
def ctlIns (f n : Nat) (operand : BitVec 6) (g : Nib → Nib) : NibIns :=
  { undef := decide (0xD < operand.toNat), eff := onNib f n g }

/-- Whether the instruction stands at the end address of the innermost level (R302). -/
def atLoopEnd (b : Nib) : Bool := match b.loops with
  | (_, _, e) :: _ => decide (b.pc = e)
  | [] => false

/-- NIB_NOP (R290). -/
def execNibNop (fer nib : Nat) (cond : BitVec 3) (operand : BitVec 6) (ext : BitVec 14) (err : NibErr) (s : State) : Out :=
  .next (nibStep s fer nib 0 cond operand ext err (fun _ _ => ctlIns fer nib operand id))

/-- NIB_END (R303). -/
def execNibEnd (fer nib : Nat) (cond : BitVec 3) (operand : BitVec 6) (ext : BitVec 14) (err : NibErr) (s : State) : Out :=
  .next (nibStep s fer nib 0 cond operand ext err (fun c _ =>
    { undef := decide (0xD < operand.toNat), isEnd := true, eff := fun s => endRun s c }))

/-- NIB_REL (R303). -/
def execNibRel (fer nib : Nat) (cond : BitVec 3) (operand : BitVec 6) (ext : BitVec 14) (err : NibErr) (s : State) : Out :=
  .next (nibStep s fer nib 0 cond operand ext err (fun c b =>
    { undef := decide (0xD < operand.toNat), win := if b.released then some 6 else none,
      eff := fun s => releaseOutputs s c }))

/-- NIB_RET (R299). -/
def execNibRet (fer nib : Nat) (cond : BitVec 3) (operand : BitVec 6) (ext : BitVec 14) (err : NibErr) (s : State) : Out :=
  .next (nibStep s fer nib 0 cond operand ext err (fun _ b =>
    { cyc := 2, undef := decide (0xD < operand.toNat) || atLoopEnd b,
      stack := if b.ret.isEmpty then some (5, 0) else none,
      eff := onNib fer nib (fun b => { b with pc := b.ret.headD 0, ret := b.ret.tail }) }))

/-- NIB_LEXIT (R302). -/
def execNibLexit (fer nib : Nat) (cond : BitVec 3) (operand : BitVec 6) (ext : BitVec 14) (err : NibErr) (s : State) : Out :=
  .next (nibStep s fer nib 0 cond operand ext err (fun _ _ =>
    ctlIns fer nib operand (fun b => { b with loops := b.loops.tail })))

/-- NIB_CLRV (R290). -/
def execNibClrv (fer nib : Nat) (cond : BitVec 3) (operand : BitVec 6) (ext : BitVec 14) (err : NibErr) (s : State) : Out :=
  .next (nibStep s fer nib 0 cond operand ext err (fun _ _ => ctlIns fer nib operand (fun b => { b with fV := false })))

/-- NIB_SETF (R290). -/
def execNibSetf (fer nib : Nat) (cond : BitVec 3) (operand : BitVec 6) (ext : BitVec 14) (err : NibErr) (s : State) : Out :=
  .next (nibStep s fer nib 0 cond operand ext err (fun _ _ => ctlIns fer nib operand (fun b => { b with fF := true })))

/-- NIB_CLRF (R290). -/
def execNibClrf (fer nib : Nat) (cond : BitVec 3) (operand : BitVec 6) (ext : BitVec 14) (err : NibErr) (s : State) : Out :=
  .next (nibStep s fer nib 0 cond operand ext err (fun _ _ => ctlIns fer nib operand (fun b => { b with fF := false })))

/-- NIB_NOTF (R290). -/
def execNibNotf (fer nib : Nat) (cond : BitVec 3) (operand : BitVec 6) (ext : BitVec 14) (err : NibErr) (s : State) : Out :=
  .next (nibStep s fer nib 0 cond operand ext err (fun _ _ => ctlIns fer nib operand (fun b => { b with fF := !b.fF })))

/-- NIB_CLRA0 (R290). -/
def execNibClra0 (fer nib : Nat) (cond : BitVec 3) (operand : BitVec 6) (ext : BitVec 14) (err : NibErr) (s : State) : Out :=
  .next (nibStep s fer nib 0 cond operand ext err (fun _ _ => ctlIns fer nib operand (fun b => b.setAcc 0 0)))

/-- NIB_CLRA1 (R290). -/
def execNibClra1 (fer nib : Nat) (cond : BitVec 3) (operand : BitVec 6) (ext : BitVec 14) (err : NibErr) (s : State) : Out :=
  .next (nibStep s fer nib 0 cond operand ext err (fun _ _ => ctlIns fer nib operand (fun b => b.setAcc 1 0)))

/-- An exact accumulator result saturated and written, with its flags (R288, R289). -/
def Nib.accResult (b : Nib) (i : Nat) (v : Int) : Nib :=
  let r := sat72 v
  ((b.setAcc i r.1).setZN72 r.1).orV r.2

/-- NIB_ADDAA (R290). -/
def execNibAddaa (fer nib : Nat) (cond : BitVec 3) (operand : BitVec 6) (ext : BitVec 14) (err : NibErr) (s : State) : Out :=
  .next (nibStep s fer nib 0 cond operand ext err (fun _ _ => ctlIns fer nib operand (fun b =>
    b.accResult 0 ((tget b.acc 0).toInt + (tget b.acc 1).toInt))))

/-- NIB_SUBAA (R290). -/
def execNibSubaa (fer nib : Nat) (cond : BitVec 3) (operand : BitVec 6) (ext : BitVec 14) (err : NibErr) (s : State) : Out :=
  .next (nibStep s fer nib 0 cond operand ext err (fun _ _ => ctlIns fer nib operand (fun b =>
    b.accResult 0 ((tget b.acc 0).toInt - (tget b.acc 1).toInt))))

/-- NIB_SWPA (R290). -/
def execNibSwpa (fer nib : Nat) (cond : BitVec 3) (operand : BitVec 6) (ext : BitVec 14) (err : NibErr) (s : State) : Out :=
  .next (nibStep s fer nib 0 cond operand ext err (fun _ _ => ctlIns fer nib operand (fun b =>
    (b.setAcc 0 (tget b.acc 1)).setAcc 1 (tget b.acc 0))))

/-- The operand forms of BR and CALL: defined, and the target (R298). -/
def brUndef (operand : BitVec 6) : Bool :=
  !(operand.toNat = 0 || (decide (0x10 ≤ operand.toNat) && decide (operand.toNat ≤ 0x15)))
def brTarget (b : Nib) (operand : BitVec 6) (ext : BitVec 14) : Nat :=
  ext.toNat % 2 ^ 13 + (if operand.toNat = 0 then 0 else tget b.a (operand.toNat - 0x10))

/-- NIB_BR (R298). -/
def execNibBr (fer nib : Nat) (cond : BitVec 3) (operand : BitVec 6) (ext : BitVec 14) (err : NibErr) (s : State) : Out :=
  .next (nibStep s fer nib 1 cond operand ext err (fun c b =>
    { cyc := 2, ext := true, undef := brUndef operand || atLoopEnd b, undefExt := bitOf ext.toNat 13,
      range := if c.x.desc.plen ≤ brTarget b operand ext then some 3 else none,
      eff := onNib fer nib (fun b => { b with pc := brTarget b operand ext }) }))

/-- NIB_CALL (R299). -/
def execNibCall (fer nib : Nat) (cond : BitVec 3) (operand : BitVec 6) (ext : BitVec 14) (err : NibErr) (s : State) : Out :=
  .next (nibStep s fer nib 2 cond operand ext err (fun c b =>
    { cyc := 2, ext := true, undef := brUndef operand || atLoopEnd b, undefExt := bitOf ext.toNat 13,
      range := if c.x.desc.plen ≤ brTarget b operand ext then some 3 else none,
      stack := if 16 ≤ b.ret.length then some (4, 0) else none,
      eff := onNib fer nib (fun b => { b with pc := brTarget b operand ext, ret := b.pc :: b.ret }) }))

/-- The address after the instruction whose first parcel is at `e` (R300). -/
def afterIns (d : Descr) (e : Nat) : Nat := e + 1 + b2n (parcelExt (parcelAt d e))

/-- NIB_LOOP (R300). -/
def execNibLoop (fer nib : Nat) (cond : BitVec 3) (operand : BitVec 6) (ext : BitVec 14) (err : NibErr) (s : State) : Out :=
  .next (nibStep s fer nib 3 cond operand ext err (fun c b =>
    let ctr := operand.toNat / 32
    let e := ext.toNat % 2 ^ 13
    let count := if bitOf operand.toNat 4 then operand.toNat % 16 else (b.reg (operand.toNat % 16)).toNat % 2 ^ 16
    { cyc := 2, ext := true, undef := atLoopEnd b,
      undefExt := bitOf ext.toNat 13 || decide (e < b.pc + 2) || (decide (b.loops.length < 2) && b.loops.any (fun l => l.1 = ctr)),
      third := decide (2 ≤ b.loops.length),
      range := if c.x.desc.plen ≤ e then some 3 else none,
      eff := onNib fer nib (fun b =>
        if count = 0 then { b with pc := afterIns c.x.desc e }
        else { b with lc := tset b.lc ctr count, loops := (ctr, b.pc, e) :: b.loops }),
      unheld := fun b => { b with pc := afterIns c.x.desc e } }))

/-- NIB_LDI (R289). -/
def execNibLdi (fer nib : Nat) (cond : BitVec 3) (operand : BitVec 6) (ext : BitVec 14) (err : NibErr) (s : State) : Out :=
  .next (nibStep s fer nib 4 cond operand ext err (fun _ _ =>
    let r := operand.toNat % 16
    let k := operand.toNat / 16
    { ext := true, undef := decide (k = 3),
      eff := onNib fer nib (fun b => b.setReg r
        (if k = 0 then ext.signExtend 36 else if k = 1 then ext.zeroExtend 36
         else (b.reg r <<< 14) + ext.zeroExtend 36)) }))

/-- NIB_ADDI (R289). -/
def execNibAddi (fer nib : Nat) (cond : BitVec 3) (operand : BitVec 6) (ext : BitVec 14) (err : NibErr) (s : State) : Out :=
  .next (nibStep s fer nib 5 cond operand ext err (fun _ _ =>
    let r := operand.toNat % 16
    { ext := true, undef := decide (operand.toNat / 16 ≠ 0),
      eff := onNib fer nib (fun b =>
        let v := b.reg r + ext.signExtend 36
        if r < 8 then (b.setReg r v).setZN v else b.setReg r v) }))

/-- NIB_MOV (R289, R294). -/
def execNibMov (fer nib : Nat) (cond : BitVec 3) (operand : BitVec 6) (ext : BitVec 14) (err : NibErr) (s : State) : Out :=
  .next (nibStep s fer nib 6 cond operand ext err (fun c b =>
    let dst := operand.toNat
    let src := ext.toNat % 64
    let v := b.reg src
    { ext := true, undef := !codeWritable dst, undefExt := decide (64 ≤ ext.toNat) || decide (0x18 ≤ src),
      range := if dst = 0x10 ∧ (v.toNat < stackLow c ∨ stackTop c < v.toNat) then some 3 else none,
      eff := onNib fer nib (fun b => b.setReg dst v) }))

/-- A two-register operation that writes D and sets Z and N. -/
def aluIns (f n : Nat) (operand : BitVec 6) (g : Half → Half → Half) : NibIns :=
  { eff := onNib f n (fun b =>
      let r := g (tget b.d (opD operand)) (tget b.d (opS operand))
      (b.setReg (opD operand) r).setZN r) }

/-- NIB_ADD (R289). -/
def execNibAdd (fer nib : Nat) (cond : BitVec 3) (operand : BitVec 6) (ext : BitVec 14) (err : NibErr) (s : State) : Out :=
  .next (nibStep s fer nib 7 cond operand ext err (fun _ _ => aluIns fer nib operand (· + ·)))

/-- NIB_SUB (R289). -/
def execNibSub (fer nib : Nat) (cond : BitVec 3) (operand : BitVec 6) (ext : BitVec 14) (err : NibErr) (s : State) : Out :=
  .next (nibStep s fer nib 8 cond operand ext err (fun _ _ => aluIns fer nib operand (· - ·)))

/-- NIB_AND (R289). -/
def execNibAnd (fer nib : Nat) (cond : BitVec 3) (operand : BitVec 6) (ext : BitVec 14) (err : NibErr) (s : State) : Out :=
  .next (nibStep s fer nib 9 cond operand ext err (fun _ _ => aluIns fer nib operand (· &&& ·)))

/-- NIB_OR (R289). -/
def execNibOr (fer nib : Nat) (cond : BitVec 3) (operand : BitVec 6) (ext : BitVec 14) (err : NibErr) (s : State) : Out :=
  .next (nibStep s fer nib 0xA cond operand ext err (fun _ _ => aluIns fer nib operand (· ||| ·)))

/-- NIB_XOR (R289). -/
def execNibXor (fer nib : Nat) (cond : BitVec 3) (operand : BitVec 6) (ext : BitVec 14) (err : NibErr) (s : State) : Out :=
  .next (nibStep s fer nib 0xB cond operand ext err (fun _ _ => aluIns fer nib operand (· ^^^ ·)))

/-- A comparison that writes F. -/
def cmpIns (f n : Nat) (operand : BitVec 6) (g : Half → Half → Bool) : NibIns :=
  { eff := onNib f n (fun b => { b with fF := g (tget b.d (opD operand)) (tget b.d (opS operand)) }) }

/-- NIB_CEQ (R289). -/
def execNibCeq (fer nib : Nat) (cond : BitVec 3) (operand : BitVec 6) (ext : BitVec 14) (err : NibErr) (s : State) : Out :=
  .next (nibStep s fer nib 0xC cond operand ext err (fun _ _ => cmpIns fer nib operand (fun a b => decide (a = b))))

/-- NIB_CLT (R289). -/
def execNibClt (fer nib : Nat) (cond : BitVec 3) (operand : BitVec 6) (ext : BitVec 14) (err : NibErr) (s : State) : Out :=
  .next (nibStep s fer nib 0xD cond operand ext err (fun _ _ => cmpIns fer nib operand (fun a b => a.slt b)))

/-- NIB_CLTU (R289). -/
def execNibCltu (fer nib : Nat) (cond : BitVec 3) (operand : BitVec 6) (ext : BitVec 14) (err : NibErr) (s : State) : Out :=
  .next (nibStep s fer nib 0xE cond operand ext err (fun _ _ => cmpIns fer nib operand (fun a b => a.ult b)))

/-- The shifts of SHF (R291). -/
def shfOp (kind amount : Nat) (v : Half) : Half :=
  match kind with
  | 0 => v <<< amount
  | 1 => v >>> amount
  | 2 => v.sshiftRight amount
  | _ => v.rotateRight amount

/-- NIB_SHF (R291). -/
def execNibShf (fer nib : Nat) (cond : BitVec 3) (operand : BitVec 6) (ext : BitVec 14) (err : NibErr) (s : State) : Out :=
  .next (nibStep s fer nib 0xF cond operand ext err (fun _ _ =>
    let e := ext.toNat
    { aluIns fer nib operand (fun _ v => shfOp (e / 64 % 4) (e % 64) v) with
      ext := true, undefExt := decide (256 ≤ e) || decide (36 ≤ e % 64) }))

/-- The number of leading zero bits of a half (R291). -/
def clz36 (v : Half) : Nat :=
  match (List.range 36).find? (fun i => v.getLsbD (35 - i)) with
  | some i => i
  | none => 36

/-- The operations of UNA (R291). -/
def unaOp (kind : Nat) (v : Half) : Half :=
  match kind with
  | 0 => ~~~v
  | 1 => 0 - v
  | 2 => if v.msb then 0 - v else v
  | 3 => (v.extractLsb' 0 18).signExtend 36
  | 4 => (v.extractLsb' 0 18).zeroExtend 36
  | 5 => BitVec.ofNat 36 (clz36 v)
  | _ => BitVec.ofNat 36 (clz36 (if v.msb then ~~~v else v) - 1)

/-- NIB_UNA (R291). -/
def execNibUna (fer nib : Nat) (cond : BitVec 3) (operand : BitVec 6) (ext : BitVec 14) (err : NibErr) (s : State) : Out :=
  .next (nibStep s fer nib 0x10 cond operand ext err (fun _ _ =>
    { aluIns fer nib operand (fun _ v => unaOp (ext.toNat % 8) v) with
      ext := true, undefExt := decide (8 ≤ ext.toNat) || decide (ext.toNat = 7) }))

/-- The post-modify of an X or Y access (R292). -/
def afterAccess (mode m : Nat) (b : Nib) : Nib := if mode < 6 then b.postMod mode m else b

/-- NIB_LDX (R292). -/
def execNibLdx (fer nib : Nat) (cond : BitVec 3) (operand : BitVec 6) (ext : BitVec 14) (err : NibErr) (s : State) : Out :=
  .next (nibStep s fer nib 0x11 cond operand ext err (fun c b =>
    let mode := opS operand
    let a := memAddr b mode ext.toNat
    { ext := decide (6 ≤ mode), undefExt := decide (6 ≤ mode) && bitOf ext.toNat 13,
      range := if c.x.desc.xlen ≤ a then some 3 else none, rdX := true, xAt := some a,
      eff := onNib fer nib (fun b => afterAccess mode 0 (b.setReg (opD operand) (readX c b a))) }))

/-- NIB_LDY (R292). -/
def execNibLdy (fer nib : Nat) (cond : BitVec 3) (operand : BitVec 6) (ext : BitVec 14) (err : NibErr) (s : State) : Out :=
  .next (nibStep s fer nib 0x12 cond operand ext err (fun c b =>
    let mode := opS operand
    let a := memAddr b mode ext.toNat
    { ext := decide (mode = 6), undef := decide (mode = 7), undefExt := decide (mode = 6) && bitOf ext.toNat 13,
      range := if c.x.desc.ylen ≤ a then some 3 else none, rdY := true, yAt := some a,
      eff := onNib fer nib (fun b => afterAccess mode 1 (b.setReg (opD operand) (readY c b a))) }))

/-- NIB_STX (R292). -/
def execNibStx (fer nib : Nat) (cond : BitVec 3) (operand : BitVec 6) (ext : BitVec 14) (err : NibErr) (s : State) : Out :=
  .next (nibStep s fer nib 0x13 cond operand ext err (fun c b =>
    let mode := opS operand
    let a := memAddr b mode ext.toNat
    { ext := decide (6 ≤ mode), undefExt := decide (6 ≤ mode) && bitOf ext.toNat 13,
      range := if c.x.desc.xlen ≤ a then some 3 else if a < c.x.desc.xcon' then some 8 else none, xAt := some a,
      eff := onNib fer nib (fun b => afterAccess mode 0 { b with x := tset b.x a (tget b.d (opD operand)) }) }))

/-- NIB_STY (R292). -/
def execNibSty (fer nib : Nat) (cond : BitVec 3) (operand : BitVec 6) (ext : BitVec 14) (err : NibErr) (s : State) : Out :=
  .next (nibStep s fer nib 0x14 cond operand ext err (fun c b =>
    let mode := opS operand
    let a := memAddr b mode ext.toNat
    { ext := decide (mode = 6), undef := decide (mode = 7), undefExt := decide (mode = 6) && bitOf ext.toNat 13,
      range := if c.x.desc.ylen ≤ a then some 3 else if a < c.x.desc.ycon' then some 8 else none, yAt := some a,
      eff := onNib fer nib (fun b => afterAccess mode 1 { b with y := tset b.y a (tget b.d (opD operand)) }) }))

/-- NIB_STK (R294). -/
def execNibStk (fer nib : Nat) (cond : BitVec 3) (operand : BitVec 6) (ext : BitVec 14) (err : NibErr) (s : State) : Out :=
  .next (nibStep s fer nib 0x15 cond operand ext err (fun c b =>
    let code := operand.toNat % 32
    let pop := bitOf operand.toNat 5
    { undef := decide (0x17 < code) || decide (code = 0x10) || (pop && !codeWritable code),
      stack := if pop then (if b.sp = stackTop c then some (6, 2) else none)
        else (if b.sp = stackLow c then some (6, 1) else none),
      rdX := pop, xAt := some (if pop then b.sp else b.sp - 1),
      eff := onNib fer nib (fun b =>
        if pop then { b.setReg code (tget b.x b.sp) with sp := b.sp + 1 }
        else { b with sp := b.sp - 1, x := tset b.x (b.sp - 1) (b.reg code) }) }))

/-- NIB_MAC (R293). -/
def execNibMac (fer nib : Nat) (cond : BitVec 3) (operand : BitVec 6) (ext : BitVec 14) (err : NibErr) (s : State) : Out :=
  .next (nibStep s fer nib 0x16 cond operand ext err (fun c b =>
    let o := operand.toNat
    let i := o / 32
    let ax := o / 4 % 4
    let ay := 2 + o % 4
    let xa := tget b.a ax
    let ya := tget b.a ay
    { range := if c.x.desc.xlen ≤ xa ∨ c.x.desc.ylen ≤ ya then some 3 else none,
      rdX := true, rdY := true, xAt := some xa, yAt := some ya,
      eff := onNib fer nib (fun b =>
        let p := (readX c b xa).toInt * (readY c b ya).toInt
        let a := (tget b.acc i).toInt
        ((b.accResult i (if bitOf o 4 then a - p else a + p)).postMod ax 0).postMod ay 1) }))

/-- NIB_MACD (R289). -/
def execNibMacd (fer nib : Nat) (cond : BitVec 3) (operand : BitVec 6) (ext : BitVec 14) (err : NibErr) (s : State) : Out :=
  .next (nibStep s fer nib 0x17 cond operand ext err (fun _ _ =>
    let o := operand.toNat
    let i := o / 32
    let e := ext.toNat
    { ext := true, undef := decide (o % 8 ≠ 0), undefExt := decide (64 ≤ e),
      eff := onNib fer nib (fun b =>
        let p := (tget b.d (e / 8 % 8)).toInt * (tget b.d (e % 8)).toInt
        let a := if bitOf o 3 then 0 else (tget b.acc i).toInt
        b.accResult i (if bitOf o 4 then a - p else a + p)) }))

/-- NIB_ACC (R291). -/
def execNibAcc (fer nib : Nat) (cond : BitVec 3) (operand : BitVec 6) (ext : BitVec 14) (err : NibErr) (s : State) : Out :=
  .next (nibStep s fer nib 0x18 cond operand ext err (fun _ _ =>
    let o := operand.toNat
    let i := o / 32
    { eff := onNib fer nib (fun b =>
        let v := (tget b.d (o % 8)).toInt
        let a := (tget b.acc i).toInt
        b.accResult i (match o / 8 % 4 with
          | 0 => v
          | 1 => a + v
          | 2 => a - v
          | _ => v * 2 ^ 36)) }))

/-- NIB_EXT (R291). -/
def execNibExt (fer nib : Nat) (cond : BitVec 3) (operand : BitVec 6) (ext : BitVec 14) (err : NibErr) (s : State) : Out :=
  .next (nibStep s fer nib 0x19 cond operand ext err (fun _ _ =>
    let o := operand.toNat
    let mode := o % 4
    let e := ext.toNat
    { ext := decide (2 ≤ mode), undefExt := decide (2 ≤ mode) && (decide (128 ≤ e) || decide (71 < e % 128)),
      eff := onNib fer nib (fun b =>
        let a := tget b.acc (o / 4 % 2)
        let r := match mode with
          | 0 => (a.extractLsb' 0 36, false)
          | 1 => (a.extractLsb' 36 36, false)
          | 2 => sat36 (a.toInt / 2 ^ e)
          | _ => sat36 ((a.toInt + (if e = 0 then 0 else 2 ^ (e - 1))) / 2 ^ e)
        ((b.setReg (o / 8) r.1).setZN r.1).orV r.2) }))

/-- NIB_ASH (R289). -/
def execNibAsh (fer nib : Nat) (cond : BitVec 3) (operand : BitVec 6) (ext : BitVec 14) (err : NibErr) (s : State) : Out :=
  .next (nibStep s fer nib 0x1A cond operand ext err (fun _ _ =>
    let o := operand.toNat
    let i := o / 32
    let e := ext.toNat
    { ext := true, undef := decide (o % 16 ≠ 0), undefExt := decide (128 ≤ e) || decide (71 < e % 128),
      eff := onNib fer nib (fun b =>
        let a := (tget b.acc i).toInt
        b.accResult i (if bitOf o 4 then a / 2 ^ e else a * 2 ^ e)) }))

/-- The fields of IN and OUT: data code, window, X bit (R289). -/
def ioData (operand : BitVec 6) : Nat := operand.toNat / 8
def ioWin (operand : BitVec 6) : Nat := operand.toNat / 2 % 4
def ioX (operand : BitVec 6) : Bool := bitOf operand.toNat 0

/-- The increment of a4 after a ring access with X = 1 (R296). -/
def ringNext (win : Nat) (x : Bool) (b : Nib) : Nib :=
  if win = 3 && x then { b with a := tset b.a 4 ((tget b.a 4 + 1) % 8192) } else b

/-- NIB_IN (R297). -/
def execNibIn (fer nib : Nat) (cond : BitVec 3) (operand : BitVec 6) (ext : BitVec 14) (err : NibErr) (s : State) : Out :=
  .next (nibStep s fer nib 0x1B cond operand ext err (fun c b =>
    let win := ioWin operand
    { cyc := 6, ext := true, undef := decide (6 ≤ ioData operand), rdI := some (winAddr s c b win (ioX operand) ext.toNat),
      range := winRange s c b win (ioX operand) ext.toNat,
      eff := fun s => onNib fer nib (fun b =>
        ringNext win (ioX operand) (b.setPair (ioData operand) (winRead s c b win (ioX operand) ext.toNat))) s }))

/-- The word of an OUT in the store digest that names the window and offset (R264). -/
def storeTag (win off : Nat) : Word := BitVec.ofNat 72 (win * 2 ^ 18 + off)

/-- The state pair's pending bit set (R259). -/
def setPend (s : State) (f i : Nat) : State :=
  let x := s.ferrule f
  s.setFerrule f { x with smap := tset x.smap i (tget x.smap i % 2 + 2) }

/-- The store of an OUT: the uncommitted copy of a state word, or the output word (R258, R259). -/
def winWrite (s : State) (c : RunCtx) (b : Nib) (win off : Nat) (v : Word) : State :=
  if win = 1 then
    let i := c.p.smap + off
    setPend (s.setInk c.f (c.p.st + 2 * off + (1 - smapSel s c.f i)) v) c.f i
  else (s.setInk c.f (c.p.out + off) v).setNib c.f c.n { b with out := tset b.out off v }

/-- NIB_OUT (R297). -/
def execNibOut (fer nib : Nat) (cond : BitVec 3) (operand : BitVec 6) (ext : BitVec 14) (err : NibErr) (s : State) : Out :=
  .next (nibStep s fer nib 0x1C cond operand ext err (fun c b =>
    let win := ioWin operand
    { cyc := 6, ext := true, undef := decide (6 ≤ ioData operand),
      win := if win = 0 ∨ win = 3 then some 4 else if win = 2 && b.released then some 5 else none,
      range := winRange s c b win (ioX operand) ext.toNat,
      eff := fun s =>
        let b := s.nib fer nib
        let v := b.pair (ioData operand)
        let off := winOffset b win (ioX operand) ext.toNat
        let s := winWrite s c b win off v
        if b.released then s
        else onNib fer nib (fun b => { b with stores := v :: storeTag win off :: b.stores }) s }))

/-- NIB_BUDGET_OVERRUN (R262): the next instruction would reach the budget without being an END that completes. -/
def execNibBudgetOverrun (t ferrule nib : Nat) (s : State) : Out :=
  let s := s.tick t
  .next (
    if s.rd (F.FER_NST ferrule nib) = 1 then
      match slotCtx s ferrule nib (s.nib ferrule nib).slot with
      | none => s
      | some c =>
        let b := s.nib ferrule nib
        let par := parcelAt c.x.desc b.pc
        let held := b.holds (BitVec.ofNat 3 (par / 2 ^ 11))
        let par1 := if parcelExt par && decide (b.pc + 1 < c.x.desc.plen) then some (parcelAt c.x.desc (b.pc + 1)) else none
        if c.x.desc.budget ≤ b.cyc + parcelCycles par && !(held && decide (par % 2 ^ 11 = 1)) then
          faultRun s c 1 0 c.x.desc.budget par par1
        else s
    else s)

end Sys2Proof.Machine
end

