-- ==== Sys2Proof/Machine/System.lean ====
section
/-! DEFINITION. System instructions (R372, R385, R395, R396, R401, R402, R417 to R420, R444, R445, R453, R577).
Decisions: log entry 57 (DEDUCED). -/

namespace Sys2Proof.Machine
open Sys2Proof

/-- The privileged-instruction fault (R372, R404). -/
def privileged (s : State) (atH : Bool) : Res (Option Nat) × State := (.bad { code := 2, atH := atH }, s)

/-- The next instruction follows. -/
def goOn (s : State) (n : Nat) : Res (Option Nat) × State := (.ok (some (nextPc s n)), s)

/-- SYSCALL (R404, R419). -/
def execSyscall (core : Nat) (gd ga gb : BitVec 5) (sub : BitVec 10) (s : State) : Out :=
  .next (issue s core (encR 0x09 gd.toNat ga.toNat gb.toNat (sub.toNat * 16)) (fun s =>
    (.bad { code := 8, num := sub.toNat, atH := decide (coreLevel s core = 1) && decide (getField (s.scribe core).hctl 0 1 = 1) }, s)))

/-- What ERET does at a level C (R417, R418, R530). -/
def eretBody (n half : Nat) : Body := fun s =>
  let c := coreLevel s n
  if c = 0 then privileged s false
  else
    let esp := sr s n (espNum c)
    let x := accOf s n 0 half
    andThen (memLoad s x esp 8 .clean) (fun w0 s => andThen (memLoad s x (esp + 8) 8 .clean) (fun w1 s =>
      let lvl := getField w1 0 2
      if n = 32 ∧ lvl ≠ 2 then illegal s
      else if lvl = 3 ∨ c < lvl ∨ (lvl = 2 ∧ getField (s.scribe n).hctl 0 1 = 0) then (.bad { code := 0x0A }, s)
      else
        let pc := getField w0 0 48 / 4 * 4
        let s := s.modScribe n (fun k => { k with sr := tset k.sr (espNum c) (esp + 64), resv := none })
        let s := setStatus s n w1
        (.ok (some pc), tracePacket s n 2 (pc + 3) none)))

/-- ERET (R417, R418). -/
def execEret (core : Nat) (gd ga gb : BitVec 5) (s : State) : Out :=
  let half := encR 0x09 gd.toNat ga.toNat gb.toNat 1
  .next (issue s core half (eretBody core half))

/-- Every earlier store of a core is visible (R395). -/
def storesVisible (s : State) (n : Nat) : Bool × State :=
  let r := if n < 32 then drainAll s n else (true, s)
  (r.1 && !(r.2.mem.txs.any (fun t => t.src == n && t.kind == 5)), r.2)

/-- What FENCE does (R395): device accesses complete as they are made. -/
def fenceBody (n kind : Nat) : Body := fun s =>
  if 2 < kind then illegal s
  else if kind = 2 then goOn s n
  else match storesVisible s n with
    | (true, s) => goOn s n
    | (false, s) => (.wait, s)

/-- FENCE (R395). -/
def execFence (core : Nat) (gd ga gb : BitVec 5) (sub : BitVec 10) (s : State) : Out :=
  .next (issue s core (encR 0x09 gd.toNat ga.toNat gb.toNat (sub.toNat * 16 + 2)) (fenceBody core sub.toNat))

/-- IFENCE (R396). -/
def execIfence (core : Nat) (gd ga gb : BitVec 5) (s : State) : Out :=
  .next (issue s core (encR 0x09 gd.toNat ga.toNat gb.toNat 3) (fun s => match storesVisible s core with
    | (true, s) => goOn s core
    | (false, s) => (.wait, s)))

/-- TIME (R385). -/
def execTime (t core : Nat) (gd ga gb : BitVec 5) (s : State) : Out :=
  .next (issue (s.tick t) core (encR 0x09 gd.toNat ga.toNat gb.toNat 4) (fun s => result s core gd.toNat (timeWord s.devTime)))

/-- What MFSR does (R402, R425). -/
def mfsrBody (n gd num : Nat) : Body := fun s =>
  match sregRow n num with
  | none => illegal s
  | some r =>
    if r.rd = 3 then illegal s
    else if coreLevel s n < r.rd then privileged s (decide (r.rd = 2))
    else if num = 0x009 then result (iackRead s n).2 n gd (iackRead s n).1
    else result s n gd (sregValue s n num)

/-- MFSR (R402). -/
def execMfsr (core : Nat) (gd ga gb : BitVec 5) (sub : BitVec 10) (s : State) : Out :=
  .next (issue s core (encR 0x09 gd.toNat ga.toNat gb.toNat (sub.toNat * 16 + 5)) (mfsrBody core gd.toNat sub.toNat))

/-- What MTSR does (R401, R402, R425, R426, R530). -/
def mtsrBody (n ga gb num : Nat) : Body := fun s =>
  let v := s.g n ga
  let lvl := coreLevel s n
  let dest := getField v 0 2
  match sregRow n num with
  | none => illegal s
  | some r =>
    if gb ≠ 0 ∨ r.wr = 3 then illegal s
    else if lvl < r.wr then privileged s (decide (r.rd = 2) && decide (r.wr = 2))
    else if num = 0 then
      (if lvl = 1 ∧ 2 ≤ dest then privileged s false
       else if dest = 3 ∨ (n = 32 ∧ dest ≠ 2) then illegal s
       else goOn (setStatus s n (if lvl = 1 then putField v 2 4 (min 13 (getField v 2 4)) else v)) n)
    else if num = 0x00A then goOn (ieoiWrite s n v.toNat) n
    else if num = 0x00C then goOn (swiWrite s v.toNat) n
    else goOn (sregPut s n num v) n

/-- MTSR (R401, R402). -/
def execMtsr (core : Nat) (gd ga gb : BitVec 5) (sub : BitVec 10) (s : State) : Out :=
  .next (issue s core (encR 0x09 gd.toNat ga.toNat gb.toNat (sub.toNat * 16 + 6)) (mtsrBody core ga.toNat gb.toNat sub.toNat))

/-- What WFI does (R420): with no such interrupt pending, the core waits. -/
def wfiBody (n : Nat) : Body := fun s =>
  if coreLevel s n = 0 then privileged s false
  else if (if n < 32 then (icuClaimable s n).isSome else (mcBest s).isSome) then goOn s n
  else (.wait, if n < 32 then s.wr (F.DSK_SST n) 2 else s)

/-- WFI (R420). -/
def execWfi (core : Nat) (gd ga gb : BitVec 5) (s : State) : Out :=
  .next (issue s core (encR 0x09 gd.toNat ga.toNat gb.toNat 7) (wfiBody core))

/-- BRK (R419, R577): while ATTACH and the core's bit of DBG_BRKH are 1, the core halts at the BRK. -/
def execBrk (core : Nat) (gd ga gb : BitVec 5) (s : State) : Out :=
  .next (issue s core (encR 0x09 gd.toNat ga.toNat gb.toNat 8) (fun s =>
    if s.isSet F.BLT_ATTACH ∧ bitOf (s.rd F.BLT_BRKH) core then (.ok none, s.modScribe core (fun c => { c with haltReq := true }))
    else (.bad { code := 9 }, s)))

/-- Every store that a scribe has translated is performed, on every scribe that runs or is halted (R445). -/
def allVisible (s : State) : Bool × State :=
  (List.range 32).foldl (fun (r : Bool × State) k =>
    if r.1 ∧ (scribeUp r.2 k ∨ r.2.rd (F.DSK_SST k) = 3) then storesVisible r.2 k else r) (true, s)

/-- What TLBI does (R444, R445, R530). -/
def tlbiBody (n ga gb kind : Nat) : Body := fun s =>
  if n = 32 ∨ 7 < kind then illegal s
  else if coreLevel s n = 0 then privileged s false
  else if coreLevel s n = 1 ∧ 4 ≤ kind then privileged s true
  else match storesVisible s n with
    | (false, s) => (.wait, s)
    | (true, s) =>
      let s := tlbInvalidate s n kind (s.g n ga) (s.g n gb)
      match allVisible s with
      | (false, s) => (.wait, s)
      | (true, s) => goOn s n

/-- TLBI (R444). -/
def execTlbi (core : Nat) (gd ga gb : BitVec 5) (sub : BitVec 10) (s : State) : Out :=
  .next (issue s core (encR 0x09 gd.toNat ga.toNat gb.toNat (sub.toNat * 16 + 9)) (tlbiBody core ga.toNat gb.toNat sub.toNat))

/-! ### Cache maintenance -/

/-- The line that holds byte ga, once translated and its earlier stores written. -/
def linePlace (s : State) (n half kind : Nat) (ea : Word) : Res (Nat × Nat) × State :=
  let x := accOf s n kind half
  andThen (translate s x ea) (fun p s =>
    match (if p.2 ≤ 1 then dramFault s p.1 else none) with
    | some c => (.bad (busExc x (getField ea 0 48) p.1 c), s.busErrFor p.1 c n (decide (kind = 1)))
    | none => match drainAll s n with
      | (false, s) => (.wait, s)
      | (true, s) => (.ok p, s))

/-- A dirty line is written to memory and kept: M becomes E, O becomes S (R453). None while a request of the line is open. -/
def cleanLine (s : State) (d line : Nat) : Option State :=
  let s := settleWbs (drive (s.mem.txs.length + 1) s line) line
  let x := s.l2 d line
  if s.mem.txs.any (fun t => t.line == line) then none
  else if x.st = 3 ∨ x.st = 4 then
    let st := if x.st = 4 then 2 else 1
    some (((s.memWrite line x.words x.poison).setL2 d line { x with st := st }).setPres d line st)
  else some s

/-- What DCLEAN and DFLUSH do; `flush` also takes the line from every cache of the desk. -/
def cleanBody (n half ga gb : Nat) (flush : Bool) (err : MemErr) : Body := fun s =>
  if n = 32 ∨ gb ≠ 0 then illegal s
  else andThen (linePlace s n half 0 (s.g n ga)) (fun p s =>
    if p.2 ≠ 0 then goOn s n
    else
      let line := p.1 / 64
      let d := n / 8
      let s := if (s.l2 d line).st = 0 then s else storeErr s n line err
      match cleanLine s d line with
      | none => (.wait, s)
      | some s => goOn (if flush then s.l2Lose d line else s) n)

/-- DCLEAN (R372, R453). -/
def execDclean (core : Nat) (gd ga gb : BitVec 5) (err : MemErr) (s : State) : Out :=
  let half := encR 0x09 gd.toNat ga.toNat gb.toNat 0x00A
  .next (issue s core half (cleanBody core half ga.toNat gb.toNat false err))

/-- DFLUSH (R372). -/
def execDflush (core : Nat) (gd ga gb : BitVec 5) (err : MemErr) (s : State) : Out :=
  let half := encR 0x09 gd.toNat ga.toNat gb.toNat 0x00B
  .next (issue s core half (cleanBody core half ga.toNat gb.toNat true err))

/-- What DZERO does (R372, R451, R465): a line in a device region is an alignment fault, and a line that is not cacheable is
written at its home agent. -/
def dzeroBody (n half ga gb : Nat) (err : MemErr) : Body := fun s =>
  if n = 32 ∨ gb ≠ 0 then illegal s
  else andThen (linePlace s n half 1 (s.g n ga)) (fun p s =>
    let line := p.1 / 64
    if p.2 = 2 then (.bad (alignExc (accOf s n 1 half) (s.g n ga)), s)
    else if p.2 = 1 then goOn (ncWrite s n line (lineBytes zeroLine)) n
    else
      let s := if (s.l2 (n / 8) line).st = 0 then s else storeErr s n line err
      match acquireZero s n line with
      | (false, s) => (.wait, s)
      | (true, s) => goOn (l2Write s n line (lineBytes zeroLine)) n)

/-- DZERO (R372). -/
def execDzero (core : Nat) (gd ga gb : BitVec 5) (err : MemErr) (s : State) : Out :=
  let half := encR 0x09 gd.toNat ga.toNat gb.toNat 0x00C
  .next (issue s core half (dzeroBody core half ga.toNat gb.toNat err))

end Sys2Proof.Machine
end

