-- ==== Sys2Proof/Machine/Dispatch.lean ====
section
/-! DEFINITION. The effect of every command: one arm for each constructor, each one direct call of its meaning. -/

namespace Sys2Proof.Machine
open Sys2Proof

/-- The effect of a command on everything but the queue. -/
def exec (i : Instr) (s : State) : Host.Outcome State Fault Refusal :=
  match i with
  | .registerWrite t init vf page off size value => Sys2Proof.Machine.execRegisterWrite t init vf page off size value s
  | .clearOnRead t init vf page off size => Sys2Proof.Machine.execClearOnRead t init vf page off size s
  | .accessCrossingTimeout t acc => Sys2Proof.Machine.execAccessCrossingTimeout t acc s
  | .stalledAccessResume t acc => Sys2Proof.Machine.execStalledAccessResume t acc s
  | .voteScrub t page word up0 up1 up2 written => Sys2Proof.Machine.execVoteScrub t page word up0 up1 up2 written s
  | .inkwellWindowWrite t init ferrule addr value => Sys2Proof.Machine.execInkwellWindowWrite t init ferrule addr value s
  | .inkwellWindowRead t init ferrule addr ecc => Sys2Proof.Machine.execInkwellWindowRead t init ferrule addr ecc s
  | .timeReplicaRealign t replica => Sys2Proof.Machine.execTimeReplicaRealign t replica s
  | .stagedWrite t init page off value => Sys2Proof.Machine.execStagedWrite t init page off value s
  | .csnSeal t init digest => Sys2Proof.Machine.execCsnSeal t init digest s
  | .csnSign t init digest => Sys2Proof.Machine.execCsnSign t init digest s
  | .csnAbort t init => Sys2Proof.Machine.execCsnAbort t init s
  | .countersignWindowExpire t => Sys2Proof.Machine.execCountersignWindowExpire t s
  | .commitInstant t => Sys2Proof.Machine.execCommitInstant t s
  | .commitNoBoundary t => Sys2Proof.Machine.execCommitNoBoundary t s
  | .timSet t init value => Sys2Proof.Machine.execTimSet t init value s
  | .timSourceConfigWrite t init off value => Sys2Proof.Machine.execTimSourceConfigWrite t init off value s
  | .ptpSyncRx t port stamp msg => Sys2Proof.Machine.execPtpSyncRx t port stamp msg s
  | .ptpFollowUpRx t port seq origin domain corr => Sys2Proof.Machine.execPtpFollowUpRx t port seq origin domain corr s
  | .ptpAnnounceRx t port msg => Sys2Proof.Machine.execPtpAnnounceRx t port msg s
  | .ptpQualTimeout t src announce => Sys2Proof.Machine.execPtpQualTimeout t src announce s
  | .irigFrameRx t frame => Sys2Proof.Machine.execIrigFrameRx t frame s
  | .irigFrameMissing t => Sys2Proof.Machine.execIrigFrameMissing t s
  | .ppsEdge t falling => Sys2Proof.Machine.execPpsEdge t falling s
  | .ppsEdgeMissing t => Sys2Proof.Machine.execPpsEdgeMissing t s
  | .f10mStatusChange t ok => Sys2Proof.Machine.execF10mStatusChange t ok s
  | .sourceHoldoffExpire t src => Sys2Proof.Machine.execSourceHoldoffExpire t src s
  | .slewComplete t => Sys2Proof.Machine.execSlewComplete t s
  | .holdoverLimitExceeded t => Sys2Proof.Machine.execHoldoverLimitExceeded t s
  | .leapSecondApply t => Sys2Proof.Machine.execLeapSecondApply t s
  | .ptpMasterSyncTx t lane => Sys2Proof.Machine.execPtpMasterSyncTx t lane s
  | .ptpMasterAnnounceTx t lane => Sys2Proof.Machine.execPtpMasterAnnounceTx t lane s
  | .ptpPdelayReqRx t lane seq stamp => Sys2Proof.Machine.execPtpPdelayReqRx t lane seq stamp s
  | .pdelayMeasureTx t lane => Sys2Proof.Machine.execPdelayMeasureTx t lane s
  | .ptpPdelayRespRx t lane seq t2 t3 t4 => Sys2Proof.Machine.execPtpPdelayRespRx t lane seq t2 t3 t4 s
  | .laneFrameRx t lane frame => Sys2Proof.Machine.execLaneFrameRx t lane frame s
  | .uplinkFrameRx t port frame => Sys2Proof.Machine.execUplinkFrameRx t port frame s
  | .dupEntryExpire t pair smac seq => Sys2Proof.Machine.execDupEntryExpire t pair smac seq s
  | .laneConfigWrite t init page block value => Sys2Proof.Machine.execLaneConfigWrite t init page block value s
  | .laneTxIdleAfterFrame t lane => Sys2Proof.Machine.execLaneTxIdleAfterFrame t lane s
  | .pairConfigWrite t init page value => Sys2Proof.Machine.execPairConfigWrite t init page value s
  | .laneSignalLoss t lane => Sys2Proof.Machine.execLaneSignalLoss t lane s
  | .laneSignalDetect t lane => Sys2Proof.Machine.execLaneSignalDetect t lane s
  | .lanePcsSync t lane => Sys2Proof.Machine.execLanePcsSync t lane s
  | .lanePcsSyncLoss t lane => Sys2Proof.Machine.execLanePcsSyncLoss t lane s
  | .laneAutonegComplete t lane fullDuplex remoteFault => Sys2Proof.Machine.execLaneAutonegComplete t lane fullDuplex remoteFault s
  | .laneEyeReport t lane eyeh eyew loss => Sys2Proof.Machine.execLaneEyeReport t lane eyeh eyew loss s
  | .partnerRelearn t init lane => Sys2Proof.Machine.execPartnerRelearn t init lane s
  | .laneFrameTx t lane => Sys2Proof.Machine.execLaneFrameTx t lane s
  | .cellCapabilityTx t lane => Sys2Proof.Machine.execCellCapabilityTx t lane s
  | .cellCapabilityRx t lane rx => Sys2Proof.Machine.execCellCapabilityRx t lane rx s
  | .cellEchoRequestTx t lane => Sys2Proof.Machine.execCellEchoRequestTx t lane s
  | .cellEchoReplyRx t lane rx => Sys2Proof.Machine.execCellEchoReplyRx t lane rx s
  | .cellExchangeTimeout t lane => Sys2Proof.Machine.execCellExchangeTimeout t lane s
  | .cellEchoTimeout t lane => Sys2Proof.Machine.execCellEchoTimeout t lane s
  | .cellExchangeRetry t lane => Sys2Proof.Machine.execCellExchangeRetry t lane s
  | .cellLinkRelearn t init lane => Sys2Proof.Machine.execCellLinkRelearn t init lane s
  | .cellCommandLaunch t lane stroke => Sys2Proof.Machine.execCellCommandLaunch t lane stroke s
  | .cellSignoffLaunch t lane stroke => Sys2Proof.Machine.execCellSignoffLaunch t lane stroke s
  | .cellStatusRx t lane rx => Sys2Proof.Machine.execCellStatusRx t lane rx s
  | .cellRttUpdate t lane => Sys2Proof.Machine.execCellRttUpdate t lane s
  | .subCreate t init ferrule seq handle => Sys2Proof.Machine.execSubCreate t init ferrule seq handle s
  | .subDestroy t init ferrule seq handle => Sys2Proof.Machine.execSubDestroy t init ferrule seq handle s
  | .subSetpol t init ferrule seq handle => Sys2Proof.Machine.execSubSetpol t init ferrule seq handle s
  | .domainParamWrite t init dom off value => Sys2Proof.Machine.execDomainParamWrite t init dom off value s
  | .domainStart t init dom => Sys2Proof.Machine.execDomainStart t init dom s
  | .domainStop t init dom => Sys2Proof.Machine.execDomainStop t init dom s
  | .strokeOpen t dom => Sys2Proof.Machine.execStrokeOpen t dom s
  | .strokeCutoff t sub => Sys2Proof.Machine.execStrokeCutoff t sub s
  | .gooseTalExpire t sub => Sys2Proof.Machine.execGooseTalExpire t sub s
  | .subDeadline t sub stroke => Sys2Proof.Machine.execSubDeadline t sub stroke s
  | .sampleMessageArrive t ferrule sub stroke => Sys2Proof.Machine.execSampleMessageArrive t ferrule sub stroke s
  | .strokeClose t ferrule dom => Sys2Proof.Machine.execStrokeClose t ferrule dom s
  | .nibRunStart t ferrule nib => Sys2Proof.Machine.execNibRunStart t ferrule nib s
  | .ledgerLrdWrite t init ferrule value => Sys2Proof.Machine.execLedgerLrdWrite t init ferrule value s
  | .nibBudgetOverrun t ferrule nib => Sys2Proof.Machine.execNibBudgetOverrun t ferrule nib s
  | .outputMessageArrive t fn twin point stroke => Sys2Proof.Machine.execOutputMessageArrive t fn twin point stroke s
  | .errorNoticeArrive t fn twin point stroke => Sys2Proof.Machine.execErrorNoticeArrive t fn twin point stroke s
  | .twinCompareDeadline t fn point stroke => Sys2Proof.Machine.execTwinCompareDeadline t fn point stroke s
  | .twinDecisionArrive t fn twin stroke => Sys2Proof.Machine.execTwinDecisionArrive t fn twin stroke s
  | .gatewayLegArrive t fn gateway stroke => Sys2Proof.Machine.execGatewayLegArrive t fn gateway stroke s
  | .egressDeadline t fn point stroke => Sys2Proof.Machine.execEgressDeadline t fn point stroke s
  | .flitParityError t router port slot resentBad => Sys2Proof.Machine.execFlitParityError t router port slot resentBad s
  | .rulerCreate t init seq handle => Sys2Proof.Machine.execRulerCreate t init seq handle s
  | .rulerDestroy t init seq handle => Sys2Proof.Machine.execRulerDestroy t init seq handle s
  | .rulerUpdate t init seq handle => Sys2Proof.Machine.execRulerUpdate t init seq handle s
  | .rulerCkpt t init seq handle => Sys2Proof.Machine.execRulerCkpt t init seq handle s
  | .nibout t init seq handle => Sys2Proof.Machine.execNibout t init seq handle s
  | .nibin t init seq handle => Sys2Proof.Machine.execNibin t init seq handle s
  | .rulerQueuedCommandStart t => Sys2Proof.Machine.execRulerQueuedCommandStart t s
  | .stagingAreaRead t => Sys2Proof.Machine.execStagingAreaRead t s
  | .functionLoadComplete t fn => Sys2Proof.Machine.execFunctionLoadComplete t fn s
  | .rulerHandleNibFault t => Sys2Proof.Machine.execRulerHandleNibFault t s
  | .rulerHandleTwinOutcome t => Sys2Proof.Machine.execRulerHandleTwinOutcome t s
  | .rulerHandleSliceCommit t => Sys2Proof.Machine.execRulerHandleSliceCommit t s
  | .shadowMessageArrive t fn twin point stroke => Sys2Proof.Machine.execShadowMessageArrive t fn twin point stroke s
  | .rulerHandleShadowOutcome t => Sys2Proof.Machine.execRulerHandleShadowOutcome t s
  | .pubCreate t init ferrule seq handle => Sys2Proof.Machine.execPubCreate t init ferrule seq handle s
  | .pubDestroy t init ferrule seq handle => Sys2Proof.Machine.execPubDestroy t init ferrule seq handle s
  | .gooseRetransmit t pub => Sys2Proof.Machine.execGooseRetransmit t pub s
  | .tripSchedArm t init line value => Sys2Proof.Machine.execTripSchedArm t init line value s
  | .tripSchedCancel t init line => Sys2Proof.Machine.execTripSchedCancel t init line s
  | .scheduledEdgeFire t line => Sys2Proof.Machine.execScheduledEdgeFire t line s
  | .binaryInputChange t input ball => Sys2Proof.Machine.execBinaryInputChange t input ball s
  | .binaryInputAccept t input => Sys2Proof.Machine.execBinaryInputAccept t input s
  | .biEventPop t init input => Sys2Proof.Machine.execBiEventPop t init input s
  | .scribeRunWrite t init scribe run => Sys2Proof.Machine.execScribeRunWrite t init scribe run s
  | .scribeInterruptEntry t scribe => Sys2Proof.Machine.execScribeInterruptEntry t scribe s
  | .walkTimeout t scribe => Sys2Proof.Machine.execWalkTimeout t scribe s
  | .wfiWake t scribe => Sys2Proof.Machine.execWfiWake t scribe s
  | .scribeTimerExpire t scribe => Sys2Proof.Machine.execScribeTimerExpire t scribe s
  | .iackRead t scribe gd => Sys2Proof.Machine.execIackRead t scribe gd s
  | .ieoiWrite t scribe value => Sys2Proof.Machine.execIeoiWrite t scribe value s
  | .swiWrite t scribe value => Sys2Proof.Machine.execSwiWrite t scribe value s
  | .icuSourceWrite t init source value => Sys2Proof.Machine.execIcuSourceWrite t init source value s
  | .add core gd ga gb => Sys2Proof.Machine.execAdd core gd ga gb s
  | .sub core gd ga gb => Sys2Proof.Machine.execSub core gd ga gb s
  | .and core gd ga gb => Sys2Proof.Machine.execAnd core gd ga gb s
  | .or core gd ga gb => Sys2Proof.Machine.execOr core gd ga gb s
  | .xor core gd ga gb => Sys2Proof.Machine.execXor core gd ga gb s
  | .andn core gd ga gb => Sys2Proof.Machine.execAndn core gd ga gb s
  | .sll core gd ga gb => Sys2Proof.Machine.execSll core gd ga gb s
  | .srl core gd ga gb => Sys2Proof.Machine.execSrl core gd ga gb s
  | .sra core gd ga gb => Sys2Proof.Machine.execSra core gd ga gb s
  | .ror core gd ga gb => Sys2Proof.Machine.execRor core gd ga gb s
  | .slt core gd ga gb => Sys2Proof.Machine.execSlt core gd ga gb s
  | .sltu core gd ga gb => Sys2Proof.Machine.execSltu core gd ga gb s
  | .min core gd ga gb => Sys2Proof.Machine.execMin core gd ga gb s
  | .max core gd ga gb => Sys2Proof.Machine.execMax core gd ga gb s
  | .minu core gd ga gb => Sys2Proof.Machine.execMinu core gd ga gb s
  | .maxu core gd ga gb => Sys2Proof.Machine.execMaxu core gd ga gb s
  | .clz core gd ga gb => Sys2Proof.Machine.execClz core gd ga gb s
  | .ctz core gd ga gb => Sys2Proof.Machine.execCtz core gd ga gb s
  | .popc core gd ga gb => Sys2Proof.Machine.execPopc core gd ga gb s
  | .sxb core gd ga gb => Sys2Proof.Machine.execSxb core gd ga gb s
  | .sxq core gd ga gb => Sys2Proof.Machine.execSxq core gd ga gb s
  | .sxh core gd ga gb => Sys2Proof.Machine.execSxh core gd ga gb s
  | .zxb core gd ga gb => Sys2Proof.Machine.execZxb core gd ga gb s
  | .zxq core gd ga gb => Sys2Proof.Machine.execZxq core gd ga gb s
  | .zxh core gd ga gb => Sys2Proof.Machine.execZxh core gd ga gb s
  | .mul core gd ga gb => Sys2Proof.Machine.execMul core gd ga gb s
  | .mulh core gd ga gb => Sys2Proof.Machine.execMulh core gd ga gb s
  | .mulhu core gd ga gb => Sys2Proof.Machine.execMulhu core gd ga gb s
  | .div core gd ga gb => Sys2Proof.Machine.execDiv core gd ga gb s
  | .divu core gd ga gb => Sys2Proof.Machine.execDivu core gd ga gb s
  | .rem core gd ga gb => Sys2Proof.Machine.execRem core gd ga gb s
  | .remu core gd ga gb => Sys2Proof.Machine.execRemu core gd ga gb s
  | .sel core gd ga gb fn => Sys2Proof.Machine.execSel core gd ga gb fn s
  | .addi core gd ga imm => Sys2Proof.Machine.execAddi core gd ga imm s
  | .andi core gd ga imm => Sys2Proof.Machine.execAndi core gd ga imm s
  | .ori core gd ga imm => Sys2Proof.Machine.execOri core gd ga imm s
  | .xori core gd ga imm => Sys2Proof.Machine.execXori core gd ga imm s
  | .slti core gd ga imm => Sys2Proof.Machine.execSlti core gd ga imm s
  | .sltiu core gd ga imm => Sys2Proof.Machine.execSltiu core gd ga imm s
  | .slli core gd ga imm => Sys2Proof.Machine.execSlli core gd ga imm s
  | .srli core gd ga imm => Sys2Proof.Machine.execSrli core gd ga imm s
  | .srai core gd ga imm => Sys2Proof.Machine.execSrai core gd ga imm s
  | .rori core gd ga imm => Sys2Proof.Machine.execRori core gd ga imm s
  | .shin core gd ga imm => Sys2Proof.Machine.execShin core gd ga imm s
  | .addpc core gd ga imm => Sys2Proof.Machine.execAddpc core gd ga imm s
  | .lb core gd ga mode imm err => Sys2Proof.Machine.execLb core gd ga mode imm err s
  | .lbu core gd ga mode imm err => Sys2Proof.Machine.execLbu core gd ga mode imm err s
  | .lq core gd ga mode imm err => Sys2Proof.Machine.execLq core gd ga mode imm err s
  | .lqu core gd ga mode imm err => Sys2Proof.Machine.execLqu core gd ga mode imm err s
  | .lh core gd ga mode imm err => Sys2Proof.Machine.execLh core gd ga mode imm err s
  | .lhu core gd ga mode imm err => Sys2Proof.Machine.execLhu core gd ga mode imm err s
  | .lw core gd ga mode imm err => Sys2Proof.Machine.execLw core gd ga mode imm err s
  | .sb core gd ga mode imm err => Sys2Proof.Machine.execSb core gd ga mode imm err s
  | .sq core gd ga mode imm err => Sys2Proof.Machine.execSq core gd ga mode imm err s
  | .sh core gd ga mode imm err => Sys2Proof.Machine.execSh core gd ga mode imm err s
  | .sw core gd ga mode imm err => Sys2Proof.Machine.execSw core gd ga mode imm err s
  | .beq core ga gb disp => Sys2Proof.Machine.execBeq core ga gb disp s
  | .bne core ga gb disp => Sys2Proof.Machine.execBne core ga gb disp s
  | .blt core ga gb disp => Sys2Proof.Machine.execBlt core ga gb disp s
  | .bge core ga gb disp => Sys2Proof.Machine.execBge core ga gb disp s
  | .bltu core ga gb disp => Sys2Proof.Machine.execBltu core ga gb disp s
  | .bgeu core ga gb disp => Sys2Proof.Machine.execBgeu core ga gb disp s
  | .jmp core disp => Sys2Proof.Machine.execJmp core disp s
  | .call core disp => Sys2Proof.Machine.execCall core disp s
  | .jalr core gd ga gb fn => Sys2Proof.Machine.execJalr core gd ga gb fn s
  | .fadd core gd ga gb fmt rnd gc => Sys2Proof.Machine.execFadd core gd ga gb fmt rnd gc s
  | .fsub core gd ga gb fmt rnd gc => Sys2Proof.Machine.execFsub core gd ga gb fmt rnd gc s
  | .fmul core gd ga gb fmt rnd gc => Sys2Proof.Machine.execFmul core gd ga gb fmt rnd gc s
  | .fdiv core gd ga gb fmt rnd gc => Sys2Proof.Machine.execFdiv core gd ga gb fmt rnd gc s
  | .fsqrt core gd ga gb fmt rnd gc => Sys2Proof.Machine.execFsqrt core gd ga gb fmt rnd gc s
  | .fmin core gd ga gb fmt rnd gc => Sys2Proof.Machine.execFmin core gd ga gb fmt rnd gc s
  | .fmax core gd ga gb fmt rnd gc => Sys2Proof.Machine.execFmax core gd ga gb fmt rnd gc s
  | .fmadd core gd ga gb fmt rnd gc => Sys2Proof.Machine.execFmadd core gd ga gb fmt rnd gc s
  | .fmsub core gd ga gb fmt rnd gc => Sys2Proof.Machine.execFmsub core gd ga gb fmt rnd gc s
  | .fnmsub core gd ga gb fmt rnd gc => Sys2Proof.Machine.execFnmsub core gd ga gb fmt rnd gc s
  | .feq core gd ga gb fmt rnd gc => Sys2Proof.Machine.execFeq core gd ga gb fmt rnd gc s
  | .flt core gd ga gb fmt rnd gc => Sys2Proof.Machine.execFlt core gd ga gb fmt rnd gc s
  | .fle core gd ga gb fmt rnd gc => Sys2Proof.Machine.execFle core gd ga gb fmt rnd gc s
  | .fclass core gd ga gb fmt rnd gc => Sys2Proof.Machine.execFclass core gd ga gb fmt rnd gc s
  | .fcvt core gd ga gb fmt rnd gc => Sys2Proof.Machine.execFcvt core gd ga gb fmt rnd gc s
  | .fcvti core gd ga gb fmt rnd gc => Sys2Proof.Machine.execFcvti core gd ga gb fmt rnd gc s
  | .fcvtu core gd ga gb fmt rnd gc => Sys2Proof.Machine.execFcvtu core gd ga gb fmt rnd gc s
  | .icvtf core gd ga gb fmt rnd gc => Sys2Proof.Machine.execIcvtf core gd ga gb fmt rnd gc s
  | .ucvtf core gd ga gb fmt rnd gc => Sys2Proof.Machine.execUcvtf core gd ga gb fmt rnd gc s
  | .fscopy core gd ga gb fmt rnd gc => Sys2Proof.Machine.execFscopy core gd ga gb fmt rnd gc s
  | .fsncopy core gd ga gb fmt rnd gc => Sys2Proof.Machine.execFsncopy core gd ga gb fmt rnd gc s
  | .fsxor core gd ga gb fmt rnd gc => Sys2Proof.Machine.execFsxor core gd ga gb fmt rnd gc s
  | .lr core gd ga gb err => Sys2Proof.Machine.execLr core gd ga gb err s
  | .sc core gd ga gb err => Sys2Proof.Machine.execSc core gd ga gb err s
  | .ounpack core gd ga gb fn => Sys2Proof.Machine.execOunpack core gd ga gb fn s
  | .opack core gd ga gb fn => Sys2Proof.Machine.execOpack core gd ga gb fn s
  | .crc core gd ga gb fn => Sys2Proof.Machine.execCrc core gd ga gb fn s
  | .bmove core gd ga gb err => Sys2Proof.Machine.execBmove core gd ga gb err s
  | .bfill core gd ga gb err => Sys2Proof.Machine.execBfill core gd ga gb err s
  | .bscan core gd ga gb fn err => Sys2Proof.Machine.execBscan core gd ga gb fn err s
  | .syscall core gd ga gb sub => Sys2Proof.Machine.execSyscall core gd ga gb sub s
  | .eret core gd ga gb => Sys2Proof.Machine.execEret core gd ga gb s
  | .fence core gd ga gb sub => Sys2Proof.Machine.execFence core gd ga gb sub s
  | .ifence core gd ga gb => Sys2Proof.Machine.execIfence core gd ga gb s
  | .time t core gd ga gb => Sys2Proof.Machine.execTime t core gd ga gb s
  | .mfsr core gd ga gb sub => Sys2Proof.Machine.execMfsr core gd ga gb sub s
  | .mtsr core gd ga gb sub => Sys2Proof.Machine.execMtsr core gd ga gb sub s
  | .wfi core gd ga gb => Sys2Proof.Machine.execWfi core gd ga gb s
  | .brk core gd ga gb => Sys2Proof.Machine.execBrk core gd ga gb s
  | .tlbi core gd ga gb sub => Sys2Proof.Machine.execTlbi core gd ga gb sub s
  | .dclean core gd ga gb err => Sys2Proof.Machine.execDclean core gd ga gb err s
  | .dflush core gd ga gb err => Sys2Proof.Machine.execDflush core gd ga gb err s
  | .dzero core gd ga gb err => Sys2Proof.Machine.execDzero core gd ga gb err s
  | .nibNop fer nib cond operand ext err => Sys2Proof.Machine.execNibNop fer nib cond operand ext err s
  | .nibEnd fer nib cond operand ext err => Sys2Proof.Machine.execNibEnd fer nib cond operand ext err s
  | .nibRel fer nib cond operand ext err => Sys2Proof.Machine.execNibRel fer nib cond operand ext err s
  | .nibRet fer nib cond operand ext err => Sys2Proof.Machine.execNibRet fer nib cond operand ext err s
  | .nibLexit fer nib cond operand ext err => Sys2Proof.Machine.execNibLexit fer nib cond operand ext err s
  | .nibClrv fer nib cond operand ext err => Sys2Proof.Machine.execNibClrv fer nib cond operand ext err s
  | .nibSetf fer nib cond operand ext err => Sys2Proof.Machine.execNibSetf fer nib cond operand ext err s
  | .nibClrf fer nib cond operand ext err => Sys2Proof.Machine.execNibClrf fer nib cond operand ext err s
  | .nibNotf fer nib cond operand ext err => Sys2Proof.Machine.execNibNotf fer nib cond operand ext err s
  | .nibClra0 fer nib cond operand ext err => Sys2Proof.Machine.execNibClra0 fer nib cond operand ext err s
  | .nibClra1 fer nib cond operand ext err => Sys2Proof.Machine.execNibClra1 fer nib cond operand ext err s
  | .nibAddaa fer nib cond operand ext err => Sys2Proof.Machine.execNibAddaa fer nib cond operand ext err s
  | .nibSubaa fer nib cond operand ext err => Sys2Proof.Machine.execNibSubaa fer nib cond operand ext err s
  | .nibSwpa fer nib cond operand ext err => Sys2Proof.Machine.execNibSwpa fer nib cond operand ext err s
  | .nibBr fer nib cond operand ext err => Sys2Proof.Machine.execNibBr fer nib cond operand ext err s
  | .nibCall fer nib cond operand ext err => Sys2Proof.Machine.execNibCall fer nib cond operand ext err s
  | .nibLoop fer nib cond operand ext err => Sys2Proof.Machine.execNibLoop fer nib cond operand ext err s
  | .nibLdi fer nib cond operand ext err => Sys2Proof.Machine.execNibLdi fer nib cond operand ext err s
  | .nibAddi fer nib cond operand ext err => Sys2Proof.Machine.execNibAddi fer nib cond operand ext err s
  | .nibMov fer nib cond operand ext err => Sys2Proof.Machine.execNibMov fer nib cond operand ext err s
  | .nibAdd fer nib cond operand ext err => Sys2Proof.Machine.execNibAdd fer nib cond operand ext err s
  | .nibSub fer nib cond operand ext err => Sys2Proof.Machine.execNibSub fer nib cond operand ext err s
  | .nibAnd fer nib cond operand ext err => Sys2Proof.Machine.execNibAnd fer nib cond operand ext err s
  | .nibOr fer nib cond operand ext err => Sys2Proof.Machine.execNibOr fer nib cond operand ext err s
  | .nibXor fer nib cond operand ext err => Sys2Proof.Machine.execNibXor fer nib cond operand ext err s
  | .nibCeq fer nib cond operand ext err => Sys2Proof.Machine.execNibCeq fer nib cond operand ext err s
  | .nibClt fer nib cond operand ext err => Sys2Proof.Machine.execNibClt fer nib cond operand ext err s
  | .nibCltu fer nib cond operand ext err => Sys2Proof.Machine.execNibCltu fer nib cond operand ext err s
  | .nibShf fer nib cond operand ext err => Sys2Proof.Machine.execNibShf fer nib cond operand ext err s
  | .nibUna fer nib cond operand ext err => Sys2Proof.Machine.execNibUna fer nib cond operand ext err s
  | .nibLdx fer nib cond operand ext err => Sys2Proof.Machine.execNibLdx fer nib cond operand ext err s
  | .nibLdy fer nib cond operand ext err => Sys2Proof.Machine.execNibLdy fer nib cond operand ext err s
  | .nibStx fer nib cond operand ext err => Sys2Proof.Machine.execNibStx fer nib cond operand ext err s
  | .nibSty fer nib cond operand ext err => Sys2Proof.Machine.execNibSty fer nib cond operand ext err s
  | .nibStk fer nib cond operand ext err => Sys2Proof.Machine.execNibStk fer nib cond operand ext err s
  | .nibMac fer nib cond operand ext err => Sys2Proof.Machine.execNibMac fer nib cond operand ext err s
  | .nibMacd fer nib cond operand ext err => Sys2Proof.Machine.execNibMacd fer nib cond operand ext err s
  | .nibAcc fer nib cond operand ext err => Sys2Proof.Machine.execNibAcc fer nib cond operand ext err s
  | .nibExt fer nib cond operand ext err => Sys2Proof.Machine.execNibExt fer nib cond operand ext err s
  | .nibAsh fer nib cond operand ext err => Sys2Proof.Machine.execNibAsh fer nib cond operand ext err s
  | .nibIn fer nib cond operand ext err => Sys2Proof.Machine.execNibIn fer nib cond operand ext err s
  | .nibOut fer nib cond operand ext err => Sys2Proof.Machine.execNibOut fer nib cond operand ext err s
  | .homeRds t line src => Sys2Proof.Machine.execHomeRds t line src s
  | .homeRdx t line src => Sys2Proof.Machine.execHomeRdx t line src s
  | .homeUpg t line src => Sys2Proof.Machine.execHomeUpg t line src s
  | .homeZx t line src => Sys2Proof.Machine.execHomeZx t line src s
  | .homeWb t line src => Sys2Proof.Machine.execHomeWb t line src s
  | .homeNcrd t line src => Sys2Proof.Machine.execHomeNcrd t line src s
  | .homeNcwr t line src => Sys2Proof.Machine.execHomeNcwr t line src s
  | .snoopSnps t desk line => Sys2Proof.Machine.execSnoopSnps t desk line s
  | .snoopSnpx t desk line => Sys2Proof.Machine.execSnoopSnpx t desk line s
  | .snoopSnpinv t desk line => Sys2Proof.Machine.execSnoopSnpinv t desk line s
  | .snoopSnprd t desk line => Sys2Proof.Machine.execSnoopSnprd t desk line s
  | .forwardedSnoop t desk line => Sys2Proof.Machine.execForwardedSnoop t desk line s
  | .grantDeliver t desk line => Sys2Proof.Machine.execGrantDeliver t desk line s
  | .wbAck t desk line => Sys2Proof.Machine.execWbAck t desk line s
  | .snoopTimeout t desk line => Sys2Proof.Machine.execSnoopTimeout t desk line s
  | .reclaimMessage t line => Sys2Proof.Machine.execReclaimMessage t line s
  | .reclaimWalkComplete t desk => Sys2Proof.Machine.execReclaimWalkComplete t desk s
  | .dmcConfigWrite t init ch value => Sys2Proof.Machine.execDmcConfigWrite t init ch value s
  | .dmcRelease t init ch seq => Sys2Proof.Machine.execDmcRelease t init ch seq s
  | .dmcReset t init ch seq => Sys2Proof.Machine.execDmcReset t init ch seq s
  | .dmcTrain t init ch seq => Sys2Proof.Machine.execDmcTrain t init ch seq s
  | .dmcEnable t init ch seq => Sys2Proof.Machine.execDmcEnable t init ch seq s
  | .dramReadDecode t ch line errs => Sys2Proof.Machine.execDramReadDecode t ch line errs s
  | .dramAlertParity t ch line => Sys2Proof.Machine.execDramAlertParity t ch line s
  | .dramWriteCrcError t ch line => Sys2Proof.Machine.execDramWriteCrcError t ch line s
  | .dramPatrolRead t ch errs => Sys2Proof.Machine.execDramPatrolRead t ch errs s
  | .dramRefresh t ch rank bank => Sys2Proof.Machine.execDramRefresh t ch rank bank s
  | .dramMr4Poll t ch rank rate => Sys2Proof.Machine.execDramMr4Poll t ch rank rate s
  | .frozenWaitTimeout t ch scribe => Sys2Proof.Machine.execFrozenWaitTimeout t ch scribe s
  | .phyDriftTrack t ch correction => Sys2Proof.Machine.execPhyDriftTrack t ch correction s
  | .dmaCreate t init seq handle => Sys2Proof.Machine.execDmaCreate t init seq handle s
  | .dmaDestroy t init seq handle => Sys2Proof.Machine.execDmaDestroy t init seq handle s
  | .dmaStart t init seq handle => Sys2Proof.Machine.execDmaStart t init seq handle s
  | .dmaStop t init seq handle => Sys2Proof.Machine.execDmaStop t init seq handle s
  | .dmaBurst t chan => Sys2Proof.Machine.execDmaBurst t chan s
  | .dmaBurstComplete t chan => Sys2Proof.Machine.execDmaBurstComplete t chan s
  | .dmaTargetTimeout t chan => Sys2Proof.Machine.execDmaTargetTimeout t chan s
  | .tenantActivate t init seq => Sys2Proof.Machine.execTenantActivate t init seq s
  | .qpcreate t init seq => Sys2Proof.Machine.execQpcreate t init seq s
  | .qpdestroy t init seq handle => Sys2Proof.Machine.execQpdestroy t init seq handle s
  | .tenantFreeze t init seq => Sys2Proof.Machine.execTenantFreeze t init seq s
  | .tenantExport t init seq => Sys2Proof.Machine.execTenantExport t init seq s
  | .tenantImport t init seq => Sys2Proof.Machine.execTenantImport t init seq s
  | .tenantResume t init seq => Sys2Proof.Machine.execTenantResume t init seq s
  | .treset t init seq => Sys2Proof.Machine.execTreset t init seq s
  | .tenantFreezeTakeEffect t tenant dom => Sys2Proof.Machine.execTenantFreezeTakeEffect t tenant dom s
  | .tenantFreezeComplete t tenant => Sys2Proof.Machine.execTenantFreezeComplete t tenant s
  | .tenantResumeTakeEffect t tenant => Sys2Proof.Machine.execTenantResumeTakeEffect t tenant s
  | .tenantResetComplete t tenant => Sys2Proof.Machine.execTenantResetComplete t tenant s
  | .qpRxDoorbell t init vf qp tail => Sys2Proof.Machine.execQpRxDoorbell t init vf qp tail s
  | .qpTxDoorbell t init vf qp tail => Sys2Proof.Machine.execQpTxDoorbell t init vf qp tail s
  | .qpTxFrame t qp => Sys2Proof.Machine.execQpTxFrame t qp s
  | .pcieInboundRequest t vf req => Sys2Proof.Machine.execPcieInboundRequest t vf req s
  | .pcieLinkStateChange t ltssm width gen up => Sys2Proof.Machine.execPcieLinkStateChange t ltssm width gen up s
  | .mcInterruptEntry t => Sys2Proof.Machine.execMcInterruptEntry t s
  | .flashLineFill t => Sys2Proof.Machine.execFlashLineFill t s
  | .wdgKick t init scribe => Sys2Proof.Machine.execWdgKick t init scribe s
  | .wdgPerWrite t init scribe value => Sys2Proof.Machine.execWdgPerWrite t init scribe value s
  | .scribeWatchdogExpire t scribe => Sys2Proof.Machine.execScribeWatchdogExpire t scribe s
  | .mcMkick t init => Sys2Proof.Machine.execMcMkick t init s
  | .mcMperWrite t init value => Sys2Proof.Machine.execMcMperWrite t init value s
  | .mcMrst t init fails => Sys2Proof.Machine.execMcMrst t init fails s
  | .mcWatchdogExpire t fails => Sys2Proof.Machine.execMcWatchdogExpire t fails s
  | .healthTick t => Sys2Proof.Machine.execHealthTick t s
  | .mbIpost t init => Sys2Proof.Machine.execMbIpost t init s
  | .mbIdone t init => Sys2Proof.Machine.execMbIdone t init s
  | .mbOpost t init => Sys2Proof.Machine.execMbOpost t init s
  | .mbOdone t init => Sys2Proof.Machine.execMbOdone t init s
  | .deskpl t init seq => Sys2Proof.Machine.execDeskpl t init seq s
  | .deskst t init seq => Sys2Proof.Machine.execDeskst t init seq s
  | .ferst t init seq => Sys2Proof.Machine.execFerst t init seq s
  | .domst t init seq => Sys2Proof.Machine.execDomst t init seq s
  | .devst t init seq => Sys2Proof.Machine.execDevst t init seq s
  | .pwrDead t init seq => Sys2Proof.Machine.execPwrDead t init seq s
  | .breset t init seq => Sys2Proof.Machine.execBreset t init seq s
  | .pwrBlockGrant t block => Sys2Proof.Machine.execPwrBlockGrant t block s
  | .pwrRequestTimeout t block => Sys2Proof.Machine.execPwrRequestTimeout t block s
  | .deskLevelChangeComplete t ok rail => Sys2Proof.Machine.execDeskLevelChangeComplete t ok rail s
  | .deskNapExit t desk => Sys2Proof.Machine.execDeskNapExit t desk s
  | .ferrulePowerUpComplete t ferrule => Sys2Proof.Machine.execFerrulePowerUpComplete t ferrule s
  | .thermalSample t sensor temp => Sys2Proof.Machine.execThermalSample t sensor temp s
  | .railLow t rail mv => Sys2Proof.Machine.execRailLow t rail mv s
  | .ageingMonitorSample t monitor degr => Sys2Proof.Machine.execAgeingMonitorSample t monitor degr s
  | .fulltest t init seq => Sys2Proof.Machine.execFulltest t init seq s
  | .fuse t init seq => Sys2Proof.Machine.execFuse t init seq s
  | .seal t init seq => Sys2Proof.Machine.execSeal t init seq s
  | .rollingTestStart t => Sys2Proof.Machine.execRollingTestStart t s
  | .nibTestComplete t pass => Sys2Proof.Machine.execNibTestComplete t pass s
  | .segmentSaveComplete t => Sys2Proof.Machine.execSegmentSaveComplete t s
  | .segmentTestPassComplete t fails repairable => Sys2Proof.Machine.execSegmentTestPassComplete t fails repairable s
  | .segmentRestoreComplete t => Sys2Proof.Machine.execSegmentRestoreComplete t s
  | .vbatRetentionLoss t => Sys2Proof.Machine.execVbatRetentionLoss t s
  | .extest t dr => Sys2Proof.Machine.execExtest t dr s
  | .samplePreload t dr => Sys2Proof.Machine.execSamplePreload t dr s
  | .extestPulse t dr => Sys2Proof.Machine.execExtestPulse t dr s
  | .extestTrain t dr => Sys2Proof.Machine.execExtestTrain t dr s
  | .idcode t => Sys2Proof.Machine.execIdcode t s
  | .bypass t tdi => Sys2Proof.Machine.execBypass t tdi s
  | .scanr t sel => Sys2Proof.Machine.execScanr t sel s
  | .unlockRequest t op => Sys2Proof.Machine.execUnlockRequest t op s
  | .unlockAnswer t sigR sigS pubKey => Sys2Proof.Machine.execUnlockAnswer t sigR sigS pubKey s
  | .unlockRelock t => Sys2Proof.Machine.execUnlockRelock t s
  | .dbgaccRead t addr size => Sys2Proof.Machine.execDbgaccRead t addr size s
  | .dbgaccInspectRead t addr size => Sys2Proof.Machine.execDbgaccInspectRead t addr size s
  | .dbgaccWrite t addr size data => Sys2Proof.Machine.execDbgaccWrite t addr size data s
  | .dbgaccPoll t => Sys2Proof.Machine.execDbgaccPoll t s
  | .dbgaccTimeout t => Sys2Proof.Machine.execDbgaccTimeout t s
  | .debugAttachWrite t init attach => Sys2Proof.Machine.execDebugAttachWrite t init attach s
  | .debugHalt t init mask => Sys2Proof.Machine.execDebugHalt t init mask s
  | .scribeHalted t scribe => Sys2Proof.Machine.execScribeHalted t scribe s
  | .debugResume t init mask => Sys2Proof.Machine.execDebugResume t init mask s
  | .debugStep t init mask => Sys2Proof.Machine.execDebugStep t init mask s
  | .debugRegWrite t init value => Sys2Proof.Machine.execDebugRegWrite t init value s
  | .nibDebugHalt t init value => Sys2Proof.Machine.execNibDebugHalt t init value s
  | .nibDebugRelease t init value => Sys2Proof.Machine.execNibDebugRelease t init value s
  | .blotterPacketWrite t => Sys2Proof.Machine.execBlotterPacketWrite t s
  | .blotterStimWrite t init port value => Sys2Proof.Machine.execBlotterStimWrite t init port value s
  | .blotterClr t init => Sys2Proof.Machine.execBlotterClr t init s
  | .blotterStop t init => Sys2Proof.Machine.execBlotterStop t init s
  | .duplexConfigWrite t init off value => Sys2Proof.Machine.execDuplexConfigWrite t init off value s
  | .duplexStatusRx t stamp version msg => Sys2Proof.Machine.execDuplexStatusRx t stamp version msg s
  | .duplexPeerTimeout t => Sys2Proof.Machine.execDuplexPeerTimeout t s
  | .duplexOutputTx t dom stroke => Sys2Proof.Machine.execDuplexOutputTx t dom stroke s
  | .duplexOutputRx t version msg => Sys2Proof.Machine.execDuplexOutputRx t version msg s
  | .duplexClr t init => Sys2Proof.Machine.execDuplexClr t init s
  | .supplyAonGood t => Sys2Proof.Machine.execSupplyAonGood t s
  | .powerOnReset t => Sys2Proof.Machine.execPowerOnReset t s
  | .powerOnResetEnd t fails => Sys2Proof.Machine.execPowerOnResetEnd t fails s
  | .chipReset t => Sys2Proof.Machine.execChipReset t s
  | .chipResetEnd t fails => Sys2Proof.Machine.execChipResetEnd t fails s
  | .ferruleReset t ferrule => Sys2Proof.Machine.execFerruleReset t ferrule s
  | .ferruleResetEnd t ferrule => Sys2Proof.Machine.execFerruleResetEnd t ferrule s
  | .powerLoss t => Sys2Proof.Machine.execPowerLoss t s
  | .storeBufferDrain t scribe => Sys2Proof.Machine.execStoreBufferDrain t scribe s
  | .trainingStepComplete t ch pass lane sub rank results => Sys2Proof.Machine.execTrainingStepComplete t ch pass lane sub rank results s
  | .fullTestComplete t fails => Sys2Proof.Machine.execFullTestComplete t fails s
  | .pwrTransitionComplete t => Sys2Proof.Machine.execPwrTransitionComplete t s
  | .challengeWaitExpire t => Sys2Proof.Machine.execChallengeWaitExpire t s

end Sys2Proof.Machine
end

