-- ==== Sys2Proof/Machine/Step.lean ====
section
/-! DEFINITION. One step: the command at the front of the queue, performed with the queue's rest.
Decisions: log entries 10 (DESIGN CHOICE), 14 (DEDUCED), 80 (DEDUCED). -/

namespace Sys2Proof.Machine
open Sys2Proof

/-- The command at the front of the queue is taken and performed; on an empty queue the block idles (assumption 10). -/
def step (s : State) : Host.Outcome State Fault Refusal :=
  match s.pending with
  | [] => .next s
  | c :: rest => exec c { s with pending := rest }

/-- The state with the command that a word of the table spells put at the front of the queue; the table gives no row
any bits, so no word spells one (assumption 11). -/
def State.withFetchWord (s : State) (nbits w : Nat) : State :=
  match decodeTableWord nbits w with
  | some c => { s with pending := c :: s.pending }
  | none => s

end Sys2Proof.Machine
end

