-- ==== Sys2Proof/WellFormed.lean ====
section
/-! DEFINITION. Well-formed commands: every operand that names a part of the block names one that exists. A command outside these
ranges is none of the table's; what `exec` answers for it means nothing (assumption 2).
Decisions: log entries 2 (DESIGN CHOICE), 78 (DEDUCED). -/

namespace Sys2Proof

/-- A ferrule (or its trip line). -/
def Wf.ferrule (n : Nat) : Bool := decide (n < 64)
/-- A nib of a ferrule (R246). -/
def Wf.nib (n : Nat) : Bool := decide (n < 18)
/-- A scribe (R361). -/
def Wf.scribe (n : Nat) : Bool := decide (n < 32)
/-- A core: the scribes, and the management controller's as 32. -/
def Wf.core (n : Nat) : Bool := decide (n < 33)
/-- A desk. -/
def Wf.desk (n : Nat) : Bool := decide (n < 4)
/-- A DRAM channel (R471). -/
def Wf.channel (n : Nat) : Bool := decide (n < 4)
/-- A DMA channel (R490). -/
def Wf.dmaChannel (n : Nat) : Bool := decide (n < 32)
/-- A stroke domain (R215). -/
def Wf.domain (n : Nat) : Bool := decide (n < 4)
/-- A lane. -/
def Wf.lane (n : Nat) : Bool := decide (n < 1024)
/-- A function index (R307). -/
def Wf.function (n : Nat) : Bool := decide (n < 4096)
/-- A twin: 0 A, 1 B. -/
def Wf.twin (n : Nat) : Bool := decide (n < 2)
/-- An egress or comparison point: ferrules, and the gateways of the uplinks as 64 to 71. -/
def Wf.point (n : Nat) : Bool := decide (n < 72)
/-- A tenant ID (R507). -/
def Wf.tenant (n : Nat) : Bool := decide (n < 16)
/-- An initiator code (R73). -/
def Wf.initiator (n : Nat) : Bool := decide (n < 36)
/-- A register page (R48). -/
def Wf.page (n : Nat) : Bool := decide (n < 1024)
/-- A word of a page (R48). -/
def Wf.offset (n : Nat) : Bool := decide (n < 512)
/-- A queue pair (R511). -/
def Wf.queuePair (n : Nat) : Bool := decide (n < 64)
/-- A publication: 32 ferrule + slot (R331). -/
def Wf.publication (n : Nat) : Bool := decide (n < 2048)
/-- A subscription: 64 ferrule + slot (R186). -/
def Wf.subscription (n : Nat) : Bool := decide (n < 4096)
/-- A binary input (R357). -/
def Wf.input (n : Nat) : Bool := decide (n < 64)
/-- A subchannel of a DRAM channel. -/
def Wf.subchannel (n : Nat) : Bool := decide (n < 2)
/-- An interrupt source (R421). -/
def Wf.source (n : Nat) : Bool := decide (n < 640)
/-- A router of the mesh (R317). -/
def Wf.router (n : Nat) : Bool := decide (n < 64)
/-- A port of a router (R317). -/
def Wf.routerPort (n : Nat) : Bool := decide (n < 5)
/-- A rank of a DRAM channel. -/
def Wf.rank (n : Nat) : Bool := decide (n < 2)
/-- A port pair: 8 ferrule + pair, and the uplinks' as 512 on (R135). -/
def Wf.pair (n : Nat) : Bool := decide (n < 516)
/-- A virtual function by its number plus 1; 0 for none (R507). -/
def Wf.virtualFunction (n : Nat) : Bool := decide (n < 16)
/-- A port: lanes, uplinks, management ports (R122, R154). -/
def Wf.linkPort (n : Nat) : Bool := decide (n < 1034)
/-- A stimulus port of the blotter (R590). -/
def Wf.stimPort (n : Nat) : Bool := decide (n < 32)
/-- A handle (R70). -/
def Wf.handleWidth (n : Nat) : Bool := decide (n < 2 ^ 36)
/-- A sequence number of a doorbell (R67). -/
def Wf.sequence (n : Nat) : Bool := decide (n < 256)
/-- A replica of the time base (R33). -/
def Wf.replica (n : Nat) : Bool := decide (n < 76)
/-- The gateway of an uplink as a point. -/
def Wf.gateway (n : Nat) : Bool := decide (64 ≤ n) && decide (n < 72)
/-- An access size in bytes. -/
def Wf.size (n : Nat) : Bool := decide (0 < n) && decide (n ≤ 64)
/-- A thermal sensor (R546). -/
def Wf.sensor (n : Nat) : Bool := decide (n < 72)
/-- An ageing monitor (R629). -/
def Wf.monitor (n : Nat) : Bool := decide (n < 8)
/-- A supply rail (R546). -/
def Wf.rail (n : Nat) : Bool := decide (n < 8)
/-- A word of an inkwell (R28). -/
def Wf.inkwellWord (n : Nat) : Bool := decide (n < 2 ^ 18)
/-- A time source under its key (R104). -/
def Wf.timeSource (n : Nat) : Bool := decide (n < 6)

/-- Whether a command is well formed. -/
def wellFormed (i : Instr) : Bool :=
  match i with
  | .registerWrite _ init vf page off size _ | .clearOnRead _ init vf page off size => Wf.initiator init && Wf.virtualFunction vf && Wf.page page && Wf.offset off && Wf.size size
  | .accessCrossingTimeout _ _ | .stalledAccessResume _ _ | .countersignWindowExpire _ | .commitInstant _ | .commitNoBoundary _ 
  | .irigFrameRx _ _ | .irigFrameMissing _ | .ppsEdge _ _ | .ppsEdgeMissing _ | .f10mStatusChange _ _ | .slewComplete _ 
  | .holdoverLimitExceeded _ | .leapSecondApply _ | .rulerQueuedCommandStart _ | .stagingAreaRead _ | .rulerHandleNibFault _ 
  | .rulerHandleTwinOutcome _ | .rulerHandleSliceCommit _ | .rulerHandleShadowOutcome _ | .homeRds _ _ _ | .homeRdx _ _ _ 
  | .homeUpg _ _ _ | .homeZx _ _ _ | .homeWb _ _ _ | .homeNcrd _ _ _ | .homeNcwr _ _ _ | .reclaimMessage _ _ 
  | .pcieLinkStateChange _ _ _ _ _ | .mcInterruptEntry _ | .flashLineFill _ | .mcWatchdogExpire _ _ | .healthTick _ 
  | .pwrBlockGrant _ _ | .pwrRequestTimeout _ _ | .deskLevelChangeComplete _ _ _ | .rollingTestStart _ | .nibTestComplete _ _ 
  | .segmentSaveComplete _ | .segmentTestPassComplete _ _ _ | .segmentRestoreComplete _ | .vbatRetentionLoss _ | .extest _ _ 
  | .samplePreload _ _ | .extestPulse _ _ | .extestTrain _ _ | .idcode _ | .bypass _ _ | .scanr _ _ | .unlockRequest _ _ 
  | .unlockAnswer _ _ _ _ | .unlockRelock _ | .dbgaccRead _ _ _ | .dbgaccInspectRead _ _ _ | .dbgaccWrite _ _ _ _ 
  | .dbgaccPoll _ | .dbgaccTimeout _ | .blotterPacketWrite _ | .duplexStatusRx _ _ _ _ | .duplexPeerTimeout _ 
  | .duplexOutputRx _ _ _ | .supplyAonGood _ | .powerOnReset _ | .powerOnResetEnd _ _ | .chipReset _ | .chipResetEnd _ _ 
  | .powerLoss _ | .fullTestComplete _ _ | .pwrTransitionComplete _ | .challengeWaitExpire _ => true
  | .voteScrub _ page word _ _ _ _ => Wf.page page && Wf.offset word
  | .inkwellWindowWrite _ init ferrule addr _ | .inkwellWindowRead _ init ferrule addr _ => Wf.initiator init && Wf.ferrule ferrule && Wf.inkwellWord addr
  | .timeReplicaRealign _ replica => Wf.replica replica
  | .stagedWrite _ init page off _ => Wf.initiator init && Wf.page page && Wf.offset off
  | .csnSeal _ init _ | .csnSign _ init _ | .csnAbort _ init | .timSet _ init _ | .mcMkick _ init | .mcMperWrite _ init _ 
  | .mcMrst _ init _ | .mbIpost _ init | .mbIdone _ init | .mbOpost _ init | .mbOdone _ init | .debugAttachWrite _ init _ 
  | .debugHalt _ init _ | .debugResume _ init _ | .debugStep _ init _ | .debugRegWrite _ init _ | .nibDebugHalt _ init _ 
  | .nibDebugRelease _ init _ | .blotterClr _ init | .blotterStop _ init | .duplexClr _ init => Wf.initiator init
  | .timSourceConfigWrite _ init off _ | .duplexConfigWrite _ init off _ => Wf.initiator init && Wf.offset off
  | .ptpSyncRx _ port _ _ | .ptpFollowUpRx _ port _ _ _ _ | .ptpAnnounceRx _ port _ | .uplinkFrameRx _ port _ => Wf.linkPort port
  | .ptpQualTimeout _ src _ | .sourceHoldoffExpire _ src => Wf.timeSource src
  | .ptpMasterSyncTx _ lane | .ptpMasterAnnounceTx _ lane | .ptpPdelayReqRx _ lane _ _ | .pdelayMeasureTx _ lane 
  | .ptpPdelayRespRx _ lane _ _ _ _ | .laneFrameRx _ lane _ | .laneTxIdleAfterFrame _ lane | .laneSignalLoss _ lane 
  | .laneSignalDetect _ lane | .lanePcsSync _ lane | .lanePcsSyncLoss _ lane | .laneAutonegComplete _ lane _ _ 
  | .laneEyeReport _ lane _ _ _ | .laneFrameTx _ lane | .cellCapabilityTx _ lane | .cellCapabilityRx _ lane _ 
  | .cellEchoRequestTx _ lane | .cellEchoReplyRx _ lane _ | .cellExchangeTimeout _ lane | .cellEchoTimeout _ lane 
  | .cellExchangeRetry _ lane | .cellCommandLaunch _ lane _ | .cellSignoffLaunch _ lane _ | .cellStatusRx _ lane _ 
  | .cellRttUpdate _ lane => Wf.lane lane
  | .dupEntryExpire _ pair _ _ => Wf.pair pair
  | .laneConfigWrite _ init page _ _ | .pairConfigWrite _ init page _ => Wf.initiator init && Wf.page page
  | .partnerRelearn _ init lane | .cellLinkRelearn _ init lane => Wf.initiator init && Wf.lane lane
  | .subCreate _ init ferrule seq handle | .subDestroy _ init ferrule seq handle | .subSetpol _ init ferrule seq handle 
  | .pubCreate _ init ferrule seq handle | .pubDestroy _ init ferrule seq handle => Wf.initiator init && Wf.ferrule ferrule && Wf.sequence seq && Wf.handleWidth handle
  | .domainParamWrite _ init dom off _ => Wf.initiator init && Wf.domain dom && Wf.offset off
  | .domainStart _ init dom | .domainStop _ init dom => Wf.initiator init && Wf.domain dom
  | .strokeOpen _ dom | .duplexOutputTx _ dom _ => Wf.domain dom
  | .strokeCutoff _ sub | .gooseTalExpire _ sub | .subDeadline _ sub _ => Wf.subscription sub
  | .sampleMessageArrive _ ferrule sub _ => Wf.ferrule ferrule && Wf.subscription sub
  | .strokeClose _ ferrule dom => Wf.ferrule ferrule && Wf.domain dom
  | .nibRunStart _ ferrule nib | .nibBudgetOverrun _ ferrule nib => Wf.ferrule ferrule && Wf.nib nib
  | .ledgerLrdWrite _ init ferrule _ => Wf.initiator init && Wf.ferrule ferrule
  | .outputMessageArrive _ fn twin point _ | .errorNoticeArrive _ fn twin point _ | .shadowMessageArrive _ fn twin point _ => Wf.function fn && Wf.twin twin && Wf.point point
  | .twinCompareDeadline _ fn point _ | .egressDeadline _ fn point _ => Wf.function fn && Wf.point point
  | .twinDecisionArrive _ fn twin _ => Wf.function fn && Wf.twin twin
  | .gatewayLegArrive _ fn gateway _ => Wf.function fn && Wf.gateway gateway
  | .flitParityError _ router port _ _ => Wf.router router && Wf.routerPort port
  | .rulerCreate _ init seq handle | .rulerDestroy _ init seq handle | .rulerUpdate _ init seq handle 
  | .rulerCkpt _ init seq handle | .nibout _ init seq handle | .nibin _ init seq handle | .dmaCreate _ init seq handle 
  | .dmaDestroy _ init seq handle | .dmaStart _ init seq handle | .dmaStop _ init seq handle | .qpdestroy _ init seq handle => Wf.initiator init && Wf.sequence seq && Wf.handleWidth handle
  | .functionLoadComplete _ fn => Wf.function fn
  | .gooseRetransmit _ pub => Wf.publication pub
  | .tripSchedArm _ init line _ | .tripSchedCancel _ init line => Wf.initiator init && Wf.ferrule line
  | .scheduledEdgeFire _ line => Wf.ferrule line
  | .binaryInputChange _ input _ | .binaryInputAccept _ input => Wf.input input
  | .biEventPop _ init input => Wf.initiator init && Wf.input input
  | .scribeRunWrite _ init scribe _ | .wdgKick _ init scribe | .wdgPerWrite _ init scribe _ => Wf.initiator init && Wf.scribe scribe
  | .scribeInterruptEntry _ scribe | .walkTimeout _ scribe | .wfiWake _ scribe | .scribeTimerExpire _ scribe 
  | .iackRead _ scribe _ | .ieoiWrite _ scribe _ | .swiWrite _ scribe _ | .scribeWatchdogExpire _ scribe 
  | .storeBufferDrain _ scribe => Wf.scribe scribe
  | .icuSourceWrite _ init source _ => Wf.initiator init && Wf.source source
  | .add core _ _ _ | .sub core _ _ _ | .and core _ _ _ | .or core _ _ _ | .xor core _ _ _ | .andn core _ _ _ | .sll core _ _ _ 
  | .srl core _ _ _ | .sra core _ _ _ | .ror core _ _ _ | .slt core _ _ _ | .sltu core _ _ _ | .min core _ _ _ 
  | .max core _ _ _ | .minu core _ _ _ | .maxu core _ _ _ | .clz core _ _ _ | .ctz core _ _ _ | .popc core _ _ _ 
  | .sxb core _ _ _ | .sxq core _ _ _ | .sxh core _ _ _ | .zxb core _ _ _ | .zxq core _ _ _ | .zxh core _ _ _ | .mul core _ _ _ 
  | .mulh core _ _ _ | .mulhu core _ _ _ | .div core _ _ _ | .divu core _ _ _ | .rem core _ _ _ | .remu core _ _ _ 
  | .sel core _ _ _ _ | .addi core _ _ _ | .andi core _ _ _ | .ori core _ _ _ | .xori core _ _ _ | .slti core _ _ _ 
  | .sltiu core _ _ _ | .slli core _ _ _ | .srli core _ _ _ | .srai core _ _ _ | .rori core _ _ _ | .shin core _ _ _ 
  | .addpc core _ _ _ | .lb core _ _ _ _ _ | .lbu core _ _ _ _ _ | .lq core _ _ _ _ _ | .lqu core _ _ _ _ _ 
  | .lh core _ _ _ _ _ | .lhu core _ _ _ _ _ | .lw core _ _ _ _ _ | .sb core _ _ _ _ _ | .sq core _ _ _ _ _ 
  | .sh core _ _ _ _ _ | .sw core _ _ _ _ _ | .beq core _ _ _ | .bne core _ _ _ | .blt core _ _ _ | .bge core _ _ _ 
  | .bltu core _ _ _ | .bgeu core _ _ _ | .jmp core _ | .call core _ | .jalr core _ _ _ _ | .fadd core _ _ _ _ _ _ 
  | .fsub core _ _ _ _ _ _ | .fmul core _ _ _ _ _ _ | .fdiv core _ _ _ _ _ _ | .fsqrt core _ _ _ _ _ _ | .fmin core _ _ _ _ _ _ 
  | .fmax core _ _ _ _ _ _ | .fmadd core _ _ _ _ _ _ | .fmsub core _ _ _ _ _ _ | .fnmsub core _ _ _ _ _ _ 
  | .feq core _ _ _ _ _ _ | .flt core _ _ _ _ _ _ | .fle core _ _ _ _ _ _ | .fclass core _ _ _ _ _ _ | .fcvt core _ _ _ _ _ _ 
  | .fcvti core _ _ _ _ _ _ | .fcvtu core _ _ _ _ _ _ | .icvtf core _ _ _ _ _ _ | .ucvtf core _ _ _ _ _ _ 
  | .fscopy core _ _ _ _ _ _ | .fsncopy core _ _ _ _ _ _ | .fsxor core _ _ _ _ _ _ | .lr core _ _ _ _ | .sc core _ _ _ _ 
  | .ounpack core _ _ _ _ | .opack core _ _ _ _ | .crc core _ _ _ _ | .bmove core _ _ _ _ | .bfill core _ _ _ _ 
  | .bscan core _ _ _ _ _ | .syscall core _ _ _ _ | .eret core _ _ _ | .fence core _ _ _ _ | .ifence core _ _ _ 
  | .time _ core _ _ _ | .mfsr core _ _ _ _ | .mtsr core _ _ _ _ | .wfi core _ _ _ | .brk core _ _ _ | .tlbi core _ _ _ _ 
  | .dclean core _ _ _ _ | .dflush core _ _ _ _ | .dzero core _ _ _ _ => Wf.core core
  | .nibNop fer nib _ _ _ _ | .nibEnd fer nib _ _ _ _ | .nibRel fer nib _ _ _ _ | .nibRet fer nib _ _ _ _ 
  | .nibLexit fer nib _ _ _ _ | .nibClrv fer nib _ _ _ _ | .nibSetf fer nib _ _ _ _ | .nibClrf fer nib _ _ _ _ 
  | .nibNotf fer nib _ _ _ _ | .nibClra0 fer nib _ _ _ _ | .nibClra1 fer nib _ _ _ _ | .nibAddaa fer nib _ _ _ _ 
  | .nibSubaa fer nib _ _ _ _ | .nibSwpa fer nib _ _ _ _ | .nibBr fer nib _ _ _ _ | .nibCall fer nib _ _ _ _ 
  | .nibLoop fer nib _ _ _ _ | .nibLdi fer nib _ _ _ _ | .nibAddi fer nib _ _ _ _ | .nibMov fer nib _ _ _ _ 
  | .nibAdd fer nib _ _ _ _ | .nibSub fer nib _ _ _ _ | .nibAnd fer nib _ _ _ _ | .nibOr fer nib _ _ _ _ 
  | .nibXor fer nib _ _ _ _ | .nibCeq fer nib _ _ _ _ | .nibClt fer nib _ _ _ _ | .nibCltu fer nib _ _ _ _ 
  | .nibShf fer nib _ _ _ _ | .nibUna fer nib _ _ _ _ | .nibLdx fer nib _ _ _ _ | .nibLdy fer nib _ _ _ _ 
  | .nibStx fer nib _ _ _ _ | .nibSty fer nib _ _ _ _ | .nibStk fer nib _ _ _ _ | .nibMac fer nib _ _ _ _ 
  | .nibMacd fer nib _ _ _ _ | .nibAcc fer nib _ _ _ _ | .nibExt fer nib _ _ _ _ | .nibAsh fer nib _ _ _ _ 
  | .nibIn fer nib _ _ _ _ | .nibOut fer nib _ _ _ _ => Wf.ferrule fer && Wf.nib nib
  | .snoopSnps _ desk _ | .snoopSnpx _ desk _ | .snoopSnpinv _ desk _ | .snoopSnprd _ desk _ | .forwardedSnoop _ desk _ 
  | .grantDeliver _ desk _ | .wbAck _ desk _ | .snoopTimeout _ desk _ | .reclaimWalkComplete _ desk | .deskNapExit _ desk => Wf.desk desk
  | .dmcConfigWrite _ init ch _ => Wf.initiator init && Wf.channel ch
  | .dmcRelease _ init ch seq | .dmcReset _ init ch seq | .dmcTrain _ init ch seq | .dmcEnable _ init ch seq => Wf.initiator init && Wf.channel ch && Wf.sequence seq
  | .dramReadDecode _ ch _ _ | .dramAlertParity _ ch _ | .dramWriteCrcError _ ch _ | .dramPatrolRead _ ch _ 
  | .phyDriftTrack _ ch _ => Wf.channel ch
  | .dramRefresh _ ch rank _ | .dramMr4Poll _ ch rank _ => Wf.channel ch && Wf.rank rank
  | .frozenWaitTimeout _ ch scribe => Wf.channel ch && Wf.scribe scribe
  | .dmaBurst _ chan | .dmaBurstComplete _ chan | .dmaTargetTimeout _ chan => Wf.dmaChannel chan
  | .tenantActivate _ init seq | .qpcreate _ init seq | .tenantFreeze _ init seq | .tenantExport _ init seq 
  | .tenantImport _ init seq | .tenantResume _ init seq | .treset _ init seq | .deskpl _ init seq | .deskst _ init seq 
  | .ferst _ init seq | .domst _ init seq | .devst _ init seq | .pwrDead _ init seq | .breset _ init seq | .fulltest _ init seq 
  | .fuse _ init seq | .seal _ init seq => Wf.initiator init && Wf.sequence seq
  | .tenantFreezeTakeEffect _ tenant dom => Wf.tenant tenant && Wf.domain dom
  | .tenantFreezeComplete _ tenant | .tenantResumeTakeEffect _ tenant | .tenantResetComplete _ tenant => Wf.tenant tenant
  | .qpRxDoorbell _ init vf qp _ | .qpTxDoorbell _ init vf qp _ => Wf.initiator init && Wf.virtualFunction vf && Wf.queuePair qp
  | .qpTxFrame _ qp => Wf.queuePair qp
  | .pcieInboundRequest _ vf _ => Wf.virtualFunction vf
  | .ferrulePowerUpComplete _ ferrule | .ferruleReset _ ferrule | .ferruleResetEnd _ ferrule => Wf.ferrule ferrule
  | .thermalSample _ sensor _ => Wf.sensor sensor
  | .railLow _ rail _ => Wf.rail rail
  | .ageingMonitorSample _ monitor _ => Wf.monitor monitor
  | .scribeHalted _ scribe => Wf.core scribe
  | .blotterStimWrite _ init port _ => Wf.initiator init && Wf.stimPort port
  | .trainingStepComplete _ ch _ lane sub rank _ => Wf.channel ch && Wf.lane lane && Wf.subchannel sub && Wf.rank rank

end Sys2Proof
end

