-- ==== Sys2Proof/Safety.lean ====
section
/-! DEFINITION. What claims are stated in: the invariant of the block's states, the conditions under which a command reaches its
own effect, and the states that the shared operations leave. -/

namespace Sys2Proof.Machine
open Sys2Proof

/-! ### Invariant -/

/-- The words of DRAM, of the inkwells and of the management controller's memory, and the poison marks, are in canonical form:
addresses rise, and no entry holds what an unlisted address reads as. -/
def Memory.wf (s : State) : Bool := twf s.mem.dram && twf s.mem.mark && twf s.inkwell && twf s.mcu.sram

/-- The tables of memory, registers, contexts and cores are in canonical form, so that equal contents are equal data; and every
generation of a context handle is one that the block issues, 1 to 4,095 (R71). -/
structure State.Inv (s : State) : Prop where
  regs : twf s.regs = true
  gens : ∀ e ∈ s.gens, e.2 < 4095
  mem : Memory.wf s = true
  scribes : twf s.scribes = true
  general : ∀ e ∈ s.scribes, twf e.2.g = true ∧ twf e.2.sr = true
  nibs : twf s.nibs = true
  ports : twf s.ports = true
  pairs : twf s.pairs = true
  subs : twf s.subs = true
  pubs : twf s.pubs = true
  trips : twf s.trips = true

/-! ### Register accesses -/

/-- A write or a read of a word of a page goes through: it meets no bus error (R53), and its block is not in reset (R56). -/
structure Passes (s : State) (init page off : Nat) (write : Bool) : Prop where
  fault : accessFault s init 0 page off write = none
  open' : alwaysOn page off = true ∨ pageInReset s page = false

/-- A state with the words of a doorbell write in CMD (R66, R67). -/
def rung (s : State) (page seq opc handle : Nat) : State :=
  ((s.wr (F.DBL_SEQ page) seq).wr (F.DBL_OPC page) opc).wr (F.DBL_HANDLE page) handle

/-- A state with a doorbell command accepted (R68). -/
def accepted (s : State) (page seq opc handle : Nat) : State :=
  (((rung s page seq opc handle).wr (F.DBL_RSEQ page) seq).wr (F.DBL_STATE page) 1).wr (F.HDR_SEQ page) (seq + 1)

/-- A doorbell write passes checks 1 and 2 of R67, and goes through: no command is in progress and its sequence number is next. -/
structure Rings (s : State) (init page seq opc handle : Nat) : Prop where
  passes : Passes s init page 8 true
  idle : s.rd (F.DBL_STATE page) ≠ 1
  next : seq % 256 = s.rd (F.HDR_SEQ page)

/-! ### Instructions of the cores -/

/-- A core issues the instruction at its PC: no halt and no interrupt comes first, the fetch succeeds, and no comparator halts it;
`r` is the state in which the instruction itself is performed (R369, R384, R406, R575, R583). -/
structure Ready (s : State) (n : Nat) (r : State) : Prop where
  issues : coreIssues s n = true
  noHalt : (s.scribe n).haltReq = false
  noInterrupt : coreInterrupt s n = none
  fetched : ∃ f, fetch s n = (.ok (), f) ∧ (fetchHalts f n (f.scribe n).pc = false ∨ (f.scribe n).stepping = true) ∧
    r = coreCompare f n 0 (f.scribe n).pc 0

/-- The state after an instruction that writes one general register and goes on to the next. -/
def wrote (r : State) (n : Nat) (gd : BitVec 5) (v : Word) : State := finish (r.setG n gd.toNat v) n (some (nextPc r n))

/-- The state after an instruction that writes no register and goes on to the next. -/
def passed (r : State) (n : Nat) : State := finish r n (some (nextPc r n))

/-! ### Instructions of the nibs -/

/-- A nib runs and reaches an instruction, of the run `c`, that no comparator halts; `r` is the state in which it is performed
(R247, R581 to R583). -/
structure NibAt (s : State) (f n : Nat) (c : RunCtx) (r : State) : Prop where
  runs : s.rd (F.FER_NST f n) = 1
  slot : slotCtx s f n (s.nib f n).slot = some c
  opcode : noOpcode c.x.desc (s.nib f n).pc = false
  compared : ∃ h, nibCompare s f n 0 (c.p.prog + (s.nib f n).pc) = (r, h) ∧ (h = true → nibMayHalt r f n = false)

/-- An instruction that a nib reaches meets no fault, and the budget lasts (R262, R281, R633). -/
structure NibReady (s : State) (f n : Nat) (cond : BitVec 3) (c : RunCtx) (i : NibIns) (r : State) : Prop extends NibAt s f n c r where
  noFault : firstFault i c.x.desc.plen (s.nib f n).pc ((s.nib f n).holds cond) .clean = none
  budget : (s.nib f n).cyc + i.cyc < c.x.desc.budget

/-- A nib with its program counter and its cycles moved past an instruction. -/
def Nib.past (b : Nib) (i : NibIns) : Nib := { b with pc := b.pc + 1 + b2n i.ext, cyc := b.cyc + i.cyc }

/-- A nib after the loop level at an address has been counted (R301). -/
def Nib.looped (b : Nib) (pc : Nat) : Nib := loopBack pc b.loops b

/-- What an instruction leaves whose effect `g` is on the nib's registers and memories: the nib `b` moved past it, changed, and the
loop level at its address counted; then the comparators see its accesses. -/
def nibDone (r : State) (f n : Nat) (c : RunCtx) (b : Nib) (i : NibIns) (g : Nib → Nib) : State :=
  let m := memCompare (r.setNib f n ((g (b.past i)).looped b.pc)) c i
  haltIf m.1 f n m.2

/-- The checks of an instruction of the CTL form (R290): its operand is at most 0Dh. -/
def ctlChecks (operand : BitVec 6) : NibIns := { undef := decide (13 < operand.toNat) }

/-- The result of a nib's two-register operation: d of the first register, with Z and N (R288, R289). -/
def Nib.alu (operand : BitVec 6) (v : Half) (b : Nib) : Nib := (b.setReg (operand.toNat / 8) v).setZN v

/-- The instructions of the nibs whose effect is on their registers and memories: the command, its operation code, its checks and
accesses, and its effect, for a nib `b` with the run `c` (R288 to R302). -/
def NibRow (c : RunCtx) (b : Nib) (f n : Nat) (k : BitVec 3) (o : BitVec 6) (e : BitVec 14) (err : NibErr)
    (p : Instr × Nat × NibIns × (Nib → Nib)) : Prop :=
  let x := tget b.d (o.toNat / 8)
  let y := tget b.d (o.toNat % 8)
  let a0 := (tget b.acc 0).toInt
  let a1 := (tget b.acc 1).toInt
  let two : NibIns := {}
  let far := e.toNat % 2 ^ 13 + (if o = 0 then 0 else tget b.a (o.toNat - 16))
  let br : NibIns :=
    { cyc := 2
      ext := true
      undef := !(decide (o = 0) || (decide (16 ≤ o.toNat) && decide (o.toNat ≤ 21))) || atLoopEnd b
      undefExt := bitOf e.toNat 13
      range := if c.x.desc.plen ≤ far then some 3 else none }
  let mode := o.toNat % 8
  let loc := memAddr b mode e.toNat
  let sx : NibIns := { ext := decide (6 ≤ mode), undefExt := decide (6 ≤ mode) && bitOf e.toNat 13, xAt := some loc }
  let sy : NibIns := { ext := decide (mode = 6), undef := decide (mode = 7), undefExt := decide (mode = 6) && bitOf e.toNat 13, yAt := some loc }
  let out (len con : Nat) : Option Nat := if len ≤ loc then some 3 else if loc < con then some 8 else none
  let moved (j : Nat) (b : Nib) : Nib := if mode < 6 then b.postMod mode j else b
  let code := o.toNat % 32
  let pop := bitOf o.toNat 5
  let full : Option (Nat × Nat) :=
    if pop then (if b.sp = stackTop c then some (6, 2) else none) else (if b.sp = stackLow c then some (6, 1) else none)
  let stk : NibIns :=
    { undef := decide (23 < code) || decide (code = 16) || (pop && !codeWritable code)
      stack := full
      rdX := pop
      xAt := some (if pop then b.sp else b.sp - 1) }
  let i := o.toNat / 32
  let ai := (tget b.acc i).toInt
  let xa := tget b.a (o.toNat / 4 % 4)
  let ya := tget b.a (2 + o.toNat % 4)
  let macOut : Option Nat := if c.x.desc.xlen ≤ xa ∨ c.x.desc.ylen ≤ ya then some 3 else none
  let mac : NibIns := { range := macOut, rdX := true, rdY := true, xAt := some xa, yAt := some ya }
  let signed (p a : Int) : Int := if bitOf o.toNat 4 then a - p else a + p
  let le := e.toNat % 2 ^ 13
  let loop : NibIns :=
    { cyc := 2
      ext := true
      undef := atLoopEnd b
      third := decide (2 ≤ b.loops.length)
      range := if c.x.desc.plen ≤ le then some 3 else none
      undefExt := bitOf e.toNat 13 || decide (le < b.pc + 2) || (decide (b.loops.length < 2) && b.loops.any (fun l => l.1 = i)) }
  let count := if bitOf o.toNat 4 then o.toNat % 16 else (b.reg (o.toNat % 16)).toNat % 2 ^ 16
  let from' := (b.reg (e.toNat % 64)).toNat
  let mov : NibIns :=
    { ext := true
      undef := !codeWritable o.toNat
      undefExt := decide (64 ≤ e.toNat) || decide (24 ≤ e.toNat % 64)
      range := if o = 16 ∧ (from' < stackLow c ∨ stackTop c < from') then some 3 else none }
  let shifted : Half := match e.toNat / 64 % 4 with
    | 0 => y <<< (e.toNat % 64)
    | 1 => y >>> (e.toNat % 64)
    | 2 => y.sshiftRight (e.toNat % 64)
    | _ => y.rotateRight (e.toNat % 64)
  let ea := tget b.acc (o.toNat / 4 % 2)
  let taken : Half × Bool := match o.toNat % 4 with
    | 0 => (ea.extractLsb' 0 36, false)
    | 1 => (ea.extractLsb' 36 36, false)
    | 2 => sat36 (ea.toInt / 2 ^ e.toNat)
    | _ => sat36 ((ea.toInt + (if e = 0 then 0 else 2 ^ (e.toNat - 1))) / 2 ^ e.toNat)
  p ∈ ([
   (.nibNop f n k o e err, 0, ctlChecks o, id),
   (.nibRet f n k o e err, 0, { ctlChecks o with cyc := 2, undef := decide (13 < o.toNat) || atLoopEnd b, stack := if b.ret = [] then some (5, 0) else none },
     fun b => { b with pc := b.ret.headD 0, ret := b.ret.tail }),
   (.nibLexit f n k o e err, 0, ctlChecks o, fun b => { b with loops := b.loops.tail }),
   (.nibClrv f n k o e err, 0, ctlChecks o, fun b => { b with fV := false }),
   (.nibSetf f n k o e err, 0, ctlChecks o, fun b => { b with fF := true }),
   (.nibClrf f n k o e err, 0, ctlChecks o, fun b => { b with fF := false }),
   (.nibNotf f n k o e err, 0, ctlChecks o, fun b => { b with fF := !b.fF }),
   (.nibClra0 f n k o e err, 0, ctlChecks o, fun b => b.setAcc 0 0),
   (.nibClra1 f n k o e err, 0, ctlChecks o, fun b => b.setAcc 1 0),
   (.nibAddaa f n k o e err, 0, ctlChecks o, fun b => b.accResult 0 (a0 + a1)),
   (.nibSubaa f n k o e err, 0, ctlChecks o, fun b => b.accResult 0 (a0 - a1)),
   (.nibSwpa f n k o e err, 0, ctlChecks o, fun b => (b.setAcc 0 (tget b.acc 1)).setAcc 1 (tget b.acc 0)),
   (.nibBr f n k o e err, 1, br, fun b => { b with pc := far }),
   (.nibCall f n k o e err, 2, { br with stack := if 16 ≤ b.ret.length then some (4, 0) else none },
     fun b => { b with pc := far, ret := b.pc :: b.ret }),
   (.nibLoop f n k o e err, 3, loop,
     fun b => if count = 0 then { b with pc := afterIns c.x.desc le } else { b with lc := tset b.lc i count, loops := (i, b.pc, le) :: b.loops }),
   (.nibLdi f n k o e err, 4, { ext := true, undef := decide (o.toNat / 16 = 3) }, fun b => b.setReg (o.toNat % 16)
     (if o.toNat / 16 = 0 then e.signExtend 36 else if o.toNat / 16 = 1 then e.setWidth 36 else (b.reg (o.toNat % 16) <<< 14) + e.setWidth 36)),
   (.nibAddi f n k o e err, 5, { ext := true, undef := decide (o.toNat / 16 ≠ 0) }, fun b =>
     let v := b.reg (o.toNat % 16) + e.signExtend 36
     if o.toNat % 16 < 8 then (b.setReg (o.toNat % 16) v).setZN v else b.setReg (o.toNat % 16) v),
   (.nibMov f n k o e err, 6, mov, fun q => q.setReg o.toNat (b.reg (e.toNat % 64))),
   (.nibAdd f n k o e err, 7, two, Nib.alu o (x + y)), (.nibSub f n k o e err, 8, two, Nib.alu o (x - y)),
   (.nibAnd f n k o e err, 9, two, Nib.alu o (x &&& y)), (.nibOr f n k o e err, 10, two, Nib.alu o (x ||| y)),
   (.nibXor f n k o e err, 11, two, Nib.alu o (x ^^^ y)), (.nibCeq f n k o e err, 12, two, fun b => { b with fF := decide (x = y) }),
   (.nibClt f n k o e err, 13, two, fun b => { b with fF := decide (x.toInt < y.toInt) }),
   (.nibCltu f n k o e err, 14, two, fun b => { b with fF := decide (x.toNat < y.toNat) }),
   (.nibShf f n k o e err, 15, { ext := true, undefExt := decide (256 ≤ e.toNat) || decide (36 ≤ e.toNat % 64) }, Nib.alu o shifted),
   (.nibUna f n k o e err, 16, { ext := true, undefExt := decide (7 ≤ e.toNat) }, Nib.alu o (unaOp (e.toNat % 8) y)),
   (.nibLdx f n k o e err, 17, { sx with rdX := true, range := if c.x.desc.xlen ≤ loc then some 3 else none },
     fun b => moved 0 (b.setReg (o.toNat / 8) (readX c b loc))),
   (.nibLdy f n k o e err, 18, { sy with rdY := true, range := if c.x.desc.ylen ≤ loc then some 3 else none },
     fun b => moved 1 (b.setReg (o.toNat / 8) (readY c b loc))),
   (.nibStx f n k o e err, 19, { sx with range := out c.x.desc.xlen c.x.desc.xcon' }, fun b => moved 0 { b with x := tset b.x loc x }),
   (.nibSty f n k o e err, 20, { sy with range := out c.x.desc.ylen c.x.desc.ycon' }, fun b => moved 1 { b with y := tset b.y loc x }),
   (.nibStk f n k o e err, 21, stk,
     fun b => if pop then { b.setReg code (tget b.x b.sp) with sp := b.sp + 1 } else { b with sp := b.sp - 1, x := tset b.x (b.sp - 1) (b.reg code) }),
   (.nibMac f n k o e err, 22, mac,
     fun b => ((b.accResult i (signed ((readX c b xa).toInt * (readY c b ya).toInt) ai)).postMod (o.toNat / 4 % 4) 0).postMod (2 + o.toNat % 4) 1),
   (.nibMacd f n k o e err, 23, { ext := true, undef := decide (o.toNat % 8 ≠ 0), undefExt := decide (64 ≤ e.toNat) }, fun b => b.accResult i
     (signed ((tget b.d (e.toNat / 8 % 8)).toInt * (tget b.d (e.toNat % 8)).toInt) (if bitOf o.toNat 3 then 0 else ai))),
   (.nibAcc f n k o e err, 24, two, fun b => b.accResult i (match o.toNat / 8 % 4 with
     | 0 => y.toInt
     | 1 => ai + y.toInt
     | 2 => ai - y.toInt
     | _ => y.toInt * 2 ^ 36)),
   (.nibExt f n k o e err, 25, { ext := decide (2 ≤ o.toNat % 4), undefExt := decide (2 ≤ o.toNat % 4) && (decide (128 ≤ e.toNat) || decide (71 < e.toNat % 128)) },
     fun b => ((b.setReg (o.toNat / 8) taken.1).setZN taken.1).orV taken.2),
   (.nibAsh f n k o e err, 26, { ext := true, undef := decide (o.toNat % 16 ≠ 0), undefExt := decide (128 ≤ e.toNat) || decide (71 < e.toNat % 128) },
     fun b => b.accResult i (if bitOf o.toNat 4 then ai / 2 ^ e.toNat else ai * 2 ^ e.toNat))] : List (Instr × Nat × NibIns × (Nib → Nib)))

end Sys2Proof.Machine
end

