-- ==== Sys2Proof/Certificates/Slice0/Obligations.lean ====
section
/-! DEFINITION. The statements about the block, in the order of the chapters of the spec. A claim under `Claims` is one part of a statement
of several. -/

open Sys2Proof Sys2Proof.Machine

/-! ### The block as a whole -/

/-- The command at the front of the queue is performed with the queue's rest, and on an empty queue the block idles (the latter is
the model's choice, assumption 10). -/
def Obligations.StepPerformsFrontCommand : Prop :=
  (∀ (s : State) (c : Instr) (l : List Instr), s.pending = c :: l → step s = exec c { s with pending := l }) ∧
  ∀ s : State, s.pending = [] → step s = .next s

/-- Every step keeps the canonical form of the tables and the range of handle generations (R71), in every state that has them. -/
def Obligations.StepKeepsInvariant : Prop := ∀ s t : State, s.Inv → step s = .next t → t.Inv

/-- The state after reset meets the invariant. -/
def Obligations.ResetMeetsInvariant : Prop := State.reset.Inv

/-- What reset leaves: every scribe at H with MASK 15 and its HEN 1 (R399), device time 0 (R100), no proposal (R90), no error
captured, every ferrule's and desk's controller idle; and every general register 0 (assumption 8). -/
def Obligations.ResetState : Prop :=
  (∀ n, n < 32 → scribeLevel (State.reset.scribe n) = 2 ∧ scribeMask (State.reset.scribe n) = 15 ∧
    (State.reset.scribe n).hctl = 1 ∧ ∀ r, State.reset.g n r = 0) ∧
  State.reset.devTime = 0 ∧ State.reset.rd F.CSN_CST = 0 ∧ State.reset.rd F.CSN_ARMED = 0 ∧ State.reset.rd F.TIM_QSTATE = 0 ∧
  State.reset.rd F.DEV_BCODE = 0 ∧ State.reset.rd F.BLT_LVL = 0 ∧ State.reset.pending = []

/-- No command changes the queue behind it, and none turns true time back (the time operand is the model's, assumption 1). -/
def Claims.CommandKeepsQueueAndTime : Prop :=
  ∀ (c : Instr) (s t : State), exec c s = .next t → t.pending = s.pending ∧ s.now ≤ t.now

/-- No command stops the block: every one answers a next state, in every state. -/
def Claims.EveryCommandAnswers : Prop := ∀ (c : Instr) (s : State), ∃ t, exec c s = .next t

/-- Every command answers a next state, keeps the queue behind it and never turns true time back: CommandKeepsQueueAndTime,
EveryCommandAnswers. -/
def Obligations.CommandFrame : Prop :=
  Claims.CommandKeepsQueueAndTime ∧ Claims.EveryCommandAnswers

/-- g0 reads 0 and discards writes; any other register takes the value written, and no other register changes (R369). -/
def Claims.GeneralRegisterWrite : Prop :=
  ∀ (s : State) (n r : Nat) (v : Word), twf s.scribes = true → twf (s.scribe n).g = true →
    s.g n 0 = 0 ∧ s.setG n 0 v = s ∧ (r ≠ 0 → (s.setG n r v).g n r = v) ∧
    ∀ m q, m ≠ n ∨ q ≠ r → (s.setG n r v).g m q = s.g m q

/-- A register field takes the value written, as wide as it is, and no other field of the register pages changes. -/
def Claims.RegisterFieldWrite : Prop :=
  ∀ (s : State) (f g : Fld) (v : Nat), twf s.regs = true → f.lo + f.len ≤ 72 → g.lo + g.len ≤ 72 →
    (s.wr f v).rd f = v % 2 ^ f.len ∧
    (f.addr ≠ g.addr ∨ f.lo + f.len ≤ g.lo ∨ g.lo + g.len ≤ f.lo → (s.wr f v).rd g = s.rd g)

/-- Writes of general registers and of fields of the register pages: GeneralRegisterWrite, RegisterFieldWrite. -/
def Obligations.RegisterWrites : Prop :=
  Claims.GeneralRegisterWrite ∧ Claims.RegisterFieldWrite

/-! ### Instructions of the cores -/

/-- Register operations of two operands write their result to gd and go on (R372). -/
def Claims.RegisterOperationResult : Prop :=
  ∀ (s r : State) (n : Nat) (gd ga gb : BitVec 5), Ready s n r →
    let a := r.g n ga.toNat
    let b := r.g n gb.toNat
    let k := b.toNat % 128
    ∀ p ∈ [(Instr.add n gd ga gb, a + b), (.sub n gd ga gb, a - b), (.and n gd ga gb, a &&& b), (.or n gd ga gb, a ||| b),
           (.xor n gd ga gb, a ^^^ b), (.andn n gd ga gb, a &&& ~~~b), (.sll n gd ga gb, a <<< k), (.srl n gd ga gb, a >>> k),
           (.sra n gd ga gb, a.sshiftRight k), (.ror n gd ga gb, a.rotateRight (b.toNat % 72)),
           (.slt n gd ga gb, if a.slt b then 1 else 0), (.sltu n gd ga gb, if a.toNat < b.toNat then 1 else 0),
           (.min n gd ga gb, if a.slt b then a else b), (.max n gd ga gb, if a.slt b then b else a),
           (.minu n gd ga gb, if a.toNat < b.toNat then a else b), (.maxu n gd ga gb, if a.toNat < b.toNat then b else a),
           (.mul n gd ga gb, a * b), (.mulh n gd ga gb, BitVec.ofInt 72 (a.toInt * b.toInt / 2 ^ 72)),
           (.mulhu n gd ga gb, BitVec.ofNat 72 (a.toNat * b.toNat / 2 ^ 72)),
           (.div n gd ga gb, if b = 0 then BitVec.allOnes 72 else a.sdiv b),
           (.divu n gd ga gb, if b = 0 then BitVec.allOnes 72 else BitVec.ofNat 72 (a.toNat / b.toNat)),
           (.rem n gd ga gb, if b = 0 then a else a.srem b),
           (.remu n gd ga gb, if b = 0 then a else BitVec.ofNat 72 (a.toNat % b.toNat))],
      exec p.1 s = .next (wrote r n gd p.2)

/-- Register operations of one operand, their gb field 0 (R372). -/
def Claims.UnaryOperationResult : Prop :=
  ∀ (s r : State) (n : Nat) (gd ga : BitVec 5), Ready s n r →
    let a := r.g n ga.toNat
    ∀ p ∈ [(Instr.clz n gd ga 0, leadingZeros a), (.ctz n gd ga 0, trailingZeros a), (.popc n gd ga 0, setBitsOf a),
           (.sxb n gd ga 0, (a.setWidth 9).signExtend 72), (.sxq n gd ga 0, (a.setWidth 18).signExtend 72),
           (.sxh n gd ga 0, (a.setWidth 36).signExtend 72), (.zxb n gd ga 0, BitVec.ofNat 72 (a.toNat % 2 ^ 9)),
           (.zxq n gd ga 0, BitVec.ofNat 72 (a.toNat % 2 ^ 18)), (.zxh n gd ga 0, BitVec.ofNat 72 (a.toNat % 2 ^ 36))],
      exec p.1 s = .next (wrote r n gd p.2)

/-- Operations of a register and an immediate (R372). -/
def Claims.ImmediateOperationResult : Prop :=
  ∀ (s r : State) (n : Nat) (gd ga : BitVec 5) (imm : BitVec 19), Ready s n r →
    let a := r.g n ga.toNat
    let x := imm.signExtend 72
    let z := imm.setWidth 72
    (∀ p ∈ [(Instr.addi n gd ga imm, a + x), (.andi n gd ga imm, a &&& x), (.ori n gd ga imm, a ||| z), (.xori n gd ga imm, a ^^^ z),
            (.slti n gd ga imm, if a.slt x then 1 else 0), (.sltiu n gd ga imm, if a.toNat < x.toNat then 1 else 0),
            (.shin n gd ga imm, (a <<< 19) + z)], exec p.1 s = .next (wrote r n gd p.2)) ∧
    exec (.addpc n gd 0 imm) s = .next (wrote r n gd (BitVec.ofNat 72 (r.scribe n).pc + (x <<< 2))) ∧
    (imm.toNat < 72 → ∀ p ∈ [(Instr.slli n gd ga imm, a <<< imm.toNat), (.srli n gd ga imm, a >>> imm.toNat),
            (.srai n gd ga imm, a.sshiftRight imm.toNat), (.rori n gd ga imm, a.rotateRight imm.toNat)],
      exec p.1 s = .next (wrote r n gd p.2)) ∧
    (72 ≤ imm.toNat → ∀ i ∈ [Instr.slli n gd ga imm, .srli n gd ga imm, .srai n gd ga imm, .rori n gd ga imm],
      ∃ h, exec i s = .next (trap r n { code := 1, inst := h }))

/-- Results of the integer operations of the cores: RegisterOperationResult, UnaryOperationResult, ImmediateOperationResult. -/
def Obligations.IntegerResults : Prop :=
  Claims.RegisterOperationResult ∧ Claims.UnaryOperationResult ∧ Claims.ImmediateOperationResult

/-- CLZ, CTZ and POPC count what their names say, over all words. -/
def Obligations.BitCounts : Prop :=
  ∀ a : Word,
    (a = 0 → leadingZeros a = 72 ∧ trailingZeros a = 72 ∧ setBitsOf a = 0) ∧
    (∀ k, k < 72 → a.getLsbD k = true → (∀ j, k < j → j < 72 → a.getLsbD j = false) → leadingZeros a = BitVec.ofNat 72 (71 - k)) ∧
    (∀ k, k < 72 → a.getLsbD k = true → (∀ j, j < k → a.getLsbD j = false) → trailingZeros a = BitVec.ofNat 72 k) ∧
    setBitsOf a = BitVec.ofNat 72 ((List.range 72).countP (fun k => a.getLsbD k))

/-- SEL, OUNPACK, OPACK and CRC, for every value of their fn field that is defined (R372, R390, R391). -/
def Obligations.SelectAndPackResult : Prop :=
  ∀ (s r : State) (n : Nat) (gd ga gb : BitVec 5) (fn : BitVec 14), Ready s n r →
    let a := r.g n ga.toNat
    let b := r.g n gb.toNat
    let f := fn.toNat
    let pair := b.toNat * 2 ^ 72 + a.toNat
    (∀ c, f / 256 = 0 → selCond (f / 32) a = some c →
      exec (.sel n gd ga gb fn) s = .next (wrote r n gd (if c then b else r.g n (f % 32)))) ∧
    (f ≤ 10 → exec (.ounpack n gd ga gb fn) s = .next (wrote r n gd
      ((List.range 8).foldl (fun w j => putField w (9 * j) 8 (pair / 2 ^ (8 * (f + j)) % 256)) 0))) ∧
    (4096 ≤ f ∧ f ≤ 4103 → exec (.opack n gd ga gb fn) s = .next (wrote r n gd
      ((List.range 9).foldl (fun w j => putField w (8 * j) 8 (pair / 2 ^ (9 * (f % 16 + j)) % 256)) 0))) ∧
    (f < 64 → 4 ≤ f → (f / 2 % 2 = 0 → f / 4 ≤ 8) → (f / 2 % 2 = 1 → f / 4 ≤ 9) →
      exec (.crc n gd ga gb fn) s = .next (wrote r n gd (BitVec.ofNat 72 ((List.range (f / 4)).foldl
        (fun c i => crcOctet (if f % 2 = 1 then 0xEDB88320 else 0x82F63B78) c
          (b.toNat / 2 ^ ((if f / 2 % 2 = 1 then 8 else 9) * i) % 256)) (a.toNat % 2 ^ 32)))))

/-- Conditional branches: the target is taken when the condition holds, and the next instruction follows otherwise; the count of
branches and the trace see the outcome, and a taken branch enters the history (R372, R379, R586). -/
def Claims.BranchResult : Prop :=
  ∀ (s r : State) (n : Nat) (ga gb : BitVec 5) (disp : BitVec 19), Ready s n r → n < 32 →
    let a := r.g n ga.toNat
    let b := r.g n gb.toNat
    ∀ p ∈ [(Instr.beq n ga gb disp, decide (a = b)), (.bne n ga gb disp, decide (a ≠ b)), (.blt n ga gb disp, decide (a.toInt < b.toInt)),
           (.bge n ga gb disp, decide (b.toInt ≤ a.toInt)), (.bltu n ga gb disp, decide (a.toNat < b.toNat)),
           (.bgeu n ga gb disp, decide (b.toNat ≤ a.toNat))],
      let q := traceBranch (r.bump (F.DSK_CBR n)) n p.2
      let target := (((r.scribe n).pc : Int) + disp.toInt * 4).emod (2 ^ 48) |>.toNat
      exec p.1 s = .next (if p.2 then finish (transfer q n target) n (some target) else finish q n (some (nextPc q n)))

/-- JMP, CALL and JALR: the target, the link register, the return stack and the indirect table (R372, R379, R380). -/
def Claims.JumpResult : Prop :=
  ∀ (s r : State) (n : Nat) (disp : BitVec 29) (gd ga : BitVec 5) (fn : BitVec 14), Ready s n r →
    let far := (((r.scribe n).pc : Int) + disp.toInt * 4).emod (2 ^ 48) |>.toNat
    let near := (r.g n ga.toNat + BitVec.ofInt 72 (fn.toInt * 4)).toNat % 2 ^ 48 / 4 * 4
    exec (.jmp n disp) s = .next (finish (transfer r n far) n (some far)) ∧
    (let q := pushReturn r n
     exec (.call n disp) s = .next (finish (transfer (q.setG n 31 (BitVec.ofNat 72 (nextPc q n))) n far) n (some far))) ∧
    ∃ t, exec (.jalr n gd ga 0 fn) s = .next (finish t n (some near)) ∧
      (twf r.scribes = true → twf (r.scribe n).g = true → gd ≠ 0 → t.g n gd.toNat = BitVec.ofNat 72 (nextPc r n)) ∧
      t.mem = r.mem

/-- Branches, jumps and calls: BranchResult, JumpResult. -/
def Obligations.ControlFlow : Prop :=
  Claims.BranchResult ∧ Claims.JumpResult

/-- What FP instructions compute, by instruction: whether gb and gc are operands, whether the instruction rounds, and the result
from the format, the rounding mode and the three operands (R372). -/
def Obligations.FloatResult : Prop :=
  ∀ (s r : State) (n : Nat) (gd ga gb gc : BitVec 5) (fmt : BitVec 1) (rnd : BitVec 3), Ready s n r → n ≠ 32 →
    let p := decide (fmt = 1)
    let a := r.g n ga.toNat
    let b := r.g n gb.toNat
    let c := r.g n gc.toNat
    let m := (fRounding r n rnd.toNat).1
    let t := (fRounding r n rnd.toNat).2
    let x := fUnpack p a
    let y := fUnpack p b
    let z := fUnpack p c
    let did (q : FRes) : State :=
      wrote (t.modScribe n (fun k => { k with sr := tset k.sr 0x010 (tget k.sr 0x010 ||| BitVec.ofNat 72 (q.flags * 8)) })) n gd
        (BitVec.ofNat 72 q.bits)
    (rnd ≠ 5 → rnd ≠ 6 →
      exec (.fmadd n gd ga gb fmt rnd gc) s = .next (did (fFma p m x y z)) ∧
      exec (.fmsub n gd ga gb fmt rnd gc) s = .next (did (fFma p m x y z.negate)) ∧
      exec (.fnmsub n gd ga gb fmt rnd gc) s = .next (did (fFma p m x.negate y z)) ∧
      exec (.fadd n gd ga gb fmt rnd 0) s = .next (did (fAdd p m x y)) ∧
      exec (.fsub n gd ga gb fmt rnd 0) s = .next (did (fAdd p m x y.negate)) ∧
      exec (.fmul n gd ga gb fmt rnd 0) s = .next (did (fMul p m x y)) ∧
      exec (.fdiv n gd ga gb fmt rnd 0) s = .next (did (fDiv p m x y)) ∧
      exec (.fsqrt n gd ga 0 fmt rnd 0) s = .next (did (fSqrt p m x)) ∧
      exec (.fcvt n gd ga 0 fmt rnd 0) s = .next (did (fConvert p m a)) ∧
      exec (.fcvti n gd ga 0 fmt rnd 0) s = .next (did (fToInt p m true a)) ∧
      exec (.fcvtu n gd ga 0 fmt rnd 0) s = .next (did (fToInt p m false a)) ∧
      exec (.icvtf n gd ga 0 fmt rnd 0) s = .next (did (fFromInt p m a.toInt)) ∧
      exec (.ucvtf n gd ga 0 fmt rnd 0) s = .next (did (fFromInt p m a.toNat))) ∧
    (rnd = 0 →
      exec (.fmin n gd ga gb fmt 0 0) s = .next (did (fMinMax p false a b)) ∧
      exec (.fmax n gd ga gb fmt 0 0) s = .next (did (fMinMax p true a b)) ∧
      exec (.feq n gd ga gb fmt 0 0) s = .next (did (fCompare p true fSame a b)) ∧
      exec (.flt n gd ga gb fmt 0 0) s = .next (did (fCompare p false fLess a b)) ∧
      exec (.fle n gd ga gb fmt 0 0) s = .next (did (fCompare p false (fun u v => fLess u v || fSame u v) a b)) ∧
      exec (.fclass n gd ga 0 fmt 0 0) s = .next (did (fClass p a)) ∧
      exec (.fscopy n gd ga gb fmt 0 0) s = .next (did (fWithSign p a (fNeg p b))) ∧
      exec (.fsncopy n gd ga gb fmt 0 0) s = .next (did (fWithSign p a (!fNeg p b))) ∧
      exec (.fsxor n gd ga gb fmt 0 0) s = .next (did (fWithSign p a (fNeg p a != fNeg p b))))

/-- Loads: when the address form is defined and the access succeeds, the base register takes its update, gd the extended value, and
the next instruction follows (R364, R371, R372). -/
def Claims.LoadResult : Prop :=
  ∀ (s r q : State) (n : Nat) (gd ga : BitVec 5) (mode : BitVec 3) (imm : BitVec 16) (err : MemErr) (v : Word), Ready s n r →
    ∀ p ∈ [(Instr.lb n gd ga mode imm err, 0x20, 1, (v.setWidth 9).signExtend 72), (.lbu n gd ga mode imm err, 0x21, 1, (v.setWidth 9).setWidth 72),
           (.lq n gd ga mode imm err, 0x22, 2, (v.setWidth 18).signExtend 72), (.lqu n gd ga mode imm err, 0x23, 2, (v.setWidth 18).setWidth 72),
           (.lh n gd ga mode imm err, 0x24, 4, (v.setWidth 36).signExtend 72), (.lhu n gd ga mode imm err, 0x25, 4, (v.setWidth 36).setWidth 72),
           (.lw n gd ga mode imm err, 0x26, 8, v)],
      ∀ ea u, effAddr r n gd.toNat ga.toNat mode.toNat imm.toNat p.2.2.1 true = some (ea, u) →
        memLoad r (accOf r n 0 (encM p.2.1 gd.toNat ga.toNat mode.toNat imm.toNat)) ea p.2.2.1 err = (.ok v, q) →
        exec p.1 s = .next (let w := (updateBase q n ga.toNat u).setG n gd.toNat p.2.2.2
          finish (coreCompare w n 1 (ea.toNat % 2 ^ 48) p.2.2.2) n (some (nextPc w n)))

/-- Stores: when the address form is defined and the access succeeds, the base register takes its update and the next instruction
follows; `q` is the state with the bytes stored (R364, R371, R372). -/
def Claims.StoreResult : Prop :=
  ∀ (s r q : State) (n : Nat) (gd ga : BitVec 5) (mode : BitVec 3) (imm : BitVec 16) (err : MemErr), Ready s n r →
    let v := r.g n gd.toNat
    ∀ p ∈ [(Instr.sb n gd ga mode imm err, 0x28, 1), (.sq n gd ga mode imm err, 0x29, 2), (.sh n gd ga mode imm err, 0x2A, 4),
           (.sw n gd ga mode imm err, 0x2B, 8)],
      ∀ ea u, effAddr r n gd.toNat ga.toNat mode.toNat imm.toNat p.2.2 false = some (ea, u) →
        memStore r (accOf r n 1 (encM p.2.1 gd.toNat ga.toNat mode.toNat imm.toNat)) ea p.2.2 v err = (.ok (), q) →
        exec p.1 s = .next (let w := updateBase q n ga.toNat u
          finish (coreCompare w n 2 (ea.toNat % 2 ^ 48) (v &&& BitVec.ofNat 72 (2 ^ (9 * p.2.2) - 1))) n (some (nextPc w n)))

/-- The address forms of loads and stores, and the forms that are undefined (R371). -/
def Claims.AddressForms : Prop :=
  ∀ (r : State) (n gd ga : Nat) (imm : BitVec 16) (size : Nat) (load : Bool),
    let a := r.g n ga
    let i := imm.signExtend 72
    let upd := ga ≠ 0 ∧ ¬ (load = true ∧ gd = ga)
    effAddr r n gd ga 0 imm.toNat size load = some (a + i, none) ∧
    effAddr r n gd ga 1 imm.toNat size load = some (a + i * BitVec.ofNat 72 size, none) ∧
    (upd → effAddr r n gd ga 2 imm.toNat size load = some (a, some (a + i)) ∧
           effAddr r n gd ga 3 imm.toNat size load = some (a + i, some (a + i))) ∧
    (¬ upd → effAddr r n gd ga 2 imm.toNat size load = none ∧ effAddr r n gd ga 3 imm.toNat size load = none) ∧
    (imm.toNat < 32 → effAddr r n gd ga 4 imm.toNat size load = some (a + r.g n imm.toNat * BitVec.ofNat 72 size, none)) ∧
    (32 ≤ imm.toNat → effAddr r n gd ga 4 imm.toNat size load = none) ∧
    (load = true ∧ ga = 0 → effAddr r n gd ga 5 imm.toNat size load = some (BitVec.ofNat 72 (r.scribe n).pc + (i <<< 2), none)) ∧
    (¬ (load = true ∧ ga = 0) → effAddr r n gd ga 5 imm.toNat size load = none) ∧
    effAddr r n gd ga 6 imm.toNat size load = none ∧ effAddr r n gd ga 7 imm.toNat size load = none

/-- Loads, stores and their address forms: LoadResult, StoreResult, AddressForms. -/
def Obligations.MemoryAccess : Prop :=
  Claims.LoadResult ∧ Claims.StoreResult ∧ Claims.AddressForms

/-- LR and SC: a reservation on the word's address, and a store that happens only while the reservation names it (R392). -/
def Claims.LoadReserveStoreConditional : Prop :=
  ∀ (s r u : State) (n : Nat) (gd ga gb : BitVec 5) (err : MemErr) (p : Part), Ready s n r → n ≠ 32 →
    let ea := r.g n ga.toNat
    let x := accOf r n 0 (encR 0x04 gd.toNat ga.toNat 0 0)
    let y := accOf r n 1 (encR 0x04 gd.toNat ga.toNat gb.toNat 1)
    (∀ v q, wordPlace r x ea = (.ok p, u) → readPart u x p true err = (.ok v, q) →
      exec (.lr n gd ga 0 err) s = .next (
        let w := q.modScribe n (fun c => { c with resv := some p.pa })
        let kept := (w.desk (n / 8)).holds.filter (fun h => decide (w.now < h.2) && decide (h.1 ≠ p.pa / 64))
        let w := w.setDesk (n / 8) { w.desk (n / 8) with holds := (p.pa / 64, w.now + 64000 / deskMhz w (n / 8)) :: kept }
        let w := w.setG n gd.toNat v
        finish (coreCompare w n 1 (ea.toNat % 2 ^ 48) v) n (some (nextPc w n)))) ∧
    (wordPlace r y ea = (.ok p, u) → dramFault u p.pa = none →
      ((u.scribe n).resv ≠ some p.pa → exec (.sc n gd ga gb err) s =
        .next (wrote ((u.modScribe n (fun c => { c with resv := none })).bump (F.DSK_SCFAIL n)) n gd 1)) ∧
      ∀ z l q, (u.scribe n).resv = some p.pa → drainAll u n = (true, z) → cacheRead z n (p.pa / 64) true err = (.ok (l, false), q) →
        (q.scribe n).resv = some p.pa → exec (.sc n gd ga gb err) s = .next (
          let v := r.g n gb.toNat
          let w := ((l2Write q n (p.pa / 64) (maskBytes p.pa v allOnes)).modScribe n (fun c => { c with resv := none })).setG n gd.toNat 0
          finish (coreCompare w n 2 (ea.toNat % 2 ^ 48) v) n (some (nextPc w n))))

/-- The oldest entry of a store buffer, written into a line that the desk holds in M: its bytes take the values stored, and no other
line of the L2 and no DRAM changes (R363, R450, R462). -/
def Claims.StoreBufferDrain : Prop :=
  ∀ (s : State) (t n line : Nat) (wr : List (Nat × Nat)) (rest : List (Nat × List (Nat × Nat))), n < 32 → s.Inv →
    ((s.tick t).scribe n).sb = (line, wr) :: rest → (s.l2 (n / 8) line).st = 4 → s.now ≤ t →
    ∃ u, exec (.storeBufferDrain t n) s = .next u ∧ (u.scribe n).sb = rest ∧ u.mem.dram = s.mem.dram ∧
      (u.l2 (n / 8) line).words = writeBytes (s.l2 (n / 8) line).words wr ∧ (u.l2 (n / 8) line).st = 4 ∧
      ∀ d l, l ≠ line → u.l2 d l = s.l2 d l

/-- LR, SC and the store buffer: LoadReserveStoreConditional, StoreBufferDrain. -/
def Obligations.ReservationAndDrain : Prop :=
  Claims.LoadReserveStoreConditional ∧ Claims.StoreBufferDrain

/-- BMOVE, BFILL and BSCAN: with no byte left they are over; a step moves, fills or compares the bytes up to the next line boundary,
its registers are moved past them, and the instruction stays the present one while bytes are left (R386 to R389). -/
def Claims.BlockStepResult : Prop :=
  ∀ (s r : State) (n : Nat) (gd ga gb : BitVec 5) (err : MemErr), Ready s n r →
    blockOk n gd.toNat ga.toNat gb.toNat = true →
    let h (fn : Nat) := encR 0x07 gd.toNat ga.toNat gb.toNat fn
    let dst := r.g n gd.toNat
    let src := r.g n ga.toNat
    let left := r.g n gb.toNat
    let w (k : Nat) := BitVec.ofNat 72 k
    let step' (q : State) : State := finish q n (if q.g n gb.toNat = 0 then some (nextPc q n) else none)
    (left = 0 → exec (.bmove n gd ga gb err) s = .next (passed r n) ∧ exec (.bfill n gd ga gb err) s = .next (passed r n) ∧
      exec (.bscan n gd ga gb 0x2000 err) s = .next (passed r n)) ∧
    (∀ ps pd l u v z q, left ≠ 0 →
      let k := min left.toNat (min (toLineEnd src) (toLineEnd dst))
      k ≤ (dst - src).toNat → blockPlace r (accOf r n 0 (h 0)) src k = (.ok ps, u) →
      blockPlace u (accOf u n 1 (h 0)) dst k = (.ok pd, v) → readBytes v (accOf v n 0 (h 0)) ps false err = (.ok l, z) →
      l.length = k → blockWrite z n pd l = (.ok (), q) →
      exec (.bmove n gd ga gb err) s = .next (step' (
        let q := ((q.setG n gd.toNat (dst + w k)).setG n ga.toNat (src + w k)).setG n gb.toNat (left - w k)
        coreCompare (coreCompare q n 1 (src.toNat % 2 ^ 48) (byteValue (l.take 8))) n 2 (dst.toNat % 2 ^ 48) (byteValue (l.take 8))))) ∧
    (∀ pd v q, left ≠ 0 →
      let k := min left.toNat (toLineEnd dst)
      blockPlace r (accOf r n 1 (h 1)) dst k = (.ok pd, v) →
      let z := if pd.attr = 0 then storeErr v n (pd.pa / 64) err else v
      let l := (List.range k).map (fun i => getField (z.g n ga.toNat) (9 * ((dst.toNat + i) % 8)) 9)
      blockWrite z n pd l = (.ok (), q) →
      exec (.bfill n gd ga gb err) s = .next (step' (coreCompare ((q.setG n gd.toNat (dst + w k)).setG n gb.toNat (left - w k)) n 2
        (dst.toNat % 2 ^ 48) (byteValue (l.take 8))))) ∧
    (∀ (fn : BitVec 14) p l u q, left ≠ 0 → fn.toNat / 4096 = 2 → fn.toNat / 8 % 512 = 0 →
      let b := 2 ^ (fn.toNat % 4)
      dst.toNat % b = 0 → left.toNat % b = 0 →
      let k := min left.toNat (toLineEnd dst)
      let x := accOf r n 0 (h fn.toNat)
      blockPlace r x dst k = (.ok p, u) → readBytes u x p false err = (.ok l, q) →
      let t := coreCompare q n 1 (dst.toNat % 2 ^ 48) (byteValue (l.take 8))
      let hit (j : Nat) : Bool :=
        decide ((byteValue ((l.drop (j * b)).take b)).toNat = getField (q.g n ga.toNat) 0 (9 * b)) != decide (fn.toNat / 4 % 2 = 1)
      (∀ j, j < k / b → hit j = true → (∀ i, i < j → hit i = false) → exec (.bscan n gd ga gb fn err) s = .next (
        let m := w (j * b)
        finish ((t.setG n gd.toNat (dst + m)).setG n gb.toNat (left - m)) n (some (nextPc t n)))) ∧
      ((∀ i, i < k / b → hit i = false) →
        exec (.bscan n gd ga gb fn err) s = .next (step' ((t.setG n gd.toNat (dst + w k)).setG n gb.toNat (left - w k)))))

/-- Block instructions whose operands are the same register or g0 are illegal (R386). -/
def Claims.BlockFormsRefused : Prop :=
  ∀ (s r : State) (n : Nat) (gd ga gb : BitVec 5) (fn : BitVec 14) (err : MemErr), Ready s n r →
    n = 32 ∨ gd = 0 ∨ ga = 0 ∨ gb = 0 ∨ gd = ga ∨ gd = gb ∨ ga = gb →
    ∀ i ∈ [Instr.bmove n gd ga gb err, .bfill n gd ga gb err, .bscan n gd ga gb fn err],
      ∃ h, exec i s = .next (trap r n { code := 1, inst := h })

/-- BMOVE, BFILL and BSCAN, and their illegal forms: BlockStepResult, BlockFormsRefused. -/
def Obligations.BlockInstructions : Prop :=
  Claims.BlockStepResult ∧ Claims.BlockFormsRefused

/-- FENCE, IFENCE, TIME, MFSR, MTSR, WFI, TLBI and the cache maintenance instructions, in a mode that may run them (R372, R385,
R395, R396, R401, R402, R420, R425, R426, R444, R453). -/
def Claims.SystemResult : Prop :=
  ∀ (s r : State) (n : Nat) (gd ga gb : BitVec 5) (num : BitVec 10) (err : MemErr), Ready s n r →
    let a := r.g n ga.toNat
    let lvl := coreLevel r n
    let code := num.toNat
    exec (.fence n gd ga gb 2) s = .next (passed r n) ∧
    (∀ q, storesVisible r n = (true, q) → exec (.fence n gd ga gb 0) s = .next (passed q n) ∧
      exec (.fence n gd ga gb 1) s = .next (passed q n) ∧ exec (.ifence n gd ga gb) s = .next (passed q n)) ∧
    (∀ row, sregRow n code = some row → row.rd ≠ 3 → row.rd ≤ lvl →
      (code ≠ 9 → exec (.mfsr n gd ga gb num) s = .next (wrote r n gd (sregValue r n code))) ∧
      (code = 9 → exec (.mfsr n gd ga gb num) s = .next (wrote (iackRead r n).2 n gd (iackRead r n).1))) ∧
    (∀ row, sregRow n code = some row → row.wr ≠ 3 → row.wr ≤ lvl →
      (code ≠ 0 → code ≠ 10 → code ≠ 12 → exec (.mtsr n gd ga 0 num) s = .next (passed (sregPut r n code a) n)) ∧
      (code = 10 → exec (.mtsr n gd ga 0 num) s = .next (passed (ieoiWrite r n a.toNat) n)) ∧
      (code = 12 → exec (.mtsr n gd ga 0 num) s = .next (passed (swiWrite r a.toNat) n)) ∧
      (code = 0 → lvl = 2 → getField a 0 2 ≠ 3 → (n = 32 → getField a 0 2 = 2) → exec (.mtsr n gd ga 0 num) s = .next (passed (setStatus r n a) n)) ∧
      (code = 0 → lvl = 1 → getField a 0 2 < 2 → n ≠ 32 →
        exec (.mtsr n gd ga 0 num) s = .next (passed (setStatus r n (putField a 2 4 (min 13 (getField a 2 4)))) n))) ∧
    (lvl ≠ 0 → n < 32 → (icuClaimable r n).isSome → exec (.wfi n gd ga gb) s = .next (passed r n)) ∧
    (n ≠ 32 → code ≤ 7 → lvl = 2 ∨ (lvl = 1 ∧ code < 4) → ∀ u q, storesVisible r n = (true, u) →
      allVisible (tlbInvalidate u n code (u.g n ga.toNat) (u.g n gb.toNat)) = (true, q) →
      exec (.tlbi n gd ga gb num) s = .next (passed q n)) ∧
    (n ≠ 32 →
      (∀ p q z, linePlace r n (encR 0x09 gd.toNat ga.toNat 0 0x00A) 0 a = (.ok (p, 0), q) →
        cleanLine (if (q.l2 (n / 8) (p / 64)).st = 0 then q else storeErr q n (p / 64) err) (n / 8) (p / 64) = some z →
        exec (.dclean n gd ga 0 err) s = .next (passed z n)) ∧
      (∀ p q z, linePlace r n (encR 0x09 gd.toNat ga.toNat 0 0x00B) 0 a = (.ok (p, 0), q) →
        cleanLine (if (q.l2 (n / 8) (p / 64)).st = 0 then q else storeErr q n (p / 64) err) (n / 8) (p / 64) = some z →
        exec (.dflush n gd ga 0 err) s = .next (passed (z.l2Lose (n / 8) (p / 64)) n)) ∧
      (∀ p q z, linePlace r n (encR 0x09 gd.toNat ga.toNat 0 0x00C) 1 a = (.ok (p, 0), q) →
        acquireZero (if (q.l2 (n / 8) (p / 64)).st = 0 then q else storeErr q n (p / 64) err) n (p / 64) = (true, z) →
        exec (.dzero n gd ga 0 err) s = .next (passed (l2Write z n (p / 64) (lineBytes zeroLine)) n)))

/-- TIME gives device time as a time word, 48 bits of seconds and 24 of fractions (R99, R385). -/
def Claims.TimeResult : Prop :=
  ∀ (s r : State) (t n : Nat) (gd ga gb : BitVec 5), Ready (s.tick t) n r →
    exec (.time t n gd ga gb) s = .next (wrote r n gd (timeWord r.devTime))

/-- A WFI with no interrupt to wake it leaves the scribe waiting (R420). -/
def Claims.WaitForInterrupt : Prop :=
  ∀ (s f : State) (n : Nat) (gd ga gb : BitVec 5), n < 32 → coreIssues s n = true → (s.scribe n).haltReq = false →
    coreInterrupt s n = none → fetch s n = (.ok (), f) → fetchHalts f n (f.scribe n).pc = false →
    ∀ r, r = coreCompare f n 0 (f.scribe n).pc 0 → coreLevel r n ≠ 0 → coreLevel f n ≠ 0 → icuClaimable r n = none → icuClaimable f n = none →
      exec (.wfi n gd ga gb) s = .next (f.wr (F.DSK_SST n) 2)

/-- At U, the privileged instructions and the registers above U raise the privileged-instruction fault, and so does a write of
STATUS at K that would raise the level; a write of STATUS at H to the level that does not exist is illegal (R372, R401, R402, R404). -/
def Claims.PrivilegedFaults : Prop :=
  ∀ (s r : State) (n : Nat) (gd ga gb : BitVec 5) (num : BitVec 10), Ready s n r →
    let bad (i : Instr) : Prop := ∃ b h, exec i s = .next (trap r n { code := 2, atH := b, inst := h })
    (n ≠ 32 → coreLevel r n = 0 →
      bad (.eret n gd ga gb) ∧ bad (.wfi n gd ga gb) ∧ (num.toNat ≤ 7 → bad (.tlbi n gd ga gb num))) ∧
    (∀ row, sregRow n num.toNat = some row →
      (row.rd ≠ 3 → coreLevel r n < row.rd → bad (.mfsr n gd ga gb num)) ∧
      (row.wr ≠ 3 → coreLevel r n < row.wr → bad (.mtsr n gd ga 0 num))) ∧
    (n ≠ 32 → coreLevel r n = 1 → 4 ≤ num.toNat → num.toNat ≤ 7 → bad (.tlbi n gd ga gb num)) ∧
    (n ≠ 32 → coreLevel r n = 1 → 2 ≤ getField (r.g n ga.toNat) 0 2 → bad (.mtsr n gd ga 0 0)) ∧
    (coreLevel r n = 2 → getField (r.g n ga.toNat) 0 2 = 3 →
      ∃ h, exec (.mtsr n gd ga 0 0) s = .next (trap r n { code := 1, inst := h }))

/-- System instructions: their effect where they may run, and the faults where they may not: SystemResult, TimeResult,
WaitForInterrupt, PrivilegedFaults. -/
def Obligations.SystemInstructions : Prop :=
  Claims.SystemResult ∧ Claims.TimeResult ∧ Claims.WaitForInterrupt ∧ Claims.PrivilegedFaults

/-- A time word holds the seconds in [71:32] and, in [31:0], the nanoseconds of the second in units of 2^-32 s, rounded to nearest;
different times give different words (R99). -/
def Obligations.TimeWordLayout : Prop :=
  ∀ sec n : Nat, sec < 2 ^ 40 → n < 10 ^ 9 →
    getField (timeWord (sec * 10 ^ 9 + n)) 32 40 = sec ∧
    2 * (n * 2 ^ 32) < (2 * getField (timeWord (sec * 10 ^ 9 + n)) 0 32 + 1) * 10 ^ 9 ∧
    2 * getField (timeWord (sec * 10 ^ 9 + n)) 0 32 * 10 ^ 9 ≤ 2 * (n * 2 ^ 32) + 10 ^ 9 ∧
    wordTime (timeWord (sec * 10 ^ 9 + n)) = some (sec * 10 ^ 9 + n)

/-- SYSCALL and BRK take their exceptions; while a debugger is attached and the core's bit of DBG_BRKH is 1, BRK halts the core
instead (R404, R419, R577). -/
def Claims.SystemCallAndBreak : Prop :=
  ∀ (s r : State) (n : Nat) (gd ga gb : BitVec 5) (sub : BitVec 10), Ready s n r →
    exec (.syscall n gd ga gb sub) s = .next (trap r n { code := 8, num := sub.toNat, inst := encR 0x09 gd.toNat ga.toNat gb.toNat (sub.toNat * 16), atH := decide (coreLevel r n = 1 ∧ getField (r.scribe n).hctl 0 1 = 1) }) ∧
    (r.isSet F.BLT_ATTACH = false ∨ bitOf (r.rd F.BLT_BRKH) n = false →
      exec (.brk n gd ga gb) s = .next (trap r n { code := 9, inst := encR 0x09 gd.toNat ga.toNat gb.toNat 8 })) ∧
    (r.isSet F.BLT_ATTACH = true → bitOf (r.rd F.BLT_BRKH) n = true →
      exec (.brk n gd ga gb) s = .next (finish (r.modScribe n (fun c => { c with haltReq := true })) n none))

/-- ERET reads the saved PC and STATUS at the exception stack pointer, moves it past the frame, clears the reservation and goes on
there (R417, R418). -/
def Claims.ReturnFromException : Prop :=
  ∀ (s r u q : State) (n : Nat) (gd ga gb : BitVec 5) (w0 w1 : Word), Ready s n r →
    let h := encR 0x09 gd.toNat ga.toNat gb.toNat 1
    let c := coreLevel r n
    let esp := sr r n (espNum c)
    let lvl := getField w1 0 2
    c ≠ 0 → memLoad r (accOf r n 0 h) esp 8 .clean = (.ok w0, u) → memLoad u (accOf r n 0 h) (esp + 8) 8 .clean = (.ok w1, q) →
    ((n = 32 → lvl = 2) → lvl ≤ c → lvl ≠ 3 → (lvl = 2 → getField (q.scribe n).hctl 0 1 = 1) → exec (.eret n gd ga gb) s = .next (
      let pc := getField w0 0 48 / 4 * 4
      let z := q.modScribe n (fun k => { k with sr := tset k.sr (espNum c) (esp + 64), resv := none })
      finish (tracePacket (setStatus z n w1) n 2 (pc + 3) none) n (some pc))) ∧
    (n ≠ 32 → lvl = 3 ∨ c < lvl → exec (.eret n gd ga gb) s = .next (trap q n { code := 0x0A, inst := h }))

/-- SYSCALL, BRK and ERET: SystemCallAndBreak, ReturnFromException. -/
def Obligations.CallsAndReturns : Prop :=
  Claims.SystemCallAndBreak ∧ Claims.ReturnFromException

/-- An entry at a level: the PC is the vector base and 40h times the code, STATUS holds the level and the mask, the exception stack
pointer is below the frame, and the reservation is gone (R408, R413). -/
def Claims.ExceptionEntryState : Prop :=
  ∀ (s : State) (n : Nat) (e : Entry) (esp : Word), s.Inv → e.level = 1 ∨ e.level = 2 → e.mask < 16 →
    let t := entered s n e esp
    (t.scribe n).pc = (getField (sr s n (vbNum e.level)) 0 48 + e.code * 0x40) % 2 ^ 48 ∧
    scribeLevel (t.scribe n) = e.level ∧ scribeMask (t.scribe n) = e.mask ∧ getField (t.scribe n).status 6 1 = 0 ∧
    sr t n (espNum e.level) = esp ∧ (t.scribe n).resv = none ∧
    (∀ q, t.g n q = s.g n q) ∧ (∀ m, m ≠ n → t.scribe m = s.scribe m) ∧ t.mem = s.mem

/-- A synchronous exception whose class lies above MASK and whose stack has room is entered at the level its class and the core's
level give, its frame written below the exception stack pointer; the class becomes the mask (R403, R404, R408 to R411). -/
def Claims.ExceptionTaken : Prop :=
  ∀ (s q : State) (n : Nat) (x : Exc), x.code ≤ 0x0A → scribeMask (s.scribe n) < classLevel x.code →
    let level := if n = 32 ∨ x.atH then 2 else max 1 (scribeLevel (s.scribe n))
    let e : Entry := { level := level, code := x.code, orig := x.code, num := x.num, mask := classLevel x.code, x := x }
    let esp := sr s n (espNum level) - 64
    (sr s n (slimNum level)).toNat ≤ esp.toNat → writeFrame s n level esp (excFrame s n e) = (.ok (), q) →
    raiseExc s n x = (.ok (), entered q n e esp)

/-- An exception whose class does not lie above MASK escalates to an entry at H with MASK 15; under MASK 15 the core locks up, the
management controller restarting (R414, R415, R539). -/
def Claims.EscalationAndLockup : Prop :=
  ∀ (s : State) (n : Nat) (x : Exc), classLevel x.code ≤ scribeMask (s.scribe n) →
    (scribeMask (s.scribe n) = 15 → n < 32 → raiseExc s n x = (.ok (), scribeLock s n 1 x.saved)) ∧
    (scribeMask (s.scribe n) = 15 → n = 32 → raiseExc s n x = (.ok (), mcRestart s 2)) ∧
    (scribeMask (s.scribe n) ≠ 15 → ∀ q,
      let e : Entry := { level := 2, code := 0x0C, orig := x.code, mask := 15, x := x }
      let esp := sr s n 0x004 - 64
      (sr s n 0x005).toNat ≤ esp.toNat + 128 → esp.toNat + 128 < 2 ^ 72 → writeFrame s n 2 esp (excFrame s n e) = (.ok (), q) →
      raiseExc s n x = (.ok (), entered q n e esp))

/-- Entries of exceptions, escalation and lockup: ExceptionEntryState, ExceptionTaken, EscalationAndLockup. -/
def Obligations.ExceptionEntries : Prop :=
  Claims.ExceptionEntryState ∧ Claims.ExceptionTaken ∧ Claims.EscalationAndLockup

/-- What an instruction that writes one general register leaves unchanged: every other general register, every other core, STATUS,
HCTL, the system registers, the reservation, the store buffer and memory; and, unless the core halts at it, every word of the
register pages but the scribe's PC and instruction count. -/
def Claims.RegisterInstructionFrame : Prop :=
  ∀ (s r t : State) (n : Nat) (gd ga gb : BitVec 5) (imm : BitVec 19), Ready s n r →
    ∀ i ∈ [Instr.add n gd ga gb, .sub n gd ga gb, .and n gd ga gb, .or n gd ga gb, .xor n gd ga gb, .andn n gd ga gb, .sll n gd ga gb,
           .srl n gd ga gb, .sra n gd ga gb, .ror n gd ga gb, .slt n gd ga gb, .sltu n gd ga gb, .min n gd ga gb, .max n gd ga gb,
           .minu n gd ga gb, .maxu n gd ga gb, .mul n gd ga gb, .mulh n gd ga gb, .mulhu n gd ga gb, .div n gd ga gb,
           .divu n gd ga gb, .rem n gd ga gb, .remu n gd ga gb, .clz n gd ga 0, .ctz n gd ga 0, .popc n gd ga 0, .sxb n gd ga 0,
           .sxq n gd ga 0, .sxh n gd ga 0, .zxb n gd ga 0, .zxq n gd ga 0, .zxh n gd ga 0, .addi n gd ga imm, .andi n gd ga imm,
           .ori n gd ga imm, .xori n gd ga imm, .slti n gd ga imm, .sltiu n gd ga imm, .shin n gd ga imm, .addpc n gd 0 imm],
      exec i s = .next t →
      (∀ q, q ≠ gd.toNat → t.g n q = r.g n q) ∧ (∀ m, m ≠ n → t.scribe m = r.scribe m) ∧
      (t.scribe n).status = (r.scribe n).status ∧ (t.scribe n).hctl = (r.scribe n).hctl ∧ (t.scribe n).sr = (r.scribe n).sr ∧
      (t.scribe n).resv = (r.scribe n).resv ∧ (t.scribe n).sb = (r.scribe n).sb ∧ t.mem = r.mem ∧ t.inkwell = r.inkwell ∧
      ((r.scribe n).stepping = false → (r.scribe n).haltReq = false →
        ∀ a, a ≠ (F.DSK_PC n).addr → a ≠ (F.DSK_INST n).addr → t.word a = r.word a)

/-- What comes before an instruction, its interrupts, fetch and comparators, changes no general register, no mode and no PC. -/
def Claims.FetchKeepsRegisters : Prop :=
  ∀ (s r : State) (n : Nat), Ready s n r →
    (∀ q, r.g n q = s.g n q) ∧ (r.scribe n).pc = (s.scribe n).pc ∧ (r.scribe n).status = (s.scribe n).status ∧
    (r.scribe n).sr = (s.scribe n).sr ∧ (r.scribe n).hctl = (s.scribe n).hctl ∧ r.pending = s.pending ∧ r.now = s.now

/-- What register instructions and the fetch before them leave unchanged: RegisterInstructionFrame, FetchKeepsRegisters. -/
def Obligations.RegisterInstructionFrames : Prop :=
  Claims.RegisterInstructionFrame ∧ Claims.FetchKeepsRegisters

/-- A store of a scribe within one line of a cacheable page changes no memory: it enters the scribe's store buffer, in which the
scribe's own loads find the bytes stored at their places, and every other byte as before (R363, R461). -/
def Obligations.StoreFrame : Prop :=
  ∀ (s r u : State) (n : Nat) (gd ga : BitVec 5) (mode : BitVec 3) (imm : BitVec 16) (p : Part), Ready s n r → n < 32 →
    ∀ i ∈ [(Instr.sb n gd ga mode imm .clean, 0x28, 1), (.sq n gd ga mode imm .clean, 0x29, 2), (.sh n gd ga mode imm .clean, 0x2A, 4),
           (.sw n gd ga mode imm .clean, 0x2B, 8)],
      ∀ ea b, effAddr r n gd.toNat ga.toNat mode.toNat imm.toNat i.2.2 false = some (ea, b) →
        locate r (accOf r n 1 (encM i.2.1 gd.toNat ga.toNat mode.toNat imm.toNat)) ea i.2.2 = (.ok [p], u) → p.attr = 0 → p.len = i.2.2 →
        dramFault u p.pa = none → (u.scribe n).sb.length < 8 →
        ∃ t, exec i.1 s = .next t ∧ t.mem = u.mem ∧
          (∀ m, m ≠ n → (t.scribe m).sb = (u.scribe m).sb) ∧
          ∀ line at', ((ownBytes t n line).reverse.find? (fun e => e.1 == at')).map Prod.snd =
            if line = p.pa / 64 ∧ p.pa % 64 ≤ at' ∧ at' < p.pa % 64 + i.2.2 then
              some (getField (r.g n gd.toNat) (9 * (at' - p.pa % 64)) 9)
            else ((ownBytes u n line).reverse.find? (fun e => e.1 == at')).map Prod.snd

/-! ### Instructions of the nibs -/

/-- Every instruction of the nibs but END, REL, IN and OUT, as `NibRow` lists them with their checks and effects: when its condition
holds and no check fails, the nib is moved past it and takes its effect, and nothing else changes but what comparators do at its
accesses (R279, R282, R288 to R302, R582). -/
def Obligations.NibInstructionResult : Prop :=
  ∀ (s r : State) (f n : Nat) (k : BitVec 3) (o : BitVec 6) (e : BitVec 14) (c : RunCtx), s.Inv → (s.nib f n).holds k = true →
    ∀ p, NibRow c (s.nib f n) f n k o e .clean p → NibReady s f n k c p.2.2.1 r →
      exec p.1 s = .next (nibDone r f n c (s.nib f n) p.2.2.1 p.2.2.2)

/-- A nib's instruction whose condition does not hold changes nothing but the nib's place and its cycles (R282, R301); a LOOP then
skips its body (R300). -/
def Claims.NibConditionFails : Prop :=
  ∀ (s r : State) (f n : Nat) (k : BitVec 3) (o : BitVec 6) (e : BitVec 14) (c : RunCtx), s.Inv → (s.nib f n).holds k = false →
    ∀ p, NibRow c (s.nib f n) f n k o e .clean p → NibReady s f n k c p.2.2.1 r →
      exec p.1 s = .next (r.setNib f n (
        let b := (s.nib f n).past p.2.2.1
        (if p.2.1 = 3 then { b with pc := afterIns c.x.desc (e.toNat % 2 ^ 13) } else b).looped (s.nib f n).pc))

/-- A nib's instruction that fails a check ends its run with the fault of the first check failed, and has no other effect (R281,
R285, R633); at a parcel of the program whose opcode is of no instruction, the run ends with fault 2h/01h and that parcel (R280). -/
def Claims.NibFaultResult : Prop :=
  ∀ (s r : State) (f n : Nat) (k : BitVec 3) (o : BitVec 6) (e : BitVec 14) (err : NibErr) (c : RunCtx) (kind sub : Nat), err ≠ .corrected →
    ∀ p, NibRow c (s.nib f n) f n k o e err p →
      (NibAt s f n c r → firstFault p.2.2.1 c.x.desc.plen (s.nib f n).pc ((s.nib f n).holds k) err = some (kind, sub) →
        exec p.1 s = .next (faultRun r c kind sub ((s.nib f n).cyc + 1) (k.toNat * 2 ^ 11 + p.2.1 * 2 ^ 6 + o.toNat)
          (if p.2.2.1.ext = true ∧ (s.nib f n).pc + 1 < c.x.desc.plen then some e.toNat else none))) ∧
      (s.rd (F.FER_NST f n) = 1 → slotCtx s f n (s.nib f n).slot = some c → noOpcode c.x.desc (s.nib f n).pc = true →
        nibCompare s f n 0 (c.p.prog + (s.nib f n).pc) = (r, false) → err ≠ .parity → err ≠ .program →
        exec p.1 s = .next (faultRun r c 2 1 ((s.nib f n).cyc + 1) (parcelAt c.x.desc (s.nib f n).pc) none))

/-- END, REL, IN and OUT, their conditions holding: the run ends; outputs are released; a word of a window is read or written, and
an OUT before the release enters the digest of stores (R258, R259, R264, R296, R297, R303). -/
def Claims.NibWindowResult : Prop :=
  ∀ (s r : State) (f n : Nat) (k : BitVec 3) (o : BitVec 6) (e : BitVec 14) (c : RunCtx), s.Inv → (s.nib f n).holds k = true →
    let b := s.nib f n
    let win := o.toNat / 2 % 4
    let x := bitOf o.toNat 0
    let io : NibIns := { cyc := 6, ext := true, undef := decide (6 ≤ o.toNat / 8), range := winRange s c b win x e.toNat }
    (NibAt s f n c r → firstFault { ctlChecks o with isEnd := true } c.x.desc.plen b.pc true .clean = none →
      exec (.nibEnd f n k o e .clean) s = .next (endRun (r.setNib f n (b.past {})) c)) ∧
    (NibReady s f n k c { ctlChecks o with win := if b.released then some 6 else none } r →
      exec (.nibRel f n k o e .clean) s = .next (
        let t := releaseOutputs (r.setNib f n (b.past {})) c
        t.setNib f n ((t.nib f n).looped b.pc))) ∧
    (NibReady s f n k c io r → exec (.nibIn f n k o e .clean) s = .next (nibDone r f n c b io (fun q =>
      let q := q.setPair (o.toNat / 8) (winRead (r.setNib f n (b.past io)) c b win x e.toNat)
      if win = 3 ∧ x = true then { q with a := tset q.a 4 ((tget q.a 4 + 1) % 8192) } else q))) ∧
    (NibReady s f n k c { io with win := if win = 0 ∨ win = 3 then some 4 else if win = 2 ∧ b.released = true then some 5 else none } r →
      exec (.nibOut f n k o e .clean) s = .next (
        let off := e.toNat + (if x then tget b.a 5 else 0)
        let v := b.pair (o.toNat / 8)
        let t := winWrite (r.setNib f n (b.past io)) c (b.past io) win off v
        let q := t.nib f n
        t.setNib f n ((if b.released then q else { q with stores := v :: BitVec.ofNat 72 (win * 2 ^ 18 + off) :: q.stores }).looped b.pc)))

/-- Conditions that fail, faults, windows and the end of a run of a nib: NibConditionFails, NibFaultResult, NibWindowResult. -/
def Obligations.NibOtherOutcomes : Prop :=
  Claims.NibConditionFails ∧ Claims.NibFaultResult ∧ Claims.NibWindowResult

/-! ### Register pages -/

/-- Accesses to a word of a page that lets them through: the write or the read takes place; an access of another size is a bus error
with code 01h; an access that stalled is performed once its block's reset has ended, and one that has waited 2 µs fails with code
04h (R48 to R60). -/
def Claims.RegisterAccessResult : Prop :=
  ∀ (s : State) (t init vf page off size id : Nat) (value : Word),
    let u := s.tick t
    let p := deskWord page off
    pageKind p ≠ none → pageAdmits u init vf p off true = true → pageAdmits u init vf p off false = true →
    (size ≠ 8 → exec (.registerWrite t init vf page off size value) s = .next (u.busErrFor (pageAddr p off) 1 init true) ∧
      exec (.clearOnRead t init vf page off size) s = .next (u.busErrFor (pageAddr p off) 1 init false)) ∧
    (wordFields p off ≠ none → alwaysOn p off = true →
      exec (.registerWrite t init vf page off 8 value) s = .next (pageWrite u init p off value) ∧
      (vf = 0 → exec (.stagedWrite t init page off value) s = .next (pageWrite u init p off value)) ∧
      exec (.clearOnRead t init vf page off 8) s = .next (pageRead u init p off false).2) ∧
    (wordFields p off ≠ none → alwaysOn p off = false → pagePowered u p = true → pageInReset u p = true →
      exec (.registerWrite t init vf page off 8 value) s = .next (u.stall init vf page off true value false)) ∧
    (∀ a : StalledAccess, u.stalledAt id = some a → a.insn = false → u.now < a.issued + 2000 →
      exec (.accessCrossingTimeout t id) s = .next u) ∧
    (∀ a : StalledAccess, u.stalledAt id = some a → a.insn = false → a.issued + 2000 ≤ u.now →
      exec (.accessCrossingTimeout t id) s = .next ((u.unstall id).busErrFor (pageAddr a.page a.off) 4 a.init a.write)) ∧
    (∀ a : StalledAccess, u.stalledAt id = some a → a.insn = false → pageInReset u a.page = false →
      (∀ b ∈ u.stalled, b.id < a.id → b.init = a.init → b.page ≠ a.page) →
      exec (.stalledAccessResume t id) s = .next (commandAccess (u.unstall id) a.init a.vf a.page a.off 8 (if a.write then some a.value else none)))

/-- One visit to a word whose voted fields met upsets: with one copy wrong the word keeps its value, is counted and its offset
recorded; with no upset that differs nothing happens (R62). -/
def Claims.VoteScrubResult : Prop :=
  ∀ (s : State) (t page word : Nat) (up : Word) (l : List FieldDesc), wordFields page word = some l → 2 ≤ word →
    let u := s.tick t
    let m := fieldMask l (fun f => f.voted)
    (∀ written, exec (.voteScrub t page word up up up written) s = .next u) ∧
    (∀ a b c, exec (.voteScrub t page word a b c true) s = .next u) ∧
    (up &&& m ≠ 0 → ∀ p ∈ [((up, 0, 0) : Word × Word × Word), (0, up, 0), (0, 0, up)],
      exec (.voteScrub t page word p.1 p.2.1 p.2.2 false) s = .next ((u.bump (F.HDR_TCNT page)).wr (F.HDR_TOFS page) word))

/-- Words of the inkwells through the mesh window: a word written reads back, and an uncorrectable error that a read meets is
counted (R28, R276). -/
def Claims.InkwellWindowResult : Prop :=
  ∀ (s : State) (t init ferrule addr : Nat) (value : Word), ferrule < 64 → addr < 2 ^ 18 →
    let u := s.tick t
    (regionFault u init (.inkwell ferrule addr) true = none →
      exec (.inkwellWindowWrite t init ferrule addr value) s = .next (u.setInk ferrule addr value)) ∧
    (regionFault u init (.inkwell ferrule addr) false = none →
      exec (.inkwellWindowRead t init ferrule addr .clean) s = .next u ∧
      exec (.inkwellWindowRead t init ferrule addr .corrected) s = .next (u.bump (F.FER_ICOR ferrule)) ∧
      exec (.inkwellWindowRead t init ferrule addr .uncorrectable) s = .next ((inkUncorr u ferrule addr).pageErr (ferPage ferrule) 0x10 10 addr))

/-- Accesses to register pages, voted fields and inkwells: RegisterAccessResult, VoteScrubResult, InkwellWindowResult. -/
def Obligations.RegisterAccess : Prop :=
  Claims.RegisterAccessResult ∧ Claims.VoteScrubResult ∧ Claims.InkwellWindowResult

/-- What a bus error leaves on the DEV page: the first one is captured with its address, code, initiator and direction, and every
one is counted (R54, R73). -/
def Claims.BusErrorCapture : Prop :=
  ∀ (s : State) (addr code init : Nat) (write : Bool), s.Inv → addr < 2 ^ 44 → 0 < code → code < 256 → init < 256 →
    let t := s.busErr addr code init write
    (s.rd F.DEV_BCODE = 0 → t.rd F.DEV_BCODE = code ∧ t.rd F.DEV_BADDR = addr ∧ t.rd F.DEV_BINIT = init ∧ t.isSet F.DEV_BWR = write) ∧
    (s.rd F.DEV_BCODE ≠ 0 → t.rd F.DEV_BCODE = s.rd F.DEV_BCODE ∧ t.rd F.DEV_BADDR = s.rd F.DEV_BADDR ∧
      t.rd F.DEV_BINIT = s.rd F.DEV_BINIT ∧ t.rd F.DEV_BWR = s.rd F.DEV_BWR) ∧
    t.rd F.DEV_BCNT = min (s.rd F.DEV_BCNT + 1) (2 ^ F.DEV_BCNT.len - 1)

/-- The error record and the ignored-write record of a page: the first error is captured, the last ignored write, and both are
counted (R59, R72). -/
def Claims.PageRecords : Prop :=
  ∀ (s : State) (page a b c : Nat), s.Inv → page < 0x300 → 0 < a → a < 256 → b < 512 → c < 2 ^ 40 →
    let t := s.pageErr page a b c
    let u := s.ignored page b a
    (s.rd (F.HDR_ECODE page) = 0 → t.rd (F.HDR_ECODE page) = a ∧ t.rd (F.HDR_EOFS page) = b ∧ t.rd (F.HDR_EINFO page) = c) ∧
    (s.rd (F.HDR_ECODE page) ≠ 0 → t.rd (F.HDR_ECODE page) = s.rd (F.HDR_ECODE page) ∧ t.rd (F.HDR_EOFS page) = s.rd (F.HDR_EOFS page) ∧
      t.rd (F.HDR_EINFO page) = s.rd (F.HDR_EINFO page)) ∧
    t.rd (F.HDR_ECNT page) = min (s.rd (F.HDR_ECNT page) + 1) (2 ^ (F.HDR_ECNT page).len - 1) ∧
    u.rd (F.HDR_IGNOFS page) = b ∧ (a < 16 → u.rd (F.HDR_IGNRSN page) = a) ∧
    u.rd (F.HDR_IGNCNT page) = min (s.rd (F.HDR_IGNCNT page) + 1) (2 ^ (F.HDR_IGNCNT page).len - 1)

/-- What completing a doorbell command shows: the status, the reason, the handle and DONE (R68). -/
def Claims.DoorbellCompletion : Prop :=
  ∀ (s : State) (page status reason h : Nat), s.Inv → status < 256 → reason < 256 → h < 2 ^ 36 →
    let q := s.complete page status reason h
    q.rd (F.DBL_STATUS page) = status ∧ q.rd (F.DBL_REASON page) = reason ∧ q.rd (F.DBL_RHANDLE page) = h ∧ q.rd (F.DBL_STATE page) = 2 ∧
    q.rd (F.HDR_SEQ page) = s.rd (F.HDR_SEQ page)

/-- Bus errors, page errors, ignored writes and completed commands are recorded: BusErrorCapture, PageRecords, DoorbellCompletion. -/
def Obligations.ErrorAndCommandRecords : Prop :=
  Claims.BusErrorCapture ∧ Claims.PageRecords ∧ Claims.DoorbellCompletion

/-- A doorbell write during a command is ignored for reason 01h, and one out of sequence for reason 02h; both show in CMD (R66,
R67). -/
def Obligations.DoorbellChecks : Prop :=
  ∀ (s : State) (t init f ch seq h : Nat), f < 64 → ch < 4 →
    ∀ p ∈ [(Instr.subCreate t init f seq h, 0x102 + 4 * f, 1, h), (.subDestroy t init f seq h, 0x102 + 4 * f, 2, h), (.subSetpol t init f seq h, 0x102 + 4 * f, 3, h),
           (.pubCreate t init f seq h, 0x103 + 4 * f, 1, h), (.pubDestroy t init f seq h, 0x103 + 4 * f, 2, h),
           (.rulerCreate t init seq h, 4, 1, h), (.rulerDestroy t init seq h, 4, 2, h), (.rulerUpdate t init seq h, 4, 3, h), (.rulerCkpt t init seq h, 4, 4, h),
           (.nibout t init seq h, 4, 5, h), (.nibin t init seq h, 4, 6, h),
           (.dmcRelease t init ch seq, 0x260 + ch, 1, 0), (.dmcReset t init ch seq, 0x260 + ch, 2, 0), (.dmcTrain t init ch seq, 0x260 + ch, 3, 0),
           (.dmcEnable t init ch seq, 0x260 + ch, 4, 0),
           (.dmaCreate t init seq h, 0x270, 1, h), (.dmaDestroy t init seq h, 0x270, 2, h), (.dmaStart t init seq h, 0x270, 3, h), (.dmaStop t init seq h, 0x270, 4, h),
           (.tenantActivate t init seq, 0x2D0, 1, 0), (.qpcreate t init seq, 0x2D0, 2, 0), (.qpdestroy t init seq h, 0x2D0, 3, h), (.tenantFreeze t init seq, 0x2D0, 4, 0),
           (.tenantExport t init seq, 0x2D0, 5, 0), (.tenantImport t init seq, 0x2D0, 6, 0), (.tenantResume t init seq, 0x2D0, 7, 0), (.treset t init seq, 0x2D0, 8, 0),
           (.deskpl t init seq, 0x2A0, 1, 0), (.deskst t init seq, 0x2A0, 2, 0), (.ferst t init seq, 0x2A0, 3, 0), (.domst t init seq, 0x2A0, 4, 0), (.devst t init seq, 0x2A0, 5, 0),
           (.pwrDead t init seq, 0x2A0, 6, 0), (.breset t init seq, 0x2A0, 7, 0),
           (.fulltest t init seq, 0x2B0, 1, 0), (.fuse t init seq, 0x2B0, 2, 0), (.seal t init seq, 0x2B0, 3, 0)],
      let u := s.tick t
      Passes u init p.2.1 8 true →
      (u.rd (F.DBL_STATE p.2.1) = 1 → exec p.1 s = .next ((rung u p.2.1 seq p.2.2.1 p.2.2.2).ignored p.2.1 8 1)) ∧
      (u.rd (F.DBL_STATE p.2.1) ≠ 1 → seq % 256 ≠ u.rd (F.HDR_SEQ p.2.1) →
        exec p.1 s = .next ((rung u p.2.1 seq p.2.2.1 p.2.2.2).ignored p.2.1 8 2))

/-! ### Countersigning -/

/-- A staged write of a party that may propose opens a proposal: its party and its one entry, the serial number up by 1, CST 1 (R65,
R75, R77, R87). -/
def Claims.ProposalOpens : Prop :=
  ∀ (s : State) (t init page off : Nat) (value : Word),
    let u := s.tick t
    let p := party u init
    deskWord page off = page → wordFields page off ≠ none → alwaysOn page off = true → pageAdmits u init 0 page off true = true →
    csMask page off ≠ 0 → u.rd F.CSN_CST = 0 → mayPropose u p = true →
    exec (.stagedWrite t init page off value) s = .next (
      let q := ((u.wr F.CSN_PPARTY p).wrapInc F.CSN_SERIAL).wr F.CSN_CST 1
      let q := { q with csn := { q.csn with entries := [(page * 512 + off, value)], sealDig := 0, signer := 0, expired := false } }
      csnShow (q.wr F.CSN_NENT 1))

/-- Sealing by the proposer with the device's digest opens the window; a countersign of it by another party, within the window and
with the same digest, fixes the commit instant; an abort by the proposer discards with outcome 4; and what fails a check is ignored
(R75, R79 to R82, R84). -/
def Claims.CountersignResult : Prop :=
  ∀ (s : State) (t init : Nat) (digest : Word),
    let u := s.tick t
    let sl := u.wr (F.CSN_DIG 0) digest.toNat
    let sg := u.wr (F.CSN_DIG 1) digest.toNat
    let p := party sg init
    (sl.rd F.CSN_CST = 1 → party sl init = sl.rd F.CSN_PPARTY → digest = csnDigest sl →
      exec (.csnSeal t init digest) s =
        .next (csnShow ({ sl with csn := { sl.csn with sealDig := digest, windowAt := sl.devTime } }.wr F.CSN_CST 2))) ∧
    (sl.rd F.CSN_CST = 1 → party sl init = sl.rd F.CSN_PPARTY → digest ≠ csnDigest sl →
      exec (.csnSeal t init digest) s = .next (csnEnd sl 7 0 sl.devTime digest)) ∧
    (sl.rd F.CSN_CST ≠ 1 ∨ party sl init ≠ sl.rd F.CSN_PPARTY → exec (.csnSeal t init digest) s = .next (sl.ignored 1 10 7)) ∧
    (u.rd F.CSN_CST = 2 → u.devTime < u.csn.windowAt + 2000000000 →
      (maySign sg p = false → exec (.csnSign t init digest) s = .next (sg.ignored 1 11 0xB)) ∧
      (maySign sg p = true → sg.rd F.CSN_CST = 2 → digest ≠ csnDigest sg →
        exec (.csnSign t init digest) s = .next (csnEnd (sg.ignored 1 11 9) 2 p sg.devTime sg.csn.sealDig)) ∧
      (maySign sg p = true → sg.rd F.CSN_CST = 2 → digest = csnDigest sg → exec (.csnSign t init digest) s = .next (
        let q := sg.wr F.CSN_CST 3
        csnShow { q with csn := { q.csn with signer := p, acceptAt := q.devTime, commitAt := commitInstant q q.devTime } }))) ∧
    (u.rd F.CSN_CST = 1 ∨ (u.rd F.CSN_CST = 2 ∧ u.devTime < u.csn.windowAt + 2000000000) → party u init = u.rd F.CSN_PPARTY →
      exec (.csnAbort t init) s = .next (csnEnd u 4 0 u.devTime u.csn.sealDig)) ∧
    (u.rd F.CSN_CST ≠ 1 → u.rd F.CSN_CST ≠ 2 → exec (.csnAbort t init) s = .next (u.ignored 1 12 7))

/-- The window of a sealed proposal ends 2.0 s after the seal with outcome 3; a countersigned one takes effect at its instant, and
one without a common boundary within 1.0 s is discarded with outcome 5 (R81, R84, R85). -/
def Claims.ProposalEnds : Prop :=
  ∀ (s : State) (t T : Nat),
    let u := s.tick t
    (u.rd F.CSN_CST = 2 → u.csn.windowAt + 2000000000 ≤ u.devTime →
      exec (.countersignWindowExpire t) s = .next (csnEnd u 3 0 (u.csn.windowAt + 2000000000) u.csn.sealDig)) ∧
    (u.rd F.CSN_CST ≠ 2 ∨ u.devTime < u.csn.windowAt + 2000000000 → exec (.countersignWindowExpire t) s = .next u) ∧
    (u.rd F.CSN_CST = 3 → u.csn.commitAt = some T → T ≤ u.devTime → exec (.commitInstant t) s = .next (commitAll u T)) ∧
    (u.csn.commitAt = some T → u.devTime < T → exec (.commitInstant t) s = .next u) ∧
    (u.rd F.CSN_CST = 3 → u.csn.commitAt = none → u.csn.acceptAt + 1000000000 ≤ u.devTime →
      exec (.commitNoBoundary t) s = .next (csnEnd u 5 u.csn.signer (u.csn.acceptAt + 1000000000) u.csn.sealDig))

/-- Proposals: opened, sealed, countersigned, aborted, ended: ProposalOpens, CountersignResult, ProposalEnds. -/
def Obligations.Proposals : Prop :=
  Claims.ProposalOpens ∧ Claims.CountersignResult ∧ Claims.ProposalEnds

/-- What the end of a proposal leaves: no proposal, no entries, no staged page, and an audit entry with its serial number, outcome,
parties and digest (R87, R91). -/
def Obligations.ProposalEndState : Prop :=
  ∀ (s : State) (outcome signer time : Nat) (digest : Word), s.Inv → outcome < 8 → signer < 4 →
    let t := csnEnd s outcome signer time digest
    let k := s.rd F.CSN_HEAD
    t.rd F.CSN_CST = 0 ∧ t.rd F.CSN_NENT = 0 ∧ t.csn.entries = [] ∧ (∀ p ∈ csnPages s, p < 0x300 → t.rd (F.HDR_STG p) = 0 ∧ t.rd (F.HDR_NSTG p) = 0) ∧
    t.rd (F.CSN_LSERIAL k) = s.rd F.CSN_SERIAL ∧ t.rd (F.CSN_OUTCOME k) = outcome ∧ t.rd (F.CSN_LPROP k) = s.rd F.CSN_PPARTY ∧
    t.rd (F.CSN_LSIGN k) = signer ∧ t.rd (F.CSN_LDIG k) = digest.toNat ∧ t.rd F.CSN_HEAD = (k + 1) % 2 ^ F.CSN_HEAD.len

/-- At the commit instant every entry takes effect together: the commit-protected bits of its word are those of the entry, and its
other bits as before (R85). -/
def Obligations.CommitWritesEntries : Prop :=
  ∀ (s : State) (es : List (Nat × Word)), twf s.regs = true → (es.map Prod.fst).Nodup →
    let t := es.foldl csnApplyEntry s
    (∀ e ∈ es, t.word e.1 = (s.word e.1 &&& ~~~csMask (e.1 / 512) (e.1 % 512)) ||| (e.2 &&& csMask (e.1 / 512) (e.1 % 512))) ∧
    ∀ a, a ∉ es.map Prod.fst → t.word a = s.word a

/-- R79: the proposer's seal with the device's digest makes CST 10b and opens the window at the device time of the write; another
digest discards the proposal with outcome 7; a seal by another party, or in another state, is ignored with reason 07h. -/
def Obligations.SealRule : Prop :=
  ∀ (s : State) (t init : Nat) (digest : Word), s.Inv →
    let u := s.tick t
    let w := u.wr (F.CSN_DIG 0) digest.toNat
    let k := u.rd F.CSN_HEAD
    (u.rd F.CSN_CST = 1 → party w init = u.rd F.CSN_PPARTY → digest = csnDigest w →
      ∃ q, exec (.csnSeal t init digest) s = .next q ∧ q.rd F.CSN_CST = 2 ∧ q.csn.windowAt = u.devTime ∧ q.csn.entries = u.csn.entries) ∧
    (u.rd F.CSN_CST = 1 → party w init = u.rd F.CSN_PPARTY → digest ≠ csnDigest w →
      ∃ q, exec (.csnSeal t init digest) s = .next q ∧ q.rd F.CSN_CST = 0 ∧ q.csn.entries = [] ∧ q.rd (F.CSN_OUTCOME k) = 7) ∧
    (u.rd F.CSN_CST ≠ 1 ∨ party w init ≠ u.rd F.CSN_PPARTY → exec (.csnSeal t init digest) s = .next (w.ignored 1 10 7))

/-- R81: the window ends 2.0 s after it opens; a proposal that is still sealed is then discarded with outcome 3; and a countersign
that comes with the end comes after it. -/
def Obligations.WindowRule : Prop :=
  ∀ (s : State) (t init : Nat) (digest : Word), s.Inv →
    let u := s.tick t
    let k := u.rd F.CSN_HEAD
    (u.rd F.CSN_CST = 2 → u.devTime < u.csn.windowAt + 2000000000 → exec (.countersignWindowExpire t) s = .next u) ∧
    (u.rd F.CSN_CST = 2 → u.csn.windowAt + 2000000000 ≤ u.devTime →
      ∃ q, exec (.countersignWindowExpire t) s = .next q ∧ q.rd F.CSN_CST = 0 ∧ q.csn.entries = [] ∧ q.rd (F.CSN_OUTCOME k) = 3 ∧
        exec (.csnSign t init digest) s = exec (.csnSign t init digest) q) ∧
    (u.rd F.CSN_CST ≠ 2 → exec (.countersignWindowExpire t) s = .next u)

/-! ### Device time -/

/-- R109: a write of the configuration word of the selected source is ignored with reason 07h, by the command of its own and by a
plain write of the word: TIM_PTPA (11) of source 1, TIM_PTPB (12) of source 2, TIM_ASYM (16) of both, TIM_IRIG (17) of 3, TIM_PPS
(18) of 4. -/
def Obligations.SelectedSourceProtected : Prop :=
  ∀ (s : State) (t init vf : Nat) (value : Word),
    let u := s.tick t
    ∀ p ∈ [((11, 1) : Nat × Nat), (12, 2), (16, 1), (16, 2), (17, 3), (18, 4)], u.rd F.TIM_SRC = p.2 →
      exec (.timSourceConfigWrite t init p.1 value) s = .next (u.ignored 2 p.1 7) ∧
      (pageAdmits u init vf 2 p.1 true = true → exec (.registerWrite t init vf 2 p.1 8 value) s = .next (u.ignored 2 p.1 7))

/-- Setting device time: before any source was used and with no domain running a well-formed value becomes device time; else the
write is ignored (R103). A selected source's configuration cannot be written (R109). -/
def Claims.TimeSettings : Prop :=
  ∀ (s : State) (t init off ns : Nat) (value : Word), s.Inv →
    let u := s.tick t
    let v := u.wr F.TIM_SETV value.toNat
    (wordTime value = some ns → v.rd F.TIM_QSTATE = 0 → runningDomains v = [] →
      exec (.timSet t init value) s = .next (v.stepTime ns) ∧ (v.stepTime ns).devTime = ns) ∧
    (wordTime value = none ∨ v.rd F.TIM_QSTATE ≠ 0 ∨ runningDomains v ≠ [] → exec (.timSet t init value) s = .next (v.ignored 2 21 7)) ∧
    (off ∈ [11, 12, 16, 17, 18] → timWordSelected u off = true → exec (.timSourceConfigWrite t init off value) s = .next (u.ignored 2 off 7)) ∧
    (timWordSelected u 16 = false → exec (.timSourceConfigWrite t init 16 value) s = .next (u.writeRW 2 16 value)) ∧
    (timWordSelected u 17 = false → (u.writeRW 2 17 value).isSet F.TIM_EN_17 = true →
      exec (.timSourceConfigWrite t init 17 value) s = .next (u.writeRW 2 17 value)) ∧
    (timWordSelected u 17 = false → (u.writeRW 2 17 value).isSet F.TIM_EN_17 = false →
      exec (.timSourceConfigWrite t init 17 value) s = .next ((u.writeRW 2 17 value).loseQual 3))

/-- Events of the time base: a replica re-aligned, the state of the 10 MHz input, a leap second of an IRIG-B source, and the quality
state brought up to date with QCHG when it changes (R33, R110, R111, R113, R121, R122). -/
def Claims.TimeBaseEvents : Prop :=
  ∀ (s : State) (t k : Nat) (ok : Bool), s.Inv →
    let u := s.tick t
    (exec (.timeReplicaRealign t k) s = .next { u with tim := { u.tim with replicas := tset u.tim.replicas k 0 } }) ∧
    (∃ q, exec (.f10mStatusChange t ok) s = .next q ∧ q.isSet F.TIM_F10OK = ok ∧ q.devTime = u.devTime) ∧
    (u.isSet F.TIM_EXT = true → u.isSet F.TIM_LEAPP = true → ∃ q, exec (.leapSecondApply t) s = .next q ∧
      q.rd F.TIM_UTCOFS = (u.rd F.TIM_UTCOFS + 1) % 2 ^ 16 ∧ q.rd F.TIM_LEAPP = 0) ∧
    (u.isSet F.TIM_EXT = false ∨ u.isSet F.TIM_LEAPP = false → exec (.leapSecondApply t) s = .next u) ∧
    (∀ i ∈ [Instr.slewComplete t, .holdoverLimitExceeded t], ∃ q, exec i s = .next q ∧ q.rd F.TIM_QSTATE = qualityNow u.errSync ∧
      (qualityNow u.errSync ≠ u.rd F.TIM_QSTATE → q.rd F.TIM_QCHG = 1) ∧ q.devTime = u.devTime) ∧
    (k ∈ srcList u → exec (.sourceHoldoffExpire t k) s = .next u.reselect) ∧
    (k ∉ srcList u → exec (.sourceHoldoffExpire t k) s = .next u)

/-- Selection: the source is the one that R107 names, and a change shows in SRCCHG. -/
def Claims.SourceSelection : Prop :=
  ∀ s : State, s.Inv → s.reselect.rd F.TIM_SRC = srcChoice s.errSync ∧
    (srcChoice s.errSync ≠ s.rd F.TIM_SRC → s.reselect.rd F.TIM_SRCCHG = 1)

/-- What a source that is used by the time base measures is slewed out, and a source that is not used keeps its offset only (R101,
R112). -/
def Claims.MeasuredOffset : Prop :=
  ∀ (s : State) (c : Nat) (off : Int), s.Inv → 1 ≤ c → c ≤ 4 → off ≠ 0 →
    let q := s.measured c off
    (q.src c).offset = off ∧
    (s.rd F.TIM_SRC = c → (s.src c).used = true → s.tim.holding = false → q.tim.slew = off ∧ q.tim.base = s.devTime ∧
      q.rd F.TIM_ERREST = min 0xFFFFFF (off.natAbs + srcAccuracy s c)) ∧
    (s.rd F.TIM_SRC ≠ c → q.tim.slew = s.tim.slew ∧ q.tim.base = s.tim.base ∧ q.devTime = s.devTime)

/-- Setting, selecting, slewing and qualifying device time: TimeSettings, TimeBaseEvents, SourceSelection, MeasuredOffset. -/
def Obligations.TimeBase : Prop :=
  Claims.TimeSettings ∧ Claims.TimeBaseEvents ∧ Claims.SourceSelection ∧ Claims.MeasuredOffset

/-- PTP messages that a listening source takes: a two-step Sync waits for its Follow_Up, an exchange gives an offset, an Announce
gives the grandmaster's data, and a source that has heard nothing for three intervals loses its qualification (R105, R106, R114,
R115). -/
def Claims.PtpMessages : Prop :=
  ∀ (s : State) (t port stamp seq origin dom j : Nat) (corr : Int) (m : PtpSync) (a : PtpAnnounce),
    let u := s.tick t
    let x := u.src (j + 1)
    (ptpOn u port m.domain = [j] →
      let y := { x with lastSync := u.now, syncInt := m.interval, meanPath := m.meanPath }
      (m.twoStep = true → exec (.ptpSyncRx t port stamp m) s = .next
        ((u.setSrc (j + 1) { y with wait := some (m.seq, stamp, m.corr) }).wr (F.TIM_MPD j) (min (2 ^ 24 - 1) m.meanPath))) ∧
      (m.twoStep = false → exec (.ptpSyncRx t port stamp m) s = .next
        (ptpExchange ((u.setSrc (j + 1) { y with wait := none }).wr (F.TIM_MPD j) (min (2 ^ 24 - 1) m.meanPath)) j m.origin stamp m.corr false))) ∧
    (ptpOn u port dom = [j] → ∀ c st, x.wait = some (seq, st, c) →
      exec (.ptpFollowUpRx t port seq origin dom corr) s = .next (ptpExchange (u.setSrc (j + 1) { x with lastSync := u.now }) j origin st (c + corr) true)) ∧
    (ptpOn u port a.domain = [] → exec (.ptpAnnounceRx t port a) s = .next u) ∧
    (ptpOn u port a.domain = [j] → u.rd F.TIM_SRC ≠ j + 1 → a.clockClass ≤ u.rd (F.TIM_MAXCC j) → s.Inv → j < 2 → a.clockClass < 256 →
      ∃ q, exec (.ptpAnnounceRx t port a) s = .next q ∧ (q.src (j + 1)).lastAnn = u.now ∧ (q.src (j + 1)).gmId = a.gmId ∧
        (q.src (j + 1)).annOk = a.ptpTimescale ∧ q.rd (F.TIM_CLASS j) = a.clockClass ∧
        (ptpPortBad q j = false → q.rd (F.TIM_PSTATE j) = if a.slave then 3 else 1)) ∧
    (j < 2 → x.lastAnn + 3 * x.annInt ≤ u.now → exec (.ptpQualTimeout t (j + 1) true) s = .next (u.loseQual (j + 1))) ∧
    (j < 2 → x.lastSync + 3 * x.syncInt ≤ u.now → exec (.ptpQualTimeout t (j + 1) false) s = .next (u.loseQual (j + 1))) ∧
    (u.now < x.lastAnn + 3 * x.annInt → exec (.ptpQualTimeout t (j + 1) true) s = .next u)

/-- IRIG-B frames and 1PPS edges: one on time gives the offset of its source; a bad frame and a missing one are recorded, and the
second in a row costs the source its qualification (R104, R106, R119, R120). -/
def Claims.PulseSources : Prop :=
  ∀ (s : State) (t : Nat) (fr : IrigFrame) (falling : Bool),
    let u := s.tick t
    let x := u.src 3
    let y := u.src 4
    (u.isSet F.TIM_EN_17 = false → exec (.irigFrameRx t fr) s = .next u) ∧
    (u.isSet F.TIM_EN_17 = true → fr.good = false → x.miss = 0 →
      exec (.irigFrameRx t fr) s = .next ((u.wr F.TIM_IRIGERR 1).setSrc 3 { x with miss := 1, run := 0 })) ∧
    (u.isSet F.TIM_EN_17 = true → fr.good = false → 1 ≤ x.miss →
      exec (.irigFrameRx t fr) s = .next (((u.wr F.TIM_IRIGERR 1).setSrc 3 { x with miss := x.miss + 1, run := 0 }).loseQual 3)) ∧
    (u.isSet F.TIM_EN_17 = true → fr.good = true → u.isSet F.TIM_EXT = false → 4 ≤ fr.format → x.qual = true →
      x.lastMark + 1000000000 ≤ u.now + 1000 → u.now ≤ x.lastMark + 1000001000 → u.rd F.TIM_SRC ≠ 3 → s.Inv →
      let sec := fr.utc + signedOf (u.rd F.TIM_UTCOFS) 16
      let off : Int := sec * 1000000000 - ((u.devTime : Int) - (u.rd F.TIM_DLY_17 : Nat))
      ∃ q, exec (.irigFrameRx t fr) s = .next q ∧ (q.src 3).offset = off ∧ (q.src 3).lastMark = u.now ∧ (q.src 3).miss = 0 ∧
        (q.src 3).lastSec = sec ∧ q.devTime = u.devTime) ∧
    (u.isSet F.TIM_EN_17 = true → x.lastMark + 1000000000 < u.now → x.miss = 0 →
      exec (.irigFrameMissing t) s = .next ((u.wr F.TIM_IRIGERR 1).setSrc 3 { x with miss := 1, run := 0 })) ∧
    (u.isSet F.TIM_EN_18 = true → u.isSet F.TIM_EDGE = falling → y.qual = true →
      y.lastMark + 1000000000 ≤ u.now + 1000 → u.now ≤ y.lastMark + 1000001000 → 0 < y.run → u.rd F.TIM_SRC ≠ 4 →
      let e : Int := (u.devTime : Int) - (u.rd F.TIM_DLY_18 : Nat)
      let z := { y with run := y.run + 1, miss := 0, lastMark := u.now, offset := (e + 500000000) / 1000000000 * 1000000000 - e }
      exec (.ppsEdge t falling) s = .next (u.setSrc 4 z)) ∧
    (u.isSet F.TIM_EN_18 = false ∨ u.isSet F.TIM_EDGE ≠ falling → exec (.ppsEdge t falling) s = .next u) ∧
    (u.isSet F.TIM_EN_18 = true → y.lastMark + 1000001000 < u.now → 1 ≤ y.miss →
      exec (.ppsEdgeMissing t) s = .next (((u.wr F.TIM_PPSMISS 1).setSrc 4 { y with miss := y.miss + 1, run := 0 }).loseQual 4)) ∧
    (u.isSet F.TIM_EN_18 = true → y.lastMark + 1000001000 < u.now → y.miss = 0 →
      exec (.ppsEdgeMissing t) s = .next ((u.wr F.TIM_PPSMISS 1).setSrc 4 { y with miss := 1, run := 0 }))

/-- PTP messages, IRIG-B frames and 1PPS edges: PtpMessages, PulseSources. -/
def Obligations.TimeSources : Prop :=
  Claims.PtpMessages ∧ Claims.PulseSources

/-! ### Links -/

/-- Signal, synchronisation and negotiation of a port, its eye report, and the end of its last frame (R126, R127, R146, R147, R171). -/
def Claims.LinkEvents : Prop :=
  ∀ (s : State) (t l h w loss : Nat) (full fault : Bool),
    let u := s.tick t
    let x := u.port l
    let b := portBlock l
    let dark := u.setPort l { x with sig := false, pcs := false }
    (portActive dark l = true → dark.isSet (F.LNK_SIG b) = true → portEn (dark.wr (F.LNK_SIG b) 0) l = false →
      exec (.laneSignalLoss t l) s = .next (dark.wr (F.LNK_SIG b) 0)) ∧
    (portActive dark l = true → dark.isSet (F.LNK_SIG b) = true → portEn (dark.wr (F.LNK_SIG b) 0) l = true →
      exec (.laneSignalLoss t l) s = .next (setLst ((lnkEvent ((dark.wr (F.LNK_SIG b) 0).bump (F.LNK_SIGLOSS b)) l F.LNK_SLOSS).pageErr
        (portPage l) 0x11 (portOff l + 1) (l % 16)) l 1)) ∧
    (portActive (u.setPort l { x with sig := true }) l = true →
      exec (.laneSignalDetect t l) s = .next (evalLink (showSig (u.setPort l { x with sig := true }) l) l)) ∧
    (x.sig = true → portEn u l = true → portActive (u.setPort l { x with pcs := true }) l = true →
      exec (.lanePcsSync t l) s = .next (evalLink (u.setPort l { x with pcs := true }) l)) ∧
    (portActive (u.setPort l { x with pcs := false }) l = true → 2 < portLst (u.setPort l { x with pcs := false }) l →
      exec (.lanePcsSyncLoss t l) s = .next (setLst (u.setPort l { x with pcs := false }) l 2)) ∧
    (portActive u l = true → portMode u l = 2 → u.isSet (F.LNK_AN b) = true → 3 ≤ portLst u l →
      exec (.laneAutonegComplete t l full fault) s = .next ((setLst u l (if full then 4 else 5)).wrb (F.LNK_RFLT b) fault)) ∧
    (portActive u l = true → 2 ≤ portMode u l → portMode u l ≤ 5 → portLst u l = 4 →
      exec (.laneEyeReport t l h w loss) s = .next
        (((((u.wr (F.LNK_EYEH b) h).wr (F.LNK_EYEW b) w).wr (F.LNK_LOSS b) loss).wr (F.LNK_EYEV b) 1).wr (F.LNK_LOSSV b) 1)) ∧
    (x.stopping = true → exec (.laneTxIdleAfterFrame t l) s = .next (u.setPort l { x with stopping := false, driving := false, txq := [] })) ∧
    (x.stopping = false → exec (.laneTxIdleAfterFrame t l) s = .next u)

/-- What a change of LST leaves: the new state, an event of a lane, and a count when the link goes down (R146, R159, R171). -/
def Claims.LinkStateChange : Prop :=
  ∀ (s : State) (l v : Nat), s.Inv → l < 1024 → v < 6 → portLst s l ≠ v →
    let q := setLst s l v
    portLst q l = v ∧ bitOf (q.rd (F.LNK_LCHG (l / 16))) (l % 16) = true ∧
    (portLst s l = 4 → q.rd (F.LNK_LDOWN (portBlock l)) = min (s.rd (F.LNK_LDOWN (portBlock l)) + 1) (2 ^ (F.LNK_LDOWN (portBlock l)).len - 1)) ∧
    (portLst s l ≠ 4 → q.rd (F.LNK_LDOWN (portBlock l)) = s.rd (F.LNK_LDOWN (portBlock l))) ∧ portEn q l = portEn s l

/-- Configuration of ports and pairs: what a port cannot take is ignored, what it can is stored, disabling a port takes its LST to
0; a relearn releases the partner's fields; an entry of a duplicate window past its time leaves (R126, R135, R138, R150, R153). -/
def Claims.LinkConfiguration : Prop :=
  ∀ (s : State) (t init page block l p smac seq : Nat) (v : Word),
    let u := s.tick t
    (portAt page block = some p → Passes u init page (portOff p) true →
      (lcfgBad u p v = true → exec (.laneConfigWrite t init page block v) s = .next (u.ignored (portPage p) (portOff p) 7)) ∧
      (lcfgBad u p v = false → p < 1024 → portEn (showSig (u.writeRW (portPage p) (portOff p) v) p) p = portEn u p →
        exec (.laneConfigWrite t init page block v) s = .next (showSig (u.writeRW (portPage p) (portOff p) v) p)) ∧
      (lcfgBad u p v = false → p < 1024 → portEn u p = true → portEn (showSig (u.writeRW (portPage p) (portOff p) v) p) p = false →
        exec (.laneConfigWrite t init page block v) s = .next (
          let q := showSig (u.writeRW (portPage p) (portOff p) v) p
          (unlearn (setLst (q.setPort p { q.port p with stopping := true }) p 0) p).wr (F.LNK_RFLT (portBlock p)) 0)) ∧
      (lcfgBad u p v = false → p < 1024 → portEn u p = false → portEn (showSig (u.writeRW (portPage p) (portOff p) v) p) p = true →
        exec (.laneConfigWrite t init page block v) s = .next (
          let q := showSig (u.writeRW (portPage p) (portOff p) v) p
          evalLink (setLst (q.setPort p { q.port p with driving := decide (portMode q p ≠ 0), stopping := false, pcs := false }) p 1) p))) ∧
    (0x288 ≤ page → page ≤ 0x28B → Passes u init page 8 true →
      let m := getField v 0 2
      let d := getField v 16 10
      let k := 512 + (page - 0x288)
      (m = 3 ∨ d < 1 ∨ 1000 < d → exec (.pairConfigWrite t init page v) s = .next (u.ignored page 8 7)) ∧
      (m ≠ 3 → m = u.rd (fPairMode k) → 1 ≤ d → d ≤ 1000 → exec (.pairConfigWrite t init page v) s = .next (
        let q := u.writeRW page 8 v
        setWindow q k (windowLive q k)))) ∧
    (l < 1024 → isCell u l = false → Passes u init (portPage l) (portOff l + 5) true → exec (.partnerRelearn t init l) s = .next (unlearn u l)) ∧
    (s.Inv → ∃ q, exec (.dupEntryExpire t p smac seq) s = .next q ∧
      ∀ e ∈ (tget q.pairs p).window, e ∈ (tget u.pairs p).window ∧ ¬ (e.1 = smac ∧ e.2.1 = seq ∧ e.2.2 + u.rd (fPairDdft p) * 1000000 ≤ u.now))

/-- Ports: their link state and configuration: LinkEvents, LinkStateChange, LinkConfiguration. -/
def Obligations.ProcessLinks : Prop :=
  Claims.LinkEvents ∧ Claims.LinkStateChange ∧ Claims.LinkConfiguration

/-- Received frames: an Ethernet port in link-up takes a frame through the stages of R129; the first that it fails counts it. -/
def Claims.FrameReception : Prop :=
  ∀ (s : State) (t l k : Nat) (x : RxFrame),
    let u := s.tick t
    let b := portBlock l
    let up (p : Nat) : Prop := portEn u p = true ∧ isEthernet u p = true ∧ portActive u p = true ∧ portLst u p = 4
    (portLst u l ≠ 4 → exec (.laneFrameRx t l x) s = .next u) ∧
    (up l → (x.lineOk = false → exec (.laneFrameRx t l x) s = .next (u.bump (F.LNK_RXCRC b))) ∧
      (x.lineOk = true → x.len < 64 ∨ u.rd (F.LNK_MAXLEN b) < x.len → exec (.laneFrameRx t l x) s = .next (u.bump (F.LNK_RXLEN b))) ∧
      (x.lineOk = true → 64 ≤ x.len → x.len ≤ u.rd (F.LNK_MAXLEN b) → stage3Bad u l x = true →
        exec (.laneFrameRx t l x) s = .next (u.bump (F.LNK_RXFMT b))) ∧
      (x.lineOk = true → 64 ≤ x.len → x.len ≤ u.rd (F.LNK_MAXLEN b) → stage3Bad u l x = false → portPairMode u l = 0 → l < 1024 →
        rxEtype u l x = 0x88BA → apduDecodes 0x88BA x.apdu = true → peerFrame (partnerLearn u l x) l x = false →
        (∀ i, rxMatch (partnerLearn u l x) l x = some i → authOk (partnerLearn u l x) i x = false →
          exec (.laneFrameRx t l x) s = .next ((partnerLearn u l x).bump (F.LNK_RXAUTH b))) ∧
        (∀ i q, rxMatch (partnerLearn u l x) l x = some i → authOk (partnerLearn u l x) i x = true →
          stage8 (partnerLearn u l x) l x none = (q, true) →
          exec (.laneFrameRx t l x) s = .next (subDeliver (q.bump (F.LNK_RXOK b)) i x.apdu)))) ∧
    (k < 10 → up (1024 + k) → exec (.uplinkFrameRx t (1024 + k) x) s = .next (uplinkFrame u (1024 + k) x)) ∧
    (k < 2 → up (1032 + k) → x.lineOk = false → exec (.uplinkFrameRx t (1032 + k) x) s = .next (u.bump (F.LNK_RXCRC (portBlock (1032 + k)))))

/-- The frame that leaves next is of the best class that waits, the first of that class (R144, R514, R592). -/
def Claims.FramePriority : Prop :=
  ∀ (q : List TxFrame),
    (nextFrame q = none ↔ q = []) ∧
    ∀ f, nextFrame q = some f → ∃ a b, q = a ++ f :: b ∧ (∀ y ∈ a, classRank f.cls < classRank y.cls) ∧ (∀ y ∈ b, classRank f.cls ≤ classRank y.cls) ∧
      dropOne q f = a ++ b

/-- A frame boundary of a port: a plain frame leaves its queue and is counted, and a Sync is followed by its Follow_Up with the time
at which it left (R114, R117, R144, R145). -/
def Claims.FrameTransmission : Prop :=
  ∀ (s : State) (t l : Nat) (f : TxFrame),
    let u := s.tick t
    let x := u.port l
    let y := { x with txq := dropOne x.txq f, sent := some f, sentAt := u.now }
    (x.txq = [] → exec (.laneFrameTx t l) s = .next u) ∧
    (portEn u l = true → isEthernet u l = true → portSends u l = true → nextFrame x.txq = some f → f.red = .none → f.signoff = false →
      portActive (u.setPort l y) l = true →
      (∀ o, f.body = .raw o → exec (.laneFrameTx t l) s = .next ((u.setPort l y).bump (F.LNK_TXFRM (portBlock l)))) ∧
      (∀ n, f.body = .ptpSync n → exec (.laneFrameTx t l) s = .next (
        let q := (u.setPort l y).bump (F.LNK_TXFRM (portBlock l))
        ptpSend q l (.ptpFollowUp n q.devTime))))

/-- PTP on a lane: the master's Sync, Announce and Pdelay_Req each at its interval, with the next sequence number; a Pdelay_Req
answered; a response completes the measurement of the delay (R114, R117, R118, R149). -/
def Claims.PtpOnLanes : Prop :=
  ∀ (s : State) (t l seq stamp t1 t2 t3 t4 : Nat),
    let u := s.tick t
    let n := tget u.tim.ptpSeq l
    let next' (q : State) : State := { q with tim := { q.tim with ptpSeq := tset q.tim.ptpSeq l ((n + 1) % 2 ^ 16) } }
    ptpLane u l = true →
    (u.isSet (F.LNK_PTPM (portBlock l)) = true →
      (tget u.tim.lastSyncTx l = 0 → exec (.ptpMasterSyncTx t l) s = .next (
        let q := next' u
        ptpSend { q with tim := { q.tim with lastSyncTx := tset q.tim.lastSyncTx l (q.now + 1) } } l (.ptpSync n))) ∧
      (tget u.tim.lastAnnTx l = 0 → exec (.ptpMasterAnnounceTx t l) s = .next (
        let q := next' u
        let m := masterAnnounce q
        ptpSend { q with tim := { q.tim with lastAnnTx := tset q.tim.lastAnnTx l (q.now + 1) } } l (.ptpAnnounce n m.1 m.2))) ∧
      (tget u.tim.lastPdelayTx l = 0 → exec (.pdelayMeasureTx t l) s = .next (
        let q := next' u
        ptpSend { q with tim := { q.tim with lastPdelayTx := tset q.tim.lastPdelayTx l (q.now + 1) } } l (.pdelayReq n)))) ∧
    (portLst u l = 4 → exec (.ptpPdelayReqRx t l seq stamp) s = .next (ptpSend u l (.pdelayResp seq stamp))) ∧
    (portLst u l = 4 → (u.port l).pdelay = some (seq, t1) → t1 ≤ t4 → t2 ≤ t3 → t3 - t2 ≤ t4 - t1 → (t4 - t1 - (t3 - t2)) / 2 < 2 ^ 16 →
      exec (.ptpPdelayRespRx t l seq t2 t3 t4) s = .next (((u.setPort l { u.port l with pdelay := none }).wr (F.LNK_PDLY (portBlock l))
        ((t4 - t1 - (t3 - t2)) / 2)).wr (F.LNK_PDV (portBlock l)) 1))

/-- Frames received, queued and sent, and PTP on lanes: FrameReception, FramePriority, FrameTransmission, PtpOnLanes. -/
def Obligations.ProcessFrames : Prop :=
  Claims.FrameReception ∧ Claims.FramePriority ∧ Claims.FrameTransmission ∧ Claims.PtpOnLanes

/-- What a cell frame must be: a line error, a length other than 32 octets, a wrong CRC and an unknown type are each counted; and a
frame that the device builds carries the CRC-32C of its first 28 octets (R162 to R164, R173, R186). -/
def Claims.CellFrameChecks : Prop :=
  ∀ (s : State) (t l ty flags snum : Nat) (payload : List Nat) (x : CellRx),
    let u := s.tick t
    let b := portBlock l
    let crcOk := (octetsOf (crc32c (x.octets.take 28)) 4).reverse = x.octets.drop 28
    (∀ i ∈ [Instr.cellCapabilityRx t l x, .cellEchoReplyRx t l x, .cellStatusRx t l x],
      (portLst u l < 3 → exec i s = .next u) ∧
      (portActive u l = true → portEn u l = true → isCell u l = true → 3 ≤ portLst u l →
        (x.lineBad = true → exec i s = .next (u.bump (F.LNK_RXCRC b))) ∧
        (x.lineBad = false → x.octets.length ≠ 32 → exec i s = .next (u.bump (F.LNK_RXLEN b))) ∧
        (x.lineBad = false → x.octets.length = 32 → ¬ crcOk → exec i s = .next (u.bump (F.LNK_RXCRC b))) ∧
        (x.lineBad = false → x.octets.length = 32 → crcOk → x.octets.getD 0 0 = 0x31 → exec i s = .next (capabilityIn u l x.octets)) ∧
        (x.lineBad = false → x.octets.length = 32 → crcOk → x.octets.getD 0 0 = 0x51 → exec i s = .next (echoReplyIn u l x.octets x.first)) ∧
        (x.lineBad = false → x.octets.length = 32 → crcOk → x.octets.getD 0 0 = 0x21 → exec i s = .next (statusIn u l x.octets x.first)) ∧
        (x.lineBad = false → x.octets.length = 32 → crcOk → x.octets.getD 0 0 ∉ [0x31, 0x51, 0x21] → exec i s = .next (u.bump (F.LNK_RXFMT b))))) ∧
    (let o := cellFrame ty flags snum payload
     o.length = 32 ∧ o.drop 28 = (octetsOf (crc32c (o.take 28)) 4).reverse ∧ (o.drop 4).take 24 = (payload ++ List.replicate 24 0).take 24)

/-- The exchange on a cell link: capability frames 2.0 µs apart, then sixteen echo requests; an exchange that takes 10 ms and a
reply that takes 25 µs fail it; 100 ms later, and at a relearn, it starts again; the round trip is averaged (R148, R172, R173, R179,
R185). -/
def Claims.CellExchange : Prop :=
  ∀ (s : State) (t init l : Nat),
    let u := s.tick t
    let b := portBlock l
    let c := u.cell l
    portActive u l = true → isCell u l = true →
    (portLst u l = 3 →
      (c.echoing = false → c.capAt = 0 → coversLaunch u l = false → exec (.cellCapabilityTx t l) s = .next (
        let q := cellPut (periodNow u l) l (capabilityOut (periodNow u l) l) false
        q.setCell l { q.cell l with capAt := q.now + 1 })) ∧
      (c.echoing = true → c.echoOut = none → c.echoIdx = 0 → coversLaunch u l = false → exec (.cellEchoRequestTx t l) s = .next (
        let q := cellPut u l (cellFrame 4 0 0 []) false
        q.setCell l { q.cell l with echoOut := some (q.now * 10 + cellDur10 q l) })) ∧
      (c.enteredAt + 10000000 ≤ u.now → exec (.cellExchangeTimeout t l) s = .next (cellFail u l 1)) ∧
      (u.now < c.enteredAt + 10000000 → exec (.cellExchangeTimeout t l) s = .next u) ∧
      (∀ at', c.echoOut = some at' → at' + 250000 ≤ u.now * 10 → exec (.cellEchoTimeout t l) s = .next (cellFail u l 5))) ∧
    (portLst u l = 5 → 1 ≤ u.rd (F.CEL_CFR b) → u.rd (F.CEL_CFR b) ≤ 5 → c.faultAt + 100000000 ≤ u.now →
      exec (.cellExchangeRetry t l) s = .next (setLst u l 3)) ∧
    (l < 1024 → Passes u init (portPage l) (portOff l + 5) true →
      (portLst u l = 4 ∨ portLst u l = 5 → exec (.cellLinkRelearn t init l) s = .next (setLst u l 3)) ∧
      (portLst u l = 3 → exec (.cellLinkRelearn t init l) s = .next (u.ignored (portPage l) (portOff l + 5) 7))) ∧
    (cellSends u l = true → 0 < c.rttN → exec (.cellRttUpdate t l) s = .next (
      let rtt := (c.rttSum + 5 * c.rttN) / (10 * c.rttN)
      let q := (u.wr (F.LNK_RTT b) (min rtt (2 ^ 20 - 1))).wr (F.LNK_CLEN b) (min (clenOf u l rtt) 0xFFFF)
      q.setCell l { c with rttSum := 0, rttN := 0, nextClen := some (launchClen u l) }))

/-- A cell-link lane's command frame leaves at its instant when it was ready 10 ns before, and one that was not is counted; while
its source is gone the sign-off frame leaves in its place (R177, R178, R182, R183). -/
def Claims.CellLaunch : Prop :=
  ∀ (s : State) (t l p n : Nat),
    let u := s.tick t
    let c := u.cell l
    let b := portBlock l
    portEn u l = true → isCell u l = true → c.sent.contains n = false →
    (lanePub u l = some p → laneLaunch10 u l p n ≤ u.devTime * 10 + 20 → c.period ≠ 0 →
      (∀ r, c.ready.find? (fun r => r.stroke = n && decide (r.readyAt * 10 + 100 ≤ laneLaunch10 u l p n)) = some r →
        cellSends u l = true → portActive (cellSend u l n r.words r.blk false r.ind) l = true →
        exec (.cellCommandLaunch t l n) s = .next ((cellSend u l n r.words r.blk false r.ind).bump (F.LNK_TXFRM b))) ∧
      ((∀ r ∈ c.ready, r.stroke ≠ n) → cellSends u l = true → laneSignoff u l = false →
        exec (.cellCommandLaunch t l n) s = .next (u.bump (F.LNK_WLAN b)))) ∧
    (∀ a per ofs clen image, c.soCopy = some (a, per, ofs, clen, image) → portActive u l = true → inChipReset u = false →
      cellSends u l = true → laneSignoff u l = true → per ≠ 0 → launch10 a per ofs clen (cellDur10 u l) n ≤ u.devTime * 10 + 20 →
      exec (.cellSignoffLaunch t l n) s = .next ((cellSend u l n image true true false).bump (F.LNK_TXSGN b)))

/-- The cell link: its frames, exchange and launches: CellFrameChecks, CellExchange, CellLaunch. -/
def Obligations.CellLink : Prop :=
  Claims.CellFrameChecks ∧ Claims.CellExchange ∧ Claims.CellLaunch

/-! ### Subscriptions and strokes -/

/-- Handles: a doorbell write with a handle of another kind or range is ignored for reason 04h, one of an old generation for 05h,
one of another tenant for 06h; creating a context takes no handle (R67, R70, R71). -/
def Obligations.HandleChecks : Prop :=
  ∀ (s : State) (t init f seq h : Nat),
    let u := s.tick t
    let page := 0x102 + 4 * f
    let v := rung u page seq
    (Rings u init page seq 1 h → h ≠ 0 → exec (.subCreate t init f seq h) s = .next ((v 1 h).ignored page 8 4)) ∧
    ∀ p ∈ [(Instr.subDestroy t init f seq h, 2), (.subSetpol t init f seq h, 3)], Rings u init page seq p.2 h →
      let q := v p.2 h
      (h / 2 ^ 32 % 16 ≠ 1 ∨ subHandles.count ≤ h % 2 ^ 20 → exec p.1 s = .next (q.ignored page 8 4)) ∧
      (h / 2 ^ 32 % 16 = 1 → h % 2 ^ 20 < subHandles.count → h / 2 ^ 20 % 4096 ≠ q.gen 1 (h % 2 ^ 20) → exec p.1 s = .next (q.ignored page 8 5)) ∧
      (h / 2 ^ 32 % 16 = 1 → h % 2 ^ 20 < subHandles.count → h / 2 ^ 20 % 4096 = q.gen 1 (h % 2 ^ 20) →
        q.rd (F.SUB_OWNER (h % 2 ^ 20)) ≠ (if init < 0x20 then scribeTenant (q.scribe init) else 0) → exec p.1 s = .next (q.ignored page 8 6))

/-- A handle carries its kind, the generation of its context and its index, and freeing a context advances the generation, which
never becomes 0 (R70, R71). -/
def Obligations.HandleLayout : Prop :=
  ∀ (s : State) (kind i j : Nat), s.Inv → kind < 16 → i < 2 ^ 20 → j < 2 ^ 20 →
    let h := s.handle kind i j
    h % 2 ^ 20 = j ∧ h / 2 ^ 20 % 4096 = s.gen kind i ∧ h / 2 ^ 32 = kind ∧ 1 ≤ s.gen kind i ∧ s.gen kind i ≤ 4095 ∧
    (s.bumpGen kind i).gen kind i = s.gen kind i % 4095 + 1

/-- CREATE, DESTROY and SETPOL of a subscription, accepted: refused with the reason of its first check that fails, or performed with
STATUS 00h and, for CREATE, the handle (R187, R191 to R193). -/
def Claims.SubscriptionCommands : Prop :=
  ∀ (s : State) (t init f seq h : Nat),
    let u := s.tick t
    let page := 0x102 + 4 * f
    let i := h % 2 ^ 20
    (Rings u init page seq 1 0 →
      let q := accepted u page seq 1 0
      let a := subArgs q f
      let ten := if init < 0x20 then scribeTenant (q.scribe init) else 0
      let free := findBelow (fun k => !subLive q (64 * f + k)) 64
      (subRefusal q f ten free a ≠ 0 → exec (.subCreate t init f seq 0) s = .next (q.complete page 1 (subRefusal q f ten free a) 0)) ∧
      (∀ k, subRefusal q f ten free a = 0 → free = some k → exec (.subCreate t init f seq 0) s = .next
        ((subMake q (64 * f + k) ten a).complete page 0 0 (q.handle 1 (64 * f + k) (64 * f + k))))) ∧
    (Rings u init page seq 2 h → subHandleCheck (rung u page seq 2 h) init f h = none →
      let q := accepted u page seq 2 h
      (q.rd (F.SUB_SSTATE_23 i) = 2 → exec (.subDestroy t init f seq h) s = .next (q.complete page 1 8 0)) ∧
      (q.rd (F.SUB_SSTATE_23 i) ≠ 2 → exec (.subDestroy t init f seq h) s = .next ((subFree q i).complete page 0 0 0))) ∧
    (Rings u init page seq 3 h → subHandleCheck (rung u page seq 3 h) init f h = none →
      let q := accepted u page seq 3 h
      (q.rd (F.SUB_LPOL f) = 3 → exec (.subSetpol t init f seq h) s = .next (q.complete page 1 9 0)) ∧
      (q.rd (F.SUB_LPOL f) ≠ 3 → q.isSet (F.DOM_RUN (subDom q i)) = false → exec (.subSetpol t init f seq h) s = .next
        ((applySetpol q i (q.rd (F.SUB_LPOL f)) (q.isSet (F.SUB_SIMOK f))).complete page 0 0 0)) ∧
      (q.rd (F.SUB_LPOL f) ≠ 3 → q.isSet (F.DOM_RUN (subDom q i)) = true → exec (.subSetpol t init f seq h) s = .next
        ((q.setSub i { q.sub i with setpol := some (nextBoundary q (subDom q i) (q.devTime + 1), q.rd (F.SUB_LPOL f), q.isSet (F.SUB_SIMOK f)) }).complete
          page 0 0 0)))

/-- Parameters, start and stop of a stroke domain: ignored while it runs or out of range; started only with room for the grace
window and its anchor past, at the next stroke; stopped only with no function placed in it (R216 to R219). -/
def Claims.DomainControl : Prop :=
  ∀ (s : State) (t init d off : Nat) (v : Word),
    let u := s.tick t
    (u.isSet (F.DOM_RUN d) = true → exec (.domainParamWrite t init d off v) s = .next (u.ignored (4 + d) off 7)) ∧
    (u.isSet (F.DOM_RUN d) = false →
      (getField v 0 20 ≠ 0 → getField v 0 20 < 10000 ∨ 1000000 < getField v 0 20 → exec (.domainParamWrite t init d 64 v) s = .next (u.ignored (4 + d) 64 7)) ∧
      (wordTime v = none → exec (.domainParamWrite t init d 65 v) s = .next (u.ignored (4 + d) 65 7)) ∧
      (wordTime v ≠ none → exec (.domainParamWrite t init d 65 v) s = .next (domSubsEval (u.wr (F.DOM_ANC d) v.toNat) d)) ∧
      (5000 < getField v 0 13 → exec (.domainParamWrite t init d 66 v) s = .next (u.ignored (4 + d) 66 7)) ∧
      (getField v 0 13 ≤ 5000 → exec (.domainParamWrite t init d 66 v) s = .next (u.wr (F.DOM_GRC d) (getField v 0 13)))) ∧
    (let ready := u.isSet (F.DOM_RUN d) = false ∧ domPeriod u d ≠ 0 ∧ graceNs u d + 6000 ≤ domPeriod u d ∧
        u.rd (F.DOM_ANC d) ≤ (timeWord u.devTime).toNat ∧ firstStroke u d < 2 ^ 48
     (¬ ready → exec (.domainStart t init d) s = .next (u.ignored (4 + d) 67 7)) ∧
     (ready → s.Inv → d < 4 → ∃ q, exec (.domainStart t init d) s = .next q ∧ q.isSet (F.DOM_RUN d) = true ∧
        q.rd (F.DOM_FIRST d) = firstStroke u d ∧ q.rd (F.DOM_CUR d) = firstStroke u d ∧ q.devTime = u.devTime)) ∧
    ((∃ i ∈ liveFns u, isPlaced u i = true ∧ (u.fn i).desc.dom = d) → exec (.domainStop t init d) s = .next (u.ignored (4 + d) 67 7)) ∧
    (liveFns u = [] → liveSubs (u.wr (F.DOM_RUN d) 0) = [] → exec (.domainStop t init d) s = .next (
      let v := u.wr (F.DOM_RUN d) 0
      let q : State := { v with rul := { v.rul with fresh := v.rul.fresh.filter (fun e => e ≠ d) } }
      forEach (cellLanes q d) q.domainsStopped periodNow))

/-- Commands of subscriptions and of stroke domains: SubscriptionCommands, DomainControl. -/
def Obligations.SubscriptionsAndDomains : Prop :=
  Claims.SubscriptionCommands ∧ Claims.DomainControl

/-- Stroke boundaries, cut-offs and deadlines come at their instants and do nothing before (R200, R204, R208, R216, R220, R222). -/
def Claims.StrokeInstants : Prop :=
  ∀ (s : State) (t d i n : Nat),
    let u := s.tick t
    (u.devTime < openAt u d (nextOpen u d) ∨ u.isSet (F.DOM_RUN d) = false → exec (.strokeOpen t d) s = .next u) ∧
    (u.isSet (F.DOM_RUN d) = true → openAt u d (nextOpen u d) ≤ u.devTime → exec (.strokeOpen t d) s = .next (strokeOpen u d)) ∧
    (∀ c ∈ [Instr.strokeCutoff t i, .gooseTalExpire t i], (subLive u i = false → exec c s = .next u) ∧
      (subLive u i = true → subType u i = 2 ∨ (subType u i = 1 ∧ subAlign u i = true) → recvActive u i = true → cutStroke u (subDom u i) = some n →
        (u.sub i).cut ≤ n → (u.sub i).since ≤ openAt u (subDom u i) n - 1000 + 1 → exec c s = .next (subCut u i n))) ∧
    (u.devTime < subDeadline u i n → exec (.subDeadline t i n) s = .next u) ∧
    (subDecides u i n = true → subDeadline u i n ≤ u.devTime → (u.sub i).since ≤ subDeadline u i n + 1 →
      exec (.subDeadline t i n) s = .next (subDecide u i n))

/-- A sample message arrives at its ferrule: a stroke that has closed drops it, an open one stores it in the ring and notes its
arrival (R224, R225, R230). -/
def Claims.SampleArrival : Prop :=
  ∀ (s : State) (t f b n : Nat) (m : SampleMsg),
    let u := s.tick t
    let is (m : SampleMsg) : Bool := m.ferrule = f && m.sub = b && m.stroke = n
    let q : State := { u with rul := { u.rul with samples := u.rul.samples.filter (fun q => !is q) } }
    let d := subDom q b
    let fd := q.ferDom f d
    (u.rul.samples.find? is = none → exec (.sampleMessageArrive t f b n) s = .next u) ∧
    (u.rul.samples.find? is = some m → ferRun q f = false ∨ n < fd.closed → exec (.sampleMessageArrive t f b n) s = .next q) ∧
    (u.rul.samples.find? is = some m → ferRun q f = true → fd.closed ≤ n → exec (.sampleMessageArrive t f b n) s = .next (
      (putFrame q f b n (frameHead n m.pres false) m.words).setFerDom f d
        { fd with arrived := fd.arrived.filter (fun e => !(decide (e.1 = b) && decide (e.2.1 = n))) ++ [(b, n, m.pres, q.devTime)] }))

/-- A stroke closes on a ferrule at its deadline, or from its opening on as soon as no member is missing, and not before, nor while
a run of the stroke before lasts; a ferrule that does not run skips it (R221, R224, R225, R229). -/
def Claims.StrokeCloseResult : Prop :=
  ∀ (s : State) (t f d n : Nat),
    let u := s.tick t
    let members := ((fnsFor u f d n).foldl (fun l q => (u.fn q.1).subs.foldl (fun l b => insertNat b l) l) []).filter (subClosure u)
    let arrived (b : Nat) : Bool := (u.ferDom f d).arrived.any (fun e => e.1 = b && e.2.1 = n)
    (nextClose u f d = none → exec (.strokeClose t f d) s = .next u) ∧
    (nextClose u f d = some n → u.devTime < openAt u d n ∨ (ferRun u f = true ∧ runsLeft u f d = true) → exec (.strokeClose t f d) s = .next u) ∧
    (nextClose u f d = some n → deadlineAt u d n ≤ u.devTime → ferRun u f = false → exec (.strokeClose t f d) s = .next (closeSkipped u f d n)) ∧
    (nextClose u f d = some n → (∃ b ∈ members, arrived b = false) →
      (u.devTime < deadlineAt u d n → exec (.strokeClose t f d) s = .next u) ∧
      (deadlineAt u d n ≤ u.devTime → ferRun u f = true → runsLeft u f d = false → exec (.strokeClose t f d) s = .next (closeNow u f d n true))) ∧
    (nextClose u f d = some n → members = [] → openAt u d n ≤ u.devTime → ferRun u f = true → runsLeft u f d = false →
      exec (.strokeClose t f d) s = .next (closeNow u f d n (decide (openAt u d n = deadlineAt u d n))))

/-- Strokes: their instants, the arrival of samples, and their close: StrokeInstants, SampleArrival, StrokeCloseResult. -/
def Obligations.Strokes : Prop :=
  Claims.StrokeInstants ∧ Claims.SampleArrival ∧ Claims.StrokeCloseResult

/-! ### Runs and rulings -/

/-- A run starts: registers, flags and loops of the nib are 0, its stack pointer at the top of X, its output words 0 and the nib
RUNNING in the slot of the run (R247, R249, R258, R294). -/
def Claims.RunStart : Prop :=
  ∀ (s : State) (t f n k : Nat) (rest : List Nat) (c : RunCtx), s.Inv →
    let u := s.tick t
    let b := u.nib f n
    (b.queue = [] → exec (.nibRunStart t f n) s = .next u) ∧
    (b.queue = k :: rest → u.rd (F.FER_NST f n) = 0 → b.startAt ≤ u.now → slotCtx u f n k = some c → f < 64 → n < 18 → k < 4 →
      ∃ q, exec (.nibRunStart t f n) s = .next q ∧ q.rd (F.FER_NST f n) = 1 ∧ q.rd (F.FER_CSLOT f n) = k ∧
        q.nib f n = { ({} : Nib) with stroke := b.stroke, queue := rest, startAt := max b.startAt u.now, slot := k, sp := c.x.desc.xlen - 1 } ∧
        ∀ i, i < c.x.desc.nout → q.ink f (c.p.out + i) = 0) ∧
    (b.queue = k :: rest → u.now < b.startAt → exec (.nibRunStart t f n) s = .next u)

/-- An instruction that would reach the budget ends the run with fault 1h; the ledger's read counter moves within what is written
(R262, R268). -/
def Claims.BudgetAndLedger : Prop :=
  ∀ (s : State) (t init f n v : Nat) (c : RunCtx),
    let u := s.tick t
    let b := u.nib f n
    (u.rd (F.FER_NST f n) ≠ 1 → exec (.nibBudgetOverrun t f n) s = .next u) ∧
    (u.rd (F.FER_NST f n) = 1 → slotCtx u f n b.slot = some c → b.pc + 1 ≥ c.x.desc.plen →
      let par := parcelAt c.x.desc b.pc
      c.x.desc.budget ≤ b.cyc + parcelCycles par → par % 2 ^ 11 ≠ 1 →
      exec (.nibBudgetOverrun t f n) s = .next (faultRun u c 1 0 c.x.desc.budget par none)) ∧
    (Passes u init (0x100 + 4 * f) 9 true →
      ((u.rd (F.FER_LWR f) + 65536 - v % 65536) % 65536 ≤ ledgerOcc u f → ledgerOcc u f ≤ 1024 →
        exec (.ledgerLrdWrite t init f v) s = .next (dmaWithdraw (u.wr (F.FER_LRD f) v))) ∧
      (ledgerOcc u f < (u.rd (F.FER_LWR f) + 65536 - v % 65536) % 65536 →
        exec (.ledgerLrdWrite t init f v) s = .next (u.ignored (0x100 + 4 * f) 9 7)))

/-- The start of a run, its budget and the ledger: RunStart, BudgetAndLedger. -/
def Obligations.NibRuns : Prop :=
  Claims.RunStart ∧ Claims.BudgetAndLedger

/-- Outputs, error notices, twin decisions and legs are taken once, as they arrive (R271, R272, R317, R319, R339). -/
def Claims.EgressArrivals : Prop :=
  ∀ (s : State) (t fn tw p n : Nat),
    let u := s.tick t
    (∀ e ∈ [(Instr.outputMessageArrive t fn tw p n, false), (.errorNoticeArrive t fn tw p n, true)],
      let is (m : OutMsg) : Bool := m.fn = fn && m.twin = tw && m.point = p && m.stroke = n && (m.err == e.2) && !m.shadow
      (u.rul.outputs.find? is = none → exec e.1 s = .next u) ∧
      ∀ m, u.rul.outputs.find? is = some m →
        exec e.1 s = .next (deliver { u with rul := { u.rul with outputs := u.rul.outputs.filter (fun q => !is q) } } m)) ∧
    (∀ a b, let is (d : Nat × Nat × Nat × Bool × Bool) : Bool := d.1 = fn && d.2.1 = tw && d.2.2.1 = n
      u.rul.decisions.find? is = some (fn, tw, n, a, b) → exec (.twinDecisionArrive t fn tw n) s = .next
        (takeDecision { u with rul := { u.rul with decisions := u.rul.decisions.filter (fun d => !is d) } } fn tw n a b)) ∧
    (∀ r, let is (d : Nat × Nat × Nat × Option (List Word)) : Bool := d.1 = fn && d.2.1 = p && d.2.2.1 = n
      u.rul.legs.find? is = some (fn, p, n, r) →
      let q := passDeadline { u with rul := { u.rul with legs := u.rul.legs.filter (fun d => !is d) } } fn p n 1
      (n < decidedAt q fn p → exec (.gatewayLegArrive t fn p n) s = .next (q.bump (F.RUL_NLOUT fn))) ∧
      (decidedAt q fn p ≤ n → exec (.gatewayLegArrive t fn p n) s = .next (usePoint q fn p n (r.map (fun ws => (ws, 0)))))) ∧
    (∀ m, let is (m : OutMsg) : Bool := m.fn = fn && m.twin = tw && m.point = p && m.stroke = n && m.shadow
      let q : State := { u with rul := { u.rul with outputs := u.rul.outputs.filter (fun q => !is q) } }
      u.rul.outputs.find? is = some m →
      (p < 64 → ferRun q p = false → exec (.shadowMessageArrive t fn tw p n) s = .next q) ∧
      (64 ≤ p → ∀ v, (q.fn fn).move = some v → v.ns = n → openAt q (q.fn fn).desc.dom n + shadowEdlNs q fn p < q.devTime →
        exec (.shadowMessageArrive t fn tw p n) s = .next (shadowNote q fn tw p false)) ∧
      (64 ≤ p → ∀ v, (q.fn fn).move = some v → v.ns = n → q.devTime ≤ openAt q (q.fn fn).desc.dom n + shadowEdlNs q fn p →
        exec (.shadowMessageArrive t fn tw p n) s = .next (shadowSettle { q with rul := { q.rul with shadows := q.rul.shadows ++ [m] } } fn p)))

/-- A deadline of an egress point that has decided nothing: the compare of a twin's results is recorded as missed, or the point uses
no result; a point out of RUN never decides the stroke; before the deadline nothing happens (R271, R272, R323, R338). -/
def Claims.EgressDeadlines : Prop :=
  ∀ (s : State) (t fn p n : Nat),
    let u := s.tick t
    (deadlinePast u fn p n 0 = false → exec (.twinCompareDeadline t fn p n) s = .next u ∧ exec (.egressDeadline t fn p n) s = .next u) ∧
    (deadlinePast u fn p n 0 = true → pointRuns u p = false → runsSolo (u.fn fn) = true →
      exec (.egressDeadline t fn p n) s = .next (deadlineLost u fn p n) ∧
        (twf u.rul.decided = true → decidedAt (deadlineLost u fn p n) fn p = n + 1)) ∧
    (deadlinePast u fn p n 0 = true → pointRuns u p = false → runsSolo (u.fn fn) = false →
      exec (.twinCompareDeadline t fn p n) s = .next (deadlineLost u fn p n)) ∧
    (deadlineDue u fn p n 0 = true → runsSolo (u.fn fn) = false → p < 64 → exec (.twinCompareDeadline t fn p n) s = .next
      (twinDecide ((u.wr (F.FER_CDLM p) 1).pageErr (0x100 + 4 * p) 0x11 12 fn) fn p n)) ∧
    (deadlineDue u fn p n 0 = true → runsSolo (u.fn fn) = true ∨ 64 ≤ p → exec (.egressDeadline t fn p n) s = .next (usePoint u fn p n none))

/-- A flit that meets a parity error is sent again and counted; when the second transfer fails too, its message is lost, counted and
captured (R319, R330). -/
def Claims.FlitParity : Prop :=
  ∀ (s : State) (t r port slot n : Nat),
    let u := s.tick t
    let e := slotEntry u (8 * r + port) slot
    let fl := tget u.rul.flows (e % 2 ^ 13)
    (e < 2 ^ 13 → ∀ bad, exec (.flitParityError t r port slot bad) s = .next u) ∧
    (2 ^ 13 ≤ e → e < 2 ^ 14 → flowStroke u fl = some n →
      exec (.flitParityError t r port slot false) s = .next (u.bump (F.MSH_RETX (r / 4) (r % 4) port)) ∧
      exec (.flitParityError t r port slot true) s = .next (
        let q := (u.bump (F.MSH_RETX (r / 4) (r % 4) port)).bump (F.MSH_LOST (r / 4) (r % 4) port)
        loseMessage (q.pageErr (0x10 + r / 4) 0x10 (16 + 8 * (r % 4) + port) (r % 4 + port * 4 + e % 2 ^ 13 * 2 ^ 5)) fl (8 * r + port) n))

/-- Results at the egress points, their deadlines and the mesh: EgressArrivals, EgressDeadlines, FlitParity. -/
def Obligations.Egress : Prop :=
  Claims.EgressArrivals ∧ Claims.EgressDeadlines ∧ Claims.FlitParity

/-- Commands to the ruler, accepted: with no event waiting they start at once, else they wait their turn; a CREATE and an UPDATE
read their staging area, the others end with their status (R304, R307, R310, R311). -/
def Claims.RulerCommands : Prop :=
  ∀ (s : State) (t init seq h opc : Nat),
    let u := s.tick t
    let v := rung u 4 seq opc h
    let q := accepted u 4 seq opc h
    let c : RulCmd := { opc := opc, cmd := q.word (F.DBL_SEQ 4).addr, index := h % 2 ^ 20, arg := q.word (4 * 512 + 10), init := init, tenant := initTenant q init }
    let f := getField c.arg 0 6
    let n := getField c.arg 6 5
    let went (q : State) : State := { q with rul := { q.rul with cmd := some { c with started := true } } }
    let free := h = 0 ∧ (opc = 1 ∨ opc = 5 ∨ opc = 6)
    let held := handleCheck v fnHandles h (fun i => v.rd (F.RUL_TEN i) = initTenant v init) = none ∧ v.rd (F.RUL_FST (h % 2 ^ 20)) ≠ 0 ∧
      v.rd (F.TEN_TSTATE (v.rd (F.RUL_TEN (h % 2 ^ 20)))) ≠ 3
    u.rd (F.DBL_STATE 4) ≠ 1 → seq % 256 = u.rd (F.HDR_SEQ 4) → free ∨ (held ∧ 2 ≤ opc ∧ opc ≤ 4) →
    ∀ i, (i, opc) ∈ [(Instr.rulerCreate t init seq h, 1), (.rulerDestroy t init seq h, 2), (.rulerUpdate t init seq h, 3), (.rulerCkpt t init seq h, 4),
                     (.nibout t init seq h, 5), (.nibin t init seq h, 6)] →
      (q.rul.events ≠ [] → exec i s = .next ({ q with rul := { q.rul with cmd := some c } }.rulEvent .command)) ∧
      (q.rul.events = [] →
        let g := went q
        let hist := histCmd g [c.cmd, c.arg]
        (opc = 1 ∨ (opc = 3 ∧ fnBusy g c = false) → exec i s = .next (wakeFerrule g f)) ∧
        (2 ≤ opc → opc ≤ 4 → fnBusy g c = true → fnBusy hist c = true → exec i s = .next (afterEvent (endCmd hist 3 0x21 0))) ∧
        (opc = 2 → fnBusy g c = false → fnBusy hist c = false → exec i s = .next (afterEvent (endCmd (destroyFn (logCmd hist c c.index []) c.index) 0 0 0))) ∧
        (opc = 4 → fnBusy hist c = false → getField c.arg 0 48 ≤ curStroke hist (hist.fn c.index).desc.dom → exec i s = .next (afterEvent (endCmd hist 3 0x22 0))) ∧
        (opc = 4 → fnBusy hist c = false → curStroke hist (hist.fn c.index).desc.dom < getField c.arg 0 48 → exec i s = .next (afterEvent
          (endCmd (hist.setFn c.index { hist.fn c.index with ckpt := some (getField c.arg 0 48) }) (if (hist.fn c.index).ckpt.isSome then 0x81 else 0) 0 0))) ∧
        (opc = 5 ∨ opc = 6 → init ≠ 0x20 → exec i s = .next (afterEvent (endCmd hist 3 0x20 0))) ∧
        (opc = 5 → init = 0x20 → n < 18 → bitOf (hist.rd (F.RUL_SVC f)) n = true → exec i s = .next (afterEvent (endCmd (nibOut hist f n) 0 0 0))) ∧
        (opc = 5 → init = 0x20 → bitOf (hist.rd (F.RUL_SVC f)) n = false → exec i s = .next (afterEvent (endCmd hist 3 0x23 0))) ∧
        (opc = 6 → init = 0x20 → n < 18 → bitOf (hist.rd (F.RUL_SVC f)) n = false →
          exec i s = .next (afterEvent (endCmd (histAll (enterService hist f n) [faultWord 3 f n]) 0 0 0))))

/-- What waits for the ruler is taken in order: the event at the head of its queue, when the command row names its kind, and nothing
otherwise (R273, R304, R305, R325, R327). -/
def Claims.RulerEvents : Prop :=
  ∀ (s : State) (t f n i w : Nat) (c : RulCmd) (ws : List Word) (a : Bool),
    let u := s.tick t
    (headEvent u (fun e => match e with | .command => true | _ => false) = some .command → u.rul.cmd = some c →
      exec (.rulerQueuedCommandStart t) s = .next (startCmd (popEvent u) c)) ∧
    (u.rul.events = [] → ∀ x ∈ [Instr.rulerQueuedCommandStart t, .rulerHandleNibFault t, .rulerHandleTwinOutcome t, .rulerHandleSliceCommit t, .rulerHandleShadowOutcome t],
      exec x s = .next u) ∧
    (headEvent u (fun e => match e with | .nibFault _ _ => true | .nibReturn _ _ => true | _ => false) = some (.nibFault f n) →
      exec (.rulerHandleNibFault t) s = .next (afterEvent (nibFails (popEvent u) f n))) ∧
    (headEvent u (fun e => match e with | .nibFault _ _ => true | .nibReturn _ _ => true | _ => false) = some (.nibReturn f n) →
      exec (.rulerHandleNibFault t) s = .next (afterEvent (histAll (enterService (popEvent u) f n) [faultWord 3 f n]))) ∧
    (headEvent u (fun e => match e with | .twinOutcome _ _ => true | _ => false) = some (.twinOutcome i w) →
      exec (.rulerHandleTwinOutcome t) s = .next (afterEvent (twinRuling (popEvent u) i w))) ∧
    (headEvent u (fun e => match e with | .slice _ => true | _ => false) = some (.slice ws) →
      exec (.rulerHandleSliceCommit t) s = .next (
        let q := histAll (popEvent u) ws
        afterEvent (forEach (liveFns q) q (fun s i => if settled s i then slicePlace s i else s)))) ∧
    (headEvent u (fun e => match e with | .shadow _ _ => true | _ => false) = some (.shadow i a) →
      exec (.rulerHandleShadowOutcome t) s = .next (afterEvent (shadowRuling (popEvent u) i a)))

/-- The staging area of a CREATE is read: an area outside the inkwell ends the command with STATUS 01h and REASON 01h; otherwise its
descriptor is taken and the function created or updated; a placement whose image is loaded becomes effective at the next stroke
(R307 to R312). -/
def Claims.FunctionLoading : Prop :=
  ∀ (s : State) (t fn : Nat) (c : RulCmd),
    let u := s.tick t
    let f := getField c.arg 0 6
    let a := getField c.arg 6 18
    (u.rul.cmd = none → exec (.stagingAreaRead t) s = .next u) ∧
    (u.rul.cmd = some c → c.started = true → c.opc = 1 → ferRun u f = true →
      (areaOk u f a 4 = false → areaOk (histCmd u [c.cmd, c.arg]) f a 4 = false →
        exec (.stagingAreaRead t) s = .next (afterEvent (endCmd (histCmd u [c.cmd, c.arg]) 1 1 0))) ∧
      (areaOk u f a 4 = true → areaOk u f a (descrLen (u.inks f a 4)) = true →
        let ws := u.inks f a (descrLen (u.inks f a 4))
        let q := histCmd u ([c.cmd, c.arg] ++ ws)
        areaOk q f a 4 = true → areaOk q f a (descrLen (ws.take 4)) = true → exec (.stagingAreaRead t) s = .next
          (afterEvent (createFn { q with rul := { q.rul with staged := some (readDescr ws) } } c (readDescr ws))))) ∧
    ((u.fn fn).loaded = true → (u.fn fn).update = none → (u.fn fn).move = none → exec (.functionLoadComplete t fn) s = .next u) ∧
    (u.rd (F.RUL_FST fn) = 1 → (u.fn fn).loaded = false → fersRun u ((u.fn fn).places.map (fun q => q.2)) = true → (u.fn fn).subs = [] →
      (u.fn fn).update = none → (u.fn fn).move = none →
      exec (.functionLoadComplete t fn) s = .next (u.setFn fn { u.fn fn with loaded := true }))

/-- Commands, events and loading of the ruler: RulerCommands, RulerEvents, FunctionLoading. -/
def Obligations.Ruler : Prop :=
  Claims.RulerCommands ∧ Claims.RulerEvents ∧ Claims.FunctionLoading

/-! ### Publications, trip lines and interrupts -/

/-- CREATE and DESTROY of a publication, accepted: refused with the reason of the first check that fails, or performed with STATUS
00h and, for CREATE, the handle; a handle of a free or foreign context is ignored for its reason (R333). -/
def Claims.PublicationCommands : Prop :=
  ∀ (s : State) (t init f seq h : Nat),
    let u := s.tick t
    let page := 0x103 + 4 * f
    let p := h % 2 ^ 20
    (Rings u init page seq 1 0 →
      let q := accepted u page seq 1 0
      let a := pubArgs q f
      let free := findBelow (fun k => q.rd (F.PUB_PSTATE_48 f k) = 0) 32
      (pubRefusal q f init free a ≠ 0 → exec (.pubCreate t init f seq 0) s = .next (q.complete page 1 (pubRefusal q f init free a) 0)) ∧
      (∀ k, pubRefusal q f init free a = 0 → free = some k → exec (.pubCreate t init f seq 0) s = .next
        ((pubMake q (32 * f + k) (initTenant q init) a).complete page 0 0 (q.handle 2 (32 * f + k) (32 * f + k))))) ∧
    (Rings u init page seq 1 h → h ≠ 0 → exec (.pubCreate t init f seq h) s = .next ((rung u page seq 1 h).ignored page 8 4)) ∧
    (Rings u init page seq 2 h →
      let v := rung u page seq 2 h
      let q := accepted u page seq 2 h
      (∀ r, handleCheck v pubHandles h (fun i => v.rd (F.PUB_OWNER i) = initTenant v init) = some r →
        exec (.pubDestroy t init f seq h) s = .next (v.ignored page 8 r)) ∧
      (handleCheck v pubHandles h (fun i => v.rd (F.PUB_OWNER i) = initTenant v init) = none → pubHere v f p = true →
        v.rd (F.TEN_TSTATE (v.rd (F.PUB_OWNER p))) ≠ 3 →
        (q.rd (F.PUB_PSTATE_18 p) = 2 → exec (.pubDestroy t init f seq h) s = .next (q.complete page 1 8 0)) ∧
        (q.rd (F.PUB_PSTATE_18 p) ≠ 2 → exec (.pubDestroy t init f seq h) s = .next ((pubFree q p).complete page 0 0 0))))

/-- GOOSE_RETRANSMIT: at its instant the next frame of the sequence goes out with sqNum one higher, and NEXT shows the one after;
before it, nothing happens (R350). -/
def Claims.GooseRetransmission : Prop :=
  ∀ (s : State) (t p : Nat),
    let u := s.tick t
    let x := u.pub p
    (x.live = false ∨ u.devTime < x.t1 + gooseDelay u p (x.step + 1) → exec (.gooseRetransmit t p) s = .next u) ∧
    (x.live = true → x.t1 + gooseDelay u p (x.step + 1) ≤ u.devTime → exec (.gooseRetransmit t p) s = .next (gooseFrame (setNext
      ((u.wr (F.PUB_SQNUM p) (incNum (u.rd (F.PUB_SQNUM p)))).setPub p { x with step := x.step + 1 }) p) p 1))

/-- Publications and the retransmission of GOOSE: PublicationCommands, GooseRetransmission. -/
def Obligations.Publications : Prop :=
  Claims.PublicationCommands ∧ Claims.GooseRetransmission

/-- A scheduled edge of a trip line is armed only on an enabled line in scheduled mode of an ARMED device, 1.000 µs or more ahead;
it is cancelled by CAN; it drives the line at its instant and not before (R356). -/
def Claims.ScheduledEdges : Prop :=
  ∀ (s : State) (t init l : Nat) (v : Word),
    let u := s.tick t
    (Passes u init (0x103 + 4 * l) 36 true →
      (u.isSet (F.PUB_SPEND l) = false → getField v 2 1 = 0 →
        let q := u.wr (F.PUB_SLVL l) (getField v 0 1)
        (q.isSet (F.PUB_TEN l) = true → q.isSet (F.PUB_TMODE l) = true → q.isSet F.CSN_ARMED = true →
          (timeWord (q.devTime + 1000)).toNat ≤ q.rd (F.PUB_SCHT l) →
          exec (.tripSchedArm t init l v) s = .next (q.wr (F.PUB_SPEND l) 1)) ∧
        (q.isSet (F.PUB_TEN l) = false ∨ q.isSet (F.PUB_TMODE l) = false ∨ q.isSet F.CSN_ARMED = false ∨
          q.rd (F.PUB_SCHT l) < (timeWord (q.devTime + 1000)).toNat →
          exec (.tripSchedArm t init l v) s = .next (q.ignored (0x103 + 4 * l) 36 7))) ∧
      (u.isSet (F.PUB_SPEND l) = true → getField v 2 1 = 0 →
        exec (.tripSchedArm t init l v) s = .next (u.ignored (0x103 + 4 * l) 36 7)) ∧
      (u.isSet (F.PUB_SPEND l) = true → exec (.tripSchedCancel t init l) s = .next (schedCancel u l))) ∧
    (u.isSet (F.PUB_SPEND l) = false ∨ (timeWord u.devTime).toNat < u.rd (F.PUB_SCHT l) →
      exec (.scheduledEdgeFire t l) s = .next u) ∧
    (u.isSet (F.PUB_SPEND l) = true → u.rd (F.PUB_SCHT l) ≤ (timeWord u.devTime).toNat → exec (.scheduledEdgeFire t l) s = .next (
      let q := u.wr (F.PUB_SPEND l) 0
      tripNow (q.setTrip l { q.trip l with sched := q.isSet (F.PUB_SLVL l), schedAny := true }) l))

/-- A change of a binary input is timed, and accepted when it has held for the debounce time: its level is shown and, while the
queue of 16 has room, an event of it queued, else counted lost; reading BI_EVT takes the oldest (R357). -/
def Claims.BinaryInputs : Prop :=
  ∀ (s : State) (t init i : Nat) (b : Bool),
    let u := s.tick t
    let v := u.setTrip i { u.trip i with ball := b }
    let lvl := u.isSet (F.PUB_RAW i)
    let q := u.wrb (F.PUB_BLVL i) lvl
    let x := u.trip i
    (v.isSet (F.PUB_BEN i) = false ∨ ferRun v i = false → exec (.binaryInputChange t i b) s = .next v) ∧
    (v.isSet (F.PUB_BEN i) = true → ferRun v i = true → (b ^^ v.isSet (F.PUB_BINV i)) ≠ v.isSet (F.PUB_RAW i) → v.rd (F.PUB_DEB i) ≠ 0 → s.Inv →
      exec (.binaryInputChange t i b) s = .next
        ((v.wrb (F.PUB_RAW i) (b ^^ v.isSet (F.PUB_BINV i))).setTrip i { v.trip i with since := v.devTime })) ∧
    (biDue u i = false → exec (.binaryInputAccept t i) s = .next u) ∧
    (biDue u i = true → x.queue.length < 16 → exec (.binaryInputAccept t i) s = .next
      (biHead ((q.setTrip i { x with queue := x.queue ++ [(lvl, x.since, x.fresh)], fresh := false }).wr (F.PUB_BIEV i) 1) i)) ∧
    (biDue u i = true → 16 ≤ x.queue.length → exec (.binaryInputAccept t i) s = .next
      (((q.setTrip i { x with fresh := false }).bump (F.PUB_BLOST i)).wr (F.PUB_BILOST i) 1)) ∧
    (Passes u init (0x103 + 4 * i) 43 false → exec (.biEventPop t init i) s = .next
      (biHead (u.setTrip i { x with queue := x.queue.drop 1 }) i))

/-- Scheduled edges and binary inputs: ScheduledEdges, BinaryInputs. -/
def Obligations.TripLines : Prop :=
  Claims.ScheduledEdges ∧ Claims.BinaryInputs

/-- RUN starts and holds a scribe; WFI ends at a deliverable interrupt; a scribe takes the interrupt as an exception of code 10h and
claims it; a timer has no effect of its own (R398, R420, R424, R426, R446). -/
def Claims.ScribeEvents : Prop :=
  ∀ (s : State) (t init n src level ilvl : Nat),
    let u := s.tick t
    (Passes u init (0x200 + n) 8 true →
      exec (.scribeRunWrite t init n true) s = .next (scribeStart (u.wr (F.DSK_RUN n) 1) n) ∧
      exec (.scribeRunWrite t init n false) s = .next (scribeHold (u.wr (F.DSK_RUN n) 0) n)) ∧
    (n < 32 → u.rd (F.DSK_SST n) = 2 → icuClaimable u n ≠ none → exec (.wfiWake t n) s = .next (stepDone (wake u n) n)) ∧
    (u.rd (F.DSK_SST n) ≠ 2 ∨ icuClaimable u n = none → exec (.wfiWake t n) s = .next u) ∧
    (n < 32 → u.rd (F.DSK_SST n) = 1 → (u.scribe n).haltReq = false → coreInterrupt u n = some (src, level, ilvl) →
      exec (.scribeInterruptEntry t n) s = .next (takeInterrupt (icuTaken u n src) n src level ilvl)) ∧
    (scribeUp u n = true → (u.scribe n).haltReq = false → coreInterrupt u n = none → exec (.scribeInterruptEntry t n) s = .next u) ∧
    exec (.scribeTimerExpire t n) s = .next u ∧
    (∀ w, (u.scribe n).walk = some w → n < 32 → scribeUp u n = true →
      (u.now < w.since + 10000 → exec (.walkTimeout t n) s = .next u) ∧
      (w.since + 10000 ≤ u.now → w.entry = false → exec (.walkTimeout t n) s = .next (trap (u.modScribe n (fun c => { c with walk := none })) n
        { code := 5, sub := w.sub + 2, atH := decide (128 ≤ w.sub), split := w.split, faddr := w.va, fpaddr := w.pa, inst := w.inst })))

/-- Claiming, ending and raising interrupts: a read of IACK answers the claimed source, or the word of no source; a write of IEOI
ends the claim; a write of SWI raises a software source; a source's setting is kept for later while it is active; and each is a
privileged operation at U (R425, R426, R428). -/
def Claims.InterruptController : Prop :=
  ∀ (s : State) (t init n src : Nat) (gd : BitVec 5) (v : Word),
    let u := s.tick t
    (n < 32 → u.rd (F.DSK_SST n) = 1 → scribeLevel (u.scribe n) ≠ 0 →
      (icuClaimable u n = none → exec (.iackRead t n gd) s = .next (u.setG n gd.toNat (iackValue u none))) ∧
      (icuClaimable u n = some src → exec (.iackRead t n gd) s = .next ((icuClaim u src n).setG n gd.toNat (iackValue u (some src)))) ∧
      (u.icu.active.contains (v.toNat, n) = false → exec (.ieoiWrite t n v) s = .next u) ∧
      (u.icu.active.contains (v.toNat, n) = true →
        let q : State := { u with icu := { u.icu with active := u.icu.active.filter (fun e => e != (v.toNat, n)) } }
        exec (.ieoiWrite t n v) s = .next (if q.icu.active.any (fun e => e.1 == v.toNat) then q
          else q.wr (F.ICU_ACT (icuPage v.toNat) (icuSlot v.toNat)) 0)) ∧
      ((288 ≤ v.toNat ∧ v.toNat ≤ 319) ∨ (530 ≤ v.toNat ∧ v.toNat ≤ 639) → exec (.swiWrite t n v) s = .next (icuEdge u v.toNat)) ∧
      (¬ ((288 ≤ v.toNat ∧ v.toNat ≤ 319) ∨ (530 ≤ v.toNat ∧ v.toNat ≤ 639)) → exec (.swiWrite t n v) s = .next u)) ∧
    (n < 32 → u.rd (F.DSK_SST n) = 1 → scribeLevel (u.scribe n) = 0 →
      ∀ c ∈ [Instr.iackRead t n gd, .ieoiWrite t n v, .swiWrite t n v], exec c s = .next (trap u n { code := 2 })) ∧
    (Passes u init (0x240 + icuPage src) (32 + icuSlot src) true →
      (getField v 5 2 = 3 ∨ (getField v 5 2 ≠ 0 ∧ getField v 9 3 ≠ 0) →
        exec (.icuSourceWrite t init src v) s = .next (u.ignored (0x240 + icuPage src) (32 + icuSlot src) 7)) ∧
      (getField v 5 2 ≠ 3 → getField v 5 2 = 0 ∨ getField v 9 3 = 0 →
        (u.icuRd F.ICU_ACT src = 1 → exec (.icuSourceWrite t init src v) s = .next
          { u with icu := { u.icu with next := (u.icu.next.filter (fun e => e.1 ≠ src)) ++ [(src, v)] } }) ∧
        (u.icuRd F.ICU_ACT src ≠ 1 → exec (.icuSourceWrite t init src v) s = .next (icuConfig u src v))))

/-- Events of scribes and the interrupt controller: ScribeEvents, InterruptController. -/
def Obligations.ScribeInterrupts : Prop :=
  Claims.ScribeEvents ∧ Claims.InterruptController

/-! ### Memory -/

/-- A request that a home agent orders waits behind the requests of its line, with the desks it snoops; a write back that waits at
the home agent gives its data first; a posted partial write is ordered with those before it performed (R451, R453, R458, R459). -/
def Claims.HomeOrders : Prop :=
  ∀ (s : State) (t line src : Nat) (w : Wb) (p : Posted),
    let u := s.tick t
    (∀ e ∈ [(Instr.homeRds t line src, 0, 1), (.homeRdx t line src, 1, 1), (.homeUpg t line src, 2, 0), (.homeZx t line src, 3, 0), (.homeNcrd t line src, 4, 1)],
      let x : Tx := { line := line, kind := e.2.1, src := src, waits := snoopDesks u line e.2.1 src, since := u.now, rd := e.2.2, wr := [] }
      let q : State := match srcDesk src with
        | some d => if e.2.1 ≤ 1 then u.bump (F.DSK_L2MISS d) else u
        | none => u
      (u.mem.wbs.find? (fun w => w.line == line && w.ordered && !w.spent) = none → exec e.1 s = .next (q.setTxs (q.mem.txs ++ [x]))) ∧
      (u.mem.wbs.find? (fun w => w.line == line && w.ordered && !w.spent) = some w →
        let r := q.setWbs (q.mem.wbs.map (fun y => if y = w then { y with spent := true } else y))
        exec e.1 s = .next (if 1 ≤ e.2.1 ∧ e.2.1 ≤ 3 then r.setTxs (r.mem.txs ++ [{ x with data := some w.words, poison := w.poison, rd := 0 }])
          else (r.memWrite line w.words w.poison).setTxs (r.mem.txs ++ [x])))) ∧
    (u.mem.posted.find? (fun p => p.src == src && p.line == line) = some p → exec (.homeNcwr t line src) s = .next
      (ncWrite { u with mem := { u.mem with posted := removeFirst u.mem.posted (fun x => x == p) } } src line p.wr)) ∧
    (u.mem.posted.find? (fun p => p.src == src && p.line == line) = none → exec (.homeNcwr t line src) s = .next u) ∧
    ((∀ x ∈ u.mem.txs, x.line = line → x.waits = []) → exec (.homeWb t line src) s = .next
      (u.setWbs (replaceFirst u.mem.wbs (fun w => w.line == line && srcDesk src == some w.desk && !w.ordered) (fun w => { w with ordered := true }))))

/-- A desk that can answer the snoop of the first request waiting for it answers once: its copy changes as the snoop asks, and the
request keeps what it was given; a snoop of another kind does nothing (R452). -/
def Claims.SnoopAnswers : Prop :=
  ∀ (s : State) (t d line : Nat) (x : Tx),
    let u := s.tick t
    let k := snoopOf x.kind
    let a := (answerSnoop u d line k).1
    let q := (answerSnoop u d line k).2
    let y : Tx := { x with waits := x.waits.filter (· ≠ d), shared := x.shared || a.kept || a.data.isSome }
    let z : Tx := match a.data with
      | some ws => if x.kind = 3 then y else { y with data := some ws, poison := a.poison, fromWb := a.wb, rd := 0 }
      | none => y
    let r := q.setTxs (replaceFirst q.mem.txs (fun y => y == x) (fun _ => z))
    let v := if a.lost then r.memWrite line zeroLine true else r
    d < 8 → u.mem.txs.find? (fun x => x.line == line && x.waits.contains d) = some x →
    (canAnswer u d line k = true →
      (k = 0 → exec (.snoopSnps t d line) s = .next v) ∧ (k = 1 → exec (.snoopSnpx t d line) s = .next v) ∧
      (k = 2 → exec (.snoopSnpinv t d line) s = .next (finishLine v line)) ∧ (k = 3 → exec (.snoopSnprd t d line) s = .next (finishLine v line))) ∧
    (canAnswer u d line k = false ∨ k ≠ 0 → exec (.snoopSnps t d line) s = .next u) ∧
    (canAnswer u d line k = false ∨ k ≠ 1 → exec (.snoopSnpx t d line) s = .next u)

/-- Grants, forwarded snoops, acknowledgements and reclaims of the home agents (R453, R454, R456): a grant is delivered when nothing
is left to wait for; a write back acknowledged is written to memory unless a request took its data. -/
def Claims.Grants : Prop :=
  ∀ (s : State) (t d line : Nat) (x : Tx) (w : Wb),
    let u := s.tick t
    (u.mem.txs.find? (fun t => t.line == line) = some x → caching x.kind = true → srcDesk x.src = some d →
      (x.waits ≠ [] → exec (.grantDeliver t d line) s = .next u) ∧
      (x.waits = [] → x.kind = 3 → exec (.grantDeliver t d line) s = .next (
        let q := u.setTxs (removeFirst u.mem.txs (fun y => y.line == line))
        (q.l2Install d line { line := line, st := 4, words := zeroLine }).setPres d line 4))) ∧
    (u.mem.txs.find? (fun x => x.line == line && x.waits.contains (8 + d)) = none → u.mem.txs.find? (fun t => t.line == line) = none →
      exec (.forwardedSnoop t d line) s = .next u) ∧
    (∀ y, u.mem.txs.find? (fun y => y.line == line && y.waits.contains (8 + d)) = some y → d < 8 → u.mem.txs.find? (fun z => z.line == line) = some y →
      snoopOf y.kind = 1 → caching y.kind = true → y.kind ≠ 3 → canAnswer u d line 1 = true → (answerSnoop u d line 1).1 = { data := none } →
      (answerSnoop u d line 1).2 = u → exec (.forwardedSnoop t d line) s = .next
        (u.setTxs (replaceFirst u.mem.txs (fun x => x == y) (fun _ => { y with waits := y.waits.filter (· ≠ 8 + d) })))) ∧
    (u.mem.wbs.find? (fun w => w.desk == d && w.line == line && w.ordered) = some w →
      let q := u.setWbs (removeFirst u.mem.wbs (fun x => x == w))
      exec (.wbAck t d line) s = .next (if w.spent then q else q.memWrite line w.words w.poison)) ∧
    (u.mem.wbs.find? (fun w => w.desk == d && w.line == line && w.ordered) = none → exec (.wbAck t d line) s = .next u)

/-- A snoop that 10.000 µs leave unanswered is captured once and counted after that; a reclaim message is ordered like a request; a
walk of reclaims ends when none is left, and the desk is then dead (R466, R469). -/
def Claims.SnoopTimeoutAndReclaim : Prop :=
  ∀ (s : State) (t d line : Nat) (x : Tx) (r : Nat × Nat),
    let u := s.tick t
    let c := (lineChannel u line).1
    (x ∈ u.mem.txs → x.line = line → x.waits.contains d = true → x.since + 10000 ≤ u.now →
      (u.isSet (F.DMC_SV c) = true → exec (.snoopTimeout t d line) s = .next (u.bump (F.DMC_STCNT c))) ∧
      (u.isSet (F.DMC_SV c) = false → exec (.snoopTimeout t d line) s = .next
        (((((u.wr (F.DMC_SDESK c) d).wr (F.DMC_SLINE c) line).wr (F.DMC_SV c) 1).pageErr (0x260 + c) 0x11 20 (line % 2 ^ 40)).setBit (F.DMC_EVT c) 1))) ∧
    ((∀ x ∈ u.mem.txs, u.now < x.since + 10000) → exec (.snoopTimeout t d line) s = .next u) ∧
    (u.mem.reclaims.find? (fun r => r.2 == line) = none → exec (.reclaimMessage t line) s = .next u) ∧
    (u.mem.reclaims.find? (fun r => r.2 == line) = some r → (∀ x ∈ u.mem.txs, x.line ≠ line) → exec (.reclaimMessage t line) s = .next
      (drive (u.mem.txs.length + 2) (homeOrder { u with mem := { u.mem with reclaims := removeFirst u.mem.reclaims (fun x => x == r) } }
        line 6 (8 * r.1) []) line)) ∧
    (reclaimDesk u ≠ some d → exec (.reclaimWalkComplete t d) s = .next u) ∧
    (reclaimDesk u = some d → (∃ r ∈ u.mem.reclaims, r.1 = d) → exec (.reclaimWalkComplete t d) s = .next u) ∧
    (reclaimDesk u = some d → (∀ r ∈ u.mem.reclaims, r.1 ≠ d) → (∀ x ∈ u.mem.txs, x.kind ≠ 6) → (∀ c, c < 4 → (u.dmc c).held = []) →
      exec (.reclaimWalkComplete t d) s = .next (
        let q := (u.wr (F.PWR_RECL d) 0).wr (F.PWR_DEAD d) 1
        let q : State := { q with pwr := { q.pwr with held := q.pwr.held.filter (fun b => b ≠ 64 + d && b ≠ 192 + d) } }
        pwrEnd (commanded (deskReset (q.wr (F.PWR_DST d) 3) d) (64 + d) 3) 0 0))

/-- The home agents: requests, snoops, grants, reclaims: HomeOrders, SnoopAnswers, Grants, SnoopTimeoutAndReclaim. -/
def Obligations.Coherence : Prop :=
  Claims.HomeOrders ∧ Claims.SnoopAnswers ∧ Claims.Grants ∧ Claims.SnoopTimeoutAndReclaim

/-- R486: a snoop timeout captures the desk and the line, ECODE 11h and the DRAM event; only the first one until DMC_SNTO is read,
and later ones count. -/
def Obligations.SnoopTimeoutRecord : Prop :=
  ∀ (s : State) (t d line : Nat) (x : Tx), s.Inv → d < 4 → line < 2 ^ 38 →
    let u := s.tick t
    let c := (lineChannel u line).1
    (x ∈ u.mem.txs → x.line = line → x.waits.contains d = true → x.since + 10000 ≤ u.now → c < 4 →
      ∃ q, exec (.snoopTimeout t d line) s = .next q ∧
        (u.isSet (F.DMC_SV c) = false → q.rd (F.DMC_SDESK c) = d ∧ q.rd (F.DMC_SLINE c) = line ∧ q.isSet (F.DMC_SV c) = true ∧
          (u.rd (F.HDR_ECODE (0x260 + c)) = 0 → q.rd (F.HDR_ECODE (0x260 + c)) = 0x11) ∧ bitOf (q.rd (F.DMC_EVT c)) 1 = true) ∧
        (u.isSet (F.DMC_SV c) = true → q.rd (F.DMC_SDESK c) = u.rd (F.DMC_SDESK c) ∧ q.rd (F.DMC_SLINE c) = u.rd (F.DMC_SLINE c) ∧
          q.rd (F.DMC_STCNT c) = min (u.rd (F.DMC_STCNT c) + 1) (2 ^ 16 - 1))) ∧
    ∀ init c, c < 4 → Passes u init (0x260 + c) 20 false →
      ∃ q, exec (.clearOnRead t init 0 (0x260 + c) 20 8) s = .next q ∧ q.isSet (F.DMC_SV c) = false

/-- Configuration and commands of a channel: configured only OFF or READY, released only FROZEN, reset only ACTIVE or FROZEN,
trained step by step and made ACTIVE only after the sixth step; otherwise the write is ignored or the command refused for state
(R485, R487, R488). -/
def Claims.ChannelCommands : Prop :=
  ∀ (s : State) (t init c seq : Nat) (v : Word),
    let u := s.tick t
    let page := 0x260 + c
    (Passes u init page 11 true →
      (getField v 1 2 = 3 ∨ (u.rd (F.DMC_STATE c) ≠ 0 ∧ u.rd (F.DMC_STATE c) ≠ 1) →
        exec (.dmcConfigWrite t init c v) s = .next (u.ignored page 11 7)) ∧
      (getField v 1 2 ≠ 3 → u.rd (F.DMC_STATE c) = 0 ∨ u.rd (F.DMC_STATE c) = 1 →
        let q := u.setWord (page * 512 + 11) (BitVec.ofNat 72 (getField v 0 11))
        exec (.dmcConfigWrite t init c v) s = .next (if q.isSet (F.DMC_EN c) ∧ q.rd (F.DMC_STATE c) = 0 then q.wr (F.DMC_STATE c) 1 else q))) ∧
    ∀ e ∈ [(Instr.dmcRelease t init c seq, 1), (.dmcReset t init c seq, 2), (.dmcTrain t init c seq, 3), (.dmcEnable t init c seq, 4)],
      Rings u init page seq e.2 0 →
      let q := accepted u page seq e.2 0
      let st := q.rd (F.DMC_STATE c)
      let step := getField (q.word (page * 512 + 10)) 0 3
      (init ≠ 0x20 → exec e.1 s = .next (q.complete page 1 1 0)) ∧
      (init = 0x20 → e.2 = 1 → st = 3 → exec e.1 s = .next ((dmcRelease q c).complete page 0 0 0)) ∧
      (init = 0x20 → e.2 = 2 → st = 2 ∨ st = 3 → exec e.1 s = .next (dmcResetStart q c)) ∧
      (init = 0x20 → e.2 = 3 → st = 1 → 1 ≤ step → step ≤ 6 → exec e.1 s = .next (q.setDmc c { q.dmc c with step := step })) ∧
      (init = 0x20 → e.2 = 4 → st = 1 → q.rd (F.DMC_STEP c) = 6 → exec e.1 s = .next
        (((q.setDmc c { q.dmc c with activeAt := q.now, patrol := 0 }).wr (F.DMC_STATE c) 2).complete page 0 0 0)) ∧
      (init = 0x20 → (e.2 = 1 ∧ st ≠ 3) ∨ (e.2 = 2 ∧ st ≠ 2 ∧ st ≠ 3) ∨ ((e.2 = 3 ∨ e.2 = 4) ∧ st ≠ 1) ∨ (e.2 = 4 ∧ q.rd (F.DMC_STEP c) ≠ 6) ∨
        (e.2 = 3 ∧ (step = 0 ∨ step = 7)) → exec e.1 s = .next (q.complete page 1 2 0))

/-- Errors of a channel: a read that cannot be corrected, an alert and the third CRC error of a write freeze it, and a frozen
channel counts (R475, R482). -/
def Claims.ChannelErrors : Prop :=
  ∀ (s : State) (t c line : Nat) (errs : List (Nat × Nat)) (x : Tx),
    let u := s.tick t
    let d := decodeBurst (u.memLine line) (u.marked line) errs
    let put (q : State) (y : Tx) : State := q.setTxs (replaceFirst q.mem.txs (fun z => z == x) (fun _ => y))
    (u.mem.txs.find? (fun x => x.line == line && x.rd == 1) = some x → (lineChannel u line).1 = c → u.rd (F.DMC_STATE c) = 2 →
      (d.out = 3 → exec (.dramReadDecode t c line errs) s = .next (freezeChannel (put u { x with rd := 3, data := some d.words }) c 1 line 1 x.src d.synd)) ∧
      (d.out = 0 → exec (.dramReadDecode t c line errs) s = .next (finishLine (put u { x with rd := 2, data := some d.words, poison := false }) line)) ∧
      (d.out = 1 → exec (.dramReadDecode t c line errs) s = .next
        (finishLine (put (u.bump (F.DMC_CECNT c)) { x with rd := 2, data := some d.words, poison := false }) line)) ∧
      (d.out = 2 → exec (.dramReadDecode t c line errs) s = .next
        (finishLine (put (u.bump (F.DMC_POISRD c)) { x with rd := 2, data := some d.words, poison := true }) line))) ∧
    (u.rd (F.DMC_STATE c) = 3 → exec (.dramAlertParity t c line) s = .next (u.bump (F.DMC_ECNT c)) ∧
      exec (.dramWriteCrcError t c line) s = .next (u.bump (F.DMC_ECNT c))) ∧
    (u.rd (F.DMC_STATE c) = 2 → u.mem.txs.find? (fun x => x.line == line) = none →
      exec (.dramAlertParity t c line) s = .next (freezeChannel u c 2 line 3 0 0)) ∧
    (u.rd (F.DMC_STATE c) = 2 → u.mem.txs.find? (fun x => x.line == line) = some x →
      exec (.dramAlertParity t c line) s = .next (freezeChannel u c 2 line (if x.kind = 5 then 2 else 1) x.src 0)) ∧
    (u.rd (F.DMC_STATE c) = 2 → u.rd (F.DMC_WCRC c) ≠ 0 →
      let n := if (u.dmc c).crc.1 = line then (u.dmc c).crc.2 + 1 else 1
      (n < 3 → exec (.dramWriteCrcError t c line) s = .next ((u.setDmc c { u.dmc c with crc := (line, n) }).bump (F.DMC_WCRCR c))) ∧
      (3 ≤ n → u.mem.txs.find? (fun x => x.line == line) = some x → exec (.dramWriteCrcError t c line) s = .next
        (freezeChannel (u.setDmc c { u.dmc c with crc := (0, 0) }) c 3 line 2 x.src 0)))

/-- Commands and errors of the DRAM channels: ChannelCommands, ChannelErrors. -/
def Obligations.DramChannels : Prop :=
  Claims.ChannelCommands ∧ Claims.ChannelErrors

/-- Patrol reads, refreshes, temperature reads, drift and the wait of a scribe on a frozen channel (R478, R479, R484, R487). -/
def Claims.ChannelUpkeep : Prop :=
  ∀ (s : State) (t c n m : Nat) (errs : List (Nat × Nat)),
    let u := s.tick t
    let x := u.dmc c
    let line := channelLine u c x.patrol
    let d := decodeBurst (u.memLine line) (u.marked line) errs
    let q := u.setDmc c { x with patrol := (x.patrol + 1) % channelLines u c }
    (u.rd (F.DMC_STATE c) ≠ 2 ∨ u.rd (F.DMC_SCRUB c) = 0 → exec (.dramPatrolRead t c errs) s = .next u) ∧
    (u.rd (F.DMC_STATE c) = 2 → u.rd (F.DMC_SCRUB c) ≠ 0 → x.activeAt + 1000000000 ≤ u.now →
      (d.out = 0 ∨ d.out = 2 → exec (.dramPatrolRead t c errs) s = .next q) ∧
      (d.out = 1 → exec (.dramPatrolRead t c errs) s = .next ((q.memStore line d.words (q.marked line)).bump (F.DMC_SCOR c))) ∧
      (d.out = 3 → exec (.dramPatrolRead t c errs) s = .next
        ((((q.memStore line d.words true).bump (F.DMC_SUNC c)).pageErr (0x260 + c) 0x12 17 (line % 2 ^ 40)).setBit (F.DMC_EVT c) 2))) ∧
    (u.rd (F.DMC_STATE c) = 2 → tget x.owed n ≤ 1 →
      (bankQueued u c n m = true → exec (.dramRefresh t c n m) s = .next (u.setDmc c { x with owed := tset x.owed n (tget x.owed n + 1) })) ∧
      (bankQueued u c n m = false → exec (.dramRefresh t c n m) s = .next
        ((u.setDmc c { x with owed := tset x.owed n (tget x.owed n) }).bump (F.DMC_REFSB c)))) ∧
    ((u.rd (F.DMC_STATE c) = 2 ∧ 2 ≤ tget x.owed n) ∨ u.rd (F.DMC_STATE c) = 3 → exec (.dramRefresh t c n m) s = .next
      ((u.setDmc c { x with owed := tset x.owed n (tget x.owed n) }).bump (F.DMC_REFAB c))) ∧
    (u.rd (F.DMC_STATE c) = 2 → n ≤ u.rd (F.DMC_RANKS c) → exec (.dramMr4Poll t c n m) s = .next (u.wr (F.DMC_RMUL c) m)) ∧
    (∀ y ∈ u.mem.txs, n < 32 → y.src = n → (lineChannel u y.line).1 = c → y.since + 10000 ≤ u.now → u.rd (F.DMC_STATE c) = 3 →
      exec (.frozenWaitTimeout t c n) s = .next (u.setBit (F.DMC_WAITS c) n)) ∧
    (u.rd (F.DMC_STATE c) ≠ 3 → exec (.frozenWaitTimeout t c n) s = .next u) ∧
    (u.rd (F.DMC_STATE c) = 2 → u.rd (F.PHY_DRIFT c) < m → exec (.phyDriftTrack t c m) s = .next (u.wr (F.PHY_DRIFT c) (min m 65535))) ∧
    (u.rd (F.DMC_STATE c) ≠ 2 ∨ m ≤ u.rd (F.PHY_DRIFT c) → exec (.phyDriftTrack t c m) s = .next u)

/-- A training step of a channel ends: passed, it is shown in STEP and the command ends with STATUS 00h, or the next step of a
retraining begins; failed, its place is captured and the command ends with STATUS 01h and REASON 03h (R487). -/
def Claims.TrainingSteps : Prop :=
  ∀ (s : State) (t c lane sub rank : Nat) (l : List PhyLane),
    let u := s.tick t
    let page := 0x260 + c
    let x := u.dmc c
    let q := phyResults u c l
    (x.step = 0 → ∀ b, exec (.trainingStepComplete t c b lane sub rank l) s = .next u) ∧
    (x.step ≠ 0 →
      let v := q.wr (F.DMC_STEP c) x.step
      (x.retrain = false → exec (.trainingStepComplete t c true lane sub rank l) s = .next ((v.setDmc c { x with step := 0 }).complete page 0 0 0)) ∧
      (x.retrain = true → x.step < 6 → exec (.trainingStepComplete t c true lane sub rank l) s = .next (v.setDmc c { x with step := x.step + 1 })) ∧
      (x.retrain = true → 6 ≤ x.step → exec (.trainingStepComplete t c true lane sub rank l) s = .next ((dmcResetEnd v c).complete page 0 0 0)) ∧
      exec (.trainingStepComplete t c false lane sub rank l) s = .next (
        let w := ((q.wr (F.DMC_FLANE c) lane).wr (F.DMC_FSUB c) sub).wr (F.DMC_FRNK c) rank
        let r := (w.pageErr page 0x13 23 0).setBit (F.DMC_EVT c) 3
        (r.setDmc c { x with step := 0, retrain := false }).complete page 1 3 0))

/-- Patrol, refresh and training of the DRAM channels: ChannelUpkeep, TrainingSteps. -/
def Obligations.DramUpkeep : Prop :=
  Claims.ChannelUpkeep ∧ Claims.TrainingSteps

/-- Commands of the DMA, accepted: a channel is created for a scribe that runs a host's program with arguments and windows in range,
destroyed and started only when it does not run, and stopped when it does (R491, R505). -/
def Claims.DmaCommands : Prop :=
  ∀ (s : State) (t init seq h : Nat),
    let u := s.tick t
    let n := h % 2 ^ 20
    (Rings u init 0x270 seq 1 0 →
      let q := accepted u 0x270 seq 1 0
      (hostScribe q init = false → exec (.dmaCreate t init seq 0) s = .next (q.complete 0x270 1 5 0)) ∧
      (hostScribe q init = true →
        let free := findBelow (fun n => decide (q.rd (F.DMB_CST n) = 0)) 32
        (free = none → exec (.dmaCreate t init seq 0) s = .next (q.complete 0x270 1 1 0)) ∧
        (∀ k, free = some k → dmaArgBad q = true → exec (.dmaCreate t init seq 0) s = .next (q.complete 0x270 1 2 0)) ∧
        (∀ k, free = some k → dmaArgBad q = false → (∃ j < 4, winBeyond (dmaArg q (1 + j)) = true) → exec (.dmaCreate t init seq 0) s = .next (q.complete 0x270 1 3 0)) ∧
        (∀ k, free = some k → dmaArgBad q = false → (∀ j < 4, winBeyond (dmaArg q (1 + j)) = false) →
          let r := (q.setDma k {}).wr (F.DMA_VCFG k) (getField (dmaArg q 0) 0 45)
          let w := (List.range 4).foldl (fun s j => s.wr (F.DMA_VWIN k j) (getField (dmaArg s (1 + j)) 0 64)) r
          let v := (w.wr (F.DMB_CST k) 1).wr (F.DMB_OWNER k) (dmaCfg w k 40 4)
          exec (.dmaCreate t init seq 0) s = .next (v.complete 0x270 0 0 (v.handle 5 k k))))) ∧
    ∀ e ∈ [(Instr.dmaDestroy t init seq h, 2), (.dmaStart t init seq h, 3), (.dmaStop t init seq h, 4)],
      Rings u init 0x270 seq e.2 h →
      let v := rung u 0x270 seq e.2 h
      let q := accepted u 0x270 seq e.2 h
      let live := q.rd (F.DMB_CST n) = 2 ∨ q.rd (F.DMB_CST n) = 3
      (∀ r, dmaHandleCheck v init h = some r → exec e.1 s = .next (v.ignored 0x270 8 r)) ∧
      (dmaHandleCheck v init h = none →
        (e.2 = 2 → ¬ live → exec e.1 s = .next ((dmaFree q n).complete 0x270 0 0 0)) ∧
        (e.2 = 3 → ¬ live → exec e.1 s = .next (dmaStart q n)) ∧
        (e.2 = 2 ∨ e.2 = 3 → live → exec e.1 s = .next (q.complete 0x270 1 4 0)) ∧
        (e.2 = 4 → live → exec e.1 s = .next (dmaStop q n (if getField (dmaArg q 0) 0 1 = 1 then 2 else 1))) ∧
        (e.2 = 4 → ¬ live → exec e.1 s = .next (q.complete 0x270 0x80 0 0)))

/-- Bursts of the DMA: the next channel in turn takes one when none is busy; a burst ends when its accesses are performed, or with
an error when 50.000 µs leave one of them open (R500, R501, R503). -/
def Claims.DmaBursts : Prop :=
  ∀ (s : State) (t n : Nat),
    let u := s.tick t
    let c := u.dmaChan n
    (n < 32 → c.busy = false → (∀ k < 32, (u.dmaChan k).busy = false) → dmaTurn u = some n → exec (.dmaBurst t n) s = .next (
      let q : State := { u.setDma n { c with busy := true, quota := Machine.dmaBurst u n * 64, lines := [], since := u.now } with dmaLast := n }
      dmaMoves dmaFuel (q.wr (F.DMB_WAIT n) 0) n)) ∧
    (c.busy = false → (∃ k < 32, (u.dmaChan k).busy = true) ∨ dmaTurn u ≠ some n → exec (.dmaBurst t n) s = .next u) ∧
    (n < 32 → c.busy = true → c.stop ≠ 2 → c.stop ≠ 4 → exec (.dmaBurst t n) s = .next (dmaMoves dmaFuel u n)) ∧
    (dmaSettled u n = false → exec (.dmaBurstComplete t n) s = .next u) ∧
    (dmaSettled u n = true → exec (.dmaBurstComplete t n) s = .next (dmaBurstEnd u n)) ∧
    (c.busy = false ∨ u.now < c.since + 50000 → exec (.dmaTargetTimeout t n) s = .next u) ∧
    (∀ a, c.busy = true → dmaSettled u n = false → c.since + 50000 ≤ u.now → c.wait = some a → exec (.dmaTargetTimeout t n) s = .next
      (dmaBurstEnd (dmaErr u n { code := 4, desc := c.src.desc, addr := a * 64 }) n))

/-- Commands and bursts of the DMA engine: DmaCommands, DmaBursts. -/
def Obligations.DmaEngine : Prop :=
  Claims.DmaCommands ∧ Claims.DmaBursts

/-! ### Tenants, management and power -/

/-- Commands of tenants, accepted: refused unless a host scribe gives them and the tenant is in the state they need, or performed
(R520, R522, R524, R526, R527, R528). -/
def Claims.TenantCommands : Prop :=
  ∀ (s : State) (t init seq h : Nat),
    let u := s.tick t
    let page := 0x2D0
    (∀ e ∈ [(Instr.tenantActivate t init seq, 1), (.qpcreate t init seq, 2), (.tenantFreeze t init seq, 4), (.tenantExport t init seq, 5),
            (.tenantImport t init seq, 6), (.tenantResume t init seq, 7), (.treset t init seq, 8)],
      Rings u init page seq e.2 0 →
      let q := accepted u page seq e.2 0
      let k := getField (tenArg q 0) 0 4
      let T := instantNs (tenArg q 1)
      let st := q.rd (F.TEN_TSTATE k)
      (hostScribe q init = false → exec e.1 s = .next (q.complete page 1 1 0)) ∧
      (hostScribe q init = true →
        ((e.2 ≠ 2 → k = 0 → exec e.1 s = .next (q.complete page 1 2 0)) ∧
        (e.2 = 1 ∨ e.2 = 6 → st ≠ 0 → exec e.1 s = .next (q.complete page 1 2 0)) ∧
        (e.2 = 4 → st ≠ 1 → exec e.1 s = .next (q.complete page 1 2 0)) ∧
        (e.2 = 5 ∨ e.2 = 7 → st ≠ 2 → exec e.1 s = .next (q.complete page 1 2 0)) ∧
        (e.2 = 8 → st ≠ 1 → st ≠ 2 → exec e.1 s = .next (q.complete page 1 2 0))) ∧
        (e.2 = 1 → k ≠ 0 → st = 0 → exec e.1 s = .next ((q.wr (F.TEN_TSTATE k) 1).complete page 0 0 0)) ∧
        (e.2 = 2 → (∀ i < 64, q.rd (F.TEN_QSTATE i) ≠ 0) → exec e.1 s = .next (q.complete page 1 3 0)) ∧
        (e.2 = 4 → k ≠ 0 → st = 1 → (q.ten k).freezeAt = none →
          (T < q.devTime + 1000000 → exec e.1 s = .next (q.complete page 1 5 0)) ∧
          (q.devTime + 1000000 ≤ T → exec e.1 s = .next
            ((q.setTen k { q.ten k with freezeAt := some T, nds := [], resumeAt := none }).complete page 0 0 0))) ∧
        (e.2 = 5 → k ≠ 0 → st = 2 → getField (tenArg q 1) 0 44 % 8 ≠ 0 → exec e.1 s = .next (q.complete page 1 4 0)) ∧
        (e.2 = 6 → k ≠ 0 → st = 0 → getField (tenArg q 1) 0 44 % 8 ≠ 0 → exec e.1 s = .next (q.complete page 1 4 0)) ∧
        (e.2 = 7 → k ≠ 0 → st = 2 →
          (T < q.devTime + 1000000 → exec e.1 s = .next (q.complete page 1 5 0)) ∧
          (q.devTime + 1000000 ≤ T → exec e.1 s = .next ((q.setTen k { q.ten k with resumeAt := some T }).complete page 0 0 0))) ∧
        (e.2 = 8 → k ≠ 0 → st = 1 ∨ st = 2 → (∀ n < 32, ¬ (q.rd (F.DMB_OWNER n) = k ∧ q.rd (F.DMB_CST n) = 2)) →
          let r := (q.wr (F.TEN_TSTATE k) 3).setTen k
            { q.ten k with squash := decide (getField (tenArg q 0) 4 1 = 1), freezeAt := none, resumeAt := none, nds := [] }
          s.Inv → exec e.1 s = .next ((tenFns r k).foldl destroyFn r)))) ∧
    (Rings u init page seq 3 h →
      let v := rung u page seq 3 h
      let q := accepted u page seq 3 h
      let i := h % 2 ^ 20
      let c := handleCheck v qpHandles h (fun q => v.rd (F.TEN_OWNER q) = initTenant v init || initTenant v init = 0)
      (∀ r, c = some r → exec (.qpdestroy t init seq h) s = .next (v.ignored page 8 r)) ∧
      (c = none → v.rd (F.TEN_QSTATE i) = 0 → exec (.qpdestroy t init seq h) s = .next (v.ignored page 8 7)) ∧
      (c = none → v.rd (F.TEN_QSTATE i) ≠ 0 → v.rd (F.TEN_TSTATE (v.rd (F.TEN_OWNER i))) ≠ 3 → hostScribe q init = true →
        exec (.qpdestroy t init seq h) s = .next ((qpFree q i).complete page 0 0 0)))

/-- EXPORT, IMPORT and QPCREATE with arguments in order: the blob is written, read back and checked; a queue pair is made with empty
rings (R520, R524, R526). -/
def Claims.TenantBlobs : Prop :=
  ∀ (s : State) (t init seq : Nat),
    let u := s.tick t
    let page := 0x2D0
    (Rings u init page seq 5 0 →
      let q := accepted u page seq 5 0
      let k := getField (tenArg q 0) 0 4
      let addr := getField (tenArg q 1) 0 44
      let payload := unpackWords (blobPayload q k)
      let len := 8 * ((512 + payload.length + 8) / 9)
      let nonce := (q.free 96).1.toNat
      let r := (q.free 96).2
      let head (tag : Nat) : List Nat := blobHeader payload.length nonce tag k r.otp.uid
      let sealed' := Config.gcmSeal (migrationKey r) nonce (head 0) payload
      hostScribe q init = true → k ≠ 0 → q.rd (F.TEN_TSTATE k) = 2 → addr % 8 = 0 → inDram q addr len = true → len ≤ getField (tenArg q 2) 0 32 →
      exec (.tenantExport t init seq) s = .next ((dramWrite r 0x25 addr (packWords (head sealed'.2 ++ sealed'.1))).complete page 0 0 0)) ∧
    (Rings u init page seq 6 0 →
      let q := accepted u page seq 6 0
      let k := getField (tenArg q 0) 0 4
      let addr := getField (tenArg q 1) 0 44
      hostScribe q init = true → k ≠ 0 → q.rd (F.TEN_TSTATE k) = 0 → addr % 8 = 0 → inDram q addr 456 = true →
      (∀ hw x r, dramRead q 0x25 addr 57 = some (hw, x, r) → ofOctets ((unpackWords hw).take 4) ≠ 0x4546414C →
        exec (.tenantImport t init seq) s = .next (q.complete page 1 6 0)) ∧
      (∀ hw x r bw y r' plain recs i,
        let h := unpackWords hw
        let len := ofOctets ((h.drop 12).take 8)
        let words := (512 + len + 8) / 9
        let all := unpackWords bw
        let head := all.take 40 ++ List.replicate 16 0 ++ (all.take 512).drop 56
        dramRead q 0x25 addr 57 = some (hw, x, r) → ofOctets (h.take 4) = 0x4546414C → ofOctets ((h.drop 4).take 2) = 1 →
        ofOctets ((h.drop 6).take 1) = 3 → inDram q addr (8 * words) = true → dramRead q 0x25 addr words = some (bw, y, r') →
        Config.gcmOpen (migrationKey r') (ofOctets ((h.drop 28).take 12)) head ((all.drop 512).take len) (ofOctets ((h.drop 40).take 16)) = some plain →
        readRecords (plain.length + 1) (packWords plain) = some recs → importBlob r' k recs = some i →
        exec (.tenantImport t init seq) s = .next (i.complete page 0 0 0))) ∧
    (Rings u init page seq 2 0 → s.Inv →
      let q := accepted u page seq 2 0
      let a := tenArg q 0
      ∀ i, hostScribe q init = true → i < 64 → q.rd (F.TEN_QSTATE i) = 0 → (∀ j < i, q.rd (F.TEN_QSTATE j) ≠ 0) →
      getField a 4 4 ≤ 9 → 4 ≤ getField a 8 4 → getField a 8 4 ≤ 12 → 4 ≤ getField a 12 4 → getField a 12 4 ≤ 12 → 8 ≤ getField a 16 8 →
      getField a 16 8 ≤ 223 → q.rd (F.TEN_TSTATE (getField a 0 4)) = 1 → getField (tenArg q 1) 0 44 % 32 = 0 → getField (tenArg q 2) 0 44 % 32 = 0 →
      inDram q (getField (tenArg q 1) 0 44) (32 * 2 ^ getField a 8 4) = true → inDram q (getField (tenArg q 2) 0 44) (32 * 2 ^ getField a 12 4) = true →
      ∃ r, exec (.qpcreate t init seq) s = .next r ∧ r.rd (F.TEN_QSTATE i) = 1 ∧ r.rd (F.TEN_OWNER i) = getField a 0 4 ∧ r.rd (F.TEN_PORT i) = getField a 4 4 ∧
        r.rd (F.TEN_BUFW i) = getField a 16 8 ∧ r.rd (F.TEN_HEAD (2 * i)) = 0 ∧ r.rd (F.TEN_TAIL (2 * i)) = 0 ∧ r.rd (F.DBL_STATUS page) = 0 ∧
        r.rd (F.DBL_RHANDLE page) = q.handle 6 i i)

/-- A freeze takes effect in a domain at its first stroke from the instant on, and is complete when no function runs; a resume makes
the tenant ACTIVE again; a reset ends when the tenant is quiet, and everything it holds is freed (R522, R527, R528). -/
def Claims.TenantChanges : Prop :=
  ∀ (s : State) (t k d T : Nat),
    let u := s.tick t
    ((u.ten k).freezeAt = none → exec (.tenantFreezeTakeEffect t k d) s = .next u ∧ exec (.tenantFreezeComplete t k) s = .next u) ∧
    ((u.ten k).freezeAt = some T → k < 16 → d < 4 →
      (u.devTime < T → u.isSet (F.DOM_RUN d) = false → exec (.tenantFreezeTakeEffect t k d) s = .next u ∧ exec (.tenantFreezeComplete t k) s = .next u) ∧
      (u.isSet (F.DOM_RUN d) = false → T ≤ u.devTime → exec (.tenantFreezeTakeEffect t k d) s = .next (freezeDom u k d)) ∧
      (u.isSet (F.DOM_RUN d) = true → T ≤ openAt u d (nextOpen u d) → openAt u d (nextOpen u d) ≤ u.devTime →
        exec (.tenantFreezeTakeEffect t k d) s = .next (freezeDom u k d)) ∧
      (T ≤ u.devTime → u.rd (F.TEN_TSTATE k) = 1 → (usedDoms u k).all (fun d => (u.ten k).nds.any (fun e => e.1 == d)) = true → tenFns u k = [] →
        ∃ q, exec (.tenantFreezeComplete t k) s = .next q ∧ q.mem = u.mem ∧ q.tens = u.tens ∧ q.rul = u.rul ∧ (s.Inv → q.rd (F.TEN_TSTATE k) = 2 ∧ q.rd F.TEN_FRZ_15 = 1))) ∧
    ((u.ten k).resumeAt = none → exec (.tenantResumeTakeEffect t k) s = .next u) ∧
    ((u.ten k).resumeAt = some T → k < 16 → u.rd (F.TEN_TSTATE k) = 2 →
      (u.devTime < T → exec (.tenantResumeTakeEffect t k) s = .next u) ∧
      (T ≤ u.devTime →
        let q := (u.wr (F.TEN_TSTATE k) 1).setTen k { u.ten k with freezeAt := none, nds := [] }
        tenFns q k = [] → exec (.tenantResumeTakeEffect t k) s = .next (afterEvent q))) ∧
    (u.rd (F.TEN_TSTATE k) ≠ 3 ∨ tenQuiet u k = false → exec (.tenantResetComplete t k) s = .next u) ∧
    (k < 16 → k ≠ 0 → u.rd (F.TEN_TSTATE k) = 3 → tenQuiet u k = true → s.Inv →
      ∃ q, exec (.tenantResetComplete t k) s = .next q ∧ q.rd (F.TEN_TSTATE k) = 0 ∧ q.rd F.TEN_RST = 1 ∧ q.rd (F.DBL_STATUS 0x2D0) = 0 ∧
        q.rd (F.DBL_STATE 0x2D0) = 2 ∧ q.tens = tset u.tens k {})

/-- Tenants: commands, blobs and changes: TenantCommands, TenantBlobs, TenantChanges. -/
def Obligations.Tenancy : Prop :=
  Claims.TenantCommands ∧ Claims.TenantBlobs ∧ Claims.TenantChanges

/-- Doorbells of a queue pair are writes of its TAIL words; the next transmit entry is taken when the queue pair runs and has one,
and waits for its memory (R513, R514). -/
def Claims.QueuePairs : Prop :=
  ∀ (s : State) (t init vf i n a : Nat) (r : State) (ws : List Word),
    let u := s.tick t
    (i < 64 → exec (.qpRxDoorbell t init vf i n) s = .next (commandAccess u init vf 0x2D0 (384 + 2 * i) 8 (some (BitVec.ofNat 72 (n % 65536)))) ∧
      exec (.qpTxDoorbell t init vf i n) s = .next (commandAccess u init vf 0x2D0 (385 + 2 * i) 8 (some (BitVec.ofNat 72 (n % 65536))))) ∧
    (qpTxReady u i = false → exec (.qpTxFrame t i) s = .next u) ∧
    (i < 64 → qpTxReady u i = true →
      let e := qpEntry u i 1
      (qpRead u i e 2 = (.waits a, r) → exec (.qpTxFrame t i) s = .next (qpWaiting u a)) ∧
      (qpRead u i e 2 = (.got ws, r) → getField (ws.getD 1 0) 0 11 < 60 ∨ 1996 < getField (ws.getD 1 0) 0 11 →
        exec (.qpTxFrame t i) s = .next (qpTxDone (r.free 72).2 i e 2 (r.free 72).1)) ∧
      (∀ ws' r', let len := getField (ws.getD 1 0) 0 11
        let o := (unpackWords ws').take len
        qpRead u i e 2 = (.got ws, r) → 60 ≤ len → len ≤ 1996 → qpRead r i (getField (ws.getD 0 0) 0 44 / 8 * 8) ((len + 8) / 9) = (.got ws', r') →
        rawSpoofOk r' (u.rd (F.TEN_OWNER i)) o = true → qpMaySend u i = true →
        exec (.qpTxFrame t i) s = .next ((qpTxDone (qpSend r' i o) i e 0 (timeWord u.devTime)).bump (F.TEN_TXFR i))))

/-- A request to the port is answered while its link is up; the link is reported up only when it may be (R614, R616). -/
def Claims.PciePort : Prop :=
  ∀ (s : State) (t vf l w g : Nat) (req : PcieReq) (up : Bool),
    let u := s.tick t
    (u.isSet F.PCI_DLUP = false → exec (.pcieInboundRequest t vf req) s = .next u) ∧
    (u.isSet F.PCI_DLUP = true → vf ≠ 0 → u.isSet F.PCI_EP = false ∨ 16 < vf ∨ bitOf (u.rd F.TEN_VFEN) (vf - 1) = false →
      exec (.pcieInboundRequest t vf req) s = .next (pcieDone u 1 false [])) ∧
    (u.isSet F.PCI_DLUP = true → req.bar0 = true → exec (.pcieInboundRequest t 0 req) s = .next (pcieDone u 1 false [])) ∧
    (u.isSet F.PCI_DLUP = true → req.bar0 = false → u.isSet F.PCI_EP = true ∨ req.write = false →
      let n := if req.write then req.data.length else req.octets
      let places := ((List.range n).map (fun k => req.addr + k)).filterMap (fun a => pcieMap u a)
      (places.length = n → exec (.pcieInboundRequest t 0 req) s = .next (pciePerform u 0 (if req.write then some req.data else none) places)) ∧
      (places.length ≠ n → exec (.pcieInboundRequest t 0 req) s = .next (pcieDone u 4 false []))) ∧
    (inChipReset u = true ∨ (up = true ∧ (u.isSet F.PCI_LEN = false ∨ domPower u 2 ≠ 1)) → exec (.pcieLinkStateChange t l w g up) s = .next u) ∧
    (inChipReset u = false → exec (.pcieLinkStateChange t l w g false) s = .next
      ((((u.wr F.PCI_LTSSM l).wr F.PCI_WIDTH 0).wr F.PCI_GEN 0).wr F.PCI_DLUP 0)) ∧
    (inChipReset u = false → u.isSet F.PCI_LEN = true → domPower u 2 = 1 → exec (.pcieLinkStateChange t l w g true) s = .next (
      let q := (u.wr F.PCI_LTSSM l).wr F.PCI_WIDTH w
      (q.wr F.PCI_GEN (min g (q.rd F.PCI_MAXG))).wr F.PCI_DLUP 1))

/-- Queue pairs and the PCI Express port: QueuePairs, PciePort. -/
def Obligations.QueuesAndPcie : Prop :=
  Claims.QueuePairs ∧ Claims.PciePort

/-- Watchdogs: each is kicked by its own scribe or the management controller, configured by the controller only; one that runs down
is shown and holds its scribe where RST asks (R537, R539). -/
def Claims.Watchdogs : Prop :=
  ∀ (s : State) (t init n v : Nat) (w : Word) (fails : List TestElement),
    let u := s.tick t
    let c := wdgCount u none
    (Passes u init 0x2F0 (48 + n) true →
      (init = 0x20 ∨ init = n → exec (.wdgKick t init n) s = .next (c.wr (F.MCB_REM n) (c.rd (F.MCB_PER n)))) ∧
      (init ≠ 0x20 → init ≠ n → exec (.wdgKick t init n) s = .next (u.ignored 0x2F0 (48 + n) 7)) ∧
      (init = 0x20 → exec (.wdgPerWrite t init n w) s = .next
        (((c.wr (F.MCB_PER n) (getField w 0 16)).wr (F.MCB_RST n) (getField w 33 1)).wr (F.MCB_REM n) (getField w 0 16))) ∧
      (init ≠ 0x20 → exec (.wdgPerWrite t init n w) s = .next (u.ignored 0x2F0 (48 + n) 7))) ∧
    (Passes u init 0x2F0 81 true →
      (init = 0x20 → exec (.mcMkick t init) s = .next (c.wr F.MCB_MREM (c.rd F.MCB_MPER))) ∧
      (init = 0x20 → v % 65536 ≠ 0 → exec (.mcMperWrite t init v) s = .next (u.wr F.MCB_MPER (v % 65536))) ∧
      (init = 0x21 → exec (.mcMrst t init fails) s = .next (mcRestart u 3)) ∧
      (init ≠ 0x20 → exec (.mcMkick t init) s = .next (u.ignored 0x2F0 81 7) ∧ exec (.mcMperWrite t init v) s = .next (u.ignored 0x2F0 81 7)) ∧
      (init ≠ 0x21 → exec (.mcMrst t init fails) s = .next (u.ignored 0x2F0 81 7))) ∧
    (let d := wdgCount u (some n)
     (n < 32 → wdgCounts d n = true → u.rd (F.MCB_REM n) ≠ 0 → d.rd (F.MCB_REM n) = 0 →
       let q := (d.wr (F.MCB_EXP n) 1).bump (F.MCB_NEXP n)
       exec (.scribeWatchdogExpire t n) s = .next (if q.isSet (F.MCB_RST n) then runWrite q n false else q)) ∧
     (wdgCounts d n = false ∨ u.rd (F.MCB_REM n) = 0 ∨ d.rd (F.MCB_REM n) ≠ 0 → exec (.scribeWatchdogExpire t n) s = .next d)) ∧
    (let d := wdgCount u (some 32)
     (mcRuns d = true → u.rd F.MCB_MREM ≠ 0 → d.rd F.MCB_MREM = 0 → exec (.mcWatchdogExpire t fails) s = .next (mcRestart d 1)) ∧
     (mcRuns d = false ∨ u.rd F.MCB_MREM = 0 ∨ d.rd F.MCB_MREM ≠ 0 → exec (.mcWatchdogExpire t fails) s = .next d))

/-- The second's tick counts and is heard by its interrupt source; the flash returns lines; the mailboxes are filled and emptied
only by their own sides; the management controller takes its interrupts (R533, R534, R540, R541). -/
def Claims.ManagementController : Prop :=
  ∀ (s : State) (t init line drop : Nat),
    let u := s.tick t
    (u.isSet F.DPX_EN = false → ∃ q, exec (.healthTick t) s = .next q ∧ q.mcu.tick = true ∧ (s.Inv → q.rd F.MCB_HCNT = (u.rd F.MCB_HCNT + 1) % 2 ^ 36)) ∧
    (u.mcu.req = none → exec (.flashLineFill t) s = .next u) ∧
    (u.mcu.req = some (line, drop) → exec (.flashLineFill t) s = .next
      { u with mcu := { u.mcu with bufs := if drop = 1 then u.mcu.bufs else (line :: u.mcu.bufs.filter (· ≠ line)).take 2,
                                   req := u.mcu.next.map (fun l => (l, 0)), next := none } }) ∧
    (Passes u init 0x2F0 40 true →
      (hostScribe u init = true → u.rd F.MCB_IFULL = 0 → exec (.mbIpost t init) s = .next (u.wr F.MCB_IFULL 1)) ∧
      (hostScribe u init = false ∨ u.rd F.MCB_IFULL ≠ 0 → exec (.mbIpost t init) s = .next (u.ignored 0x2F0 40 7)) ∧
      (init = 0x20 → u.rd F.MCB_IFULL = 1 → exec (.mbIdone t init) s = .next (u.wr F.MCB_IFULL 0)) ∧
      (init ≠ 0x20 ∨ u.rd F.MCB_IFULL ≠ 1 → exec (.mbIdone t init) s = .next (u.ignored 0x2F0 40 7)) ∧
      (init = 0x20 → u.rd F.MCB_OFULL = 0 → exec (.mbOpost t init) s = .next (u.wr F.MCB_OFULL 1)) ∧
      (init ≠ 0x20 ∨ u.rd F.MCB_OFULL ≠ 0 → exec (.mbOpost t init) s = .next (u.ignored 0x2F0 40 7)) ∧
      (hostScribe u init = true → u.rd F.MCB_OFULL = 1 → exec (.mbOdone t init) s = .next (u.wr F.MCB_OFULL 0)) ∧
      (hostScribe u init = false ∨ u.rd F.MCB_OFULL ≠ 1 → exec (.mbOdone t init) s = .next (u.ignored 0x2F0 40 7))) ∧
    (mcRuns u = true → (u.scribe 32).haltReq = false →
      (coreInterrupt u 32 = none → exec (.mcInterruptEntry t) s = .next u) ∧
      ∀ src level ilvl, coreInterrupt u 32 = some (src, level, ilvl) → exec (.mcInterruptEntry t) s = .next (takeInterrupt u 32 src level ilvl))

/-- Watchdogs and the management controller: Watchdogs, ManagementController. -/
def Obligations.ManagementEvents : Prop :=
  Claims.Watchdogs ∧ Claims.ManagementController

/-- Commands to the power unit, accepted from the management controller, or for DESKPL and DESKST from a host's scribe: refused for
their arguments, or opened as a request to the blocks, or done at once where nothing changes (R547, R551, R552, R612). -/
def Claims.PowerCommands : Prop :=
  ∀ (s : State) (t init seq : Nat),
    let u := s.tick t
    let page := 0x2A0
    ∀ e ∈ [(Instr.deskpl t init seq, 1), (.deskst t init seq, 2), (.ferst t init seq, 3), (.domst t init seq, 4), (.devst t init seq, 5),
           (.pwrDead t init seq, 6), (.breset t init seq, 7)],
      Rings u init page seq e.2 0 →
      let q := accepted u page seq e.2 0
      let a := pwrArg q
      let d := a % 4
      let allowed := init = 0x20 ∨ (e.2 ≤ 2 ∧ hostScribe u init = true)
      (¬ allowed → exec e.1 s = .next (q.complete page 1 1 0)) ∧
      (allowed →
        (e.2 = 1 → a / 4 % 8 ≤ 5 → q.rd F.PWR_DEVST = 0 → q.rd (F.PWR_DST d) < 2 → q.pwr.hwtrip = false ∨ a / 4 % 8 = 0 → deskDead q d = false →
          exec e.1 s = .next { q with pwr := { q.pwr with level := some (d, a / 4 % 8) } }) ∧
        (e.2 = 2 → a < 64 → a / 4 % 4 = 0 → q.rd F.PWR_DEVST = 0 → q.isSet (F.PWR_RECL d) = false → q.isSet (F.PWR_DEAD d) = false →
          let v := a / 16
          (v = q.rd (F.PWR_DST d) → exec e.1 s = .next (pwrEnd (commanded q (64 + d) v) 0 0)) ∧
          (q.rd (F.PWR_DST d) < v → exec e.1 s = .next (openRequest (commanded q (64 + d) v) 2 [64 + d])) ∧
          (v ≠ 0 → v < q.rd (F.PWR_DST d) → exec e.1 s = .next (pwrRefuse q 3))) ∧
        (e.2 = 3 → a < 256 → q.rd F.PWR_DEVST ≠ 2 → ferPower q (a % 64) ≠ 3 → q.pwr.held.contains (a % 64) = false →
          let f := a % 64
          let v := a / 64
          (v ≠ 3 → v = ferPower q f → exec e.1 s = .next (pwrEnd (commanded q f v) 0 0)) ∧
          (v = 0 → ferPower q f ≠ 0 → exec e.1 s = .next
            (let r := setFerPower (commanded q f 0) f 3
            pwrEnd { r with pwr := { r.pwr with change := r.pwr.change ++ [(f, 0)] } } 0 0)) ∧
          (v ≠ 3 → ferPower q f < v → exec e.1 s = .next (openRequest (commanded q f v) 3 [f]))) ∧
        (e.2 = 4 → a < 8 → d ≠ 3 → q.rd F.PWR_DEVST = 0 →
          (a / 4 = domPower q d → exec e.1 s = .next (pwrEnd (commanded q (128 + d) (a / 4)) 0 0)) ∧
          (a / 4 = 0 → domPower q d = 1 → exec e.1 s = .next (openRequest (commanded q (128 + d) 0) 4 [128 + d])) ∧
          (a / 4 = 1 → domPower q d = 0 → d ≠ 0 → exec e.1 s = .next (openReturn (commanded q (128 + d) 1) 4 [(128 + d, 1)]))) ∧
        (e.2 = 5 → a < 3 → q.rd F.PWR_DEVST = a → a ≠ 2 → q.pwr.change = [] → exec e.1 s = .next (pwrEnd q 0 0)) ∧
        (e.2 = 6 → a < 4 → deskDead q d = false → exec e.1 s = .next (
          let r := (deskScribes d).foldl (fun s n => s.modScribe n (fun c => { c with sb := [] })) q
          walkTable (r.wr (F.PWR_RECL d) 1) d)) ∧
        (e.2 = 6 → a < 4 → deskDead q d = true → exec e.1 s = .next (pwrRefuse q 4)) ∧
        (e.2 = 7 → a < 512 →
          let b := a % 256
          (68 ≤ b → exec e.1 s = .next (pwrRefuse q 2)) ∧
          (b < 64 → 256 ≤ a → q.pwr.held.contains b = false → ferPower q b = 0 → exec e.1 s = .next
            (pwrEnd (ferResetStart { q with pwr := { q.pwr with held := q.pwr.held ++ [b] } } b) 0 0)) ∧
          (b < 64 → a < 256 → q.pwr.held.contains b = true → q.pwr.held.contains (128 + b) = false → exec e.1 s = .next
            (pwrEnd (ferResetEnd { q with pwr := { q.pwr with held := q.pwr.held.filter (fun x => x ≠ b) } } b) 0 0)) ∧
          (b < 68 → a < 256 → q.pwr.held.contains b = false → exec e.1 s = .next (pwrRefuse q 3))))

/-- A block that is asked grants or refuses; 1.000 ms without an answer abort the request; the changes of a request end, and a level
change ends, with the status of its command (R545, R547, R549, R550, R551). -/
def Claims.PowerSequences : Prop :=
  ∀ (s : State) (t b rail d pl : Nat) (ok : Bool) (r : PwrReq),
    let u := s.tick t
    (u.pwr.req = none → exec (.pwrBlockGrant t b) s = .next u ∧ exec (.pwrRequestTimeout t b) s = .next u ∧ exec (.pwrTransitionComplete t) s = .next u) ∧
    (u.pwr.req = some r →
      let off := r.granted.filter (fun b => decide (64 ≤ b) && decide (b < 128)) |>.map (· - 64)
      (r.asked.contains b = false → exec (.pwrBlockGrant t b) s = .next u ∧ exec (.pwrRequestTimeout t b) s = .next u) ∧
      (r.asked.contains b = true → u.pwr.wback = none →
        (b ≠ 128 → blockGrants u off b (wanted r b) = false → exec (.pwrBlockGrant t b) s = .next (pwrFail u b false)) ∧
        (b < 64 → blockGrants u off b (wanted r b) = true →
          let w : PwrReq := { r with asked := r.asked.filter (· ≠ b), granted := r.granted ++ [b] }
          let q : State := { u with pwr := { u.pwr with req := some w } }
          (w.asked = [] → exec (.pwrBlockGrant t b) s = .next (requestGranted q w)) ∧
          (w.asked ≠ [] → w.asked ≠ [128] → exec (.pwrBlockGrant t b) s = .next q)) ∧
        (r.since + 1000000 ≤ u.devTime → exec (.pwrRequestTimeout t b) s = .next (pwrFail u b true)) ∧
        (u.devTime < r.since + 1000000 → exec (.pwrRequestTimeout t b) s = .next u)) ∧
      (r.asked = [] → exec (.pwrTransitionComplete t) s = .next (changesDone (endChanges u (fun b => r.granted.contains b)))) ∧
      (r.asked ≠ [] → exec (.pwrTransitionComplete t) s = .next u)) ∧
    (u.pwr.level = none → exec (.deskLevelChangeComplete t ok rail) s = .next u) ∧
    (u.pwr.level = some (d, pl) →
      let q : State := { u with pwr := { u.pwr with level := none } }
      exec (.deskLevelChangeComplete t true rail) s = .next (pwrEnd ((q.wr (F.PWR_PL d) pl).wr (F.DSK_PL d) pl) 0 0) ∧
      exec (.deskLevelChangeComplete t false rail) s = .next (pwrEnd ((q.setBit F.PWR_EVT 6).pageErr 0x2A0 0x10 27 rail) 4 rail)) ∧
    (d < 4 → u.rd (F.PWR_DST d) = 1 → (∃ n ∈ deskScribes d, icuDeliverable u n ≠ none) → exec (.deskNapExit t d) s = .next
      (((blockEnter u (64 + d) 0).bump (F.PWR_NAPX d)).setBit F.PWR_EVT 7)) ∧
    (u.rd (F.PWR_DST d) = 0 ∨ u.rd (F.PWR_DST d) = 3 → exec (.deskNapExit t d) s = .next u) ∧
    (b < 64 → u.pwr.change.contains (b, 0) = true → exec (.ferrulePowerUpComplete t b) s = .next (changesDone (endChanges u (fun k => k == b)))) ∧
    (u.pwr.change.contains (b, 0) = false → exec (.ferrulePowerUpComplete t b) s = .next u)

/-- Sensors: the hottest sensor and its number are shown, the alarm raised above its threshold, and 5.0 degrees over the limit the
desks that run go to level 0; a rail's voltage is kept with its lowest; ageing is recorded (R546, R629). -/
def Claims.Sensors : Prop :=
  ∀ (s : State) (t n mv g : Nat) (T : Int),
    let u := s.tick t
    (n < 72 →
      let q : State := { u with pwr := { u.pwr with temps := tset u.pwr.temps n T } }
      let hot := (hottest q).1
      let r := (q.wr F.PWR_TMAX (toField hot 12)).wr F.PWR_TSEN (hottest q).2
      let w := if signedOf (r.rd F.PWR_TALRM) 12 < hot then r.setBit F.PWR_EVT 3 else r
      (hot < maxTj w → exec (.thermalSample t n T) s = .next { w with pwr := { w.pwr with hwtrip := false } }) ∧
      (maxTj w ≤ hot → hot < maxTj w + 40 → exec (.thermalSample t n T) s = .next w) ∧
      (maxTj w + 40 ≤ hot → exec (.thermalSample t n T) s = .next (
        let v := { w with pwr := { w.pwr with hwtrip := true } }.setBit F.PWR_EVT 4
        (List.range 4).foldl (fun s d => if s.rd (F.PWR_DST d) = 0 then (s.wr (F.PWR_PL d) 0).wr (F.DSK_PL d) 0 else s) v))) ∧
    (n < 8 →
      let q := u.wr (F.PWR_VMEAS n) mv
      let r := if mv < q.rd (F.PWR_VMIN n) then q.wr (F.PWR_VMIN n) mv else q
      (mv < r.rd (F.PWR_VLOWTH n) → exec (.railLow t n mv) s = .next (r.setBit F.PWR_EVT 5)) ∧
      (r.rd (F.PWR_VLOWTH n) ≤ mv → exec (.railLow t n mv) s = .next r) ∧
      exec (.ageingMonitorSample t n g) s = .next ((u.wr (F.PWR_DEGR n) g).wr (F.PWR_HOURS n) (u.now / 3600000000000)))

/-- Power states: commands, sequences and sensors: PowerCommands, PowerSequences, Sensors. -/
def Obligations.Power : Prop :=
  Claims.PowerCommands ∧ Claims.PowerSequences ∧ Claims.Sensors

/-! ### Test, debug, duplex and reset -/

/-- Commands of the tests, accepted from the management controller only and performed only in SHUTDOWN: a full test runs with the
secrets cleared, FUSE and SEAL follow a test (R555, R556, R558). -/
def Claims.TestCommands : Prop :=
  ∀ (s : State) (t init seq : Nat) (fails : List TestElement),
    let u := s.tick t
    let page := 0x2B0
    (∀ e ∈ [(Instr.fulltest t init seq, 1), (.fuse t init seq, 2), (.seal t init seq, 3)], Rings u init page seq e.2 0 →
      let q := accepted u page seq e.2 0
      (init ≠ 0x20 → exec e.1 s = .next (q.complete page 1 1 0)) ∧
      (init = 0x20 → q.rd F.PWR_DEVST ≠ 2 → exec e.1 s = .next (q.complete page 1 2 0)) ∧
      (init = 0x20 → q.rd F.PWR_DEVST = 2 →
        (e.2 = 1 → exec e.1 s = .next (
          let r := clearSecrets q (List.range 64) (List.range 4)
          { r with bst := { r.bst with running := true } })) ∧
        (e.2 ≠ 1 → q.bst.tested = false → exec e.1 s = .next (q.complete page 1 3 0)) ∧
        (e.2 = 2 → q.bst.tested = true →
          let new := q.bst.fails.filter (fun e => confirmed q e && !(q.bst.fused.any (sameElement e)))
          let room := 512 - q.bst.fused.length
          let r := showFuses { q with bst := { q.bst with fused := q.bst.fused ++ new.take room } }
          (new.length ≤ room → exec e.1 s = .next (r.complete page 0 0 0)) ∧
          (room < new.length → exec e.1 s = .next ((r.pageErr page 0x11 0 0).complete page 0x80 0 0))) ∧
        (e.2 = 3 → q.bst.tested = true → exec e.1 s = .next
          (recordPhase (chipResetLeave (chipResetStart (q.complete page 0 0 0))) (newRecord q))))) ∧
    (u.bst.running = true → exec (.fullTestComplete t fails) s = .next (
      let q : State := { u with bst := { u.bst with running := false, tested := true, fails := fails } }
      ((testFails q fails).wr F.BST_TDONE 1).complete page 0 0 0)) ∧
    (u.bst.running = false → exec (.fullTestComplete t fails) s = .next u)

/-- The rolling test takes its elements in turn while it is enabled and the device is ACTIVE; a nib goes back to its state or to
FAILED; a segment is saved, tested, repaired and restored (R562, R563, R564). -/
def Claims.RollingTest : Prop :=
  ∀ (s : State) (t e : Nat) (pass rep : Bool) (fails : List TestElement) (x : TestElement),
    let u := s.tick t
    let idle := rollIdle u
    (u.isSet F.BST_REN = false ∨ u.rd F.PWR_DEVST ≠ 0 ∨ u.rd F.BST_RKIND ≠ 0 → exec (.rollingTestStart t) s = .next u) ∧
    (u.isSet F.BST_REN = true → u.rd F.PWR_DEVST = 0 → u.rd F.BST_RKIND = 0 → rollNext u = some e →
      exec (.rollingTestStart t) s = .next (rollStart u e)) ∧
    (u.rd F.BST_RKIND ≠ 1 → exec (.nibTestComplete t pass) s = .next u) ∧
    (u.rd F.BST_RKIND = 1 →
      let f := u.rd F.BST_RFER
      let n := u.rd F.BST_RIDX
      let q := idle.bump F.BST_NTEST
      (u.bst.before ≠ 3 → exec (.nibTestComplete t true) s = .next (q.wr (F.FER_NST f n) u.bst.before)) ∧
      (u.bst.before = 3 → exec (.nibTestComplete t true) s = .next ((q.wr (F.FER_NST f n) 3).rulEvent (.nibReturn f n))) ∧
      let r := (rollFailed q { kind := 4, unit := f, bank := n, row := 0, repaired := false }).wr (F.FER_NST f n) 3
      (u.bst.before = 4 → exec (.nibTestComplete t false) s = .next (r.rulEvent (.nibFault f n))) ∧
      (u.bst.before ≠ 4 → exec (.nibTestComplete t false) s = .next (r.setBit (F.RUL_FAIL f) n))) ∧
    (u.rd F.BST_RKIND ≠ 2 → ∀ c ∈ [Instr.segmentSaveComplete t, .segmentTestPassComplete t fails rep, .segmentRestoreComplete t], exec c s = .next u) ∧
    (u.rd F.BST_RKIND = 2 → u.rd F.BST_RPH = 1 → exec (.segmentSaveComplete t) s = .next { u.wr F.BST_RPH 2 with bst := { u.bst with pass := 1 } }) ∧
    (u.rd F.BST_RKIND = 2 → u.rd F.BST_RPH = 2 →
      exec (.segmentTestPassComplete t [] rep) s = .next (u.wr F.BST_RPH 3) ∧
      (fails.getLast? = some x →
        let v := showFailure u { x with repaired := rep }
        let w := (if u.bst.failed then v else v.bump F.BST_NRFAIL).wr F.BST_RFAIL 1
        let r : State := { w with bst := { w.bst with failed := true } }
        (rep = true → exec (.segmentTestPassComplete t fails true) s = .next (
          let q := setSoft r (r.bst.soft ++ fails.map (fun x => { x with repaired := true }))
          { q with bst := { q.bst with pass := q.bst.pass + 1, repairAt := q.now + 1 } })) ∧
        (rep = false → exec (.segmentTestPassComplete t fails false) s = .next (
          let q : State := { r with bst := { r.bst with shadows := r.bst.shadows ++ [(r.rd F.BST_RFER, r.rd F.BST_RIDX)] } }
          (((rollIdle q).bump F.BST_NTEST).wr F.BST_UNREP 1).pageErr 0x2B0 0x10 18 0)))) ∧
    (u.rd F.BST_RKIND = 2 → u.rd F.BST_RPH = 3 →
      exec (.segmentRestoreComplete t) s = .next (if u.bst.dropped then idle else idle.bump F.BST_NTEST))

/-- Instructions of the test access port: boundary scans, which an ARMED device performs as SAMPLE, the identification code, the
bypass and a scan of a region at level 2 (R569, R570). -/
def Claims.TestPort : Prop :=
  ∀ (s : State) (t dr : Nat) (b : BitVec 8) (tdi : Bool),
    let u := s.tick t
    (∀ e ∈ [(Instr.extest t dr, 0), (.samplePreload t dr, 1), (.extestPulse t dr, 2), (.extestTrain t dr, 3)],
      let q := loadIr u (if u.isSet F.CSN_ARMED then 1 else e.2)
      exec e.1 s = .next { q with dbg := { q.dbg with boundary := dr } }) ∧
    (let q := loadIr u 4
     exec (.idcode t) s = .next { q with dbg := { q.dbg with out := q.rd F.DEV_STEP % 16 * 2 ^ 28 + 0x0400 * 2 ^ 12 + 0x2C5 * 2 + 1 } }) ∧
    (let q := loadIr u 0xFF
     exec (.bypass t tdi) s = .next { q with dbg := { q.dbg with out := b2n tdi } }) ∧
    (u.isSet F.CSN_ARMED = true → exec (.scanr t b) s = .next (loadIr u 1)) ∧
    (u.isSet F.CSN_ARMED = false →
      (u.rd F.BLT_LVL ≠ 2 ∨ 68 ≤ b.toNat → exec (.scanr t b) s = .next (loadIr u 0xFF)) ∧
      (u.rd F.BLT_LVL = 2 → b.toNat < 64 → ferPower (loadIr u 0x12) b.toNat = 0 → exec (.scanr t b) s = .next (scanRegion (loadIr u 0x12) b.toNat)) ∧
      (u.rd F.BLT_LVL = 2 → b.toNat < 64 → ferPower (loadIr u 0x12) b.toNat ≠ 0 → exec (.scanr t b) s = .next (loadIr u 0x12)))

/-- Self test and the test access port: TestCommands, RollingTest, TestPort. -/
def Obligations.SelfTest : Prop :=
  Claims.TestCommands ∧ Claims.RollingTest ∧ Claims.TestPort

/-- Debug levels: a challenge is given for level 1 or 2 unless a wait runs; a signature over it by the provisioned key opens the
level, and any other answer starts the next wait; RELOCK returns to level 0 (R98, R571). -/
def Claims.Unlocking : Prop :=
  ∀ (s : State) (t a b k : Nat) (op : BitVec 8),
    let u := s.tick t
    let q := loadIr u 0x10
    (op ≠ 1 → op ≠ 2 → exec (.unlockRequest t op) s = .next q) ∧
    (op = 1 ∨ op = 2 → challengeWait q ≠ 0 → exec (.unlockRequest t op) s = .next { q with dbg := { q.dbg with capture := 0, chal := none } }) ∧
    (op = 1 ∨ op = 2 → challengeWait q = 0 →
      let r := (q.free 128).2
      let l := octetsOf (r.rd F.DEV_UID) 8 ++ octetsOf (q.free 128).1.toNat 16 ++ [op.toNat]
      exec (.unlockRequest t op) s = .next { r with dbg := { r.dbg with capture := lsbOctets l, chal := some (op.toNat, l) } }) ∧
    (∀ lvl l, q.dbg.chal = some (lvl, l) →
      let ok := decide (Config.sha384 (octetsOf k 96) = q.otp.dbgh) && Config.ecdsaVerify k (Config.sha384 l) a b
      let v : State := { q with dbg := { q.dbg with chal := none, capture := b2n (!ok) } }
      (ok = true → exec (.unlockAnswer t a b k) s = .next (v.wr F.BLT_LVL lvl)) ∧
      (ok = false → exec (.unlockAnswer t a b k) s = .next (
        let r : State := { v with dbg := { v.dbg with waitEnd := v.devTime + v.dbg.waitNext * 1000000000, waitNext := min (2 * v.dbg.waitNext) 64 } }
        let w := (r.bump F.BLT_NFAIL).wr F.BLT_UFAIL 1
        (w.wr F.BLT_WAIT (challengeWait w)).pageErr 0x2C0 0x11 18 0))) ∧
    exec (.unlockRelock t) s = .next (relock q) ∧
    (challengeWait u = 0 → exec (.challengeWaitExpire t) s = .next (u.wr F.BLT_WAIT 0)) ∧
    (challengeWait u ≠ 0 → exec (.challengeWaitExpire t) s = .next u)

/-- Accesses from the test access port: none below level 1, none while one is in progress, no writes to what level 1 bars, and the
result kept for the next scan; after 100 µs the access is given up (R572). -/
def Claims.DebugAccesses : Prop :=
  ∀ (s : State) (t : Nat) (addr : BitVec 44) (size : BitVec 2) (data : Word) (a : DbgAcc),
    let u := s.tick t
    let q := loadIr u 0x11
    (∀ e ∈ [(Instr.dbgaccRead t addr size, 0, 0), (.dbgaccInspectRead t addr size, 1, 0), (.dbgaccWrite t addr size data, 2, data)],
      (u.rd F.BLT_LVL = 0 → exec e.1 s = .next (dbgResult (loadIr u 0xFF) 5 0)) ∧
      (u.rd F.BLT_LVL ≠ 0 → q.dbg.acc.isSome = true → exec e.1 s = .next (dbgResult q 1 0)) ∧
      (u.rd F.BLT_LVL ≠ 0 → q.dbg.acc = none →
        (e.2.1 = 2 → q.rd F.BLT_LVL = 1 → dbgBarred addr.toNat = true → exec e.1 s = .next (dbgResult q 4 0)) ∧
        (e.2.1 ≠ 2 ∨ q.rd F.BLT_LVL ≠ 1 ∨ dbgBarred addr.toNat = false →
          let a : DbgAcc := { addr := addr.toNat, size := size.toNat, op := e.2.1, data := e.2.2, since := q.now }
          let r : State := { q with dbg := { q.dbg with acc := some a } }
          ∀ w p v, (if e.2.1 = 2 then dbgWrite r a else dbgRead r a) = (.ok w p, v) →
            exec e.1 s = .next (dbgResult (dbgEnd v) (if e.2.1 ≠ 2 ∧ p then 3 else 0) w)))) ∧
    (u.rd F.BLT_LVL = 0 → exec (.dbgaccPoll t) s = .next (dbgResult (loadIr u 0xFF) 5 0)) ∧
    (u.rd F.BLT_LVL ≠ 0 → q.dbg.acc = none → exec (.dbgaccPoll t) s = .next q) ∧
    (u.dbg.acc = none → exec (.dbgaccTimeout t) s = .next u) ∧
    (u.dbg.acc = some a →
      (u.now < a.since + 100000 → exec (.dbgaccTimeout t) s = .next u) ∧
      (a.since + 100000 ≤ u.now → exec (.dbgaccTimeout t) s = .next (dbgResult (dbgEnd u) 6 0)))

/-- Debug levels and accesses from the test access port: Unlocking, DebugAccesses. -/
def Obligations.DebugAccess : Prop :=
  Claims.Unlocking ∧ Claims.DebugAccesses

/-- Run control: ATTACH, halts, resumes and steps of cores and nibs, each ignored for reason 07h where it may not be made; a core
halts at the next instruction with its store buffer drained and its reservation given up (R574, R575, R576, R578, R580, R581). -/
def Claims.RunControl : Prop :=
  ∀ (s : State) (t init n : Nat) (m : BitVec 33) (v : Word) (b : Bool),
    let u := s.tick t
    let p := 0x2C0
    let no (off : Nat) := u.ignored p off 7
    (Passes u init p 18 true →
      (init = 0x21 → 1 ≤ u.rd F.BLT_LVL → exec (.debugAttachWrite t init true) s = .next (u.wr F.BLT_ATTACH 1) ∧
        (u.isSet F.BLT_ATTACH = true → exec (.debugAttachWrite t init false) s = .next (detach u)) ∧
        (u.isSet F.BLT_ATTACH = false → exec (.debugAttachWrite t init false) s = .next u)) ∧
      (init ≠ 0x21 ∨ u.rd F.BLT_LVL = 0 → exec (.debugAttachWrite t init b) s = .next (no 18))) ∧
    (Passes u init p 19 true →
      (u.isSet F.BLT_ATTACH = false → exec (.debugHalt t init m) s = .next (no 19)) ∧
      (u.isSet F.BLT_ATTACH = true → exec (.debugHalt t init m) s = .next ((bitList m.toNat 33).foldl (fun s n =>
        if (if n < 32 then scribeUp s n else mcRuns s) then s.modScribe n (fun c => { c with haltReq := true }) else s.ignored p 19 7) u))) ∧
    (Passes u init p 20 true → exec (.debugResume t init m) s = .next ((bitList m.toNat 33).foldl (fun s n => coreRelease s n false) u)) ∧
    (Passes u init p 21 true →
      (u.isSet F.BLT_ATTACH = false → exec (.debugStep t init m) s = .next (no 21)) ∧
      (u.isSet F.BLT_ATTACH = true → exec (.debugStep t init m) s = .next
        ((bitList m.toNat 33).foldl (fun s n => coreRelease (s.modScribe n (fun c => { c with resv := none })) n true) u))) ∧
    (n < 32 → (u.scribe n).haltReq = true → scribeUp u n = true → exec (.scribeHalted t n) s = .next (
      let q := (drainAll u n).2
      let r := q.modScribe n (fun c => { c with haltReq := false, stepping := false, inWfi := decide (u.rd (F.DSK_SST n) = 2), resv := none })
      (r.wr (F.DSK_SST n) 3).wr (F.MCB_PAUSE n) 1)) ∧
    ((u.scribe n).haltReq = false → exec (.scribeHalted t n) s = .next u) ∧
    (Passes u init p 24 true →
      (32 < u.rd F.BLT_TGT ∨ coreHalted u (u.rd F.BLT_TGT) = false → exec (.debugRegWrite t init v) s = .next (no 24)) ∧
      (u.rd F.BLT_TGT ≤ 32 → coreHalted u (u.rd F.BLT_TGT) = true → u.rd F.BLT_KIND_23 = 0 → u.rd F.BLT_NUM < 32 →
        exec (.debugRegWrite t init v) s = .next (u.setG (u.rd F.BLT_TGT) (u.rd F.BLT_NUM) v)) ∧
      (u.rd F.BLT_TGT ≤ 32 → coreHalted u (u.rd F.BLT_TGT) = true → u.rd F.BLT_KIND_23 ≠ 0 → u.rd F.BLT_NUM = 0x3FF → getField v 0 2 = 0 →
        exec (.debugRegWrite t init v) s = .next (u.modScribe (u.rd F.BLT_TGT) (fun c => { c with pc := getField v 0 48 })))) ∧
    (Passes u init p 25 true →
      let f := getField v 0 6
      let k := getField v 6 5
      let w := v ||| (1#72 <<< 11)
      (¬ (k < 18 ∧ nibMayHalt u f k = true) → exec (.nibDebugHalt t init v) s = .next (no 25)) ∧
      (k < 18 → nibMayHalt u f k = true → getField v 12 1 = 0 → exec (.nibDebugHalt t init v) s = .next
        (haltNib (u.setWord (p * 512 + 25) (w &&& 0xFFFE7FF#72)) f k)) ∧
      (k < 18 → getField v 11 1 = 0 → exec (.nibDebugRelease t init v) s = .next
        (releaseNib (u.setWord (p * 512 + 25) ((v ||| (1#72 <<< 12)) &&& 0xFFFE7FF#72)) f k)))

/-- The trace memory takes the oldest packet while it is enabled; a stimulus port enabled at SEN makes a packet of its word; CLR
empties the trace and STOP stops it (R587, R590, R591). -/
def Claims.TraceCommands : Prop :=
  ∀ (s : State) (t init p src : Nat) (v : Word) (k : Packet),
    let u := s.tick t
    (blotOn u = false ∨ nextPacket u = none → exec (.blotterPacketWrite t) s = .next u) ∧
    (blotOn u = true → nextPacket u = some (src, k) → exec (.blotterPacketWrite t) s = .next (
      let q : State := { u with blot := { u.blot with queues := tset u.blot.queues src ((tget u.blot.queues src).drop 1) } }
      owedGap (writePacket q src k) src)) ∧
    (Passes u init 0x2C0 (64 + p) true →
      let q := u.wr (F.BLT_STIM p) v.toNat
      (bitOf (q.rd F.BLT_SEN) p = true → exec (.blotterStimWrite t init p v) s = .next (q.trace (0x80 + p) 8 0 (some v))) ∧
      (bitOf (q.rd F.BLT_SEN) p = false → exec (.blotterStimWrite t init p v) s = .next q)) ∧
    (Passes u init 0x2C0 8 true →
      exec (.blotterStop t init) s = .next (u.wr F.BLT_STOPPED 1) ∧
      exec (.blotterClr t init) s = .next (
        let q := (((u.wr F.BLT_WPTR 0).wr F.BLT_WRAPS 0).wr F.BLT_TRIGD 0).wr F.BLT_STOPPED 0
        { q with blot := { q.blot with post := none, syncNext := true } }))

/-- Run control and the trace memory: RunControl, TraceCommands. -/
def Obligations.DebugControl : Prop :=
  Claims.RunControl ∧ Claims.TraceCommands

/-- Configuration of the duplex pair, and its clear: ignored for reason 07h where a field is out of range or may not change (R597,
R602). -/
def Claims.DuplexControl : Prop :=
  ∀ (s : State) (t init : Nat) (v : Word),
    let u := s.tick t
    let p := 0x2E0
    let en := getField v 0 1
    let role := getField v 1 2
    let pair := getField v 3 2
    let hold := getField v 5 4
    (Passes u init p 8 true →
      (role = 3 ∨ hold = 0 ∨ (u.isSet F.DPX_EN = true ∧ (en = 0 ∨ pair ≠ u.rd F.DPX_PAIR)) ∨
        (en = 1 ∧ u.isSet F.DPX_EN = false ∧ u.rd (fPairMode (512 + pair)) ≠ 1) → exec (.duplexConfigWrite t init 8 v) s = .next (u.ignored p 8 7)) ∧
      (role ≠ 3 → hold ≠ 0 → u.isSet F.DPX_EN = true → en = 1 → pair = u.rd F.DPX_PAIR → exec (.duplexConfigWrite t init 8 v) s = .next
        (dpxEligible ((((u.wr F.DPX_EN 1).wr F.DPX_ROLE role).wr F.DPX_PAIR pair).wr F.DPX_HOLD hold)))) ∧
    (Passes u init p 9 true → exec (.duplexConfigWrite t init 9 v) s = .next (u.wr F.DPX_PMAC (getField v 0 48))) ∧
    (Passes u init p 10 true → exec (.duplexConfigWrite t init 10 v) s = .next (u.wr F.DPX_SMAC (getField v 0 48))) ∧
    (Passes u init p 11 true → init ≠ 0x20 → exec (.duplexConfigWrite t init 11 v) s = .next (u.ignored p 11 7)) ∧
    (Passes u init p 12 true → exec (.duplexClr t init) s = .next (
      let q : State := { u with dpx := { u.dpx with fails := [] } }
      dpxEligible (dpxCount (((q.clrBit F.DPX_RSN 0).clrBit F.DPX_RSN 1).clrBit F.DPX_RSN 2))))

/-- Frames of the duplex pair: a status frame shows the peer, and 3.000 s without one lose it; outputs of the same stroke are
compared once both are there, and each is sent once it is complete (R594, R596, R600, R601). -/
def Claims.DuplexFrames : Prop :=
  ∀ (s : State) (t stamp ver d n : Nat) (m : DpxStatus) (x o : DpxOutput),
    let u := s.tick t
    (u.isSet F.DPX_EN = false → exec (.duplexStatusRx t stamp ver m) s = .next u ∧ exec (.duplexOutputRx t ver x) s = .next u ∧
      exec (.duplexOutputTx t d n) s = .next u) ∧
    (u.isSet F.DPX_EN = true → ver ≠ 1 → exec (.duplexStatusRx t stamp ver m) s = .next (u.bump F.DPX_NBAD) ∧
      exec (.duplexOutputRx t ver x) s = .next (u.bump F.DPX_NBAD)) ∧
    (u.isSet F.DPX_EN = true → s.Inv → ∃ q, exec (.duplexStatusRx t stamp 1 m) s = .next q ∧ q.rd F.DPX_PEERUP = 1 ∧ q.rd F.DPX_PROLE = m.role % 4 ∧
      q.rd F.DPX_PHCMD = m.hcmd.toNat ∧ q.dpx.heardAt = u.now ∧ q.dpx.txt = m.txt) ∧
    (u.isSet F.DPX_PEERUP = false ∨ u.now < u.dpx.heardAt + 3000000000 → exec (.duplexPeerTimeout t) s = .next u) ∧
    (u.isSet F.DPX_PEERUP = true → u.dpx.heardAt + 3000000000 ≤ u.now → exec (.duplexPeerTimeout t) s = .next (
      let q := (u.wr F.DPX_PEERUP 0).wr F.DPX_PLOST 1
      let q : State := { q with dpx := { q.dpx with good := 0 } }
      dpxEligible (dpxReason (setPdeg q false) 5 true))) ∧
    (u.isSet F.DPX_EN = true → x.dom ≤ 3 →
      (u.dpx.own.find? (sameStroke x) = some o → exec (.duplexOutputRx t 1 x) s = .next
        (dpxCompare { u with dpx := { u.dpx with own := u.dpx.own.filter (fun y => !(sameStroke x y)) } } o x)) ∧
      (u.dpx.own.find? (sameStroke x) = none → x.stroke < tget u.dpx.sent x.dom → exec (.duplexOutputRx t 1 x) s = .next u) ∧
      (u.dpx.own.find? (sameStroke x) = none → tget u.dpx.sent x.dom ≤ x.stroke → exec (.duplexOutputRx t 1 x) s = .next
        { u with dpx := { u.dpx with peer := (u.dpx.peer.filter (fun p => decide (p.dom ≠ x.dom) || decide (x.stroke < p.stroke + 4))) ++ [x] } })) ∧
    (u.isSet F.DPX_EN = true → d < 4 → u.isSet (F.DOM_RUN d) = true → n ≤ curStroke u d → tget u.dpx.sent d ≤ n → dpxFns u d n ≠ [] → dpxReady u d n = true →
      u.dpx.own = [] → u.dpx.peer = [] →
      let m := dpxOutput u d n
      let q := sendOn u (dpxPorts u) 5 false none (.dpxOutput 1 m)
      q.dpx = u.dpx → exec (.duplexOutputTx t d n) s = .next { q with dpx := { q.dpx with sent := tset u.dpx.sent d (n + 1), own := [m] } })

/-- The duplex pair: DuplexControl, DuplexFrames. -/
def Obligations.Duplex : Prop :=
  Claims.DuplexControl ∧ Claims.DuplexFrames

/-- Power and resets: the always-on supply, the power-on reset, the chip reset and a ferrule's reset begin and end in the order of
their phases; what each leaves is said once (R152, R275, R559, R604, R605, R611, R625). -/
def Claims.Resets : Prop :=
  ∀ (s : State) (t f : Nat) (fails : List TestElement),
    let u := s.tick t
    (u.phase = 3 → exec (.supplyAonGood t) s = .next { u with phase := 2 } ∧ exec (.powerOnReset t) s = .next u ∧
      exec (.vbatRetentionLoss t) s = .next ((u.wr F.BST_SHELF (shelfSeconds u)).wr F.BST_SHV 0)) ∧
    (u.phase ≠ 3 → exec (.supplyAonGood t) s = .next u ∧ exec (.powerOnReset t) s = .next (coldState u 2) ∧ exec (.vbatRetentionLoss t) s = .next u) ∧
    exec (.powerLoss t) s = .next (coldState u 3) ∧
    (u.phase = 2 → exec (.powerOnResetEnd t fails) s = .next (boot (loadOtp { u with tim := { u.tim with baseAt := u.now } }) fails 4)) ∧
    (u.phase ≠ 2 → exec (.powerOnResetEnd t fails) s = .next u) ∧
    (1 ≤ u.phase → u.phase ≤ 3 → exec (.chipReset t) s = .next u) ∧
    (u.phase = 0 ∨ 3 < u.phase → exec (.chipReset t) s = .next (
      let q := chipResetStart u
      { q.wr F.PWR_DEVST (if q.rd F.PWR_DEVST = 2 then 0 else q.rd F.PWR_DEVST) with bst := { q.bst with tested := false } })) ∧
    (u.phase = 1 → exec (.chipResetEnd t fails) s = .next (boot (chipResetLeave { u with phase := 0 }) fails 5)) ∧
    (u.phase ≠ 1 → exec (.chipResetEnd t fails) s = .next u) ∧
    (f < 64 → u.rd (F.FER_FSTATE f) = 2 → exec (.ferruleReset t f) s = .next (ferResetStart u f)) ∧
    (u.rd (F.FER_FSTATE f) ≠ 2 → exec (.ferruleReset t f) s = .next u) ∧
    (f < 64 → u.phase ≠ 1 → (u.ferrule f).inReset = true → u.pwr.held.contains f = false → exec (.ferruleResetEnd t f) s = .next (ferUp u f)) ∧
    ((u.ferrule f).inReset = false ∨ u.pwr.held.contains f = true → exec (.ferruleResetEnd t f) s = .next u)

/-- A cold state keeps what survives without power: the fuses and the provisioned words, the record of repairs, the flash memory,
the shelf timer and the levels at its pins; every other piece of state is that of reset. -/
def Claims.ColdState : Prop :=
  ∀ (s : State) (p : Nat),
    let q := coldState s p
    q.phase = p ∧ q.now = s.now ∧ q.pending = s.pending ∧ q.otp = s.otp ∧ q.mcu.flash = s.mcu.flash ∧ q.bst.stored = s.bst.stored ∧ q.bst.fused = s.bst.fused ∧
    q.bst.shelfAt = s.bst.shelfAt ∧ q.mem = State.reset.mem ∧ q.scribes = [] ∧ q.nibs = [] ∧ q.gens = [] ∧ q.stalled = [] ∧
    q.tim.baseAt = s.now ∧ (∀ n, (q.scribe n).pc = (default : Scribe).pc) ∧ (∀ f n, (q.nib f n).pc = 0) ∧
    (s.Inv → q.Inv ∧ (∀ l, (q.port l).sig = (s.port l).sig ∧ (q.port l).txq = []) ∧ ∀ i, (q.trip i).ball = (s.trip i).ball ∧ (q.trip i).queue = []) ∧
    (∀ a, shelfWord a = false → q.regs.find? (fun e => e.1 == a) = none)

/-- Resets, and what survives without power: Resets, ColdState. -/
def Obligations.ResetsAndColdState : Prop :=
  Claims.Resets ∧ Claims.ColdState
end

