-- ==== Sys2Proof/Laws/State.lean ====
section
/-! SUPPORT. What the named updates of State leave as it was: one lemma for each field and each update. -/

namespace Sys2Proof.Machine
open Sys2Proof

variable (s : State)

/-! ### tick: changes now -/

@[simp] theorem tick_pending (t : Nat) : (s.tick t).pending = s.pending := rfl
@[simp] theorem tick_phase (t : Nat) : (s.tick t).phase = s.phase := rfl
@[simp] theorem tick_freeCtr (t : Nat) : (s.tick t).freeCtr = s.freeCtr := rfl
@[simp] theorem tick_regs (t : Nat) : (s.tick t).regs = s.regs := rfl
@[simp] theorem tick_gens (t : Nat) : (s.tick t).gens = s.gens := rfl
@[simp] theorem tick_stalled (t : Nat) : (s.tick t).stalled = s.stalled := rfl
@[simp] theorem tick_inkwell (t : Nat) : (s.tick t).inkwell = s.inkwell := rfl
@[simp] theorem tick_otp (t : Nat) : (s.tick t).otp = s.otp := rfl
@[simp] theorem tick_csn (t : Nat) : (s.tick t).csn = s.csn := rfl
@[simp] theorem tick_tim (t : Nat) : (s.tick t).tim = s.tim := rfl
@[simp] theorem tick_scribes (t : Nat) : (s.tick t).scribes = s.scribes := rfl
@[simp] theorem tick_ports (t : Nat) : (s.tick t).ports = s.ports := rfl
@[simp] theorem tick_pairs (t : Nat) : (s.tick t).pairs = s.pairs := rfl
@[simp] theorem tick_subs (t : Nat) : (s.tick t).subs = s.subs := rfl
@[simp] theorem tick_ferrules (t : Nat) : (s.tick t).ferrules = s.ferrules := rfl
@[simp] theorem tick_ferDoms (t : Nat) : (s.tick t).ferDoms = s.ferDoms := rfl
@[simp] theorem tick_nibs (t : Nat) : (s.tick t).nibs = s.nibs := rfl
@[simp] theorem tick_rul (t : Nat) : (s.tick t).rul = s.rul := rfl
@[simp] theorem tick_pubs (t : Nat) : (s.tick t).pubs = s.pubs := rfl
@[simp] theorem tick_trips (t : Nat) : (s.tick t).trips = s.trips := rfl
@[simp] theorem tick_blot (t : Nat) : (s.tick t).blot = s.blot := rfl
@[simp] theorem tick_mem (t : Nat) : (s.tick t).mem = s.mem := rfl
@[simp] theorem tick_icu (t : Nat) : (s.tick t).icu = s.icu := rfl
@[simp] theorem tick_mcu (t : Nat) : (s.tick t).mcu = s.mcu := rfl
@[simp] theorem tick_dma (t : Nat) : (s.tick t).dma = s.dma := rfl
@[simp] theorem tick_dmaLast (t : Nat) : (s.tick t).dmaLast = s.dmaLast := rfl
@[simp] theorem tick_qps (t : Nat) : (s.tick t).qps = s.qps := rfl
@[simp] theorem tick_qpTurn (t : Nat) : (s.tick t).qpTurn = s.qpTurn := rfl
@[simp] theorem tick_tens (t : Nat) : (s.tick t).tens = s.tens := rfl
@[simp] theorem tick_pwr (t : Nat) : (s.tick t).pwr = s.pwr := rfl
@[simp] theorem tick_bst (t : Nat) : (s.tick t).bst = s.bst := rfl
@[simp] theorem tick_pcie (t : Nat) : (s.tick t).pcie = s.pcie := rfl
@[simp] theorem tick_dbg (t : Nat) : (s.tick t).dbg = s.dbg := rfl
@[simp] theorem tick_dpx (t : Nat) : (s.tick t).dpx = s.dpx := rfl

/-! ### setWord: changes regs -/

@[simp] theorem setWord_pending (a : Nat) (v : Word) : (s.setWord a v).pending = s.pending := rfl
@[simp] theorem setWord_now (a : Nat) (v : Word) : (s.setWord a v).now = s.now := rfl
@[simp] theorem setWord_phase (a : Nat) (v : Word) : (s.setWord a v).phase = s.phase := rfl
@[simp] theorem setWord_freeCtr (a : Nat) (v : Word) : (s.setWord a v).freeCtr = s.freeCtr := rfl
@[simp] theorem setWord_gens (a : Nat) (v : Word) : (s.setWord a v).gens = s.gens := rfl
@[simp] theorem setWord_stalled (a : Nat) (v : Word) : (s.setWord a v).stalled = s.stalled := rfl
@[simp] theorem setWord_inkwell (a : Nat) (v : Word) : (s.setWord a v).inkwell = s.inkwell := rfl
@[simp] theorem setWord_otp (a : Nat) (v : Word) : (s.setWord a v).otp = s.otp := rfl
@[simp] theorem setWord_csn (a : Nat) (v : Word) : (s.setWord a v).csn = s.csn := rfl
@[simp] theorem setWord_tim (a : Nat) (v : Word) : (s.setWord a v).tim = s.tim := rfl
@[simp] theorem setWord_scribes (a : Nat) (v : Word) : (s.setWord a v).scribes = s.scribes := rfl
@[simp] theorem setWord_ports (a : Nat) (v : Word) : (s.setWord a v).ports = s.ports := rfl
@[simp] theorem setWord_pairs (a : Nat) (v : Word) : (s.setWord a v).pairs = s.pairs := rfl
@[simp] theorem setWord_subs (a : Nat) (v : Word) : (s.setWord a v).subs = s.subs := rfl
@[simp] theorem setWord_ferrules (a : Nat) (v : Word) : (s.setWord a v).ferrules = s.ferrules := rfl
@[simp] theorem setWord_ferDoms (a : Nat) (v : Word) : (s.setWord a v).ferDoms = s.ferDoms := rfl
@[simp] theorem setWord_nibs (a : Nat) (v : Word) : (s.setWord a v).nibs = s.nibs := rfl
@[simp] theorem setWord_rul (a : Nat) (v : Word) : (s.setWord a v).rul = s.rul := rfl
@[simp] theorem setWord_pubs (a : Nat) (v : Word) : (s.setWord a v).pubs = s.pubs := rfl
@[simp] theorem setWord_trips (a : Nat) (v : Word) : (s.setWord a v).trips = s.trips := rfl
@[simp] theorem setWord_blot (a : Nat) (v : Word) : (s.setWord a v).blot = s.blot := rfl
@[simp] theorem setWord_mem (a : Nat) (v : Word) : (s.setWord a v).mem = s.mem := rfl
@[simp] theorem setWord_icu (a : Nat) (v : Word) : (s.setWord a v).icu = s.icu := rfl
@[simp] theorem setWord_mcu (a : Nat) (v : Word) : (s.setWord a v).mcu = s.mcu := rfl
@[simp] theorem setWord_dma (a : Nat) (v : Word) : (s.setWord a v).dma = s.dma := rfl
@[simp] theorem setWord_dmaLast (a : Nat) (v : Word) : (s.setWord a v).dmaLast = s.dmaLast := rfl
@[simp] theorem setWord_qps (a : Nat) (v : Word) : (s.setWord a v).qps = s.qps := rfl
@[simp] theorem setWord_qpTurn (a : Nat) (v : Word) : (s.setWord a v).qpTurn = s.qpTurn := rfl
@[simp] theorem setWord_tens (a : Nat) (v : Word) : (s.setWord a v).tens = s.tens := rfl
@[simp] theorem setWord_pwr (a : Nat) (v : Word) : (s.setWord a v).pwr = s.pwr := rfl
@[simp] theorem setWord_bst (a : Nat) (v : Word) : (s.setWord a v).bst = s.bst := rfl
@[simp] theorem setWord_pcie (a : Nat) (v : Word) : (s.setWord a v).pcie = s.pcie := rfl
@[simp] theorem setWord_dbg (a : Nat) (v : Word) : (s.setWord a v).dbg = s.dbg := rfl
@[simp] theorem setWord_dpx (a : Nat) (v : Word) : (s.setWord a v).dpx = s.dpx := rfl

/-! ### wr: changes regs -/

@[simp] theorem wr_pending (f : Fld) (v : Nat) : (s.wr f v).pending = s.pending := rfl
@[simp] theorem wr_now (f : Fld) (v : Nat) : (s.wr f v).now = s.now := rfl
@[simp] theorem wr_phase (f : Fld) (v : Nat) : (s.wr f v).phase = s.phase := rfl
@[simp] theorem wr_freeCtr (f : Fld) (v : Nat) : (s.wr f v).freeCtr = s.freeCtr := rfl
@[simp] theorem wr_gens (f : Fld) (v : Nat) : (s.wr f v).gens = s.gens := rfl
@[simp] theorem wr_stalled (f : Fld) (v : Nat) : (s.wr f v).stalled = s.stalled := rfl
@[simp] theorem wr_inkwell (f : Fld) (v : Nat) : (s.wr f v).inkwell = s.inkwell := rfl
@[simp] theorem wr_otp (f : Fld) (v : Nat) : (s.wr f v).otp = s.otp := rfl
@[simp] theorem wr_csn (f : Fld) (v : Nat) : (s.wr f v).csn = s.csn := rfl
@[simp] theorem wr_tim (f : Fld) (v : Nat) : (s.wr f v).tim = s.tim := rfl
@[simp] theorem wr_scribes (f : Fld) (v : Nat) : (s.wr f v).scribes = s.scribes := rfl
@[simp] theorem wr_ports (f : Fld) (v : Nat) : (s.wr f v).ports = s.ports := rfl
@[simp] theorem wr_pairs (f : Fld) (v : Nat) : (s.wr f v).pairs = s.pairs := rfl
@[simp] theorem wr_subs (f : Fld) (v : Nat) : (s.wr f v).subs = s.subs := rfl
@[simp] theorem wr_ferrules (f : Fld) (v : Nat) : (s.wr f v).ferrules = s.ferrules := rfl
@[simp] theorem wr_ferDoms (f : Fld) (v : Nat) : (s.wr f v).ferDoms = s.ferDoms := rfl
@[simp] theorem wr_nibs (f : Fld) (v : Nat) : (s.wr f v).nibs = s.nibs := rfl
@[simp] theorem wr_rul (f : Fld) (v : Nat) : (s.wr f v).rul = s.rul := rfl
@[simp] theorem wr_pubs (f : Fld) (v : Nat) : (s.wr f v).pubs = s.pubs := rfl
@[simp] theorem wr_trips (f : Fld) (v : Nat) : (s.wr f v).trips = s.trips := rfl
@[simp] theorem wr_blot (f : Fld) (v : Nat) : (s.wr f v).blot = s.blot := rfl
@[simp] theorem wr_mem (f : Fld) (v : Nat) : (s.wr f v).mem = s.mem := rfl
@[simp] theorem wr_icu (f : Fld) (v : Nat) : (s.wr f v).icu = s.icu := rfl
@[simp] theorem wr_mcu (f : Fld) (v : Nat) : (s.wr f v).mcu = s.mcu := rfl
@[simp] theorem wr_dma (f : Fld) (v : Nat) : (s.wr f v).dma = s.dma := rfl
@[simp] theorem wr_dmaLast (f : Fld) (v : Nat) : (s.wr f v).dmaLast = s.dmaLast := rfl
@[simp] theorem wr_qps (f : Fld) (v : Nat) : (s.wr f v).qps = s.qps := rfl
@[simp] theorem wr_qpTurn (f : Fld) (v : Nat) : (s.wr f v).qpTurn = s.qpTurn := rfl
@[simp] theorem wr_tens (f : Fld) (v : Nat) : (s.wr f v).tens = s.tens := rfl
@[simp] theorem wr_pwr (f : Fld) (v : Nat) : (s.wr f v).pwr = s.pwr := rfl
@[simp] theorem wr_bst (f : Fld) (v : Nat) : (s.wr f v).bst = s.bst := rfl
@[simp] theorem wr_pcie (f : Fld) (v : Nat) : (s.wr f v).pcie = s.pcie := rfl
@[simp] theorem wr_dbg (f : Fld) (v : Nat) : (s.wr f v).dbg = s.dbg := rfl
@[simp] theorem wr_dpx (f : Fld) (v : Nat) : (s.wr f v).dpx = s.dpx := rfl

/-! ### wrb: changes regs -/

@[simp] theorem wrb_pending (f : Fld) (b : Bool) : (s.wrb f b).pending = s.pending := rfl
@[simp] theorem wrb_now (f : Fld) (b : Bool) : (s.wrb f b).now = s.now := rfl
@[simp] theorem wrb_phase (f : Fld) (b : Bool) : (s.wrb f b).phase = s.phase := rfl
@[simp] theorem wrb_freeCtr (f : Fld) (b : Bool) : (s.wrb f b).freeCtr = s.freeCtr := rfl
@[simp] theorem wrb_gens (f : Fld) (b : Bool) : (s.wrb f b).gens = s.gens := rfl
@[simp] theorem wrb_stalled (f : Fld) (b : Bool) : (s.wrb f b).stalled = s.stalled := rfl
@[simp] theorem wrb_inkwell (f : Fld) (b : Bool) : (s.wrb f b).inkwell = s.inkwell := rfl
@[simp] theorem wrb_otp (f : Fld) (b : Bool) : (s.wrb f b).otp = s.otp := rfl
@[simp] theorem wrb_csn (f : Fld) (b : Bool) : (s.wrb f b).csn = s.csn := rfl
@[simp] theorem wrb_tim (f : Fld) (b : Bool) : (s.wrb f b).tim = s.tim := rfl
@[simp] theorem wrb_scribes (f : Fld) (b : Bool) : (s.wrb f b).scribes = s.scribes := rfl
@[simp] theorem wrb_ports (f : Fld) (b : Bool) : (s.wrb f b).ports = s.ports := rfl
@[simp] theorem wrb_pairs (f : Fld) (b : Bool) : (s.wrb f b).pairs = s.pairs := rfl
@[simp] theorem wrb_subs (f : Fld) (b : Bool) : (s.wrb f b).subs = s.subs := rfl
@[simp] theorem wrb_ferrules (f : Fld) (b : Bool) : (s.wrb f b).ferrules = s.ferrules := rfl
@[simp] theorem wrb_ferDoms (f : Fld) (b : Bool) : (s.wrb f b).ferDoms = s.ferDoms := rfl
@[simp] theorem wrb_nibs (f : Fld) (b : Bool) : (s.wrb f b).nibs = s.nibs := rfl
@[simp] theorem wrb_rul (f : Fld) (b : Bool) : (s.wrb f b).rul = s.rul := rfl
@[simp] theorem wrb_pubs (f : Fld) (b : Bool) : (s.wrb f b).pubs = s.pubs := rfl
@[simp] theorem wrb_trips (f : Fld) (b : Bool) : (s.wrb f b).trips = s.trips := rfl
@[simp] theorem wrb_blot (f : Fld) (b : Bool) : (s.wrb f b).blot = s.blot := rfl
@[simp] theorem wrb_mem (f : Fld) (b : Bool) : (s.wrb f b).mem = s.mem := rfl
@[simp] theorem wrb_icu (f : Fld) (b : Bool) : (s.wrb f b).icu = s.icu := rfl
@[simp] theorem wrb_mcu (f : Fld) (b : Bool) : (s.wrb f b).mcu = s.mcu := rfl
@[simp] theorem wrb_dma (f : Fld) (b : Bool) : (s.wrb f b).dma = s.dma := rfl
@[simp] theorem wrb_dmaLast (f : Fld) (b : Bool) : (s.wrb f b).dmaLast = s.dmaLast := rfl
@[simp] theorem wrb_qps (f : Fld) (b : Bool) : (s.wrb f b).qps = s.qps := rfl
@[simp] theorem wrb_qpTurn (f : Fld) (b : Bool) : (s.wrb f b).qpTurn = s.qpTurn := rfl
@[simp] theorem wrb_tens (f : Fld) (b : Bool) : (s.wrb f b).tens = s.tens := rfl
@[simp] theorem wrb_pwr (f : Fld) (b : Bool) : (s.wrb f b).pwr = s.pwr := rfl
@[simp] theorem wrb_bst (f : Fld) (b : Bool) : (s.wrb f b).bst = s.bst := rfl
@[simp] theorem wrb_pcie (f : Fld) (b : Bool) : (s.wrb f b).pcie = s.pcie := rfl
@[simp] theorem wrb_dbg (f : Fld) (b : Bool) : (s.wrb f b).dbg = s.dbg := rfl
@[simp] theorem wrb_dpx (f : Fld) (b : Bool) : (s.wrb f b).dpx = s.dpx := rfl

/-! ### setBit: changes regs -/

@[simp] theorem setBit_pending (f : Fld) (i : Nat) : (s.setBit f i).pending = s.pending := rfl
@[simp] theorem setBit_now (f : Fld) (i : Nat) : (s.setBit f i).now = s.now := rfl
@[simp] theorem setBit_phase (f : Fld) (i : Nat) : (s.setBit f i).phase = s.phase := rfl
@[simp] theorem setBit_freeCtr (f : Fld) (i : Nat) : (s.setBit f i).freeCtr = s.freeCtr := rfl
@[simp] theorem setBit_gens (f : Fld) (i : Nat) : (s.setBit f i).gens = s.gens := rfl
@[simp] theorem setBit_stalled (f : Fld) (i : Nat) : (s.setBit f i).stalled = s.stalled := rfl
@[simp] theorem setBit_inkwell (f : Fld) (i : Nat) : (s.setBit f i).inkwell = s.inkwell := rfl
@[simp] theorem setBit_otp (f : Fld) (i : Nat) : (s.setBit f i).otp = s.otp := rfl
@[simp] theorem setBit_csn (f : Fld) (i : Nat) : (s.setBit f i).csn = s.csn := rfl
@[simp] theorem setBit_tim (f : Fld) (i : Nat) : (s.setBit f i).tim = s.tim := rfl
@[simp] theorem setBit_scribes (f : Fld) (i : Nat) : (s.setBit f i).scribes = s.scribes := rfl
@[simp] theorem setBit_ports (f : Fld) (i : Nat) : (s.setBit f i).ports = s.ports := rfl
@[simp] theorem setBit_pairs (f : Fld) (i : Nat) : (s.setBit f i).pairs = s.pairs := rfl
@[simp] theorem setBit_subs (f : Fld) (i : Nat) : (s.setBit f i).subs = s.subs := rfl
@[simp] theorem setBit_ferrules (f : Fld) (i : Nat) : (s.setBit f i).ferrules = s.ferrules := rfl
@[simp] theorem setBit_ferDoms (f : Fld) (i : Nat) : (s.setBit f i).ferDoms = s.ferDoms := rfl
@[simp] theorem setBit_nibs (f : Fld) (i : Nat) : (s.setBit f i).nibs = s.nibs := rfl
@[simp] theorem setBit_rul (f : Fld) (i : Nat) : (s.setBit f i).rul = s.rul := rfl
@[simp] theorem setBit_pubs (f : Fld) (i : Nat) : (s.setBit f i).pubs = s.pubs := rfl
@[simp] theorem setBit_trips (f : Fld) (i : Nat) : (s.setBit f i).trips = s.trips := rfl
@[simp] theorem setBit_blot (f : Fld) (i : Nat) : (s.setBit f i).blot = s.blot := rfl
@[simp] theorem setBit_mem (f : Fld) (i : Nat) : (s.setBit f i).mem = s.mem := rfl
@[simp] theorem setBit_icu (f : Fld) (i : Nat) : (s.setBit f i).icu = s.icu := rfl
@[simp] theorem setBit_mcu (f : Fld) (i : Nat) : (s.setBit f i).mcu = s.mcu := rfl
@[simp] theorem setBit_dma (f : Fld) (i : Nat) : (s.setBit f i).dma = s.dma := rfl
@[simp] theorem setBit_dmaLast (f : Fld) (i : Nat) : (s.setBit f i).dmaLast = s.dmaLast := rfl
@[simp] theorem setBit_qps (f : Fld) (i : Nat) : (s.setBit f i).qps = s.qps := rfl
@[simp] theorem setBit_qpTurn (f : Fld) (i : Nat) : (s.setBit f i).qpTurn = s.qpTurn := rfl
@[simp] theorem setBit_tens (f : Fld) (i : Nat) : (s.setBit f i).tens = s.tens := rfl
@[simp] theorem setBit_pwr (f : Fld) (i : Nat) : (s.setBit f i).pwr = s.pwr := rfl
@[simp] theorem setBit_bst (f : Fld) (i : Nat) : (s.setBit f i).bst = s.bst := rfl
@[simp] theorem setBit_pcie (f : Fld) (i : Nat) : (s.setBit f i).pcie = s.pcie := rfl
@[simp] theorem setBit_dbg (f : Fld) (i : Nat) : (s.setBit f i).dbg = s.dbg := rfl
@[simp] theorem setBit_dpx (f : Fld) (i : Nat) : (s.setBit f i).dpx = s.dpx := rfl

/-! ### bump: changes regs -/

@[simp] theorem bump_pending (f : Fld) : (s.bump f).pending = s.pending := rfl
@[simp] theorem bump_now (f : Fld) : (s.bump f).now = s.now := rfl
@[simp] theorem bump_phase (f : Fld) : (s.bump f).phase = s.phase := rfl
@[simp] theorem bump_freeCtr (f : Fld) : (s.bump f).freeCtr = s.freeCtr := rfl
@[simp] theorem bump_gens (f : Fld) : (s.bump f).gens = s.gens := rfl
@[simp] theorem bump_stalled (f : Fld) : (s.bump f).stalled = s.stalled := rfl
@[simp] theorem bump_inkwell (f : Fld) : (s.bump f).inkwell = s.inkwell := rfl
@[simp] theorem bump_otp (f : Fld) : (s.bump f).otp = s.otp := rfl
@[simp] theorem bump_csn (f : Fld) : (s.bump f).csn = s.csn := rfl
@[simp] theorem bump_tim (f : Fld) : (s.bump f).tim = s.tim := rfl
@[simp] theorem bump_scribes (f : Fld) : (s.bump f).scribes = s.scribes := rfl
@[simp] theorem bump_ports (f : Fld) : (s.bump f).ports = s.ports := rfl
@[simp] theorem bump_pairs (f : Fld) : (s.bump f).pairs = s.pairs := rfl
@[simp] theorem bump_subs (f : Fld) : (s.bump f).subs = s.subs := rfl
@[simp] theorem bump_ferrules (f : Fld) : (s.bump f).ferrules = s.ferrules := rfl
@[simp] theorem bump_ferDoms (f : Fld) : (s.bump f).ferDoms = s.ferDoms := rfl
@[simp] theorem bump_nibs (f : Fld) : (s.bump f).nibs = s.nibs := rfl
@[simp] theorem bump_rul (f : Fld) : (s.bump f).rul = s.rul := rfl
@[simp] theorem bump_pubs (f : Fld) : (s.bump f).pubs = s.pubs := rfl
@[simp] theorem bump_trips (f : Fld) : (s.bump f).trips = s.trips := rfl
@[simp] theorem bump_blot (f : Fld) : (s.bump f).blot = s.blot := rfl
@[simp] theorem bump_mem (f : Fld) : (s.bump f).mem = s.mem := rfl
@[simp] theorem bump_icu (f : Fld) : (s.bump f).icu = s.icu := rfl
@[simp] theorem bump_mcu (f : Fld) : (s.bump f).mcu = s.mcu := rfl
@[simp] theorem bump_dma (f : Fld) : (s.bump f).dma = s.dma := rfl
@[simp] theorem bump_dmaLast (f : Fld) : (s.bump f).dmaLast = s.dmaLast := rfl
@[simp] theorem bump_qps (f : Fld) : (s.bump f).qps = s.qps := rfl
@[simp] theorem bump_qpTurn (f : Fld) : (s.bump f).qpTurn = s.qpTurn := rfl
@[simp] theorem bump_tens (f : Fld) : (s.bump f).tens = s.tens := rfl
@[simp] theorem bump_pwr (f : Fld) : (s.bump f).pwr = s.pwr := rfl
@[simp] theorem bump_bst (f : Fld) : (s.bump f).bst = s.bst := rfl
@[simp] theorem bump_pcie (f : Fld) : (s.bump f).pcie = s.pcie := rfl
@[simp] theorem bump_dbg (f : Fld) : (s.bump f).dbg = s.dbg := rfl
@[simp] theorem bump_dpx (f : Fld) : (s.bump f).dpx = s.dpx := rfl

/-! ### ignored: changes regs -/

@[simp] theorem ignored_pending (p o r : Nat) : (s.ignored p o r).pending = s.pending := rfl
@[simp] theorem ignored_now (p o r : Nat) : (s.ignored p o r).now = s.now := rfl
@[simp] theorem ignored_phase (p o r : Nat) : (s.ignored p o r).phase = s.phase := rfl
@[simp] theorem ignored_freeCtr (p o r : Nat) : (s.ignored p o r).freeCtr = s.freeCtr := rfl
@[simp] theorem ignored_gens (p o r : Nat) : (s.ignored p o r).gens = s.gens := rfl
@[simp] theorem ignored_stalled (p o r : Nat) : (s.ignored p o r).stalled = s.stalled := rfl
@[simp] theorem ignored_inkwell (p o r : Nat) : (s.ignored p o r).inkwell = s.inkwell := rfl
@[simp] theorem ignored_otp (p o r : Nat) : (s.ignored p o r).otp = s.otp := rfl
@[simp] theorem ignored_csn (p o r : Nat) : (s.ignored p o r).csn = s.csn := rfl
@[simp] theorem ignored_tim (p o r : Nat) : (s.ignored p o r).tim = s.tim := rfl
@[simp] theorem ignored_scribes (p o r : Nat) : (s.ignored p o r).scribes = s.scribes := rfl
@[simp] theorem ignored_ports (p o r : Nat) : (s.ignored p o r).ports = s.ports := rfl
@[simp] theorem ignored_pairs (p o r : Nat) : (s.ignored p o r).pairs = s.pairs := rfl
@[simp] theorem ignored_subs (p o r : Nat) : (s.ignored p o r).subs = s.subs := rfl
@[simp] theorem ignored_ferrules (p o r : Nat) : (s.ignored p o r).ferrules = s.ferrules := rfl
@[simp] theorem ignored_ferDoms (p o r : Nat) : (s.ignored p o r).ferDoms = s.ferDoms := rfl
@[simp] theorem ignored_nibs (p o r : Nat) : (s.ignored p o r).nibs = s.nibs := rfl
@[simp] theorem ignored_rul (p o r : Nat) : (s.ignored p o r).rul = s.rul := rfl
@[simp] theorem ignored_pubs (p o r : Nat) : (s.ignored p o r).pubs = s.pubs := rfl
@[simp] theorem ignored_trips (p o r : Nat) : (s.ignored p o r).trips = s.trips := rfl
@[simp] theorem ignored_blot (p o r : Nat) : (s.ignored p o r).blot = s.blot := rfl
@[simp] theorem ignored_mem (p o r : Nat) : (s.ignored p o r).mem = s.mem := rfl
@[simp] theorem ignored_icu (p o r : Nat) : (s.ignored p o r).icu = s.icu := rfl
@[simp] theorem ignored_mcu (p o r : Nat) : (s.ignored p o r).mcu = s.mcu := rfl
@[simp] theorem ignored_dma (p o r : Nat) : (s.ignored p o r).dma = s.dma := rfl
@[simp] theorem ignored_dmaLast (p o r : Nat) : (s.ignored p o r).dmaLast = s.dmaLast := rfl
@[simp] theorem ignored_qps (p o r : Nat) : (s.ignored p o r).qps = s.qps := rfl
@[simp] theorem ignored_qpTurn (p o r : Nat) : (s.ignored p o r).qpTurn = s.qpTurn := rfl
@[simp] theorem ignored_tens (p o r : Nat) : (s.ignored p o r).tens = s.tens := rfl
@[simp] theorem ignored_pwr (p o r : Nat) : (s.ignored p o r).pwr = s.pwr := rfl
@[simp] theorem ignored_bst (p o r : Nat) : (s.ignored p o r).bst = s.bst := rfl
@[simp] theorem ignored_pcie (p o r : Nat) : (s.ignored p o r).pcie = s.pcie := rfl
@[simp] theorem ignored_dbg (p o r : Nat) : (s.ignored p o r).dbg = s.dbg := rfl
@[simp] theorem ignored_dpx (p o r : Nat) : (s.ignored p o r).dpx = s.dpx := rfl

/-! ### complete: changes regs -/

@[simp] theorem complete_pending (p st r h : Nat) : (s.complete p st r h).pending = s.pending := rfl
@[simp] theorem complete_now (p st r h : Nat) : (s.complete p st r h).now = s.now := rfl
@[simp] theorem complete_phase (p st r h : Nat) : (s.complete p st r h).phase = s.phase := rfl
@[simp] theorem complete_freeCtr (p st r h : Nat) : (s.complete p st r h).freeCtr = s.freeCtr := rfl
@[simp] theorem complete_gens (p st r h : Nat) : (s.complete p st r h).gens = s.gens := rfl
@[simp] theorem complete_stalled (p st r h : Nat) : (s.complete p st r h).stalled = s.stalled := rfl
@[simp] theorem complete_inkwell (p st r h : Nat) : (s.complete p st r h).inkwell = s.inkwell := rfl
@[simp] theorem complete_otp (p st r h : Nat) : (s.complete p st r h).otp = s.otp := rfl
@[simp] theorem complete_csn (p st r h : Nat) : (s.complete p st r h).csn = s.csn := rfl
@[simp] theorem complete_tim (p st r h : Nat) : (s.complete p st r h).tim = s.tim := rfl
@[simp] theorem complete_scribes (p st r h : Nat) : (s.complete p st r h).scribes = s.scribes := rfl
@[simp] theorem complete_ports (p st r h : Nat) : (s.complete p st r h).ports = s.ports := rfl
@[simp] theorem complete_pairs (p st r h : Nat) : (s.complete p st r h).pairs = s.pairs := rfl
@[simp] theorem complete_subs (p st r h : Nat) : (s.complete p st r h).subs = s.subs := rfl
@[simp] theorem complete_ferrules (p st r h : Nat) : (s.complete p st r h).ferrules = s.ferrules := rfl
@[simp] theorem complete_ferDoms (p st r h : Nat) : (s.complete p st r h).ferDoms = s.ferDoms := rfl
@[simp] theorem complete_nibs (p st r h : Nat) : (s.complete p st r h).nibs = s.nibs := rfl
@[simp] theorem complete_rul (p st r h : Nat) : (s.complete p st r h).rul = s.rul := rfl
@[simp] theorem complete_pubs (p st r h : Nat) : (s.complete p st r h).pubs = s.pubs := rfl
@[simp] theorem complete_trips (p st r h : Nat) : (s.complete p st r h).trips = s.trips := rfl
@[simp] theorem complete_blot (p st r h : Nat) : (s.complete p st r h).blot = s.blot := rfl
@[simp] theorem complete_mem (p st r h : Nat) : (s.complete p st r h).mem = s.mem := rfl
@[simp] theorem complete_icu (p st r h : Nat) : (s.complete p st r h).icu = s.icu := rfl
@[simp] theorem complete_mcu (p st r h : Nat) : (s.complete p st r h).mcu = s.mcu := rfl
@[simp] theorem complete_dma (p st r h : Nat) : (s.complete p st r h).dma = s.dma := rfl
@[simp] theorem complete_dmaLast (p st r h : Nat) : (s.complete p st r h).dmaLast = s.dmaLast := rfl
@[simp] theorem complete_qps (p st r h : Nat) : (s.complete p st r h).qps = s.qps := rfl
@[simp] theorem complete_qpTurn (p st r h : Nat) : (s.complete p st r h).qpTurn = s.qpTurn := rfl
@[simp] theorem complete_tens (p st r h : Nat) : (s.complete p st r h).tens = s.tens := rfl
@[simp] theorem complete_pwr (p st r h : Nat) : (s.complete p st r h).pwr = s.pwr := rfl
@[simp] theorem complete_bst (p st r h : Nat) : (s.complete p st r h).bst = s.bst := rfl
@[simp] theorem complete_pcie (p st r h : Nat) : (s.complete p st r h).pcie = s.pcie := rfl
@[simp] theorem complete_dbg (p st r h : Nat) : (s.complete p st r h).dbg = s.dbg := rfl
@[simp] theorem complete_dpx (p st r h : Nat) : (s.complete p st r h).dpx = s.dpx := rfl

/-! ### resetWords: changes regs -/

@[simp] theorem resetWords_pending (a n : Nat) : (s.resetWords a n).pending = s.pending := rfl
@[simp] theorem resetWords_now (a n : Nat) : (s.resetWords a n).now = s.now := rfl
@[simp] theorem resetWords_phase (a n : Nat) : (s.resetWords a n).phase = s.phase := rfl
@[simp] theorem resetWords_freeCtr (a n : Nat) : (s.resetWords a n).freeCtr = s.freeCtr := rfl
@[simp] theorem resetWords_gens (a n : Nat) : (s.resetWords a n).gens = s.gens := rfl
@[simp] theorem resetWords_stalled (a n : Nat) : (s.resetWords a n).stalled = s.stalled := rfl
@[simp] theorem resetWords_inkwell (a n : Nat) : (s.resetWords a n).inkwell = s.inkwell := rfl
@[simp] theorem resetWords_otp (a n : Nat) : (s.resetWords a n).otp = s.otp := rfl
@[simp] theorem resetWords_csn (a n : Nat) : (s.resetWords a n).csn = s.csn := rfl
@[simp] theorem resetWords_tim (a n : Nat) : (s.resetWords a n).tim = s.tim := rfl
@[simp] theorem resetWords_scribes (a n : Nat) : (s.resetWords a n).scribes = s.scribes := rfl
@[simp] theorem resetWords_ports (a n : Nat) : (s.resetWords a n).ports = s.ports := rfl
@[simp] theorem resetWords_pairs (a n : Nat) : (s.resetWords a n).pairs = s.pairs := rfl
@[simp] theorem resetWords_subs (a n : Nat) : (s.resetWords a n).subs = s.subs := rfl
@[simp] theorem resetWords_ferrules (a n : Nat) : (s.resetWords a n).ferrules = s.ferrules := rfl
@[simp] theorem resetWords_ferDoms (a n : Nat) : (s.resetWords a n).ferDoms = s.ferDoms := rfl
@[simp] theorem resetWords_nibs (a n : Nat) : (s.resetWords a n).nibs = s.nibs := rfl
@[simp] theorem resetWords_rul (a n : Nat) : (s.resetWords a n).rul = s.rul := rfl
@[simp] theorem resetWords_pubs (a n : Nat) : (s.resetWords a n).pubs = s.pubs := rfl
@[simp] theorem resetWords_trips (a n : Nat) : (s.resetWords a n).trips = s.trips := rfl
@[simp] theorem resetWords_blot (a n : Nat) : (s.resetWords a n).blot = s.blot := rfl
@[simp] theorem resetWords_mem (a n : Nat) : (s.resetWords a n).mem = s.mem := rfl
@[simp] theorem resetWords_icu (a n : Nat) : (s.resetWords a n).icu = s.icu := rfl
@[simp] theorem resetWords_mcu (a n : Nat) : (s.resetWords a n).mcu = s.mcu := rfl
@[simp] theorem resetWords_dma (a n : Nat) : (s.resetWords a n).dma = s.dma := rfl
@[simp] theorem resetWords_dmaLast (a n : Nat) : (s.resetWords a n).dmaLast = s.dmaLast := rfl
@[simp] theorem resetWords_qps (a n : Nat) : (s.resetWords a n).qps = s.qps := rfl
@[simp] theorem resetWords_qpTurn (a n : Nat) : (s.resetWords a n).qpTurn = s.qpTurn := rfl
@[simp] theorem resetWords_tens (a n : Nat) : (s.resetWords a n).tens = s.tens := rfl
@[simp] theorem resetWords_pwr (a n : Nat) : (s.resetWords a n).pwr = s.pwr := rfl
@[simp] theorem resetWords_bst (a n : Nat) : (s.resetWords a n).bst = s.bst := rfl
@[simp] theorem resetWords_pcie (a n : Nat) : (s.resetWords a n).pcie = s.pcie := rfl
@[simp] theorem resetWords_dbg (a n : Nat) : (s.resetWords a n).dbg = s.dbg := rfl
@[simp] theorem resetWords_dpx (a n : Nat) : (s.resetWords a n).dpx = s.dpx := rfl

/-! ### bumpGen: changes gens -/

@[simp] theorem bumpGen_pending (k i : Nat) : (s.bumpGen k i).pending = s.pending := rfl
@[simp] theorem bumpGen_now (k i : Nat) : (s.bumpGen k i).now = s.now := rfl
@[simp] theorem bumpGen_phase (k i : Nat) : (s.bumpGen k i).phase = s.phase := rfl
@[simp] theorem bumpGen_freeCtr (k i : Nat) : (s.bumpGen k i).freeCtr = s.freeCtr := rfl
@[simp] theorem bumpGen_regs (k i : Nat) : (s.bumpGen k i).regs = s.regs := rfl
@[simp] theorem bumpGen_stalled (k i : Nat) : (s.bumpGen k i).stalled = s.stalled := rfl
@[simp] theorem bumpGen_inkwell (k i : Nat) : (s.bumpGen k i).inkwell = s.inkwell := rfl
@[simp] theorem bumpGen_otp (k i : Nat) : (s.bumpGen k i).otp = s.otp := rfl
@[simp] theorem bumpGen_csn (k i : Nat) : (s.bumpGen k i).csn = s.csn := rfl
@[simp] theorem bumpGen_tim (k i : Nat) : (s.bumpGen k i).tim = s.tim := rfl
@[simp] theorem bumpGen_scribes (k i : Nat) : (s.bumpGen k i).scribes = s.scribes := rfl
@[simp] theorem bumpGen_ports (k i : Nat) : (s.bumpGen k i).ports = s.ports := rfl
@[simp] theorem bumpGen_pairs (k i : Nat) : (s.bumpGen k i).pairs = s.pairs := rfl
@[simp] theorem bumpGen_subs (k i : Nat) : (s.bumpGen k i).subs = s.subs := rfl
@[simp] theorem bumpGen_ferrules (k i : Nat) : (s.bumpGen k i).ferrules = s.ferrules := rfl
@[simp] theorem bumpGen_ferDoms (k i : Nat) : (s.bumpGen k i).ferDoms = s.ferDoms := rfl
@[simp] theorem bumpGen_nibs (k i : Nat) : (s.bumpGen k i).nibs = s.nibs := rfl
@[simp] theorem bumpGen_rul (k i : Nat) : (s.bumpGen k i).rul = s.rul := rfl
@[simp] theorem bumpGen_pubs (k i : Nat) : (s.bumpGen k i).pubs = s.pubs := rfl
@[simp] theorem bumpGen_trips (k i : Nat) : (s.bumpGen k i).trips = s.trips := rfl
@[simp] theorem bumpGen_blot (k i : Nat) : (s.bumpGen k i).blot = s.blot := rfl
@[simp] theorem bumpGen_mem (k i : Nat) : (s.bumpGen k i).mem = s.mem := rfl
@[simp] theorem bumpGen_icu (k i : Nat) : (s.bumpGen k i).icu = s.icu := rfl
@[simp] theorem bumpGen_mcu (k i : Nat) : (s.bumpGen k i).mcu = s.mcu := rfl
@[simp] theorem bumpGen_dma (k i : Nat) : (s.bumpGen k i).dma = s.dma := rfl
@[simp] theorem bumpGen_dmaLast (k i : Nat) : (s.bumpGen k i).dmaLast = s.dmaLast := rfl
@[simp] theorem bumpGen_qps (k i : Nat) : (s.bumpGen k i).qps = s.qps := rfl
@[simp] theorem bumpGen_qpTurn (k i : Nat) : (s.bumpGen k i).qpTurn = s.qpTurn := rfl
@[simp] theorem bumpGen_tens (k i : Nat) : (s.bumpGen k i).tens = s.tens := rfl
@[simp] theorem bumpGen_pwr (k i : Nat) : (s.bumpGen k i).pwr = s.pwr := rfl
@[simp] theorem bumpGen_bst (k i : Nat) : (s.bumpGen k i).bst = s.bst := rfl
@[simp] theorem bumpGen_pcie (k i : Nat) : (s.bumpGen k i).pcie = s.pcie := rfl
@[simp] theorem bumpGen_dbg (k i : Nat) : (s.bumpGen k i).dbg = s.dbg := rfl
@[simp] theorem bumpGen_dpx (k i : Nat) : (s.bumpGen k i).dpx = s.dpx := rfl

/-! ### free: changes freeCtr -/

@[simp] theorem free_pending (w : Nat) : (s.free w).2.pending = s.pending := rfl
@[simp] theorem free_now (w : Nat) : (s.free w).2.now = s.now := rfl
@[simp] theorem free_phase (w : Nat) : (s.free w).2.phase = s.phase := rfl
@[simp] theorem free_regs (w : Nat) : (s.free w).2.regs = s.regs := rfl
@[simp] theorem free_gens (w : Nat) : (s.free w).2.gens = s.gens := rfl
@[simp] theorem free_stalled (w : Nat) : (s.free w).2.stalled = s.stalled := rfl
@[simp] theorem free_inkwell (w : Nat) : (s.free w).2.inkwell = s.inkwell := rfl
@[simp] theorem free_otp (w : Nat) : (s.free w).2.otp = s.otp := rfl
@[simp] theorem free_csn (w : Nat) : (s.free w).2.csn = s.csn := rfl
@[simp] theorem free_tim (w : Nat) : (s.free w).2.tim = s.tim := rfl
@[simp] theorem free_scribes (w : Nat) : (s.free w).2.scribes = s.scribes := rfl
@[simp] theorem free_ports (w : Nat) : (s.free w).2.ports = s.ports := rfl
@[simp] theorem free_pairs (w : Nat) : (s.free w).2.pairs = s.pairs := rfl
@[simp] theorem free_subs (w : Nat) : (s.free w).2.subs = s.subs := rfl
@[simp] theorem free_ferrules (w : Nat) : (s.free w).2.ferrules = s.ferrules := rfl
@[simp] theorem free_ferDoms (w : Nat) : (s.free w).2.ferDoms = s.ferDoms := rfl
@[simp] theorem free_nibs (w : Nat) : (s.free w).2.nibs = s.nibs := rfl
@[simp] theorem free_rul (w : Nat) : (s.free w).2.rul = s.rul := rfl
@[simp] theorem free_pubs (w : Nat) : (s.free w).2.pubs = s.pubs := rfl
@[simp] theorem free_trips (w : Nat) : (s.free w).2.trips = s.trips := rfl
@[simp] theorem free_blot (w : Nat) : (s.free w).2.blot = s.blot := rfl
@[simp] theorem free_mem (w : Nat) : (s.free w).2.mem = s.mem := rfl
@[simp] theorem free_icu (w : Nat) : (s.free w).2.icu = s.icu := rfl
@[simp] theorem free_mcu (w : Nat) : (s.free w).2.mcu = s.mcu := rfl
@[simp] theorem free_dma (w : Nat) : (s.free w).2.dma = s.dma := rfl
@[simp] theorem free_dmaLast (w : Nat) : (s.free w).2.dmaLast = s.dmaLast := rfl
@[simp] theorem free_qps (w : Nat) : (s.free w).2.qps = s.qps := rfl
@[simp] theorem free_qpTurn (w : Nat) : (s.free w).2.qpTurn = s.qpTurn := rfl
@[simp] theorem free_tens (w : Nat) : (s.free w).2.tens = s.tens := rfl
@[simp] theorem free_pwr (w : Nat) : (s.free w).2.pwr = s.pwr := rfl
@[simp] theorem free_bst (w : Nat) : (s.free w).2.bst = s.bst := rfl
@[simp] theorem free_pcie (w : Nat) : (s.free w).2.pcie = s.pcie := rfl
@[simp] theorem free_dbg (w : Nat) : (s.free w).2.dbg = s.dbg := rfl
@[simp] theorem free_dpx (w : Nat) : (s.free w).2.dpx = s.dpx := rfl

/-! ### setScribe: changes scribes -/

@[simp] theorem setScribe_pending (n : Nat) (c : Scribe) : (s.setScribe n c).pending = s.pending := rfl
@[simp] theorem setScribe_now (n : Nat) (c : Scribe) : (s.setScribe n c).now = s.now := rfl
@[simp] theorem setScribe_phase (n : Nat) (c : Scribe) : (s.setScribe n c).phase = s.phase := rfl
@[simp] theorem setScribe_freeCtr (n : Nat) (c : Scribe) : (s.setScribe n c).freeCtr = s.freeCtr := rfl
@[simp] theorem setScribe_regs (n : Nat) (c : Scribe) : (s.setScribe n c).regs = s.regs := rfl
@[simp] theorem setScribe_gens (n : Nat) (c : Scribe) : (s.setScribe n c).gens = s.gens := rfl
@[simp] theorem setScribe_stalled (n : Nat) (c : Scribe) : (s.setScribe n c).stalled = s.stalled := rfl
@[simp] theorem setScribe_inkwell (n : Nat) (c : Scribe) : (s.setScribe n c).inkwell = s.inkwell := rfl
@[simp] theorem setScribe_otp (n : Nat) (c : Scribe) : (s.setScribe n c).otp = s.otp := rfl
@[simp] theorem setScribe_csn (n : Nat) (c : Scribe) : (s.setScribe n c).csn = s.csn := rfl
@[simp] theorem setScribe_tim (n : Nat) (c : Scribe) : (s.setScribe n c).tim = s.tim := rfl
@[simp] theorem setScribe_ports (n : Nat) (c : Scribe) : (s.setScribe n c).ports = s.ports := rfl
@[simp] theorem setScribe_pairs (n : Nat) (c : Scribe) : (s.setScribe n c).pairs = s.pairs := rfl
@[simp] theorem setScribe_subs (n : Nat) (c : Scribe) : (s.setScribe n c).subs = s.subs := rfl
@[simp] theorem setScribe_ferrules (n : Nat) (c : Scribe) : (s.setScribe n c).ferrules = s.ferrules := rfl
@[simp] theorem setScribe_ferDoms (n : Nat) (c : Scribe) : (s.setScribe n c).ferDoms = s.ferDoms := rfl
@[simp] theorem setScribe_nibs (n : Nat) (c : Scribe) : (s.setScribe n c).nibs = s.nibs := rfl
@[simp] theorem setScribe_rul (n : Nat) (c : Scribe) : (s.setScribe n c).rul = s.rul := rfl
@[simp] theorem setScribe_pubs (n : Nat) (c : Scribe) : (s.setScribe n c).pubs = s.pubs := rfl
@[simp] theorem setScribe_trips (n : Nat) (c : Scribe) : (s.setScribe n c).trips = s.trips := rfl
@[simp] theorem setScribe_blot (n : Nat) (c : Scribe) : (s.setScribe n c).blot = s.blot := rfl
@[simp] theorem setScribe_mem (n : Nat) (c : Scribe) : (s.setScribe n c).mem = s.mem := rfl
@[simp] theorem setScribe_icu (n : Nat) (c : Scribe) : (s.setScribe n c).icu = s.icu := rfl
@[simp] theorem setScribe_mcu (n : Nat) (c : Scribe) : (s.setScribe n c).mcu = s.mcu := rfl
@[simp] theorem setScribe_dma (n : Nat) (c : Scribe) : (s.setScribe n c).dma = s.dma := rfl
@[simp] theorem setScribe_dmaLast (n : Nat) (c : Scribe) : (s.setScribe n c).dmaLast = s.dmaLast := rfl
@[simp] theorem setScribe_qps (n : Nat) (c : Scribe) : (s.setScribe n c).qps = s.qps := rfl
@[simp] theorem setScribe_qpTurn (n : Nat) (c : Scribe) : (s.setScribe n c).qpTurn = s.qpTurn := rfl
@[simp] theorem setScribe_tens (n : Nat) (c : Scribe) : (s.setScribe n c).tens = s.tens := rfl
@[simp] theorem setScribe_pwr (n : Nat) (c : Scribe) : (s.setScribe n c).pwr = s.pwr := rfl
@[simp] theorem setScribe_bst (n : Nat) (c : Scribe) : (s.setScribe n c).bst = s.bst := rfl
@[simp] theorem setScribe_pcie (n : Nat) (c : Scribe) : (s.setScribe n c).pcie = s.pcie := rfl
@[simp] theorem setScribe_dbg (n : Nat) (c : Scribe) : (s.setScribe n c).dbg = s.dbg := rfl
@[simp] theorem setScribe_dpx (n : Nat) (c : Scribe) : (s.setScribe n c).dpx = s.dpx := rfl

/-! ### modScribe: changes scribes -/

@[simp] theorem modScribe_pending (n : Nat) (f : Scribe → Scribe) : (s.modScribe n f).pending = s.pending := rfl
@[simp] theorem modScribe_now (n : Nat) (f : Scribe → Scribe) : (s.modScribe n f).now = s.now := rfl
@[simp] theorem modScribe_phase (n : Nat) (f : Scribe → Scribe) : (s.modScribe n f).phase = s.phase := rfl
@[simp] theorem modScribe_freeCtr (n : Nat) (f : Scribe → Scribe) : (s.modScribe n f).freeCtr = s.freeCtr := rfl
@[simp] theorem modScribe_regs (n : Nat) (f : Scribe → Scribe) : (s.modScribe n f).regs = s.regs := rfl
@[simp] theorem modScribe_gens (n : Nat) (f : Scribe → Scribe) : (s.modScribe n f).gens = s.gens := rfl
@[simp] theorem modScribe_stalled (n : Nat) (f : Scribe → Scribe) : (s.modScribe n f).stalled = s.stalled := rfl
@[simp] theorem modScribe_inkwell (n : Nat) (f : Scribe → Scribe) : (s.modScribe n f).inkwell = s.inkwell := rfl
@[simp] theorem modScribe_otp (n : Nat) (f : Scribe → Scribe) : (s.modScribe n f).otp = s.otp := rfl
@[simp] theorem modScribe_csn (n : Nat) (f : Scribe → Scribe) : (s.modScribe n f).csn = s.csn := rfl
@[simp] theorem modScribe_tim (n : Nat) (f : Scribe → Scribe) : (s.modScribe n f).tim = s.tim := rfl
@[simp] theorem modScribe_ports (n : Nat) (f : Scribe → Scribe) : (s.modScribe n f).ports = s.ports := rfl
@[simp] theorem modScribe_pairs (n : Nat) (f : Scribe → Scribe) : (s.modScribe n f).pairs = s.pairs := rfl
@[simp] theorem modScribe_subs (n : Nat) (f : Scribe → Scribe) : (s.modScribe n f).subs = s.subs := rfl
@[simp] theorem modScribe_ferrules (n : Nat) (f : Scribe → Scribe) : (s.modScribe n f).ferrules = s.ferrules := rfl
@[simp] theorem modScribe_ferDoms (n : Nat) (f : Scribe → Scribe) : (s.modScribe n f).ferDoms = s.ferDoms := rfl
@[simp] theorem modScribe_nibs (n : Nat) (f : Scribe → Scribe) : (s.modScribe n f).nibs = s.nibs := rfl
@[simp] theorem modScribe_rul (n : Nat) (f : Scribe → Scribe) : (s.modScribe n f).rul = s.rul := rfl
@[simp] theorem modScribe_pubs (n : Nat) (f : Scribe → Scribe) : (s.modScribe n f).pubs = s.pubs := rfl
@[simp] theorem modScribe_trips (n : Nat) (f : Scribe → Scribe) : (s.modScribe n f).trips = s.trips := rfl
@[simp] theorem modScribe_blot (n : Nat) (f : Scribe → Scribe) : (s.modScribe n f).blot = s.blot := rfl
@[simp] theorem modScribe_mem (n : Nat) (f : Scribe → Scribe) : (s.modScribe n f).mem = s.mem := rfl
@[simp] theorem modScribe_icu (n : Nat) (f : Scribe → Scribe) : (s.modScribe n f).icu = s.icu := rfl
@[simp] theorem modScribe_mcu (n : Nat) (f : Scribe → Scribe) : (s.modScribe n f).mcu = s.mcu := rfl
@[simp] theorem modScribe_dma (n : Nat) (f : Scribe → Scribe) : (s.modScribe n f).dma = s.dma := rfl
@[simp] theorem modScribe_dmaLast (n : Nat) (f : Scribe → Scribe) : (s.modScribe n f).dmaLast = s.dmaLast := rfl
@[simp] theorem modScribe_qps (n : Nat) (f : Scribe → Scribe) : (s.modScribe n f).qps = s.qps := rfl
@[simp] theorem modScribe_qpTurn (n : Nat) (f : Scribe → Scribe) : (s.modScribe n f).qpTurn = s.qpTurn := rfl
@[simp] theorem modScribe_tens (n : Nat) (f : Scribe → Scribe) : (s.modScribe n f).tens = s.tens := rfl
@[simp] theorem modScribe_pwr (n : Nat) (f : Scribe → Scribe) : (s.modScribe n f).pwr = s.pwr := rfl
@[simp] theorem modScribe_bst (n : Nat) (f : Scribe → Scribe) : (s.modScribe n f).bst = s.bst := rfl
@[simp] theorem modScribe_pcie (n : Nat) (f : Scribe → Scribe) : (s.modScribe n f).pcie = s.pcie := rfl
@[simp] theorem modScribe_dbg (n : Nat) (f : Scribe → Scribe) : (s.modScribe n f).dbg = s.dbg := rfl
@[simp] theorem modScribe_dpx (n : Nat) (f : Scribe → Scribe) : (s.modScribe n f).dpx = s.dpx := rfl

/-! ### setNib: changes nibs -/

@[simp] theorem setNib_pending (f n : Nat) (b : Nib) : (s.setNib f n b).pending = s.pending := rfl
@[simp] theorem setNib_now (f n : Nat) (b : Nib) : (s.setNib f n b).now = s.now := rfl
@[simp] theorem setNib_phase (f n : Nat) (b : Nib) : (s.setNib f n b).phase = s.phase := rfl
@[simp] theorem setNib_freeCtr (f n : Nat) (b : Nib) : (s.setNib f n b).freeCtr = s.freeCtr := rfl
@[simp] theorem setNib_regs (f n : Nat) (b : Nib) : (s.setNib f n b).regs = s.regs := rfl
@[simp] theorem setNib_gens (f n : Nat) (b : Nib) : (s.setNib f n b).gens = s.gens := rfl
@[simp] theorem setNib_stalled (f n : Nat) (b : Nib) : (s.setNib f n b).stalled = s.stalled := rfl
@[simp] theorem setNib_inkwell (f n : Nat) (b : Nib) : (s.setNib f n b).inkwell = s.inkwell := rfl
@[simp] theorem setNib_otp (f n : Nat) (b : Nib) : (s.setNib f n b).otp = s.otp := rfl
@[simp] theorem setNib_csn (f n : Nat) (b : Nib) : (s.setNib f n b).csn = s.csn := rfl
@[simp] theorem setNib_tim (f n : Nat) (b : Nib) : (s.setNib f n b).tim = s.tim := rfl
@[simp] theorem setNib_scribes (f n : Nat) (b : Nib) : (s.setNib f n b).scribes = s.scribes := rfl
@[simp] theorem setNib_ports (f n : Nat) (b : Nib) : (s.setNib f n b).ports = s.ports := rfl
@[simp] theorem setNib_pairs (f n : Nat) (b : Nib) : (s.setNib f n b).pairs = s.pairs := rfl
@[simp] theorem setNib_subs (f n : Nat) (b : Nib) : (s.setNib f n b).subs = s.subs := rfl
@[simp] theorem setNib_ferrules (f n : Nat) (b : Nib) : (s.setNib f n b).ferrules = s.ferrules := rfl
@[simp] theorem setNib_ferDoms (f n : Nat) (b : Nib) : (s.setNib f n b).ferDoms = s.ferDoms := rfl
@[simp] theorem setNib_rul (f n : Nat) (b : Nib) : (s.setNib f n b).rul = s.rul := rfl
@[simp] theorem setNib_pubs (f n : Nat) (b : Nib) : (s.setNib f n b).pubs = s.pubs := rfl
@[simp] theorem setNib_trips (f n : Nat) (b : Nib) : (s.setNib f n b).trips = s.trips := rfl
@[simp] theorem setNib_blot (f n : Nat) (b : Nib) : (s.setNib f n b).blot = s.blot := rfl
@[simp] theorem setNib_mem (f n : Nat) (b : Nib) : (s.setNib f n b).mem = s.mem := rfl
@[simp] theorem setNib_icu (f n : Nat) (b : Nib) : (s.setNib f n b).icu = s.icu := rfl
@[simp] theorem setNib_mcu (f n : Nat) (b : Nib) : (s.setNib f n b).mcu = s.mcu := rfl
@[simp] theorem setNib_dma (f n : Nat) (b : Nib) : (s.setNib f n b).dma = s.dma := rfl
@[simp] theorem setNib_dmaLast (f n : Nat) (b : Nib) : (s.setNib f n b).dmaLast = s.dmaLast := rfl
@[simp] theorem setNib_qps (f n : Nat) (b : Nib) : (s.setNib f n b).qps = s.qps := rfl
@[simp] theorem setNib_qpTurn (f n : Nat) (b : Nib) : (s.setNib f n b).qpTurn = s.qpTurn := rfl
@[simp] theorem setNib_tens (f n : Nat) (b : Nib) : (s.setNib f n b).tens = s.tens := rfl
@[simp] theorem setNib_pwr (f n : Nat) (b : Nib) : (s.setNib f n b).pwr = s.pwr := rfl
@[simp] theorem setNib_bst (f n : Nat) (b : Nib) : (s.setNib f n b).bst = s.bst := rfl
@[simp] theorem setNib_pcie (f n : Nat) (b : Nib) : (s.setNib f n b).pcie = s.pcie := rfl
@[simp] theorem setNib_dbg (f n : Nat) (b : Nib) : (s.setNib f n b).dbg = s.dbg := rfl
@[simp] theorem setNib_dpx (f n : Nat) (b : Nib) : (s.setNib f n b).dpx = s.dpx := rfl

/-! ### setPort: changes ports -/

@[simp] theorem setPort_pending (p : Nat) (x : Port) : (s.setPort p x).pending = s.pending := rfl
@[simp] theorem setPort_now (p : Nat) (x : Port) : (s.setPort p x).now = s.now := rfl
@[simp] theorem setPort_phase (p : Nat) (x : Port) : (s.setPort p x).phase = s.phase := rfl
@[simp] theorem setPort_freeCtr (p : Nat) (x : Port) : (s.setPort p x).freeCtr = s.freeCtr := rfl
@[simp] theorem setPort_regs (p : Nat) (x : Port) : (s.setPort p x).regs = s.regs := rfl
@[simp] theorem setPort_gens (p : Nat) (x : Port) : (s.setPort p x).gens = s.gens := rfl
@[simp] theorem setPort_stalled (p : Nat) (x : Port) : (s.setPort p x).stalled = s.stalled := rfl
@[simp] theorem setPort_inkwell (p : Nat) (x : Port) : (s.setPort p x).inkwell = s.inkwell := rfl
@[simp] theorem setPort_otp (p : Nat) (x : Port) : (s.setPort p x).otp = s.otp := rfl
@[simp] theorem setPort_csn (p : Nat) (x : Port) : (s.setPort p x).csn = s.csn := rfl
@[simp] theorem setPort_tim (p : Nat) (x : Port) : (s.setPort p x).tim = s.tim := rfl
@[simp] theorem setPort_scribes (p : Nat) (x : Port) : (s.setPort p x).scribes = s.scribes := rfl
@[simp] theorem setPort_pairs (p : Nat) (x : Port) : (s.setPort p x).pairs = s.pairs := rfl
@[simp] theorem setPort_subs (p : Nat) (x : Port) : (s.setPort p x).subs = s.subs := rfl
@[simp] theorem setPort_ferrules (p : Nat) (x : Port) : (s.setPort p x).ferrules = s.ferrules := rfl
@[simp] theorem setPort_ferDoms (p : Nat) (x : Port) : (s.setPort p x).ferDoms = s.ferDoms := rfl
@[simp] theorem setPort_nibs (p : Nat) (x : Port) : (s.setPort p x).nibs = s.nibs := rfl
@[simp] theorem setPort_rul (p : Nat) (x : Port) : (s.setPort p x).rul = s.rul := rfl
@[simp] theorem setPort_pubs (p : Nat) (x : Port) : (s.setPort p x).pubs = s.pubs := rfl
@[simp] theorem setPort_trips (p : Nat) (x : Port) : (s.setPort p x).trips = s.trips := rfl
@[simp] theorem setPort_blot (p : Nat) (x : Port) : (s.setPort p x).blot = s.blot := rfl
@[simp] theorem setPort_mem (p : Nat) (x : Port) : (s.setPort p x).mem = s.mem := rfl
@[simp] theorem setPort_icu (p : Nat) (x : Port) : (s.setPort p x).icu = s.icu := rfl
@[simp] theorem setPort_mcu (p : Nat) (x : Port) : (s.setPort p x).mcu = s.mcu := rfl
@[simp] theorem setPort_dma (p : Nat) (x : Port) : (s.setPort p x).dma = s.dma := rfl
@[simp] theorem setPort_dmaLast (p : Nat) (x : Port) : (s.setPort p x).dmaLast = s.dmaLast := rfl
@[simp] theorem setPort_qps (p : Nat) (x : Port) : (s.setPort p x).qps = s.qps := rfl
@[simp] theorem setPort_qpTurn (p : Nat) (x : Port) : (s.setPort p x).qpTurn = s.qpTurn := rfl
@[simp] theorem setPort_tens (p : Nat) (x : Port) : (s.setPort p x).tens = s.tens := rfl
@[simp] theorem setPort_pwr (p : Nat) (x : Port) : (s.setPort p x).pwr = s.pwr := rfl
@[simp] theorem setPort_bst (p : Nat) (x : Port) : (s.setPort p x).bst = s.bst := rfl
@[simp] theorem setPort_pcie (p : Nat) (x : Port) : (s.setPort p x).pcie = s.pcie := rfl
@[simp] theorem setPort_dbg (p : Nat) (x : Port) : (s.setPort p x).dbg = s.dbg := rfl
@[simp] theorem setPort_dpx (p : Nat) (x : Port) : (s.setPort p x).dpx = s.dpx := rfl

/-! ### setSub: changes subs -/

@[simp] theorem setSub_pending (i : Nat) (x : Sub) : (s.setSub i x).pending = s.pending := rfl
@[simp] theorem setSub_now (i : Nat) (x : Sub) : (s.setSub i x).now = s.now := rfl
@[simp] theorem setSub_phase (i : Nat) (x : Sub) : (s.setSub i x).phase = s.phase := rfl
@[simp] theorem setSub_freeCtr (i : Nat) (x : Sub) : (s.setSub i x).freeCtr = s.freeCtr := rfl
@[simp] theorem setSub_regs (i : Nat) (x : Sub) : (s.setSub i x).regs = s.regs := rfl
@[simp] theorem setSub_gens (i : Nat) (x : Sub) : (s.setSub i x).gens = s.gens := rfl
@[simp] theorem setSub_stalled (i : Nat) (x : Sub) : (s.setSub i x).stalled = s.stalled := rfl
@[simp] theorem setSub_inkwell (i : Nat) (x : Sub) : (s.setSub i x).inkwell = s.inkwell := rfl
@[simp] theorem setSub_otp (i : Nat) (x : Sub) : (s.setSub i x).otp = s.otp := rfl
@[simp] theorem setSub_csn (i : Nat) (x : Sub) : (s.setSub i x).csn = s.csn := rfl
@[simp] theorem setSub_tim (i : Nat) (x : Sub) : (s.setSub i x).tim = s.tim := rfl
@[simp] theorem setSub_scribes (i : Nat) (x : Sub) : (s.setSub i x).scribes = s.scribes := rfl
@[simp] theorem setSub_ports (i : Nat) (x : Sub) : (s.setSub i x).ports = s.ports := rfl
@[simp] theorem setSub_pairs (i : Nat) (x : Sub) : (s.setSub i x).pairs = s.pairs := rfl
@[simp] theorem setSub_ferrules (i : Nat) (x : Sub) : (s.setSub i x).ferrules = s.ferrules := rfl
@[simp] theorem setSub_ferDoms (i : Nat) (x : Sub) : (s.setSub i x).ferDoms = s.ferDoms := rfl
@[simp] theorem setSub_nibs (i : Nat) (x : Sub) : (s.setSub i x).nibs = s.nibs := rfl
@[simp] theorem setSub_rul (i : Nat) (x : Sub) : (s.setSub i x).rul = s.rul := rfl
@[simp] theorem setSub_pubs (i : Nat) (x : Sub) : (s.setSub i x).pubs = s.pubs := rfl
@[simp] theorem setSub_trips (i : Nat) (x : Sub) : (s.setSub i x).trips = s.trips := rfl
@[simp] theorem setSub_blot (i : Nat) (x : Sub) : (s.setSub i x).blot = s.blot := rfl
@[simp] theorem setSub_mem (i : Nat) (x : Sub) : (s.setSub i x).mem = s.mem := rfl
@[simp] theorem setSub_icu (i : Nat) (x : Sub) : (s.setSub i x).icu = s.icu := rfl
@[simp] theorem setSub_mcu (i : Nat) (x : Sub) : (s.setSub i x).mcu = s.mcu := rfl
@[simp] theorem setSub_dma (i : Nat) (x : Sub) : (s.setSub i x).dma = s.dma := rfl
@[simp] theorem setSub_dmaLast (i : Nat) (x : Sub) : (s.setSub i x).dmaLast = s.dmaLast := rfl
@[simp] theorem setSub_qps (i : Nat) (x : Sub) : (s.setSub i x).qps = s.qps := rfl
@[simp] theorem setSub_qpTurn (i : Nat) (x : Sub) : (s.setSub i x).qpTurn = s.qpTurn := rfl
@[simp] theorem setSub_tens (i : Nat) (x : Sub) : (s.setSub i x).tens = s.tens := rfl
@[simp] theorem setSub_pwr (i : Nat) (x : Sub) : (s.setSub i x).pwr = s.pwr := rfl
@[simp] theorem setSub_bst (i : Nat) (x : Sub) : (s.setSub i x).bst = s.bst := rfl
@[simp] theorem setSub_pcie (i : Nat) (x : Sub) : (s.setSub i x).pcie = s.pcie := rfl
@[simp] theorem setSub_dbg (i : Nat) (x : Sub) : (s.setSub i x).dbg = s.dbg := rfl
@[simp] theorem setSub_dpx (i : Nat) (x : Sub) : (s.setSub i x).dpx = s.dpx := rfl

/-! ### setPub: changes pubs -/

@[simp] theorem setPub_pending (p : Nat) (x : Pub) : (s.setPub p x).pending = s.pending := rfl
@[simp] theorem setPub_now (p : Nat) (x : Pub) : (s.setPub p x).now = s.now := rfl
@[simp] theorem setPub_phase (p : Nat) (x : Pub) : (s.setPub p x).phase = s.phase := rfl
@[simp] theorem setPub_freeCtr (p : Nat) (x : Pub) : (s.setPub p x).freeCtr = s.freeCtr := rfl
@[simp] theorem setPub_regs (p : Nat) (x : Pub) : (s.setPub p x).regs = s.regs := rfl
@[simp] theorem setPub_gens (p : Nat) (x : Pub) : (s.setPub p x).gens = s.gens := rfl
@[simp] theorem setPub_stalled (p : Nat) (x : Pub) : (s.setPub p x).stalled = s.stalled := rfl
@[simp] theorem setPub_inkwell (p : Nat) (x : Pub) : (s.setPub p x).inkwell = s.inkwell := rfl
@[simp] theorem setPub_otp (p : Nat) (x : Pub) : (s.setPub p x).otp = s.otp := rfl
@[simp] theorem setPub_csn (p : Nat) (x : Pub) : (s.setPub p x).csn = s.csn := rfl
@[simp] theorem setPub_tim (p : Nat) (x : Pub) : (s.setPub p x).tim = s.tim := rfl
@[simp] theorem setPub_scribes (p : Nat) (x : Pub) : (s.setPub p x).scribes = s.scribes := rfl
@[simp] theorem setPub_ports (p : Nat) (x : Pub) : (s.setPub p x).ports = s.ports := rfl
@[simp] theorem setPub_pairs (p : Nat) (x : Pub) : (s.setPub p x).pairs = s.pairs := rfl
@[simp] theorem setPub_subs (p : Nat) (x : Pub) : (s.setPub p x).subs = s.subs := rfl
@[simp] theorem setPub_ferrules (p : Nat) (x : Pub) : (s.setPub p x).ferrules = s.ferrules := rfl
@[simp] theorem setPub_ferDoms (p : Nat) (x : Pub) : (s.setPub p x).ferDoms = s.ferDoms := rfl
@[simp] theorem setPub_nibs (p : Nat) (x : Pub) : (s.setPub p x).nibs = s.nibs := rfl
@[simp] theorem setPub_rul (p : Nat) (x : Pub) : (s.setPub p x).rul = s.rul := rfl
@[simp] theorem setPub_trips (p : Nat) (x : Pub) : (s.setPub p x).trips = s.trips := rfl
@[simp] theorem setPub_blot (p : Nat) (x : Pub) : (s.setPub p x).blot = s.blot := rfl
@[simp] theorem setPub_mem (p : Nat) (x : Pub) : (s.setPub p x).mem = s.mem := rfl
@[simp] theorem setPub_icu (p : Nat) (x : Pub) : (s.setPub p x).icu = s.icu := rfl
@[simp] theorem setPub_mcu (p : Nat) (x : Pub) : (s.setPub p x).mcu = s.mcu := rfl
@[simp] theorem setPub_dma (p : Nat) (x : Pub) : (s.setPub p x).dma = s.dma := rfl
@[simp] theorem setPub_dmaLast (p : Nat) (x : Pub) : (s.setPub p x).dmaLast = s.dmaLast := rfl
@[simp] theorem setPub_qps (p : Nat) (x : Pub) : (s.setPub p x).qps = s.qps := rfl
@[simp] theorem setPub_qpTurn (p : Nat) (x : Pub) : (s.setPub p x).qpTurn = s.qpTurn := rfl
@[simp] theorem setPub_tens (p : Nat) (x : Pub) : (s.setPub p x).tens = s.tens := rfl
@[simp] theorem setPub_pwr (p : Nat) (x : Pub) : (s.setPub p x).pwr = s.pwr := rfl
@[simp] theorem setPub_bst (p : Nat) (x : Pub) : (s.setPub p x).bst = s.bst := rfl
@[simp] theorem setPub_pcie (p : Nat) (x : Pub) : (s.setPub p x).pcie = s.pcie := rfl
@[simp] theorem setPub_dbg (p : Nat) (x : Pub) : (s.setPub p x).dbg = s.dbg := rfl
@[simp] theorem setPub_dpx (p : Nat) (x : Pub) : (s.setPub p x).dpx = s.dpx := rfl

/-! ### setTrip: changes trips -/

@[simp] theorem setTrip_pending (f : Nat) (x : Trip) : (s.setTrip f x).pending = s.pending := rfl
@[simp] theorem setTrip_now (f : Nat) (x : Trip) : (s.setTrip f x).now = s.now := rfl
@[simp] theorem setTrip_phase (f : Nat) (x : Trip) : (s.setTrip f x).phase = s.phase := rfl
@[simp] theorem setTrip_freeCtr (f : Nat) (x : Trip) : (s.setTrip f x).freeCtr = s.freeCtr := rfl
@[simp] theorem setTrip_regs (f : Nat) (x : Trip) : (s.setTrip f x).regs = s.regs := rfl
@[simp] theorem setTrip_gens (f : Nat) (x : Trip) : (s.setTrip f x).gens = s.gens := rfl
@[simp] theorem setTrip_stalled (f : Nat) (x : Trip) : (s.setTrip f x).stalled = s.stalled := rfl
@[simp] theorem setTrip_inkwell (f : Nat) (x : Trip) : (s.setTrip f x).inkwell = s.inkwell := rfl
@[simp] theorem setTrip_otp (f : Nat) (x : Trip) : (s.setTrip f x).otp = s.otp := rfl
@[simp] theorem setTrip_csn (f : Nat) (x : Trip) : (s.setTrip f x).csn = s.csn := rfl
@[simp] theorem setTrip_tim (f : Nat) (x : Trip) : (s.setTrip f x).tim = s.tim := rfl
@[simp] theorem setTrip_scribes (f : Nat) (x : Trip) : (s.setTrip f x).scribes = s.scribes := rfl
@[simp] theorem setTrip_ports (f : Nat) (x : Trip) : (s.setTrip f x).ports = s.ports := rfl
@[simp] theorem setTrip_pairs (f : Nat) (x : Trip) : (s.setTrip f x).pairs = s.pairs := rfl
@[simp] theorem setTrip_subs (f : Nat) (x : Trip) : (s.setTrip f x).subs = s.subs := rfl
@[simp] theorem setTrip_ferrules (f : Nat) (x : Trip) : (s.setTrip f x).ferrules = s.ferrules := rfl
@[simp] theorem setTrip_ferDoms (f : Nat) (x : Trip) : (s.setTrip f x).ferDoms = s.ferDoms := rfl
@[simp] theorem setTrip_nibs (f : Nat) (x : Trip) : (s.setTrip f x).nibs = s.nibs := rfl
@[simp] theorem setTrip_rul (f : Nat) (x : Trip) : (s.setTrip f x).rul = s.rul := rfl
@[simp] theorem setTrip_pubs (f : Nat) (x : Trip) : (s.setTrip f x).pubs = s.pubs := rfl
@[simp] theorem setTrip_blot (f : Nat) (x : Trip) : (s.setTrip f x).blot = s.blot := rfl
@[simp] theorem setTrip_mem (f : Nat) (x : Trip) : (s.setTrip f x).mem = s.mem := rfl
@[simp] theorem setTrip_icu (f : Nat) (x : Trip) : (s.setTrip f x).icu = s.icu := rfl
@[simp] theorem setTrip_mcu (f : Nat) (x : Trip) : (s.setTrip f x).mcu = s.mcu := rfl
@[simp] theorem setTrip_dma (f : Nat) (x : Trip) : (s.setTrip f x).dma = s.dma := rfl
@[simp] theorem setTrip_dmaLast (f : Nat) (x : Trip) : (s.setTrip f x).dmaLast = s.dmaLast := rfl
@[simp] theorem setTrip_qps (f : Nat) (x : Trip) : (s.setTrip f x).qps = s.qps := rfl
@[simp] theorem setTrip_qpTurn (f : Nat) (x : Trip) : (s.setTrip f x).qpTurn = s.qpTurn := rfl
@[simp] theorem setTrip_tens (f : Nat) (x : Trip) : (s.setTrip f x).tens = s.tens := rfl
@[simp] theorem setTrip_pwr (f : Nat) (x : Trip) : (s.setTrip f x).pwr = s.pwr := rfl
@[simp] theorem setTrip_bst (f : Nat) (x : Trip) : (s.setTrip f x).bst = s.bst := rfl
@[simp] theorem setTrip_pcie (f : Nat) (x : Trip) : (s.setTrip f x).pcie = s.pcie := rfl
@[simp] theorem setTrip_dbg (f : Nat) (x : Trip) : (s.setTrip f x).dbg = s.dbg := rfl
@[simp] theorem setTrip_dpx (f : Nat) (x : Trip) : (s.setTrip f x).dpx = s.dpx := rfl

/-! ### setFerrule: changes ferrules -/

@[simp] theorem setFerrule_pending (f : Nat) (x : Ferrule) : (s.setFerrule f x).pending = s.pending := rfl
@[simp] theorem setFerrule_now (f : Nat) (x : Ferrule) : (s.setFerrule f x).now = s.now := rfl
@[simp] theorem setFerrule_phase (f : Nat) (x : Ferrule) : (s.setFerrule f x).phase = s.phase := rfl
@[simp] theorem setFerrule_freeCtr (f : Nat) (x : Ferrule) : (s.setFerrule f x).freeCtr = s.freeCtr := rfl
@[simp] theorem setFerrule_regs (f : Nat) (x : Ferrule) : (s.setFerrule f x).regs = s.regs := rfl
@[simp] theorem setFerrule_gens (f : Nat) (x : Ferrule) : (s.setFerrule f x).gens = s.gens := rfl
@[simp] theorem setFerrule_stalled (f : Nat) (x : Ferrule) : (s.setFerrule f x).stalled = s.stalled := rfl
@[simp] theorem setFerrule_inkwell (f : Nat) (x : Ferrule) : (s.setFerrule f x).inkwell = s.inkwell := rfl
@[simp] theorem setFerrule_otp (f : Nat) (x : Ferrule) : (s.setFerrule f x).otp = s.otp := rfl
@[simp] theorem setFerrule_csn (f : Nat) (x : Ferrule) : (s.setFerrule f x).csn = s.csn := rfl
@[simp] theorem setFerrule_tim (f : Nat) (x : Ferrule) : (s.setFerrule f x).tim = s.tim := rfl
@[simp] theorem setFerrule_scribes (f : Nat) (x : Ferrule) : (s.setFerrule f x).scribes = s.scribes := rfl
@[simp] theorem setFerrule_ports (f : Nat) (x : Ferrule) : (s.setFerrule f x).ports = s.ports := rfl
@[simp] theorem setFerrule_pairs (f : Nat) (x : Ferrule) : (s.setFerrule f x).pairs = s.pairs := rfl
@[simp] theorem setFerrule_subs (f : Nat) (x : Ferrule) : (s.setFerrule f x).subs = s.subs := rfl
@[simp] theorem setFerrule_ferDoms (f : Nat) (x : Ferrule) : (s.setFerrule f x).ferDoms = s.ferDoms := rfl
@[simp] theorem setFerrule_nibs (f : Nat) (x : Ferrule) : (s.setFerrule f x).nibs = s.nibs := rfl
@[simp] theorem setFerrule_rul (f : Nat) (x : Ferrule) : (s.setFerrule f x).rul = s.rul := rfl
@[simp] theorem setFerrule_pubs (f : Nat) (x : Ferrule) : (s.setFerrule f x).pubs = s.pubs := rfl
@[simp] theorem setFerrule_trips (f : Nat) (x : Ferrule) : (s.setFerrule f x).trips = s.trips := rfl
@[simp] theorem setFerrule_blot (f : Nat) (x : Ferrule) : (s.setFerrule f x).blot = s.blot := rfl
@[simp] theorem setFerrule_mem (f : Nat) (x : Ferrule) : (s.setFerrule f x).mem = s.mem := rfl
@[simp] theorem setFerrule_icu (f : Nat) (x : Ferrule) : (s.setFerrule f x).icu = s.icu := rfl
@[simp] theorem setFerrule_mcu (f : Nat) (x : Ferrule) : (s.setFerrule f x).mcu = s.mcu := rfl
@[simp] theorem setFerrule_dma (f : Nat) (x : Ferrule) : (s.setFerrule f x).dma = s.dma := rfl
@[simp] theorem setFerrule_dmaLast (f : Nat) (x : Ferrule) : (s.setFerrule f x).dmaLast = s.dmaLast := rfl
@[simp] theorem setFerrule_qps (f : Nat) (x : Ferrule) : (s.setFerrule f x).qps = s.qps := rfl
@[simp] theorem setFerrule_qpTurn (f : Nat) (x : Ferrule) : (s.setFerrule f x).qpTurn = s.qpTurn := rfl
@[simp] theorem setFerrule_tens (f : Nat) (x : Ferrule) : (s.setFerrule f x).tens = s.tens := rfl
@[simp] theorem setFerrule_pwr (f : Nat) (x : Ferrule) : (s.setFerrule f x).pwr = s.pwr := rfl
@[simp] theorem setFerrule_bst (f : Nat) (x : Ferrule) : (s.setFerrule f x).bst = s.bst := rfl
@[simp] theorem setFerrule_pcie (f : Nat) (x : Ferrule) : (s.setFerrule f x).pcie = s.pcie := rfl
@[simp] theorem setFerrule_dbg (f : Nat) (x : Ferrule) : (s.setFerrule f x).dbg = s.dbg := rfl
@[simp] theorem setFerrule_dpx (f : Nat) (x : Ferrule) : (s.setFerrule f x).dpx = s.dpx := rfl

/-! ### setFerDom: changes ferDoms -/

@[simp] theorem setFerDom_pending (f d : Nat) (x : FerDom) : (s.setFerDom f d x).pending = s.pending := rfl
@[simp] theorem setFerDom_now (f d : Nat) (x : FerDom) : (s.setFerDom f d x).now = s.now := rfl
@[simp] theorem setFerDom_phase (f d : Nat) (x : FerDom) : (s.setFerDom f d x).phase = s.phase := rfl
@[simp] theorem setFerDom_freeCtr (f d : Nat) (x : FerDom) : (s.setFerDom f d x).freeCtr = s.freeCtr := rfl
@[simp] theorem setFerDom_regs (f d : Nat) (x : FerDom) : (s.setFerDom f d x).regs = s.regs := rfl
@[simp] theorem setFerDom_gens (f d : Nat) (x : FerDom) : (s.setFerDom f d x).gens = s.gens := rfl
@[simp] theorem setFerDom_stalled (f d : Nat) (x : FerDom) : (s.setFerDom f d x).stalled = s.stalled := rfl
@[simp] theorem setFerDom_inkwell (f d : Nat) (x : FerDom) : (s.setFerDom f d x).inkwell = s.inkwell := rfl
@[simp] theorem setFerDom_otp (f d : Nat) (x : FerDom) : (s.setFerDom f d x).otp = s.otp := rfl
@[simp] theorem setFerDom_csn (f d : Nat) (x : FerDom) : (s.setFerDom f d x).csn = s.csn := rfl
@[simp] theorem setFerDom_tim (f d : Nat) (x : FerDom) : (s.setFerDom f d x).tim = s.tim := rfl
@[simp] theorem setFerDom_scribes (f d : Nat) (x : FerDom) : (s.setFerDom f d x).scribes = s.scribes := rfl
@[simp] theorem setFerDom_ports (f d : Nat) (x : FerDom) : (s.setFerDom f d x).ports = s.ports := rfl
@[simp] theorem setFerDom_pairs (f d : Nat) (x : FerDom) : (s.setFerDom f d x).pairs = s.pairs := rfl
@[simp] theorem setFerDom_subs (f d : Nat) (x : FerDom) : (s.setFerDom f d x).subs = s.subs := rfl
@[simp] theorem setFerDom_ferrules (f d : Nat) (x : FerDom) : (s.setFerDom f d x).ferrules = s.ferrules := rfl
@[simp] theorem setFerDom_nibs (f d : Nat) (x : FerDom) : (s.setFerDom f d x).nibs = s.nibs := rfl
@[simp] theorem setFerDom_rul (f d : Nat) (x : FerDom) : (s.setFerDom f d x).rul = s.rul := rfl
@[simp] theorem setFerDom_pubs (f d : Nat) (x : FerDom) : (s.setFerDom f d x).pubs = s.pubs := rfl
@[simp] theorem setFerDom_trips (f d : Nat) (x : FerDom) : (s.setFerDom f d x).trips = s.trips := rfl
@[simp] theorem setFerDom_blot (f d : Nat) (x : FerDom) : (s.setFerDom f d x).blot = s.blot := rfl
@[simp] theorem setFerDom_mem (f d : Nat) (x : FerDom) : (s.setFerDom f d x).mem = s.mem := rfl
@[simp] theorem setFerDom_icu (f d : Nat) (x : FerDom) : (s.setFerDom f d x).icu = s.icu := rfl
@[simp] theorem setFerDom_mcu (f d : Nat) (x : FerDom) : (s.setFerDom f d x).mcu = s.mcu := rfl
@[simp] theorem setFerDom_dma (f d : Nat) (x : FerDom) : (s.setFerDom f d x).dma = s.dma := rfl
@[simp] theorem setFerDom_dmaLast (f d : Nat) (x : FerDom) : (s.setFerDom f d x).dmaLast = s.dmaLast := rfl
@[simp] theorem setFerDom_qps (f d : Nat) (x : FerDom) : (s.setFerDom f d x).qps = s.qps := rfl
@[simp] theorem setFerDom_qpTurn (f d : Nat) (x : FerDom) : (s.setFerDom f d x).qpTurn = s.qpTurn := rfl
@[simp] theorem setFerDom_tens (f d : Nat) (x : FerDom) : (s.setFerDom f d x).tens = s.tens := rfl
@[simp] theorem setFerDom_pwr (f d : Nat) (x : FerDom) : (s.setFerDom f d x).pwr = s.pwr := rfl
@[simp] theorem setFerDom_bst (f d : Nat) (x : FerDom) : (s.setFerDom f d x).bst = s.bst := rfl
@[simp] theorem setFerDom_pcie (f d : Nat) (x : FerDom) : (s.setFerDom f d x).pcie = s.pcie := rfl
@[simp] theorem setFerDom_dbg (f d : Nat) (x : FerDom) : (s.setFerDom f d x).dbg = s.dbg := rfl
@[simp] theorem setFerDom_dpx (f d : Nat) (x : FerDom) : (s.setFerDom f d x).dpx = s.dpx := rfl

/-! ### setFn: changes rul -/

@[simp] theorem setFn_pending (i : Nat) (x : Fn) : (s.setFn i x).pending = s.pending := rfl
@[simp] theorem setFn_now (i : Nat) (x : Fn) : (s.setFn i x).now = s.now := rfl
@[simp] theorem setFn_phase (i : Nat) (x : Fn) : (s.setFn i x).phase = s.phase := rfl
@[simp] theorem setFn_freeCtr (i : Nat) (x : Fn) : (s.setFn i x).freeCtr = s.freeCtr := rfl
@[simp] theorem setFn_regs (i : Nat) (x : Fn) : (s.setFn i x).regs = s.regs := rfl
@[simp] theorem setFn_gens (i : Nat) (x : Fn) : (s.setFn i x).gens = s.gens := rfl
@[simp] theorem setFn_stalled (i : Nat) (x : Fn) : (s.setFn i x).stalled = s.stalled := rfl
@[simp] theorem setFn_inkwell (i : Nat) (x : Fn) : (s.setFn i x).inkwell = s.inkwell := rfl
@[simp] theorem setFn_otp (i : Nat) (x : Fn) : (s.setFn i x).otp = s.otp := rfl
@[simp] theorem setFn_csn (i : Nat) (x : Fn) : (s.setFn i x).csn = s.csn := rfl
@[simp] theorem setFn_tim (i : Nat) (x : Fn) : (s.setFn i x).tim = s.tim := rfl
@[simp] theorem setFn_scribes (i : Nat) (x : Fn) : (s.setFn i x).scribes = s.scribes := rfl
@[simp] theorem setFn_ports (i : Nat) (x : Fn) : (s.setFn i x).ports = s.ports := rfl
@[simp] theorem setFn_pairs (i : Nat) (x : Fn) : (s.setFn i x).pairs = s.pairs := rfl
@[simp] theorem setFn_subs (i : Nat) (x : Fn) : (s.setFn i x).subs = s.subs := rfl
@[simp] theorem setFn_ferrules (i : Nat) (x : Fn) : (s.setFn i x).ferrules = s.ferrules := rfl
@[simp] theorem setFn_ferDoms (i : Nat) (x : Fn) : (s.setFn i x).ferDoms = s.ferDoms := rfl
@[simp] theorem setFn_nibs (i : Nat) (x : Fn) : (s.setFn i x).nibs = s.nibs := rfl
@[simp] theorem setFn_pubs (i : Nat) (x : Fn) : (s.setFn i x).pubs = s.pubs := rfl
@[simp] theorem setFn_trips (i : Nat) (x : Fn) : (s.setFn i x).trips = s.trips := rfl
@[simp] theorem setFn_blot (i : Nat) (x : Fn) : (s.setFn i x).blot = s.blot := rfl
@[simp] theorem setFn_mem (i : Nat) (x : Fn) : (s.setFn i x).mem = s.mem := rfl
@[simp] theorem setFn_icu (i : Nat) (x : Fn) : (s.setFn i x).icu = s.icu := rfl
@[simp] theorem setFn_mcu (i : Nat) (x : Fn) : (s.setFn i x).mcu = s.mcu := rfl
@[simp] theorem setFn_dma (i : Nat) (x : Fn) : (s.setFn i x).dma = s.dma := rfl
@[simp] theorem setFn_dmaLast (i : Nat) (x : Fn) : (s.setFn i x).dmaLast = s.dmaLast := rfl
@[simp] theorem setFn_qps (i : Nat) (x : Fn) : (s.setFn i x).qps = s.qps := rfl
@[simp] theorem setFn_qpTurn (i : Nat) (x : Fn) : (s.setFn i x).qpTurn = s.qpTurn := rfl
@[simp] theorem setFn_tens (i : Nat) (x : Fn) : (s.setFn i x).tens = s.tens := rfl
@[simp] theorem setFn_pwr (i : Nat) (x : Fn) : (s.setFn i x).pwr = s.pwr := rfl
@[simp] theorem setFn_bst (i : Nat) (x : Fn) : (s.setFn i x).bst = s.bst := rfl
@[simp] theorem setFn_pcie (i : Nat) (x : Fn) : (s.setFn i x).pcie = s.pcie := rfl
@[simp] theorem setFn_dbg (i : Nat) (x : Fn) : (s.setFn i x).dbg = s.dbg := rfl
@[simp] theorem setFn_dpx (i : Nat) (x : Fn) : (s.setFn i x).dpx = s.dpx := rfl

/-! ### setSrc: changes tim -/

@[simp] theorem setSrc_pending (c : Nat) (x : TimeSrc) : (s.setSrc c x).pending = s.pending := rfl
@[simp] theorem setSrc_now (c : Nat) (x : TimeSrc) : (s.setSrc c x).now = s.now := rfl
@[simp] theorem setSrc_phase (c : Nat) (x : TimeSrc) : (s.setSrc c x).phase = s.phase := rfl
@[simp] theorem setSrc_freeCtr (c : Nat) (x : TimeSrc) : (s.setSrc c x).freeCtr = s.freeCtr := rfl
@[simp] theorem setSrc_regs (c : Nat) (x : TimeSrc) : (s.setSrc c x).regs = s.regs := rfl
@[simp] theorem setSrc_gens (c : Nat) (x : TimeSrc) : (s.setSrc c x).gens = s.gens := rfl
@[simp] theorem setSrc_stalled (c : Nat) (x : TimeSrc) : (s.setSrc c x).stalled = s.stalled := rfl
@[simp] theorem setSrc_inkwell (c : Nat) (x : TimeSrc) : (s.setSrc c x).inkwell = s.inkwell := rfl
@[simp] theorem setSrc_otp (c : Nat) (x : TimeSrc) : (s.setSrc c x).otp = s.otp := rfl
@[simp] theorem setSrc_csn (c : Nat) (x : TimeSrc) : (s.setSrc c x).csn = s.csn := rfl
@[simp] theorem setSrc_scribes (c : Nat) (x : TimeSrc) : (s.setSrc c x).scribes = s.scribes := rfl
@[simp] theorem setSrc_ports (c : Nat) (x : TimeSrc) : (s.setSrc c x).ports = s.ports := rfl
@[simp] theorem setSrc_pairs (c : Nat) (x : TimeSrc) : (s.setSrc c x).pairs = s.pairs := rfl
@[simp] theorem setSrc_subs (c : Nat) (x : TimeSrc) : (s.setSrc c x).subs = s.subs := rfl
@[simp] theorem setSrc_ferrules (c : Nat) (x : TimeSrc) : (s.setSrc c x).ferrules = s.ferrules := rfl
@[simp] theorem setSrc_ferDoms (c : Nat) (x : TimeSrc) : (s.setSrc c x).ferDoms = s.ferDoms := rfl
@[simp] theorem setSrc_nibs (c : Nat) (x : TimeSrc) : (s.setSrc c x).nibs = s.nibs := rfl
@[simp] theorem setSrc_rul (c : Nat) (x : TimeSrc) : (s.setSrc c x).rul = s.rul := rfl
@[simp] theorem setSrc_pubs (c : Nat) (x : TimeSrc) : (s.setSrc c x).pubs = s.pubs := rfl
@[simp] theorem setSrc_trips (c : Nat) (x : TimeSrc) : (s.setSrc c x).trips = s.trips := rfl
@[simp] theorem setSrc_blot (c : Nat) (x : TimeSrc) : (s.setSrc c x).blot = s.blot := rfl
@[simp] theorem setSrc_mem (c : Nat) (x : TimeSrc) : (s.setSrc c x).mem = s.mem := rfl
@[simp] theorem setSrc_icu (c : Nat) (x : TimeSrc) : (s.setSrc c x).icu = s.icu := rfl
@[simp] theorem setSrc_mcu (c : Nat) (x : TimeSrc) : (s.setSrc c x).mcu = s.mcu := rfl
@[simp] theorem setSrc_dma (c : Nat) (x : TimeSrc) : (s.setSrc c x).dma = s.dma := rfl
@[simp] theorem setSrc_dmaLast (c : Nat) (x : TimeSrc) : (s.setSrc c x).dmaLast = s.dmaLast := rfl
@[simp] theorem setSrc_qps (c : Nat) (x : TimeSrc) : (s.setSrc c x).qps = s.qps := rfl
@[simp] theorem setSrc_qpTurn (c : Nat) (x : TimeSrc) : (s.setSrc c x).qpTurn = s.qpTurn := rfl
@[simp] theorem setSrc_tens (c : Nat) (x : TimeSrc) : (s.setSrc c x).tens = s.tens := rfl
@[simp] theorem setSrc_pwr (c : Nat) (x : TimeSrc) : (s.setSrc c x).pwr = s.pwr := rfl
@[simp] theorem setSrc_bst (c : Nat) (x : TimeSrc) : (s.setSrc c x).bst = s.bst := rfl
@[simp] theorem setSrc_pcie (c : Nat) (x : TimeSrc) : (s.setSrc c x).pcie = s.pcie := rfl
@[simp] theorem setSrc_dbg (c : Nat) (x : TimeSrc) : (s.setSrc c x).dbg = s.dbg := rfl
@[simp] theorem setSrc_dpx (c : Nat) (x : TimeSrc) : (s.setSrc c x).dpx = s.dpx := rfl

/-! ### setDmc: changes mem -/

@[simp] theorem setDmc_pending (c : Nat) (x : Dmc) : (s.setDmc c x).pending = s.pending := rfl
@[simp] theorem setDmc_now (c : Nat) (x : Dmc) : (s.setDmc c x).now = s.now := rfl
@[simp] theorem setDmc_phase (c : Nat) (x : Dmc) : (s.setDmc c x).phase = s.phase := rfl
@[simp] theorem setDmc_freeCtr (c : Nat) (x : Dmc) : (s.setDmc c x).freeCtr = s.freeCtr := rfl
@[simp] theorem setDmc_regs (c : Nat) (x : Dmc) : (s.setDmc c x).regs = s.regs := rfl
@[simp] theorem setDmc_gens (c : Nat) (x : Dmc) : (s.setDmc c x).gens = s.gens := rfl
@[simp] theorem setDmc_stalled (c : Nat) (x : Dmc) : (s.setDmc c x).stalled = s.stalled := rfl
@[simp] theorem setDmc_inkwell (c : Nat) (x : Dmc) : (s.setDmc c x).inkwell = s.inkwell := rfl
@[simp] theorem setDmc_otp (c : Nat) (x : Dmc) : (s.setDmc c x).otp = s.otp := rfl
@[simp] theorem setDmc_csn (c : Nat) (x : Dmc) : (s.setDmc c x).csn = s.csn := rfl
@[simp] theorem setDmc_tim (c : Nat) (x : Dmc) : (s.setDmc c x).tim = s.tim := rfl
@[simp] theorem setDmc_scribes (c : Nat) (x : Dmc) : (s.setDmc c x).scribes = s.scribes := rfl
@[simp] theorem setDmc_ports (c : Nat) (x : Dmc) : (s.setDmc c x).ports = s.ports := rfl
@[simp] theorem setDmc_pairs (c : Nat) (x : Dmc) : (s.setDmc c x).pairs = s.pairs := rfl
@[simp] theorem setDmc_subs (c : Nat) (x : Dmc) : (s.setDmc c x).subs = s.subs := rfl
@[simp] theorem setDmc_ferrules (c : Nat) (x : Dmc) : (s.setDmc c x).ferrules = s.ferrules := rfl
@[simp] theorem setDmc_ferDoms (c : Nat) (x : Dmc) : (s.setDmc c x).ferDoms = s.ferDoms := rfl
@[simp] theorem setDmc_nibs (c : Nat) (x : Dmc) : (s.setDmc c x).nibs = s.nibs := rfl
@[simp] theorem setDmc_rul (c : Nat) (x : Dmc) : (s.setDmc c x).rul = s.rul := rfl
@[simp] theorem setDmc_pubs (c : Nat) (x : Dmc) : (s.setDmc c x).pubs = s.pubs := rfl
@[simp] theorem setDmc_trips (c : Nat) (x : Dmc) : (s.setDmc c x).trips = s.trips := rfl
@[simp] theorem setDmc_blot (c : Nat) (x : Dmc) : (s.setDmc c x).blot = s.blot := rfl
@[simp] theorem setDmc_icu (c : Nat) (x : Dmc) : (s.setDmc c x).icu = s.icu := rfl
@[simp] theorem setDmc_mcu (c : Nat) (x : Dmc) : (s.setDmc c x).mcu = s.mcu := rfl
@[simp] theorem setDmc_dma (c : Nat) (x : Dmc) : (s.setDmc c x).dma = s.dma := rfl
@[simp] theorem setDmc_dmaLast (c : Nat) (x : Dmc) : (s.setDmc c x).dmaLast = s.dmaLast := rfl
@[simp] theorem setDmc_qps (c : Nat) (x : Dmc) : (s.setDmc c x).qps = s.qps := rfl
@[simp] theorem setDmc_qpTurn (c : Nat) (x : Dmc) : (s.setDmc c x).qpTurn = s.qpTurn := rfl
@[simp] theorem setDmc_tens (c : Nat) (x : Dmc) : (s.setDmc c x).tens = s.tens := rfl
@[simp] theorem setDmc_pwr (c : Nat) (x : Dmc) : (s.setDmc c x).pwr = s.pwr := rfl
@[simp] theorem setDmc_bst (c : Nat) (x : Dmc) : (s.setDmc c x).bst = s.bst := rfl
@[simp] theorem setDmc_pcie (c : Nat) (x : Dmc) : (s.setDmc c x).pcie = s.pcie := rfl
@[simp] theorem setDmc_dbg (c : Nat) (x : Dmc) : (s.setDmc c x).dbg = s.dbg := rfl
@[simp] theorem setDmc_dpx (c : Nat) (x : Dmc) : (s.setDmc c x).dpx = s.dpx := rfl

/-! ### setDesk: changes mem -/

@[simp] theorem setDesk_pending (d : Nat) (x : Desk) : (s.setDesk d x).pending = s.pending := rfl
@[simp] theorem setDesk_now (d : Nat) (x : Desk) : (s.setDesk d x).now = s.now := rfl
@[simp] theorem setDesk_phase (d : Nat) (x : Desk) : (s.setDesk d x).phase = s.phase := rfl
@[simp] theorem setDesk_freeCtr (d : Nat) (x : Desk) : (s.setDesk d x).freeCtr = s.freeCtr := rfl
@[simp] theorem setDesk_regs (d : Nat) (x : Desk) : (s.setDesk d x).regs = s.regs := rfl
@[simp] theorem setDesk_gens (d : Nat) (x : Desk) : (s.setDesk d x).gens = s.gens := rfl
@[simp] theorem setDesk_stalled (d : Nat) (x : Desk) : (s.setDesk d x).stalled = s.stalled := rfl
@[simp] theorem setDesk_inkwell (d : Nat) (x : Desk) : (s.setDesk d x).inkwell = s.inkwell := rfl
@[simp] theorem setDesk_otp (d : Nat) (x : Desk) : (s.setDesk d x).otp = s.otp := rfl
@[simp] theorem setDesk_csn (d : Nat) (x : Desk) : (s.setDesk d x).csn = s.csn := rfl
@[simp] theorem setDesk_tim (d : Nat) (x : Desk) : (s.setDesk d x).tim = s.tim := rfl
@[simp] theorem setDesk_scribes (d : Nat) (x : Desk) : (s.setDesk d x).scribes = s.scribes := rfl
@[simp] theorem setDesk_ports (d : Nat) (x : Desk) : (s.setDesk d x).ports = s.ports := rfl
@[simp] theorem setDesk_pairs (d : Nat) (x : Desk) : (s.setDesk d x).pairs = s.pairs := rfl
@[simp] theorem setDesk_subs (d : Nat) (x : Desk) : (s.setDesk d x).subs = s.subs := rfl
@[simp] theorem setDesk_ferrules (d : Nat) (x : Desk) : (s.setDesk d x).ferrules = s.ferrules := rfl
@[simp] theorem setDesk_ferDoms (d : Nat) (x : Desk) : (s.setDesk d x).ferDoms = s.ferDoms := rfl
@[simp] theorem setDesk_nibs (d : Nat) (x : Desk) : (s.setDesk d x).nibs = s.nibs := rfl
@[simp] theorem setDesk_rul (d : Nat) (x : Desk) : (s.setDesk d x).rul = s.rul := rfl
@[simp] theorem setDesk_pubs (d : Nat) (x : Desk) : (s.setDesk d x).pubs = s.pubs := rfl
@[simp] theorem setDesk_trips (d : Nat) (x : Desk) : (s.setDesk d x).trips = s.trips := rfl
@[simp] theorem setDesk_blot (d : Nat) (x : Desk) : (s.setDesk d x).blot = s.blot := rfl
@[simp] theorem setDesk_icu (d : Nat) (x : Desk) : (s.setDesk d x).icu = s.icu := rfl
@[simp] theorem setDesk_mcu (d : Nat) (x : Desk) : (s.setDesk d x).mcu = s.mcu := rfl
@[simp] theorem setDesk_dma (d : Nat) (x : Desk) : (s.setDesk d x).dma = s.dma := rfl
@[simp] theorem setDesk_dmaLast (d : Nat) (x : Desk) : (s.setDesk d x).dmaLast = s.dmaLast := rfl
@[simp] theorem setDesk_qps (d : Nat) (x : Desk) : (s.setDesk d x).qps = s.qps := rfl
@[simp] theorem setDesk_qpTurn (d : Nat) (x : Desk) : (s.setDesk d x).qpTurn = s.qpTurn := rfl
@[simp] theorem setDesk_tens (d : Nat) (x : Desk) : (s.setDesk d x).tens = s.tens := rfl
@[simp] theorem setDesk_pwr (d : Nat) (x : Desk) : (s.setDesk d x).pwr = s.pwr := rfl
@[simp] theorem setDesk_bst (d : Nat) (x : Desk) : (s.setDesk d x).bst = s.bst := rfl
@[simp] theorem setDesk_pcie (d : Nat) (x : Desk) : (s.setDesk d x).pcie = s.pcie := rfl
@[simp] theorem setDesk_dbg (d : Nat) (x : Desk) : (s.setDesk d x).dbg = s.dbg := rfl
@[simp] theorem setDesk_dpx (d : Nat) (x : Desk) : (s.setDesk d x).dpx = s.dpx := rfl

/-! ### setTxs: changes mem -/

@[simp] theorem setTxs_pending (l : List Tx) : (s.setTxs l).pending = s.pending := rfl
@[simp] theorem setTxs_now (l : List Tx) : (s.setTxs l).now = s.now := rfl
@[simp] theorem setTxs_phase (l : List Tx) : (s.setTxs l).phase = s.phase := rfl
@[simp] theorem setTxs_freeCtr (l : List Tx) : (s.setTxs l).freeCtr = s.freeCtr := rfl
@[simp] theorem setTxs_regs (l : List Tx) : (s.setTxs l).regs = s.regs := rfl
@[simp] theorem setTxs_gens (l : List Tx) : (s.setTxs l).gens = s.gens := rfl
@[simp] theorem setTxs_stalled (l : List Tx) : (s.setTxs l).stalled = s.stalled := rfl
@[simp] theorem setTxs_inkwell (l : List Tx) : (s.setTxs l).inkwell = s.inkwell := rfl
@[simp] theorem setTxs_otp (l : List Tx) : (s.setTxs l).otp = s.otp := rfl
@[simp] theorem setTxs_csn (l : List Tx) : (s.setTxs l).csn = s.csn := rfl
@[simp] theorem setTxs_tim (l : List Tx) : (s.setTxs l).tim = s.tim := rfl
@[simp] theorem setTxs_scribes (l : List Tx) : (s.setTxs l).scribes = s.scribes := rfl
@[simp] theorem setTxs_ports (l : List Tx) : (s.setTxs l).ports = s.ports := rfl
@[simp] theorem setTxs_pairs (l : List Tx) : (s.setTxs l).pairs = s.pairs := rfl
@[simp] theorem setTxs_subs (l : List Tx) : (s.setTxs l).subs = s.subs := rfl
@[simp] theorem setTxs_ferrules (l : List Tx) : (s.setTxs l).ferrules = s.ferrules := rfl
@[simp] theorem setTxs_ferDoms (l : List Tx) : (s.setTxs l).ferDoms = s.ferDoms := rfl
@[simp] theorem setTxs_nibs (l : List Tx) : (s.setTxs l).nibs = s.nibs := rfl
@[simp] theorem setTxs_rul (l : List Tx) : (s.setTxs l).rul = s.rul := rfl
@[simp] theorem setTxs_pubs (l : List Tx) : (s.setTxs l).pubs = s.pubs := rfl
@[simp] theorem setTxs_trips (l : List Tx) : (s.setTxs l).trips = s.trips := rfl
@[simp] theorem setTxs_blot (l : List Tx) : (s.setTxs l).blot = s.blot := rfl
@[simp] theorem setTxs_icu (l : List Tx) : (s.setTxs l).icu = s.icu := rfl
@[simp] theorem setTxs_mcu (l : List Tx) : (s.setTxs l).mcu = s.mcu := rfl
@[simp] theorem setTxs_dma (l : List Tx) : (s.setTxs l).dma = s.dma := rfl
@[simp] theorem setTxs_dmaLast (l : List Tx) : (s.setTxs l).dmaLast = s.dmaLast := rfl
@[simp] theorem setTxs_qps (l : List Tx) : (s.setTxs l).qps = s.qps := rfl
@[simp] theorem setTxs_qpTurn (l : List Tx) : (s.setTxs l).qpTurn = s.qpTurn := rfl
@[simp] theorem setTxs_tens (l : List Tx) : (s.setTxs l).tens = s.tens := rfl
@[simp] theorem setTxs_pwr (l : List Tx) : (s.setTxs l).pwr = s.pwr := rfl
@[simp] theorem setTxs_bst (l : List Tx) : (s.setTxs l).bst = s.bst := rfl
@[simp] theorem setTxs_pcie (l : List Tx) : (s.setTxs l).pcie = s.pcie := rfl
@[simp] theorem setTxs_dbg (l : List Tx) : (s.setTxs l).dbg = s.dbg := rfl
@[simp] theorem setTxs_dpx (l : List Tx) : (s.setTxs l).dpx = s.dpx := rfl

/-! ### setWbs: changes mem -/

@[simp] theorem setWbs_pending (l : List Wb) : (s.setWbs l).pending = s.pending := rfl
@[simp] theorem setWbs_now (l : List Wb) : (s.setWbs l).now = s.now := rfl
@[simp] theorem setWbs_phase (l : List Wb) : (s.setWbs l).phase = s.phase := rfl
@[simp] theorem setWbs_freeCtr (l : List Wb) : (s.setWbs l).freeCtr = s.freeCtr := rfl
@[simp] theorem setWbs_regs (l : List Wb) : (s.setWbs l).regs = s.regs := rfl
@[simp] theorem setWbs_gens (l : List Wb) : (s.setWbs l).gens = s.gens := rfl
@[simp] theorem setWbs_stalled (l : List Wb) : (s.setWbs l).stalled = s.stalled := rfl
@[simp] theorem setWbs_inkwell (l : List Wb) : (s.setWbs l).inkwell = s.inkwell := rfl
@[simp] theorem setWbs_otp (l : List Wb) : (s.setWbs l).otp = s.otp := rfl
@[simp] theorem setWbs_csn (l : List Wb) : (s.setWbs l).csn = s.csn := rfl
@[simp] theorem setWbs_tim (l : List Wb) : (s.setWbs l).tim = s.tim := rfl
@[simp] theorem setWbs_scribes (l : List Wb) : (s.setWbs l).scribes = s.scribes := rfl
@[simp] theorem setWbs_ports (l : List Wb) : (s.setWbs l).ports = s.ports := rfl
@[simp] theorem setWbs_pairs (l : List Wb) : (s.setWbs l).pairs = s.pairs := rfl
@[simp] theorem setWbs_subs (l : List Wb) : (s.setWbs l).subs = s.subs := rfl
@[simp] theorem setWbs_ferrules (l : List Wb) : (s.setWbs l).ferrules = s.ferrules := rfl
@[simp] theorem setWbs_ferDoms (l : List Wb) : (s.setWbs l).ferDoms = s.ferDoms := rfl
@[simp] theorem setWbs_nibs (l : List Wb) : (s.setWbs l).nibs = s.nibs := rfl
@[simp] theorem setWbs_rul (l : List Wb) : (s.setWbs l).rul = s.rul := rfl
@[simp] theorem setWbs_pubs (l : List Wb) : (s.setWbs l).pubs = s.pubs := rfl
@[simp] theorem setWbs_trips (l : List Wb) : (s.setWbs l).trips = s.trips := rfl
@[simp] theorem setWbs_blot (l : List Wb) : (s.setWbs l).blot = s.blot := rfl
@[simp] theorem setWbs_icu (l : List Wb) : (s.setWbs l).icu = s.icu := rfl
@[simp] theorem setWbs_mcu (l : List Wb) : (s.setWbs l).mcu = s.mcu := rfl
@[simp] theorem setWbs_dma (l : List Wb) : (s.setWbs l).dma = s.dma := rfl
@[simp] theorem setWbs_dmaLast (l : List Wb) : (s.setWbs l).dmaLast = s.dmaLast := rfl
@[simp] theorem setWbs_qps (l : List Wb) : (s.setWbs l).qps = s.qps := rfl
@[simp] theorem setWbs_qpTurn (l : List Wb) : (s.setWbs l).qpTurn = s.qpTurn := rfl
@[simp] theorem setWbs_tens (l : List Wb) : (s.setWbs l).tens = s.tens := rfl
@[simp] theorem setWbs_pwr (l : List Wb) : (s.setWbs l).pwr = s.pwr := rfl
@[simp] theorem setWbs_bst (l : List Wb) : (s.setWbs l).bst = s.bst := rfl
@[simp] theorem setWbs_pcie (l : List Wb) : (s.setWbs l).pcie = s.pcie := rfl
@[simp] theorem setWbs_dbg (l : List Wb) : (s.setWbs l).dbg = s.dbg := rfl
@[simp] theorem setWbs_dpx (l : List Wb) : (s.setWbs l).dpx = s.dpx := rfl

/-! ### setDma: changes dma -/

@[simp] theorem setDma_pending (n : Nat) (c : DmaChan) : (s.setDma n c).pending = s.pending := rfl
@[simp] theorem setDma_now (n : Nat) (c : DmaChan) : (s.setDma n c).now = s.now := rfl
@[simp] theorem setDma_phase (n : Nat) (c : DmaChan) : (s.setDma n c).phase = s.phase := rfl
@[simp] theorem setDma_freeCtr (n : Nat) (c : DmaChan) : (s.setDma n c).freeCtr = s.freeCtr := rfl
@[simp] theorem setDma_regs (n : Nat) (c : DmaChan) : (s.setDma n c).regs = s.regs := rfl
@[simp] theorem setDma_gens (n : Nat) (c : DmaChan) : (s.setDma n c).gens = s.gens := rfl
@[simp] theorem setDma_stalled (n : Nat) (c : DmaChan) : (s.setDma n c).stalled = s.stalled := rfl
@[simp] theorem setDma_inkwell (n : Nat) (c : DmaChan) : (s.setDma n c).inkwell = s.inkwell := rfl
@[simp] theorem setDma_otp (n : Nat) (c : DmaChan) : (s.setDma n c).otp = s.otp := rfl
@[simp] theorem setDma_csn (n : Nat) (c : DmaChan) : (s.setDma n c).csn = s.csn := rfl
@[simp] theorem setDma_tim (n : Nat) (c : DmaChan) : (s.setDma n c).tim = s.tim := rfl
@[simp] theorem setDma_scribes (n : Nat) (c : DmaChan) : (s.setDma n c).scribes = s.scribes := rfl
@[simp] theorem setDma_ports (n : Nat) (c : DmaChan) : (s.setDma n c).ports = s.ports := rfl
@[simp] theorem setDma_pairs (n : Nat) (c : DmaChan) : (s.setDma n c).pairs = s.pairs := rfl
@[simp] theorem setDma_subs (n : Nat) (c : DmaChan) : (s.setDma n c).subs = s.subs := rfl
@[simp] theorem setDma_ferrules (n : Nat) (c : DmaChan) : (s.setDma n c).ferrules = s.ferrules := rfl
@[simp] theorem setDma_ferDoms (n : Nat) (c : DmaChan) : (s.setDma n c).ferDoms = s.ferDoms := rfl
@[simp] theorem setDma_nibs (n : Nat) (c : DmaChan) : (s.setDma n c).nibs = s.nibs := rfl
@[simp] theorem setDma_rul (n : Nat) (c : DmaChan) : (s.setDma n c).rul = s.rul := rfl
@[simp] theorem setDma_pubs (n : Nat) (c : DmaChan) : (s.setDma n c).pubs = s.pubs := rfl
@[simp] theorem setDma_trips (n : Nat) (c : DmaChan) : (s.setDma n c).trips = s.trips := rfl
@[simp] theorem setDma_blot (n : Nat) (c : DmaChan) : (s.setDma n c).blot = s.blot := rfl
@[simp] theorem setDma_mem (n : Nat) (c : DmaChan) : (s.setDma n c).mem = s.mem := rfl
@[simp] theorem setDma_icu (n : Nat) (c : DmaChan) : (s.setDma n c).icu = s.icu := rfl
@[simp] theorem setDma_mcu (n : Nat) (c : DmaChan) : (s.setDma n c).mcu = s.mcu := rfl
@[simp] theorem setDma_dmaLast (n : Nat) (c : DmaChan) : (s.setDma n c).dmaLast = s.dmaLast := rfl
@[simp] theorem setDma_qps (n : Nat) (c : DmaChan) : (s.setDma n c).qps = s.qps := rfl
@[simp] theorem setDma_qpTurn (n : Nat) (c : DmaChan) : (s.setDma n c).qpTurn = s.qpTurn := rfl
@[simp] theorem setDma_tens (n : Nat) (c : DmaChan) : (s.setDma n c).tens = s.tens := rfl
@[simp] theorem setDma_pwr (n : Nat) (c : DmaChan) : (s.setDma n c).pwr = s.pwr := rfl
@[simp] theorem setDma_bst (n : Nat) (c : DmaChan) : (s.setDma n c).bst = s.bst := rfl
@[simp] theorem setDma_pcie (n : Nat) (c : DmaChan) : (s.setDma n c).pcie = s.pcie := rfl
@[simp] theorem setDma_dbg (n : Nat) (c : DmaChan) : (s.setDma n c).dbg = s.dbg := rfl
@[simp] theorem setDma_dpx (n : Nat) (c : DmaChan) : (s.setDma n c).dpx = s.dpx := rfl

/-! ### setQp: changes qps -/

@[simp] theorem setQp_pending (q : Nat) (x : Qp) : (s.setQp q x).pending = s.pending := rfl
@[simp] theorem setQp_now (q : Nat) (x : Qp) : (s.setQp q x).now = s.now := rfl
@[simp] theorem setQp_phase (q : Nat) (x : Qp) : (s.setQp q x).phase = s.phase := rfl
@[simp] theorem setQp_freeCtr (q : Nat) (x : Qp) : (s.setQp q x).freeCtr = s.freeCtr := rfl
@[simp] theorem setQp_regs (q : Nat) (x : Qp) : (s.setQp q x).regs = s.regs := rfl
@[simp] theorem setQp_gens (q : Nat) (x : Qp) : (s.setQp q x).gens = s.gens := rfl
@[simp] theorem setQp_stalled (q : Nat) (x : Qp) : (s.setQp q x).stalled = s.stalled := rfl
@[simp] theorem setQp_inkwell (q : Nat) (x : Qp) : (s.setQp q x).inkwell = s.inkwell := rfl
@[simp] theorem setQp_otp (q : Nat) (x : Qp) : (s.setQp q x).otp = s.otp := rfl
@[simp] theorem setQp_csn (q : Nat) (x : Qp) : (s.setQp q x).csn = s.csn := rfl
@[simp] theorem setQp_tim (q : Nat) (x : Qp) : (s.setQp q x).tim = s.tim := rfl
@[simp] theorem setQp_scribes (q : Nat) (x : Qp) : (s.setQp q x).scribes = s.scribes := rfl
@[simp] theorem setQp_ports (q : Nat) (x : Qp) : (s.setQp q x).ports = s.ports := rfl
@[simp] theorem setQp_pairs (q : Nat) (x : Qp) : (s.setQp q x).pairs = s.pairs := rfl
@[simp] theorem setQp_subs (q : Nat) (x : Qp) : (s.setQp q x).subs = s.subs := rfl
@[simp] theorem setQp_ferrules (q : Nat) (x : Qp) : (s.setQp q x).ferrules = s.ferrules := rfl
@[simp] theorem setQp_ferDoms (q : Nat) (x : Qp) : (s.setQp q x).ferDoms = s.ferDoms := rfl
@[simp] theorem setQp_nibs (q : Nat) (x : Qp) : (s.setQp q x).nibs = s.nibs := rfl
@[simp] theorem setQp_rul (q : Nat) (x : Qp) : (s.setQp q x).rul = s.rul := rfl
@[simp] theorem setQp_pubs (q : Nat) (x : Qp) : (s.setQp q x).pubs = s.pubs := rfl
@[simp] theorem setQp_trips (q : Nat) (x : Qp) : (s.setQp q x).trips = s.trips := rfl
@[simp] theorem setQp_blot (q : Nat) (x : Qp) : (s.setQp q x).blot = s.blot := rfl
@[simp] theorem setQp_mem (q : Nat) (x : Qp) : (s.setQp q x).mem = s.mem := rfl
@[simp] theorem setQp_icu (q : Nat) (x : Qp) : (s.setQp q x).icu = s.icu := rfl
@[simp] theorem setQp_mcu (q : Nat) (x : Qp) : (s.setQp q x).mcu = s.mcu := rfl
@[simp] theorem setQp_dma (q : Nat) (x : Qp) : (s.setQp q x).dma = s.dma := rfl
@[simp] theorem setQp_dmaLast (q : Nat) (x : Qp) : (s.setQp q x).dmaLast = s.dmaLast := rfl
@[simp] theorem setQp_qpTurn (q : Nat) (x : Qp) : (s.setQp q x).qpTurn = s.qpTurn := rfl
@[simp] theorem setQp_tens (q : Nat) (x : Qp) : (s.setQp q x).tens = s.tens := rfl
@[simp] theorem setQp_pwr (q : Nat) (x : Qp) : (s.setQp q x).pwr = s.pwr := rfl
@[simp] theorem setQp_bst (q : Nat) (x : Qp) : (s.setQp q x).bst = s.bst := rfl
@[simp] theorem setQp_pcie (q : Nat) (x : Qp) : (s.setQp q x).pcie = s.pcie := rfl
@[simp] theorem setQp_dbg (q : Nat) (x : Qp) : (s.setQp q x).dbg = s.dbg := rfl
@[simp] theorem setQp_dpx (q : Nat) (x : Qp) : (s.setQp q x).dpx = s.dpx := rfl

/-! ### setTen: changes tens -/

@[simp] theorem setTen_pending (t : Nat) (x : Ten) : (s.setTen t x).pending = s.pending := rfl
@[simp] theorem setTen_now (t : Nat) (x : Ten) : (s.setTen t x).now = s.now := rfl
@[simp] theorem setTen_phase (t : Nat) (x : Ten) : (s.setTen t x).phase = s.phase := rfl
@[simp] theorem setTen_freeCtr (t : Nat) (x : Ten) : (s.setTen t x).freeCtr = s.freeCtr := rfl
@[simp] theorem setTen_regs (t : Nat) (x : Ten) : (s.setTen t x).regs = s.regs := rfl
@[simp] theorem setTen_gens (t : Nat) (x : Ten) : (s.setTen t x).gens = s.gens := rfl
@[simp] theorem setTen_stalled (t : Nat) (x : Ten) : (s.setTen t x).stalled = s.stalled := rfl
@[simp] theorem setTen_inkwell (t : Nat) (x : Ten) : (s.setTen t x).inkwell = s.inkwell := rfl
@[simp] theorem setTen_otp (t : Nat) (x : Ten) : (s.setTen t x).otp = s.otp := rfl
@[simp] theorem setTen_csn (t : Nat) (x : Ten) : (s.setTen t x).csn = s.csn := rfl
@[simp] theorem setTen_tim (t : Nat) (x : Ten) : (s.setTen t x).tim = s.tim := rfl
@[simp] theorem setTen_scribes (t : Nat) (x : Ten) : (s.setTen t x).scribes = s.scribes := rfl
@[simp] theorem setTen_ports (t : Nat) (x : Ten) : (s.setTen t x).ports = s.ports := rfl
@[simp] theorem setTen_pairs (t : Nat) (x : Ten) : (s.setTen t x).pairs = s.pairs := rfl
@[simp] theorem setTen_subs (t : Nat) (x : Ten) : (s.setTen t x).subs = s.subs := rfl
@[simp] theorem setTen_ferrules (t : Nat) (x : Ten) : (s.setTen t x).ferrules = s.ferrules := rfl
@[simp] theorem setTen_ferDoms (t : Nat) (x : Ten) : (s.setTen t x).ferDoms = s.ferDoms := rfl
@[simp] theorem setTen_nibs (t : Nat) (x : Ten) : (s.setTen t x).nibs = s.nibs := rfl
@[simp] theorem setTen_rul (t : Nat) (x : Ten) : (s.setTen t x).rul = s.rul := rfl
@[simp] theorem setTen_pubs (t : Nat) (x : Ten) : (s.setTen t x).pubs = s.pubs := rfl
@[simp] theorem setTen_trips (t : Nat) (x : Ten) : (s.setTen t x).trips = s.trips := rfl
@[simp] theorem setTen_blot (t : Nat) (x : Ten) : (s.setTen t x).blot = s.blot := rfl
@[simp] theorem setTen_mem (t : Nat) (x : Ten) : (s.setTen t x).mem = s.mem := rfl
@[simp] theorem setTen_icu (t : Nat) (x : Ten) : (s.setTen t x).icu = s.icu := rfl
@[simp] theorem setTen_mcu (t : Nat) (x : Ten) : (s.setTen t x).mcu = s.mcu := rfl
@[simp] theorem setTen_dma (t : Nat) (x : Ten) : (s.setTen t x).dma = s.dma := rfl
@[simp] theorem setTen_dmaLast (t : Nat) (x : Ten) : (s.setTen t x).dmaLast = s.dmaLast := rfl
@[simp] theorem setTen_qps (t : Nat) (x : Ten) : (s.setTen t x).qps = s.qps := rfl
@[simp] theorem setTen_qpTurn (t : Nat) (x : Ten) : (s.setTen t x).qpTurn = s.qpTurn := rfl
@[simp] theorem setTen_pwr (t : Nat) (x : Ten) : (s.setTen t x).pwr = s.pwr := rfl
@[simp] theorem setTen_bst (t : Nat) (x : Ten) : (s.setTen t x).bst = s.bst := rfl
@[simp] theorem setTen_pcie (t : Nat) (x : Ten) : (s.setTen t x).pcie = s.pcie := rfl
@[simp] theorem setTen_dbg (t : Nat) (x : Ten) : (s.setTen t x).dbg = s.dbg := rfl
@[simp] theorem setTen_dpx (t : Nat) (x : Ten) : (s.setTen t x).dpx = s.dpx := rfl

/-! ### pageErr: changes regs -/

@[simp] theorem pageErr_pending (p c o i : Nat) : (s.pageErr p c o i).pending = s.pending := by unfold State.pageErr; split <;> rfl
@[simp] theorem pageErr_now (p c o i : Nat) : (s.pageErr p c o i).now = s.now := by unfold State.pageErr; split <;> rfl
@[simp] theorem pageErr_phase (p c o i : Nat) : (s.pageErr p c o i).phase = s.phase := by unfold State.pageErr; split <;> rfl
@[simp] theorem pageErr_freeCtr (p c o i : Nat) : (s.pageErr p c o i).freeCtr = s.freeCtr := by unfold State.pageErr; split <;> rfl
@[simp] theorem pageErr_gens (p c o i : Nat) : (s.pageErr p c o i).gens = s.gens := by unfold State.pageErr; split <;> rfl
@[simp] theorem pageErr_stalled (p c o i : Nat) : (s.pageErr p c o i).stalled = s.stalled := by unfold State.pageErr; split <;> rfl
@[simp] theorem pageErr_inkwell (p c o i : Nat) : (s.pageErr p c o i).inkwell = s.inkwell := by unfold State.pageErr; split <;> rfl
@[simp] theorem pageErr_otp (p c o i : Nat) : (s.pageErr p c o i).otp = s.otp := by unfold State.pageErr; split <;> rfl
@[simp] theorem pageErr_csn (p c o i : Nat) : (s.pageErr p c o i).csn = s.csn := by unfold State.pageErr; split <;> rfl
@[simp] theorem pageErr_tim (p c o i : Nat) : (s.pageErr p c o i).tim = s.tim := by unfold State.pageErr; split <;> rfl
@[simp] theorem pageErr_scribes (p c o i : Nat) : (s.pageErr p c o i).scribes = s.scribes := by unfold State.pageErr; split <;> rfl
@[simp] theorem pageErr_ports (p c o i : Nat) : (s.pageErr p c o i).ports = s.ports := by unfold State.pageErr; split <;> rfl
@[simp] theorem pageErr_pairs (p c o i : Nat) : (s.pageErr p c o i).pairs = s.pairs := by unfold State.pageErr; split <;> rfl
@[simp] theorem pageErr_subs (p c o i : Nat) : (s.pageErr p c o i).subs = s.subs := by unfold State.pageErr; split <;> rfl
@[simp] theorem pageErr_ferrules (p c o i : Nat) : (s.pageErr p c o i).ferrules = s.ferrules := by unfold State.pageErr; split <;> rfl
@[simp] theorem pageErr_ferDoms (p c o i : Nat) : (s.pageErr p c o i).ferDoms = s.ferDoms := by unfold State.pageErr; split <;> rfl
@[simp] theorem pageErr_nibs (p c o i : Nat) : (s.pageErr p c o i).nibs = s.nibs := by unfold State.pageErr; split <;> rfl
@[simp] theorem pageErr_rul (p c o i : Nat) : (s.pageErr p c o i).rul = s.rul := by unfold State.pageErr; split <;> rfl
@[simp] theorem pageErr_pubs (p c o i : Nat) : (s.pageErr p c o i).pubs = s.pubs := by unfold State.pageErr; split <;> rfl
@[simp] theorem pageErr_trips (p c o i : Nat) : (s.pageErr p c o i).trips = s.trips := by unfold State.pageErr; split <;> rfl
@[simp] theorem pageErr_blot (p c o i : Nat) : (s.pageErr p c o i).blot = s.blot := by unfold State.pageErr; split <;> rfl
@[simp] theorem pageErr_mem (p c o i : Nat) : (s.pageErr p c o i).mem = s.mem := by unfold State.pageErr; split <;> rfl
@[simp] theorem pageErr_icu (p c o i : Nat) : (s.pageErr p c o i).icu = s.icu := by unfold State.pageErr; split <;> rfl
@[simp] theorem pageErr_mcu (p c o i : Nat) : (s.pageErr p c o i).mcu = s.mcu := by unfold State.pageErr; split <;> rfl
@[simp] theorem pageErr_dma (p c o i : Nat) : (s.pageErr p c o i).dma = s.dma := by unfold State.pageErr; split <;> rfl
@[simp] theorem pageErr_dmaLast (p c o i : Nat) : (s.pageErr p c o i).dmaLast = s.dmaLast := by unfold State.pageErr; split <;> rfl
@[simp] theorem pageErr_qps (p c o i : Nat) : (s.pageErr p c o i).qps = s.qps := by unfold State.pageErr; split <;> rfl
@[simp] theorem pageErr_qpTurn (p c o i : Nat) : (s.pageErr p c o i).qpTurn = s.qpTurn := by unfold State.pageErr; split <;> rfl
@[simp] theorem pageErr_tens (p c o i : Nat) : (s.pageErr p c o i).tens = s.tens := by unfold State.pageErr; split <;> rfl
@[simp] theorem pageErr_pwr (p c o i : Nat) : (s.pageErr p c o i).pwr = s.pwr := by unfold State.pageErr; split <;> rfl
@[simp] theorem pageErr_bst (p c o i : Nat) : (s.pageErr p c o i).bst = s.bst := by unfold State.pageErr; split <;> rfl
@[simp] theorem pageErr_pcie (p c o i : Nat) : (s.pageErr p c o i).pcie = s.pcie := by unfold State.pageErr; split <;> rfl
@[simp] theorem pageErr_dbg (p c o i : Nat) : (s.pageErr p c o i).dbg = s.dbg := by unfold State.pageErr; split <;> rfl
@[simp] theorem pageErr_dpx (p c o i : Nat) : (s.pageErr p c o i).dpx = s.dpx := by unfold State.pageErr; split <;> rfl

/-! ### busErr: changes regs -/

@[simp] theorem busErr_pending (a c i : Nat) (w : Bool) : (s.busErr a c i w).pending = s.pending := by unfold State.busErr; split <;> rfl
@[simp] theorem busErr_now (a c i : Nat) (w : Bool) : (s.busErr a c i w).now = s.now := by unfold State.busErr; split <;> rfl
@[simp] theorem busErr_phase (a c i : Nat) (w : Bool) : (s.busErr a c i w).phase = s.phase := by unfold State.busErr; split <;> rfl
@[simp] theorem busErr_freeCtr (a c i : Nat) (w : Bool) : (s.busErr a c i w).freeCtr = s.freeCtr := by unfold State.busErr; split <;> rfl
@[simp] theorem busErr_gens (a c i : Nat) (w : Bool) : (s.busErr a c i w).gens = s.gens := by unfold State.busErr; split <;> rfl
@[simp] theorem busErr_stalled (a c i : Nat) (w : Bool) : (s.busErr a c i w).stalled = s.stalled := by unfold State.busErr; split <;> rfl
@[simp] theorem busErr_inkwell (a c i : Nat) (w : Bool) : (s.busErr a c i w).inkwell = s.inkwell := by unfold State.busErr; split <;> rfl
@[simp] theorem busErr_otp (a c i : Nat) (w : Bool) : (s.busErr a c i w).otp = s.otp := by unfold State.busErr; split <;> rfl
@[simp] theorem busErr_csn (a c i : Nat) (w : Bool) : (s.busErr a c i w).csn = s.csn := by unfold State.busErr; split <;> rfl
@[simp] theorem busErr_tim (a c i : Nat) (w : Bool) : (s.busErr a c i w).tim = s.tim := by unfold State.busErr; split <;> rfl
@[simp] theorem busErr_scribes (a c i : Nat) (w : Bool) : (s.busErr a c i w).scribes = s.scribes := by unfold State.busErr; split <;> rfl
@[simp] theorem busErr_ports (a c i : Nat) (w : Bool) : (s.busErr a c i w).ports = s.ports := by unfold State.busErr; split <;> rfl
@[simp] theorem busErr_pairs (a c i : Nat) (w : Bool) : (s.busErr a c i w).pairs = s.pairs := by unfold State.busErr; split <;> rfl
@[simp] theorem busErr_subs (a c i : Nat) (w : Bool) : (s.busErr a c i w).subs = s.subs := by unfold State.busErr; split <;> rfl
@[simp] theorem busErr_ferrules (a c i : Nat) (w : Bool) : (s.busErr a c i w).ferrules = s.ferrules := by unfold State.busErr; split <;> rfl
@[simp] theorem busErr_ferDoms (a c i : Nat) (w : Bool) : (s.busErr a c i w).ferDoms = s.ferDoms := by unfold State.busErr; split <;> rfl
@[simp] theorem busErr_nibs (a c i : Nat) (w : Bool) : (s.busErr a c i w).nibs = s.nibs := by unfold State.busErr; split <;> rfl
@[simp] theorem busErr_rul (a c i : Nat) (w : Bool) : (s.busErr a c i w).rul = s.rul := by unfold State.busErr; split <;> rfl
@[simp] theorem busErr_pubs (a c i : Nat) (w : Bool) : (s.busErr a c i w).pubs = s.pubs := by unfold State.busErr; split <;> rfl
@[simp] theorem busErr_trips (a c i : Nat) (w : Bool) : (s.busErr a c i w).trips = s.trips := by unfold State.busErr; split <;> rfl
@[simp] theorem busErr_blot (a c i : Nat) (w : Bool) : (s.busErr a c i w).blot = s.blot := by unfold State.busErr; split <;> rfl
@[simp] theorem busErr_mem (a c i : Nat) (w : Bool) : (s.busErr a c i w).mem = s.mem := by unfold State.busErr; split <;> rfl
@[simp] theorem busErr_icu (a c i : Nat) (w : Bool) : (s.busErr a c i w).icu = s.icu := by unfold State.busErr; split <;> rfl
@[simp] theorem busErr_mcu (a c i : Nat) (w : Bool) : (s.busErr a c i w).mcu = s.mcu := by unfold State.busErr; split <;> rfl
@[simp] theorem busErr_dma (a c i : Nat) (w : Bool) : (s.busErr a c i w).dma = s.dma := by unfold State.busErr; split <;> rfl
@[simp] theorem busErr_dmaLast (a c i : Nat) (w : Bool) : (s.busErr a c i w).dmaLast = s.dmaLast := by unfold State.busErr; split <;> rfl
@[simp] theorem busErr_qps (a c i : Nat) (w : Bool) : (s.busErr a c i w).qps = s.qps := by unfold State.busErr; split <;> rfl
@[simp] theorem busErr_qpTurn (a c i : Nat) (w : Bool) : (s.busErr a c i w).qpTurn = s.qpTurn := by unfold State.busErr; split <;> rfl
@[simp] theorem busErr_tens (a c i : Nat) (w : Bool) : (s.busErr a c i w).tens = s.tens := by unfold State.busErr; split <;> rfl
@[simp] theorem busErr_pwr (a c i : Nat) (w : Bool) : (s.busErr a c i w).pwr = s.pwr := by unfold State.busErr; split <;> rfl
@[simp] theorem busErr_bst (a c i : Nat) (w : Bool) : (s.busErr a c i w).bst = s.bst := by unfold State.busErr; split <;> rfl
@[simp] theorem busErr_pcie (a c i : Nat) (w : Bool) : (s.busErr a c i w).pcie = s.pcie := by unfold State.busErr; split <;> rfl
@[simp] theorem busErr_dbg (a c i : Nat) (w : Bool) : (s.busErr a c i w).dbg = s.dbg := by unfold State.busErr; split <;> rfl
@[simp] theorem busErr_dpx (a c i : Nat) (w : Bool) : (s.busErr a c i w).dpx = s.dpx := by unfold State.busErr; split <;> rfl

end Sys2Proof.Machine
end

