-- ==== Sys2Proof/Laws/Table.lean ====
section
/-! SUPPORT. Laws of the sparse tables: a read after a write, and the canonical form that every write keeps. -/

namespace Sys2Proof.Machine

variable {α : Type}

theorem tget_tput_self [Inhabited α] (t : Tbl α) (a : Nat) (x : α) : tget (tput t a x) a = x := by
  induction t with
  | nil => simp [tput, tget]
  | cons e t ih =>
    simp only [tput]
    split
    · simp [tget]
    · split <;> simp_all [tget]

theorem tget_tput_ne [Inhabited α] (t : Tbl α) {a b : Nat} (h : a ≠ b) (x : α) : tget (tput t a x) b = tget t b := by
  induction t with
  | nil => simp [tput, tget, h]
  | cons e t ih =>
    simp only [tput]
    split
    · next hk => subst hk; simp [tget, h]
    · split
      · simp [tget, h]
      · simp [tget, ih]

theorem tget_tdel_ne [Inhabited α] (t : Tbl α) {a b : Nat} (h : a ≠ b) : tget (tdel t a) b = tget t b := by
  induction t with
  | nil => rfl
  | cons e t ih =>
    simp only [tdel]
    split
    · next hk => subst hk; simp [tget, h]
    · split
      · rfl
      · simp [tget, ih]

section Canonical
variable [DecidableEq α] [Inhabited α]

/-- A write leaves every other key as it was. -/
theorem tget_tset_ne (t : Tbl α) {a b : Nat} (h : a ≠ b) (x : α) : tget (tset t a x) b = tget t b := by
  unfold tset
  split
  · exact tget_tdel_ne t h
  · exact tget_tput_ne t h x

/-- Keys at or below a canonical table's bound are unlisted. -/
theorem tget_below {t : Tbl α} {m a : Nat} (h : twfFrom t (some m) = true) (ha : a ≤ m) : tget t a = default := by
  induction t generalizing m with
  | nil => rfl
  | cons e t ih =>
    obtain ⟨k, v⟩ := e
    simp only [twfFrom, Bool.and_eq_true, decide_eq_true_eq] at h
    have : k ≠ a := by omega
    simp only [tget, this, if_false]
    exact ih h.2 (by omega)

theorem tget_tdel_self {t : Tbl α} {b : Option Nat} (h : twfFrom t b = true) (a : Nat) : tget (tdel t a) a = default := by
  induction t generalizing b with
  | nil => rfl
  | cons e t ih =>
    obtain ⟨k, v⟩ := e
    simp only [twfFrom, Bool.and_eq_true] at h
    simp only [tdel]
    split
    · next hk => subst hk; exact tget_below h.2 (Nat.le_refl _)
    · split
      · next hk hl =>
        simp only [tget, hk, if_false]
        exact tget_below h.2 (by omega)
      · next hk hl => simp only [tget, hk, if_false]; exact ih h.2

/-- A write to a canonical table gives the value written. -/
theorem tget_tset_self {t : Tbl α} (h : twf t = true) (a : Nat) (x : α) : tget (tset t a x) a = x := by
  unfold tset
  split
  · next hx => rw [hx]; exact tget_tdel_self h a
  · exact tget_tput_self t a x

/-- A written value that is not the default is read back from any table. -/
theorem tget_tset_of_ne (t : Tbl α) (a : Nat) {x : α} (h : x ≠ default) : tget (tset t a x) a = x := by
  simp only [tset, h, if_false]
  exact tget_tput_self t a x

theorem twfFrom_mono {t : Tbl α} {m : Nat} {b : Option Nat} (h : twfFrom t (some m) = true)
    (hb : match b with | none => True | some n => n ≤ m) : twfFrom t b = true := by
  cases t with
  | nil => rfl
  | cons e t =>
    obtain ⟨k, v⟩ := e
    simp only [twfFrom, Bool.and_eq_true, decide_eq_true_eq] at h ⊢
    refine ⟨⟨?_, h.1.2⟩, h.2⟩
    cases b with
    | none => rfl
    | some n => simp only at hb; simp only [decide_eq_true_eq]; omega

theorem twfFrom_tdel {t : Tbl α} {b : Option Nat} (h : twfFrom t b = true) (a : Nat) : twfFrom (tdel t a) b = true := by
  induction t generalizing b with
  | nil => rfl
  | cons e t ih =>
    obtain ⟨k, v⟩ := e
    simp only [tdel]
    split
    · simp only [twfFrom, Bool.and_eq_true] at h
      refine twfFrom_mono h.2 ?_
      cases b with
      | none => trivial
      | some n => have := h.1.1; simp only [decide_eq_true_eq] at this; simp only; omega
    · split
      · exact h
      · simp only [twfFrom, Bool.and_eq_true] at h ⊢
        exact ⟨h.1, ih h.2⟩

theorem twfFrom_tput {t : Tbl α} {b : Option Nat} (h : twfFrom t b = true) {a : Nat} {x : α} (hx : x ≠ default)
    (ha : match b with | none => True | some n => n < a) : twfFrom (tput t a x) b = true := by
  induction t generalizing b with
  | nil =>
    cases b with
    | none => simp [tput, twfFrom, hx]
    | some n => simp only at ha; simp [tput, twfFrom, hx, ha]
  | cons e t ih =>
    obtain ⟨k, v⟩ := e
    simp only [twfFrom, Bool.and_eq_true, decide_eq_true_eq] at h
    simp only [tput]
    split
    · next hk =>
      subst hk
      simp only [twfFrom, Bool.and_eq_true, decide_eq_true_eq]
      exact ⟨⟨h.1.1, hx⟩, h.2⟩
    · split
      · next hk hl =>
        simp only [twfFrom, Bool.and_eq_true, decide_eq_true_eq]
        refine ⟨⟨?_, hx⟩, ⟨hl, h.1.2⟩, h.2⟩
        cases b with
        | none => rfl
        | some n => simpa using ha
      · next hk hl =>
        simp only [twfFrom, Bool.and_eq_true, decide_eq_true_eq]
        exact ⟨h.1, ih h.2 (by simp only; omega)⟩

/-- A write keeps the canonical form. -/
theorem twf_tset {t : Tbl α} (h : twf t = true) (a : Nat) (x : α) : twf (tset t a x) = true := by
  unfold tset
  split
  · exact twfFrom_tdel h a
  · next hx => exact twfFrom_tput h hx trivial

theorem twfFrom_filter {t : Tbl α} {b : Option Nat} (h : twfFrom t b = true) (p : Nat × α → Bool) :
    twfFrom (t.filter p) b = true := by
  induction t generalizing b with
  | nil => rfl
  | cons e t ih =>
    obtain ⟨k, v⟩ := e
    simp only [twfFrom, Bool.and_eq_true] at h
    rw [List.filter_cons]
    split
    · simp only [twfFrom, Bool.and_eq_true]
      exact ⟨h.1, ih h.2⟩
    · refine twfFrom_mono (ih h.2) ?_
      cases b with
      | none => trivial
      | some n => have := h.1.1; simp only [decide_eq_true_eq] at this; simp only; omega

/-- Removing entries keeps the canonical form. -/
theorem twf_filter {t : Tbl α} (h : twf t = true) (p : Nat × α → Bool) : twf (t.filter p) = true :=
  twfFrom_filter h p

theorem tget_above {t : Tbl α} {m a : Nat} (h : twfFrom t (some m) = true) (ha : tget t a ≠ default) : m < a :=
  Nat.lt_of_not_le fun hl => ha (tget_below h hl)

theorem twfFrom_ext {t u : Tbl α} {b : Option Nat} (ht : twfFrom t b = true) (hu : twfFrom u b = true)
    (h : ∀ a, tget t a = tget u a) : t = u := by
  induction t generalizing u b with
  | nil =>
    cases u with
    | nil => rfl
    | cons e u =>
      obtain ⟨k, v⟩ := e
      simp only [twfFrom, Bool.and_eq_true, decide_eq_true_eq] at hu
      have := h k
      simp only [tget, if_true] at this
      exact absurd this.symm hu.1.2
  | cons e t ih =>
    obtain ⟨k, v⟩ := e
    simp only [twfFrom, Bool.and_eq_true, decide_eq_true_eq] at ht
    cases u with
    | nil =>
      have := h k
      simp only [tget, if_true] at this
      exact absurd this ht.1.2
    | cons f u =>
      obtain ⟨j, w⟩ := f
      simp only [twfFrom, Bool.and_eq_true, decide_eq_true_eq] at hu
      have hk := h k
      have hj := h j
      have hkj : k = j := by
        simp only [tget, if_true] at hk hj
        by_cases he : k = j
        · exact he
        · simp only [Ne.symm he, he, if_false] at hk hj
          have h1 := tget_above hu.2 (a := k) (by rw [← hk]; exact ht.1.2)
          have h2 := tget_above ht.2 (a := j) (by rw [hj]; exact hu.1.2)
          omega
      subst hkj
      simp only [tget, if_true] at hk
      subst hk
      congr 1
      refine ih ht.2 hu.2 fun a => ?_
      have ha := h a
      simp only [tget] at ha
      by_cases he : k = a
      · subst he; rw [tget_below ht.2 (Nat.le_refl _), tget_below hu.2 (Nat.le_refl _)]
      · simpa [he] using ha

/-- Canonical tables with equal contents are equal. -/
theorem twf_ext {t u : Tbl α} (ht : twf t = true) (hu : twf u = true) (h : ∀ a, tget t a = tget u a) : t = u := twfFrom_ext ht hu h

/-- The last of two writes to a key counts. -/
theorem tset_tset {t : Tbl α} (h : twf t = true) (a : Nat) (x y : α) : tset (tset t a x) a y = tset t a y := by
  refine twf_ext (twf_tset (twf_tset h a x) a y) (twf_tset h a y) fun b => ?_
  by_cases hb : a = b
  · subst hb; rw [tget_tset_self (twf_tset h a x), tget_tset_self h]
  · rw [tget_tset_ne _ hb, tget_tset_ne _ hb, tget_tset_ne _ hb]

end Canonical

/-- What every step of a fold keeps, the fold keeps. -/
theorem foldl_keeps {β : Type} {P : β → Prop} {g : β → α → β} {l : List α} {b : β} (h : P b) (hs : ∀ b a, P b → P (g b a)) :
    P (l.foldl g b) := by
  induction l generalizing b with
  | nil => exact h
  | cons a l ih => exact ih (hs b a h)

theorem findBelow_none {p : Nat → Bool} {n : Nat} (h : ∀ j < n, p j = false) : findBelow p n = none := by
  induction n with
  | zero => rfl
  | succ n ih => simp [findBelow, ih (fun j hj => h j (by omega)), h n (by omega)]

/-- The least number that a test accepts is found. -/
theorem findBelow_some {p : Nat → Bool} {n k : Nat} (hk : k < n) (hp : p k = true) (h : ∀ j < k, p j = false) :
    findBelow p n = some k := by
  induction n with
  | zero => omega
  | succ n ih =>
    by_cases hn : k = n
    · subst hn; simp [findBelow, findBelow_none h, hp]
    · simp [findBelow, ih (by omega)]

end Sys2Proof.Machine
end

