-- ==== Sys2Proof/Laws/Register.lean ====
section
/-! SUPPORT. Laws of the register words and fields: a field read after a write. -/

namespace Sys2Proof.Machine
open Sys2Proof

/-- A field's bits lie in the word. -/
abbrev FldIn (f : Fld) : Prop := f.lo + f.len ≤ 72

/-- Two fields that share no bit. -/
abbrev FldApart (f g : Fld) : Prop := f.addr ≠ g.addr ∨ f.lo + f.len ≤ g.lo ∨ g.lo + g.len ≤ f.lo

theorem getField_lt (w : Word) (lo len : Nat) : getField w lo len < 2 ^ len := Nat.mod_lt _ (Nat.two_pow_pos len)

theorem testBit_getField (w : Word) (lo len i : Nat) : (getField w lo len).testBit i = (decide (i < len) && w.toNat.testBit (lo + i)) := by
  simp [getField, Nat.testBit_mod_two_pow, Nat.testBit_shiftRight]

theorem testBit_putField (w : Word) (lo len v i : Nat) (h : lo + len ≤ 72) :
    (putField w lo len v).toNat.testBit i = if lo ≤ i ∧ i < lo + len then v.testBit (i - lo) else w.toNat.testBit i := by
  have hb : ∀ j, j < 72 → (putField w lo len v).toNat.testBit j =
      if lo ≤ j ∧ j < lo + len then v.testBit (j - lo) else w.toNat.testBit j := by
    intro j hj
    have h1 : ((2 ^ len - 1) <<< lo % 2 ^ 72).testBit j = decide (lo ≤ j ∧ j < lo + len) := by
      simp only [Nat.testBit_mod_two_pow, hj, decide_true, Bool.true_and, Nat.testBit_shiftLeft, Nat.testBit_two_pow_sub_one]
      rw [← Bool.decide_and, decide_eq_decide]
      omega
    have h2 : ((v % 2 ^ len) <<< lo % 2 ^ 72).testBit j = (decide (lo ≤ j ∧ j < lo + len) && v.testBit (j - lo)) := by
      simp only [Nat.testBit_mod_two_pow, hj, decide_true, Bool.true_and, Nat.testBit_shiftLeft]
      rw [← Bool.and_assoc, ← Bool.decide_and]
      congr 1
      rw [decide_eq_decide]; omega
    simp only [putField, BitVec.toNat_or, BitVec.toNat_and, BitVec.toNat_not, BitVec.toNat_ofNat, Nat.testBit_or, Nat.testBit_and]
    rw [h2, show (2 : Nat) ^ 72 - 1 - (2 ^ len - 1) <<< lo % 2 ^ 72 = 2 ^ 72 - ((2 ^ len - 1) <<< lo % 2 ^ 72 + 1) by omega,
      Nat.testBit_two_pow_sub_succ (Nat.mod_lt _ (by decide)), h1]
    by_cases hc : lo ≤ j ∧ j < lo + len <;> simp [hc, hj]
  by_cases hi : i < 72
  · exact hb i hi
  · have h3 : ¬ (lo ≤ i ∧ i < lo + len) := by omega
    have h4 : ∀ x : Word, x.toNat.testBit i = false := fun x =>
      Nat.testBit_lt_two_pow (Nat.lt_of_lt_of_le x.isLt (Nat.pow_le_pow_right (by decide) (by omega)))
    simp [h3, h4]

/-- A field written is read back, cut to its length. -/
theorem getField_putField_self (w : Word) (lo len v : Nat) (h : lo + len ≤ 72) : getField (putField w lo len v) lo len = v % 2 ^ len := by
  apply Nat.eq_of_testBit_eq
  intro i
  rw [testBit_getField, testBit_putField _ _ _ _ _ h, Nat.testBit_mod_two_pow]
  by_cases hi : i < len
  · simp [hi]
  · simp [hi]

/-- A field that shares no bit with the field written is as it was. -/
theorem getField_putField_apart (w : Word) (lo len v lo' len' : Nat) (h : lo + len ≤ 72) (ha : lo + len ≤ lo' ∨ lo' + len' ≤ lo) :
    getField (putField w lo len v) lo' len' = getField w lo' len' := by
  apply Nat.eq_of_testBit_eq
  intro i
  rw [testBit_getField, testBit_getField, testBit_putField _ _ _ _ _ h]
  by_cases hi : i < len'
  · have : ¬ (lo ≤ lo' + i ∧ lo' + i < lo + len) := by omega
    simp [this]
  · simp [hi]

theorem word_setWord_self {s : State} (h : twf s.regs = true) (a : Nat) (v : Word) : (s.setWord a v).word a = v := by
  simp only [State.word, State.setWord, tget_tset_self h]
  simp

theorem word_setWord_ne (s : State) {a b : Nat} (h : a ≠ b) (v : Word) : (s.setWord a v).word b = s.word b := by
  simp [State.word, State.setWord, tget_tset_ne _ h]

theorem twf_setWord {s : State} (h : twf s.regs = true) (a : Nat) (v : Word) : twf (s.setWord a v).regs = true := twf_tset h _ _

@[simp] theorem twf_wr {s : State} (h : twf s.regs = true) (f : Fld) (v : Nat) : twf (s.wr f v).regs = true := twf_tset h _ _

/-- A register field written is read back, cut to its length (R57). -/
theorem rd_wr_self {s : State} (h : twf s.regs = true) {f : Fld} (hf : FldIn f) (v : Nat) : (s.wr f v).rd f = v % 2 ^ f.len := by
  simp only [State.rd, State.wr, word_setWord_self h]
  exact getField_putField_self _ _ _ _ hf

/-- A register field that shares no bit with the field written is as it was. -/
theorem rd_wr_apart {s : State} (h : twf s.regs = true) {f g : Fld} (hf : FldIn f) (ha : FldApart f g) (v : Nat) : (s.wr f v).rd g = s.rd g := by
  simp only [State.rd, State.wr]
  by_cases he : f.addr = g.addr
  · rw [← he, word_setWord_self h]
    refine getField_putField_apart _ _ _ _ _ _ hf ?_
    rcases ha with ha | ha
    · exact absurd he ha
    · exact ha
  · rw [word_setWord_ne _ he]

theorem rd_lt (s : State) (f : Fld) : s.rd f < 2 ^ f.len := getField_lt _ _ _

theorem word_of_regs {s q : State} (h : q.regs = s.regs) (a : Nat) : q.word a = s.word a := by simp [State.word, h]

theorem rd_of_regs {s q : State} (h : q.regs = s.regs) (f : Fld) : q.rd f = s.rd f := by simp [State.rd, State.word, h]

end Sys2Proof.Machine
end

