-- ==== Sys2Proof/Laws/Gate.lean ====
section
/-! SUPPORT. Laws of the gate to the register pages and of the command doorbell: everything they can do (R53, R56, R67, R68). -/

namespace Sys2Proof.Machine
open Sys2Proof

/-- An access that passes reaches its effect. -/
theorem gated_of_passes {s : State} {init page off : Nat} (h : Passes s init page off true) (v : Word) (f : State → State) :
    s.gated init page off v f = f s := by
  obtain ⟨h1, h2⟩ := h
  simp only [State.gated, h1]
  rw [if_neg]
  rcases h2 with h2 | h2 <;> simp [h2]

theorem gatedRead_of_passes {s : State} {init page off : Nat} (h : Passes s init page off false) (f : State → State) :
    s.gatedRead init page off f = f s := by
  obtain ⟨h1, h2⟩ := h
  simp only [State.gatedRead, h1]
  rw [if_neg]
  rcases h2 with h2 | h2 <;> simp [h2]

theorem gatedCmd_of_passes {s : State} {init page : Nat} (h : Passes s init page 8 true) (seq opc handle : Nat) (f : State → State) :
    s.gatedCmd init page seq opc handle f = f s := gated_of_passes h _ f

/-- An access that meets a bus error is captured and has no other effect. -/
theorem gated_of_fault {s : State} {init page off c : Nat} (h : accessFault s init 0 page off true = some c) (v : Word) (f : State → State) :
    s.gated init page off v f = s.busErr (pageAddr page off) c init true := by
  simp only [State.gated, h]

/-- An access to a block in reset waits. -/
theorem gated_of_reset {s : State} {init page off : Nat} (h : accessFault s init 0 page off true = none) (h1 : alwaysOn page off = false)
    (h2 : pageInReset s page = true) (v : Word) (f : State → State) : s.gated init page off v f = s.stall init 0 page off true v false := by
  simp [State.gated, h, h1, h2]

theorem doorbell_of_busy {s : State} {page : Nat} (h : s.rd (F.DBL_STATE page) = 1) (seq opc handle : Nat) (late : State → Option Nat) :
    s.doorbell page seq opc handle late = ((rung s page seq opc handle).ignored page 8 1, false) := by
  simp [State.doorbell, h, rung]

theorem doorbell_of_seq {s : State} {page seq : Nat} (h : s.rd (F.DBL_STATE page) ≠ 1) (h2 : seq % 256 ≠ s.rd (F.HDR_SEQ page))
    (opc handle : Nat) (late : State → Option Nat) :
    s.doorbell page seq opc handle late = ((rung s page seq opc handle).ignored page 8 2, false) := by
  simp [State.doorbell, h, h2, rung]

theorem doorbell_of_late {s : State} {page seq opc handle r : Nat} {late : State → Option Nat} (h : s.rd (F.DBL_STATE page) ≠ 1)
    (h2 : seq % 256 = s.rd (F.HDR_SEQ page)) (h3 : late (rung s page seq opc handle) = some r) :
    s.doorbell page seq opc handle late = ((rung s page seq opc handle).ignored page 8 r, false) := by
  simp only [State.doorbell, h, h2]
  simp only [rung] at h3
  simp [h3, rung]

theorem doorbell_accepts {s : State} {page seq opc handle : Nat} {late : State → Option Nat} (h : s.rd (F.DBL_STATE page) ≠ 1)
    (h2 : seq % 256 = s.rd (F.HDR_SEQ page)) (h3 : late (rung s page seq opc handle) = none) :
    s.doorbell page seq opc handle late = (accepted s page seq opc handle, true) := by
  simp only [State.doorbell, h, h2]
  simp only [rung] at h3
  simp [h3, rung, accepted]

/-- A doorbell write that passes checks 1 and 2: the first of checks 3 to 7 that fails makes it an ignored sequence, else it is accepted. -/
theorem doorbell_of_rings {s : State} {init page seq opc handle : Nat} (h : Rings s init page seq opc handle) (late : State → Option Nat) :
    s.doorbell page seq opc handle late = match late (rung s page seq opc handle) with
      | some r => ((rung s page seq opc handle).ignored page 8 r, false)
      | none => (accepted s page seq opc handle, true) := by
  cases hl : late (rung s page seq opc handle) with
  | some r => exact doorbell_of_late h.idle h.next hl
  | none => exact doorbell_accepts h.idle h.next hl

/-- A doorbell of a block that takes no handle: the command runs where its sender may send it, else it is refused. -/
theorem hostBell_accepts {s : State} {init page seq opc : Nat} (h : Rings s init page seq opc 0) (allowed : Bool) (f : State → State) :
    s.hostBell page seq opc allowed f = if allowed then f (accepted s page seq opc 0) else (accepted s page seq opc 0).complete page 1 1 0 := by
  simp only [State.hostBell, doorbell_accepts h.idle h.next, State.refuse]

end Sys2Proof.Machine
end

