-- ==== Sys2Proof/Laws/Issue.lean ====
section
/-! SUPPORT. What issuing an instruction of a core can do (R369, R404, R406, R575). -/

namespace Sys2Proof.Machine
open Sys2Proof

/-- An instruction that is issued and completes. -/
theorem issue_of_ok {s r q : State} {n half : Nat} {body : Body} {x : Option Nat} (h : Ready s n r) (hb : body r = (.ok x, q)) :
    issue s n half body = finish q n x := by
  obtain ⟨h1, h2, h3, f, h4, h5, h6⟩ := h
  subst h6
  have hn : ¬ (fetchHalts f n (f.scribe n).pc = true ∧ ¬ (f.scribe n).stepping = true) := by
    rcases h5 with h5 | h5 <;> simp [h5]
  simp only [issue, h1, h2, h3, h4, not_true_eq_false, if_false, hn, hb, Bool.false_eq_true]

/-- An instruction that is issued and raises an exception. -/
theorem issue_of_bad {s r q : State} {n half : Nat} {body : Body} {x : Exc} (h : Ready s n r) (hb : body r = (.bad x, q)) :
    issue s n half body = trap q n { x with inst := half } := by
  obtain ⟨h1, h2, h3, f, h4, h5, h6⟩ := h
  subst h6
  have hn : ¬ (fetchHalts f n (f.scribe n).pc = true ∧ ¬ (f.scribe n).stepping = true) := by
    rcases h5 with h5 | h5 <;> simp [h5]
  simp only [issue, h1, h2, h3, h4, not_true_eq_false, if_false, hn, hb, Bool.false_eq_true]

/-- A core that does not issue takes no instruction command. -/
theorem issue_of_not {s : State} {n : Nat} (h : coreIssues s n = false) (half : Nat) (body : Body) : issue s n half body = s := by
  simp [issue, h]

end Sys2Proof.Machine
end

