-- ==== Sys2Proof/Laws/Memory.lean ====
section
/-! SUPPORT. Laws of the memories: a word read after a write, and the canonical form that every memory operation keeps. -/

namespace Sys2Proof.Machine
open Sys2Proof

theorem memory_wf_reset : Memory.wf State.reset = true := rfl

theorem memory_wf_iff (s : State) : Memory.wf s = true ↔
    twf s.mem.dram = true ∧ twf s.mem.mark = true ∧ twf s.inkwell = true ∧ twf s.mcu.sram = true := by
  simp [Memory.wf, and_assoc]

/-- A change of anything but the memories keeps their form. -/
theorem memory_wf_of_eq {s t : State} (h : Memory.wf s = true) (hm : t.mem.dram = s.mem.dram) (hk : t.mem.mark = s.mem.mark)
    (hi : t.inkwell = s.inkwell) (hs : t.mcu.sram = s.mcu.sram) : Memory.wf t = true := by
  simpa [Memory.wf, hm, hk, hi, hs] using h

/-! ### Inkwells -/

/-- An inkwell word written is read back. -/
theorem ink_setInk_self {s : State} (h : twf s.inkwell = true) (f a : Nat) (v : Word) : (s.setInk f a v).ink f a = v := tget_tset_self h _ _

/-- Every other word of the inkwells is as it was. -/
theorem ink_setInk_ne (s : State) {f a g b : Nat} (h : f * 2 ^ 18 + a ≠ g * 2 ^ 18 + b) (v : Word) : (s.setInk f a v).ink g b = s.ink g b :=
  tget_tset_ne _ h _

theorem twf_setInk {s : State} (h : twf s.inkwell = true) (f a : Nat) (v : Word) : twf (s.setInk f a v).inkwell = true := twf_tset h _ _

theorem memory_wf_setInk {s : State} (h : Memory.wf s = true) (f a : Nat) (v : Word) : Memory.wf (s.setInk f a v) = true := by
  rw [memory_wf_iff] at h ⊢
  exact ⟨h.1, h.2.1, twf_setInk h.2.2.1 f a v, h.2.2.2⟩

theorem memory_wf_setInks {s : State} (h : Memory.wf s = true) (f a : Nat) (ws : List Word) : Memory.wf (s.setInks f a ws) = true := by
  unfold State.setInks
  generalize ws.zipIdx = l
  induction l generalizing s with
  | nil => exact h
  | cons p l ih => exact ih (memory_wf_setInk h _ _ _)

/-! ### DRAM -/

theorem twf_lineSet {t : Tbl Word} (h : twf t = true) (l : List (Word × Nat)) (k : Word × Nat → Nat) (v : Word × Nat → Word) :
    twf (l.foldl (fun t p => tset t (k p) (v p)) t) = true := by
  induction l generalizing t with
  | nil => exact h
  | cons p l ih => exact ih (twf_tset h _ _)

/-- A line written to DRAM keeps the form, and marks the line or clears its mark. -/
theorem memory_wf_memStore {s : State} (h : Memory.wf s = true) (n : Nat) (ws : List Word) (p : Bool) : Memory.wf (s.memStore n ws p) = true := by
  rw [memory_wf_iff] at h ⊢
  exact ⟨twf_lineSet h.1 _ _ _, twf_tset h.2.1 _ _, h.2.2⟩

theorem marked_memStore {s : State} (h : twf s.mem.mark = true) (n : Nat) (ws : List Word) (p : Bool) : (s.memStore n ws p).marked n = p :=
  tget_tset_self h _ _

theorem marked_memStore_ne (s : State) {n m : Nat} (h : n ≠ m) (ws : List Word) (p : Bool) : (s.memStore n ws p).marked m = s.marked m :=
  tget_tset_ne _ h _

theorem tget_lineSet_out {t : Tbl Word} {l : List (Word × Nat)} {k : Word × Nat → Nat} {v : Word × Nat → Word} {a : Nat}
    (h : ∀ p ∈ l, k p ≠ a) : tget (l.foldl (fun t p => tset t (k p) (v p)) t) a = tget t a := by
  induction l generalizing t with
  | nil => rfl
  | cons p l ih =>
    rw [List.foldl_cons, ih (fun q hq => h q (List.mem_cons_of_mem _ hq)), tget_tset_ne _ (h p List.mem_cons_self)]

/-- A line written to DRAM leaves every other line. -/
theorem memLine_memStore_ne (s : State) {n m : Nat} (h : n ≠ m) {ws : List Word} (hw : ws.length ≤ 8) (p : Bool) :
    (s.memStore n ws p).memLine m = s.memLine m := by
  simp only [State.memLine, State.memStore]
  apply List.map_congr_left
  intro i hi
  have hi := List.mem_range.mp hi
  have hb : ∀ a, State.dramBase { s with mem := { s.mem with
      dram := ws.zipIdx.foldl (fun t (p : Word × Nat) => tset t (8 * n + p.2) (p.1 ^^^ s.dramBase (8 * n + p.2))) s.mem.dram
      mark := tset s.mem.mark n p } } a = s.dramBase a := fun _ => rfl
  rw [hb, tget_lineSet_out]
  intro q hq
  have := List.snd_lt_of_mem_zipIdx hq
  omega

theorem memory_wf_dramLose {s : State} (h : Memory.wf s = true) : Memory.wf s.dramLose = true := by
  rw [memory_wf_iff] at h ⊢
  exact ⟨rfl, rfl, h.2.2⟩

/-! ### The management controller's memory -/

theorem memory_wf_sram {s : State} (h : Memory.wf s = true) (w : Nat) (v : Word) :
    Memory.wf { s with mcu := { s.mcu with sram := tset s.mcu.sram w v } } = true := by
  rw [memory_wf_iff] at h ⊢
  exact ⟨h.1, h.2.1, h.2.2.1, twf_tset h.2.2.2 _ _⟩

end Sys2Proof.Machine
end

