-- ==== Sys2Proof/Laws/Nib.lean ====
section
/-! SUPPORT. Laws of the nibs: a nib read after it is put, and what an instruction that is ready leaves (R279 to R302). -/

namespace Sys2Proof.Machine
open Sys2Proof

theorem nib_setNib_self {s : State} (h : twf s.nibs = true) (f n : Nat) (b : Nib) : (s.setNib f n b).nib f n = b := tget_tset_self h _ _

theorem nib_setNib_ne (s : State) {f n g m : Nat} (h : f * 18 + n ≠ g * 18 + m) (b : Nib) : (s.setNib f n b).nib g m = s.nib g m :=
  tget_tset_ne _ h _

theorem twf_setNib {s : State} (h : twf s.nibs = true) (f n : Nat) (b : Nib) : twf (s.setNib f n b).nibs = true := twf_tset h _ _

/-- The last of two changes of a nib counts. -/
theorem setNib_setNib {s : State} (h : twf s.nibs = true) (f n : Nat) (b c : Nib) : (s.setNib f n b).setNib f n c = s.setNib f n c := by
  simp only [State.setNib, tset_tset h]

theorem blotPut_nibs (s : State) (src : Nat) (k : Packet) : (blotPut s src k).nibs = s.nibs := by
  simp only [blotPut]
  repeat' split
  all_goals simp

theorem trace_nibs (s : State) (src ty payload : Nat) (ext : Option Word) : (s.trace src ty payload ext).nibs = s.nibs := by
  simp only [State.trace]
  repeat' split
  all_goals simp [blotPut_nibs]

/-- Comparators change no nib. -/
theorem nibCompare_nibs (s : State) (f n kind addr : Nat) : (nibCompare s f n kind addr).1.nibs = s.nibs := by
  unfold nibCompare
  refine foldl_keeps (P := fun (r : State × Bool) => r.1.nibs = s.nibs) rfl fun r k hr => ?_
  dsimp only
  repeat' split
  all_goals simp [traceTrig, trace_nibs, hr]

/-- An instruction that is ready, its condition holding, and whose effect is on its nib alone: the nib is moved past it and takes its
effect, the loop level at its address is counted, and the comparators see its accesses. -/
theorem nibStep_done {s r : State} {f n op : Nat} {k : BitVec 3} {o : BitVec 6} {e : BitVec 14} {c : RunCtx}
    {mk : RunCtx → Nib → NibIns} {g g' : Nib → Nib} {i : NibIns}
    (hw : twf s.nibs = true) (hh : (s.nib f n).holds k = true) (h : NibReady s f n k c i r)
    (hi : { mk c (s.nib f n) with eff := id, unheld := id } = i) (he : (mk c (s.nib f n)).isEnd = false)
    (hg : (mk c (s.nib f n)).eff = onNib f n g') (hgg : g' ((s.nib f n).past i) = g ((s.nib f n).past i)) :
    nibStep s f n op k o e .clean mk = nibDone r f n c (s.nib f n) i g := by
  obtain ⟨⟨h1, h2, h0, hc, h3, h4⟩, h5, h6⟩ := h
  have hr : r.nibs = s.nibs := by rw [← nibCompare_nibs s f n 0, h3]
  have hr' : twf r.nibs = true := by rw [hr]; exact hw
  have hf : firstFault (mk c (s.nib f n)) c.x.desc.plen (s.nib f n).pc true .clean = none := by
    subst hi; simpa [hh, firstFault] using h5
  have hb : ¬ (hc && nibMayHalt r f n) = true := by cases hc <;> simp_all
  have hbud : decide (c.x.desc.budget ≤ (s.nib f n).cyc + (mk c (s.nib f n)).cyc) = false := by
    subst hi; simp at h6; simpa using h6
  simp only [nibStep, h0, h1, h2, if_true, h3, hb, hf, hh, hbud, he, hg, if_false, reduceCtorEq, Bool.false_and, Bool.false_eq_true]
  simp only [onNib, nib_setNib_self hr', setNib_setNib hr', nibDone]
  rw [← hgg]; subst hi
  simp [Nib.past, Nib.looped, memCompare]

end Sys2Proof.Machine
end

