-- ==== Sys2Proof/Laws/Records.lean ====
section
/-! SUPPORT. Laws of the records of a page: counters, bus errors, page errors, ignored writes and completed commands (R59, R68, R70, R73). -/

namespace Sys2Proof.Machine
open Sys2Proof

/-- A saturating counter counts by one, up to its greatest value. -/
theorem rd_bump {s : State} (h : twf s.regs = true) {f : Fld} (hf : FldIn f) : (s.bump f).rd f = min (s.rd f + 1) (2 ^ f.len - 1) := by
  have hp : 0 < 2 ^ f.len := Nat.two_pow_pos _
  have hl := rd_lt s f
  rw [State.bump, rd_wr_self h hf, satInc]
  split
  · rw [Nat.mod_eq_of_lt (by omega)]; omega
  · rw [Nat.mod_eq_of_lt (by omega)]; omega

theorem rd_bump_apart {s : State} (h : twf s.regs = true) {f g : Fld} (hf : FldIn f) (ha : FldApart f g) : (s.bump f).rd g = s.rd g :=
  rd_wr_apart h hf ha _

theorem twf_bump {s : State} (h : twf s.regs = true) (f : Fld) : twf (s.bump f).regs = true := twf_wr h _ _

theorem rd_wrb {s : State} (h : twf s.regs = true) {f : Fld} (hf : FldIn f) (h1 : f.len = 1) (b : Bool) : (s.wrb f b).isSet f = b := by
  cases b <;> simp [State.isSet, State.wrb, rd_wr_self h hf, b2n, h1]

/-- An ignored write keeps the canonical form, as every write does. -/
theorem twf_ignored {s : State} (h : twf s.regs = true) (p o r : Nat) : twf (s.ignored p o r).regs = true :=
  twf_wr (twf_wr (twf_bump h _) _ _) _ _

theorem twf_pageErr {s : State} (h : twf s.regs = true) (p c o i : Nat) : twf (s.pageErr p c o i).regs = true := by
  unfold State.pageErr
  split
  · exact twf_wr (twf_wr (twf_wr (twf_wr h _ _) _ _) _ _) _ _
  · exact twf_wr h _ _

theorem twf_busErr {s : State} (h : twf s.regs = true) (a c i : Nat) (w : Bool) : twf (s.busErr a c i w).regs = true := by
  unfold State.busErr
  split
  · exact twf_bump (twf_wr (twf_wr (twf_wr (twf_wr h _ _) _ _) _ _) _ _) _
  · exact twf_bump h _

theorem twf_complete {s : State} (h : twf s.regs = true) (p st r hd : Nat) : twf (s.complete p st r hd).regs = true :=
  twf_wr (twf_wr (twf_wr (twf_wr h _ _) _ _) _ _) _ _

end Sys2Proof.Machine
end

