-- ==== Sys2Proof/Tests/Slice0.lean ====
section
/-! SUPPORT. Tests of the model: ill-formed commands are refused; worked figures of the spec; and for every statement with hypotheses a
state and operands that meet them. -/

set_option Elab.async false

namespace Sys2Proof.Tests
open Sys2Proof Sys2Proof.Machine

/-! ### Ill-formed commands -/

theorem test_wf_initiator : wellFormed (.csnAbort 0 36) = false ∧ wellFormed (.csnAbort 0 35) = true := by decide
theorem test_wf_virtual_function : wellFormed (.registerWrite 0 0 16 0 0 8 0) = false ∧ wellFormed (.registerWrite 0 0 15 0 0 8 0) = true := by decide
theorem test_wf_page : wellFormed (.stagedWrite 0 0 1024 0 0) = false ∧ wellFormed (.stagedWrite 0 0 1023 0 0) = true := by decide
theorem test_wf_offset : wellFormed (.stagedWrite 0 0 0 512 0) = false ∧ wellFormed (.stagedWrite 0 0 0 511 0) = true := by decide
theorem test_wf_size : wellFormed (.registerWrite 0 0 0 0 0 0 0) = false ∧ wellFormed (.registerWrite 0 0 0 0 0 65 0) = false := by decide
theorem test_wf_ferrule : wellFormed (.ferruleReset 0 64) = false ∧ wellFormed (.ferruleReset 0 63) = true := by decide
theorem test_wf_inkwell_word : wellFormed (.inkwellWindowWrite 0 0 0 (2 ^ 18) 0) = false := by decide
theorem test_wf_nib : wellFormed (.nibRunStart 0 0 18) = false ∧ wellFormed (.nibRunStart 0 0 17) = true := by decide
theorem test_wf_scribe : wellFormed (.storeBufferDrain 0 32) = false ∧ wellFormed (.storeBufferDrain 0 31) = true := by decide
theorem test_wf_core : wellFormed (.add 33 0 0 0) = false ∧ wellFormed (.add 32 0 0 0) = true := by decide
theorem test_wf_desk : wellFormed (.snoopSnps 0 4 0) = false ∧ wellFormed (.snoopSnps 0 3 0) = true := by decide
theorem test_wf_channel : wellFormed (.dramPatrolRead 0 4 []) = false := by decide
theorem test_wf_dma_channel : wellFormed (.dmaBurst 0 32) = false ∧ wellFormed (.dmaBurst 0 31) = true := by decide
theorem test_wf_domain : wellFormed (.strokeOpen 0 4) = false ∧ wellFormed (.strokeOpen 0 3) = true := by decide
theorem test_wf_lane : wellFormed (.laneSignalLoss 0 1024) = false ∧ wellFormed (.laneSignalLoss 0 1023) = true := by decide
theorem test_wf_function : wellFormed (.egressDeadline 0 4096 0 0) = false := by decide
theorem test_wf_twin : wellFormed (.outputMessageArrive 0 0 2 0 0) = false := by decide
theorem test_wf_point : wellFormed (.egressDeadline 0 0 72 0) = false ∧ wellFormed (.egressDeadline 0 0 71 0) = true := by decide
theorem test_wf_tenant : wellFormed (.tenantFreezeComplete 0 16) = false := by decide
theorem test_wf_queue_pair : wellFormed (.qpTxFrame 0 64) = false ∧ wellFormed (.qpTxFrame 0 63) = true := by decide
theorem test_wf_publication : wellFormed (.gooseRetransmit 0 2048) = false := by decide
theorem test_wf_subscription : wellFormed (.strokeCutoff 0 4096) = false ∧ wellFormed (.strokeCutoff 0 4095) = true := by decide
theorem test_wf_input : wellFormed (.binaryInputChange 0 64 true) = false := by decide
theorem test_wf_subchannel : wellFormed (.trainingStepComplete 0 0 true 0 2 0 []) = false := by decide
theorem test_wf_source : wellFormed (.icuSourceWrite 0 0 640 0) = false ∧ wellFormed (.icuSourceWrite 0 0 639 0) = true := by decide
theorem test_wf_router : wellFormed (.flitParityError 0 64 0 0 true) = false := by decide
theorem test_wf_router_port : wellFormed (.flitParityError 0 0 5 0 true) = false := by decide
theorem test_wf_rank : wellFormed (.dramRefresh 0 0 2 0) = false := by decide
theorem test_wf_pair : wellFormed (.dupEntryExpire 0 516 0 0) = false ∧ wellFormed (.dupEntryExpire 0 515 0 0) = true := by decide
theorem test_wf_link_port : wellFormed (.ptpFollowUpRx 0 1034 0 0 0 0) = false := by decide
theorem test_wf_stimulus : wellFormed (.blotterStimWrite 0 0 32 0) = false := by decide
theorem test_wf_handle : wellFormed (.subDestroy 0 0 0 0 (2 ^ 36)) = false ∧ wellFormed (.subDestroy 0 0 0 0 (2 ^ 36 - 1)) = true := by decide
theorem test_wf_sequence : wellFormed (.dmcReset 0 0 0 256) = false ∧ wellFormed (.dmcReset 0 0 0 255) = true := by decide
theorem test_wf_replica : wellFormed (.timeReplicaRealign 0 76) = false := by decide
theorem test_wf_gateway : wellFormed (.gatewayLegArrive 0 0 63 0) = false ∧ wellFormed (.gatewayLegArrive 0 0 64 0) = true := by decide
theorem test_wf_sensor : wellFormed (.thermalSample 0 72 0) = false := by decide
theorem test_wf_monitor : wellFormed (.ageingMonitorSample 0 8 0) = false := by decide
theorem test_wf_rail : wellFormed (.railLow 0 8 0) = false := by decide
theorem test_wf_time_source : wellFormed (.sourceHoldoffExpire 0 6) = false := by decide

/-! ### States for the tests -/

theorem fstEq {α β : Type} {x : α × β} {a : α} (h : x.1 = a) : x = (a, x.2) := by subst h; rfl
theorem someGet {α : Type} {x : Option α} (h : x.isSome = true) : x = some (x.get h) := (Option.some_get h).symm

/-- The state after reset with some register fields written. -/
def st (l : List (Fld × Nat)) : State := l.foldl (fun s p => s.wr p.1 p.2) State.reset

/-- Scribe 0 runs at H, with its PC at 1000h, on the populated DRAM channel 0. -/
def run : State :=
  (st [(F.DSK_SST 0, 1), (F.DMC_EN 0, 1), (F.DMC_STATE 0, 2), (fldAt F.PWR_DOM.addr 0 2, 1)]).modScribe 0 (fun c => { c with pc := 0x1000 })

/-- The same state with the first instruction fetched. -/
def ran : State := coreCompare (fetch run 0).2 0 0 ((fetch run 0).2.scribe 0).pc 0

theorem run_inv : run.Inv :=
  ⟨by decide +kernel, by decide +kernel, by decide +kernel, by decide +kernel, by decide +kernel, by decide +kernel, by decide +kernel,
    by decide +kernel, by decide +kernel, by decide +kernel, by decide +kernel⟩

theorem run_ready : Ready run 0 ran :=
  ⟨by decide +kernel, by decide +kernel, by decide +kernel, (fetch run 0).2, Prod.ext (by decide +kernel) rfl, .inl (by decide +kernel), rfl⟩

/-- The same at K and at U. -/
def runAt (level : Nat) : State := run.modScribe 0 (fun c => { c with status := putField c.status 0 2 level })
def ranAt (level : Nat) : State := coreCompare (fetch (runAt level) 0).2 0 0 ((fetch (runAt level) 0).2.scribe 0).pc 0

theorem runAt_ready : Ready (runAt 0) 0 (ranAt 0) ∧ Ready (runAt 1) 0 (ranAt 1) :=
  ⟨⟨by decide +kernel, by decide +kernel, by decide +kernel, (fetch (runAt 0) 0).2, Prod.ext (by decide +kernel) rfl, .inl (by decide +kernel), rfl⟩,
    ⟨by decide +kernel, by decide +kernel, by decide +kernel, (fetch (runAt 1) 0).2, Prod.ext (by decide +kernel) rfl, .inl (by decide +kernel), rfl⟩⟩

/-! ### Witnesses: the block as a whole and the cores -/

theorem wit_front : (run.pending = []) ∧ ({ run with pending := [.supplyAonGood 0] } : State).pending = [.supplyAonGood 0] := ⟨rfl, rfl⟩

theorem wit_step : ∃ t, ({ State.reset with pending := [.supplyAonGood 5] } : State).Inv ∧
    step { State.reset with pending := [.supplyAonGood 5] } = .next t ∧ exec (.supplyAonGood 5) State.reset = .next t :=
  ⟨_, ⟨by decide, by decide, by decide, by decide, by decide, by decide, by decide, by decide, by decide, by decide, by decide⟩, rfl, rfl⟩

theorem wit_registers : twf run.scribes = true ∧ twf (run.scribe 0).g = true ∧ (5 : Nat) ≠ 0 ∧ (0 ≠ 1 ∨ (5 : Nat) ≠ 5) ∧ twf run.regs = true ∧
    F.CSN_CST.lo + F.CSN_CST.len ≤ 72 ∧ (F.CSN_CST.addr ≠ F.TIM_SRC.addr) := by decide +kernel

theorem wit_immediates : (71#19).toNat < 72 ∧ 72 ≤ (72#19).toNat := by decide

theorem wit_select : (31#14).toNat / 256 = 0 ∧ selCond (0 / 32) 0 = some true ∧ (10#14).toNat ≤ 10 ∧ 4096 ≤ (4096#14).toNat ∧ (4103#14).toNat ≤ 4103 ∧
    (4 ≤ (32#14).toNat ∧ (32#14).toNat / 2 % 2 = 0 ∧ (32#14).toNat / 4 ≤ 8) ∧ ((38#14).toNat / 2 % 2 = 1 ∧ (38#14).toNat / 4 ≤ 9) := by decide

theorem wit_float : (0 : Nat) ≠ 32 ∧ (0#3 ≠ 5 ∧ 0#3 ≠ 6) ∧ (7#3 ≠ 5 ∧ 7#3 ≠ 6) := by decide

theorem wit_load : effAddr ran 0 1 0 0 0x40 8 true = some (0x40, none) ∧
    ∃ q, memLoad ran (accOf ran 0 0 (encM 0x26 1 0 0 0x40)) 0x40 8 .clean = (.ok 0, q) :=
  ⟨by decide +kernel, _, fstEq (by decide +kernel)⟩

theorem wit_store : effAddr ran 0 1 0 0 0x40 8 false = some (0x40, none) ∧
    ∃ q, memStore ran (accOf ran 0 1 (encM 0x2B 1 0 0 0x40)) 0x40 8 (ran.g 0 1) .clean = (.ok (), q) :=
  ⟨by decide +kernel, _, fstEq (by decide +kernel)⟩

theorem wit_address_forms : ((1 : Nat) ≠ 0 ∧ ¬ (true = true ∧ (2 : Nat) = 1)) ∧ (31#16).toNat < 32 ∧ 32 ≤ (32#16).toNat := by decide

theorem wit_load_reserve : ∃ p u v q, wordPlace ran (accOf ran 0 0 (encR 0x04 1 0 0 0)) 0 = (.ok p, u) ∧
    readPart u (accOf ran 0 0 (encR 0x04 1 0 0 0)) p true .clean = (.ok v, q) :=
  ⟨{ ea := 0, len := 8, pa := 0, attr := 0, split := false }, _, 0, _, fstEq (by decide +kernel), fstEq (by decide +kernel)⟩

/-- A core with a reservation on word 0. -/
def held : State := ran.modScribe 0 (fun c => { c with resv := some 0 })

theorem wit_store_conditional :
    (∃ u, wordPlace ran (accOf ran 0 1 (encR 0x04 1 0 2 1)) 0 = (.ok { ea := 0, len := 8, pa := 0, attr := 0, split := false }, u) ∧
      dramFault u 0 = none ∧ (u.scribe 0).resv ≠ some 0) ∧
    ∃ u z l q, wordPlace held (accOf held 0 1 (encR 0x04 1 0 2 1)) 0 = (.ok { ea := 0, len := 8, pa := 0, attr := 0, split := false }, u) ∧
      dramFault u 0 = none ∧ (u.scribe 0).resv = some 0 ∧ drainAll u 0 = (true, z) ∧ cacheRead z 0 0 true .clean = (.ok (l, false), q) ∧
      (q.scribe 0).resv = some 0 :=
  ⟨⟨_, fstEq (by decide +kernel), by decide +kernel, by decide +kernel⟩,
    ⟨_, _, List.replicate 8 0, _, fstEq (by decide +kernel), by decide +kernel, by decide +kernel, fstEq (by decide +kernel),
      fstEq (by decide +kernel), by decide +kernel⟩⟩

/-- Scribe 0 with a destination, a source and a count for a block instruction. -/
def blockRun (left : Nat) : State := ran.modScribe 0 (fun c => { c with g := [(1, 0x100#72), (2, 0x80#72), (3, BitVec.ofNat 72 left)] })

theorem wit_block : blockOk 0 1 2 3 = true ∧ (blockRun 0).g 0 3 = 0 ∧ (blockRun 8).g 0 3 ≠ 0 ∧ 8 ≤ ((blockRun 8).g 0 1 - (blockRun 8).g 0 2).toNat ∧
    (∃ ps u pd v z q, blockPlace (blockRun 8) (accOf (blockRun 8) 0 0 (encR 0x07 1 2 3 0)) 0x80 8 = (.ok ps, u) ∧
      blockPlace u (accOf u 0 1 (encR 0x07 1 2 3 0)) 0x100 8 = (.ok pd, v) ∧
      readBytes v (accOf v 0 0 (encR 0x07 1 2 3 0)) ps false .clean = (.ok (List.replicate 8 0), z) ∧
      blockWrite z 0 pd (List.replicate 8 0) = (.ok (), q)) ∧
    (0x2000#14).toNat / 4096 = 2 ∧ (0x2000#14).toNat / 8 % 512 = 0 :=
  ⟨by decide +kernel, by decide +kernel, by decide +kernel, by decide +kernel,
    ⟨{ ea := 0x80, len := 8, pa := 0x80, attr := 0, split := false }, _, { ea := 0x100, len := 8, pa := 0x100, attr := 0, split := false }, _, _, _,
      fstEq (by decide +kernel), fstEq (by decide +kernel), fstEq (by decide +kernel), fstEq (by decide +kernel)⟩,
    by decide, by decide⟩

theorem wit_block_forms : (0 : Nat) = 32 ∨ (1#5 = 0 ∨ 1#5 = 1#5) := by decide

theorem wit_system : (∃ q, storesVisible ran 0 = (true, q)) ∧
    (∃ row, sregRow 0 1 = some row ∧ row.rd ≠ 3 ∧ row.rd ≤ coreLevel ran 0) ∧ (∃ row, sregRow 0 2 = some row ∧ row.wr ≠ 3 ∧ row.wr ≤ coreLevel ran 0) ∧
    coreLevel ran 0 = 2 ∧ getField (ran.g 0 1) 0 2 ≠ 3 ∧ coreLevel (ranAt 1) 0 = 1 ∧ getField ((ranAt 1).g 0 1) 0 2 < 2 :=
  ⟨⟨_, fstEq (by decide +kernel)⟩, ⟨_, someGet (by decide +kernel), by decide +kernel, by decide +kernel⟩,
    ⟨_, someGet (by decide +kernel), by decide +kernel, by decide +kernel⟩, by decide +kernel, by decide +kernel, by decide +kernel,
    by decide +kernel⟩

theorem wit_cache_line : ∃ q z, linePlace ran 0 (encR 0x09 1 0 0 0x00A) 0 0 = (.ok (0, 0), q) ∧ (q.l2 0 0).st = 0 ∧ cleanLine q 0 0 = some z :=
  ⟨_, _, fstEq (by decide +kernel), by decide +kernel, someGet (by decide +kernel)⟩

theorem wit_time : ran.tick 0 = ran := by
  show ({ ran with now := max ran.now 0 } : State) = ran
  have h : max ran.now 0 = ran.now := by decide +kernel
  rw [h]

theorem wit_time_word : (2 ^ 40 - 1 : Nat) < 2 ^ 40 ∧ (10 ^ 9 - 1 : Nat) < 10 ^ 9 := by decide

theorem wit_wait : coreIssues run 0 = true ∧ (run.scribe 0).haltReq = false ∧ coreInterrupt run 0 = none ∧ (∃ f, fetch run 0 = (.ok (), f) ∧
    fetchHalts f 0 (f.scribe 0).pc = false ∧ coreLevel f 0 ≠ 0 ∧ icuClaimable f 0 = none) ∧ coreLevel ran 0 ≠ 0 ∧ icuClaimable ran 0 = none :=
  ⟨by decide +kernel, by decide +kernel, by decide +kernel, ⟨_, fstEq (by decide +kernel), by decide +kernel, by decide +kernel, by decide +kernel⟩,
    by decide +kernel, by decide +kernel⟩

theorem wit_breakpoint : ran.isSet F.BLT_ATTACH = false ∧ (((ran.wr F.BLT_ATTACH 1).wr F.BLT_BRKH 1).isSet F.BLT_ATTACH = true ∧
    bitOf (((ran.wr F.BLT_ATTACH 1).wr F.BLT_BRKH 1).rd F.BLT_BRKH) 0 = true) := by decide +kernel

/-- A frame at the exception stack pointer that returns to H: STATUS 2 in its second word. -/
def returning : State := (ran.memStore 0 [0x2000, 2, 0, 0, 0, 0, 0, 0] false)

theorem wit_return : coreLevel returning 0 ≠ 0 ∧
    (∃ w0 u w1 q, memLoad returning (accOf returning 0 0 (encR 0x09 0 0 0 1)) (sr returning 0 (espNum 2)) 8 .clean = (.ok w0, u) ∧
      memLoad u (accOf returning 0 0 (encR 0x09 0 0 0 1)) (sr returning 0 (espNum 2) + 8) 8 .clean = (.ok w1, q) ∧ getField w1 0 2 = 2 ∧
      getField (q.scribe 0).hctl 0 1 = 1) :=
  ⟨by decide +kernel, 0x2000, _, 2, _, fstEq (by decide +kernel), fstEq (by decide +kernel), by decide +kernel, by decide +kernel⟩

theorem wit_privileged : coreLevel (ranAt 0) 0 = 0 ∧ (7#10).toNat ≤ 7 ∧ (∃ row, sregRow 0 0 = some row ∧ row.wr ≠ 3 ∧ coreLevel (ranAt 0) 0 < row.wr) ∧
    coreLevel (ranAt 1) 0 = 1 ∧ (4 ≤ (4#10).toNat ∧ (4#10).toNat ≤ 7) ∧
    getField (((ranAt 1).setG 0 1 2).g 0 1) 0 2 = 2 ∧ getField ((ran.setG 0 1 3).g 0 1) 0 2 = 3 :=
  ⟨by decide +kernel, by decide, ⟨_, someGet (by decide +kernel), by decide +kernel, by decide +kernel⟩, by decide +kernel, by decide,
    by decide +kernel, by decide +kernel⟩

/-- Scribe 0 with MASK 0 and room on its exception stack at H. -/
def unmasked : State := ran.modScribe 0 (fun c => { c with status := putField c.status 2 4 0, sr := [(0x004, 0x1000#72)] })

theorem wit_exception : (8 : Nat) ≤ 0x0A ∧ scribeMask (unmasked.scribe 0) < classLevel 8 ∧ (sr unmasked 0 (slimNum 2)).toNat ≤ (sr unmasked 0 (espNum 2) - 64).toNat ∧
    (∃ q, writeFrame unmasked 0 2 (sr unmasked 0 (espNum 2) - 64)
      (excFrame unmasked 0 { level := 2, code := 8, orig := 8, num := 0, mask := classLevel 8, x := { code := 8 } }) = (.ok (), q)) ∧
    ((2 : Nat) = 1 ∨ (2 : Nat) = 2) ∧ (15 : Nat) < 16 :=
  ⟨by decide, by decide +kernel, by decide +kernel, ⟨_, fstEq (by decide +kernel)⟩, by decide, by decide⟩

/-- The same with MASK 14, so that an exception of a lower class escalates. -/
def masked : State := unmasked.modScribe 0 (fun c => { c with status := putField c.status 2 4 14 })

theorem wit_escalation : (classLevel 8 ≤ scribeMask (ran.scribe 0) ∧ scribeMask (ran.scribe 0) = 15) ∧
    classLevel 8 ≤ scribeMask (masked.scribe 0) ∧ scribeMask (masked.scribe 0) ≠ 15 ∧
    (sr masked 0 0x005).toNat ≤ (sr masked 0 0x004 - 64).toNat + 128 ∧ (sr masked 0 0x004 - 64).toNat + 128 < 2 ^ 72 ∧
    ∃ q, writeFrame masked 0 2 (sr masked 0 0x004 - 64) (excFrame masked 0 { level := 2, code := 0x0C, orig := 8, mask := 15, x := { code := 8 } }) = (.ok (), q) :=
  ⟨by decide +kernel, by decide +kernel, by decide +kernel, by decide +kernel, by decide +kernel, _, fstEq (by decide +kernel)⟩

theorem wit_register_frame : ∃ t, exec (.add 0 1 2 3) run = .next t ∧ (ran.scribe 0).stepping = false ∧ (ran.scribe 0).haltReq = false :=
  ⟨_, rfl, by decide +kernel, by decide +kernel⟩

theorem wit_store_frame : effAddr ran 0 1 0 0 0x40 8 false = some (0x40, none) ∧ ∃ u,
    locate ran (accOf ran 0 1 (encM 0x2B 1 0 0 0x40)) 0x40 8 = (.ok [{ ea := 0x40, len := 8, pa := 0x40, attr := 0, split := false }], u) ∧
    dramFault u 0x40 = none ∧ (u.scribe 0).sb.length < 8 :=
  ⟨by decide +kernel, _, fstEq (by decide +kernel), by decide +kernel, by decide +kernel⟩

/-- Scribe 0 with one entry in its store buffer, whose line its desk holds in M. -/
def draining : State := (run.l2Install 0 1 { line := 1, st := 4, words := List.replicate 8 0 }).modScribe 0 (fun c => { c with sb := [(1, [(0, 0x1FF)])] })

theorem wit_drain : draining.Inv ∧ ((draining.tick 0).scribe 0).sb = (1, [(0, 0x1FF)]) :: [] ∧ (draining.l2 0 1).st = 4 ∧ draining.now ≤ 0 :=
  ⟨⟨by decide +kernel, by decide +kernel, by decide +kernel, by decide +kernel, by decide +kernel, by decide +kernel, by decide +kernel,
    by decide +kernel, by decide +kernel, by decide +kernel, by decide +kernel⟩, by decide +kernel, by decide +kernel, by decide +kernel⟩

/-! ### Witnesses: the nibs -/

/-- Nib 0 of ferrule 0 runs function 0, 16 parcels long with a budget of 1,000 cycles. -/
def nibRun : State :=
  (st [(F.FER_NST 0 0, 1), (F.FER_SV 0 0, 1), (F.FER_FSTATE 0, 2)]).setFn 0
    { desc := { fd := [0, 1000, 16, 0] }, a := { fer := 0, nib := 0, slot := 0 }, loaded := true }

def nibCtx : RunCtx := (slotCtx nibRun 0 0 (nibRun.nib 0 0).slot).get (by decide +kernel)

theorem nibRun_inv : nibRun.Inv :=
  ⟨by decide +kernel, by decide +kernel, by decide +kernel, by decide +kernel, by decide +kernel, by decide +kernel, by decide +kernel,
    by decide +kernel, by decide +kernel, by decide +kernel, by decide +kernel⟩

theorem nibRun_at : NibAt nibRun 0 0 nibCtx (nibCompare nibRun 0 0 0 (nibCtx.p.prog + 0)).1 :=
  ⟨by decide +kernel, someGet _, by decide +kernel, (nibCompare nibRun 0 0 0 (nibCtx.p.prog + 0)).2, rfl, by decide +kernel⟩

theorem wit_nib_instruction : (nibRun.nib 0 0).holds 0 = true ∧
    NibRow nibCtx (nibRun.nib 0 0) 0 0 0 0 0 .clean (.nibNop 0 0 0 0 0 .clean, 0, ctlChecks 0, id) ∧
    NibReady nibRun 0 0 0 nibCtx (ctlChecks 0) (nibCompare nibRun 0 0 0 (nibCtx.p.prog + 0)).1 :=
  ⟨by decide +kernel, List.mem_cons_self, ⟨nibRun_at, by decide +kernel, by decide +kernel⟩⟩

theorem wit_nib_condition : (nibRun.nib 0 0).holds 1 = false ∧
    NibReady nibRun 0 0 1 nibCtx (ctlChecks 0) (nibCompare nibRun 0 0 0 (nibCtx.p.prog + 0)).1 :=
  ⟨by decide +kernel, ⟨nibRun_at, by decide +kernel, by decide +kernel⟩⟩

theorem wit_nib_fault : (NibErr.program ≠ .corrected) ∧
    firstFault (ctlChecks 0) nibCtx.x.desc.plen (nibRun.nib 0 0).pc ((nibRun.nib 0 0).holds 0) .program = some (3, 1) ∧
    firstFault (ctlChecks 14) nibCtx.x.desc.plen (nibRun.nib 0 0).pc ((nibRun.nib 0 0).holds 0) .clean = some (2, 1) ∧
    (let u := nibRun.setFn 0 { nibRun.fn 0 with desc := { (nibRun.fn 0).desc with prog := [0x1D#72 <<< 6] } }
     u.rd (F.FER_NST 0 0) = 1 ∧ (slotCtx u 0 0 (u.nib 0 0).slot).any (fun c => noOpcode c.x.desc (u.nib 0 0).pc && !(nibCompare u 0 0 0 c.p.prog).2) = true) := by decide +kernel

theorem wit_nib_window :
    firstFault { ctlChecks 1 with isEnd := true } nibCtx.x.desc.plen (nibRun.nib 0 0).pc true .clean = none ∧
    NibReady nibRun 0 0 0 nibCtx { ctlChecks 2 with win := if (nibRun.nib 0 0).released then some 6 else none }
      (nibCompare nibRun 0 0 0 (nibCtx.p.prog + 0)).1 ∧
    NibReady nibRun 0 0 0 nibCtx { cyc := 6, ext := true, undef := false, range := winRange nibRun nibCtx (nibRun.nib 0 0) 0 false 0 }
      (nibCompare nibRun 0 0 0 (nibCtx.p.prog + 0)).1 :=
  ⟨by decide +kernel, ⟨nibRun_at, by decide +kernel, by decide +kernel⟩, ⟨nibRun_at, by decide +kernel, by decide +kernel⟩⟩

/-! ### Witnesses: register pages and countersigning -/

theorem wit_access : pageKind (deskWord 1 16) ≠ none ∧ pageAdmits State.reset 0x20 0 (deskWord 1 16) 16 true = true ∧
    pageAdmits State.reset 0x20 0 (deskWord 1 16) 16 false = true ∧ (4 : Nat) ≠ 8 ∧ wordFields (deskWord 1 16) 16 ≠ none ∧ alwaysOn (deskWord 1 16) 16 = true := by
  decide +kernel

/-- Scribe page 200h while the chip is in reset: the access stalls; one that stalled waits, and its block has left reset. -/
def stalling : State := { st [(F.PWR_DST 0, 0)] with phase := 1, stalled := [{ id := 3, init := 0x20, vf := 0, page := 0x200, off := 8, write := true, value := 1, issued := 0, insn := false }] }

theorem wit_stall : wordFields 0x200 8 ≠ none ∧ alwaysOn 0x200 8 = false ∧ pagePowered stalling 0x200 = true ∧ pageInReset stalling 0x200 = true ∧
    (∃ a, stalling.stalledAt 3 = some a ∧ a.insn = false ∧ stalling.now < a.issued + 2000 ∧ a.issued + 2000 ≤ (stalling.tick 2000).now ∧
      pageInReset ({ stalling with phase := 0 } : State) a.page = false ∧
      ∀ b ∈ stalling.stalled, b.id < a.id → b.init = a.init → b.page ≠ a.page) :=
  ⟨by decide +kernel, by decide +kernel, by decide +kernel, by decide +kernel, _, someGet (by decide +kernel), by decide +kernel, by decide +kernel,
    by decide +kernel, by decide +kernel, by decide +kernel⟩

theorem wit_records : State.reset.Inv ∧ (2 ^ 44 - 1 : Nat) < 2 ^ 44 ∧ 0 < 255 ∧ (255 : Nat) < 256 ∧ State.reset.rd F.DEV_BCODE = 0 ∧
    (State.reset.busErr 0 6 0x20 true).rd F.DEV_BCODE ≠ 0 ∧ (0x2FF : Nat) < 0x300 ∧ (511 : Nat) < 512 ∧ (2 ^ 40 - 1 : Nat) < 2 ^ 40 ∧
    State.reset.rd (F.HDR_ECODE 0x2FF) = 0 ∧ (State.reset.pageErr 4 0x10 0 0).rd (F.HDR_ECODE 4) ≠ 0 ∧ (2 ^ 36 - 1 : Nat) < 2 ^ 36 :=
  ⟨⟨by decide, by decide, by decide, by decide, by decide, by decide, by decide, by decide, by decide, by decide, by decide⟩, by decide +kernel⟩

theorem wit_vote : ∃ l, wordFields 1 8 = some l ∧ (2 : Nat) ≤ 8 ∧ (1#72) &&& fieldMask l (fun f => f.voted) ≠ 0 :=
  ⟨_, someGet (by decide +kernel), by decide, by decide +kernel⟩

theorem wit_inkwell : (63 : Nat) < 64 ∧ (2 ^ 18 - 1 : Nat) < 2 ^ 18 ∧ regionFault (st [(fldAt (0x2A0 * 512 + 17) 62 2, 0)]) 0x20 (.inkwell 63 (2 ^ 18 - 1)) false = none ∧
    regionFault (st [(fldAt (0x2A0 * 512 + 17) 62 2, 0)]) 0x20 (.inkwell 63 0) true = none := by decide +kernel

theorem wit_doorbell : Passes State.reset 0x20 4 8 true ∧ (State.reset.wr (F.DBL_STATE 4) 1).rd (F.DBL_STATE 4) = 1 ∧
    State.reset.rd (F.DBL_STATE 4) ≠ 1 ∧ 5 % 256 ≠ State.reset.rd (F.HDR_SEQ 4) :=
  ⟨⟨by decide +kernel, by decide +kernel⟩, by decide +kernel, by decide +kernel, by decide +kernel⟩

/-- Parties 1 and 2 may propose and countersign. -/
def parties : State := st [(F.CSN_PROP, 6), (F.CSN_CSGN, 6)]

/-- Word 320 of page 102h, a commit-protected word of subscription slot 0, staged by the management controller. -/
def proposed : State := match exec (.stagedWrite 0 0x20 0x102 320 1) parties with | .next s => s | _ => parties

theorem wit_proposal : deskWord 0x102 320 = 0x102 ∧ wordFields 0x102 320 ≠ none ∧ alwaysOn 0x102 320 = true ∧ pageAdmits parties 0x20 0 0x102 320 true = true ∧
    csMask 0x102 320 ≠ 0 ∧ parties.rd F.CSN_CST = 0 ∧ mayPropose parties (party parties 0x20) = true := by decide +kernel

/-- The same proposal sealed, with its window open since 0. -/
def sealed : State := proposed.wr F.CSN_CST 2

theorem wit_seal : proposed.rd F.CSN_CST = 1 ∧ party (proposed.wr (F.CSN_DIG 0) 5) 0x20 = proposed.rd F.CSN_PPARTY ∧
    (5#72) ≠ csnDigest (proposed.wr (F.CSN_DIG 0) 5) ∧
    csnDigest proposed = csnDigest (proposed.wr (F.CSN_DIG 0) (csnDigest proposed).toNat) ∧ parties.rd F.CSN_CST ≠ 1 := by decide +kernel

theorem wit_countersign : sealed.rd F.CSN_CST = 2 ∧ sealed.devTime < sealed.csn.windowAt + 2000000000 ∧ maySign sealed 0 = false ∧
    maySign (sealed.wr (F.CSN_DIG 1) 5) (party sealed 0) = true ∧ (5#72) ≠ csnDigest (sealed.wr (F.CSN_DIG 1) 5) ∧
    party sealed 0x20 = sealed.rd F.CSN_PPARTY ∧ parties.rd F.CSN_CST ≠ 1 ∧ parties.rd F.CSN_CST ≠ 2 := by decide +kernel

theorem wit_window : (sealed.tick 2000000000).rd F.CSN_CST = 2 ∧ (sealed.tick 2000000000).csn.windowAt + 2000000000 ≤ (sealed.tick 2000000000).devTime ∧
    (sealed.tick 1999999999).devTime < (sealed.tick 1999999999).csn.windowAt + 2000000000 := by decide +kernel

theorem wit_commit :
    (let u : State := { (proposed.wr F.CSN_CST 3) with csn := { proposed.csn with commitAt := some 20000 } }
     u.rd F.CSN_CST = 3 ∧ u.csn.commitAt = some 20000 ∧ 20000 ≤ (u.tick 20000).devTime ∧ (u.tick 19999).devTime < 20000) ∧
    (let u := (proposed.wr F.CSN_CST 3).tick 1000000000
     u.rd F.CSN_CST = 3 ∧ u.csn.commitAt = none ∧ u.csn.acceptAt + 1000000000 ≤ u.devTime) := by decide +kernel

theorem wit_proposal_end : proposed.Inv ∧ (7 : Nat) < 8 ∧ (3 : Nat) < 4 ∧ (0x102 ∈ csnPages proposed ∧ 0x102 < 0x300) :=
  ⟨⟨by decide +kernel, by decide +kernel, by decide +kernel, by decide +kernel, by decide +kernel, by decide +kernel, by decide +kernel,
    by decide +kernel, by decide +kernel, by decide +kernel, by decide +kernel⟩, by decide, by decide, by decide +kernel⟩

theorem wit_commit_entries : twf proposed.regs = true ∧ (proposed.csn.entries.map Prod.fst).Nodup ∧ proposed.csn.entries ≠ [] ∧
    (0 : Nat) ∉ proposed.csn.entries.map Prod.fst := by decide +kernel

/-! ### Witnesses: device time -/

theorem wit_time_set : wordTime 0x100000000 = some 1000000000 ∧ (State.reset.wr F.TIM_SETV 0x100000000).rd F.TIM_QSTATE = 0 ∧
    runningDomains (State.reset.wr F.TIM_SETV 0x100000000) = [] ∧ wordTime 1 = none ∧ runningDomains (st [(F.DOM_RUN 0, 1)]) ≠ [] := by decide +kernel

theorem wit_time_selected : ∀ p ∈ [((11, 1) : Nat × Nat), (12, 2), (16, 1), (16, 2), (17, 3), (18, 4)],
    (st [(F.TIM_SRC, p.2)]).rd F.TIM_SRC = p.2 ∧ timWordSelected (st [(F.TIM_SRC, p.2)]) p.1 = true ∧ p.1 ∈ [11, 12, 16, 17, 18] ∧
    pageAdmits (st [(F.TIM_SRC, p.2)]) 0x20 0 2 p.1 true = true := by decide +kernel

theorem wit_time_config : timWordSelected State.reset 16 = false ∧ timWordSelected State.reset 17 = false ∧
    (State.reset.writeRW 2 17 0).isSet F.TIM_EN_17 = false ∧ ∃ v, (State.reset.writeRW 2 17 v).isSet F.TIM_EN_17 = true :=
  ⟨by decide +kernel, by decide +kernel, by decide +kernel, BitVec.allOnes 72, by decide +kernel⟩

theorem wit_time_events : (st [(F.TIM_EXT, 1), (F.TIM_LEAPP, 1)]).isSet F.TIM_EXT = true ∧ (st [(F.TIM_EXT, 1), (F.TIM_LEAPP, 1)]).isSet F.TIM_LEAPP = true ∧
    State.reset.isSet F.TIM_EXT = false ∧ 3 ∈ srcList (st [(F.TIM_PRI0, 3)]) ∧ 3 ∉ srcList State.reset ∧
    qualityNow (st [(F.TIM_QSTATE, 2)]).errSync ≠ (st [(F.TIM_QSTATE, 2)]).rd F.TIM_QSTATE := by decide +kernel

/-- Source 1 qualified and listed first, and the same source selected and used. -/
def qualified : State := (st [(F.TIM_PRI0, 1)]).setSrc 1 { qual := true }
def locked : State := (st [(F.TIM_PRI0, 1), (F.TIM_SRC, 1)]).setSrc 1 { qual := true, used := true }

theorem wit_selection : qualified.Inv ∧ srcChoice qualified.errSync ≠ qualified.rd F.TIM_SRC :=
  ⟨⟨by decide +kernel, by decide +kernel, by decide +kernel, by decide +kernel, by decide +kernel, by decide +kernel, by decide +kernel,
    by decide +kernel, by decide +kernel, by decide +kernel, by decide +kernel⟩, by decide +kernel⟩

theorem wit_measured : (1 : Nat) ≤ 4 ∧ (-5 : Int) ≠ 0 ∧ locked.rd F.TIM_SRC = 1 ∧ (locked.src 1).used = true ∧ locked.tim.holding = false ∧
    locked.rd F.TIM_SRC ≠ 4 := by decide +kernel

/-- PTP source A listens on uplink 0 in domain 0, with a Sync heard and waiting for its Follow_Up. -/
def listening : State := (st [(F.TIM_EN_11 0, 1), (F.TIM_MAXCC 0, 6)]).setSrc 1 { wait := some (7, 100, 0), announced := true }

theorem wit_ptp : ptpOn listening 0 0 = [0] ∧ ptpOn listening 0 1 = [] ∧ (listening.src 1).wait = some (7, 100, 0) ∧ listening.rd F.TIM_SRC ≠ 0 + 1 ∧
    6 ≤ listening.rd (F.TIM_MAXCC 0) ∧ (6 : Nat) < 256 ∧ (listening.src 1).lastAnn + 3 * (listening.src 1).annInt ≤ listening.now := by decide +kernel

/-- IRIG-B and 1PPS enabled and qualified, their last marks at 0. -/
def pulsed : State := ((st [(F.TIM_EN_17, 1), (F.TIM_EN_18, 1)]).setSrc 3 { qual := true, miss := 1 }).setSrc 4 { qual := true, run := 1 }

theorem wit_pulses : pulsed.isSet F.TIM_EN_17 = true ∧ pulsed.isSet F.TIM_EXT = false ∧ (pulsed.src 3).qual = true ∧ 1 ≤ (pulsed.src 3).miss ∧
    (∀ t ∈ [999999000, 1000001000], (pulsed.src 3).lastMark + 1000000000 ≤ (pulsed.tick t).now + 1000 ∧ (pulsed.tick t).now ≤ (pulsed.src 3).lastMark + 1000001000) ∧
    pulsed.rd F.TIM_SRC ≠ 3 ∧ pulsed.isSet F.TIM_EN_18 = true ∧ pulsed.isSet F.TIM_EDGE = false ∧ (pulsed.src 4).qual = true ∧ 0 < (pulsed.src 4).run ∧
    (pulsed.src 4).lastMark + 1000001000 < (pulsed.tick 1000001001).now ∧ (pulsed.src 4).miss = 0 ∧ State.reset.isSet F.TIM_EN_17 = false := by decide +kernel

/-! ### Witnesses: links -/

/-- Lane 0 of a running ferrule in link-up, in 1000BASE-X mode (2). -/
def linkUp : State := (st [(F.FER_FSTATE 0, 2), (fldAt (0x2A0 * 512 + 16) 0 2, 0), (F.LNK_EN (portBlock 0), 1), (F.LNK_MODE (portBlock 0), 2),
  (F.LNK_LST (portBlock 0), 4), (F.LNK_SIG (portBlock 0), 1), (F.LNK_AN (portBlock 0), 1), (F.LNK_MAXLEN (portBlock 0), 1522)]).setPort 0 { sig := true, pcs := true }

theorem linkUp_inv : linkUp.Inv :=
  ⟨by decide +kernel, by decide +kernel, by decide +kernel, by decide +kernel, by decide +kernel, by decide +kernel, by decide +kernel,
    by decide +kernel, by decide +kernel, by decide +kernel, by decide +kernel⟩

theorem wit_link_events : (let dark := linkUp.setPort 0 { linkUp.port 0 with sig := false, pcs := false }
     portActive dark 0 = true ∧ dark.isSet (F.LNK_SIG (portBlock 0)) = true ∧ portEn (dark.wr (F.LNK_SIG (portBlock 0)) 0) 0 = true) ∧
    (let dark := (linkUp.wr (F.LNK_EN (portBlock 0)) 0).setPort 0 { linkUp.port 0 with sig := false, pcs := false }
     portActive dark 0 = true ∧ dark.isSet (F.LNK_SIG (portBlock 0)) = true ∧ portEn (dark.wr (F.LNK_SIG (portBlock 0)) 0) 0 = false) ∧ portActive (linkUp.setPort 0 { linkUp.port 0 with pcs := false }) 0 = true ∧
    2 < portLst (linkUp.setPort 0 { linkUp.port 0 with pcs := false }) 0 ∧ portMode linkUp 0 = 2 ∧ linkUp.isSet (F.LNK_AN (portBlock 0)) = true ∧
    3 ≤ portLst linkUp 0 ∧ portLst linkUp 0 = 4 ∧ (linkUp.port 0).stopping = false ∧
    ((linkUp.setPort 0 { linkUp.port 0 with stopping := true }).port 0).stopping = true := by decide +kernel

theorem wit_link_state : (1023 : Nat) < 1024 ∧ (5 : Nat) < 6 ∧ portLst linkUp 0 ≠ 5 ∧ portLst linkUp 0 = 4 ∧ portLst linkUp 1 ≠ 4 := by decide +kernel

theorem wit_link_configuration : portAt 0x101 0 = some 0 ∧ Passes linkUp 0x20 0x101 (portOff 0) true ∧ lcfgBad linkUp 0 0 = true ∧
    (∃ v : Word, lcfgBad linkUp 0 v = false ∧ portEn (showSig (linkUp.writeRW 0x101 (portOff 0) v) 0) 0 = portEn linkUp 0) ∧
    (∃ v : Word, lcfgBad linkUp 0 v = false ∧ portEn linkUp 0 = true ∧ portEn (showSig (linkUp.writeRW 0x101 (portOff 0) v) 0) 0 = false) ∧
    (let off := linkUp.wr (F.LNK_EN (portBlock 0)) 0
     lcfgBad off 0 (linkUp.word (portBlock 0)) = false ∧ portEn off 0 = false ∧ portEn (showSig (off.writeRW 0x101 (portOff 0) (linkUp.word (portBlock 0))) 0) 0 = true) :=
  ⟨by decide +kernel, ⟨by decide +kernel, by decide +kernel⟩, by decide +kernel,
    ⟨linkUp.word (portBlock 0), by decide +kernel, by decide +kernel⟩,
    ⟨linkUp.word (portBlock 0) &&& ~~~1#72, by decide +kernel, by decide +kernel, by decide +kernel⟩, by decide +kernel⟩

theorem wit_pairs : Passes (st [(fldAt F.PWR_DOM.addr 2 2, 1)]) 0x20 0x288 8 true ∧ getField (0x10003#72) 0 2 = 3 ∧ getField (1001#72 <<< 16) 16 10 = 1001 ∧
    getField (1000#72 <<< 16) 0 2 = (st [(fldAt F.PWR_DOM.addr 2 2, 1)]).rd (fPairMode 512) ∧ (1 ≤ getField (1000#72 <<< 16) 16 10 ∧ getField (1000#72 <<< 16) 16 10 ≤ 1000) ∧
    isCell linkUp 0 = false ∧ Passes linkUp 0x20 (portPage 0) (portOff 0 + 5) true :=
  ⟨⟨by decide +kernel, by decide +kernel⟩, by decide, by decide, by decide +kernel, by decide, by decide +kernel, ⟨by decide +kernel, by decide +kernel⟩⟩

/-- A sample frame of 64 octets for APPID 4000h. -/
def frame : RxFrame where
  lineOk := true
  len := 64
  dmac := 0x010CCD040001
  smac := 0x020000000001
  vlan := .untagged
  red := .none
  etype := 0x88BA
  appid := 0x4000
  apdu := .sv false 1 [{ svId := [], smpCnt := 0, confRev := 1, smpSynch := 2, smpRate := none, dataOctets := 8, data := [] }]
  auth := none
  stamp := 0
  octets := []

/-- A subscription of that stream on lane 0. -/
def subscribed : State :=
  ((((linkUp.setSub 0 { since := 1 }).wr (F.SUB_SSTATE_23 0) 1).wr (F.SUB_A0 0) (1 + 0x1F * 2 ^ 15)).wr (F.SUB_A1 0) 0x010CCD040001).wr (F.SUB_A2 0) 0x4000

theorem wit_frames : portEn linkUp 0 = true ∧ isEthernet linkUp 0 = true ∧ portActive linkUp 0 = true ∧ portLst linkUp 0 = 4 ∧
    frame.lineOk = true ∧ 64 ≤ frame.len ∧ frame.len ≤ linkUp.rd (F.LNK_MAXLEN (portBlock 0)) ∧ stage3Bad linkUp 0 frame = false ∧
    stage3Bad linkUp 0 { frame with vlan := .refused } = true ∧ portPairMode linkUp 0 = 0 ∧ rxEtype linkUp 0 frame = 0x88BA ∧
    apduDecodes 0x88BA frame.apdu = true ∧ peerFrame (partnerLearn linkUp 0 frame) 0 frame = false ∧
    stage8 (partnerLearn linkUp 0 frame) 0 frame none = (partnerLearn linkUp 0 frame, true) ∧ portLst State.reset 0 ≠ 4 :=
  ⟨by decide +kernel, by decide +kernel, by decide +kernel, by decide +kernel, by decide, by decide, by decide +kernel, by decide +kernel, by decide +kernel,
    by decide +kernel, by decide +kernel, by decide +kernel, by decide +kernel, rfl, by decide +kernel⟩

theorem wit_frame_matched : rxMatch (partnerLearn subscribed 0 frame) 0 frame = some 0 ∧ authOk (partnerLearn subscribed 0 frame) 0 frame = true ∧
    authOk (partnerLearn ((subscribed.wr (F.SUB_A0 0) 1).wr (F.KEY_ALG (subKey 0 0)) 1) 0 frame) 0 frame = false := by decide +kernel

/-- Uplink 9 (MGT1) up in mode 2; a plain frame and a Sync waiting on lane 0. -/
def management : State := st [(F.LNK_EN (portBlock 1033), 1), (F.LNK_MODE (portBlock 1033), 2), (F.LNK_LST (portBlock 1033), 4)]
def waiting (b : TxBody) : State := linkUp.setPort 0 { linkUp.port 0 with txq := [{ cls := 5, signoff := false, red := .none, keyId := none, body := b }] }

theorem wit_uplink_frames : (9 : Nat) < 10 ∧ portEn management 1033 = true ∧ isEthernet management 1033 = true ∧ portActive management 1033 = true ∧
    portLst management 1033 = 4 := by decide +kernel

theorem wit_transmission : ∀ b ∈ [TxBody.raw [0], .ptpSync 3], portEn (waiting b) 0 = true ∧ isEthernet (waiting b) 0 = true ∧ portSends (waiting b) 0 = true ∧
    nextFrame ((waiting b).port 0).txq = some { cls := 5, signoff := false, red := .none, keyId := none, body := b } ∧
    portActive ((waiting b).setPort 0 { (waiting b).port 0 with txq := [] }) 0 = true ∧ (linkUp.port 0).txq = [] := by decide +kernel

/-- The lane is a PTP master in mode 2, with a Pdelay_Req out. -/
def master : State := (linkUp.wr (F.LNK_PTPM (portBlock 0)) 1).setPort 0 { linkUp.port 0 with pdelay := some (4, 100) }

theorem wit_ptp_lanes : ptpLane master 0 = true ∧ master.isSet (F.LNK_PTPM (portBlock 0)) = true ∧ tget master.tim.lastSyncTx 0 = 0 ∧
    tget master.tim.lastAnnTx 0 = 0 ∧ tget master.tim.lastPdelayTx 0 = 0 ∧ portLst master 0 = 4 ∧ (master.port 0).pdelay = some (4, 100) ∧
    (300 - 200 : Nat) ≤ 400 - 100 ∧ (400 - 100 - (300 - 200)) / 2 < 2 ^ 16 := by decide +kernel

/-- Lane 0 in the cell-link mode at 2.5 GBd (4), in its exchange, and in operation. -/
def cellLink (lst : Nat) : State := (linkUp.wr (F.LNK_MODE (portBlock 0)) 4).wr (F.LNK_LST (portBlock 0)) lst

theorem wit_cell_checks : portLst State.reset 0 < 3 ∧ portActive (cellLink 3) 0 = true ∧ portEn (cellLink 3) 0 = true ∧ isCell (cellLink 3) 0 = true ∧
    3 ≤ portLst (cellLink 3) 0 ∧ (cellFrame 3 0 0 []).length = 32 ∧ (cellFrame 3 0 0 []).getD 0 0 = 0x31 ∧
    (octetsOf (crc32c ((cellFrame 3 0 0 []).take 28)) 4).reverse = (cellFrame 3 0 0 []).drop 28 := by decide +kernel

theorem wit_cell_exchange : portLst (cellLink 3) 0 = 3 ∧ ((cellLink 3).cell 0).echoing = false ∧ ((cellLink 3).cell 0).capAt = 0 ∧
    coversLaunch (cellLink 3) 0 = false ∧ ((cellLink 3).cell 0).enteredAt + 10000000 ≤ ((cellLink 3).tick 10000000).now ∧
    (let u := (cellLink 3).setCell 0 { (cellLink 3).cell 0 with echoing := true, echoOut := some 0 }
     (u.cell 0).echoing = true ∧ (u.cell 0).echoOut = some 0 ∧ 0 + 250000 ≤ (u.tick 25000).now * 10) ∧
    (let u := (cellLink 5).wr (F.CEL_CFR (portBlock 0)) 1
     portLst u 0 = 5 ∧ 1 ≤ u.rd (F.CEL_CFR (portBlock 0)) ∧ u.rd (F.CEL_CFR (portBlock 0)) ≤ 5 ∧ (u.cell 0).faultAt + 100000000 ≤ (u.tick 100000000).now) ∧
    cellSends (cellLink 4) 0 = true ∧ 0 < (((cellLink 4).setCell 0 { rttN := 1 }).cell 0).rttN := by decide +kernel

theorem wit_cell_relearn : Passes (cellLink 4) 0x20 (portPage 0) (portOff 0 + 5) true ∧ portLst (cellLink 4) 0 = 4 :=
  ⟨⟨by decide +kernel, by decide +kernel⟩, by decide +kernel⟩

/-- A publication of type 3 on the lane in a domain of 100 µs, its command for stroke 1 ready, and its sign-off copy. -/
def launching (signoff : Bool) : State :=
  let s := st [(F.PUB_PSTATE_48 0 0, 1), (F.PUB_A0 0, 3), (F.DOM_PER 0, 100000), (F.DOM_RUN 0, 1), (F.PUB_SOA_48 0 0, b2n signoff)]
  let s := [(F.FER_FSTATE 0, 2), (F.LNK_EN (portBlock 0), 1), (F.LNK_MODE (portBlock 0), 4), (F.LNK_LST (portBlock 0), 4)].foldl (fun s p => s.wr p.1 p.2) s
  s.setCell 0 { period := 100000, ready := [{ stroke := 1, words := [], blk := false, ind := false, readyAt := 0 }], soCopy := some (0, 100000, 0, 0, []) }

theorem wit_cell_launch : (let u := (launching false).tick 200000
     portEn u 0 = true ∧ isCell u 0 = true ∧ (u.cell 0).sent.contains 1 = false ∧ lanePub u 0 = some 0 ∧ laneLaunch10 u 0 0 1 ≤ u.devTime * 10 + 20 ∧
     (u.cell 0).period ≠ 0 ∧ ((u.cell 0).ready.find? (fun r => r.stroke = 1 && decide (r.readyAt * 10 + 100 ≤ laneLaunch10 u 0 0 1))).isSome = true ∧
     cellSends u 0 = true ∧ (∀ r ∈ (u.cell 0).ready, r.stroke ≠ 2) ∧ laneSignoff u 0 = false ∧ portActive u 0 = true ∧ inChipReset u = false) ∧
    (let u := (launching true).tick 200000
     laneSignoff u 0 = true ∧ (u.cell 0).soCopy = some (0, 100000, 0, 0, []) ∧ launch10 0 100000 0 0 (cellDur10 u 0) 1 ≤ u.devTime * 10 + 20) := by decide +kernel

/-! ### Witnesses: subscriptions, strokes, runs and rulings -/

/-- Ferrule 0 runs; a domain 0 of 100 µs runs with 10 µs of grace; tenant 1 is active. -/
def strokes : State := st [(F.FER_FSTATE 0, 2), (fldAt (0x2A0 * 512 + 16) 0 2, 0), (F.DOM_RUN 0, 1), (F.DOM_PER 0, 100000), (F.DOM_GRC 0, 1000),
  (F.TEN_TSTATE 0, 1)]

theorem wit_handles : Rings strokes 0x20 0x102 0 1 5 ∧ (5 : Nat) ≠ 0 ∧ (4096 : Nat) % 2 ^ 20 ≥ subHandles.count ∧
    (let h := strokes.handle 1 4095 4095
     h / 2 ^ 32 % 16 = 1 ∧ h % 2 ^ 20 < subHandles.count ∧ h / 2 ^ 20 % 4096 = strokes.gen 1 4095 ∧
     (h - 4095) / 2 ^ 20 % 4096 ≠ strokes.gen 1 0 + 1 ∧ (strokes.wr (F.SUB_OWNER 4095) 3).rd (F.SUB_OWNER 4095) ≠ 0) :=
  ⟨⟨⟨by decide +kernel, by decide +kernel⟩, by decide +kernel, by decide +kernel⟩, by decide, by decide, by decide +kernel⟩

theorem wit_handle_layout : strokes.Inv ∧ (15 : Nat) < 16 ∧ (2 ^ 20 - 1 : Nat) < 2 ^ 20 :=
  ⟨⟨by decide +kernel, by decide +kernel, by decide +kernel, by decide +kernel, by decide +kernel, by decide +kernel, by decide +kernel,
    by decide +kernel, by decide +kernel, by decide +kernel, by decide +kernel⟩, by decide, by decide⟩

/-- Subscription 0 exists; at LPOL 3, and eligible. -/
def subOne : State := (strokes.setSub 0 { since := 1 }).wr (F.SUB_SSTATE_23 0) 1

theorem wit_subscription_commands : Rings strokes 0x20 0x102 0 1 0 ∧ subRefusal (accepted strokes 0x102 0 1 0) 0 0 (some 0) (subArgs strokes 0) ≠ 0 ∧
    findBelow (fun k => !subLive (accepted strokes 0x102 0 1 0) k) 64 = some 0 ∧
    subHandleCheck (rung subOne 0x102 0 2 (subOne.handle 1 0 0)) 0x20 0 (subOne.handle 1 0 0) = none ∧
    subOne.rd (F.SUB_SSTATE_23 0) ≠ 2 ∧ (subOne.wr (F.SUB_SSTATE_23 0) 2).rd (F.SUB_SSTATE_23 0) = 2 ∧
    (subOne.wr (F.SUB_LPOL 0) 3).rd (F.SUB_LPOL 0) = 3 ∧ subOne.rd (F.SUB_LPOL 0) ≠ 3 ∧ subOne.isSet (F.DOM_RUN (subDom subOne 0)) = true :=
  ⟨⟨⟨by decide +kernel, by decide +kernel⟩, by decide +kernel, by decide +kernel⟩, by decide +kernel, by decide +kernel, by decide +kernel,
    by decide +kernel, by decide +kernel, by decide +kernel, by decide +kernel, by decide +kernel⟩

/-- A GOOSE subscription from a station uplink whose CREATE is in order. -/
def subWords : State :=
  (st [(F.FER_FSTATE 0, 2), (fldAt (0x2A0 * 512 + 16) 0 2, 0), (F.DOM_PER 0, 100000), (F.TEN_TSTATE 0, 1), (fldAt (0x102 * 512 + 10) 0 72, 3 + 0x1F * 2 ^ 15),
    (fldAt (0x102 * 512 + 12) 0 72, 2 ^ 16), (F.LNK_MODE (portBlock 0), 4)])

theorem wit_subscription_made : (List.range 4).any (fun n => subRefusal (accepted subWords 0x102 0 1 0) 0 0 (some 0)
    { (subArgs subWords 0) with a2 := n * 2 ^ 16 } = 0) = true := by decide +kernel

theorem wit_domain : strokes.isSet (F.DOM_RUN 0) = true ∧ strokes.isSet (F.DOM_RUN 3) = false ∧ getField (9999#72) 0 20 < 10000 ∧ 1000000 < getField (1000001#72) 0 20 ∧
    wordTime 1 = none ∧ wordTime 0 ≠ none ∧ 5000 < getField (5001#72) 0 13 ∧ getField (5000#72) 0 13 ≤ 5000 ∧
    (let u := strokes.wr (F.DOM_RUN 0) 0
     u.isSet (F.DOM_RUN 0) = false ∧ domPeriod u 0 ≠ 0 ∧ graceNs u 0 + 6000 ≤ domPeriod u 0 ∧ u.rd (F.DOM_ANC 0) ≤ (timeWord u.devTime).toNat ∧ firstStroke u 0 < 2 ^ 48) ∧
    liveFns strokes = [] ∧ liveSubs (strokes.wr (F.DOM_RUN 0) 0) = [] := by decide +kernel

/-- Function 0 is placed on nib 0 of ferrule 0, in domain 0, with a target trip line 0. -/
def placed : State :=
  ((strokes.setFn 0 { desc := { fd := [2 ^ 28, 1000, 16, 0], targets := [2 ^ 36] }, a := { fer := 0, nib := 0, slot := 0 }, loaded := true }).wr (F.RUL_FST 0) 2).wr (F.FER_SV 0 0) 1

theorem wit_domain_stop : 0 ∈ liveFns placed ∧ isPlaced placed 0 = true ∧ (placed.fn 0).desc.dom = 0 := by decide +kernel

theorem wit_instants : strokes.devTime < openAt strokes 0 (nextOpen strokes 0) ∧ openAt strokes 0 (nextOpen strokes 0) ≤ (strokes.tick 100000).devTime ∧
    (let u := (subOne.wr (F.SUB_A0 0) 2).tick 200000
     subLive u 0 = true ∧ subType u 0 = 2 ∧ recvActive u 0 = true ∧ cutStroke u 0 = some 2 ∧ (u.sub 0).cut ≤ 2 ∧ (u.sub 0).since ≤ openAt u 0 2 - 1000 + 1 ∧
      subLive u 1 = false) ∧
    (let u := ((placed.setFn 0 { placed.fn 0 with desc := { (placed.fn 0).desc with binds := [0], fd := [2 ^ 28 + 2 ^ 12, 1000, 16, 0] } }).setSub 0 { since := 1 }).wr (F.SUB_SSTATE_23 0) 1
     let u := (u.wr (F.SUB_A0 0) 1).tick 200000
     subDecides u 0 1 = true ∧ subDeadline u 0 1 ≤ u.devTime ∧ (u.sub 0).since ≤ subDeadline u 0 1 + 1 ∧ u.devTime < subDeadline u 0 3) := by decide +kernel

/-- A sample message for ferrule 0 from subscription 0 and stroke 1. -/
def sampled : State := { strokes with rul := { strokes.rul with samples := [{ ferrule := 0, sub := 0, stroke := 1, pres := true, words := [] }] } }

theorem wit_sample : ferRun sampled 0 = true ∧ (sampled.ferDom 0 0).closed ≤ 1 ∧ 1 < ((sampled.setFerDom 0 0 { closed := 2 }).ferDom 0 0).closed ∧
    (sampled.rul.samples.find? (fun m => m.ferrule = 0 && m.sub = 0 && m.stroke = 1)).isSome = true := by decide +kernel

/-- The same function in a domain whose first stroke has opened, and with a sampled subscription bound to it. -/
def closing : State := (placed.wr (F.DOM_CUR 0) 1).tick 110000
def awaiting : State :=
  (((closing.setFn 0 { closing.fn 0 with desc := { (closing.fn 0).desc with binds := [0], fd := [2 ^ 28 + 2 ^ 12, 1000, 16, 0] } }).setSub 0 { since := 1 }).wr (F.SUB_SSTATE_23 0) 1).wr
    (F.SUB_A0 0) 1

theorem wit_close : (∃ n, nextClose closing 0 0 = some n ∧ openAt closing 0 n ≤ closing.devTime ∧ deadlineAt closing 0 n ≤ closing.devTime ∧ ferRun closing 0 = true ∧
      runsLeft closing 0 0 = false ∧
      ((fnsFor closing 0 0 n).foldl (fun l q => (closing.fn q.1).subs.foldl (fun l b => insertNat b l) l) []).filter (subClosure closing) = []) ∧
    (∃ n, nextClose awaiting 0 0 = some n ∧ 0 ∈ ((fnsFor awaiting 0 0 n).foldl (fun l q => (awaiting.fn q.1).subs.foldl (fun l b => insertNat b l) l) []).filter
      (subClosure awaiting) ∧ (awaiting.ferDom 0 0).arrived = [] ∧ deadlineAt awaiting 0 n ≤ awaiting.devTime) ∧
    nextClose (closing.wr (F.FER_FSTATE 0) 1) 0 0 ≠ none ∧ ferRun (closing.wr (F.FER_FSTATE 0) 1) 0 = false ∧ nextClose strokes 0 0 = none :=
  ⟨⟨_, someGet (by decide +kernel), by decide +kernel, by decide +kernel, by decide +kernel, by decide +kernel, by decide +kernel⟩,
    ⟨_, someGet (by decide +kernel), by decide +kernel, by decide +kernel, by decide +kernel⟩, by decide +kernel, by decide +kernel, by decide +kernel⟩

/-- A run of slot 0 waits on nib 0. -/
def queued : State := (placed.wr (F.FER_NST 0 0) 0).setNib 0 0 { queue := [0], startAt := 150 }

theorem wit_run_start : (queued.nib 0 0).queue = 0 :: [] ∧ queued.rd (F.FER_NST 0 0) = 0 ∧ (queued.nib 0 0).startAt ≤ (queued.tick 150).now ∧
    (slotCtx queued 0 0 0).isSome = true ∧ (queued.tick 149).now < (queued.nib 0 0).startAt ∧ (placed.nib 0 0).queue = [] := by decide +kernel

/-- Nib 0 near the end of a budget of 1,000 cycles and past its program. -/
def spending : State := nibRun.setNib 0 0 { pc := 15, cyc := 999 }

theorem wit_budget : spending.rd (F.FER_NST 0 0) = 1 ∧ (∃ c, slotCtx spending 0 0 (spending.nib 0 0).slot = some c ∧ (spending.nib 0 0).pc + 1 ≥ c.x.desc.plen ∧
      c.x.desc.budget ≤ (spending.nib 0 0).cyc + parcelCycles (parcelAt c.x.desc (spending.nib 0 0).pc) ∧ parcelAt c.x.desc (spending.nib 0 0).pc % 2 ^ 11 ≠ 1) ∧
    Passes (strokes.wr (F.FER_LWR 0) 1024) 0x20 0x100 9 true ∧ ledgerOcc (strokes.wr (F.FER_LWR 0) 1024) 0 ≤ 1024 ∧
    (1024 + 65536 - 0 % 65536) % 65536 ≤ ledgerOcc (strokes.wr (F.FER_LWR 0) 1024) 0 ∧ ledgerOcc strokes 0 < (0 + 65536 - 1 % 65536) % 65536 :=
  ⟨by decide +kernel, ⟨_, someGet (by decide +kernel), by decide +kernel, by decide +kernel, by decide +kernel⟩, ⟨by decide +kernel, by decide +kernel⟩,
    by decide +kernel, by decide +kernel, by decide +kernel⟩

/-- An output, a decision, a leg and a shadow message of function 0 on their way for stroke 1. -/
def arriving : State :=
  let m : OutMsg := { fn := 0, twin := 0, point := 0, stroke := 1, err := false, words := [], sdig := 0, shadow := false }
  { placed with rul := { placed.rul with outputs := [m, { m with point := 64, shadow := true }], decisions := [(0, 0, 1, true, false)], legs := [(0, 64, 1, none)] } }

theorem wit_egress : (arriving.rul.outputs.find? (fun m => m.fn = 0 && m.twin = 0 && m.point = 0 && m.stroke = 1 && (m.err == false) && !m.shadow)).isSome = true ∧
    arriving.rul.decisions.find? (fun d => d.1 = 0 && d.2.1 = 0 && d.2.2.1 = 1) = some (0, 0, 1, true, false) ∧
    arriving.rul.legs.find? (fun d => d.1 = 0 && d.2.1 = 64 && d.2.2.1 = 1) = some (0, 64, 1, none) ∧
    decidedAt (passDeadline { arriving with rul := { arriving.rul with legs := [] } } 0 64 1 1) 0 64 ≤ 1 ∧
    (arriving.rul.outputs.find? (fun m => m.fn = 0 && m.twin = 0 && m.point = 64 && m.stroke = 1 && m.shadow)).isSome = true ∧ (64 : Nat) ≤ 64 ∧
    ((arriving.setFn 0 { arriving.fn 0 with move := some { ns := 1 } }).fn 0).move = some { ns := 1 } := 
  ⟨by decide +kernel, by decide +kernel, by decide +kernel, by decide +kernel, by decide +kernel, by decide, by decide +kernel⟩

/-- Function 0 with two twins in place of one placement. -/
def twinned : State := placed.setFn 0 { placed.fn 0 with desc := { (placed.fn 0).desc with fd := [2 ^ 28 + 8, 1000, 16, 0] } }

theorem wit_egress_deadline :
    (let u := (placed.wr (F.DOM_CUR 0) 1).tick 10000000
     let v := (u.wr (F.FER_FSTATE 0) 0)
     deadlineDue u 0 0 1 0 = true ∧ runsSolo (u.fn 0) = true ∧
       deadlinePast v 0 0 1 0 = true ∧ pointRuns v 0 = false ∧ runsSolo (v.fn 0) = true ∧ twf v.rul.decided = true) ∧ deadlinePast placed 0 0 1 0 = false ∧
    (let u := (twinned.wr (F.DOM_CUR 0) 1).tick 10000000
     let v := (u.wr (F.FER_FSTATE 0) 0)
     deadlineDue u 0 0 1 0 = true ∧ runsSolo (u.fn 0) = false ∧ deadlinePast v 0 0 1 0 = true ∧ pointRuns v 0 = false ∧ runsSolo (v.fn 0) = false) := by decide +kernel

/-- A sample flow of one link, out of router 0 by port 1. -/
def flowing : State := { sampled with rul := { sampled.rul with flows := [(0, { kind := 0, key := 0, w := 1, r := 1, links := [(1, 0)] })] } }

theorem wit_flit : slotEntry State.reset 1 0 < 2 ^ 13 ∧ (List.range 4096).any (fun k => decide (2 ^ 13 ≤ slotEntry flowing 1 k) && decide (slotEntry flowing 1 k < 2 ^ 14)) = true ∧
    flowStroke flowing (tget flowing.rul.flows 0) = some 1 := by decide +kernel

theorem wit_ruler_commands : strokes.rd (F.DBL_STATE 4) ≠ 1 ∧ 0 % 256 = strokes.rd (F.HDR_SEQ 4) ∧ strokes.rul.events = [] ∧
    handleCheck (rung placed 4 0 2 (placed.handle 3 0 0)) fnHandles (placed.handle 3 0 0) (fun i => (rung placed 4 0 2 (placed.handle 3 0 0)).rd (F.RUL_TEN i) = 0) = none ∧
    (rung placed 4 0 2 (placed.handle 3 0 0)).rd (F.RUL_FST 0) ≠ 0 ∧ placed.rd (F.TEN_TSTATE (placed.rd (F.RUL_TEN 0))) ≠ 3 := by decide +kernel

/-- Events at the head of the ruler's queue. -/
def evented (e : RulEvent) : State := { placed with rul := { placed.rul with events := [(0, e)] } }

theorem wit_ruler_events : headEvent (evented (.nibFault 0 0)) (fun e => match e with | .nibFault _ _ => true | .nibReturn _ _ => true | _ => false) = some (.nibFault 0 0) ∧
    headEvent (evented (.twinOutcome 0 0)) (fun e => match e with | .twinOutcome _ _ => true | _ => false) = some (.twinOutcome 0 0) ∧
    headEvent (evented (.slice [])) (fun e => match e with | .slice _ => true | _ => false) = some (.slice []) ∧
    headEvent (evented (.shadow 0 true)) (fun e => match e with | .shadow _ _ => true | _ => false) = some (.shadow 0 true) ∧
    headEvent (evented .command) (fun e => match e with | .command => true | _ => false) = some .command := by decide +kernel

theorem wit_loading : (let c : RulCmd := { opc := 1, cmd := 0, index := 0, arg := 0, init := 0x20, tenant := 0, started := true }
     let u : State := { strokes with rul := { strokes.rul with cmd := some c } }
     c.started = true ∧ c.opc = 1 ∧ ferRun u 0 = true ∧ areaOk u 0 0 4 = true ∧ areaOk u 0 0 (descrLen (u.inks 0 0 4)) = true ∧ areaOk u 0 0x3EFFD 4 = false ∧
     areaOk u 0 0x3EFFC 4 = true) ∧
    (let u := (placed.wr (F.RUL_FST 0) 1).setFn 0 { placed.fn 0 with loaded := false }
     u.rd (F.RUL_FST 0) = 1 ∧ (u.fn 0).loaded = false ∧ fersRun u ((u.fn 0).places.map (fun q => q.2)) = true ∧ (u.fn 0).subs = [] ∧ (u.fn 0).update = none ∧
     (u.fn 0).move = none) ∧ (placed.fn 0).loaded = true := by decide +kernel

/-! ### Witnesses: publications, trip lines and interrupts -/

/-- Publication slot 0 exists, live with its state sent at 0. -/
def pubOne : State := ((strokes.setPub 0 { live := true }).wr (F.PUB_PSTATE_48 0 0) 1).wr (F.PUB_PSTATE_18 0) 1

theorem wit_publication_commands : Rings strokes 0x20 0x103 0 1 0 ∧ pubRefusal (accepted strokes 0x103 0 1 0) 0 0x20 (some 0) (pubArgs strokes 0) ≠ 0 ∧
    (let h := pubOne.handle 2 0 0
     let v := rung pubOne 0x103 0 2 h
     handleCheck v pubHandles h (fun i => v.rd (F.PUB_OWNER i) = initTenant v 0x20) = none ∧ pubHere v 0 0 = true ∧
     v.rd (F.TEN_TSTATE (v.rd (F.PUB_OWNER 0))) ≠ 3 ∧ v.rd (F.PUB_PSTATE_18 0) ≠ 2 ∧
     handleCheck v pubHandles 5 (fun i => v.rd (F.PUB_OWNER i) = initTenant v 0x20) = some 4) :=
  ⟨⟨⟨by decide +kernel, by decide +kernel⟩, by decide +kernel, by decide +kernel⟩, by decide +kernel, by decide +kernel⟩

/-- The arguments of a trip-line publication to lane 0 of ferrule 0, whose port is in trip-line mode, in a domain of 100 µs: its
CREATE is in order. -/
def pubWords : State := (strokes.wr (fldAt (0x103 * 512 + 10) 0 72) (3 + 0x1F * 2 ^ 11)).wr (F.LNK_MODE (portBlock 0)) 4

theorem wit_publication_made : Rings pubWords 0x20 0x103 0 1 0 ∧
    (let q := accepted pubWords 0x103 0 1 0
     findBelow (fun k => q.rd (F.PUB_PSTATE_48 0 k) = 0) 32 = some 0 ∧ pubRefusal q 0 0x20 (some 0) (pubArgs q 0) = 0) :=
  ⟨⟨⟨by decide +kernel, by decide +kernel⟩, by decide +kernel, by decide +kernel⟩, by decide +kernel⟩

theorem wit_goose : (pubOne.pub 0).live = true ∧ (pubOne.pub 0).t1 + gooseDelay pubOne 0 1 ≤ (pubOne.tick (10 ^ 12)).devTime ∧
    (strokes.pub 0).live = false := by decide +kernel

/-- Trip line 0 enabled and scheduled, on an ARMED device. -/
def tripOne : State := (((strokes.wr (F.PUB_TEN 0) 1).wr (F.PUB_TMODE 0) 1).wr F.CSN_ARMED 1).wr (F.PUB_SCHT 0) (timeWord 1000).toNat

theorem wit_scheduled : Passes tripOne 0x20 0x103 36 true ∧ tripOne.isSet (F.PUB_SPEND 0) = false ∧ tripOne.isSet (F.PUB_TEN 0) = true ∧
    tripOne.isSet (F.PUB_TMODE 0) = true ∧ tripOne.isSet F.CSN_ARMED = true ∧ (timeWord (tripOne.devTime + 1000)).toNat ≤ tripOne.rd (F.PUB_SCHT 0) ∧
    (tripOne.tick 1).rd (F.PUB_SCHT 0) < (timeWord ((tripOne.tick 1).devTime + 1000)).toNat ∧ (tripOne.wr (F.PUB_SPEND 0) 1).isSet (F.PUB_SPEND 0) = true ∧
    tripOne.rd (F.PUB_SCHT 0) ≤ (timeWord (tripOne.tick 1000).devTime).toNat ∧ (timeWord (tripOne.tick 999).devTime).toNat < tripOne.rd (F.PUB_SCHT 0) :=
  ⟨⟨by decide +kernel, by decide +kernel⟩, by decide +kernel⟩

/-- Binary input 0 enabled with a debounce of 10 µs, its level just changed. -/
def inputOne : State := ((((strokes.wr (F.PUB_BEN 0) 1).wr (F.PUB_DEB 0) 1).wr (F.PUB_RAW 0) 1)).setTrip 0 { since := 5 }

theorem wit_inputs : (let v := (strokes.wr (F.PUB_BEN 0) 1).wr (F.PUB_DEB 0) 1
     v.isSet (F.PUB_BEN 0) = true ∧ ferRun v 0 = true ∧ (true ^^ v.isSet (F.PUB_BINV 0)) ≠ v.isSet (F.PUB_RAW 0) ∧ v.rd (F.PUB_DEB 0) ≠ 0) ∧
    biDue (inputOne.tick 10005) 0 = true ∧ biDue (inputOne.tick 10004) 0 = false ∧ (inputOne.trip 0).queue.length < 16 ∧
    16 ≤ (((inputOne.setTrip 0 { since := 5, queue := List.replicate 16 (true, 0, false) }).tick 10005).trip 0).queue.length ∧
    biDue ((inputOne.setTrip 0 { since := 5, queue := List.replicate 16 (true, 0, false) }).tick 10005) 0 = true ∧ strokes.isSet (F.PUB_BEN 0) = false := by decide +kernel

theorem wit_input_events : Passes inputOne 0x20 0x103 43 false := ⟨by decide +kernel, by decide +kernel⟩

/-- Source 530 pending, enabled at level 15 to scribe 0 at H, which runs with MASK 0. -/
def interrupted : State := (icuEdge (icuConfig unmasked 530 (1 + 15 * 2 + 2 ^ 12)) 530)

theorem wit_scribe_events : Passes (ran.wr (F.PWR_DST 0) 0) 0x20 (0x200 + 0) 8 true ∧ (ran.wr (F.DSK_SST 0) 2).rd (F.DSK_SST 0) = 2 ∧ icuClaimable ran 0 = none ∧
    scribeUp ran 0 = true ∧ (ran.scribe 0).haltReq = false ∧ coreInterrupt ran 0 = none ∧ ran.rd (F.DSK_SST 0) ≠ 2 ∧
    (let w : WalkWait := { va := 0, pa := 0, sub := 0, since := 0, inst := 0, split := false, entry := false, timed := false }
     let u := ran.modScribe 0 (fun c => { c with walk := some w })
     (u.scribe 0).walk = some w ∧ u.now < w.since + 10000 ∧ w.since + 10000 ≤ (u.tick 10000).now ∧ w.entry = false) :=
  ⟨⟨by decide +kernel, by decide +kernel⟩, by decide +kernel⟩

theorem wit_interrupts : (∃ k, icuClaimable interrupted 0 = some k) ∧ (∃ k, coreInterrupt interrupted 0 = some k) ∧ interrupted.rd (F.DSK_SST 0) = 1 ∧
    scribeLevel (interrupted.scribe 0) ≠ 0 ∧ interrupted.icu.active.contains (530, 0) = false ∧ (icuClaim interrupted 530 0).icu.active.contains (530, 0) = true ∧
    scribeLevel ((ranAt 0).scribe 0) = 0 ∧ (ranAt 0).rd (F.DSK_SST 0) = 1 ∧ (288 ≤ (288#72).toNat ∧ (288#72).toNat ≤ 319) ∧ (530 ≤ (639#72).toNat ∧ (639#72).toNat ≤ 639) :=
  ⟨⟨_, someGet (by decide +kernel)⟩, ⟨_, someGet (by decide +kernel)⟩, by decide +kernel⟩

theorem wit_interrupt_settings : Passes ran 0x20 (0x240 + icuPage 639) (32 + icuSlot 639) true ∧ getField (3 * 2 ^ 5 : Word) 5 2 = 3 ∧ ran.icuRd F.ICU_ACT 639 ≠ 1 ∧
    (icuClaim interrupted 530 0).icuRd F.ICU_ACT 530 = 1 := ⟨⟨by decide +kernel, by decide +kernel⟩, by decide +kernel⟩

/-! ### Witnesses: memory -/

/-- A write back and a posted write wait for line 7. -/
def homing : State := { run with mem := { run.mem with wbs := [{ desk := 1, line := 7, words := List.replicate 8 1, poison := false, ordered := true, spent := false }],
                                                       posted := [{ src := 0x22, line := 7, wr := [(0, 1)], chan := 0 }] } }

theorem wit_home : run.mem.wbs.find? (fun w => w.line == 7 && w.ordered && !w.spent) = none ∧ (homing.mem.wbs.find? (fun w => w.line == 7 && w.ordered && !w.spent)).isSome = true ∧
    (homing.mem.posted.find? (fun p => p.src == 0x22 && p.line == 7)).isSome = true ∧ run.mem.posted.find? (fun p => p.src == 0x22 && p.line == 7) = none ∧
    (∀ x ∈ homing.mem.txs, x.line = 7 → x.waits = []) := by decide +kernel

/-- A request for line 7 by scribe 0 that waits for desk 1; and one that waits for nobody. -/
def asked (kind : Nat) (waits : List Nat) : State := run.setTxs [{ line := 7, kind := kind, src := 0, waits := waits, since := 0, rd := 0, wr := [] }]

theorem wit_snoops : ∀ k ∈ [(0, 0), (1, 1), (2, 2), (4, 3)], ((asked k.1 [1]).mem.txs.find? (fun x => x.line == 7 && x.waits.contains 1)).isSome = true ∧
    canAnswer (asked k.1 [1]) 1 7 k.2 = true ∧ snoopOf k.1 = k.2 := by decide +kernel

theorem wit_grants : ((asked 3 []).mem.txs.find? (fun t => t.line == 7)).isSome = true ∧ caching 3 = true ∧ srcDesk 0 = some 0 ∧
    ((asked 1 [9]).mem.txs.find? (fun y => y.line == 7 && y.waits.contains (8 + 1))).isSome = true ∧ snoopOf 1 = 1 ∧ caching 1 = true ∧
    (answerSnoop (asked 1 [9]) 1 7 1).1 = { data := none } ∧ canAnswer (asked 1 [9]) 1 7 1 = true ∧
    (homing.mem.wbs.find? (fun w => w.desk == 1 && w.line == 7 && w.ordered)).isSome = true ∧ run.mem.txs.find? (fun t => t.line == 7) = none := by decide +kernel

theorem wit_grant_state : (answerSnoop (asked 1 [9]) 1 7 1).2 = asked 1 [9] := by
  have h : deskDead (asked 1 [9]) 1 = false ∧ (asked 1 [9]).mem.wbs = [] ∧ ((asked 1 [9]).l2 1 7).st = 0 := by decide +kernel
  unfold answerSnoop
  rw [h.1, h.2.1]
  simp only [Bool.false_eq_true, if_false, List.find?_nil, h.2.2, if_true]

theorem wit_snoop_timeout : (asked 1 [1]).Inv ∧ (3 : Nat) < 4 ∧ (2 ^ 38 - 1 : Nat) < 2 ^ 38 ∧ (∃ x ∈ (asked 1 [1]).mem.txs, x.line = 7 ∧ x.waits.contains 1 = true ∧
      x.since + 10000 ≤ ((asked 1 [1]).tick 10000).now ∧ ((asked 1 [1]).tick 9999).now < x.since + 10000) ∧ (lineChannel (asked 1 [1]) 7).1 < 4 ∧
    Passes (asked 1 [1]) 0x20 0x260 20 false ∧ ((asked 1 [1]).wr (F.DMC_SV 0) 1).isSet (F.DMC_SV 0) = true :=
  ⟨⟨by decide +kernel, by decide +kernel, by decide +kernel, by decide +kernel, by decide +kernel, by decide +kernel, by decide +kernel,
    by decide +kernel, by decide +kernel, by decide +kernel, by decide +kernel⟩, by decide, by decide, by decide +kernel, by decide +kernel,
    ⟨by decide +kernel, by decide +kernel⟩, by decide +kernel⟩

/-- Desk 1 is being reclaimed, with one line left, and with none. -/
def reclaiming (l : List (Nat × Nat)) : State := (run.wr (F.PWR_RECL 1) 1).wr F.PWR_DEVST 0 |> fun s => { s with mem := { s.mem with reclaims := l } }

theorem wit_reclaim : reclaimDesk (reclaiming []) = some 1 ∧ (reclaiming [(1, 7)]).mem.reclaims.find? (fun r => r.2 == 7) = some (1, 7) ∧
    (∀ x ∈ (reclaiming []).mem.txs, x.kind ≠ 6) ∧ (∀ c, c < 4 → ((reclaiming []).dmc c).held = []) ∧ reclaimDesk run ≠ some 1 := by decide +kernel

/-- A channel of memory in a state, with its first training step done or under way. -/
def channel (state step : Nat) : State := (run.wr (F.DMC_STATE 0) state).wr (F.DMC_STEP 0) step

theorem wit_channel_commands : Passes (channel 1 6) 0x20 0x260 11 true ∧ getField (6#72) 1 2 = 3 ∧ (channel 1 6).rd (F.DMC_STATE 0) = 1 ∧
    (∀ o ∈ [1, 2, 3, 4], Rings (channel 1 6) 0x20 0x260 0 o 0) ∧ (channel 3 0).rd (F.DMC_STATE 0) = 3 ∧ (channel 1 6).rd (F.DMC_STEP 0) = 6 ∧
    getField (((channel 1 0).wr (fldAt (0x260 * 512 + 10) 0 72) 6).word (0x260 * 512 + 10)) 0 3 = 6 :=
  ⟨⟨by decide +kernel, by decide +kernel⟩, by decide, by decide +kernel,
    fun _ _ => ⟨⟨by decide +kernel, by decide +kernel⟩, by decide +kernel, by decide +kernel⟩, by decide +kernel, by decide +kernel, by decide +kernel⟩

/-- A read of line 7 under way. -/
def reading : State := run.setTxs [{ line := 7, kind := 0, src := 0, waits := [], since := 0, rd := 1, wr := [] }]

theorem wit_channel_errors : (reading.mem.txs.find? (fun x => x.line == 7 && x.rd == 1)).isSome = true ∧ (lineChannel reading 7).1 = 0 ∧ reading.rd (F.DMC_STATE 0) = 2 ∧
    (decodeBurst (reading.memLine 7) (reading.marked 7) []).out = 0 ∧ (decodeBurst (reading.memLine 7) (reading.marked 7) [(5, 1)]).out = 1 ∧
    (decodeBurst (reading.memLine 7) true []).out = 2 ∧ (decodeBurst (reading.memLine 7) (reading.marked 7) [(5, 1), (40, 2), (60, 7), (70, 9), (20, 3)]).out = 3 ∧
    (reading.wr (F.DMC_WCRC 0) 1).rd (F.DMC_WCRC 0) ≠ 0 ∧ ((reading.setDmc 0 { reading.dmc 0 with crc := (7, 2) }).dmc 0).crc = (7, 2) ∧
    (reading.wr (F.DMC_STATE 0) 3).rd (F.DMC_STATE 0) = 3 ∧ run.mem.txs.find? (fun x => x.line == 7) = none := by decide +kernel

theorem wit_upkeep : (let u := ((run.wr (F.DMC_SCRUB 0) 1).tick 1000000000)
     u.rd (F.DMC_STATE 0) = 2 ∧ u.rd (F.DMC_SCRUB 0) ≠ 0 ∧ (u.dmc 0).activeAt + 1000000000 ≤ u.now ∧
     (decodeBurst (u.memLine (channelLine u 0 0)) (u.marked (channelLine u 0 0)) []).out = 0) ∧ tget (run.dmc 0).owed 0 ≤ 1 ∧ bankQueued run 0 0 0 = false ∧
    2 ≤ tget ((run.setDmc 0 { run.dmc 0 with owed := [(0, 2)] }).dmc 0).owed 0 ∧ 0 ≤ run.rd (F.DMC_RANKS 0) ∧ run.rd (F.PHY_DRIFT 0) < 5 ∧
    (∃ y ∈ (reading.wr (F.DMC_STATE 0) 3).mem.txs, y.src = 0 ∧ y.since + 10000 ≤ ((reading.wr (F.DMC_STATE 0) 3).tick 10000).now) := by decide +kernel

theorem wit_training : (run.dmc 0).step = 0 ∧ ((run.setDmc 0 { run.dmc 0 with step := 6, retrain := true }).dmc 0).step ≠ 0 ∧
    6 ≤ ((run.setDmc 0 { run.dmc 0 with step := 6, retrain := true }).dmc 0).step ∧ ((run.setDmc 0 { run.dmc 0 with step := 5, retrain := true }).dmc 0).step < 6 := by
  decide +kernel

/-- A channel of DMA ready for its next burst, for an active tenant 0. -/
def dmaReadyState : State := run.wr (F.TEN_TSTATE 0) 1

theorem wit_dma_commands : Rings dmaReadyState 0 0x270 0 1 0 ∧ hostScribe dmaReadyState 0 = true ∧ hostScribe dmaReadyState 0x20 = false ∧
    findBelow (fun n => decide (dmaReadyState.rd (F.DMB_CST n) = 0)) 32 = some 0 ∧ dmaArgBad dmaReadyState = true ∧
    dmaArgBad (dmaReadyState.wr F.DMA_BURST 1) = false ∧ winBeyond (dmaArg dmaReadyState 1) = false ∧ winBeyond (2 ^ 32 + (2 ^ 32 - 1) : Word) = false ∧
    winBeyond (2 ^ 33 + (2 ^ 32 - 1) : Word) = true ∧
    (let u := dmaReadyState.wr (F.DMB_CST 0) 1
     dmaHandleCheck (rung u 0x270 0 2 (u.handle 5 0 0)) 0x20 (u.handle 5 0 0) = none) ∧ dmaHandleCheck dmaReadyState 0x20 5 = some 4 :=
  ⟨⟨⟨by decide +kernel, by decide +kernel⟩, by decide +kernel, by decide +kernel⟩, by decide +kernel⟩

/-- Channel 3 of DMA runs, with its request. -/
def bursting : State := dmaReadyState.wr (F.DMB_CST 3) 2

theorem wit_dma_burst : (3 : Nat) < 32 ∧ (bursting.dmaChan 3).busy = false ∧ (∀ k < 32, (bursting.dmaChan k).busy = false) ∧ dmaTurn bursting = some 3 ∧
    dmaTurn bursting ≠ some 4 ∧ (let u := bursting.setDma 3 { busy := true, wait := some 7 }
     (u.dmaChan 3).busy = true ∧ (u.dmaChan 3).stop ≠ 2 ∧ (u.dmaChan 3).stop ≠ 4 ∧ (u.dmaChan 4).busy = false ∧ dmaSettled u 3 = false) ∧
    dmaSettled (bursting.setDma 3 { busy := true, stop := 2 }) 3 = true ∧
    (let u := (bursting.setDma 3 { busy := true, wait := some 7, since := 5 }).tick 50005
     (u.dmaChan 3).busy = true ∧ dmaSettled u 3 = false ∧ (u.dmaChan 3).since + 50000 ≤ u.now ∧ (u.dmaChan 3).wait = some 7) ∧
    (let u := (bursting.setDma 3 { busy := true, wait := some 7, since := 5 }).tick 50004
     u.now < (u.dmaChan 3).since + 50000) := by decide +kernel

/-! ### Witnesses: tenants, management and power -/

/-- Tenant 1 in a state, with words of arguments of the tenant page. -/
def tenWords (state a0 a1 a2 : Nat) : State :=
  (((run.wr (F.TEN_TSTATE 1) state).wr (fldAt (0x2D0 * 512 + 10) 0 72) a0).wr (fldAt (0x2D0 * 512 + 11) 0 72) a1).wr (fldAt (0x2D0 * 512 + 12) 0 72) a2

theorem wit_tenant_rings : ∀ o ∈ [1, 2, 4, 5, 6, 7, 8], Rings (tenWords 0 1 0 0) 0 0x2D0 0 o 0 :=
  fun _ _ => ⟨⟨by decide +kernel, by decide +kernel⟩, by decide +kernel, by decide +kernel⟩

theorem wit_tenant_commands : (let q := accepted (tenWords 0 1 0 0) 0x2D0 0 1 0
     hostScribe q 0 = true ∧ getField (tenArg q 0) 0 4 = 1 ∧ q.rd (F.TEN_TSTATE 1) = 0 ∧ hostScribe q 0x20 = false) ∧
    (let q := accepted (tenWords 1 1 (2 ^ 30 * 3) 0) 0x2D0 0 4 0
     q.rd (F.TEN_TSTATE 1) = 1 ∧ (q.ten 1).freezeAt = none ∧ q.devTime + 1000000 ≤ instantNs (tenArg q 1) ∧
     instantNs (tenArg (accepted (tenWords 1 1 0 0) 0x2D0 0 4 0) 1) < q.devTime + 1000000 ∧ ∀ n < 32, ¬ (q.rd (F.DMB_OWNER n) = 1 ∧ q.rd (F.DMB_CST n) = 2)) ∧
    (let q := accepted (tenWords 2 1 4 0) 0x2D0 0 5 0
     q.rd (F.TEN_TSTATE 1) = 2 ∧ getField (tenArg q 1) 0 44 % 8 ≠ 0) ∧
    (let q := accepted (tenWords 0 1 4 0) 0x2D0 0 6 0
     q.rd (F.TEN_TSTATE 1) = 0 ∧ getField (tenArg q 1) 0 44 % 8 ≠ 0) ∧ (accepted (tenWords 0 0 0 0) 0x2D0 0 1 0).rd (F.TEN_TSTATE 0) ≠ 5 ∧
    (∃ i < 64, (accepted (tenWords 0 0 0 0) 0x2D0 0 2 0).rd (F.TEN_QSTATE i) = 0) := by decide +kernel

/-- Every queue pair in use. -/
def allQueues : State := (List.range 64).foldl (fun s i => s.wr (F.TEN_QSTATE i) 1) run

theorem wit_queues_full : ∀ i < 64, (accepted allQueues 0x2D0 0 2 0).rd (F.TEN_QSTATE i) ≠ 0 := by decide +kernel

/-- Queue pair 2 of tenant 1, whose handle is in order. -/
def queueOne : State := ((tenWords 1 1 0 0).wr (F.TEN_QSTATE 2) 1).wr (F.TEN_OWNER 2) 1

theorem wit_queue_destroy : (let h := queueOne.handle 6 2 2
     Rings queueOne 0 0x2D0 0 3 h ∧ h % 2 ^ 20 = 2 ∧
     handleCheck (rung queueOne 0x2D0 0 3 h) qpHandles h
      (fun q => (rung queueOne 0x2D0 0 3 h).rd (F.TEN_OWNER q) = initTenant (rung queueOne 0x2D0 0 3 h) 0 ||
        initTenant (rung queueOne 0x2D0 0 3 h) 0 = 0) = none ∧
     (rung queueOne 0x2D0 0 3 h).rd (F.TEN_QSTATE 2) ≠ 0 ∧ (rung queueOne 0x2D0 0 3 h).rd (F.TEN_TSTATE ((rung queueOne 0x2D0 0 3 h).rd (F.TEN_OWNER 2))) ≠ 3 ∧
     hostScribe (accepted queueOne 0x2D0 0 3 h) 0 = true ∧
     handleCheck queueOne qpHandles 5 (fun _ => true) = some 4 ∧ (rung queueOne 0x2D0 0 3 (queueOne.handle 6 3 3)).rd (F.TEN_QSTATE 3) = 0) :=
  ⟨⟨⟨by decide +kernel, by decide +kernel⟩, by decide +kernel, by decide +kernel⟩, by decide +kernel⟩

theorem wit_export : (let q := accepted (tenWords 2 1 0 (2 ^ 20)) 0x2D0 0 5 0
     let len := 8 * ((512 + (unpackWords (blobPayload q 1)).length + 8) / 9)
     hostScribe q 0 = true ∧ q.rd (F.TEN_TSTATE 1) = 2 ∧ getField (tenArg q 1) 0 44 % 8 = 0 ∧ inDram q (getField (tenArg q 1) 0 44) len = true ∧
     len ≤ getField (tenArg q 2) 0 32) := by decide +kernel

theorem someGet3 {α β γ : Type} {x : Option (α × β × γ)} (h : x.isSome = true) : x = some ((x.get h).1, (x.get h).2.1, (x.get h).2.2) :=
  (Option.some_get h).symm

theorem wit_import : (let q := accepted (tenWords 0 1 0 0) 0x2D0 0 6 0
     hostScribe q 0 = true ∧ q.rd (F.TEN_TSTATE 1) = 0 ∧ getField (tenArg q 1) 0 44 % 8 = 0 ∧ inDram q (getField (tenArg q 1) 0 44) 456 = true) ∧
    (∃ hw x r, dramRead (accepted (tenWords 0 1 0 0) 0x2D0 0 6 0) 0x25 0 57 = some (hw, x, r) ∧ ofOctets ((unpackWords hw).take 4) ≠ 0x4546414C) := by
  refine ⟨by decide +kernel, _, _, _, someGet3 (by decide +kernel), by decide +kernel⟩

theorem wit_queue_create : (let q := accepted (tenWords 1 (1 + 4 * 2 ^ 8 + 4 * 2 ^ 12 + 8 * 2 ^ 16) 0 1024) 0x2D0 0 2 0
     let a := tenArg q 0
     hostScribe q 0 = true ∧ q.rd (F.TEN_QSTATE 0) = 0 ∧ getField a 4 4 ≤ 9 ∧ 4 ≤ getField a 8 4 ∧ getField a 8 4 ≤ 12 ∧ 4 ≤ getField a 12 4 ∧
     getField a 12 4 ≤ 12 ∧ 8 ≤ getField a 16 8 ∧ getField a 16 8 ≤ 223 ∧ q.rd (F.TEN_TSTATE (getField a 0 4)) = 1 ∧ getField (tenArg q 1) 0 44 % 32 = 0 ∧
     getField (tenArg q 2) 0 44 % 32 = 0 ∧ inDram q (getField (tenArg q 1) 0 44) (32 * 2 ^ getField a 8 4) = true ∧
     inDram q (getField (tenArg q 2) 0 44) (32 * 2 ^ getField a 12 4) = true) := by decide +kernel

/-- Tenant 1 is to be frozen, or resumed, at an instant. -/
def freezing (state : Nat) (f r : Option Nat) : State := (tenWords state 1 0 0).setTen 1 { freezeAt := f, resumeAt := r }

theorem wit_tenant_changes : ((freezing 1 (some 0) none).ten 1).freezeAt = some 0 ∧ (freezing 1 (some 0) none).isSet (F.DOM_RUN 0) = false ∧
    (freezing 1 (some 9) none).devTime < 9 ∧ tenFns (freezing 1 (some 0) none) 1 = [] ∧ (freezing 1 (some 0) none).rd (F.TEN_TSTATE 1) = 1 ∧
    (usedDoms (freezing 1 (some 0) none) 1).all (fun d => ((freezing 1 (some 0) none).ten 1).nds.any (fun e => e.1 == d)) = true ∧
    (let u := ((freezing 1 (some 0) none).wr (F.DOM_RUN 0) 1).tick 5
     u.isSet (F.DOM_RUN 0) = true ∧ openAt u 0 (nextOpen u 0) ≤ u.devTime) ∧
    ((freezing 2 none (some 0)).ten 1).resumeAt = some 0 ∧ (freezing 2 none (some 0)).rd (F.TEN_TSTATE 1) = 2 ∧ (freezing 2 none (some 9)).devTime < 9 ∧
    tenFns (((freezing 2 none (some 0)).wr (F.TEN_TSTATE 1) 1).setTen 1 {}) 1 = [] ∧ ((freezing 1 none none).ten 1).freezeAt = none ∧
    (freezing 3 none none).rd (F.TEN_TSTATE 1) = 3 ∧ tenQuiet (freezing 3 none none) 1 = true ∧
    tenQuiet (((freezing 3 none none).wr (F.DMB_OWNER 3) 1).wr (F.DMB_CST 3) 2) 1 = false := by decide +kernel

/-- Queue pair 2 of tenant 0 with one entry to send; its words are zero. -/
def sending : State := ((((run.wr (F.TEN_QSTATE 2) 1).wr (F.TEN_TXLOG 2) 4).wr (F.TEN_TAIL 5) 1).wr (F.TEN_TSTATE 0) 1)

/-- The same with an entry of 60 octets at 1000h of DRAM, and port 0 of the management uplinks enabled as an Ethernet port. -/
def sendingFrame : State := dramWrite sending 0x25 0 [0x1000, 60]

theorem wit_queue_pairs : qpTxReady run 2 = false ∧ qpTxReady sendingFrame 2 = true ∧
    (∃ r, qpRead sendingFrame 2 (qpEntry sendingFrame 2 1) 2 = (.got [0x1000, 60], r)) ∧ (∃ r, qpRead sending 2 (qpEntry sending 2 1) 2 = (.got [0, 0], r)) ∧
    getField ((60 : Word)) 0 11 = 60 ∧
    (∃ r a, qpRead (sending.wr (F.DMC_STATE 0) 1) 2 (qpEntry sending 2 1) 2 = (.waits a, r)) :=
  ⟨by decide +kernel, by decide +kernel, ⟨_, fstEq (by decide +kernel)⟩, ⟨_, fstEq (by decide +kernel)⟩, by decide, _, 0, fstEq (by decide +kernel)⟩

/-- The same with port 0 of the uplinks powered and enabled for Ethernet. -/
def sendingOn : State := (((sendingFrame.wr (fldAt F.PWR_DOM.addr 2 2) 1).wr (F.LNK_EN (portBlock 1024)) 1).wr (F.LNK_MODE (portBlock 1024)) 1).wr
  (F.LNK_LST (portBlock 1024)) 3

theorem wit_queue_frame : ∃ r r' ws', qpRead sendingOn 2 (qpEntry sendingOn 2 1) 2 = (.got [0x1000, 60], r) ∧ qpRead r 2 (0x1000 / 8 * 8) 7 = (.got ws', r') ∧
    rawSpoofOk r' (sendingOn.rd (F.TEN_OWNER 2)) ((unpackWords ws').take 60) = true ∧ qpMaySend sendingOn 2 = true :=
  ⟨_, _, List.replicate 7 0, fstEq (by decide +kernel), fstEq (by decide +kernel), by decide +kernel, by decide +kernel⟩

theorem wit_pcie : run.isSet F.PCI_DLUP = false ∧ (let u := run.wr F.PCI_DLUP 1
     u.isSet F.PCI_DLUP = true ∧ u.isSet F.PCI_EP = false ∧
     ([0, 1].filterMap (fun a => pcieMap ((u.wr (F.PCI_NPAGES 0) 1).wr F.PCI_EP 1) a)).length = 2 ∧
     ([0, 1].filterMap (fun a => pcieMap u a)).length ≠ 2) ∧ inChipReset run = false ∧ inChipReset { run with phase := 1 } = true ∧
    (let u := (run.wr (fldAt F.PWR_DOM.addr 4 2) 1).wr F.PCI_LEN 1
     inChipReset u = false ∧ u.isSet F.PCI_LEN = true ∧ domPower u 2 = 1) ∧ run.isSet F.PCI_LEN = false := by decide +kernel

theorem wit_watchdogs : Passes run 0x20 0x2F0 48 true ∧ Passes run 3 0x2F0 51 true ∧ Passes run 0 0x2F0 51 true ∧ Passes run 0x20 0x2F0 81 true ∧
    Passes run 0x21 0x2F0 81 true :=
  ⟨⟨by decide +kernel, by decide +kernel⟩, ⟨by decide +kernel, by decide +kernel⟩, ⟨by decide +kernel, by decide +kernel⟩,
    ⟨by decide +kernel, by decide +kernel⟩, ⟨by decide +kernel, by decide +kernel⟩⟩

/-- The watchdogs of scribe 0 and of the management controller about to run down. -/
def watched : State := ((((run.wr (F.PWR_DST 0) 0).wr (F.MCB_PER 0) 5).wr (F.MCB_REM 0) 1).wr F.MCB_MREM 1).tick 2000000

theorem wit_watchdog_expiry :
    (let d := wdgCount watched (some 0)
     wdgCounts d 0 = true ∧ watched.rd (F.MCB_REM 0) ≠ 0 ∧ d.rd (F.MCB_REM 0) = 0 ∧ wdgCounts d 1 = false) ∧
    (let d := wdgCount watched (some 32)
     mcRuns d = true ∧ watched.rd F.MCB_MREM ≠ 0 ∧ d.rd F.MCB_MREM = 0) ∧
    (let d := wdgCount (watched.wr F.MCB_MREM 0) (some 32)
     (watched.wr F.MCB_MREM 0).rd F.MCB_MREM = 0 ∧ d.phase = 0) := by decide +kernel

theorem wit_controller : run.isSet F.DPX_EN = false ∧ run.mcu.req = none ∧ ({ run with mcu := { run.mcu with req := some (3, 1) } } : State).mcu.req = some (3, 1) ∧
    hostScribe run 0 = true ∧ run.rd F.MCB_IFULL = 0 ∧ (run.wr F.MCB_IFULL 1).rd F.MCB_IFULL = 1 ∧ run.rd F.MCB_OFULL = 0 ∧
    (run.wr F.MCB_OFULL 1).rd F.MCB_OFULL = 1 ∧ hostScribe run 0x20 = false ∧ mcRuns run = true ∧ (run.scribe 32).haltReq = false ∧ coreInterrupt run 32 = none := by
  decide +kernel

theorem wit_mailboxes : Passes run 0x20 0x2F0 40 true ∧ Passes run 0 0x2F0 40 true :=
  ⟨⟨by decide +kernel, by decide +kernel⟩, ⟨by decide +kernel, by decide +kernel⟩⟩

/-- Scribe 0 is locked up, which interrupts the management controller. -/
def lockedUp : State := (run.wr (F.DSK_SST 0) 4).modScribe 32 (fun c => { c with status := putField c.status 2 4 0 })

theorem wit_controller_interrupt : ∃ k, coreInterrupt lockedUp 32 = some k := ⟨_, someGet (by decide +kernel)⟩

/-- Commands for the power unit with an argument. -/
def powering (arg : Nat) : State := run.wr (fldAt (0x2A0 * 512 + 10) 0 72) arg

theorem wit_power_rings : ∀ o ∈ [1, 2, 3, 4, 5, 6, 7], Rings (powering 0) 0x20 0x2A0 0 o 0 ∧ Rings (powering 0) 0 0x2A0 0 o 0 :=
  fun _ _ => ⟨⟨⟨by decide +kernel, by decide +kernel⟩, by decide +kernel, by decide +kernel⟩,
    ⟨⟨by decide +kernel, by decide +kernel⟩, by decide +kernel, by decide +kernel⟩⟩

theorem wit_power_levels :
    (let q := accepted ((powering 20).wr (F.PWR_DST 0) 0) 0x2A0 0 1 0
     pwrArg q % 4 = 0 ∧ pwrArg q / 4 % 8 ≤ 5 ∧ q.rd F.PWR_DEVST = 0 ∧ q.rd (F.PWR_DST 0) < 2 ∧ q.pwr.hwtrip = false ∧ deskDead q 0 = false) ∧
    (let q := accepted ((powering 16).wr (F.PWR_DST 0) 0) 0x2A0 0 2 0
     pwrArg q < 64 ∧ pwrArg q / 4 % 4 = 0 ∧ q.rd F.PWR_DEVST = 0 ∧ q.isSet (F.PWR_RECL 0) = false ∧ q.isSet (F.PWR_DEAD 0) = false ∧
     q.rd (F.PWR_DST 0) < pwrArg q / 16 ∧ (q.wr (F.PWR_DST 0) 1).rd (F.PWR_DST 0) = pwrArg q / 16 ∧ pwrArg q / 16 < (q.wr (F.PWR_DST 0) 2).rd (F.PWR_DST 0)) ∧
    (let q := accepted (powering 65) 0x2A0 0 3 0
     pwrArg q < 256 ∧ q.rd F.PWR_DEVST ≠ 2 ∧ ferPower q 1 ≠ 3 ∧ q.pwr.held.contains 1 = false ∧ pwrArg q / 64 = 1 ∧
     ferPower (setFerPower q 1 1) 1 = 1 ∧ ferPower (setFerPower q 1 0) 1 < 1) ∧
    (let q := accepted (powering 6) 0x2A0 0 4 0
     pwrArg q < 8 ∧ pwrArg q % 4 ≠ 3 ∧ q.rd F.PWR_DEVST = 0 ∧ pwrArg q / 4 = 1 ∧ domPower q 2 ≠ 2 ∧ domPower (setDomPower q 2 1) 2 = 1 ∧
     domPower (setDomPower q 2 0) 2 = 0) := by decide +kernel

theorem wit_power_others :
    (let q := accepted (powering 0) 0x2A0 0 5 0
     pwrArg q < 3 ∧ q.rd F.PWR_DEVST = pwrArg q ∧ q.pwr.change = [] ∧ deskDead q 0 = false ∧ deskDead (q.wr (F.PWR_DEAD 0) 1) 0 = true) ∧
    (let q := accepted (powering 257) 0x2A0 0 7 0
     pwrArg q < 512 ∧ 256 ≤ pwrArg q ∧ pwrArg q % 256 < 64 ∧ q.pwr.held.contains 1 = false ∧ ferPower (setFerPower q 1 0) 1 = 0) ∧
    (let q := accepted { powering 1 with pwr := { (powering 1).pwr with held := [1] } } 0x2A0 0 7 0
     pwrArg q < 256 ∧ q.pwr.held.contains 1 = true ∧ q.pwr.held.contains 129 = false) ∧ 68 ≤ pwrArg (powering 68) % 256 := by decide +kernel

/-- A request to bring blocks to another state. -/
def requested (asked : List Nat) : State :=
  { run with pwr := { run.pwr with req := some { opc := 3, arg := 65, asked := asked, granted := [2], since := 0 } } }

theorem wit_power_sequences : run.pwr.req = none ∧ run.pwr.level = none ∧
    (let u := requested [1]
     (∃ r, u.pwr.req = some r ∧ r.asked.contains 1 = true ∧ r.asked.contains 3 = false ∧ blockGrants u [] 1 (wanted r 1) = true ∧ r.asked.filter (· ≠ 1) = [] ∧
       r.since + 1000000 ≤ (u.tick 1000000).devTime ∧ (u.tick 999999).devTime < r.since + 1000000 ∧ r.asked ≠ [] ∧
       blockGrants (u.wr (F.FER_NFUNC 1) 1) [] 1 (wanted r 1) = false)) ∧ (requested [1]).pwr.wback = none ∧
    (∃ r, (requested [1, 3]).pwr.req = some r ∧ r.asked.filter (· ≠ 1) = [3]) ∧ (∃ r, (requested []).pwr.req = some r ∧ r.asked = []) ∧
    ({ run with pwr := { run.pwr with level := some (0, 2) } } : State).pwr.level = some (0, 2) ∧
    (let u := { interrupted with pwr := { run.pwr with change := [(1, 0)] } }.wr (F.PWR_DST 0) 1
     u.rd (F.PWR_DST 0) = 1 ∧ (∃ n ∈ deskScribes 0, icuDeliverable u n ≠ none) ∧ u.pwr.change.contains (1, 0) = true) ∧
    (run.wr (F.PWR_DST 0) 0).rd (F.PWR_DST 0) = 0 ∧ run.pwr.change.contains (1, 0) = false := by
  refine ⟨by decide +kernel, by decide +kernel, ⟨_, rfl, by decide +kernel⟩, by decide +kernel, ⟨_, rfl, by decide +kernel⟩, ⟨_, rfl, by decide +kernel⟩, by decide +kernel⟩

theorem wit_sensors : (let w := (run.wr F.PWR_TMAX 0)
     (0 : Int) < maxTj w ∧ maxTj w ≤ 900 ∧ 900 < maxTj w + 40 ∧ maxTj w + 40 ≤ 1000) ∧ 5 < (run.wr (F.PWR_VLOWTH 0) 6).rd (F.PWR_VLOWTH 0) ∧
    (run.wr (F.PWR_VLOWTH 0) 6).rd (F.PWR_VLOWTH 0) ≤ 6 := by decide +kernel

/-! ### Witnesses: test, debug, duplex and reset -/

/-- The device is SHUT DOWN. -/
def shut : State := run.wr F.PWR_DEVST 2

theorem wit_tests : (∀ o ∈ [1, 2, 3], Rings shut 0x20 0x2B0 0 o 0) ∧ (accepted shut 0x2B0 0 1 0).rd F.PWR_DEVST = 2 ∧ (accepted shut 0x2B0 0 1 0).bst.tested = false ∧
    ({ shut with bst := { shut.bst with tested := true, running := true } } : State).bst.tested = true ∧ run.rd F.PWR_DEVST ≠ 2 ∧ run.bst.running = false ∧
    (run.bst.fails.filter (fun e => confirmed run e && !(run.bst.fused.any (sameElement e)))).length ≤ 512 - run.bst.fused.length :=
  ⟨fun _ _ => ⟨⟨by decide +kernel, by decide +kernel⟩, by decide +kernel, by decide +kernel⟩, by decide +kernel⟩

/-- No element of a fuse record is free, and one failing element is confirmed. -/
def fullFuses : State :=
  let e : TestElement := { kind := 4, unit := 1, bank := 2, row := 0, repaired := true }
  { shut with bst := { shut.bst with tested := true, fails := [e], fused := List.replicate 512 { e with bank := 3 },
                                      stored := some { (default : BstRecord) with entries := [(e, true, false)] } } }

theorem wit_fuses_full : (let q := accepted fullFuses 0x2B0 0 2 0
     q.bst.tested = true ∧ 512 - q.bst.fused.length < (q.bst.fails.filter (fun e => confirmed q e && !(q.bst.fused.any (sameElement e)))).length) := by
  decide +kernel

theorem wit_rolling : (let u := (strokes.wr F.BST_REN 1).wr (F.FER_NST 0 2) 3
     u.isSet F.BST_REN = true ∧ u.rd F.PWR_DEVST = 0 ∧ u.rd F.BST_RKIND = 0 ∧ ∃ e, rollNext u = some e) ∧ run.rd F.BST_RKIND ≠ 1 ∧ run.rd F.BST_RKIND ≠ 2 ∧
    (run.wr F.BST_RKIND 1).rd F.BST_RKIND = 1 ∧ ((run.wr F.BST_RKIND 2).wr F.BST_RPH 1).rd F.BST_RPH = 1 ∧
    ((run.wr F.BST_RKIND 2).wr F.BST_RPH 3).rd F.BST_RKIND = 2 ∧ ([⟨0, 0, 0, 0, false⟩] : List TestElement).getLast? = some ⟨0, 0, 0, 0, false⟩ := by
  refine ⟨⟨by decide +kernel, by decide +kernel, by decide +kernel, _, someGet (by decide +kernel)⟩, by decide +kernel⟩

theorem wit_test_port : run.isSet F.CSN_ARMED = false ∧ (run.wr F.CSN_ARMED 1).isSet F.CSN_ARMED = true ∧ (run.wr F.BLT_LVL 2).rd F.BLT_LVL = 2 ∧
    68 ≤ (68#8).toNat ∧ ferPower (loadIr (setFerPower run 0 0) 0x12) 0 = 0 ∧ ferPower (loadIr (setFerPower run 0 3) 0x12) 0 ≠ 0 ∧ run.rd F.BLT_LVL ≠ 2 := by decide +kernel

theorem wit_unlocking : challengeWait (loadIr run 0x10) = 0 ∧ challengeWait (loadIr { run with dbg := { run.dbg with waitEnd := 1 } } 0x10) ≠ 0 ∧
    ({ run with dbg := { run.dbg with chal := some (2, [1]) } } : State).dbg.chal = some (2, [1]) ∧ run.rd F.BLT_LVL = 0 := by decide +kernel

/-- The debug port at a level, with an access to a word of DRAM. -/
def debugging (level : Nat) : State := run.wr F.BLT_LVL level
def readAcc : DbgAcc := { addr := 0, size := 0, op := 0, data := 0, since := 0 }

theorem wit_debug_accesses : (loadIr (debugging 1) 0x11).dbg.acc = none ∧ dbgBarred 0 = false ∧ (debugging 1).rd F.BLT_LVL = 1 ∧
    dbgBarred 0xF8000001000 = true ∧ dbgBarred 0xF0000000000 = true ∧
    (∃ p v, dbgRead { loadIr (debugging 1) 0x11 with dbg := { (loadIr (debugging 1) 0x11).dbg with acc := some readAcc } } readAcc = (.ok 0 p, v)) ∧
    ({ debugging 1 with dbg := { run.dbg with acc := some readAcc } } : State).dbg.acc = some readAcc := by
  refine ⟨by decide +kernel, by decide +kernel, by decide +kernel, by decide +kernel, by decide +kernel, ⟨false, _, fstEq (by decide +kernel)⟩, by decide +kernel⟩

theorem wit_debug_write : ∃ p v, dbgWrite { loadIr (debugging 2) 0x11 with dbg := { (loadIr (debugging 2) 0x11).dbg with acc := some { readAcc with op := 2 } } }
    { readAcc with op := 2 } = (.ok 0 p, v) := ⟨false, _, fstEq (by decide +kernel)⟩

/-- ATTACH at level 2, with scribe 0 halted. -/
def attached : State := ((debugging 2).wr F.BLT_ATTACH 1).wr (F.DSK_SST 0) 3

theorem wit_run_control : (∀ o ∈ [18, 19, 20, 21, 24, 25], Passes attached 0x21 0x2C0 o true) ∧ attached.isSet F.BLT_ATTACH = true ∧ 1 ≤ attached.rd F.BLT_LVL ∧
    run.isSet F.BLT_ATTACH = false ∧ coreHalted attached (attached.rd F.BLT_TGT) = true ∧ attached.rd F.BLT_TGT ≤ 32 ∧ attached.rd F.BLT_KIND_23 = 0 ∧
    attached.rd F.BLT_NUM < 32 ∧ ((attached.wr F.BLT_KIND_23 1).wr F.BLT_NUM 0x3FF).rd F.BLT_NUM = 0x3FF ∧ 32 < (attached.wr F.BLT_TGT 33).rd F.BLT_TGT ∧
    coreHalted run 0 = false ∧ nibMayHalt (attached.wr F.BLT_BENCH 1) 0 0 = true ∧ nibMayHalt attached 0 0 = false ∧
    (let u := run.modScribe 0 (fun c => { c with haltReq := true })
     (u.scribe 0).haltReq = true ∧ scribeUp u 0 = true) ∧ getField (0x1000#72) 12 1 = 1 ∧ getField (0x800#72) 12 1 = 0 ∧ getField (0x1000#72) 11 1 = 0 :=
  ⟨fun o h => by
    simp only [List.mem_cons, List.not_mem_nil, or_false] at h
    rcases h with rfl | rfl | rfl | rfl | rfl | rfl <;> exact ⟨by decide +kernel, by decide +kernel⟩, by decide +kernel⟩

/-- The blotter enabled with one packet waiting. -/
def traced : State :=
  let u := run.wr F.BLT_EN 1
  { u with blot := { u.blot with queues := [(3, [{ ty := 1, payload := 0, stamp := 5, ext := none }])] } }

theorem wit_trace : blotOn traced = true ∧ nextPacket traced = some (3, { ty := 1, payload := 0, stamp := 5, ext := none }) ∧ blotOn run = false ∧
    bitOf (((run.wr F.BLT_SEN 1).wr (F.BLT_STIM 0) 7).rd F.BLT_SEN) 0 = true ∧ bitOf ((run.wr (F.BLT_STIM 0) 7).rd F.BLT_SEN) 0 = false := by decide +kernel

theorem wit_trace_pages : Passes run 0 0x2C0 64 true ∧ Passes run 0 0x2C0 8 true :=
  ⟨⟨by decide +kernel, by decide +kernel⟩, ⟨by decide +kernel, by decide +kernel⟩⟩

theorem wit_duplex_control : ∀ o ∈ [8, 9, 10, 11, 12], Passes run 0x21 0x2E0 o true := fun o h => by
  simp only [List.mem_cons, List.not_mem_nil, or_false] at h
  rcases h with rfl | rfl | rfl | rfl | rfl <;> exact ⟨by decide +kernel, by decide +kernel⟩

theorem wit_duplex_values : getField (1#72) 1 2 = 0 ∧ getField (7#72) 1 2 = 3 ∧ getField (1#72) 5 4 = 0 ∧ (run.wr F.DPX_EN 1).isSet F.DPX_EN = true ∧
    getField (33#72) 0 1 = 1 ∧ getField (33#72) 3 2 = run.rd F.DPX_PAIR ∧ getField (33#72) 5 4 ≠ 0 ∧ getField (33#72) 1 2 ≠ 3 := by decide +kernel

/-- The duplex pair runs beside a peer; domain 0 runs with function 0, critical, whose outputs are decided. -/
def dupOne : State := { placed.wr F.DPX_EN 1 with dpx := { placed.dpx with heardAt := 5 } }.wr F.DPX_PEERUP 1
def peerOut : DpxOutput := { dom := 0, stroke := 0, odsum := 0, pdsum := 0, nfn := 1, nind := 0 }

theorem wit_duplex_frames : dupOne.isSet F.DPX_EN = true ∧ (dupOne.tick 3000000004).now < (dupOne.tick 3000000004).dpx.heardAt + 3000000000 ∧
    dupOne.isSet F.DPX_PEERUP = true ∧ (dupOne.tick 3000000005).dpx.heardAt + 3000000000 ≤ (dupOne.tick 3000000005).now ∧ peerOut.dom ≤ 3 ∧
    ({ dupOne with dpx := { dupOne.dpx with own := [peerOut] } } : State).dpx.own.find? (sameStroke peerOut) = some peerOut ∧
    dupOne.dpx.own.find? (sameStroke peerOut) = none ∧ tget dupOne.dpx.sent 0 ≤ peerOut.stroke ∧
    peerOut.stroke < tget (tset dupOne.dpx.sent 0 1) 0 := by decide +kernel

theorem wit_duplex_output : ∃ u : State, u.isSet F.DPX_EN = true ∧ u.isSet (F.DOM_RUN 0) = true ∧ 0 ≤ curStroke u 0 ∧ tget u.dpx.sent 0 ≤ 0 ∧ dpxFns u 0 0 ≠ [] ∧
    dpxReady u 0 0 = true ∧ u.dpx.own = [] ∧ u.dpx.peer = [] ∧ (sendOn u (dpxPorts u) 5 false none (.dpxOutput 1 (dpxOutput u 0 0))).dpx = u.dpx :=
  ⟨(dupOne.setFn 0 { dupOne.fn 0 with desc := { (dupOne.fn 0).desc with fd := [2 ^ 28 + 4, 1000, 16, 0] } }).tick 10000000, by decide +kernel⟩

theorem wit_resets : ({ run with phase := 1 } : State).phase = 1 ∧ run.phase = 0 ∧ ({ run with phase := 3 } : State).phase = 3 ∧ ({ run with phase := 2 } : State).phase = 2 ∧
    strokes.rd (F.FER_FSTATE 0) = 2 ∧ run.rd (F.FER_FSTATE 63) ≠ 2 ∧ ((run.setFerrule 0 { run.ferrule 0 with inReset := true }).ferrule 0).inReset = true ∧ run.pwr.held.contains 0 = false := by decide +kernel

/-! ### Worked figures of the spec -/

/-- spec/00_scope.md, reading addresses and a time value. -/
theorem test_addresses : regionOf 0xF0000A00000 = .inkwell 5 0 ∧ regionOf 0xF8000115000 = .page 0x115 0 := by decide +kernel
theorem test_time_value : timeWord 1700000000250000000 = 0x6553F10040000000#72 := by decide +kernel

/-- spec/02_register_pages.md, R70: subscription slot 123h with generation 3. -/
theorem test_handle : handleOf 1 3 0x123 = 0x100300123 := by decide +kernel

/-- spec/07_subscriptions.md, three samples: their strokes, SDLY aside, and positions. -/
theorem test_samples : mapSample 1700000000000000000 625000 4800 1233 1700000200257475000 = (320411, 0, 320411) ∧
    mapSample 1700000000000000000 625000 4800 1234 1700000200257683333 = (320411, 1, 320412) ∧
    mapSample 1700000000000000000 625000 4800 1235 1700000200258171667 = (320411, 2, 320413) ∧
    mapSample 1700000000000000000 625000 4800 1236 1700000200857500000 = (322012, 0, 321372) := by decide +kernel

/-- A property of the state that a command leaves. -/
def after (o : Host.Outcome State Fault Refusal) (p : State → Bool) : Bool := match o with | .next q => p q | _ => false

/-- spec/13_scribe_cores.md, a BMOVE from a line-aligned source to a destination 32 bytes short of a line boundary: its first step. -/
def moving : State := ((run.setG 0 5 0x200FE0).setG 0 6 0x300000).setG 0 7 200

theorem test_block_move : after (exec (.bmove 0 5 6 7 .clean) moving) (fun q =>
    decide (q.g 0 5 = 0x201000 ∧ q.g 0 6 = 0x300020 ∧ q.g 0 7 = 168 ∧ (q.scribe 0).pc = 0x1000)) = true := by decide +kernel

/-- spec/14_scribe_exceptions.md, the vectors and stack of the worked case: a system call from U is entered at K, at 6_0000h + 8 × 40h. -/
def calling : State :=
  run.modScribe 0 (fun c => { c with status := putField (putField c.status 0 2 0) 2 4 0, sr := [(0x001, 0x400000), (0x002, 0x3F0000), (0x003, 0x60000)] })

theorem test_system_call : after (exec (.syscall 0 0 0 0 5) calling) (fun q =>
    decide ((q.scribe 0).pc = 0x60200 ∧ sr q 0 (espNum 1) = 0x3FFFC0 ∧ scribeLevel (q.scribe 0) = 1 ∧ q.rd (F.DSK_SST 0) = 1)) = true := by decide +kernel

/-- R372: arithmetic wraps at 72 bits, the second operand of SUB is subtracted, and g0 reads zero. -/
theorem test_add_wraps : after (exec (.add 0 1 2 3) ((run.setG 0 2 (BitVec.allOnes 72)).setG 0 3 2)) (fun q => decide (q.g 0 1 = 1)) = true := by decide +kernel
theorem test_sub_order : after (exec (.sub 0 1 2 3) ((run.setG 0 2 5).setG 0 3 7)) (fun q => decide (q.g 0 1 = -2)) = true := by decide +kernel
theorem test_mulh_signed : after (exec (.mulh 0 1 2 3) ((run.setG 0 2 (-1)).setG 0 3 1)) (fun q => decide (q.g 0 1 = -1)) = true := by decide +kernel
theorem test_r0 : after (exec (.add 0 0 2 3) ((run.setG 0 2 5).setG 0 3 7)) (fun q => decide (q.g 0 0 = 0 ∧ (q.scribe 0).pc = 0x1004)) = true := by decide +kernel

end Sys2Proof.Tests
end

section
/-! PROOFS. Countersigning: what showing a proposal and ending it leave, and the rules of the seal and of its window (R79, R81,
R87, R90, R91). -/

namespace Sys2Proof.Machine
open Sys2Proof

/-! ### A field that reads a value, through writes of other fields -/

/-- A state whose registers are in canonical form, and in which a field reads a value. -/
structure Reads (s : State) (f : Fld) (v : Nat) : Prop where
  regs : twf s.regs = true
  val : s.rd f = v

theorem reads_wr_self {s : State} (h : twf s.regs = true) {f : Fld} (hf : FldIn f) (v : Nat) : Reads (s.wr f v) f (v % 2 ^ f.len) :=
  ⟨twf_wr h f v, rd_wr_self h hf v⟩

theorem Reads.wr {s : State} {f g : Fld} {v : Nat} (h : Reads s f v) (hg : FldIn g) (ha : FldApart g f) (x : Nat) :
    Reads (s.wr g x) f v :=
  ⟨twf_wr h.regs g x, (rd_wr_apart h.regs hg ha x).trans h.val⟩

theorem Reads.of_regs {s q : State} {f : Fld} {v : Nat} (h : Reads s f v) (hq : q.regs = s.regs) : Reads q f v :=
  ⟨hq ▸ h.regs, (rd_of_regs hq f).trans h.val⟩

/-- The marks of a proposal (R87) are in word 4 of a page: fields of other words read as before. -/
theorem Reads.marks {s : State} {f : Fld} {v : Nat} (h : Reads s f v) (hf : f.addr % 512 ≠ 4) (l : List Nat) (a b : State → Nat → Nat) :
    Reads (forEach l s fun q p => (q.wr (F.HDR_STG p) (a q p)).wr (F.HDR_NSTG p) (b q p)) f v := by
  refine foldl_keeps (P := fun q => Reads q f v) h fun q p hq => ?_
  have hp : p * 512 + 4 ≠ f.addr := by omega
  exact (hq.wr (g := F.HDR_STG p) (by simp [F.HDR_STG]) (.inl hp) _).wr (by simp [F.HDR_NSTG]) (.inl hp) _

theorem Reads.csnShow {s : State} {f : Fld} {v : Nat} (h : Reads s f v) (hf : f.addr % 512 ≠ 4) : Reads (csnShow s) f v :=
  h.marks hf _ _ _

/-- Showing a proposal changes registers alone. -/
@[simp] theorem csnShow_csn (s : State) : (csnShow s).csn = s.csn :=
  foldl_keeps (P := fun q : State => q.csn = s.csn) rfl fun _ _ hq => hq

/-! ### What the end of a proposal leaves (R87, R90, R91) -/

/-- The log entry that HEAD names takes the outcome (R91). -/
theorem reads_csnLog {s : State} (h : twf s.regs = true) (outcome signer time : Nat) (digest : Word) :
    Reads (csnLog s outcome signer time digest) (F.CSN_OUTCOME (s.rd F.CSN_HEAD)) (outcome % 2 ^ 4) := by
  unfold csnLog
  extract_lets k r e q
  have hr : twf r.regs = true := by
    unfold r
    split
    · exact twf_bump h _
    · exact h
  have hk : 1 * 512 + 18 ≠ (F.CSN_OUTCOME k).addr := by simp only [F.CSN_OUTCOME]; omega
  have he : Reads e (F.CSN_OUTCOME k) (outcome % 2 ^ 4) := by
    refine (((((reads_wr_self (twf_wr hr _ _) ?_ outcome).wr ?_ ?_ _).wr ?_ ?_ _).wr ?_ ?_ _).wr ?_ ?_ _).wr ?_ ?_ _
    all_goals simp [FldApart, F.CSN_OUTCOME, F.CSN_LPROP, F.CSN_LSIGN, F.CSN_LNENT, F.CSN_LTIME, F.CSN_LDIG]
  exact (he.wr (g := F.CSN_HEAD) (by decide) (.inl hk) _).of_regs (q := { q with csn := _ }) rfl

/-- An outcome counts in one of the counters of CSN_CNT, word 17 of the page (R90). -/
theorem csnCount_eq_bump (s : State) (outcome : Nat) : ∃ f : Fld, f.addr = 1 * 512 + 17 ∧ FldIn f ∧ csnCount s outcome = s.bump f := by
  unfold csnCount
  split
  · exact ⟨F.CSN_NCOMMIT, rfl, by decide, rfl⟩
  · split
    · exact ⟨F.CSN_NMISM, rfl, by decide, rfl⟩
    · split
      · exact ⟨F.CSN_NEXPIRE, rfl, by decide, rfl⟩
      · exact ⟨F.CSN_NOTHER, rfl, by decide, rfl⟩

theorem Reads.csnCount {s : State} {f : Fld} {v : Nat} (h : Reads s f v) (hf : f.addr ≠ 1 * 512 + 17) (outcome : Nat) :
    Reads (csnCount s outcome) f v := by
  obtain ⟨g, hg, hin, he⟩ := csnCount_eq_bump s outcome
  exact he ▸ h.wr hin (.inl (hg ▸ hf.symm)) _

/-- The end of a proposal leaves no proposal, no entries, and its outcome in the log entry that HEAD named (R87, R91). -/
theorem csnEnd_leaves {s : State} (h : twf s.regs = true) {outcome : Nat} (ho : outcome < 2 ^ 4) (signer time : Nat) (digest : Word) :
    (csnEnd s outcome signer time digest).rd F.CSN_CST = 0 ∧ (csnEnd s outcome signer time digest).csn.entries = [] ∧
      (csnEnd s outcome signer time digest).rd (F.CSN_OUTCOME (s.rd F.CSN_HEAD)) = outcome := by
  have hlog := reads_csnLog h outcome signer time digest
  rw [Nat.mod_eq_of_lt ho] at hlog
  generalize s.rd F.CSN_HEAD = k at *
  have hw : (F.CSN_OUTCOME k).addr % 512 = 19 := by simp only [F.CSN_OUTCOME]; omega
  have hc : 1 * 512 + 9 ≠ (F.CSN_OUTCOME k).addr := by omega
  have hend := (hlog.csnCount (by omega) outcome).marks (by omega) (csnPages (csnCount (csnLog s outcome signer time digest) outcome))
    (fun _ _ => 0) (fun _ _ => 0)
  exact ⟨((reads_wr_self (f := F.CSN_CST) hend.regs (by decide) 0).wr (g := F.CSN_NENT) (by decide) (by decide) 0).val, rfl,
    ((hend.wr (g := F.CSN_CST) (by decide) (.inl hc) 0).wr (g := F.CSN_NENT) (by decide) (.inl hc) 0).val⟩

/-- The end of a proposal leaves true time. -/
@[simp] theorem csnEnd_now (s : State) (outcome signer time : Nat) (digest : Word) : (csnEnd s outcome signer time digest).now = s.now := by
  have hlog : (csnLog s outcome signer time digest).now = s.now := by
    simp only [csnLog, wr_now]
    split <;> rfl
  have hcount : (csnCount (csnLog s outcome signer time digest) outcome).now = s.now := by
    obtain ⟨f, -, -, he⟩ := csnCount_eq_bump (csnLog s outcome signer time digest) outcome
    exact he ▸ hlog
  exact foldl_keeps (P := fun q : State => q.now = s.now) hcount fun _ _ hq => hq

/-! ### The seal (R79) -/

/-- What a write of CSN_SEAL does, in terms of the state `w` that holds the digest written. -/
theorem exec_csnSeal {s w : State} {t init : Nat} {digest : Word} (hw : (s.tick t).wr (F.CSN_DIG 0) digest.toNat = w) :
    exec (.csnSeal t init digest) s = .next (
      if w.rd F.CSN_CST = 1 ∧ party w init = w.rd F.CSN_PPARTY then
        if digest = csnDigest w then
          csnShow (State.wr { w with csn := { w.csn with sealDig := digest, windowAt := w.devTime } } F.CSN_CST 2)
        else csnEnd w 7 0 w.devTime digest
      else w.ignored 1 10 7) := by
  subst hw
  rfl

/-- Settles O29: the seal writes CSN_SEAL alone before it is judged, so CST, the proposer and HEAD are those from before the write. -/
theorem sealRule : Obligations.SealRule := by
  unfold Obligations.SealRule
  intro s t init digest hs
  extract_lets u w k
  have hu : twf u.regs = true := hs.regs
  have hw : twf w.regs = true := twf_wr hu _ _
  have hsame (f : Fld) (hf : 1 * 512 + 10 ≠ f.addr) : w.rd f = u.rd f := rd_wr_apart hu (by decide) (.inl hf) _
  have hcst : w.rd F.CSN_CST = u.rd F.CSN_CST := hsame _ (by decide)
  have hparty : w.rd F.CSN_PPARTY = u.rd F.CSN_PPARTY := hsame _ (by decide)
  have hhead : w.rd F.CSN_HEAD = k := hsame _ (by decide)
  have hexec := exec_csnSeal (s := s) (t := t) (init := init) (digest := digest) (w := w) rfl
  rw [hcst, hparty] at hexec
  refine ⟨fun hc hp hd => ?_, fun hc hp hd => ?_, fun hn => ?_⟩
  · rw [if_pos ⟨hc, hp⟩, if_pos hd] at hexec
    refine ⟨_, hexec, (Reads.csnShow (reads_wr_self (f := F.CSN_CST) ?_ (by decide) 2) (by decide)).val, ?_, ?_⟩
    · exact hw
    · rw [csnShow_csn]; rfl
    · rw [csnShow_csn]; rfl
  · rw [if_pos ⟨hc, hp⟩, if_neg hd] at hexec
    obtain ⟨hq, hnone, hout⟩ := csnEnd_leaves hw (outcome := 7) (by decide) 0 w.devTime digest
    exact ⟨_, hexec, hq, hnone, hhead ▸ hout⟩
  · rw [hexec, if_neg fun h => hn.elim (· h.1) (· h.2)]

/-! ### The window (R81) -/

theorem csnExpire_of_ended {s : State} (hc : s.rd F.CSN_CST = 2) (ht : s.csn.windowAt + 2000000000 ≤ s.devTime) :
    csnExpire s = csnEnd s 3 0 (s.csn.windowAt + 2000000000) s.csn.sealDig := if_pos ⟨hc, ht⟩

theorem csnExpire_of_unsealed {s : State} (hc : s.rd F.CSN_CST ≠ 2) : csnExpire s = s := if_neg fun h => hc h.1

theorem csnExpire_of_open {s : State} (ht : s.devTime < s.csn.windowAt + 2000000000) : csnExpire s = s := if_neg fun h => by omega

theorem exec_countersignWindowExpire (s : State) (t : Nat) : exec (.countersignWindowExpire t) s = .next (csnExpire (s.tick t)) := rfl

theorem exec_csnSign (s : State) (t init : Nat) (digest : Word) :
    exec (.csnSign t init digest) s = .next (csnSignWrite (csnExpire (s.tick t)) init digest) := rfl

/-- A time that is not after the present counts as the present. -/
theorem tick_of_le {s : State} {t : Nat} (h : t ≤ s.now) : s.tick t = s := by
  simp only [State.tick, Nat.max_eq_left h]

/-- Settles O30: a countersign first ends a window that is over, and a second end finds no proposal, so it acts as after the end. -/
theorem windowRule : Obligations.WindowRule := by
  unfold Obligations.WindowRule
  intro s t init digest hs
  extract_lets u k
  rw [exec_countersignWindowExpire]
  refine ⟨fun _ ht => congrArg _ (csnExpire_of_open ht), fun hc ht => ?_, fun hc => congrArg _ (csnExpire_of_unsealed hc)⟩
  have hu : twf u.regs = true := hs.regs
  have hend := csnExpire_of_ended hc ht
  have hcsn := csnEnd_leaves hu (outcome := 3) (by decide) 0 (u.csn.windowAt + 2000000000) u.csn.sealDig
  have hnow : (csnExpire u).now = max s.now t := by rw [hend, csnEnd_now]; rfl
  rw [← hend] at hcsn
  obtain ⟨hcst, hnone, hout⟩ := hcsn
  refine ⟨csnExpire u, rfl, hcst, hnone, hout, ?_⟩
  have htick : (csnExpire u).tick t = csnExpire u := tick_of_le (hnow ▸ Nat.le_max_right s.now t)
  have hagain : csnExpire (csnExpire u) = csnExpire u := csnExpire_of_unsealed (hcst ▸ by decide)
  rw [exec_csnSign, exec_csnSign, htick, hagain]

end Sys2Proof.Machine
end

section
/-! PROOFS. Device time: the configuration words of the selected source (R109), by their own command and by a plain write. -/

namespace Sys2Proof.Machine
open Sys2Proof

/-! ### A plain write of an always-on word -/

/-- A whole-word write that the page admits meets no bus error and no wait where the word is always on (R51 to R57). -/
theorem exec_registerWrite_of_alwaysOn {s : State} {t init vf page off : Nat} (hdesk : deskWord page off = page)
    (hpage : pageKind page ≠ none) (hword : wordFields page off ≠ none) (hon : alwaysOn page off = true)
    (hadmit : pageAdmits (s.tick t) init vf page off true = true) (value : Word) :
    exec (.registerWrite t init vf page off 8 value) s = .next (pageWrite (s.tick t) init page off value) := by
  have hfault : accessFault (s.tick t) init vf page off true = none := by simp [accessFault, hpage, hadmit, hword, hon]
  have hexec : exec (.registerWrite t init vf page off 8 value) s = execRegisterWrite t init vf page off 8 value s := rfl
  simp [hexec, execRegisterWrite, commandAccess, regAccess, hdesk, hpage, hadmit, hfault, hon]

/-! ### The configuration words of the time sources (R109) -/

/-- The configuration words of the TIM page: TIM_PTPA, TIM_PTPB, TIM_ASYM, TIM_IRIG and TIM_PPS (R109). -/
def TimConfigWord (off : Nat) : Prop := off = 11 ∨ off = 12 ∨ off = 16 ∨ off = 17 ∨ off = 18

/-- Each configuration word belongs to its own source, and TIM_ASYM to both PTP sources (R109). -/
theorem timWordSelected_iff {s : State} {off : Nat} : timWordSelected s off = true ↔
    (off, s.rd F.TIM_SRC) ∈ [((11, 1) : Nat × Nat), (12, 2), (16, 1), (16, 2), (17, 3), (18, 4)] := by
  simp [timWordSelected, and_or_left, or_assoc]

theorem timConfigWord_of_selected {s : State} {off : Nat} (h : timWordSelected s off = true) : TimConfigWord off := by
  simp only [timWordSelected, Bool.or_eq_true, Bool.and_eq_true, decide_eq_true_eq] at h
  unfold TimConfigWord
  omega

theorem alwaysOn_tim (off : Nat) : alwaysOn 2 off = true := Bool.or_true _

theorem wordFields_timConfigWord {off : Nat} (h : TimConfigWord off) : wordFields 2 off ≠ none := by
  obtain rfl | rfl | rfl | rfl | rfl := h <;> decide

/-- No configuration word holds a commit-protected field, so a write of one is not staged (R65). -/
theorem csMask_timConfigWord {off : Nat} (h : TimConfigWord off) : csMask 2 off = 0 := by
  obtain rfl | rfl | rfl | rfl | rfl := h <;> decide

theorem pageWrite_timConfigWord {off : Nat} (h : TimConfigWord off) (s : State) (init : Nat) (value : Word) :
    pageWrite s init 2 off value = timConfigWrite s off value := by
  have hstage : ¬ csMask 2 off ≠ 0 := not_not.2 (csMask_timConfigWord h)
  have hbell : ¬ (hasDoorbell 2 ∧ off = 8) := fun hb => absurd hb.1 (by decide)
  have hkind : pageKind 2 = some .tim := rfl
  have hoff : off = 11 ∨ off = 12 ∨ (16 ≤ off ∧ off ≤ 18) := by unfold TimConfigWord at h; omega
  simp only [pageWrite, if_neg hstage, if_neg hbell, hkind, if_pos hoff]

theorem exec_timSourceConfigWrite {off : Nat} (h : TimConfigWord off) (s : State) (t init : Nat) (value : Word) :
    exec (.timSourceConfigWrite t init off value) s = .next (timConfigWrite (s.tick t) off value) :=
  congrArg _ (if_pos h)

theorem exec_registerWrite_timConfigWord {off : Nat} (h : TimConfigWord off) {s : State} {t init vf : Nat}
    (hadmit : pageAdmits (s.tick t) init vf 2 off true = true) (value : Word) :
    exec (.registerWrite t init vf 2 off 8 value) s = .next (timConfigWrite (s.tick t) off value) := by
  rw [exec_registerWrite_of_alwaysOn rfl (by decide) (wordFields_timConfigWord h) (alwaysOn_tim off) hadmit, pageWrite_timConfigWord h]

theorem timConfigWrite_of_selected {s : State} {off : Nat} (h : timWordSelected s off = true) (value : Word) :
    timConfigWrite s off value = s.ignored 2 off 7 := if_pos h

/-- Settles O31: both writes come to the same effect, whose first question is whether the word is the selected source's. -/
theorem selectedSourceProtected : Obligations.SelectedSourceProtected := by
  unfold Obligations.SelectedSourceProtected
  intro s t init vf value u p hp hsrc
  have hselected : timWordSelected u p.1 = true := timWordSelected_iff.2 (hsrc ▸ hp)
  have hword : TimConfigWord p.1 := timConfigWord_of_selected hselected
  have hignored := timConfigWrite_of_selected hselected value
  exact ⟨(exec_timSourceConfigWrite hword s t init value).trans (congrArg _ hignored),
    fun hadmit => (exec_registerWrite_timConfigWord hword hadmit value).trans (congrArg _ hignored)⟩

end Sys2Proof.Machine
end

section
/-! PROOFS. DRAM: the record of a snoop timeout, its capture, its count and its clearing by a read of DMC_SNTO (R486). -/

namespace Sys2Proof.Machine
open Sys2Proof

/-! ### Page errors and event bits -/

/-- A page error writes PAGE_ERR, word 5 of its page, alone: fields of other words read as before (R59). -/
theorem Reads.pageErr {s : State} {f : Fld} {v page : Nat} (h : Reads s f v) (hf : f.addr ≠ page * 512 + 5) (code ofs info : Nat) :
    Reads (s.pageErr page code ofs info) f v := by
  have hwrite {q : State} (hq : Reads q f v) {g : Fld} (hg : FldIn g) (ha : g.addr = page * 512 + 5) (x : Nat) : Reads (q.wr g x) f v :=
    hq.wr hg (.inl (ha ▸ hf.symm)) x
  unfold State.pageErr
  refine hwrite ?_ (g := F.HDR_ECNT page) (by simp [F.HDR_ECNT]) rfl _
  split
  · exact hwrite (hwrite (hwrite h (g := F.HDR_ECODE page) (by simp [F.HDR_ECODE]) rfl code)
      (g := F.HDR_EOFS page) (by simp [F.HDR_EOFS]) rfl ofs) (g := F.HDR_EINFO page) (by simp [F.HDR_EINFO]) rfl info
  · exact h

/-- The first error of a page gives its code to PAGE_ERR (R59). -/
theorem reads_pageErr_code {s : State} {page : Nat} (h : Reads s (F.HDR_ECODE page) 0) (code ofs info : Nat) :
    Reads (s.pageErr page code ofs info) (F.HDR_ECODE page) (code % 2 ^ 8) := by
  have hfirst : s.rd (F.HDR_ECODE page) = 0 := h.val
  simp only [State.pageErr, if_pos hfirst, State.bump]
  refine (((reads_wr_self h.regs ?_ code).wr ?_ ?_ ofs).wr ?_ ?_ info).wr ?_ ?_ _ <;>
    simp [FldApart, F.HDR_ECODE, F.HDR_EOFS, F.HDR_EINFO, F.HDR_ECNT]

theorem bitOf_rd_setBit {s : State} (h : twf s.regs = true) {f : Fld} (hf : FldIn f) {i : Nat} (hi : i < f.len) :
    bitOf ((s.setBit f i).rd f) i = true := by
  rw [State.setBit, rd_wr_self h hf, bitOf, Nat.testBit_mod_two_pow, setBitN, Nat.testBit_or, Nat.testBit_shiftLeft]
  simp [hi]

/-! ### The capture and the count (R486) -/

/-- DMC_SNTO, word 20 of a controller's page, with a desk and a line captured. -/
def snoopNamed (s : State) (c desk line : Nat) : State := ((s.wr (F.DMC_SDESK c) desk).wr (F.DMC_SLINE c) line).wr (F.DMC_SV c) 1

/-- What the first report of a snoop timeout since the last read of DMC_SNTO leaves. -/
def snoopCaptured (s : State) (c desk line : Nat) : State :=
  ((snoopNamed s c desk line).pageErr (0x260 + c) 0x11 20 (line % 2 ^ 40)).setBit (F.DMC_EVT c) 1

/-- A desk that has not answered a snoop for 10 µs is reported: captured where no report stands, else counted (R466, R486). -/
theorem exec_snoopTimeout_of_waits {s u : State} {t desk line c : Nat} {x : Tx} (hu : s.tick t = u) (hc : (lineChannel u line).1 = c)
    (hx : x ∈ u.mem.txs) (hline : x.line = line) (hwaits : x.waits.contains desk = true) (hlate : x.since + 10000 ≤ u.now) :
    exec (.snoopTimeout t desk line) s =
      .next (if u.isSet (F.DMC_SV c) then u.bump (F.DMC_STCNT c) else snoopCaptured u c desk line) := by
  have hreport : u.mem.txs.any (fun x => x.line == line && (x.waits.contains desk || x.waits.contains (8 + desk)) &&
      decide (x.since + 10000 ≤ u.now)) = true :=
    List.any_eq_true.2 ⟨x, hx, by rw [hwaits, decide_eq_true hlate, beq_iff_eq.2 hline]; rfl⟩
  have hexec : exec (.snoopTimeout t desk line) s = execSnoopTimeout t desk line s := rfl
  simp only [hexec, execSnoopTimeout, hu, hc, if_pos hreport, snoopCaptured, snoopNamed]

/-- The capture names the desk and the line, cut to their fields, and is valid. -/
theorem snoopNamed_reads {s : State} (h : twf s.regs = true) (c desk line : Nat) :
    Reads (snoopNamed s c desk line) (F.DMC_SDESK c) (desk % 2 ^ 2) ∧ Reads (snoopNamed s c desk line) (F.DMC_SLINE c) (line % 2 ^ 42) ∧
      Reads (snoopNamed s c desk line) (F.DMC_SV c) 1 := by
  have hdesk := reads_wr_self h (f := F.DMC_SDESK c) (by simp [F.DMC_SDESK]) desk
  have hline := reads_wr_self hdesk.regs (f := F.DMC_SLINE c) (by simp [F.DMC_SLINE]) line
  refine ⟨(hdesk.wr ?_ ?_ line).wr ?_ ?_ 1, hline.wr ?_ ?_ 1, reads_wr_self hline.regs ?_ 1⟩
  all_goals simp [FldApart, F.DMC_SDESK, F.DMC_SLINE, F.DMC_SV]

theorem Reads.snoopNamed {s : State} {f : Fld} {v c : Nat} (h : Reads s f v) (hf : f.addr ≠ (0x260 + c) * 512 + 20) (desk line : Nat) :
    Reads (snoopNamed s c desk line) f v :=
  ((h.wr (g := F.DMC_SDESK c) (by simp [F.DMC_SDESK]) (.inl hf.symm) desk).wr (g := F.DMC_SLINE c) (by simp [F.DMC_SLINE])
    (.inl hf.symm) line).wr (g := F.DMC_SV c) (by simp [F.DMC_SV]) (.inl hf.symm) 1

/-- The DRAM event is in word 21 of the page: setting it leaves the fields of other words. -/
theorem Reads.dmcEvent {s : State} {f : Fld} {v c : Nat} (h : Reads s f v) (hf : f.addr ≠ (0x260 + c) * 512 + 21) (i : Nat) :
    Reads (s.setBit (F.DMC_EVT c) i) f v :=
  h.wr (g := F.DMC_EVT c) (by simp [F.DMC_EVT]) (.inl hf.symm) _

/-- The capture of a report reads as the desk, the line, a valid mark, code 11h for a first error, and the DRAM event (R486). -/
theorem snoopCaptured_reads {s : State} (h : twf s.regs = true) (c : Nat) {desk line : Nat} (hd : desk < 2 ^ 2) (hl : line < 2 ^ 42) :
    let q := snoopCaptured s c desk line
    q.rd (F.DMC_SDESK c) = desk ∧ q.rd (F.DMC_SLINE c) = line ∧ q.isSet (F.DMC_SV c) = true ∧
      (s.rd (F.HDR_ECODE (0x260 + c)) = 0 → q.rd (F.HDR_ECODE (0x260 + c)) = 0x11) ∧ bitOf (q.rd (F.DMC_EVT c)) 1 = true := by
  intro q
  obtain ⟨hdesk, hline, hvalid⟩ := snoopNamed_reads h c desk line
  have hkept {f : Fld} {v : Nat} (hf : f.addr = (0x260 + c) * 512 + 20) (hv : Reads (snoopNamed s c desk line) f v) : q.rd f = v :=
    ((hv.pageErr (by omega) 0x11 20 (line % 2 ^ 40)).dmcEvent (by omega) 1).val
  refine ⟨(hkept rfl hdesk).trans (Nat.mod_eq_of_lt hd), (hkept rfl hline).trans (Nat.mod_eq_of_lt hl), decide_eq_true (hkept rfl hvalid),
    fun hcode => ?_, ?_⟩
  · have hnone : Reads s (F.HDR_ECODE (0x260 + c)) 0 := ⟨h, hcode⟩
    have hword : (F.HDR_ECODE (0x260 + c)).addr = (0x260 + c) * 512 + 5 := rfl
    have hfirst := hnone.snoopNamed (c := c) (by omega) desk line
    exact ((reads_pageErr_code hfirst 0x11 20 (line % 2 ^ 40)).dmcEvent (by omega) 1).val
  · exact bitOf_rd_setBit (twf_pageErr hdesk.regs _ _ _ _) (by simp [F.DMC_EVT]) (by simp [F.DMC_EVT])

/-- A report that finds a capture leaves it, and is counted (R486). -/
theorem snoopCounted_reads {s : State} (h : twf s.regs = true) (c : Nat) :
    let q := s.bump (F.DMC_STCNT c)
    q.rd (F.DMC_SDESK c) = s.rd (F.DMC_SDESK c) ∧ q.rd (F.DMC_SLINE c) = s.rd (F.DMC_SLINE c) ∧
      q.rd (F.DMC_STCNT c) = min (s.rd (F.DMC_STCNT c) + 1) (2 ^ 16 - 1) := by
  have hin : FldIn (F.DMC_STCNT c) := by simp [F.DMC_STCNT]
  exact ⟨rd_bump_apart h hin (.inr (.inr (by simp [F.DMC_STCNT, F.DMC_SDESK]))),
    rd_bump_apart h hin (.inr (.inr (by simp [F.DMC_STCNT, F.DMC_SLINE]))), rd_bump h hin⟩

/-! ### A read that clears (R60) -/

/-- An access that meets no bus error is to a listed page that admits its initiator (R53). -/
theorem admitted_of_no_fault {s : State} {init vf page off : Nat} {write : Bool} (h : accessFault s init vf page off write = none) :
    pageKind page ≠ none ∧ pageAdmits s init vf page off write = true := by
  unfold accessFault at h
  split at h
  · cases h
  · next hpage =>
    split at h
    · cases h
    · next hadmit => exact ⟨hpage, not_not.1 hadmit⟩

/-- A whole-word read that passes the gate is performed, with its effect (R51 to R57, R60). -/
theorem exec_clearOnRead_of_passes {s : State} {t init page off : Nat} (hdesk : deskWord page off = page)
    (h : Passes (s.tick t) init page off false) :
    exec (.clearOnRead t init 0 page off 8) s = .next (pageRead (s.tick t) init page off false).2 := by
  obtain ⟨hfault, hopen⟩ := h
  obtain ⟨hpage, hadmit⟩ := admitted_of_no_fault hfault
  have hnoWait (hoff : alwaysOn page off = false) : pageInReset (s.tick t) page = false :=
    hopen.resolve_left fun hon => by simp [hon] at hoff
  have hexec : exec (.clearOnRead t init 0 page off 8) s = execClearOnRead t init 0 page off 8 s := rfl
  have hdone : regAccess (s.tick t) init 0 page off 8 none false =
      (.done (pageRead (s.tick t) init page off false).1, (pageRead (s.tick t) init page off false).2) := by
    simpa [regAccess, hdesk, hpage, hadmit, hfault] using hnoWait
  rw [hexec, execClearOnRead, commandAccess, hdone]

/-- A field all of whose bits are masked out reads 0. -/
theorem getField_and_not_mask {w m : Word} {lo len : Nat} (hm : getField m lo len = 2 ^ len - 1) :
    getField (w &&& ~~~m) lo len = 0 := by
  refine Nat.eq_of_testBit_eq fun i => ?_
  have hbit := congrArg (Nat.testBit · i) hm
  simp only [testBit_getField, Nat.testBit_two_pow_sub_one] at hbit
  rw [testBit_getField, Nat.zero_testBit]
  by_cases hi : i < len
  · simp only [hi, decide_true, Bool.true_and, BitVec.testBit_toNat, BitVec.getLsbD_and, BitVec.getLsbD_not] at hbit ⊢
    simp [hbit]
  · simp [hi]

/-- A field whose bits the clear-on-read fields of its word cover reads 0 after the word is cleared (R60). -/
theorem rd_clearRC {s : State} (h : twf s.regs = true) {page off : Nat} {f : Fld} {l : List FieldDesc}
    (ha : viewAddr s page off = f.addr) (hl : wordFields page off = some l)
    (hm : getField (fieldMask l (fun d => d.acc = .rc)) f.lo f.len = 2 ^ f.len - 1) : (clearRC s page off).rd f = 0 := by
  simp only [clearRC, hl, ha, State.rd, word_setWord_self h]
  exact getField_and_not_mask hm

theorem pageKind_dmc {c : Nat} (hc : c < 4) : pageKind (0x260 + c) = some .dmc := by
  interval_cases c <;> rfl

/-- The fields of DMC_SNTO (R488). -/
theorem wordFields_dmcSnto {c : Nat} (hc : c < 4) : wordFields (0x260 + c) 20 =
    some [⟨0, 2, .rc, false, false, 0⟩, ⟨2, 42, .rc, false, false, 0⟩, ⟨44, 1, .rc, false, false, 0⟩, ⟨45, 16, .rc, false, false, 0⟩] := by
  interval_cases c <;> rfl

/-- A read of a word of a controller's page clears the word's clear-on-read fields, and has no other effect (R60). -/
theorem pageRead_dmc {c : Nat} (hc : c < 4) (s : State) (init off : Nat) :
    (pageRead s init (0x260 + c) off false).2 = clearRC s (0x260 + c) off := by
  have hread : readWord s init (0x260 + c) off = (shownWord s init (0x260 + c) off, s) := if_neg fun h => by omega
  have heffect : readEffect s (0x260 + c) off = clearRC s (0x260 + c) off := by simp only [readEffect, pageKind_dmc hc]
  simp only [pageRead, hread, heffect, Bool.false_eq_true, if_false]

/-- A read of DMC_SNTO ends the capture: the next report is captured again (R486). -/
theorem dmcSntoRead_clears_valid {s : State} (h : twf s.regs = true) {c : Nat} (hc : c < 4) (init : Nat) :
    (pageRead s init (0x260 + c) 20 false).2.isSet (F.DMC_SV c) = false := by
  have hview : viewAddr s (0x260 + c) 20 = (0x260 + c) * 512 + 20 := by simp only [viewAddr, pageKind_dmc hc]
  have hzero : (clearRC s (0x260 + c) 20).rd (F.DMC_SV c) = 0 :=
    rd_clearRC h hview (wordFields_dmcSnto hc) (show getField _ 44 1 = 2 ^ 1 - 1 by decide)
  rw [pageRead_dmc hc, State.isSet, hzero]
  rfl

theorem deskWord_dmc {c : Nat} (hc : c < 4) (off : Nat) : deskWord (0x260 + c) off = 0x260 + c :=
  if_neg (by omega)

/-- Settles O48: by whether DMC_SNTO holds a capture, the report is captured or only counted, and a read of the word ends the capture. -/
theorem snoopTimeoutRecord : Obligations.SnoopTimeoutRecord := by
  unfold Obligations.SnoopTimeoutRecord
  intro s t d line x hs hd hline u c
  have hu : twf u.regs = true := hs.regs
  refine ⟨fun hx hxl hwaits hlate _ => ?_, fun init k hk hpass => ?_⟩
  · have hexec := exec_snoopTimeout_of_waits (u := u) (c := c) rfl rfl hx hxl hwaits hlate
    refine ⟨_, hexec, fun hsv => ?_, fun hsv => ?_⟩
    · rw [if_neg (hsv ▸ Bool.false_ne_true)]
      exact snoopCaptured_reads hu c hd (by omega)
    · rw [if_pos hsv]
      exact snoopCounted_reads hu c
  · exact ⟨_, exec_clearOnRead_of_passes (deskWord_dmc hk 20) hpass, dmcSntoRead_clears_valid hu hk init⟩

end Sys2Proof.Machine
end

section
/-! PROOFS. What every operation of a command keeps: the invariant, the queue and true time. The relation, and the rules of the
state's operations. -/

namespace Sys2Proof.Machine
open Sys2Proof

/-- The parts of a state that the invariant, the queue and true time are read from. -/
def State.kept (s : State) :=
  (s.pending, s.now, s.regs, s.gens, s.mem.dram, s.mem.mark, s.inkwell, s.mcu.sram, s.scribes, s.nibs, s.ports, s.pairs, s.subs, s.pubs, s.trips)

/-- The tables of a core are in canonical form. -/
def Scribe.wf (c : Scribe) : Prop := twf c.g = true ∧ twf c.sr = true

/-- What an operation of a command never does: it does not break the invariant, change the queue or turn true time back. -/
structure Keeps (s t : State) : Prop where
  inv : s.Inv → t.Inv
  queue : t.pending = s.pending
  time : s.now ≤ t.now

namespace Keeps

variable {s t : State}

theorem refl (s : State) : Keeps s s := ⟨id, rfl, Nat.le_refl _⟩

theorem trans {u : State} (h : Keeps s t) (g : Keeps t u) : Keeps s u :=
  ⟨g.inv ∘ h.inv, g.queue.trans h.queue, Nat.le_trans h.time g.time⟩

/-- A change of nothing that is kept. -/
theorem other {u : State} (h : Keeps s t) (e : u.kept = t.kept) : Keeps s u := by
  simp only [State.kept, Prod.mk.injEq] at e
  obtain ⟨h1, h2, h3, h4, h5, h6, h7, h8, h9, h10, h11, h12, h13, h14, h15⟩ := e
  refine h.trans ⟨fun i => ?_, h1, h2.ge⟩
  refine ⟨h3 ▸ i.regs, h4 ▸ i.gens, ?_, h9 ▸ i.scribes, h9 ▸ i.general, h10 ▸ i.nibs, h11 ▸ i.ports, h12 ▸ i.pairs, h13 ▸ i.subs,
    h14 ▸ i.pubs, h15 ▸ i.trips⟩
  exact memory_wf_of_eq i.mem h5 h6 h7 h8

/-! ### A change of one part that is not kept -/

theorem withPhase {x : Nat} (h : Keeps s t) : Keeps s { t with phase := x } := h.other rfl

theorem withFreeCtr {x : Nat} (h : Keeps s t) : Keeps s { t with freeCtr := x } := h.other rfl

theorem withStalled {x : List StalledAccess} (h : Keeps s t) : Keeps s { t with stalled := x } := h.other rfl

theorem withCsn {x : Csn} (h : Keeps s t) : Keeps s { t with csn := x } := h.other rfl

theorem withTim {x : TimeBase} (h : Keeps s t) : Keeps s { t with tim := x } := h.other rfl

theorem withFerrules {x : Tbl Ferrule} (h : Keeps s t) : Keeps s { t with ferrules := x } := h.other rfl

theorem withFerDoms {x : Tbl FerDom} (h : Keeps s t) : Keeps s { t with ferDoms := x } := h.other rfl

theorem withRul {x : Rul} (h : Keeps s t) : Keeps s { t with rul := x } := h.other rfl

theorem withBlot {x : Blot} (h : Keeps s t) : Keeps s { t with blot := x } := h.other rfl

theorem withIcu {x : Icu} (h : Keeps s t) : Keeps s { t with icu := x } := h.other rfl

theorem withDma {x : Tbl DmaChan} (h : Keeps s t) : Keeps s { t with dma := x } := h.other rfl

theorem withDmaLast {x : Nat} (h : Keeps s t) : Keeps s { t with dmaLast := x } := h.other rfl

theorem withQps {x : Tbl Qp} (h : Keeps s t) : Keeps s { t with qps := x } := h.other rfl

theorem withQpTurn {x : Tbl Nat} (h : Keeps s t) : Keeps s { t with qpTurn := x } := h.other rfl

theorem withTens {x : Tbl Ten} (h : Keeps s t) : Keeps s { t with tens := x } := h.other rfl

theorem withPwr {x : Pwr} (h : Keeps s t) : Keeps s { t with pwr := x } := h.other rfl

theorem withBst {x : Bst} (h : Keeps s t) : Keeps s { t with bst := x } := h.other rfl

theorem withPcie {x : Option PcieCpl} (h : Keeps s t) : Keeps s { t with pcie := x } := h.other rfl

theorem withDbg {x : Dbg} (h : Keeps s t) : Keeps s { t with dbg := x } := h.other rfl

theorem withDpx {x : Dpx} (h : Keeps s t) : Keeps s { t with dpx := x } := h.other rfl

/-- A change of the memory system beside DRAM and its marks. -/
theorem withMem {lost : Option Nat} {desks : Tbl Desk} {wbs : List Wb} {txs : List Tx} {posted : List Posted} {pres : Tbl Nat}
    {reclaims : List (Nat × Nat)} {dmcs : Tbl Dmc} (h : Keeps s t) :
    Keeps s { t with mem := ⟨t.mem.dram, t.mem.mark, lost, desks, wbs, txs, posted, pres, reclaims, dmcs⟩ } := h.other rfl

/-- A change of the management controller beside its SRAM. -/
theorem withMcu {flash : Tbl Nat} {wp : Bool} {xbase : Nat} {bufs : List Nat} {req : Option (Nat × Nat)} {next : Option Nat} {cur : Nat}
    {btb : Tbl Nat} {ms : Nat} {tick : Bool} (h : Keeps s t) :
    Keeps s { t with mcu := ⟨t.mcu.sram, flash, wp, xbase, bufs, req, next, cur, btb, ms, tick⟩ } := h.other rfl

/-- A change of any of the parts that are not kept. -/
theorem beside {phase : Nat} {freeCtr : Nat} {stalled : List StalledAccess} {otp : Otp} {csn : Csn} {tim : TimeBase} {ferrules : Tbl Ferrule}
    {ferDoms : Tbl FerDom} {rul : Rul} {blot : Blot} {icu : Icu} {dma : Tbl DmaChan} {dmaLast : Nat} {qps : Tbl Qp} {qpTurn : Tbl
    Nat} {tens : Tbl Ten} {pwr : Pwr} {bst : Bst} {pcie : Option PcieCpl} {dbg : Dbg} {dpx : Dpx}
    {lost : Option Nat} {desks : Tbl Desk} {wbs : List Wb} {txs : List Tx} {posted : List Posted} {pres : Tbl Nat}
    {reclaims : List (Nat × Nat)} {dmcs : Tbl Dmc}
    {flash : Tbl Nat} {wp : Bool} {xbase : Nat} {bufs : List Nat} {req : Option (Nat × Nat)} {next : Option Nat}
    {cur : Nat} {btb : Tbl Nat} {ms : Nat} {tick : Bool} (h : Keeps s t) :
    Keeps s ⟨t.pending, t.now, phase, freeCtr, t.regs, t.gens, stalled, t.inkwell, otp, csn, tim, t.scribes, t.ports, t.pairs, t.subs,
      ferrules, ferDoms, t.nibs, rul, t.pubs, t.trips, blot, ⟨t.mem.dram, t.mem.mark, lost, desks, wbs, txs, posted, pres,
      reclaims, dmcs⟩, icu, ⟨t.mcu.sram, flash, wp, xbase, bufs, req, next, cur, btb, ms, tick⟩, dma, dmaLast, qps, qpTurn, tens,
      pwr, bst, pcie, dbg, dpx⟩ := h.other rfl

theorem foldl {α : Type} {l : List α} {g : State → α → State} (h : Keeps s t) (hg : ∀ q a, Keeps s q → Keeps s (g q a)) :
    Keeps s (l.foldl g t) := foldl_keeps h hg

theorem forEach {α : Type} {l : List α} {g : State → α → State} (h : Keeps s t) (hg : ∀ q a, Keeps s q → Keeps s (g q a)) :
    Keeps s (forEach l t g) := foldl_keeps h hg

theorem foldlSnd {α β : Type} {l : List β} {g : α × State → β → α × State} {p : α × State} (h : Keeps s p.2)
    (hg : ∀ p a, Keeps s p.2 → Keeps s (g p a).2) : Keeps s (l.foldl g p).2 := foldl_keeps (P := fun p : α × State => Keeps s p.2) h hg

theorem foldlFst {α β : Type} {l : List β} {g : State × α → β → State × α} {p : State × α} (h : Keeps s p.1)
    (hg : ∀ p a, Keeps s p.1 → Keeps s (g p a).1) : Keeps s (l.foldl g p).1 := foldl_keeps (P := fun p : State × α => Keeps s p.1) h hg

theorem snd {α : Type} {p : α × State} {a : α} {q : State} (h : Keeps s p.2) (e : p = (a, q)) : Keeps s q := by subst e; exact h

theorem fst {α : Type} {p : State × α} {a : α} {q : State} (h : Keeps s p.1) (e : p = (q, a)) : Keeps s q := by subst e; exact h

/-- A change of the registers that keeps their table canonical. -/
theorem setRegs {r : Tbl Word} (h : Keeps s t) (hr : twf t.regs = true → twf r = true) : Keeps s { t with regs := r } :=
  h.trans ⟨fun i => { i with regs := hr i.regs, mem := i.mem }, rfl, Nat.le_refl _⟩

theorem setWord {a : Nat} {v : Word} (h : Keeps s t) : Keeps s (t.setWord a v) := h.setRegs fun i => twf_tset i _ _

theorem wr {f : Fld} {v : Nat} (h : Keeps s t) : Keeps s (t.wr f v) := h.setWord

theorem resetWords {a n : Nat} (h : Keeps s t) : Keeps s (t.resetWords a n) := h.setRegs fun i => twf_filter i _

theorem tick {n : Nat} (h : Keeps s t) : Keeps s (t.tick n) :=
  h.trans ⟨fun i => ⟨i.regs, i.gens, i.mem, i.scribes, i.general, i.nibs, i.ports, i.pairs, i.subs, i.pubs, i.trips⟩, rfl, Nat.le_max_left _ _⟩

/-- A change of the generations of context slots that stays in range. -/
theorem setGens {g : Tbl Nat} (h : Keeps s t) (hg : (∀ e ∈ t.gens, e.2 < 4095) → ∀ e ∈ g, e.2 < 4095) : Keeps s { t with gens := g } :=
  h.trans ⟨fun i => { i with gens := hg i.gens, mem := i.mem }, rfl, Nat.le_refl _⟩

end Keeps

theorem mem_tdel {α : Type} {t : Tbl α} {a : Nat} {e : Nat × α} (h : e ∈ tdel t a) : e ∈ t := by
  induction t with
  | nil => exact h
  | cons p t ih =>
    simp only [tdel] at h
    split at h
    · exact List.mem_cons_of_mem _ h
    · split at h
      · exact h
      · rcases List.mem_cons.1 h with h | h
        · exact h ▸ List.mem_cons_self
        · exact List.mem_cons_of_mem _ (ih h)

theorem mem_tput {α : Type} {t : Tbl α} {a : Nat} {x : α} {e : Nat × α} (h : e ∈ tput t a x) : e = (a, x) ∨ e ∈ t := by
  induction t with
  | nil => exact .inl (List.mem_singleton.1 h)
  | cons p t ih =>
    simp only [tput] at h
    split at h
    · exact (List.mem_cons.1 h).imp_right (List.mem_cons_of_mem _)
    · split at h
      · exact List.mem_cons.1 h
      · rcases List.mem_cons.1 h with h | h
        · exact .inr (h ▸ List.mem_cons_self)
        · exact (ih h).imp_right (List.mem_cons_of_mem _)

/-- An entry of a written table is the one written or one that was there. -/
theorem mem_tset {α : Type} [DecidableEq α] [Inhabited α] {t : Tbl α} {a : Nat} {x : α} {e : Nat × α} (h : e ∈ tset t a x) :
    e = (a, x) ∨ e ∈ t := by
  unfold tset at h
  split at h
  · exact .inr (mem_tdel h)
  · exact mem_tput h

/-- A value read from a table is the default or that of an entry. -/
theorem tget_mem {α : Type} [Inhabited α] (t : Tbl α) (a : Nat) : tget t a = default ∨ (a, tget t a) ∈ t := by
  induction t with
  | nil => exact .inl rfl
  | cons e t ih =>
    obtain ⟨k, v⟩ := e
    simp only [tget]
    split
    · next hk => exact .inr (hk ▸ List.mem_cons_self)
    · exact ih.imp_right (List.mem_cons_of_mem _)

/-- Writes of several entries keep a table canonical. -/
theorem twf_foldl_tset {α β : Type} [DecidableEq α] [Inhabited α] {t : Tbl α} (h : twf t = true) (l : List β) (k : β → ℕ) (v : β → α) :
    twf (l.foldl (fun t e => tset t (k e) (v e)) t) = true := foldl_keeps (P := fun t : Tbl α => twf t = true) h fun _ _ ht => twf_tset ht _ _

theorem State.Inv.scribe {s : State} (h : s.Inv) (n : Nat) : (s.scribe n).wf := by
  rcases tget_mem s.scribes n with hd | hm
  · rw [State.scribe, hd]; exact ⟨rfl, rfl⟩
  · exact h.general _ hm

namespace Keeps

variable {s t : State}

theorem bumpGen {k i : Nat} (h : Keeps s t) : Keeps s (t.bumpGen k i) := h.setGens fun hg e he => by
  rcases mem_tset he with rfl | he
  · exact Nat.mod_lt _ (by decide)
  · exact hg e he

theorem setScribe {n : Nat} {c : Scribe} (h : Keeps s t) (hc : t.Inv → c.wf) : Keeps s (t.setScribe n c) :=
  h.trans ⟨fun i => { i with
    scribes := twf_tset i.scribes _ _
    mem := i.mem
    general := fun e he => by
      rcases mem_tset he with rfl | he
      · exact hc i
      · exact i.general e he }, rfl, Nat.le_refl _⟩

/-- A change of a core beside its general and system registers. -/
theorem modScribe {n : Nat} {pc : Scribe → Nat} {status : Scribe → Word} {hctl : Scribe → Word} {sb : Scribe → List (Nat × List (Nat × Nat))} {resv : Scribe → Option Nat}
    {tlb : Scribe → List TlbEntry} {wcache : Scribe → List WalkEntry} {l1d : Scribe → Tbl (List Nat)} {itab : Scribe → Tbl Nat} {hist : Scribe → List Nat} {rstack : Scribe → List Nat} {walk : Scribe → Option WalkWait} {haltReq : Scribe → Bool} {inWfi : Scribe → Bool} {stepping : Scribe → Bool} {brh : Scribe → List Bool} (h : Keeps s t) :
    Keeps s (t.modScribe n fun c => ⟨c.g, pc c, status c, hctl c, c.sr, sb c, resv c, tlb c, wcache c, l1d c, itab c, hist c, rstack c, walk c, haltReq c, inWfi c, stepping c, brh c⟩) :=
  h.setScribe fun i => ⟨(i.scribe n).1, (i.scribe n).2⟩

/-- A write of a general register. -/
theorem modScribeG {n : Nat} {r : Nat} {v : Word} {pc : Scribe → Nat} {status : Scribe → Word} {hctl : Scribe → Word} {sb : Scribe → List (Nat × List (Nat × Nat))} {resv : Scribe → Option Nat}
    {tlb : Scribe → List TlbEntry} {wcache : Scribe → List WalkEntry} {l1d : Scribe → Tbl (List Nat)} {itab : Scribe → Tbl Nat} {hist : Scribe → List Nat} {rstack : Scribe → List Nat} {walk : Scribe → Option WalkWait} {haltReq : Scribe → Bool} {inWfi : Scribe → Bool} {stepping : Scribe → Bool} {brh : Scribe → List Bool} (h : Keeps s t) :
    Keeps s (t.modScribe n fun c => ⟨tset c.g r v, pc c, status c, hctl c, c.sr, sb c, resv c, tlb c, wcache c, l1d c, itab c, hist c, rstack c, walk c, haltReq c, inWfi c, stepping c, brh c⟩) :=
  h.setScribe fun i => ⟨twf_tset (i.scribe n).1 _ _, (i.scribe n).2⟩

/-- A write of a system register, with what else changes of the core. -/
theorem modScribeSr {n : Nat} {r : Scribe → Nat} {v : Scribe → Word} {pc : Scribe → Nat} {status : Scribe → Word} {hctl : Scribe → Word} {sb : Scribe → List (Nat × List (Nat × Nat))} {resv : Scribe → Option Nat}
    {tlb : Scribe → List TlbEntry} {wcache : Scribe → List WalkEntry} {l1d : Scribe → Tbl (List Nat)} {itab : Scribe → Tbl Nat} {hist : Scribe → List Nat} {rstack : Scribe → List Nat} {walk : Scribe → Option WalkWait} {haltReq : Scribe → Bool} {inWfi : Scribe → Bool} {stepping : Scribe → Bool} {brh : Scribe → List Bool} (h : Keeps s t) :
    Keeps s (t.modScribe n fun c => ⟨c.g, pc c, status c, hctl c, tset c.sr (r c) (v c), sb c, resv c, tlb c, wcache c, l1d c, itab c, hist c, rstack c, walk c, haltReq c, inWfi c, stepping c, brh c⟩) :=
  h.setScribe fun i => ⟨(i.scribe n).1, twf_tset (i.scribe n).2 _ _⟩

theorem setNib {f n : Nat} {x : Nib} (h : Keeps s t) : Keeps s (t.setNib f n x) :=
  h.trans ⟨fun i => { i with nibs := twf_tset i.nibs _ _, mem := i.mem }, rfl, Nat.le_refl _⟩

theorem setPort {p : Nat} {x : Port} (h : Keeps s t) : Keeps s (t.setPort p x) :=
  h.trans ⟨fun i => { i with ports := twf_tset i.ports _ _, mem := i.mem }, rfl, Nat.le_refl _⟩

theorem setSub {i : Nat} {x : Sub} (h : Keeps s t) : Keeps s (t.setSub i x) :=
  h.trans ⟨fun i => { i with subs := twf_tset i.subs _ _, mem := i.mem }, rfl, Nat.le_refl _⟩

theorem setPub {p : Nat} {x : Pub} (h : Keeps s t) : Keeps s (t.setPub p x) :=
  h.trans ⟨fun i => { i with pubs := twf_tset i.pubs _ _, mem := i.mem }, rfl, Nat.le_refl _⟩

theorem setTrip {f : Nat} {x : Trip} (h : Keeps s t) : Keeps s (t.setTrip f x) :=
  h.trans ⟨fun i => { i with trips := twf_tset i.trips _ _, mem := i.mem }, rfl, Nat.le_refl _⟩

/-- A change of the duplicate windows that keeps their table canonical. -/
theorem setPairs {p : Tbl Pair} (h : Keeps s t) (hp : twf t.pairs = true → twf p = true) : Keeps s { t with pairs := p } :=
  h.trans ⟨fun i => { i with pairs := hp i.pairs, mem := i.mem }, rfl, Nat.le_refl _⟩

/-- The inkwells written anew in canonical form keep the memories' form. -/
theorem memory_wf_inkwell {s : State} {p : Tbl Word} (h : Memory.wf s = true) (hp : twf s.inkwell = true → twf p = true) :
    Memory.wf { s with inkwell := p } = true := by
  obtain ⟨hd, hm, hi, hs⟩ := (memory_wf_iff s).1 h
  exact (memory_wf_iff _).2 ⟨hd, hm, hp hi, hs⟩

theorem memory_wf_mcu {s : State} {m : Mcu} (h : Memory.wf s = true) (hm : twf s.mcu.sram = true → twf m.sram = true) :
    Memory.wf { s with mcu := m } = true := by
  obtain ⟨hd, hk, hi, hs⟩ := (memory_wf_iff s).1 h
  exact (memory_wf_iff _).2 ⟨hd, hk, hi, hm hs⟩

/-- A change of the inkwells that keeps their table canonical. -/
theorem setInkwell {p : Tbl Word} (h : Keeps s t) (hp : twf t.inkwell = true → twf p = true) : Keeps s { t with inkwell := p } :=
  h.trans ⟨fun i => { i with mem := memory_wf_inkwell i.mem hp }, rfl, Nat.le_refl _⟩

theorem setInk {f a : Nat} {v : Word} (h : Keeps s t) : Keeps s (t.setInk f a v) := h.setInkwell fun i => twf_tset i _ _

/-- A change of the management controller that keeps its SRAM canonical. -/
theorem setMcu {m : Mcu} (h : Keeps s t) (hm : twf t.mcu.sram = true → twf m.sram = true) : Keeps s { t with mcu := m } :=
  h.trans ⟨fun i => { i with mem := memory_wf_mcu i.mem hm }, rfl, Nat.le_refl _⟩

/-- A counter that is incremented under a condition. -/
theorem bumpIf {c : Prop} [Decidable c] {f : Fld} (h : Keeps s t) : Keeps s (if c then t.bump f else t) := by
  split
  · exact h.wr
  · exact h

theorem memStore {n : Nat} {ws : List Word} {p : Bool} (h : Keeps s t) : Keeps s (t.memStore n ws p) :=
  h.trans ⟨fun i => { i with mem := memory_wf_memStore i.mem n ws p }, rfl, Nat.le_refl _⟩

theorem dramLose (h : Keeps s t) : Keeps s t.dramLose :=
  h.trans ⟨fun i => { i with mem := memory_wf_dramLose i.mem }, rfl, Nat.le_refl _⟩

theorem getD {o : Option State} (h : Keeps s t) (ho : ∀ q, o = some q → Keeps s q) : Keeps s (o.getD t) := by
  cases o with
  | none => exact h
  | some q => exact ho q rfl

end Keeps

/-- A command answers a next state, which keeps what is kept. -/
def Answers (s : State) (o : Out) : Prop := ∃ t, o = .next t ∧ Keeps s t

theorem Answers.next {s t : State} (h : Keeps s t) : Answers s (.next t) := ⟨t, rfl, h⟩

end Sys2Proof.Machine
end

section
/-! PROOFS. The model's functions, in the order of their files: each keeps what is kept. A function's proof names those of the
functions it calls. -/

namespace Sys2Proof.Machine
open Sys2Proof

variable {s t : State}

/-! ### Ops -/

theorem Keeps.wrb {f : Fld} {b : Bool} (h : Keeps s t) : Keeps s (State.wrb t f b) := h.wr

theorem Keeps.setBit {f : Fld} {i : ℕ} (h : Keeps s t) : Keeps s (State.setBit t f i) := h.wr

theorem Keeps.clrBit {f : Fld} {i : ℕ} (h : Keeps s t) : Keeps s (State.clrBit t f i) := h.wr

theorem Keeps.bump {f : Fld} (h : Keeps s t) : Keeps s (State.bump t f) := h.wr

theorem Keeps.bumpBy {f : Fld} {n : ℕ} (h : Keeps s t) : Keeps s (State.bumpBy t f n) := h.wr

theorem Keeps.wrapInc {f : Fld} (h : Keeps s t) : Keeps s (State.wrapInc t f) := h.wr

theorem Keeps.free {w : ℕ} (h : Keeps s t) : Keeps s (State.free t w).2 := by
  unfold State.free
  dsimp only
  exact h.withFreeCtr

theorem Keeps.pageErr {page : ℕ} {code : ℕ} {ofs : ℕ} {info : ℕ} (h : Keeps s t) : Keeps s (State.pageErr t page code ofs info) := by
  unfold State.pageErr
  extract_lets s'
  have hs' : Keeps s s' := by
    unfold s'
    split
    · exact h.wr.wr.wr
    · exact h
  exact hs'.bump

theorem Keeps.ignored {page : ℕ} {ofs : ℕ} {rsn : ℕ} (h : Keeps s t) : Keeps s (State.ignored t page ofs rsn) := h.bump.wr.wr

theorem Keeps.busErr {addr : ℕ} {code : ℕ} {init : ℕ} {write : Bool} (h : Keeps s t) : Keeps s (State.busErr t addr code init write) := by
  unfold State.busErr
  extract_lets s'
  have hs' : Keeps s s' := by
    unfold s'
    split
    · exact h.wr.wr.wr.wrb
    · exact h
  exact hs'.bump

theorem Keeps.headerReset {page : ℕ} (h : Keeps s t) : Keeps s (State.headerReset t page) := by
  unfold State.headerReset
  extract_lets s1
  have hs1 : Keeps s s1 := h.resetWords.resetWords
  split
  · exact hs1.resetWords
  · exact hs1

theorem Keeps.doorbell {page : ℕ} {seq : ℕ} {opc : ℕ} {handle : ℕ} {late : State → Option ℕ} (h : Keeps s t) :
    Keeps s (State.doorbell t page seq opc handle late).1 := by
  unfold State.doorbell
  extract_lets s1
  have hs1 : Keeps s s1 := h.wr.wr.wr
  split
  · dsimp only
    exact hs1.ignored
  · split
    · dsimp only
      exact hs1.ignored
    · split
      · dsimp only
        exact hs1.ignored
      · dsimp only
        exact hs1.wr.wr.wr

theorem Keeps.complete {page : ℕ} {status : ℕ} {reason : ℕ} {rhandle : ℕ} (h : Keeps s t) :
    Keeps s (State.complete t page status reason rhandle) := h.wr.wr.wr.wr

/-! ### Csn -/

theorem Keeps.csnShow (h : Keeps s t) : Keeps s (csnShow t) := h.forEach fun _ _ hq => hq.wr.wr

theorem Keeps.csnLog {outcome : ℕ} {signer : ℕ} {time : ℕ} {digest : Word} (h : Keeps s t) :
    Keeps s (csnLog t outcome signer time digest) := by
  unfold Machine.csnLog
  extract_lets k s1 s2 s3 z
  have hs1 : Keeps s s1 := by
    unfold s1
    split
    · exact h.bump
    · exact h
  have hs2 : Keeps s s2 := hs1.wr.wr.wr.wr.wr.wr.wr
  have hs3 : Keeps s s3 := hs2.wr
  exact hs3.withCsn

theorem Keeps.csnCount {outcome : ℕ} (h : Keeps s t) : Keeps s (csnCount t outcome) := by
  unfold Machine.csnCount
  split
  · exact h.bump
  · split
    · exact h.bump
    · split
      · exact h.bump
      · exact h.bump

theorem Keeps.csnEnd {outcome : ℕ} {signer : ℕ} {time : ℕ} {digest : Word} (h : Keeps s t) :
    Keeps s (csnEnd t outcome signer time digest) := by
  unfold Machine.csnEnd
  extract_lets s1 s2 s3 z
  have hs1 : Keeps s s1 := h.csnLog.csnCount
  have hs2 : Keeps s s2 := hs1.forEach fun _ _ hq => hq.wr.wr
  have hs3 : Keeps s s3 := hs2.wr.wr
  exact hs3.withCsn

theorem Keeps.stageWrite {init : ℕ} {page : ℕ} {off : ℕ} {value : Word} (h : Keeps s t) : Keeps s (stageWrite t init page off value) := by
  unfold Machine.stageWrite
  extract_lets p cst key s1 z s2 z1 s3
  have hs1 : Keeps s s1 := h.wr.wrapInc.wr
  have hs2 : Keeps s s2 := hs1.withCsn
  have hs3 : Keeps s s3 := h.withCsn
  split
  · exact h.ignored
  · split
    · exact h.ignored
    · split
      · split
        · exact hs2.wr.csnShow
        · exact h.ignored
      · split
        · exact h.ignored
        · split
          · exact h.ignored
          · exact hs3.wr.csnShow

theorem Keeps.csnSealWrite {init : ℕ} {digest : Word} (h : Keeps s t) : Keeps s (csnSealWrite t init digest) := by
  unfold Machine.csnSealWrite
  extract_lets s1 z s2
  have hs1 : Keeps s s1 := h.wr
  have hs2 : Keeps s s2 := hs1.withCsn
  split
  · split
    · exact hs2.wr.csnShow
    · exact hs1.csnEnd
  · exact hs1.ignored

theorem Keeps.csnSignWrite {init : ℕ} {digest : Word} (h : Keeps s t) : Keeps s (csnSignWrite t init digest) := by
  unfold Machine.csnSignWrite
  extract_lets s1 p cst s2 z
  have hs1 : Keeps s s1 := h.wr
  have hs2 : Keeps s s2 := hs1.wr
  split
  · exact hs1.ignored
  · split
    · exact hs1.ignored
    · split
      · exact hs1.ignored
      · split
        · exact hs1.ignored.csnEnd
        · split
          · exact hs1
          · exact hs2.withCsn.csnShow

theorem Keeps.csnExpire (h : Keeps s t) : Keeps s (csnExpire t) := by
  unfold Machine.csnExpire
  split
  · exact h.csnEnd
  · exact h

theorem Keeps.csnAbortWrite {init : ℕ} (h : Keeps s t) : Keeps s (csnAbortWrite t init) := by
  unfold Machine.csnAbortWrite
  extract_lets cst
  split
  · exact h.csnEnd
  · exact h.ignored

theorem Keeps.csnApplyEntry {e : ℕ × Word} (h : Keeps s t) : Keeps s (csnApplyEntry t e) := by
  unfold Machine.csnApplyEntry
  extract_lets m old s1 z
  have hs1 : Keeps s s1 := h.setWord
  exact hs1.withCsn

theorem Keeps.csnApply {T : ℕ} (h : Keeps s t) : Keeps s (csnApply t T) := by
  unfold Machine.csnApply
  extract_lets es z s1 s2
  have hs1 : Keeps s s1 := h.withCsn
  have hs2 : Keeps s s2 := hs1.forEach fun _ _ hq => hq.csnApplyEntry
  exact hs2.csnEnd

theorem Keeps.csnChipReset (h : Keeps s t) : Keeps s (csnChipReset t) := by
  unfold Machine.csnChipReset
  split
  · exact h
  · exact h.csnEnd

/-! ### Coh -/

theorem Keeps.setDmc {c : ℕ} {x : Dmc} (h : Keeps s t) : Keeps s (State.setDmc t c x) := h.withMem

theorem Keeps.setDesk {d : ℕ} {x : Desk} (h : Keeps s t) : Keeps s (State.setDesk t d x) := h.withMem

theorem Keeps.setTxs {l : List Tx} (h : Keeps s t) : Keeps s (State.setTxs t l) := h.withMem

theorem Keeps.setWbs {l : List Wb} (h : Keeps s t) : Keeps s (State.setWbs t l) := h.withMem

theorem Keeps.memWrite {n : ℕ} {ws : List Word} {poison : Bool} (h : Keeps s t) : Keeps s (State.memWrite t n ws poison) := by
  unfold State.memWrite
  extract_lets c z
  split
  · exact h.memStore
  · exact h.setDmc

theorem Keeps.freezeChannel {c : ℕ} {cause : ℕ} {line : ℕ} {cmdt : ℕ} {src : ℕ} {synd : ℕ} (h : Keeps s t) :
    Keeps s (freezeChannel t c cause line cmdt src synd) := by
  unfold Machine.freezeChannel
  split
  · exact h.bump
  · exact (h.foldl fun _ _ hq => hq.wr).pageErr.setBit.setDmc

theorem Keeps.setL2 {d : ℕ} {line : ℕ} {x : L2Line} (h : Keeps s t) : Keeps s (State.setL2 t d line x) := by
  unfold State.setL2
  split
  · exact h.setDesk
  · exact h

theorem Keeps.l2Touch {d : ℕ} {line : ℕ} (h : Keeps s t) : Keeps s (State.l2Touch t d line) := by
  unfold State.l2Touch
  split
  · exact h.setDesk
  · exact h

theorem Keeps.clearResv {line : ℕ} {p : ℕ → Bool} (h : Keeps s t) : Keeps s (State.clearResv t line p) := by
  unfold State.clearResv
  refine Keeps.forEach h (fun q0 q1 hq => ?_)
  split
  · split
    · exact hq.modScribe
    · exact hq
  · exact hq

theorem Keeps.l1Drop {d : ℕ} {line : ℕ} {keep : Option ℕ} (h : Keeps s t) : Keeps s (State.l1Drop t d line keep) := by
  unfold State.l1Drop
  refine Keeps.forEach h (fun q0 q1 hq => ?_)
  extract_lets n
  split
  · exact hq
  · exact hq.modScribe

theorem Keeps.setPres {d : ℕ} {line : ℕ} {st : ℕ} (h : Keeps s t) : Keeps s (State.setPres t d line st) := h.withMem

theorem Keeps.l2Lose {d : ℕ} {line : ℕ} (h : Keeps s t) : Keeps s (State.l2Lose t d line) := h.setL2.l1Drop.clearResv

theorem Keeps.l2Evict {d : ℕ} {line : ℕ} (h : Keeps s t) : Keeps s (State.l2Evict t d line) := by
  unfold State.l2Evict
  extract_lets x s1
  have hs1 : Keeps s s1 := h.l2Lose
  split
  · exact hs1.setWbs.bump.setPres
  · exact hs1

theorem Keeps.l2Install {d : ℕ} {line : ℕ} {x : L2Line} (h : Keeps s t) : Keeps s (State.l2Install t d line x) := by
  unfold State.l2Install
  extract_lets at' w old s1 z
  have hs1 : Keeps s s1 := by
    unfold s1
    split
    · exact h
    · exact h.l2Evict
  split
  · exact h.setL2.l2Touch
  · exact hs1.setDesk.l2Touch

theorem Keeps.answerSnoop {d : ℕ} {line : ℕ} {snoop : ℕ} (h : Keeps s t) : Keeps s (answerSnoop t d line snoop).2 := by
  unfold Machine.answerSnoop
  split
  · extract_lets p
    split
    · dsimp only
      exact h.setPres
    · dsimp only
      exact h.setPres
  · split
    · extract_lets a
      split
      · exact h
      · dsimp only
        exact h.setWbs
    · extract_lets x dirty give st
      split
      · exact h
      · split
        · dsimp only
          exact h.l2Lose.setPres
        · split
          · exact h
          · split
            · dsimp only
              exact h.setL2.setPres
            · dsimp only
              exact h.l2Lose.setPres

theorem Keeps.homeOrder {line : ℕ} {kind : ℕ} {src : ℕ} {wr : List (ℕ × ℕ)} (h : Keeps s t) : Keeps s (homeOrder t line kind src wr) := by
  unfold Machine.homeOrder
  extract_lets t1 s1
  have hs1 : Keeps s s1 := by
    unfold s1
    split
    · split
      · exact h.bump
      · exact h
    · exact h
  split
  · extract_lets s2
    have hs2 : Keeps s s2 := hs1.setWbs
    split
    · exact hs2.setTxs
    · exact hs2.memWrite.setTxs
  · exact hs1.setTxs

theorem Keeps.takeAnswer {line : ℕ} {entry : ℕ} {kindOk : ℕ → Bool} (h : Keeps s t) : Keeps s (takeAnswer t line entry kindOk) := by
  unfold Machine.takeAnswer
  extract_lets d
  split
  · exact h
  · extract_lets first
    split
    · exact h
    · split
      next x a s1 e =>
        have hq := h.answerSnoop.snd e
        extract_lets t' t'1 s2
        have hs2 : Keeps s s2 := hq.setTxs
        split
        · exact hs2.memWrite
        · exact hs2

theorem Keeps.readDram {x y : Tx} {q : State} (h : Keeps s t) (e : readDram t x = some (y, q)) : Keeps s q := by
  unfold Machine.readDram at e
  extract_lets c u at e
  have hu : Keeps s u := h.bumpIf
  clear_value u
  split at e
  · cases e
  · split at e
    · cases e; exact h
    · split at e
      · cases e
      · cases e; exact hu

theorem Keeps.setQp {q : ℕ} {x : Qp} (h : Keeps s t) : Keeps s (State.setQp t q x) := h.withQps

theorem Keeps.qpAdvance {q : ℕ} {j : ℕ} (h : Keeps s t) : Keeps s (qpAdvance t q j) := by
  unfold Machine.qpAdvance
  extract_lets x l n h1
  split
  · exact h
  · exact h.setQp.wr.wr

theorem Keeps.qpSettle (h : Keeps s t) : Keeps s (qpSettle t) := h.foldl fun _ _ hq => hq.qpAdvance.qpAdvance

theorem Keeps.completeTx {x : Tx} {q : State} (h : Keeps s t) (e : completeTx t x = some q) : Keeps s q := by
  unfold Machine.completeTx at e
  extract_lets pop at e
  have hpop : ∀ u, Keeps s u → Keeps s (pop u) := fun _ hu => hu.setTxs
  clear_value pop
  split at e
  · cases e
  · split at e
    · cases e; exact (hpop _ h).memWrite
    · split at e
      · split at e
        · cases e; exact (hpop _ h).memWrite.qpSettle
        · split at e
          · cases e; exact (hpop _ h).memWrite.qpSettle
          · split at e
            next hr => cases e; exact (hpop _ (h.readDram hr)).memWrite.qpSettle
            · cases e
      · split at e
        · split at e
          next hr => cases e; exact hpop _ (h.readDram hr)
          · cases e
        · split at e
          · cases e; exact hpop _ h
          · extract_lets put at e
            have hput : ∀ u st ws p, Keeps s u → Keeps s (put u st ws p) := fun _ _ _ _ hu => (hpop _ hu).l2Install.setPres
            clear_value put
            split at e
            · cases e; exact hput _ _ _ _ h
            · split at e
              · cases e; exact hput _ _ _ _ h
              · split at e
                next hr => cases e; exact hput _ _ _ _ (h.readDram hr)
                · cases e

theorem Keeps.settleWbs {line : ℕ} (h : Keeps s t) : Keeps s (settleWbs t line) := by
  unfold Machine.settleWbs
  extract_lets l s1
  have hs1 : Keeps s s1 := h.setWbs
  refine hs1.foldl fun q a hq => ?_
  split
  · exact hq
  · exact hq.memWrite

theorem Keeps.drive {n line : ℕ} (h : Keeps s t) : Keeps s (drive n t line) := by
  induction n generalizing t with
  | zero => exact h
  | succ n ih =>
    unfold Machine.drive
    split
    · exact h
    · extract_lets u
      have hu : Keeps s u := h.foldl fun _ _ hq => hq.takeAnswer
      clear_value u
      split
      · exact hu
      · split
        next e => exact ih (hu.completeTx e)
        · exact hu

theorem Keeps.acquireLine {src : ℕ} {line : ℕ} {own : Bool} (h : Keeps s t) : Keeps s (acquire t src line own).2 := by
  unfold Machine.acquire
  extract_lets d holds z s1 s2 s3
  have hs1 : Keeps s s1 := h.drive.settleWbs
  have hs2 : Keeps s s2 := by
    unfold s2
    split
    · exact hs1
    · exact hs1.homeOrder
  have hs3 : Keeps s s3 := hs2.drive
  split
  · dsimp only
    exact h.l2Touch
  · split
    · dsimp only
      exact h.setL2.l2Touch
    · exact hs3

theorem Keeps.acquireZero {src : ℕ} {line : ℕ} (h : Keeps s t) : Keeps s (acquireZero t src line).2 := by
  unfold Machine.acquireZero
  extract_lets d s1 s2 s3
  have hs1 : Keeps s s1 := h.drive.settleWbs
  have hs2 : Keeps s s2 := by
    unfold s2
    split
    · exact hs1
    · exact hs1.homeOrder
  have hs3 : Keeps s s3 := hs2.drive
  split
  · dsimp only
    exact hs1.setL2
  · split
    · dsimp only
      exact hs3.setL2
    · exact hs3

theorem Keeps.ncRead {src : ℕ} {line : ℕ} (h : Keeps s t) : Keeps s (ncRead t src line).2 := by
  unfold Machine.ncRead
  extract_lets s1 owner c
  have hs1 : Keeps s s1 := h.drive.settleWbs
  split
  · exact hs1
  · clear_value owner
    split
    · split
      · dsimp only
        exact hs1.homeOrder
      · exact hs1
    · split
      · dsimp only
        split
        · exact hs1.bump
        · exact hs1
      · dsimp only
        exact hs1.homeOrder

theorem Keeps.ncWrite {src : ℕ} {line : ℕ} {wr : List (ℕ × ℕ)} (h : Keeps s t) :
    Keeps s (ncWrite t src line wr) := h.drive.settleWbs.homeOrder.clearResv.drive

theorem Keeps.finishLine {line : ℕ} (h : Keeps s t) : Keeps s (finishLine t line) := by
  unfold Machine.finishLine
  split
  · split
    · exact h
    · split
      next x s1 e =>
        have hq := h.completeTx e
        exact hq
      · exact h
  · exact h

/-! ### Gate -/

theorem Keeps.setFerPower {f : ℕ} {v : ℕ} (h : Keeps s t) : Keeps s (setFerPower t f v) := h.wr

theorem Keeps.setDomPower {d : ℕ} {v : ℕ} (h : Keeps s t) : Keeps s (setDomPower t d v) := h.wr

theorem Keeps.stall {init : ℕ} {vf : ℕ} {page : ℕ} {off : ℕ} {write : Bool} {value : Word} {insn : Bool} (h : Keeps s t) :
    Keeps s (State.stall t init vf page off write value insn) := by
  unfold State.stall
  extract_lets id
  exact h.withStalled

theorem Keeps.gated {init : ℕ} {page : ℕ} {off : ℕ} {value : Word} {f : State → State} (h : Keeps s t) (hf : ∀ q, Keeps s q → Keeps s
    (f q)) :
    Keeps s (State.gated t init page off value f) := by
  unfold State.gated
  split
  · exact h.busErr
  · split
    · exact h.stall
    · exact hf _ h

theorem Keeps.gatedRead {init : ℕ} {page : ℕ} {off : ℕ} {f : State → State} (h : Keeps s t) (hf : ∀ q, Keeps s q → Keeps s (f q)) :
    Keeps s (State.gatedRead t init page off f) := by
  unfold State.gatedRead
  split
  · exact h.busErr
  · split
    · exact h.stall
    · exact hf _ h

theorem Keeps.gatedCmd {init : ℕ} {page : ℕ} {seq : ℕ} {opc : ℕ} {handle : ℕ} {f : State → State} (h : Keeps s t)
    (hf : ∀ q, Keeps s q → Keeps s (f q)) :
    Keeps s (State.gatedCmd t init page seq opc handle f) := h.gated hf

theorem Keeps.refuse {page : ℕ} {status : ℕ} {reason : ℕ} (h : Keeps s t) : Keeps s (State.refuse t page status reason) := h.complete

theorem Keeps.hostBell {page : ℕ} {seq : ℕ} {opc : ℕ} {allowed : Bool} {f : State → State} (h : Keeps s t) (hf : ∀ q, Keeps s q → Keeps s
    (f q)) :
    Keeps s (State.hostBell t page seq opc allowed f) := by
  unfold State.hostBell
  split
  next x s1 e =>
    have hq := h.doorbell.fst e
    exact hq
  next x s1 e =>
    have hq := h.doorbell.fst e
    split
    · exact hf _ hq
    · exact hq.refuse

theorem Keeps.pwrEnd {status : ℕ} {reason : ℕ} (h : Keeps s t) : Keeps s (pwrEnd t status reason) := by
  unfold Machine.pwrEnd
  extract_lets z s1
  have hs1 : Keeps s s1 := h.withPwr.wr
  refine Keeps.complete ?_
  split
  · exact hs1.setBit
  · exact hs1

theorem Keeps.pwrRelease {blocks : List ℕ} (h : Keeps s t) : Keeps s (pwrRelease t blocks) := by
  unfold Machine.pwrRelease
  extract_lets z s1
  have hs1 : Keeps s s1 := h.withPwr
  refine hs1.foldl fun q a hq => ?_
  split
  · exact hq.setFerPower
  · split
    · exact hq.setDomPower
    · exact hq

theorem Keeps.pwrFail {block : ℕ} {abort : Bool} (h : Keeps s t) : Keeps s (pwrFail t block abort) := by
  unfold Machine.pwrFail
  split
  · exact h
  · extract_lets i s1 s2 s3 s4
    have hs1 : Keeps s s1 := h.bump
    have hs2 : Keeps s s2 := hs1.wr
    have hs3 : Keeps s s3 := hs2.setBit
    have hs4 : Keeps s s4 := by
      unfold s4
      split
      · exact hs3.pageErr
      · exact hs3
    exact hs4.pwrRelease.pwrEnd

theorem Keeps.wakeFerrule {f : ℕ} (h : Keeps s t) : Keeps s (wakeFerrule t f) := by
  unfold Machine.wakeFerrule
  extract_lets granted s1 e z z1 z2
  have hs1 : Keeps s s1 := h.setFerPower
  have hz1 : Keeps s z1 := h.setFerPower
  split
  · exact h.pwrFail
  · split
    · exact h
    · split
      · exact hs1.withPwr.wrb
      · exact hz1.withPwr

/-! ### Dmc -/

theorem Keeps.dmcConfig {c : ℕ} {value : Word} (h : Keeps s t) : Keeps s (dmcConfig t c value) := by
  unfold Machine.dmcConfig
  split
  · exact h.ignored
  · extract_lets s1
    have hs1 : Keeps s s1 := h.setWord
    split
    · exact hs1.wr
    · exact hs1

theorem Keeps.resumeChannel {c : ℕ} (h : Keeps s t) : Keeps s (resumeChannel t c) := by
  unfold Machine.resumeChannel
  refine h.foldl fun q a hq => ?_
  split
  · split
    next x s1 e =>
      have hq1 := hq.completeTx e
      exact hq1
    · exact hq
  · exact hq

theorem Keeps.performHeld {c : ℕ} (h : Keeps s t) : Keeps s (performHeld t c) := (h.setDmc.foldl fun _ _ hq => hq.memStore).qpSettle

theorem Keeps.dmcRelease {c : ℕ} (h : Keeps s t) : Keeps s (dmcRelease t c) := by
  unfold Machine.dmcRelease
  extract_lets s1 z s2
  have hs1 : Keeps s s1 := by
    unfold s1
    split
    · split
      · extract_lets s3
        have hs3 : Keeps s s3 := by
          unfold s3
          split
          · exact h.memStore
          · exact h.memStore
        exact hs3.setTxs
      · exact h
    · exact h
  have hs2 : Keeps s s2 := hs1.setDmc.wr
  exact hs2.performHeld.wr.resumeChannel

theorem Keeps.dmcResetStart {c : ℕ} (h : Keeps s t) : Keeps s (dmcResetStart t c) := h.setTxs.setDmc.wr

theorem Keeps.dmcResetEnd {c : ℕ} (h : Keeps s t) :
    Keeps s (dmcResetEnd t c) := (h.foldl fun _ _ hq => hq.memStore).setDmc.wr.performHeld.wr.resumeChannel

theorem Keeps.dmcCommand {c : ℕ} {opc : ℕ} (h : Keeps s t) : Keeps s (dmcCommand t c opc) := by
  unfold Machine.dmcCommand
  extract_lets p st step z
  split
  · split
    · exact h.dmcRelease.complete
    · exact h.refuse
  · split
    · split
      · exact h.dmcResetStart
      · exact h.refuse
    · split
      · split
        · exact h.setDmc
        · exact h.refuse
      · split
        · exact h.setDmc.wr.complete
        · exact h.refuse

theorem Keeps.dmcBell {init : ℕ} {c : ℕ} {seq : ℕ} {opc : ℕ} (h : Keeps s t) :
    Keeps s (dmcBell t init c seq opc) := h.hostBell fun _ hq => hq.dmcCommand

theorem Keeps.phyResults {c : ℕ} {l : List PhyLane} (h : Keeps s t) : Keeps s (phyResults t c l) := by
  unfold Machine.phyResults
  refine h.foldl fun q a hq => ?_
  split
  · exact hq.wr.wr.wr.wr
  · exact hq

/-! ### Icu -/

theorem Keeps.icuEdge {n : ℕ} (h : Keeps s t) : Keeps s (icuEdge t n) := by
  unfold Machine.icuEdge
  split
  · exact h.wr
  · exact h

theorem Keeps.icuConfig {n : ℕ} {value : Word} (h : Keeps s t) : Keeps s (icuConfig t n value) := by
  unfold Machine.icuConfig
  extract_lets a s1 z z1
  have hs1 : Keeps s s1 := h.setWord
  have hz : Keeps s z := hs1.wr
  split
  · exact hz.withIcu
  · exact hs1

theorem Keeps.icuClaim {n : ℕ} {k : ℕ} (h : Keeps s t) : Keeps s (icuClaim t n k) := by
  unfold Machine.icuClaim
  extract_lets first others z s1 s2 z1
  have hs1 : Keeps s s1 := h.withIcu
  have hs2 : Keeps s s2 := hs1.wr.wr
  split
  · exact hs2.withIcu.icuConfig
  · exact hs2

theorem Keeps.iackRead {k : ℕ} (h : Keeps s t) : Keeps s (iackRead t k).2 := by
  unfold Machine.iackRead
  extract_lets c
  dsimp only
  clear_value c
  split
  · exact h.icuClaim
  · exact h

theorem Keeps.ieoiWrite {k : ℕ} {n : ℕ} (h : Keeps s t) : Keeps s (ieoiWrite t k n) := by
  unfold Machine.ieoiWrite
  split
  · extract_lets z s1
    have hs1 : Keeps s s1 := h.withIcu
    split
    · exact hs1
    · exact hs1.wr
  · exact h

theorem Keeps.swiWrite {v : ℕ} (h : Keeps s t) : Keeps s (swiWrite t v) := by
  unfold Machine.swiWrite
  split
  · exact h.icuEdge
  · exact h

theorem Keeps.icuSourceWrite {n : ℕ} {value : Word} (h : Keeps s t) : Keeps s (icuSourceWrite t n value) := by
  unfold Machine.icuSourceWrite
  split
  · exact h.ignored
  · split
    · exact h.withIcu
    · exact h.icuConfig

/-! ### Trace -/

theorem Keeps.blotPut {src : ℕ} {p : Packet} (h : Keeps s t) : Keeps s (blotPut t src p) := by
  unfold Machine.blotPut
  extract_lets b q s1
  have hs1 : Keeps s s1 := h.withBlot
  split
  · exact h.withBlot
  · exact hs1.bump.wr.wr.pageErr

theorem Keeps.trace {src : ℕ} {ty : ℕ} {payload : ℕ} {ext : Option Word} (h : Keeps s t) : Keeps s (State.trace t src ty payload ext) := by
  unfold State.trace
  split
  · extract_lets t1 z s1
    have hs1 : Keeps s s1 := by
      unfold s1
      split
      · exact h.withBlot.blotPut
      · exact h
    exact hs1.blotPut
  · exact h

theorem Keeps.tracePdown {src : ℕ} {kind : ℕ} (h : Keeps s t) : Keeps s (State.tracePdown t src kind) := by
  unfold State.tracePdown
  split
  · extract_lets s1 z
    have hs1 : Keeps s s1 := h.blotPut
    exact hs1.withBlot
  · exact h

theorem Keeps.tracePstate {block : ℕ} {code : ℕ} {emul : Bool} (h : Keeps s t) : Keeps s (tracePstate t block code emul) := by
  unfold Machine.tracePstate
  split
  · exact h.trace
  · exact h

theorem Keeps.traceTrig {src : ℕ} {nib : ℕ} {k : ℕ} {addr : ℕ} (h : Keeps s t) : Keeps s (traceTrig t src nib k addr) := h.trace

theorem Keeps.nibCompare {f : ℕ} {n : ℕ} {kind : ℕ} {addr : ℕ} (h : Keeps s t) : Keeps s (nibCompare t f n kind addr).1 := by
  unfold Machine.nibCompare
  refine Keeps.foldlFst ?_ fun p a hq => ?_
  · exact h
  · extract_lets x s1 act
    have hs1 : Keeps s s1 := hq.bump
    split
    · split
      · exact hs1
      · split
        · exact hs1
        · dsimp only
          exact hs1.traceTrig
    · exact hq

/-! ### Store -/

theorem Keeps.l2Write {n : ℕ} {line : ℕ} {wr : List (ℕ × ℕ)} (h : Keeps s t) : Keeps s (l2Write t n line wr) := h.setL2.l1Drop.clearResv

theorem Keeps.drainOne {n : ℕ} (h : Keeps s t) : Keeps s (drainOne t n).2 := by
  unfold Machine.drainOne
  split
  · exact h
  · split
    next x ok s1 e =>
      have hq := h.acquireLine.snd e
      split
      · dsimp only
        exact hq.l2Write.modScribe
      · exact hq

theorem Keeps.drainAll {n : ℕ} (h : Keeps s t) : Keeps s (drainAll t n).2 := by
  unfold Machine.drainAll
  refine Keeps.foldlSnd h fun p _ hp => ?_
  split
  · exact hp.drainOne
  · exact hp

theorem Keeps.putStore {n : ℕ} {line : ℕ} {wr : List (ℕ × ℕ)} (h : Keeps s t) : Keeps s (putStore t n line wr).2 := by
  unfold Machine.putStore
  extract_lets sb
  split
  · split
    · dsimp only
      exact h.modScribe
    · split
      next ok q e =>
        have hq : Keeps s q := by
          split at e
          · cases e; exact h
          · exact h.drainOne.snd e
        split
        · dsimp only
          exact hq.modScribe
        · exact hq
  · dsimp only
    exact h.modScribe

theorem Keeps.showLevel {n : ℕ} (h : Keeps s t) : Keeps s (showLevel t n) := by
  unfold Machine.showLevel
  split
  · exact h.wr
  · exact h

theorem Keeps.showLock {n : ℕ} (h : Keeps s t) : Keeps s (showLock t n) := h.wr

theorem Keeps.scribeHold {n : ℕ} (h : Keeps s t) : Keeps s (scribeHold t n) := by
  unfold Machine.scribeHold
  extract_lets s1 s2 z s3
  have hs1 : Keeps s s1 := by
    unfold s1
    split
    · exact h
    · exact h.tracePdown
  have hs2 : Keeps s s2 := hs1.drainAll
  have hs3 : Keeps s s3 := hs2.setScribe fun _ => ⟨rfl, rfl⟩
  exact hs3.wr.wr.showLock

theorem Keeps.scribeStart {n : ℕ} (h : Keeps s t) : Keeps s (scribeStart t n) := by
  unfold Machine.scribeStart
  split
  · exact (h.setScribe fun _ => ⟨rfl, rfl⟩).wr.showLevel
  · exact h

theorem Keeps.runWrite {n : ℕ} {run : Bool} (h : Keeps s t) : Keeps s (runWrite t n run) := by
  unfold Machine.runWrite
  extract_lets s1
  have hs1 : Keeps s s1 := h.wrb
  split
  · exact hs1.scribeStart
  · exact hs1.scribeHold

theorem Keeps.scribeLock {n : ℕ} {cause : ℕ} {pc : ℕ} (h : Keeps s t) :
    Keeps s (scribeLock t n cause pc) := h.drainAll.modScribe.wr.wr.wr.wr.showLock.pageErr

theorem Keeps.flushBrh {n : ℕ} (h : Keeps s t) : Keeps s (flushBrh t n) := by
  unfold Machine.flushBrh
  extract_lets l p
  split
  · exact h
  · exact h.trace.modScribe

theorem Keeps.traceBranch {n : ℕ} {taken : Bool} (h : Keeps s t) : Keeps s (traceBranch t n taken) := by
  unfold Machine.traceBranch
  split
  · extract_lets s1
    have hs1 : Keeps s s1 := h.modScribe
    split
    · exact hs1.flushBrh
    · exact hs1
  · exact h

theorem Keeps.tracePacket {n : ℕ} {ty : ℕ} {payload : ℕ} {ext : Option Word} (h : Keeps s t) :
    Keeps s (tracePacket t n ty payload ext) := by
  unfold Machine.tracePacket
  split
  · exact h.flushBrh.trace
  · exact h

/-! ### Time -/

theorem Keeps.rebase (h : Keeps s t) : Keeps s (State.rebase t) := h.withTim

theorem Keeps.stepTime {ns : ℕ} (h : Keeps s t) : Keeps s (State.stepTime t ns) := h.withTim

theorem Keeps.setSlew {off : ℤ} (h : Keeps s t) : Keeps s (State.setSlew t off) := by
  unfold State.setSlew
  extract_lets s1 z
  have hs1 : Keeps s s1 := h.rebase
  exact hs1.withTim

theorem Keeps.setSrc {c : ℕ} {x : TimeSrc} (h : Keeps s t) : Keeps s (State.setSrc t c x) := h.withTim

theorem Keeps.errSync (h : Keeps s t) : Keeps s (State.errSync t) := h.wr

theorem Keeps.updQuality (h : Keeps s t) : Keeps s (State.updQuality t) := by
  unfold State.updQuality
  extract_lets s1 q s2
  have hs1 : Keeps s s1 := h.errSync
  have hs2 : Keeps s s2 := by
    unfold s2
    split
    · exact hs1.wr
    · exact hs1
  split
  · exact hs2
  · exact hs2.wr.wr

theorem Keeps.startHolding (h : Keeps s t) : Keeps s (State.startHolding t) := by
  unfold State.startHolding
  split
  · exact h
  · exact h.withTim

/-! ### Coh -/

theorem Keeps.acquire {c : ℕ} (h : Keeps s t) : Keeps s (State.acquire t c) := by
  unfold State.acquire
  extract_lets x s1 s2 z s3 s4 s5 z1 s6 s7
  have hs1 : Keeps s s1 := h.stepTime
  have hs2 : Keeps s s2 := hs1.setSrc
  have hs3 : Keeps s s3 := hs2.withTim
  have hs4 : Keeps s s4 := h.setSlew
  have hs5 : Keeps s s5 := hs4.setSrc
  have hs6 : Keeps s s6 := hs5.withTim
  have hs7 : Keeps s s7 := h.setSrc.startHolding
  split
  · exact hs3.wr.wr.wr
  · split
    · exact hs6.wr.wrb.wr
    · exact hs7.wr.wr.pageErr

/-! ### Time -/

theorem Keeps.reselect (h : Keeps s t) : Keeps s (State.reselect t) := by
  unfold State.reselect
  extract_lets s1 cur c z s2 s3 s4
  have hs1 : Keeps s s1 := h.errSync
  have hs2 : Keeps s s2 := by
    unfold s2
    split
    · exact hs1
    · exact hs1.setSrc
  have hs3 : Keeps s s3 := hs2.wr.wr
  have hs4 : Keeps s s4 := by
    unfold s4
    split
    · exact hs3.wr
    · exact hs3
  split
  · exact hs1.updQuality
  · split
    · exact hs4.setSlew.startHolding.updQuality
    · exact hs4.acquire.updQuality

theorem Keeps.gainQual {c : ℕ} (h : Keeps s t) : Keeps s (State.gainQual t c) := by
  unfold State.gainQual
  extract_lets x s1 s2
  have hs1 : Keeps s s1 := h.setSrc
  have hs2 : Keeps s s2 := by
    unfold s2
    split
    · exact hs1.wr
    · exact hs1
  split
  · exact h
  · exact hs2.reselect

theorem Keeps.loseQual {c : ℕ} (h : Keeps s t) : Keeps s (State.loseQual t c) := by
  unfold State.loseQual
  extract_lets x s1 s2 s3
  have hs1 : Keeps s s1 := h.setSrc
  have hs2 : Keeps s s2 := by
    unfold s2
    split
    · exact hs1.wr
    · split
      · exact hs1.wr
      · exact hs1
  have hs3 : Keeps s s3 := by
    unfold s3
    split
    · exact hs2.wr
    · split
      · exact hs2.wr
      · exact hs2
  split
  · exact hs3.reselect
  · exact hs2

theorem Keeps.measured {c : ℕ} {off : ℤ} (h : Keeps s t) : Keeps s (State.measured t c off) := by
  unfold State.measured
  extract_lets x s1 s2 s3
  have hs1 : Keeps s s1 := h.setSrc
  have hs2 : Keeps s s2 := hs1.setSlew
  have hs3 : Keeps s s3 := by
    unfold s3
    split
    · exact hs2.wr
    · exact hs2
  split
  · exact hs3.wr.updQuality
  · exact hs1

theorem Keeps.domainsStopped (h : Keeps s t) : Keeps s (State.domainsStopped t) := by
  unfold State.domainsStopped
  extract_lets c
  split
  · exact h.acquire.updQuality
  · exact h

theorem Keeps.ptpPortErr {j : ℕ} (h : Keeps s t) : Keeps s (ptpPortErr t j) := h.pageErr

theorem Keeps.ptpExchange {j : ℕ} {origin : ℕ} {stamp : ℕ} {corr : ℤ} {count : Bool} (h : Keeps s t) :
    Keeps s (ptpExchange t j origin stamp corr count) := by
  unfold Machine.ptpExchange
  extract_lets c x asym off offs s1 s2 s3
  have hs1 : Keeps s s1 := h.setSrc
  have hs2 : Keeps s s2 := hs1.wr
  have hs3 : Keeps s s3 := hs2.measured
  split
  · exact hs3.gainQual
  · exact hs3

theorem Keeps.timSetWrite {value : Word} (h : Keeps s t) : Keeps s (timSetWrite t value) := by
  have e : @Machine.timSetWrite = @Machine.timSetWrite := rfl
  conv at e => rhs; delta Machine.timSetWrite
  rw [e]
  beta_reduce
  extract_lets u
  have hu : Keeps s u := h.wr
  clear_value u
  split
  · split
    · exact hu.stepTime
    · exact hu.ignored
  · exact hu.ignored

theorem Keeps.writeRW {page : ℕ} {off : ℕ} {value : Word} (h : Keeps s t) : Keeps s (State.writeRW t page off value) := h.setWord

theorem Keeps.timConfigWrite {off : ℕ} {value : Word} (h : Keeps s t) : Keeps s (timConfigWrite t off value) := by
  unfold Machine.timConfigWrite
  split
  · exact h.ignored
  · extract_lets s1 j s2
    have hs1 : Keeps s s1 := h.writeRW
    have hs2 : Keeps s s2 := by
      unfold s2
      split
      · exact hs1.wr
      · exact hs1
    split
    · split
      · split
        · exact hs2.ptpPortErr.loseQual
        · exact hs2
      · exact hs1.wr.loseQual
    · split
      · split
        · exact hs1
        · exact hs1.loseQual
      · split
        · split
          · exact hs1
          · exact hs1.loseQual
        · exact hs1

theorem Keeps.timUplinkDown {k : ℕ} (h : Keeps s t) : Keeps s (timUplinkDown t k) := h.forEach fun _ _ hq => hq.wr.loseQual

theorem Keeps.timUplinkMode {k : ℕ} (h : Keeps s t) : Keeps s (timUplinkMode t k) := h.forEach fun _ _ hq => hq.ptpPortErr.loseQual

/-! ### Ledger -/

theorem Keeps.inkUncorr {f : ℕ} {a : ℕ} (h : Keeps s t) : Keeps s (inkUncorr t f a) := by
  unfold Machine.inkUncorr
  extract_lets s1 s2
  have hs1 : Keeps s s1 := h.bump
  have hs2 : Keeps s s2 := by
    unfold s2
    split
    · exact hs1
    · exact hs1.wr.wr
  exact hs2.wr

theorem Keeps.setInks {f : ℕ} {a : ℕ} {ws : List Word} (h : Keeps s t) : Keeps s (State.setInks t f a ws) := h.foldl fun _ _ hq => hq.setInk

theorem Keeps.setFn {i : ℕ} {x : Fn} (h : Keeps s t) : Keeps s (State.setFn t i x) := h.withRul

theorem Keeps.setFerrule {f : ℕ} {x : Ferrule} (h : Keeps s t) : Keeps s (State.setFerrule t f x) := h.withFerrules

theorem Keeps.settleState {p : Place} {sw : ℕ} {commit : Bool} (h : Keeps s t) : Keeps s (settleState t p sw commit) := h.setFerrule

theorem Keeps.discardAll {f : ℕ} (h : Keeps s t) : Keeps s (discardAll t f) := h.setFerrule

theorem Keeps.seedState {p : Place} {ws : List Word} (h : Keeps s t) :
    Keeps s (seedState t p ws) := h.setFerrule.foldl fun _ _ hq => hq.setInk.setInk

theorem Keeps.setRing {f : ℕ} {sub : ℕ} {r : Ring} (h : Keeps s t) : Keeps s (State.setRing t f sub r) := h.withRul

theorem Keeps.ledgerPut {f : ℕ} {e : List Word} (h : Keeps s t) : Keeps s (ledgerPut t f e) := h.setInks.wrapInc

theorem Keeps.ledgerWrite {f : ℕ} {dom : ℕ} {e : List Word} (h : Keeps s t) : Keeps s (ledgerWrite t f dom e) := by
  unfold Machine.ledgerWrite
  extract_lets fx s1 fx1 drop s2 s3
  have hs1 : Keeps s s1 := by
    unfold s1
    split
    · exact h.ledgerPut.setFerrule
    · exact h
  have hs2 : Keeps s s2 := hs1.ledgerPut
  have hs3 : Keeps s s3 := hs2.setFerrule.wr
  split
  · split
    · exact hs3.ledgerPut
    · exact hs1.setFerrule.bump.bump.wr
  · split
    · exact hs1.ledgerPut
    · exact hs1.setFerrule.wr.bump.bump.wr

theorem Keeps.writeSkips {f : ℕ} {fn : ℕ} {dom : ℕ} (h : Keeps s t) : Keeps s (writeSkips t f fn dom) := by
  unfold Machine.writeSkips
  extract_lets fx s1
  have hs1 : Keeps s s1 := h.setFerrule
  split
  · exact hs1.ledgerWrite
  · exact h

theorem Keeps.noteSkip {f : ℕ} {fn : ℕ} {stroke : ℕ} {cause : ℕ} (h : Keeps s t) : Keeps s (noteSkip t f fn stroke cause) := by
  unfold Machine.noteSkip
  extract_lets fx old rest
  clear_value old
  split
  · exact h.setFerrule
  · exact h.setFerrule

theorem Keeps.setDma {n : ℕ} {c : DmaChan} (h : Keeps s t) : Keeps s (State.setDma t n c) := h.withDma

theorem Keeps.dmaWithdraw (h : Keeps s t) : Keeps s (dmaWithdraw t) := by
  unfold Machine.dmaWithdraw
  refine h.foldl fun q a hq => ?_
  extract_lets c
  split
  · exact hq.setDma
  · exact hq

theorem Keeps.lrdWrite {f : ℕ} {v : ℕ} (h : Keeps s t) : Keeps s (lrdWrite t f v) := by
  unfold Machine.lrdWrite
  split
  · exact h.wr.dmaWithdraw
  · exact h.ignored

theorem Keeps.runEntry {f : ℕ} {fn : ℕ} {x : Fn} {p : Place} {stroke : ℕ} {flt : Bool} {derr : Bool} {odig : Word} (h : Keeps s t) :
    Keeps s (runEntry t f fn x p stroke flt derr odig) := h.ledgerWrite

/-! ### Fast -/

theorem Keeps.sendMsgs {c : RunCtx} {stroke : ℕ} {err : Bool} {words : List Word} {sdig : Word} (h : Keeps s t) :
    Keeps s (sendMsgs t c stroke err words sdig) := by
  unfold Machine.sendMsgs
  extract_lets shadow z
  exact h.withRul

theorem Keeps.checkpoint {fn : ℕ} {stroke : ℕ} {twin : ℕ} {rb : Bool} (h : Keeps s t) : Keeps s (checkpoint t fn stroke twin rb) := by
  unfold Machine.checkpoint
  extract_lets x src ws s1 s2 z
  have hs1 : Keeps s s1 := h.setInks
  have hs2 : Keeps s s2 := hs1.ledgerWrite
  split
  · exact hs2.setFn
  · exact h

theorem Keeps.noteRec {fn : ℕ} {stroke : ℕ} {g : StrokeRec → StrokeRec} (h : Keeps s t) : Keeps s (noteRec t fn stroke g) := by
  unfold Machine.noteRec
  extract_lets old z
  exact h.withRul

theorem Keeps.noteRun {c : RunCtx} {stroke : ℕ} {err : Bool} {odig : Word} (h : Keeps s t) : Keeps s (noteRun t c stroke err odig) := by
  unfold Machine.noteRun
  split
  · exact h
  · exact h.noteRec

theorem Keeps.derrRun {c : RunCtx} {stroke : ℕ} (h : Keeps s t) : Keeps s (derrRun t c stroke) := by
  unfold Machine.derrRun
  extract_lets s1 s2 s3 s4
  have hs1 : Keeps s s1 := h.writeSkips
  have hs2 : Keeps s s2 := hs1.runEntry.noteRun
  have hs3 : Keeps s s3 := hs2.sendMsgs
  have hs4 : Keeps s s4 := by
    unfold s4
    split
    · exact hs3.trace
    · exact hs3
  split
  · exact hs4
  · exact hs4.bump.checkpoint

theorem Keeps.skipRun {c : RunCtx} {stroke : ℕ} {cause : ℕ} (h : Keeps s t) : Keeps s (skipRun t c stroke cause) := by
  unfold Machine.skipRun
  split
  · exact h
  · extract_lets s1 z s2
    have hs1 : Keeps s s1 := h.noteSkip
    have hs2 : Keeps s s2 := hs1.setFn
    split
    · exact hs2.bump
    · exact hs2

theorem Keeps.closeSkips {c : RunCtx} (h : Keeps s t) : Keeps s (closeSkips t c) := by
  unfold Machine.closeSkips
  split
  · extract_lets s1
    have hs1 : Keeps s s1 := h.writeSkips
    split
    · split
      · exact hs1.checkpoint
      · exact hs1
    · exact hs1
  · exact h

theorem Keeps.rulBusy (h : Keeps s t) : Keeps s (rulBusy t) := h.wrb

theorem Keeps.rulEvent {e : RulEvent} (h : Keeps s t) : Keeps s (State.rulEvent t e) := by
  unfold State.rulEvent
  extract_lets c before z
  exact h.withRul.rulBusy

theorem Keeps.nibIdle {f : ℕ} {n : ℕ} {gap : ℕ} (h : Keeps s t) : Keeps s (nibIdle t f n gap) := by
  unfold Machine.nibIdle
  extract_lets b s1
  have hs1 : Keeps s s1 := by
    unfold s1
    split
    · exact h.wr.wr
    · exact h
  exact hs1.setNib

theorem Keeps.runPacket {c : RunCtx} {cyc : ℕ} {flt : Bool} (h : Keeps s t) : Keeps s (runPacket t c cyc flt) := by
  unfold Machine.runPacket
  split
  · exact h.trace
  · exact h

theorem Keeps.releaseOutputs {c : RunCtx} (h : Keeps s t) : Keeps s (releaseOutputs t c) := by
  unfold Machine.releaseOutputs
  extract_lets b words s1 s2
  have hs1 : Keeps s s1 := h.sendMsgs
  have hs2 : Keeps s s2 := by
    unfold s2
    split
    · exact hs1.bump
    · exact hs1
  exact hs2.setNib

theorem Keeps.applyDecision {c : RunCtx} {stroke : ℕ} {cA : Bool} {cB : Bool} (h : Keeps s t) :
    Keeps s (applyDecision t c stroke cA cB) := by
  unfold Machine.applyDecision
  extract_lets commit s1 s2
  have hs1 : Keeps s s1 := h.settleState
  have hs2 : Keeps s s2 := by
    unfold s2
    split
    · exact hs1
    · exact hs1.wr
  split
  · split
    · exact hs2.checkpoint
    · split
      · exact hs2
      · exact hs2.checkpoint
  · split
    · exact hs2.checkpoint
    · exact hs2

theorem Keeps.endRun {c : RunCtx} (h : Keeps s t) : Keeps s (endRun t c) := by
  unfold Machine.endRun
  extract_lets b s1 b1 slot s2 s3 s4 x held s5
  have hs1 : Keeps s s1 := by
    unfold s1
    split
    · exact h
    · exact h.releaseOutputs
  have hs2 : Keeps s s2 := hs1.wr.wr
  have hs3 : Keeps s s3 := hs2.runEntry.noteRun
  have hs4 : Keeps s s4 := hs3.runPacket
  have hs5 : Keeps s s5 := by
    unfold s5
    split
    · exact hs4.settleState
    · split
      · split
        · exact hs4.setFn.applyDecision
        · exact hs4.setFn
      · exact hs4.settleState.checkpoint
  exact hs5.nibIdle

theorem Keeps.faultRecord {c : RunCtx} {kind : ℕ} {sub : ℕ} {cyc : ℕ} {par0 : ℕ} {par1 : Option ℕ} (h : Keeps s t) :
    Keeps s (faultRecord t c kind sub cyc par0 par1) := by
  unfold Machine.faultRecord
  extract_lets b f n s1 s2 s3
  have hs1 : Keeps s s1 := h.setBit
  have hs2 : Keeps s s2 := hs1.wr.wr.wr.wr.wr
  have hs3 : Keeps s s3 := hs2.wr.wr.wr.wr.wr.wr.wr
  split
  · exact hs1.bump
  · exact hs3.wr.wr.wr.wr.wr.wr

theorem Keeps.discardRun {c : RunCtx} (h : Keeps s t) : Keeps s (discardRun t c) := h.settleState.wr

theorem Keeps.derrRest {f : ℕ} {n : ℕ} (h : Keeps s t) : Keeps s (derrRest t f n) := by
  unfold Machine.derrRest
  extract_lets b s1 z
  have hs1 : Keeps s s1 := by
    unfold s1
    refine Keeps.forEach h (fun q0 q1 hq => ?_)
    split
    · exact hq.derrRun
    · exact hq
  exact hs1.setNib

theorem Keeps.faultRun {c : RunCtx} {kind : ℕ} {sub : ℕ} {cyc : ℕ} {par0 : ℕ} {par1 : Option ℕ} (h : Keeps s t) :
    Keeps s (faultRun t c kind sub cyc par0 par1) := by
  unfold Machine.faultRun
  extract_lets s1 b s2 s3 s4 s5 s6 x s7 s8 s9
  have hs1 : Keeps s s1 := h.faultRecord
  have hs2 : Keeps s s2 := hs1.setNib
  have hs3 : Keeps s s3 := hs2.runEntry.noteRun
  have hs4 : Keeps s s4 := hs3.runPacket
  have hs5 : Keeps s s5 := hs4.discardRun
  have hs6 : Keeps s s6 := by
    unfold s6
    split
    · exact hs5
    · exact hs5.sendMsgs
  have hs7 : Keeps s s7 := hs6.setFn
  have hs8 : Keeps s s8 := by
    unfold s8
    split
    · exact hs6
    · split
      · split
        · exact hs7.rulEvent
        · exact hs7
      · exact hs6.bump.checkpoint
  have hs9 : Keeps s s9 := hs8.nibIdle.wr
  split
  · exact hs9.rulEvent.derrRest
  · exact hs8.nibIdle

theorem Keeps.skipNib {f : ℕ} {n : ℕ} {cause : ℕ} (h : Keeps s t) : Keeps s (skipNib t f n cause) := by
  unfold Machine.skipNib
  extract_lets b slots s1 z
  have hs1 : Keeps s s1 := by
    unfold s1
    refine Keeps.forEach h (fun q0 q1 hq => ?_)
    split
    · exact hq.skipRun
    · exact hq
  exact hs1.setNib

theorem Keeps.haltNib {f : ℕ} {n : ℕ} (h : Keeps s t) : Keeps s (haltNib t f n) := h.skipNib.wr

theorem Keeps.releaseNib {f : ℕ} {n : ℕ} (h : Keeps s t) : Keeps s (releaseNib t f n) := by
  unfold Machine.releaseNib
  split
  · extract_lets b s1
    have hs1 : Keeps s s1 := by
      unfold s1
      split
      · exact h.settleState
      · exact h
    exact hs1.wr.wr.setNib
  · exact h

theorem Keeps.startRun {c : RunCtx} {rest : List ℕ} (h : Keeps s t) : Keeps s (startRun t c rest) := h.setInks.wr.wr.setFn.setNib

/-! ### Links -/

theorem Keeps.setCell {l : ℕ} {c : Cell} (h : Keeps s t) : Keeps s (State.setCell t l c) := h.setPort

theorem Keeps.setWindow {pr : ℕ} {w : List (ℕ × ℕ × ℕ)} (h : Keeps s t) : Keeps s (setWindow t pr w) :=
  (h.setPairs fun i => twf_tset i _ _).wr

theorem Keeps.windowDel {pr : ℕ} {smac : ℕ} {seq : ℕ} (h : Keeps s t) : Keeps s (windowDel t pr smac seq) := h.setWindow

theorem Keeps.windowAdd {pr : ℕ} {smac : ℕ} {seq : ℕ} (h : Keeps s t) : Keeps s (windowAdd t pr smac seq) := by
  unfold Machine.windowAdd
  extract_lets w s1 s2
  have hs1 : Keeps s s1 := h.bump
  have hs2 : Keeps s s2 := hs1.pageErr
  split
  · exact h.setWindow
  · exact hs2.setWindow

theorem Keeps.spoofDrop {ten : ℕ} (h : Keeps s t) : Keeps s (spoofDrop t ten) := h.bump.wr

theorem Keeps.enqueue {p : ℕ} {x : TxFrame} (h : Keeps s t) : Keeps s (enqueue t p x) := by
  unfold Machine.enqueue
  split
  · exact h.setPort
  · exact h

theorem Keeps.sendOn {ports : List ℕ} {cls : ℕ} {signoff : Bool} {key : Option ℕ} {body : TxBody} (h : Keeps s t) :
    Keeps s (sendOn t ports cls signoff key body) := by
  unfold Machine.sendOn
  split
  · exact h
  · split
    · exact h.enqueue
    · exact h.enqueue
    · exact h.wrapInc.forEach fun _ _ hq => hq.enqueue

/-! ### Pubs -/

theorem Keeps.pubSend {p : ℕ} {cls : ℕ} {signoff : Bool} {body : TxBody} (h : Keeps s t) : Keeps s (pubSend t p cls signoff body) := by
  unfold Machine.pubSend
  extract_lets f kp key ten a1 vlan etype
  clear_value key
  split
  · exact h.bump.setBit.pageErr
  · split
    · exact h.spoofDrop.bump
    · exact h.sendOn

theorem Keeps.setNext {p : ℕ} (h : Keeps s t) : Keeps s (setNext t p) := h.wr

theorem Keeps.gooseFrame {p : ℕ} {cls : ℕ} (h : Keeps s t) : Keeps s (gooseFrame t p cls) := h.pubSend

theorem Keeps.gooseShow {p : ℕ} {words : List Word} {openNs : ℕ} {image : Bool} {force : Bool} {cls : ℕ} (h : Keeps s t) :
    Keeps s (gooseShow t p words openNs image force cls) := by
  unfold Machine.gooseShow
  extract_lets x cur s1 s2
  have hs1 : Keeps s s1 := h.wr.wr
  have hs2 : Keeps s s2 := hs1.setPub
  split
  · exact h
  · exact hs2.setNext.gooseFrame

theorem Keeps.gooseStop {p : ℕ} (h : Keeps s t) : Keeps s (gooseStop t p) := h.setPub.setNext

theorem Keeps.svShow {p : ℕ} {n : ℕ} {words : List Word} {signoff : Bool} {cls : ℕ} (h : Keeps s t) :
    Keeps s (svShow t p n words signoff cls) := h.pubSend

theorem Keeps.cellShow {p : ℕ} {n : ℕ} {words : List Word} {ind : Bool} (h : Keeps s t) : Keeps s (cellShow t p n words ind) := h.setCell

theorem Keeps.pubShow {p : ℕ} {n : ℕ} {ipol : ℕ} {crit : Bool} {res : Option (List Word)} (h : Keeps s t) :
    Keeps s (pubShow t p n ipol crit res) := by
  unfold Machine.pubShow
  extract_lets f k x o words s1 left s2 s3 cls
  have hs1 : Keeps s s1 := by
    unfold s1
    split
    · exact h.bump
    · exact h
  have hs2 : Keeps s s2 := hs1.wrb.wr
  have hs3 : Keeps s s3 := hs2.setPub
  split
  · exact h
  · split
    · exact hs3.gooseShow
    · split
      · exact hs3.svShow
      · exact hs3.cellShow

theorem Keeps.pubEnter {p : ℕ} (h : Keeps s t) : Keeps s (pubEnter t p) := by
  unfold Machine.pubEnter
  extract_lets f z s1
  have hs1 : Keeps s s1 := h.setPub
  split
  · exact h
  · exact hs1.wr.setBit

theorem Keeps.pubSignoff {p : ℕ} {n : ℕ} {stroke : Bool} (h : Keeps s t) : Keeps s (pubSignoff t p n stroke) := by
  unfold Machine.pubSignoff
  extract_lets o soff cls done ws
  split
  · split
    · exact h.gooseStop
    · split
      · exact h
      · exact h.gooseShow.setPub
  · split
    · split
      · exact h
      · exact h.svShow.setPub
    · exact h

theorem Keeps.pubSignoffNow {p : ℕ} (h : Keeps s t) : Keeps s (pubSignoffNow t p) := by
  unfold Machine.pubSignoffNow
  split
  · exact h
  · exact h.pubEnter.pubSignoff

theorem Keeps.pubMake {p : ℕ} {ten : ℕ} {a : PubArgs} (h : Keeps s t) :
    Keeps s (pubMake t p ten a) := h.wr.wr.wr.wr.wr.wr.wr.wr.wr.wr.setWord.wr.wr.wr.setPub

theorem Keeps.pubCreate {init : ℕ} {ferrule : ℕ} {seq : ℕ} {handle : ℕ} (h : Keeps s t) :
    Keeps s (pubCreate t init ferrule seq handle) := by
  unfold Machine.pubCreate
  extract_lets page
  split
  next x s1 e =>
    have hq := h.doorbell.fst e
    exact hq
  next x s1 e =>
    have hq := h.doorbell.fst e
    extract_lets a free r p
    split
    · exact hq.complete
    · exact hq.pubMake.complete

theorem Keeps.pubFree {p : ℕ} (h : Keeps s t) : Keeps s (pubFree t p) := (h.forEach fun _ _ hq => hq.setWord).setWord.setPub.bumpGen

theorem Keeps.pubDestroy {init : ℕ} {ferrule : ℕ} {seq : ℕ} {handle : ℕ} (h : Keeps s t) :
    Keeps s (pubDestroy t init ferrule seq handle) := by
  unfold Machine.pubDestroy
  extract_lets page p
  split
  next x s1 e =>
    have hq := h.doorbell.fst e
    exact hq
  next x s1 e =>
    have hq := h.doorbell.fst e
    split
    · exact hq.complete
    · exact hq.pubFree.complete

/-! ### Lanes -/

theorem Keeps.lnkEvent {p : ℕ} {f : ℕ → Fld} (h : Keeps s t) : Keeps s (lnkEvent t p f) := by
  unfold Machine.lnkEvent
  split
  · exact h.setBit
  · exact h

theorem Keeps.unlearn {p : ℕ} (h : Keeps s t) : Keeps s (unlearn t p) := by
  unfold Machine.unlearn
  extract_lets b s1 z
  have hs1 : Keeps s s1 := by
    unfold s1
    split
    · exact h.lnkEvent
    · exact h
  exact hs1.setWord.setWord.setPort

theorem Keeps.startExchange {l : ℕ} (h : Keeps s t) : Keeps s (startExchange t l) := h.setCell

theorem Keeps.setLst {p : ℕ} {v : ℕ} (h : Keeps s t) : Keeps s (setLst t p v) := by
  unfold Machine.setLst
  extract_lets b old s1 s2 z s3 s4
  have hs1 : Keeps s s1 := h.wr.lnkEvent
  have hs2 : Keeps s s2 := by
    unfold s2
    split
    · exact hs1.bump
    · exact hs1
  have hs3 : Keeps s s3 := by
    unfold s3
    split
    · exact hs2.wr.wr.wr.setPort
    · exact hs2
  have hs4 : Keeps s s4 := by
    unfold s4
    split
    · split
      · exact hs3.unlearn.wr
      · split
        · exact hs3.startExchange
        · exact hs3
    · split
      · exact hs3.unlearn
      · exact hs3
  split
  · exact h
  · split
    · exact hs4.timUplinkDown
    · exact hs4

theorem Keeps.showSig {p : ℕ} (h : Keeps s t) : Keeps s (showSig t p) := by
  unfold Machine.showSig
  split
  · exact h.wrb
  · exact h

theorem Keeps.evalLink {p : ℕ} (h : Keeps s t) : Keeps s (evalLink t p) := by
  unfold Machine.evalLink
  split
  · exact h
  · split
    · exact h.setLst
    · split
      · exact h.setLst
      · split
        · refine Keeps.setLst ?_
          split
          · exact h.wr
          · exact h
        · exact h

theorem Keeps.laneConfigWrite {p : ℕ} {value : Word} (h : Keeps s t) : Keeps s (laneConfigWrite t p value) := by
  unfold Machine.laneConfigWrite
  split
  · exact h.ignored
  · extract_lets b was value1 s1 en z s2 s3
    have hs1 : Keeps s s1 := h.writeRW.showSig
    have hs2 : Keeps s s2 := by
      unfold s2
      split
      · exact hs1.setPort.setLst.evalLink
      · split
        · exact hs1.setPort.setLst.unlearn
        · exact hs1
    have hs3 : Keeps s s3 := by
      unfold s3
      split
      · exact hs2.wr
      · exact hs2
    split
    · exact hs3.timUplinkMode
    · exact hs3

theorem Keeps.pairConfigWrite {page : ℕ} {value : Word} (h : Keeps s t) : Keeps s (pairConfigWrite t page value) := by
  unfold Machine.pairConfigWrite
  extract_lets lanes n port pr ddft bad
  split
  · exact h.ignored
  · exact h.writeRW.forEach fun _ _ hq => hq.setWindow

theorem Keeps.ptpSeqNext {l : ℕ} (h : Keeps s t) : Keeps s (ptpSeqNext t l).2 := by
  unfold Machine.ptpSeqNext
  extract_lets n z
  dsimp only
  exact h.withTim

theorem Keeps.ptpSend {l : ℕ} {body : TxBody} (h : Keeps s t) : Keeps s (ptpSend t l body) := h.enqueue

/-! ### Mesh -/

theorem Keeps.setEdl {fn : ℕ} (h : Keeps s t) : Keeps s (setEdl t fn) := h.wr

theorem Keeps.setFlows {fl : Tbl Flow} (h : Keeps s t) : Keeps s (State.setFlows t fl) := by
  unfold State.setFlows
  extract_lets links z s1
  have hs1 : Keeps s s1 := h.withRul
  exact hs1.forEach fun _ _ hq => hq.wr

theorem Keeps.loseMessage {fl : Flow} {link : ℕ} {stroke : ℕ} (h : Keeps s t) : Keeps s (loseMessage t fl link stroke) := by
  unfold Machine.loseMessage
  extract_lets ds fer r r1
  exact h.withRul

/-! ### Subs -/

theorem Keeps.setSper {i : ℕ} {b : Bool} (h : Keeps s t) : Keeps s (setSper t i b) := h.wrb.wrb

theorem Keeps.setSimon {i : ℕ} {b : Bool} (h : Keeps s t) : Keeps s (setSimon t i b) := h.wrb.wrb

theorem Keeps.setLpres {i : ℕ} {b : Bool} (h : Keeps s t) : Keeps s (setLpres t i b) := h.wrb.wrb

theorem Keeps.setGexp {i : ℕ} {b : Bool} (h : Keeps s t) : Keeps s (setGexp t i b) := h.wrb.wrb

theorem Keeps.setSstate {i : ℕ} {v : ℕ} (h : Keeps s t) : Keeps s (setSstate t i v) := h.wr.wr

theorem Keeps.subEval {i : ℕ} (h : Keeps s t) : Keeps s (subEval t i) := by
  unfold Machine.subEval
  extract_lets d was fail
  have hfail : ∀ u, Keeps s u → Keeps s (fail u) := by
    intro u hu
    unfold fail
    refine Keeps.setSper ?_
    split
    · exact hu
    · exact hu.pageErr
  clear_value fail
  split
  · split
    · split
      · exact h.wr.setSper
      · exact hfail _ h
    · exact hfail _ h
  · split
    · split
      · split
        · exact h.setSper
        · exact hfail _ h
      · exact h
    · exact h

theorem Keeps.sendSample {i : ℕ} {n : ℕ} {pres : Bool} {words : List Word} {fs : List ℕ} (h : Keeps s t) :
    Keeps s (sendSample t i n pres words fs) := h.withRul

theorem Keeps.sendDecided {i : ℕ} {from' : ℕ} {fs : List ℕ} (h : Keeps s t) : Keeps s (sendDecided t i from' fs) := by
  unfold Machine.sendDecided
  split
  · exact h.forEach fun _ _ hq => hq.sendSample
  · exact h

theorem Keeps.subFinish {i : ℕ} {n : ℕ} {pres : Bool} {words : List Word} (h : Keeps s t) : Keeps s (subFinish t i n pres words) := by
  unfold Machine.subFinish
  extract_lets s1 s2 x cur s3
  have hs1 : Keeps s s1 := h.wr.setLpres
  have hs2 : Keeps s s2 := by
    unfold s2
    split
    · exact hs1
    · exact hs1.setBit
  have hs3 : Keeps s s3 := hs2.setSub
  exact hs3.sendSample

theorem Keeps.subDecide {i : ℕ} {n : ℕ} (h : Keeps s t) : Keeps s (subDecide t i n) := h.setSub.bumpBy.subFinish

theorem Keeps.passSubDeadline {i : ℕ} {n : ℕ} (h : Keeps s t) : Keeps s (passSubDeadline t i n) := by
  unfold Machine.passSubDeadline
  split
  · exact h.subDecide
  · exact h

theorem Keeps.subAccept {i : ℕ} {n : ℕ} {k : ℕ} {words : List Word} (h : Keeps s t) : Keeps s (subAccept t i n k words) := by
  unfold Machine.subAccept
  extract_lets x zs s1 s2
  have hs1 : Keeps s s1 := h.setSub
  have hs2 : Keeps s s2 := hs1.bump
  split
  · exact hs2.subDecide
  · exact hs2

theorem Keeps.subLate {i : ℕ} {n : ℕ} {k : ℕ} {decidedAt : ℕ} {words : List Word} (h : Keeps s t) :
    Keeps s (subLate t i n k decidedAt words) := by
  unfold Machine.subLate
  extract_lets f a ldly s1 s2 d
  have hs1 : Keeps s s1 := h.bump.setBit
  have hs2 : Keeps s s2 := hs1.wr.wr.wr.wr
  split
  · exact hs2
  · split
    · extract_lets was s3
      have hs3 : Keeps s s3 := hs2.ledgerWrite
      split
      · exact hs3.bump
      · exact hs3
    · exact hs2

theorem Keeps.subPosition {i : ℕ} {n : ℕ} {k : ℕ} {words : List Word} (h : Keeps s t) : Keeps s (subPosition t i n k words) := by
  unfold Machine.subPosition
  extract_lets s1
  have hs1 : Keeps s s1 := h.passSubDeadline
  split
  · exact hs1.subLate
  · split
    · exact hs1.bump
    · exact hs1.subAccept

theorem Keeps.subCut {i : ℕ} {n : ℕ} (h : Keeps s t) : Keeps s (subCut t i n) := by
  unfold Machine.subCut
  extract_lets x gv exp s1 s2 k extra q miss s3 s4
  have hs1 : Keeps s s1 := by
    unfold s1
    split
    · exact h.bump.setBit
    · exact h
  have hs2 : Keeps s s2 := hs1.setGexp.setSub
  have hs3 : Keeps s s3 := h.bumpBy.bumpBy
  have hs4 : Keeps s s4 := hs3.setSub
  split
  · exact hs2.subFinish
  · exact hs4.subFinish

theorem Keeps.passCutoff {i : ℕ} (h : Keeps s t) : Keeps s (passCutoff t i) := by
  unfold Machine.passCutoff
  split
  · split
    · split
      · exact h.subCut
      · exact h
    · exact h
  · exact h

theorem Keeps.subAsdu {i : ℕ} {sim : Bool} {x : SvAsdu} (h : Keeps s t) : Keeps s (subAsdu t i sim x) := by
  unfold Machine.subAsdu
  extract_lets words y zs d
  split
  · exact h.setSub.bump
  · split
    · exact h.bump
    · split
      · extract_lets n
        split
        · exact h.bump.pageErr
        · split
          · exact h.bump
          · exact h.subPosition

theorem Keeps.subGoose {i : ℕ} {sim : Bool} {g : GooseApdu} (h : Keeps s t) : Keeps s (subGoose t i sim g) := by
  unfold Machine.subGoose
  extract_lets x words n q same refresh apply
  have hrefresh : ∀ u, Keeps s u → Keeps s (refresh u) := fun _ hu => hu.wr.bump.setSub
  have happly : ∀ u, Keeps s u → Keeps s (apply u) := fun _ hu => hrefresh _ hu.setSub.wr.wr.wr
  clear_value apply refresh
  split
  · exact happly _ h
  · split
    · exact hrefresh _ (h.bumpIf).wr
    · split
      · exact h.bump
      · split
        · exact happly _ h.bump.bumpIf
        · split
          · exact happly _ h.bump
          · exact h.bump

theorem Keeps.subReject {i : ℕ} {counter : Fld} {frsn : ℕ} (h : Keeps s t) : Keeps s (subReject t i counter frsn) := h.bump.wr.wr.wr.setBit

theorem Keeps.subDeliver {i : ℕ} {apdu : Apdu} (h : Keeps s t) : Keeps s (subDeliver t i apdu) := by
  unfold Machine.subDeliver
  extract_lets u run
  have hu : Keeps s u := h.passCutoff
  have hrun : ∀ q sim revs frsn act, (∀ q, Keeps s q → Keeps s (act q)) → Keeps s q → Keeps s (run q sim revs frsn act) := by
    intro q sim revs frsn act hact hq
    unfold run
    extract_lets on
    split
    · exact hq.subReject
    · split
      · exact hq.subReject
      · split
        · exact hq.subReject
        · refine hact _ ?_
          split
          · exact hq.setSimon
          · exact hq
  clear_value run u
  split
  · exact hu
  · split
    · exact hrun _ _ _ _ _ (fun _ hq => hq.forEach fun _ _ hq => hq.subAsdu) hu
    · exact hrun _ _ _ _ _ (fun _ hq => hq.subGoose) hu
    · exact hu

theorem Keeps.domSubsEval {d : ℕ} (h : Keeps s t) : Keeps s (domSubsEval t d) := h.forEach fun _ _ hq => hq.setSub.subEval

theorem Keeps.subMake {i : ℕ} {ten : ℕ} {a : SubArgs} (h : Keeps s t) : Keeps s (subMake t i ten a) := by
  unfold Machine.subMake
  extract_lets s1 s2 s3 s4 s5
  have hs1 : Keeps s s1 := h.forEach fun _ _ hq => hq.setWord
  have hs2 : Keeps s s2 := hs1.setWord
  have hs3 : Keeps s s3 := hs2.wr.wr.wr.wr
  have hs4 : Keeps s s4 := hs3.setSstate.wr
  have hs5 : Keeps s s5 := hs4.setSub
  refine Keeps.subEval ?_
  split
  · exact hs5
  · exact hs5.wr

theorem Keeps.subCreate {init : ℕ} {ferrule : ℕ} {seq : ℕ} {handle : ℕ} (h : Keeps s t) :
    Keeps s (subCreate t init ferrule seq handle) := by
  unfold Machine.subCreate
  extract_lets page
  split
  next x s1 e =>
    have hq := h.doorbell.fst e
    exact hq
  next x s1 e =>
    have hq := h.doorbell.fst e
    extract_lets a ten free r i
    split
    · exact hq.complete
    · exact hq.subMake.complete

theorem Keeps.subFree {i : ℕ} (h : Keeps s t) : Keeps s (subFree t i) := (h.forEach fun _ _ hq => hq.setWord).setWord.setSub.bumpGen

theorem Keeps.subDestroy {init : ℕ} {ferrule : ℕ} {seq : ℕ} {handle : ℕ} (h : Keeps s t) :
    Keeps s (subDestroy t init ferrule seq handle) := by
  unfold Machine.subDestroy
  extract_lets page i
  split
  next x s1 e =>
    have hq := h.doorbell.fst e
    exact hq
  next x s1 e =>
    have hq := h.doorbell.fst e
    split
    · exact hq.complete
    · exact hq.subFree.complete

theorem Keeps.applySetpol {i : ℕ} {lpol : ℕ} {simok : Bool} (h : Keeps s t) : Keeps s (applySetpol t i lpol simok) := by
  unfold Machine.applySetpol
  extract_lets a a1 z s1
  have hs1 : Keeps s s1 := h.wr.setSub
  split
  · exact hs1
  · exact hs1.setSimon

theorem Keeps.subSetpol {init : ℕ} {ferrule : ℕ} {seq : ℕ} {handle : ℕ} (h : Keeps s t) :
    Keeps s (subSetpol t init ferrule seq handle) := by
  unfold Machine.subSetpol
  extract_lets page i
  split
  next x s1 e =>
    have hq := h.doorbell.fst e
    exact hq
  next x s1 e =>
    have hq := h.doorbell.fst e
    extract_lets lpol simok d z s2
    have hs2 : Keeps s s2 := by
      unfold s2
      split
      · exact hq.setSub
      · exact hq.applySetpol
    split
    · exact hq.complete
    · exact hs2.complete

theorem Keeps.boundarySetpols {d : ℕ} (h : Keeps s t) : Keeps s (boundarySetpols t d) := by
  unfold Machine.boundarySetpols
  refine Keeps.forEach h (fun q0 q1 hq => ?_)
  split
  · split
    · exact hq.applySetpol
    · exact hq
  · exact hq

theorem Keeps.subReset {i : ℕ} (h : Keeps s t) :
    Keeps s (subReset t i) := (h.forEach fun _ _ hq => hq.setWord).wr.setSimon.setGexp.setLpres.setSub

theorem Keeps.subsWake {l : List ℕ} (h : Keeps s t) : Keeps s (subsWake t l) := h.forEach fun _ _ hq => hq.setSub

theorem Keeps.subPageReset {f : ℕ} (h : Keeps s t) :
    Keeps s (subPageReset t f) := (h.forEach fun _ _ hq => hq.subReset).headerReset.forEach fun _ _ hq => hq.setWord

/-! ### Rx -/

theorem Keeps.rxUnmatched {p : ℕ} {x : RxFrame} (h : Keeps s t) : Keeps s (rxUnmatched t p x) := by
  unfold Machine.rxUnmatched
  extract_lets b et s1
  have hs1 : Keeps s s1 := h.bump.wr.wr
  split
  · exact hs1.wr.wrb.wr.wr

theorem Keeps.partnerLearn {p : ℕ} {x : RxFrame} (h : Keeps s t) : Keeps s (partnerLearn t p x) := by
  unfold Machine.partnerLearn
  extract_lets b locked a0 before s1 s2
  have hs1 : Keeps s s1 := by
    unfold s1
    split
    · exact h
    · exact h.wr.wr.wr
  have hs2 : Keeps s s2 := by
    unfold s2
    clear_value a0
    split
    · split
      · extract_lets s3 s4 z
        have hs3 : Keeps s s3 := hs1.wr.wr.wr
        have hs4 : Keeps s s4 := by
          unfold s4
          split
          · exact hs1
          · split
            · exact hs3.wr
            · exact hs3
        exact hs4.setPort
    · exact hs1
  split
  · exact h
  · split
    · exact h
    · split
      · exact hs2.lnkEvent
      · exact hs2

theorem Keeps.stage8 {p : ℕ} {x : RxFrame} {known : Option Bool} (h : Keeps s t) : Keeps s (stage8 t p x known).1 := by
  unfold Machine.stage8
  split
  · extract_lets here
    split
    · dsimp only
      exact h.windowDel.bump
    · dsimp only
      split
      · exact h
      · exact h.windowAdd
  · exact h

theorem Keeps.rxStages {p : ℕ} {x : RxFrame} {ptp : Bool} (h : Keeps s t) : Keeps s (rxStages t p x ptp).1 := by
  unfold Machine.rxStages
  extract_lets b s1 hsr multicast dev present s2 et s3
  have hs1 : Keeps s s1 := by
    unfold s1
    split
    · split
      · exact h.bump
      · exact h
    · exact h
  have hs2 : Keeps s s2 := by
    unfold s2
    clear_value present
    split
    · exact hs1.windowAdd.enqueue.bump
    · exact hs1
  have hs3 : Keeps s s3 := by
    unfold s3
    split
    · exact hs2.partnerLearn
    · exact hs2
  split
  · dsimp only
    exact h.bump
  · split
    · dsimp only
      exact h.bump
    · split
      · dsimp only
        exact h.bump
      · split
        · exact hs2
        · split
          · dsimp only
            split
            · exact hs3.bump
            · exact hs3.bump
          · split
            · split
              next x1 s4 ok e =>
                have hq := hs3.stage8.fst e
                dsimp only
                split
                · exact hq.bump
                · exact hq
            · split
              · dsimp only
                exact hs3.bump
              · split
                · dsimp only
                  exact hs3.rxUnmatched
                · split
                  · dsimp only
                    exact hs3.bump
                  · split
                    next x1 s4 ok e =>
                      have hq := hs3.stage8.fst e
                      split
                      · dsimp only
                        exact hq.bump.subDeliver
                      · exact hq

/-! ### Cell -/

theorem Keeps.periodNow {l : ℕ} (h : Keeps s t) : Keeps s (periodNow t l) := by
  unfold Machine.periodNow
  split
  · split
    · exact h
    · exact h.setCell
  · exact h.setCell

theorem Keeps.cellPut {l : ℕ} {octets : List ℕ} {signoff : Bool} (h : Keeps s t) : Keeps s (cellPut t l octets signoff) := h.setPort

theorem Keeps.cellFail {l : ℕ} {cfr : ℕ} (h : Keeps s t) : Keeps s (cellFail t l cfr) := h.wr.setLst.setCell

theorem Keeps.capabilityIn {l : ℕ} {o : List ℕ} (h : Keeps s t) : Keeps s (capabilityIn t l o) := by
  unfold Machine.capabilityIn
  extract_lets b num seen s1 s2 before s3 s4 s5 s6 z s7 z1
  have hs1 : Keeps s s1 := by
    unfold s1
    split
    · exact h.setLst
    · exact h
  have hs2 : Keeps s s2 := hs1.periodNow
  have hs3 : Keeps s s3 := hs2.wr.wr.wr.wr
  have hs4 : Keeps s s4 := hs3.wr.wrb.wrb
  have hs5 : Keeps s s5 := hs4.wr.wr
  have hs6 : Keeps s s6 := by
    unfold s6
    split
    · exact hs5.lnkEvent
    · exact hs5
  have hs7 : Keeps s s7 := hs6.setCell
  split
  · exact hs1.bump
  · split
    · exact hs7
    · split
      · exact hs7.cellFail
      · split
        · split
          · exact hs7.cellFail
          · split
            · exact hs7.cellFail
            · exact hs7.setCell
        · split
          · exact hs7.cellFail
          · split
            · exact hs7.cellFail
            · exact hs7.setCell

theorem Keeps.echoReplyIn {l : ℕ} {o : List ℕ} {first : ℕ} (h : Keeps s t) : Keeps s (echoReplyIn t l o first) := by
  unfold Machine.echoReplyIn
  extract_lets b c s1
  have hs1 : Keeps s s1 := h.bump
  split
  · exact h.bump
  · extract_lets sum s2 rtt clen s3 s4 z
    have hs2 : Keeps s s2 := hs1.setCell
    have hs3 : Keeps s s3 := hs2.wr.wr.wr
    have hs4 : Keeps s s4 := hs3.wr.setLst
    split
    · exact hs2
    · split
      · exact hs2.cellFail
      · exact hs4.setCell

theorem Keeps.statusIn {l : ℕ} {o : List ℕ} {first : ℕ} (h : Keeps s t) : Keeps s (statusIn t l o first) := by
  unfold Machine.statusIn
  extract_lets b c s1
  have hs1 : Keeps s s1 := h.bump
  split
  · split
    · exact h
    · exact h.bump
  · split
    · exact h.bump
    · split
      · exact h.bump
      · split
        · exact h.bump
        · extract_lets s2
          have hs2 : Keeps s s2 := hs1.setCell
          refine Keeps.forEach hs2 (fun q0 q1 hq => ?_)
          extract_lets s3
          have hs3 : Keeps s s3 := by
            unfold s3
            split
            · exact hq
            · exact hq.subEval
          split
          · exact hs3
          · exact hs3.subPosition

theorem Keeps.cellReceive {l : ℕ} {rx : CellRx} (h : Keeps s t) : Keeps s (cellReceive t l rx) := by
  unfold Machine.cellReceive
  extract_lets b o
  split
  · exact h
  · split
    · exact h.bump
    · split
      · exact h.bump
      · split
        · exact h.bump
        · split
          · exact h.capabilityIn
          · split
            · exact h.echoReplyIn
            · split
              · exact h.statusIn
              · exact h.bump

theorem Keeps.cellRelearn {l : ℕ} (h : Keeps s t) : Keeps s (cellRelearn t l) := by
  unfold Machine.cellRelearn
  split
  · exact h.setLst
  · exact h.ignored

theorem Keeps.cellSend {l : ℕ} {stroke : ℕ} {words : List ℕ} {blk : Bool} {sgn : Bool} {ind : Bool} (h : Keeps s t) :
    Keeps s (cellSend t l stroke words blk sgn ind) := by
  unfold Machine.cellSend
  extract_lets payload s1 s2 c
  have hs1 : Keeps s s1 := h.cellPut
  have hs2 : Keeps s s2 := by
    unfold s2
    split
    · exact hs1.bump
    · exact hs1
  exact hs2.setCell

theorem Keeps.cellJudge {l : ℕ} {n : ℕ} (h : Keeps s t) : Keeps s (cellJudge t l n) := by
  unfold Machine.cellJudge
  extract_lets b c ok s1 s2
  have hs1 : Keeps s s1 := h.setCell
  have hs2 : Keeps s s2 := by
    unfold s2
    split
    · exact hs1
    · exact hs1.bump
  split
  · exact h
  · split
    · exact hs2.wr.setLst
    · split
      · exact hs2.wr.setLst
      · exact hs2

theorem Keeps.cellBoundary {d : ℕ} {n : ℕ} (h : Keeps s t) : Keeps s (cellBoundary t d n) := by
  unfold Machine.cellBoundary
  extract_lets ls s1
  have hs1 : Keeps s s1 := by
    unfold s1
    refine Keeps.forEach h (fun q0 q1 hq => ?_)
    extract_lets z s2
    have hs2 : Keeps s s2 := hq.setCell
    split
    · exact hs2.setLst
    · exact hs2
  refine Keeps.forEach hs1 (fun q0 q1 hq => ?_)
  split
  · exact hq
  · extract_lets c per im image s2 z s3
    have hs2 : Keeps s s2 := hq.setCell
    have hs3 : Keeps s s3 := hs2.setCell
    split
    · exact hs3.setLst
    · exact hs3

theorem Keeps.lnkReset {f : ℕ} (h : Keeps s t) : Keeps s (lnkReset t f) := by
  unfold Machine.lnkReset
  refine Keeps.forEach (Keeps.forEach h.headerReset.resetWords fun _ _ hq => ?_) fun _ _ hq => hq.resetWords.setPort
  exact hq.setPairs fun i => twf_tset i _ _

theorem Keeps.lnkResetEnd {f : ℕ} (h : Keeps s t) : Keeps s (lnkResetEnd t f) := by
  unfold Machine.lnkResetEnd
  refine Keeps.forEach h (fun q0 q1 hq => ?_)
  extract_lets l b s1
  have hs1 : Keeps s s1 := hq.showSig
  split
  · split
    · split
      · exact hs1.wr.startExchange
      · exact hs1.wr
    · exact hs1.wr
  · exact hs1

/-! ### Trips -/

theorem Keeps.tripDrive {f : ℕ} {cfg : Word} (h : Keeps s t) : Keeps s (tripDrive t f cfg) := by
  unfold Machine.tripDrive
  extract_lets so x s1 s2 s3 s4 lvl
  have hs1 : Keeps s s1 := by
    unfold s1
    split
    · exact h.bump.wr
    · exact h
  have hs2 : Keeps s s2 := hs1.setTrip
  have hs3 : Keeps s s3 := by
    unfold s3
    split
    · exact hs2.wr.wr
    · exact hs2
  have hs4 : Keeps s s4 := hs3.wrb
  split
  · exact hs4
  · exact hs4.wrb.wr.bump

theorem Keeps.tripNow {f : ℕ} (h : Keeps s t) : Keeps s (tripNow t f) := h.tripDrive

theorem Keeps.tripShow {f : ℕ} {n : ℕ} {ipol : ℕ} {dom : ℕ} {res : Option (List Word)} (h : Keeps s t) :
    Keeps s (tripShow t f n ipol dom res) := by
  unfold Machine.tripShow
  extract_lets cfg x act s1
  have hs1 : Keeps s s1 := h.setTrip
  split
  · exact h
  · exact hs1.wrb.wr.tripDrive

theorem Keeps.tripEnter {f : ℕ} (h : Keeps s t) : Keeps s (tripEnter t f) := h.setTrip.tripNow

theorem Keeps.showPoint {fn : ℕ} {point : ℕ} {n : ℕ} {res : Option (List Word)} (h : Keeps s t) : Keeps s (showPoint t fn point n res) := by
  unfold Machine.showPoint
  split
  · exact h
  · extract_lets d
    refine Keeps.forEach h (fun q0 q1 hq => ?_)
    split
    · exact hq.tripShow
    · exact hq.pubShow

theorem Keeps.signoffFerrule {f : ℕ} (h : Keeps s t) : Keeps s (signoffFerrule t f) := h.tripEnter.forEach fun _ _ hq => hq.pubSignoffNow

theorem Keeps.signoffAll (h : Keeps s t) :
    Keeps s (signoffAll t) := (h.forEach fun _ _ hq => hq.tripEnter).forEach fun _ _ hq => hq.pubSignoffNow

theorem Keeps.schedCancel {f : ℕ} (h : Keeps s t) : Keeps s (schedCancel t f) := by
  unfold Machine.schedCancel
  split
  · exact h.wr.bump.wr.pageErr
  · exact h

theorem Keeps.schtWrite {f : ℕ} {value : Word} (h : Keeps s t) : Keeps s (schtWrite t f value) := by
  unfold Machine.schtWrite
  split
  · exact h.ignored
  · exact h.wr

theorem Keeps.schlWrite {f : ℕ} {value : Word} (h : Keeps s t) : Keeps s (schlWrite t f value) := by
  unfold Machine.schlWrite
  extract_lets pend sarm scan s1 ok s2
  have hs1 : Keeps s s1 := by
    unfold s1
    split
    · exact h
    · exact h.wr
  have hs2 : Keeps s s2 := by
    unfold s2
    split
    · exact hs1.schedCancel
    · exact hs1
  split
  · split
    · exact hs2.wr
    · exact hs2.ignored
  · split
    · exact hs2.ignored
    · exact hs2

theorem Keeps.biHead {f : ℕ} (h : Keeps s t) : Keeps s (biHead t f) := by
  unfold Machine.biHead
  extract_lets q s1
  have hs1 : Keeps s s1 := h.wr
  clear_value q
  split
  · exact hs1.wr.wrb.wr.wrb
  · exact hs1.wr.wr.wr.wr

theorem Keeps.biAccept {f : ℕ} (h : Keeps s t) : Keeps s (biAccept t f) := by
  unfold Machine.biAccept
  extract_lets x lvl s1
  have hs1 : Keeps s s1 := h.wrb
  split
  · exact hs1.setTrip.wr.biHead
  · exact hs1.setTrip.bump.wr

theorem Keeps.biSample {f : ℕ} (h : Keeps s t) : Keeps s (biSample t f) := by
  unfold Machine.biSample
  split
  · extract_lets raw z s1
    have hs1 : Keeps s s1 := by
      unfold s1
      split
      · exact h
      · exact h.wrb.setTrip
    split
    · exact hs1.biAccept
    · exact hs1
  · exact h

theorem Keeps.biPop {f : ℕ} (h : Keeps s t) : Keeps s (biPop t f) := h.setTrip.biHead

theorem Keeps.biReset {f : ℕ} (h : Keeps s t) : Keeps s (biReset t f) := h.wr.wr.setTrip.biHead

theorem Keeps.biResetEnd {f : ℕ} (h : Keeps s t) : Keeps s (biResetEnd t f) := h.wrb.setTrip.biSample

theorem Keeps.setOwner {fn : ℕ} {own : Bool} (h : Keeps s t) : Keeps s (setOwner t fn own) := by
  unfold Machine.setOwner
  extract_lets v d
  refine Keeps.forEach h (fun q0 q1 hq => ?_)
  split
  · exact hq.setTrip
  · exact hq.setPub

theorem Keeps.setPstate {fn : ℕ} {held : Bool} (h : Keeps s t) : Keeps s (setPstate t fn held) := by
  unfold Machine.setPstate
  refine Keeps.forEach h (fun q0 q1 hq => ?_)
  extract_lets p
  split
  · exact hq
  · exact hq.wr.wr

theorem Keeps.openTargets {d : ℕ} {n : ℕ} (h : Keeps s t) : Keeps s (openTargets t d n) := by
  unfold Machine.openTargets
  extract_lets off s1
  have hs1 : Keeps s s1 := by
    unfold s1
    refine Keeps.forEach h (fun q0 q1 hq => ?_)
    extract_lets o z
    split
    · split
      · exact hq.setTrip.tripEnter
      · exact hq
    · exact hq
  refine Keeps.forEach hs1 (fun q0 q1 hq => ?_)
  extract_lets o lane z s2
  have hs2 : Keeps s s2 := hq.setPub
  split
  · exact hs2.pubEnter.pubSignoff
  · exact hq

/-! ### Egress -/

theorem Keeps.setDecided {fn : ℕ} {point : ℕ} {stroke : ℕ} (h : Keeps s t) : Keeps s (setDecided t fn point stroke) := h.withRul

theorem Keeps.shadowNote {fn : ℕ} {twin : ℕ} {point : ℕ} {ok : Bool} (h : Keeps s t) : Keeps s (shadowNote t fn twin point ok) := by
  unfold Machine.shadowNote
  extract_lets x
  split
  · split
    · exact h
    · split
      · extract_lets m all s1
        have hs1 : Keeps s s1 := h.setFn
        split
        · exact hs1.rulEvent
        · exact hs1
      · exact h.setFn.rulEvent
  · exact h

theorem Keeps.shadowSettle {fn : ℕ} {point : ℕ} (h : Keeps s t) : Keeps s (shadowSettle t fn point) := by
  unfold Machine.shadowSettle
  split
  · extract_lets twin here same res
    split
    · split
      · exact h.shadowNote.shadowNote
      · exact h
    · split
      · exact h.forEach fun _ _ hq => hq.shadowNote
      · exact h
  · exact h

theorem Keeps.usePoint {fn : ℕ} {point : ℕ} {stroke : ℕ} {res : Option (List Word × Word)} (h : Keeps s t) :
    Keeps s (usePoint t fn point stroke res) := by
  unfold Machine.usePoint
  extract_lets x s1 skipped u z s2 words gs z1 s3
  have hs1 : Keeps s s1 := h.setDecided
  have hs2 : Keeps s s2 := by
    unfold s2
    split
    · split
      · exact hs1.withRul.shadowSettle
      · exact hs1
    · exact hs1
  have hs3 : Keeps s s3 := by
    unfold s3
    split
    · exact hs2.withRul
    · exact hs2
  split
  · exact hs2
  · exact hs3.showPoint

theorem Keeps.twinDecide {fn : ℕ} {point : ℕ} {stroke : ℕ} (h : Keeps s t) : Keeps s (twinDecide t fn point stroke) := by
  unfold Machine.twinDecide
  extract_lets x a b ok same tws ind used dig odig cA cB
  split
  next x1 fb s1 e =>
    have hq := h.free.snd e
    split
    next x2 fb1 s2 e1 =>
      have hq1 := hq.free.snd e1
      extract_lets s3 z s4 z1 s5 s6 s7 s8
      have hs3 : Keeps s s3 := hq1.ledgerWrite
      have hs4 : Keeps s s4 := hs3.withRul
      have hs5 : Keeps s s5 := hs4.withRul
      have hs6 : Keeps s s6 := by
        unfold s6
        split
        · exact hs5.bump
        · exact hs5
      have hs7 : Keeps s s7 := hs6.noteRec
      have hs8 : Keeps s s8 := by
        unfold s8
        split
        · split
          · exact hs7.rulEvent
          · exact hs7
        · exact hs4
      exact hs8.usePoint

theorem Keeps.compareDeadline {fn : ℕ} {point : ℕ} {stroke : ℕ} (h : Keeps s t) :
    Keeps s (compareDeadline t fn point stroke) := h.wr.pageErr.twinDecide

theorem Keeps.deadlineLost {fn : ℕ} {point : ℕ} {stroke : ℕ} (h : Keeps s t) : Keeps s (deadlineLost t fn point stroke) := by
  unfold Machine.deadlineLost
  split
  · extract_lets s1 z
    have hs1 : Keeps s s1 := h.setDecided
    split
    · exact hs1.withRul
    · exact hs1
  · exact h

theorem Keeps.passDeadline {fn : ℕ} {point : ℕ} {stroke : ℕ} {slack : ℕ} (h : Keeps s t) :
    Keeps s (passDeadline t fn point stroke slack) := by
  unfold Machine.passDeadline
  split
  · split
    · exact h.compareDeadline
    · exact h.usePoint
  · exact h

theorem Keeps.deliver {m : OutMsg} (h : Keeps s t) : Keeps s (deliver t m) := by
  unfold Machine.deliver
  extract_lets s1 x z s2
  have hs1 : Keeps s s1 := h.passDeadline
  have hs2 : Keeps s s2 := hs1.withRul
  split
  · exact hs1
  · split
    · exact hs1.bump
    · split
      · split
        · exact hs1
        · exact hs1.usePoint
      · split
        · exact hs2.twinDecide
        · exact hs2

theorem Keeps.arrive {fn : ℕ} {twin : ℕ} {point : ℕ} {stroke : ℕ} {err : Bool} (h : Keeps s t) :
    Keeps s (arrive t fn twin point stroke err) := by
  unfold Machine.arrive
  extract_lets is z
  split
  · exact h.withRul.deliver
  · exact h

theorem Keeps.takeDecision {fn : ℕ} {twin : ℕ} {stroke : ℕ} {cA : Bool} {cB : Bool} (h : Keeps s t) :
    Keeps s (takeDecision t fn twin stroke cA cB) := by
  unfold Machine.takeDecision
  extract_lets c x b
  split
  · exact h
  · split
    · split
      · exact h.setFn.applyDecision
      · split
        · exact h.setFn
        · exact h
    · split
      · exact h.setFn.applyDecision
      · split
        · exact h.setFn
        · exact h

/-! ### Place -/

theorem Keeps.zeroInks {f : ℕ} {a : ℕ} {n : ℕ} (h : Keeps s t) : Keeps s (zeroInks t f a n) := h.setInkwell fun i => twf_filter i _

theorem Keeps.setPlace {i : ℕ} {twin : ℕ} {p : Place} (h : Keeps s t) : Keeps s (setPlace t i twin p) := h.setFn

theorem Keeps.refreshFer {f : ℕ} (h : Keeps s t) : Keeps s (refreshFer t f) := by
  unfold Machine.refreshFer
  extract_lets here s1
  have hs1 : Keeps s s1 := by
    unfold s1
    refine Keeps.forEach h (fun q0 q1 hq => ?_)
    extract_lets on nst s2 s3
    have hs2 : Keeps s s2 := by
      unfold s2
      split
      · exact hq.wr
      · exact hq
    have hs3 : Keeps s s3 := hs2.wr
    clear_value on
    split
    · exact hs3.wr
    · exact hs3.wr
  exact hs1.wr.wr

theorem Keeps.slotFill {i : ℕ} {p : Place} (h : Keeps s t) : Keeps s (slotFill t i p) := h.setWord.wr.wr.wrb.wrb.wr.wr

theorem Keeps.slotClear {p : Place} (h : Keeps s t) : Keeps s (slotClear t p) := h.setWord

theorem Keeps.allot {i twin f : Nat} {named : Option Nat} {q : State} (h : Keeps s t) (e : allot t i twin f named = .ok q) : Keeps s q := by
  unfold Machine.allot at e
  extract_lets d pairs busy sizes r at e
  clear_value r pairs
  split at e
  · cases e
  · split at e
    · extract_lets p u v w at e
      have hu : Keeps s u := h.foldl fun _ _ hq => hq.zeroInks
      have hw : Keeps s w := hu.seedState.setInks
      clear_value w
      cases e
      exact hw.setPlace.slotFill.refreshFer.wakeFerrule
    · cases e

theorem Keeps.allotRing {f sub hist : Nat} {q : State} (h : Keeps s t) (e : allotRing t f sub hist = some q) : Keeps s q := by
  unfold Machine.allotRing at e
  extract_lets r need w old u at e
  have hu : Keeps s u := h.setRing
  clear_value u old
  split at e
  · cases e; exact h
  · obtain ⟨a, _, rfl⟩ := Option.map_eq_some_iff.1 e
    exact hu.zeroInks.setRing

theorem Keeps.carryFrame {f : ℕ} {r : Ring} {o : ℕ × ℕ × ℕ} {k : ℕ} (h : Keeps s t) : Keeps s (carryFrame t f r o k) := by
  unfold Machine.carryFrame
  extract_lets a h1
  split
  · exact h
  · exact h.setInks

theorem Keeps.ringChange {f : ℕ} {sub : ℕ} (h : Keeps s t) : Keeps s (ringChange t f sub) := by
  unfold Machine.ringChange
  extract_lets r
  split
  · exact (h.forEach fun _ _ hq => hq.carryFrame).setRing
  · exact h

theorem Keeps.ringsChange {i : ℕ} {f : ℕ} (h : Keeps s t) : Keeps s (ringsChange t i f) := h.forEach fun _ _ hq => hq.ringChange

theorem Keeps.ringSweep {f : ℕ} (h : Keeps s t) : Keeps s (ringSweep t f) := h.withRul

theorem Keeps.planSample {sub : Nat} {q : State} (h : Keeps s t) (e : planSample t sub = some q) : Keeps s q := by
  unfold Machine.planSample at e
  extract_lets src want now have' at e
  split at e
  · cases e; exact h
  · obtain ⟨fl, _, rfl⟩ := Option.map_eq_some_iff.1 e
    exact h.setFlows

theorem Keeps.planFn {i : Nat} {q : State} (h : Keeps s t) (e : planFn t i = some q) : Keeps s q := by
  unfold Machine.planFn at e
  extract_lets x shadow new add pts s1 gs s2 at e
  have hadd : ∀ r k tw src d w, (∀ q, r = some q → Keeps s q) → ∀ q, add r k tw src d w = some q → Keeps s q := by
    intro r k tw src d w hr q hq
    obtain ⟨u, hu, hq⟩ := Option.bind_eq_some_iff.1 hq
    obtain ⟨fl, _, rfl⟩ := Option.map_eq_some_iff.1 hq
    exact (hr u hu).setFlows
  have hs1 : ∀ q, s1 = some q → Keeps s q :=
    foldl_keeps (P := fun r : Option State => ∀ q, r = some q → Keeps s q) (fun q hq => Option.some.inj hq ▸ h)
      fun r _ hr => foldl_keeps (P := fun r : Option State => ∀ q, r = some q → Keeps s q) hr fun _ _ hr => hadd _ _ _ _ _ _ hr
  clear_value add s1
  split at e
  · refine hadd _ _ _ _ _ _ ?_ q e
    refine foldl_keeps (P := fun r : Option State => ∀ q, r = some q → Keeps s q) hs1 fun r g hr u hu => ?_
    obtain ⟨v, hv, hu⟩ := Option.bind_eq_some_iff.1 hu
    split at hu
    · cases hu; exact hr _ hv
    · exact hadd _ _ _ _ _ _ (fun q hq => Option.some.inj hq ▸ hr _ hv) u hu
  · exact hs1 q e

theorem Keeps.tryPlaces {i : Nat} {crit : Bool} {news : List (Nat × Nat × Option Nat)} {q : State} (h : Keeps s t)
    (e : tryPlaces t i crit news = .ok q) :
    Keeps s q := by
  unfold Machine.tryPlaces at e
  extract_lets x r at e
  have hr : ∀ q, r = .ok q → Keeps s q := by
    refine foldl_keeps (P := fun r : Except Nat State => ∀ q, r = .ok q → Keeps s q) (fun q hq => Except.ok.inj hq ▸ h) fun r a hr u hu => ?_
    split at hu
    · exact (hr _ rfl).allot hu
    · cases hu
  clear_value r
  split at e
  · cases e
  · next s1 =>
    extract_lets s2 at e
    have hs2 : ∀ q, s2 = some q → Keeps s q := by
      refine foldl_keeps (P := fun r : Option State => ∀ q, r = some q → Keeps s q) (fun q hq => Option.some.inj hq ▸ hr _ rfl) fun r a hr => ?_
      refine foldl_keeps (P := fun r : Option State => ∀ q, r = some q → Keeps s q) hr fun r b hr u hu => ?_
      obtain ⟨v, hv, hu⟩ := Option.bind_eq_some_iff.1 hu
      exact (hr v hv).allotRing hu
    clear_value s2
    split at e
    · cases e
    · next u =>
      split at e
      · cases e
      · split at e
        · cases e
        · next s3 h3 =>
          have hs3 : Keeps s s3 := by
            obtain ⟨v, hv, h3⟩ := Option.bind_eq_some_iff.1 h3
            refine Keeps.planFn ?_ h3
            refine foldl_keeps (P := fun r : Option State => ∀ q, r = some q → Keeps s q) (fun q hq => Option.some.inj hq ▸ hs2 u rfl)
              (fun r b hr w hw => ?_) v hv
            obtain ⟨y, hy, hw⟩ := Option.bind_eq_some_iff.1 hw
            exact (hr y hy).planSample hw
          split at e
          · cases e
          · cases e; exact hs3

theorem Keeps.firstPass {i : Nat} {crit : Bool} {l : List (List (Nat × Nat × Option Nat))} {r : Nat} {q : State} (h : Keeps s t)
    (e : firstPass t i crit l r = .ok q) :
    Keeps s q := by
  induction l generalizing r with
  | nil => cases e
  | cons c l ih =>
    unfold Machine.firstPass at e
    split at e
    next hu => cases e; exact h.tryPlaces hu
    · exact ih e

theorem Keeps.placeSearch {i twins : Nat} {crit : Bool} {q : State} (h : Keeps s t) (e : placeSearch t i twins crit = .ok q) :
    Keeps s q := by
  unfold Machine.placeSearch at e
  extract_lets x fs cost one pairs stay l at e
  have hone : ∀ tw l, one tw l = .ok q → Keeps s q := fun _ _ hq => h.firstPass hq
  clear_value one
  split at e
  · split at e
    · cases e
    · exact hone _ _ e
  · split at e
    · split at e
      · cases e
      · split at e
        · cases e
        · exact h.firstPass e
    · split at e
      · cases e
      · split at e
        · cases e
        · exact hone _ _ e

theorem Keeps.setView {i : ℕ} {ten : ℕ} (h : Keeps s t) :
    Keeps s (setView t i ten) := h.wr.wr.wrb.wrb.wr.wr.wr.wr.wr.wr.wr.wr.wr.wr.wr.wr.wr.wr.wr.wr.wr.wr.wr.wr

theorem Keeps.setSubView {b : ℕ} (h : Keeps s t) : Keeps s (setSubView t b) := by
  unfold Machine.setSubView
  extract_lets cons clos s1 s2 s3
  have hs1 : Keeps s s1 := h.wr.wrb
  have hs2 : Keeps s s2 := hs1.wr
  have hs3 : Keeps s s3 := by
    unfold s3
    split
    · exact hs2.wr.wr.wr.wr
    · exact hs2.wr.wr.wr.wr
  split
  · exact hs3.setSstate
  · exact hs3

theorem Keeps.refreshAll {subs : List ℕ} (h : Keeps s t) :
    Keeps s (refreshAll t subs) := ((h.forEach fun _ _ hq => hq.setView.setEdl).forEach fun _ _ hq => hq.setSubView).wr

theorem Keeps.dropPlace {p : Place} (h : Keeps s t) : Keeps s (dropPlace t p) := h.slotClear.refreshFer.ringSweep

theorem Keeps.dropFlows {i : ℕ} {kinds : List ℕ} {twins : List ℕ} (h : Keeps s t) : Keeps s (dropFlows t i kinds twins) := h.setFlows

theorem Keeps.sampleSweep {subs : List ℕ} (h : Keeps s t) : Keeps s (sampleSweep t subs) := h.setFlows

/-! ### Ruler -/

theorem Keeps.histAll {ws : List Word} (h : Keeps s t) : Keeps s (histAll t ws) := h.setWord.wrapInc

theorem Keeps.histCmd {ws : List Word} (h : Keeps s t) : Keeps s (histCmd t ws) := h.setWord.histAll

theorem Keeps.rulError {bit : Fld} {code : ℕ} {i : ℕ} (h : Keeps s t) : Keeps s (rulError t bit code i) := h.wr.pageErr

theorem Keeps.countFns {t1 : ℕ} (h : Keeps s t) : Keeps s (countFns t t1) := h.wr

theorem Keeps.dropMessages {i : ℕ} (h : Keeps s t) : Keeps s (dropMessages t i) := by
  unfold Machine.dropMessages
  extract_lets r
  exact h.withRul

theorem Keeps.fnFree {i : ℕ} (h : Keeps s t) : Keeps s (fnFree t i) := by
  unfold Machine.fnFree
  extract_lets x ten ps s1 s2 s3 z s4 s5 s6
  have hs1 : Keeps s s1 := h.setOwner.setPstate
  have hs2 : Keeps s s2 := hs1.dropFlows.dropMessages
  have hs3 : Keeps s s3 := hs2.resetWords.setFn
  have hs4 : Keeps s s4 := hs3.withRul
  have hs5 : Keeps s s5 := hs4.foldl fun _ _ hq => hq.dropPlace
  have hs6 : Keeps s s6 := hs5.foldl fun _ _ hq => hq.setFerrule
  exact hs6.bumpGen.sampleSweep.refreshAll.countFns

theorem Keeps.dropNibTest {f : ℕ} {n : ℕ} (h : Keeps s t) : Keeps s (dropNibTest t f n) := by
  unfold Machine.dropNibTest
  split
  · exact h.wr.wr.wr
  · exact h

theorem Keeps.useSpare {f : ℕ} {n : ℕ} (h : Keeps s t) : Keeps s (useSpare t f n) := by
  unfold Machine.useSpare
  extract_lets s1 s2
  have hs1 : Keeps s s1 := h.dropNibTest
  have hs2 : Keeps s s2 := hs1.wr
  refine Keeps.refreshFer ?_
  split
  · exact hs2.wr
  · exact hs2

theorem Keeps.leaveService {f : ℕ} {n : ℕ} (h : Keeps s t) : Keeps s (leaveService t f n).1 := by
  unfold Machine.leaveService
  extract_lets was s1
  have hs1 : Keeps s s1 := h.wr.wr
  split
  · split
    · dsimp only
      exact hs1.useSpare
    · exact hs1
  · exact hs1

theorem Keeps.enterService {f : ℕ} {n : ℕ} (h : Keeps s t) : Keeps s (enterService t f n) := by
  unfold Machine.enterService
  extract_lets few s1 s2
  have hs1 : Keeps s s1 := h.setBit.wr.wr
  have hs2 : Keeps s s2 := by
    unfold s2
    split
    · exact hs1.setBit
    · exact hs1
  exact hs2.wr.refreshFer

theorem Keeps.cancelMove {i : ℕ} (h : Keeps s t) : Keeps s (cancelMove t i) := by
  unfold Machine.cancelMove
  extract_lets x
  split
  · extract_lets new s1 r s2 z s3
    have hs1 : Keeps s s1 := h.dropFlows
    have hs2 : Keeps s s2 := hs1.withRul
    have hs3 : Keeps s s3 := hs2.setFn.wr
    exact (hs3.foldl fun _ _ hq => hq.dropPlace).sampleSweep.refreshAll
  · exact h

theorem Keeps.setNoProof {i : ℕ} {b : Bool} (h : Keeps s t) : Keeps s (setNoProof t i b) := by
  unfold Machine.setNoProof
  extract_lets was s1
  have hs1 : Keeps s s1 := h.wrb
  split
  · exact hs1.rulError
  · exact hs1

theorem Keeps.moveSpares {i : Nat} {twins : List Nat} {q : State} {l : List (Nat × Nat × Option Nat)} (h : Keeps s t)
    (e : moveSpares t i twins = some (q, l)) :
    Keeps s q := by
  unfold Machine.moveSpares at e
  refine foldl_keeps (P := fun r : Option (State × List (Nat × Nat × Option Nat)) => ∀ p, r = some p → Keeps s p.1)
    (fun p hp => Option.some.inj hp ▸ h) (fun r a hr p hp => ?_) (q, l) e
  obtain ⟨v, hv, hp⟩ := Option.bind_eq_some_iff.1 hp
  obtain ⟨m, _, rfl⟩ := Option.map_eq_some_iff.1 hp
  exact (hr v hv).useSpare

theorem Keeps.startMove {i : Nat} {m : Move} {first : Option (State × List (Nat × Nat × Option Nat))} {q : State} (h : Keeps s t)
    (hf : ∀ q l, first = some (q, l) → Keeps s q) (e : startMove t i m first = some q) :
    Keeps s q := by
  unfold Machine.startMove at e
  extract_lets x begin' crit search done at e
  have hbegin : ∀ u, Keeps s u → Keeps s (begin' u) := fun _ hu => hu.setFn
  have hdone : ∀ u, Keeps s u → Keeps s (done u) := fun _ hu => hu.wr.refreshAll
  have hsearch : ∀ c u, search c = .ok u → Keeps s u := by
    intro c u hu
    unfold search at hu
    split at hu
    next hv =>
      cases hu
      obtain ⟨p, hp, hv⟩ := Option.map_eq_some_iff.1 hv
      exact (hbegin _ (hf p.1 p.2 hp)).tryPlaces hv
    · exact (hbegin _ h).placeSearch hu
  clear_value begin' search done
  split at e
  next hu => cases e; exact hdone _ (hsearch _ _ hu).setNoProof
  · split at e
    · split at e
      next hu => cases e; exact hdone _ (hsearch _ _ hu).setNoProof
      · cases e
    · cases e

theorem Keeps.toTransit {i : ℕ} {ws : List Word} (h : Keeps s t) :
    Keeps s (toTransit t i ws) :=
  (h.setOwner.dropFlows.dropMessages.wr.setFn.foldl fun _ _ hq => hq.dropPlace).sampleSweep.refreshAll.wr.rulError

theorem Keeps.startMove_getD {i : Nat} {m : Move} {first : Option (State × List (Nat × Nat × Option Nat))} (h : Keeps s t)
    (hf : ∀ q l, first = some (q, l) → Keeps s q) :
    Keeps s ((Machine.startMove t i m first).getD t) :=
  h.getD fun _ e => h.startMove hf e

theorem Keeps.startMove_none {i : Nat} {m : Move} (h : Keeps s t) : Keeps s ((Machine.startMove t i m none).getD t) :=
  h.getD fun _ e => h.startMove (fun _ _ e => by cases e) e

theorem Keeps.replace {i : ℕ} (h : Keeps s t) : Keeps s (replace t i) := h.startMove_none

theorem Keeps.slicePlace {i : ℕ} (h : Keeps s t) : Keeps s (slicePlace t i) := by
  unfold Machine.slicePlace
  split
  · split
    next e => exact h.startMove (fun _ _ e => by cases e) e
    · split
      · exact h
      · exact h.wr.rulError
  · exact h.wr

theorem Keeps.retryOne {i : ℕ} (h : Keeps s t) : Keeps s (retryOne t i) := by
  unfold Machine.retryOne
  extract_lets x gone st
  have hst : Keeps s st := h.setFn
  clear_value st gone
  split
  · split
    · exact h.replace
    · exact h
  · split
    · split
      · exact h.startMove_none
      · split
        · exact h.slicePlace
        · split
          · split
            · exact h.setNoProof
            · split
              next e => exact (hst.placeSearch e).setNoProof.wr.refreshAll
              · exact h
          · exact h
    · exact h

theorem Keeps.afterEvent (h : Keeps s t) : Keeps s (afterEvent t) := (h.forEach fun _ _ hq => hq.retryOne).rulBusy

theorem Keeps.loseTwin {i : ℕ} {twin : ℕ} {spares : Bool} (h : Keeps s t) : Keeps s (loseTwin t i twin spares) := by
  unfold Machine.loseTwin
  extract_lets x u first
  have hu : Keeps s u := h.setFn
  have hf : ∀ q l, first = some (q, l) → Keeps s q := by
    intro q l e
    unfold first at e
    split at e
    · exact hu.moveSpares e
    · cases e
  clear_value u first
  exact hu.startMove_getD hf

theorem Keeps.evict {i : ℕ} {f : ℕ} {n : ℕ} {gone : Bool} (h : Keeps s t) : Keeps s (evict t i f n gone) := by
  unfold Machine.evict
  extract_lets x on newOn ps u m w
  have hu : Keeps s u := h.setFn.dropFlows
  have hw : Keeps s w := h.cancelMove
  clear_value newOn on u w m
  split
  · split
    · exact hu.foldl fun _ _ hq => hq.dropPlace
    · exact h
  · split
    · exact hw.startMove_none
    · split
      · exact h.toTransit.replace
      · split
        · split
          · exact hw.loseTwin
          · split
            · exact h.toTransit.replace
            · exact h
        · split
          · exact h.startMove_none
          · exact h

theorem Keeps.nibFails {f : ℕ} {n : ℕ} (h : Keeps s t) : Keeps s (nibFails t f n) := by
  unfold Machine.nibFails
  extract_lets s1
  have hs1 : Keeps s s1 := h.setBit
  split
  next x s2 spare e =>
    have hq := hs1.leaveService.fst e
    extract_lets s3 z
    have hs3 : Keeps s s3 := hq.histAll
    split
    · split
      · exact hs3
      · exact hs3.withRul
    · exact hs3.forEach fun _ _ hq1 => hq1.evict

theorem Keeps.popEvent (h : Keeps s t) : Keeps s (popEvent t) := h.withRul

theorem Keeps.twinRuling {i : ℕ} {tws : ℕ} (h : Keeps s t) : Keeps s (twinRuling t i tws) := by
  unfold Machine.twinRuling
  extract_lets u x
  have hu : Keeps s u := h.histAll
  clear_value u
  split
  · split
    · exact hu.loseTwin
    · split
      · exact hu.loseTwin
      · exact hu.startMove_getD fun _ _ e => hu.moveSpares e
  · exact hu

theorem Keeps.shadowRuling {i : ℕ} {agree : Bool} (h : Keeps s t) : Keeps s (shadowRuling t i agree) := by
  unfold Machine.shadowRuling
  extract_lets u x v nr w
  have hu : Keeps s u := h.histAll
  have hv : Keeps s v := hu.rulError
  have hw : Keeps s w := hv.cancelMove
  clear_value w v u
  split
  · split
    · exact hu
    · extract_lets bad y
      have hy : Keeps s y := hw.forEach fun _ _ hq => hq.wr.nibFails
      clear_value y
      split
      · exact hv.setFn
      · split
        · exact hy.startMove_none
        · exact hy
  · exact hu

theorem Keeps.endCmd {status : ℕ} {reason : ℕ} {rhandle : ℕ} (h : Keeps s t) : Keeps s (endCmd t status reason rhandle) := by
  unfold Machine.endCmd
  refine Keeps.rulBusy ?_
  extract_lets z z1
  have hz : Keeps s z := h.complete
  exact hz.withRul

theorem Keeps.logCmd {c : RulCmd} {i : ℕ} {words : List Word} (h : Keeps s t) : Keeps s (logCmd t c i words) := by
  unfold Machine.logCmd
  extract_lets t1
  exact h.withTens

theorem Keeps.createFn {c : RulCmd} {d : Descr} (h : Keeps s t) : Keeps s (createFn t c d) := by
  unfold Machine.createFn
  split
  · exact h.endCmd
  · extract_lets i s1
    have hs1 : Keeps s s1 := h.setFn.wr.wr
    split
    · exact h.endCmd
    next r s11 e =>
      have hq := hs1.placeSearch e
      exact hq.refreshAll.countFns.setPstate.logCmd.endCmd

theorem Keeps.updateFn {c : RulCmd} {d : Descr} (h : Keeps s t) : Keeps s (updateFn t c d) := by
  unfold Machine.updateFn
  extract_lets x z
  split
  · exact h.endCmd
  · split
    · exact h.endCmd
    · exact h.setFn.logCmd.endCmd

theorem Keeps.destroyFn {i : ℕ} (h : Keeps s t) : Keeps s (destroyFn t i) := by
  unfold Machine.destroyFn
  extract_lets s1 d z
  have hs1 : Keeps s s1 := h.cancelMove
  split
  · exact hs1.setFn
  · exact hs1.fnFree

theorem Keeps.nibOut {f : ℕ} {n : ℕ} (h : Keeps s t) : Keeps s (nibOut t f n) := by
  unfold Machine.nibOut
  extract_lets u
  have hu : Keeps s u := h.setBit
  clear_value u
  split
  next v spare e =>
    have hv : Keeps s v := hu.leaveService.fst e
    refine Keeps.refreshFer (hv.histAll.forEach fun q i hq => ?_)
    extract_lets x tw first
    split
    · refine hq.startMove_getD fun r l e => ?_
      obtain ⟨m, _, e⟩ := Option.map_eq_some_iff.1 e
      cases e; exact hq
    · exact hq.evict

theorem Keeps.startCmd {c : RulCmd} (h : Keeps s t) : Keeps s (startCmd t c) := by
  unfold Machine.startCmd
  extract_lets z s1 names s2 i f n inService x m
  have hs1 : Keeps s s1 := h.withRul
  have hs2 : Keeps s s2 := hs1.histCmd
  split
  · exact hs1.wakeFerrule
  · refine Keeps.afterEvent ?_
    split
    · exact hs2.endCmd
    · split
      · exact hs2.logCmd.destroyFn.endCmd
      · split
        · split
          · exact hs2.endCmd
          · exact hs2.setFn.endCmd
        · split
          · exact hs2.endCmd
          · split
            · split
              · exact hs2.nibOut.endCmd
              · exact hs2.endCmd
            · split
              · exact hs2.enterService.histAll.endCmd
              · exact hs2.endCmd

theorem Keeps.rulDoorbell {init : ℕ} {seq : ℕ} {opc : ℕ} {handle : ℕ} (h : Keeps s t) : Keeps s (rulDoorbell t init seq opc handle) := by
  unfold Machine.rulDoorbell
  extract_lets late
  split
  next x s1 e =>
    have hq := h.doorbell.fst e
    exact hq
  next x s1 e =>
    have hq := h.doorbell.fst e
    extract_lets c z
    split
    · exact hq.startCmd
    · exact hq.withRul.rulEvent

/-! ### Strokes -/

theorem Keeps.domParamWrite {d : ℕ} {off : ℕ} {value : Word} (h : Keeps s t) : Keeps s (domParamWrite t d off value) := by
  unfold Machine.domParamWrite
  extract_lets page v
  split
  · exact h.ignored
  · split
    · split
      · exact h.ignored
      · exact h.wr.domSubsEval.forEach fun _ _ hq => hq.periodNow
    · split
      · split
        · exact h.ignored
        · exact h.wr.domSubsEval
      · split
        · split
          · exact h.ignored
          · exact h.wr
        · exact h

theorem Keeps.strokesForget {d : ℕ} (h : Keeps s t) : Keeps s (strokesForget t d) := by
  unfold Machine.strokesForget
  extract_lets other r z s1 s2 s3
  have hs1 : Keeps s s1 := h.beside
  have hs2 : Keeps s s2 := hs1.forEach fun _ _ hq => hq.setPub
  have hs3 : Keeps s s3 := hs2.forEach fun _ _ hq => hq.setTrip
  exact hs3.forEach fun _ _ hq => hq.setCell

theorem Keeps.domCtlWrite {d : ℕ} {start : Bool} {stop : Bool} (h : Keeps s t) : Keeps s (domCtlWrite t d start stop) := by
  unfold Machine.domCtlWrite
  extract_lets page n s1 z s2 z1 s3
  have hs1 : Keeps s s1 := h.strokesForget.wr.wr.wr
  have hs2 : Keeps s s2 := h.wr
  have hs3 : Keeps s s3 := hs2.withRul
  split
  · exact h.ignored
  · split
    · split
      · exact hs1.withRul
      · exact h.ignored
    · split
      · split
        · exact h.ignored
        · refine Keeps.forEach ?_ (fun _ _ hq => hq.periodNow)
          refine Keeps.domainsStopped ?_
          refine hs3.foldl fun q a hq => ?_
          split
          · split
            · exact hq.applySetpol
            · exact hq
          · exact hq
      · exact h

theorem Keeps.swapBank {p : Place} (h : Keeps s t) : Keeps s (swapBank t p) := h.wr

theorem Keeps.takeover {i : ℕ} {n : ℕ} (h : Keeps s t) : Keeps s (takeover t i n) := by
  unfold Machine.takeover
  extract_lets x was
  split
  · extract_lets ts old new s1 z s2 heal x1 s3 s4 s5 s6 s7 s8 s9 s10
    have hs1 : Keeps s s1 := h.dropFlows.dropFlows
    have hs2 : Keeps s s2 := by
      unfold s2
      split
      · exact hs1.withRul
      · exact h
    have hs3 : Keeps s s3 := hs2.setFn
    have hs4 : Keeps s s4 := hs3.foldl fun _ _ hq => hq.dropPlace
    have hs5 : Keeps s s5 := hs4.foldl fun _ _ hq => hq.swapBank
    have hs6 : Keeps s s6 := hs5.foldl fun _ _ hq => hq.refreshFer
    have hs7 : Keeps s s7 := hs6.wr.wr.wr.bump
    have hs8 : Keeps s s8 := hs7.wr
    have hs9 : Keeps s s9 := by
      unfold s9
      split
      · exact hs8
      · exact hs8.wr
    have hs10 : Keeps s s10 := by
      unfold s10
      split
      · exact hs9.setOwner
      · exact hs9
    exact hs10.sampleSweep.refreshAll
  · exact h

theorem Keeps.boundaryMove {i : ℕ} {n : ℕ} (h : Keeps s t) : Keeps s (boundaryMove t i n) := by
  unfold Machine.boundaryMove
  extract_lets x
  split
  · split
    · exact h
    · extract_lets new s1 seed pts
      have hs1 : Keeps s s1 := by
        unfold s1
        split
        · exact h.foldl fun _ _ hq => hq.ringsChange
        · exact h
      split
      · split
        · exact (hs1.foldl fun _ _ hq => hq.seedState).takeover
        · exact hs1
      · split
        · exact hs1.foldl fun _ _ hq => hq.seedState
        · split
          · split
            · exact hs1.takeover
            · split
              · exact hs1
              · exact hs1.setFn.rulEvent
          · exact hs1
  · exact h

theorem Keeps.boundaryFn {n : ℕ} {i : ℕ} (h : Keeps s t) : Keeps s (boundaryFn t n i) := by
  unfold Machine.boundaryFn
  extract_lets x fst now due ps s1 s2 s3 x1 s4 s5
  have hs1 : Keeps s s1 := h.foldl fun _ _ hq => hq.swapBank.ringsChange
  have hs2 : Keeps s s2 := hs1.wr.wr.setFn
  have hs3 : Keeps s s3 := by
    unfold s3
    split
    · split
      · exact h.setFn.foldl fun _ _ hq => hq.setInks.swapBank
      · exact h
    · exact h
  have hs4 : Keeps s s4 := by
    unfold s4
    split
    · exact hs3.setFn
    · exact hs3
  have hs5 : Keeps s s5 := hs4.boundaryMove
  split
  · exact h.fnFree
  · split
    · split
      · exact hs2.setOwner
      · exact h
    · split
      · exact hs5.bump
      · exact hs5

theorem Keeps.spareTakes {stroke : ℕ} {f : ℕ} {n : ℕ} {m : ℕ} (h : Keeps s t) :
    Keeps s (spareTakes t stroke f n m) :=
  ((h.forEach fun _ _ hq => hq.setWord.setWord).forEach fun _ _ hq => hq.setFn.wr.bump.wr).setNib.refreshFer.wr.refreshAll

theorem Keeps.spareTakeovers {d : ℕ} {n : ℕ} (h : Keeps s t) : Keeps s (spareTakeovers t d n) := by
  unfold Machine.spareTakeovers
  extract_lets due z s1
  have hs1 : Keeps s s1 := h.withRul
  exact hs1.forEach fun _ _ hq => hq.spareTakes

theorem Keeps.setFerDom {f : ℕ} {d : ℕ} {x : FerDom} (h : Keeps s t) : Keeps s (State.setFerDom t f d x) := h.withFerDoms

theorem Keeps.holdFn {i : ℕ} (h : Keeps s t) : Keeps s (holdFn t i) := by
  unfold Machine.holdFn
  extract_lets s1 x fst s2
  have hs1 : Keeps s s1 := h.cancelMove
  have hs2 : Keeps s s2 := hs1.setOwner
  split
  · exact hs1
  · exact hs2.setFn.wr

theorem Keeps.freezeDom {t1 : ℕ} {d : ℕ} (h : Keeps s t) : Keeps s (freezeDom t t1 d) := by
  unfold Machine.freezeDom
  extract_lets x s1
  have hs1 : Keeps s s1 := h.forEach fun _ _ hq => hq.holdFn
  split
  · exact h
  · split
    · exact h
    · exact hs1.withTens

theorem Keeps.ckptOf {i : ℕ} {n : ℕ} (h : Keeps s t) : Keeps s (ckptOf t i n) := h.setFn.checkpoint.setFn

theorem Keeps.resumeFn {i : ℕ} {n : ℕ} (h : Keeps s t) : Keeps s (resumeFn t i n) := by
  unfold Machine.resumeFn
  extract_lets x nd s1 z s2 s3
  have hs1 : Keeps s s1 := h.ckptOf
  have hs2 : Keeps s s2 := hs1.setFn
  have hs3 : Keeps s s3 := hs2.wr.wr.setOwner
  split
  · exact hs3.slicePlace
  · exact hs3

theorem Keeps.boundaryTenants {d : ℕ} {n : ℕ} (h : Keeps s t) : Keeps s (boundaryTenants t d n) := by
  unfold Machine.boundaryTenants
  extract_lets now s1
  have hs1 : Keeps s s1 := by
    unfold s1
    refine Keeps.forEach h (fun q0 q1 hq => ?_)
    split
    · split
      · exact hq.freezeDom
      · exact hq
    · exact hq
  refine Keeps.forEach hs1 (fun q0 q1 hq => ?_)
  extract_lets x
  split
  · split
    · exact hq.resumeFn
    · exact hq
  · exact hq

theorem Keeps.strokeOpen {d : ℕ} (h : Keeps s t) : Keeps s (strokeOpen t d) := by
  unfold Machine.strokeOpen
  extract_lets n s1 z s2 s3 s4 s5 s6 s7 s8 s9
  have hs1 : Keeps s s1 := h.wr
  have hs2 : Keeps s s2 := hs1.withRul
  have hs3 : Keeps s s3 := hs2.boundarySetpols
  have hs4 : Keeps s s4 := hs3.spareTakeovers.boundaryTenants
  have hs5 : Keeps s s5 := hs4.forEach fun _ _ hq => hq.boundaryFn
  have hs6 : Keeps s s6 := hs5.forEach fun _ _ hq => hq.setEdl
  have hs7 : Keeps s s7 := hs6.forEach fun _ _ hq => hq.subEval
  have hs8 : Keeps s s8 := hs7.cellBoundary
  have hs9 : Keeps s s9 := hs8.forEach fun _ _ hq => hq.cellJudge
  split
  · exact hs9.openTargets
  · exact h

theorem Keeps.putFrame {f : ℕ} {sub : ℕ} {n : ℕ} {head : Word} {ws : List Word} (h : Keeps s t) : Keeps s (putFrame t f sub n head ws) := by
  unfold Machine.putFrame
  extract_lets r put u
  have hput : ∀ q addr depth words, Keeps s q → Keeps s (put q addr depth words) := by
    intro q addr depth words hq
    unfold put
    split
    · exact hq
    · exact hq.setInks
  have hu : Keeps s u := hput _ _ _ _ h
  clear_value u put
  split
  · exact hput _ _ _ _ hu
  · exact hu

theorem Keeps.strokeHeader {c : RunCtx} {fd : FerDom} {n : ℕ} (h : Keeps s t) : Keeps s (strokeHeader t c fd n) := h.setInks

theorem Keeps.missDecision {c : RunCtx} (h : Keeps s t) : Keeps s (missDecision t c).1 := by
  unfold Machine.missDecision
  extract_lets w s1 z
  have hs1 : Keeps s s1 := h.settleState.wr
  split
  · exact h
  · dsimp only
    exact hs1.setFn

theorem Keeps.excuse {c : RunCtx} {n : ℕ} (h : Keeps s t) : Keeps s (excuse t c n) := h.withRul

theorem Keeps.closeFn {fd : FerDom} {n : ℕ} {c : RunCtx} (h : Keeps s t) : Keeps s (closeFn t fd n c).1 := by
  unfold Machine.closeFn
  extract_lets s1 nst lowest
  have hs1 : Keeps s s1 := h.strokeHeader
  split
  · dsimp only
    exact hs1.skipRun
  · split
    next x s2 ok e =>
      have hq := hs1.missDecision.fst e
      extract_lets s3 derr z s4 s5
      have hs3 : Keeps s s3 := by
        unfold s3
        split
        · exact hq
        · exact hq.closeSkips
      have hs4 : Keeps s s4 := by
        unfold s4
        split
        · exact hs3
        · exact hs3.setFn
      have hs5 : Keeps s s5 := hs4.derrRun
      split
      · dsimp only
        split
        · exact hs5.excuse
        · exact hs5
      · exact hs3

theorem Keeps.closeNow {f : ℕ} {d : ℕ} {n : ℕ} {atDl : Bool} (h : Keeps s t) : Keeps s (closeNow t f d n atDl) := by
  unfold Machine.closeNow
  extract_lets fd fs subs s1 s2 s3 r s4 s5
  have hs1 : Keeps s s1 := by
    unfold s1
    split
    · exact h.bump
    · exact h
  have hs2 : Keeps s s2 := by
    unfold s2
    split
    · exact hs1.trace
    · exact hs1
  have hs3 : Keeps s s3 := by
    unfold s3
    refine Keeps.forEach hs2 (fun q0 q1 hq => ?_)
    split
    · exact hq.putFrame
    · exact hq.putFrame
  have hr : Keeps s r.1 := by
    unfold r
    refine Keeps.foldlFst ?_ fun p a hq => ?_
    · exact hs3
    · extract_lets c shadowRun
      split
      · exact hq
      · split
        next x s6 ok e =>
          have hq1 := hq.closeFn.fst e
          exact hq1
  have hs4 : Keeps s s4 := by
    unfold s4
    refine Keeps.forEach hr (fun q0 q1 hq => ?_)
    extract_lets ks z
    split
    · exact hq
    · exact hq.setNib
  have hs5 : Keeps s s5 := hs4.setFerDom
  exact hs5.forEach fun _ _ hq => hq.cellJudge

theorem Keeps.closeSkipped {f : ℕ} {d : ℕ} {n : ℕ} (h : Keeps s t) :
    Keeps s (closeSkipped t f d n) := (h.forEach fun _ _ hq => hq.skipRun).setFerDom

theorem Keeps.strokeClose {f : ℕ} {d : ℕ} (h : Keeps s t) : Keeps s (strokeClose t f d) := by
  unfold Machine.strokeClose
  split
  · exact h
  · extract_lets fd dl now members times full inst
    split
    · exact h
    · split
      · exact h.closeSkipped
      · split
        · exact h
        · exact h.closeNow

/-! ### Blocks -/

theorem Keeps.dropSegTest {f : ℕ} {restore : Bool} (h : Keeps s t) : Keeps s (dropSegTest t f restore) := by
  unfold Machine.dropSegTest
  split
  · split
    · extract_lets z z1
      have hz : Keeps s z := h.wr
      exact hz.withBst
    · exact h.wr.wr
  · exact h

theorem Keeps.dropTests {f : ℕ} {restore : Bool} (h : Keeps s t) : Keeps s (dropTests t f restore) := h.dropSegTest.dropNibTest

theorem Keeps.endRestore {f : ℕ} (h : Keeps s t) : Keeps s (endRestore t f) := by
  unfold Machine.endRestore
  split
  · exact h.wr.wr
  · exact h

theorem Keeps.stopRuns {f : ℕ} (h : Keeps s t) : Keeps s (stopRuns t f) := by
  unfold Machine.stopRuns
  extract_lets s1
  have hs1 : Keeps s s1 := by
    unfold s1
    refine Keeps.forEach h (fun q0 q1 hq => ?_)
    extract_lets s2 nst s3
    have hs2 : Keeps s s2 := hq.skipNib
    have hs3 : Keeps s s3 := by
      unfold s3
      split
      · exact hs2.wr
      · exact hs2
    exact hs3.wr.setNib
  exact hs1.discardAll

theorem Keeps.ferWordsReset {f : ℕ} (h : Keeps s t) :
    Keeps s (ferWordsReset t f) :=
  (h.headerReset.resetWords.resetWords.resetWords.forEach fun _ _ hq => hq.wr).forEach fun _ _ hq => hq.wr.wr

theorem Keeps.routerReset {f : ℕ} (h : Keeps s t) : Keeps s (routerReset t f) := h.forEach fun _ _ hq => hq.wr.wr

theorem Keeps.ferClear {f : ℕ} (h : Keeps s t) : Keeps s (ferClear t f) := by
  unfold Machine.ferClear
  extract_lets fx now gap owed s1 z s2 z1 s3 s4
  have hs1 : Keeps s s1 := h.stopRuns.ferWordsReset
  have hs2 : Keeps s s2 := hs1.setFerrule
  have hs3 : Keeps s s3 := hs2.withRul
  have hs4 : Keeps s s4 := hs3.lnkReset.subPageReset.biReset.routerReset.dmaWithdraw
  exact hs4.forEach fun _ _ hq => hq.setFerDom

theorem Keeps.ferResetStart {f : ℕ} (h : Keeps s t) : Keeps s (ferResetStart t f) := by
  unfold Machine.ferResetStart
  extract_lets s1 s2 s3 z
  have hs1 : Keeps s s1 := by
    unfold s1
    split
    · exact h.tracePdown
    · exact h
  have hs2 : Keeps s s2 := hs1.dropTests.wr
  have hs3 : Keeps s s3 := hs2.signoffFerrule.ferClear
  exact hs3.setFerrule

theorem Keeps.ferUp {f : ℕ} (h : Keeps s t) : Keeps s (ferUp t f) := h.endRestore.wr.setFerrule.subsWake.lnkResetEnd.biResetEnd.refreshFer

theorem Keeps.ferResetEnd {f : ℕ} (h : Keeps s t) : Keeps s (ferResetEnd t f) := by
  unfold Machine.ferResetEnd
  split
  · exact h.ferUp
  · exact h

theorem Keeps.ferDown {f : ℕ} {v : ℕ} (h : Keeps s t) : Keeps s (ferDown t f v) := by
  unfold Machine.ferDown
  extract_lets u w x y
  have hu : Keeps s u := by
    unfold u
    split
    · exact h.tracePdown
    · exact h
  have hw : Keeps s w := hu.dropTests.endRestore.wr
  have hx : Keeps s x := hw.signoffFerrule
  clear_value x
  split
  · exact hx.forEach fun _ _ hq => hq.setPairs fun i => twf_tset i _ _
  · have hy : Keeps s y := hx.ferClear
    clear_value y
    exact (hy.setInkwell fun i => twf_filter i _).beside

theorem Keeps.deskWriteBack {d : ℕ} (h : Keeps s t) : Keeps s (deskWriteBack t d).2 := by
  unfold Machine.deskWriteBack
  extract_lets r u lines go' v
  have hu : Keeps s u := h.foldlSnd (p := (true, t)) fun _ _ hp => hp.drainAll
  clear_value u
  exact hu.foldl fun _ _ hq => hq.memWrite.setL2.setPres

theorem Keeps.deskDrop {d : ℕ} (h : Keeps s t) : Keeps s (deskDrop t d) := h.setDesk.foldl fun _ _ hq => hq.modScribe

theorem Keeps.deskScribesReset {d : ℕ} (h : Keeps s t) :
    Keeps s (deskScribesReset t d) := h.foldl fun _ _ hq => (hq.setScribe fun _ => ⟨rfl, rfl⟩).wr.wr.showLock

theorem Keeps.deskReset {d : ℕ} (h : Keeps s t) : Keeps s (deskReset t d) := by
  unfold Machine.deskReset
  extract_lets s1 s2 s3
  have hs1 : Keeps s s1 := by
    unfold s1
    refine h.foldl fun q a hq => ?_
    split
    · exact hq.tracePdown
    · exact hq
  have hs2 : Keeps s s2 := hs1.deskDrop
  have hs3 : Keeps s s3 := hs2.foldl fun _ _ hq => hq.headerReset.resetWords.resetWords
  exact hs3.deskScribesReset.wr

theorem Keeps.deskStart {d : ℕ} (h : Keeps s t) : Keeps s (deskStart t d) := h.foldl fun _ _ hq => hq.scribeStart

theorem Keeps.deskEnter {d : ℕ} {v : ℕ} (h : Keeps s t) : Keeps s (deskEnter t d v) := by
  unfold Machine.deskEnter
  extract_lets old s1 s2
  have hs1 : Keeps s s1 := h.wr
  have hs2 : Keeps s s2 := by
    unfold s2
    split
    · refine hs1.foldl fun q a hq => ?_
      split
      · exact hq.tracePdown
      · exact hq
    · exact hs1
  split
  · exact hs2.deskDrop.deskScribesReset
  · split
    · exact hs2.wr.deskStart
    · exact hs2

theorem Keeps.dmaReset (h : Keeps s t) : Keeps s (dmaReset t) := by
  unfold Machine.dmaReset
  extract_lets u v w
  have hw : Keeps s w := h.headerReset.resetWords.resetWords.headerReset.foldl fun _ _ hq => hq.resetWords
  clear_value w
  exact (hw.setGens fun hg e he => hg e (List.mem_of_mem_filter he)).beside

theorem Keeps.dramReset (h : Keeps s t) : Keeps s (dramReset t) := by
  unfold Machine.dramReset
  extract_lets s1 z
  have hs1 : Keeps s s1 := h.foldl fun _ _ hq => hq.headerReset.resetWords.headerReset.resetWords.resetWords
  exact hs1.withMem

theorem Keeps.dramDown (h : Keeps s t) : Keeps s (dramDown t) := h.dramReset.dmaReset

theorem Keeps.uplinkPortReset {p : ℕ} (h : Keeps s t) : Keeps s (uplinkPortReset t p) := by
  unfold Machine.uplinkPortReset
  extract_lets pg s1 z
  have hs1 : Keeps s s1 := by
    unfold s1
    split
    · exact h.timUplinkDown
    · exact h
  exact hs1.headerReset.resetWords.setPort

theorem Keeps.uplinksDown (h : Keeps s t) : Keeps s (uplinksDown t) := by
  unfold Machine.uplinksDown
  extract_lets u v w x y
  have hu : Keeps s u := h.foldl fun _ _ hq => hq.uplinkPortReset
  have hw : Keeps s w := hu.uplinkPortReset.uplinkPortReset.foldl fun _ _ hq => hq.headerReset.resetWords
  have hx : Keeps s x := hw.foldl fun _ _ hq => hq.headerReset.resetWords
  have hy : Keeps s y := hx.setPairs fun i => twf_filter i _
  clear_value y
  exact hy.forEach fun _ _ hq => hq.subReset

theorem Keeps.pcieDown (h : Keeps s t) : Keeps s (pcieDown t) := h.headerReset.resetWords.wr

theorem Keeps.domEnter {k : ℕ} {v : ℕ} (h : Keeps s t) : Keeps s (domEnter t k v) := by
  unfold Machine.domEnter
  extract_lets s1 s2
  have hs1 : Keeps s s1 := by
    unfold s1
    split
    · split
      · exact h.dramDown
      · split
        · exact h.uplinksDown
        · exact h.pcieDown
    · exact h
  have hs2 : Keeps s s2 := hs1.setDomPower
  split
  · exact hs2.subsWake
  · exact hs2

theorem Keeps.blockEnter {b : ℕ} {v : ℕ} (h : Keeps s t) : Keeps s (blockEnter t b v) := by
  unfold Machine.blockEnter
  extract_lets low was em list z s1 s2 s3
  have hs1 : Keeps s s1 := h.withPwr.wrb
  have hs2 : Keeps s s2 := hs1.tracePstate
  have hs3 : Keeps s s3 := hs2.setFerPower
  split
  · split
    · exact hs2.setFerPower
    · split
      · exact hs2.wr
      · exact hs2.setDomPower
  · split
    · split
      · exact hs3.ferUp
      · exact hs3.ferDown
    · split
      · exact hs2.deskEnter
      · exact hs2.domEnter

theorem Keeps.endChanges {p : ℕ → Bool} (h : Keeps s t) : Keeps s (endChanges t p) := by
  unfold Machine.endChanges
  extract_lets l z s1
  have hs1 : Keeps s s1 := h.withPwr
  exact hs1.foldl fun _ _ hq => hq.blockEnter

theorem Keeps.pwrAbandon (h : Keeps s t) : Keeps s (pwrAbandon t) := by
  unfold Machine.pwrAbandon
  extract_lets z s1 s2
  have hs1 : Keeps s s1 := h.withPwr
  have hs2 : Keeps s s2 := by
    unfold s2
    split
    · split
      · exact hs1.endChanges
      · exact hs1
    · exact hs1
  split
  · exact hs2.pwrEnd
  · exact hs2

/-! ### Mcu -/

theorem Keeps.bootVerify (h : Keeps s t) : Keeps s (bootVerify t).2 := by
  unfold Machine.bootVerify
  extract_lets c start
  have hstart : ∀ u img off, Keeps s u → Keeps s (start u img off) :=
    fun _ _ _ hu => (hu.wr.wr.withMcu).setScribe fun _ => ⟨rfl, rfl⟩
  clear_value start
  split
  · exact hstart _ _ _ h
  · split
    · exact hstart _ _ _ h
    · exact h.wr.setScribe fun _ => ⟨rfl, rfl⟩

theorem Keeps.mcRestart {cause : ℕ} (h : Keeps s t) : Keeps s (mcRestart t cause) :=
  (h.bump.wr.wr.setMcu fun _ => rfl).pwrAbandon.wr.bootVerify

theorem Keeps.wdgCount {due : Option ℕ} (h : Keeps s t) : Keeps s (wdgCount t due) := by
  unfold Machine.wdgCount
  extract_lets ms e left z s1 s2
  have hs1 : Keeps s s1 := h.withMcu
  have hs2 : Keeps s s2 := by
    unfold s2
    refine Keeps.forEach hs1 (fun q0 q1 hq => ?_)
    split
    · exact hq.wr
    · exact hq
  split
  · exact hs2.wr
  · exact hs2

theorem Keeps.wdgKick {init : ℕ} {n : ℕ} (h : Keeps s t) : Keeps s (wdgKick t init n) := by
  unfold Machine.wdgKick
  split
  · exact h.wdgCount.wr
  · exact h.ignored

theorem Keeps.wdgConfig {init : ℕ} {n : ℕ} {value : Word} (h : Keeps s t) : Keeps s (wdgConfig t init n value) := by
  unfold Machine.wdgConfig
  split
  · exact h.wdgCount.wr.wr.wr
  · exact h.ignored

theorem Keeps.mcKick {init : ℕ} (h : Keeps s t) : Keeps s (mcKick t init) := by
  unfold Machine.mcKick
  split
  · exact h.wdgCount.wr
  · exact h.ignored

theorem Keeps.mcPeriod {init : ℕ} {v : ℕ} (h : Keeps s t) : Keeps s (mcPeriod t init v) := by
  unfold Machine.mcPeriod
  split
  · exact h.wr
  · exact h.ignored

theorem Keeps.mcReset {init : ℕ} (h : Keeps s t) : Keeps s (mcReset t init) := by
  unfold Machine.mcReset
  split
  · exact h.mcRestart
  · exact h.ignored

theorem Keeps.mbPost {init : ℕ} {bit : ℕ} (h : Keeps s t) : Keeps s (mbPost t init bit) := by
  unfold Machine.mbPost
  extract_lets no
  have hno : Keeps s no := h.ignored
  split
  · split
    · exact h.wr
    · exact hno
  · split
    · split
      · exact h.wr
      · exact hno
    · split
      · split
        · exact h.wr
        · exact hno
      · split
        · exact h.wr
        · exact hno

theorem Keeps.flashAsk_sram (m : Mcu) (line : ℕ) : (flashAsk m line).sram = m.sram := by
  unfold flashAsk
  split
  · rfl
  · split <;> rfl

theorem Keeps.mcFetch {pc : ℕ} {taken : Bool} (h : Keeps s t) : Keeps s (mcFetch t pc taken).2 := by
  unfold Machine.mcFetch
  split
  · exact h
  · extract_lets m idx buffered hit m1 m2
    have hm1 : m1.sram = t.mcu.sram := by unfold m1; split <;> rfl
    have hm2 : m2.sram = t.mcu.sram := by
      unfold m2
      split
      · exact (flashAsk_sram _ _).trans hm1
      · split
        · split <;> exact hm1
        · exact hm1
    exact h.setMcu fun i => (congrArg twf hm2).trans i

/-! ### Pwr -/

theorem Keeps.pwrRefuse {reason : ℕ} (h : Keeps s t) : Keeps s (pwrRefuse t reason) := h.refuse

theorem Keeps.deskLevel (h : Keeps s t) : Keeps s (deskLevel t) := by
  unfold Machine.deskLevel
  extract_lets arg d pl z
  split
  · exact h.pwrRefuse
  · split
    · exact h.pwrRefuse
    · split
      · exact h.pwrRefuse
      · exact h.withPwr

theorem Keeps.levelEnd {ok : Bool} {rail : ℕ} (h : Keeps s t) : Keeps s (levelEnd t ok rail) := by
  unfold Machine.levelEnd
  split
  · exact h
  · extract_lets z s1
    have hs1 : Keeps s s1 := h.withPwr
    split
    · exact hs1.wr.wr.pwrEnd
    · exact hs1.setBit.pageErr.pwrEnd

theorem Keeps.blockFinish {b : ℕ} {v : ℕ} (h : Keeps s t) : Keeps s (blockFinish t b v).2 := by
  unfold Machine.blockFinish
  split
  · split
    · exact h.deskWriteBack
    · exact h
  · split
    · exact h
    · split
      · dsimp only
        exact h.wr
      · exact h

theorem Keeps.requestGranted {r : PwrReq} (h : Keeps s t) : Keeps s (requestGranted t r) := by
  unfold Machine.requestGranted
  extract_lets l s1 z
  have hs1 : Keeps s s1 := by
    unfold s1
    refine h.foldl fun q a hq => ?_
    split
    · exact hq.setFerPower
    · split
      · exact hq.setDomPower
      · exact hq
  exact hs1.withPwr

theorem Keeps.answerRequest (h : Keeps s t) : Keeps s (answerRequest t) := by
  unfold Machine.answerRequest
  split
  · exact h
  · extract_lets off desks ready now r' z s1
    have hs1 : Keeps s s1 := h.withPwr
    split
    · exact h.pwrFail
    · split
      · exact hs1.requestGranted
      · exact hs1

theorem Keeps.openRequest {opc : ℕ} {blocks : List ℕ} (h : Keeps s t) : Keeps s (openRequest t opc blocks) := by
  unfold Machine.openRequest
  extract_lets r z
  exact h.withPwr.wr.answerRequest

theorem Keeps.openReturn {opc : ℕ} {l : List (ℕ × ℕ)} (h : Keeps s t) : Keeps s (openReturn t opc l) := by
  unfold Machine.openReturn
  extract_lets r s1 z
  have hs1 : Keeps s s1 := by
    unfold s1
    refine h.foldl fun q a hq => ?_
    split
    · exact hq.setFerPower
    · split
      · exact hq.setDomPower
      · exact hq
  exact hs1.withPwr.wr

theorem Keeps.commanded {b : ℕ} {v : ℕ} (h : Keeps s t) : Keeps s (commanded t b v) := h.withPwr

theorem Keeps.deskState (h : Keeps s t) : Keeps s (deskState t) := by
  unfold Machine.deskState
  extract_lets arg d v cur
  split
  · exact h.pwrRefuse
  · split
    · exact h.pwrRefuse
    · split
      · exact h.pwrRefuse
      · split
        · exact h.commanded.pwrEnd
        · split
          · split
            · exact h.pwrRefuse
            · exact h.wr.commanded.openReturn
          · split
            · exact h.pwrRefuse
            · exact h.commanded.openRequest

theorem Keeps.ferruleState (h : Keeps s t) : Keeps s (ferruleState t) := by
  unfold Machine.ferruleState
  extract_lets arg f v cur s1 z
  have hs1 : Keeps s s1 := h.commanded.setFerPower
  split
  · exact h.pwrRefuse
  · split
    · exact h.pwrRefuse
    · split
      · exact h.commanded.pwrEnd
      · split
        · exact hs1.withPwr.pwrEnd
        · split
          · exact h.pwrRefuse
          · exact h.commanded.openRequest

theorem Keeps.domainState (h : Keeps s t) : Keeps s (domainState t) := by
  unfold Machine.domainState
  extract_lets arg k on cur
  split
  · exact h.pwrRefuse
  · split
    · exact h.pwrRefuse
    · split
      · exact h.commanded.pwrEnd
      · split
        · split
          · exact h.pwrRefuse
          · exact h.commanded.openReturn
        · exact h.commanded.openRequest

theorem Keeps.deviceState (h : Keeps s t) : Keeps s (deviceState t) := by
  unfold Machine.deviceState
  extract_lets arg v cur domsOn desksUp dram last fers doms desks fers1
  split
  · exact h.pwrRefuse
  · split
    · exact h.pwrRefuse
    · split
      · exact h.pwrEnd
      · split
        · exact h.openReturn
        · split
          · exact h.openRequest
          · exact h.openRequest

theorem Keeps.walkTable {d : ℕ} (h : Keeps s t) : Keeps s (walkTable t d) := by
  unfold Machine.walkTable
  extract_lets mine dirty z
  exact h.withMem

theorem Keeps.deskDie (h : Keeps s t) : Keeps s (deskDie t) := by
  unfold Machine.deskDie
  extract_lets arg d s1
  have hs1 : Keeps s s1 := h.foldl fun _ _ hq => hq.modScribe
  split
  · exact h.pwrRefuse
  · split
    · exact h.pwrRefuse
    · exact hs1.wr.walkTable

theorem Keeps.reclaimEnd (h : Keeps s t) : Keeps s (reclaimEnd t) := by
  unfold Machine.reclaimEnd
  split
  · exact h
  · extract_lets left s1 z s2 s3
    have hs1 : Keeps s s1 := h.wr.wr
    have hs2 : Keeps s s2 := hs1.withPwr
    have hs3 : Keeps s s3 := hs2.wr.deskReset
    split
    · exact h
    · exact hs3.commanded.pwrEnd

theorem Keeps.deskHold {d : ℕ} (h : Keeps s t) : Keeps s (deskHold t d) := by
  unfold Machine.deskHold
  extract_lets z s1
  have hs1 : Keeps s s1 := h.withPwr
  exact hs1.deskReset.pwrEnd

theorem Keeps.blockReset (h : Keeps s t) : Keeps s (blockReset t) := by
  unfold Machine.blockReset
  extract_lets arg b enter held z s1 d
  have hs1 : Keeps s s1 := h.withPwr
  split
  · exact h.pwrRefuse
  · split
    · split
      · exact h.pwrRefuse
      · refine Keeps.pwrEnd ?_
        split
        · exact hs1.ferResetEnd
        · exact hs1.deskStart
    · split
      · exact h.pwrEnd
      · split
        · split
          · exact h.pwrRefuse
          · exact h.withPwr.ferResetStart.pwrEnd
        · split
          · exact h.pwrRefuse
          · split
            · exact h.pwrRefuse
            · split
              next x s2 e =>
                have hq := h.deskWriteBack.snd e
                exact hq.deskHold
              next x s2 e =>
                have hq := h.deskWriteBack.snd e
                exact hq.withPwr

theorem Keeps.pwrBell {init : ℕ} {seq : ℕ} {opc : ℕ} (h : Keeps s t) : Keeps s (pwrBell t init seq opc) := by
  unfold Machine.pwrBell
  extract_lets allowed
  refine Keeps.hostBell h (fun q0 hq => ?_)
  split
  · exact hq.deskLevel
  · split
    · exact hq.deskState
    · split
      · exact hq.ferruleState
      · split
        · exact hq.domainState
        · split
          · exact hq.deviceState
          · split
            · exact hq.deskDie
            · exact hq.blockReset

theorem Keeps.changesDone (h : Keeps s t) : Keeps s (changesDone t) := by
  unfold Machine.changesDone
  split
  · split
    · extract_lets s1
      have hs1 : Keeps s s1 := by
        unfold s1
        split
        · exact h.wr
        · exact h
      exact hs1.pwrEnd
    · exact h
  · exact h

/-! ### Bst -/

theorem Keeps.setSoft {l : List TestElement} (h : Keeps s t) : Keeps s (setSoft t l) := h.withBst.wr

theorem Keeps.showFailure {e : TestElement} (h : Keeps s t) : Keeps s (showFailure t e) := h.wr.wr.wr.wr.wrb

theorem Keeps.testFails {l : List TestElement} (h : Keeps s t) : Keeps s (testFails t l) := by
  unfold Machine.testFails
  extract_lets s1
  have hs1 : Keeps s s1 := h.setSoft
  split
  · exact hs1.showFailure
  · exact hs1

/-- Words, inkwells and nibs that are left out of their tables. -/
theorem Keeps.drop_words {r : Nat × Word → Bool} {k : Nat × Word → Bool} {b : Nat × Nib → Bool} (h : Keeps s t) :
    Keeps s { t with regs := t.regs.filter r, inkwell := t.inkwell.filter k, nibs := t.nibs.filter b } :=
  h.trans ⟨fun i => { i with
    regs := twf_filter i.regs _
    mem := memory_wf_inkwell i.mem fun hi => twf_filter hi _
    nibs := twf_filter i.nibs _ }, rfl, Nat.le_refl _⟩

theorem Keeps.clearSecrets {fers : List ℕ} {desks : List ℕ} (h : Keeps s t) : Keeps s (clearSecrets t fers desks) := by
  unfold Machine.clearSecrets
  extract_lets u v
  have hu : Keeps s u := h.drop_words
  clear_value u
  exact (hu.foldl fun _ _ hq => hq.deskDrop).bump.wr

theorem Keeps.fullTest (h : Keeps s t) : Keeps s (fullTest t) := by
  unfold Machine.fullTest
  split
  · exact h.refuse
  · extract_lets s1 z
    have hs1 : Keeps s s1 := h.clearSecrets
    exact hs1.withBst

theorem Keeps.showFuses (h : Keeps s t) : Keeps s (showFuses t) := h.wr.wr

theorem Keeps.fuse (h : Keeps s t) : Keeps s (fuse t) := by
  unfold Machine.fuse
  split
  · exact h.refuse
  · split
    · exact h.refuse
    · extract_lets new room z s1
      have hs1 : Keeps s s1 := h.withBst.showFuses
      split
      · exact hs1.pageErr.complete
      · exact hs1.complete

theorem Keeps.recordPhase {r : BstRecord} (h : Keeps s t) : Keeps s (recordPhase t r) := by
  unfold Machine.recordPhase
  extract_lets z z1 s1
  have hs1 : Keeps s s1 := h.beside
  exact hs1.wr.wr

theorem Keeps.bstBell {init : ℕ} {seq : ℕ} {opc : ℕ} {f : State → State} (h : Keeps s t) (hf : ∀ q, Keeps s q → Keeps s (f q)) :
    Keeps s (bstBell t init seq opc f) := h.hostBell hf

theorem Keeps.bootNibs {l : List TestElement} (h : Keeps s t) : Keeps s (bootNibs t l) := h.foldl fun _ _ hq => hq.wr.nibFails

theorem Keeps.bootDecision {fails : List TestElement} (h : Keeps s t) : Keeps s (bootDecision t fails) := by
  unfold Machine.bootDecision
  extract_lets valid ord age skip s1 entries z z1 s2 s3
  have hs1 : Keeps s s1 := h.wrb.wrb.wrb.wrb
  have hs2 : Keeps s s2 := hs1.beside
  have hs3 : Keeps s s3 := hs2.clearSecrets
  split
  · exact hs2.setSoft.bootNibs
  · exact hs3.testFails.wr.bootNibs

theorem Keeps.rollStart {e : ℕ} (h : Keeps s t) : Keeps s (rollStart t e) := by
  unfold Machine.rollStart
  extract_lets z s1 f n z1 s2
  have hs1 : Keeps s s1 := h.withBst
  have hs2 : Keeps s s2 := hs1.withBst.wr
  split
  · exact hs2.wr.wr.wr.wr
  · exact hs1.wr.wr.wr.wr

theorem Keeps.rollIdle (h : Keeps s t) : Keeps s (rollIdle t) := h.wr.wr

theorem Keeps.rollFailed {e : TestElement} (h : Keeps s t) : Keeps s (rollFailed t e) := h.showFailure.bump.wr

/-! ### Duplex -/

theorem Keeps.dpxStatusTx (h : Keeps s t) : Keeps s (dpxStatusTx t) := by
  unfold Machine.dpxStatusTx
  split
  · extract_lets second m z s1
    have hs1 : Keeps s s1 := h.withDpx.wr
    exact hs1.sendOn
  · exact h

theorem Keeps.dpxEligible (h : Keeps s t) : Keeps s (dpxEligible t) := h.wrb

theorem Keeps.dpxReason {r : ℕ} {on : Bool} (h : Keeps s t) : Keeps s (dpxReason t r on) := by
  unfold Machine.dpxReason
  extract_lets was s1
  have hs1 : Keeps s s1 := by
    unfold s1
    split
    · exact h.setBit
    · exact h.clrBit
  split
  · exact hs1.wr.pageErr
  · exact hs1

theorem Keeps.dpxCheck {r : ℕ} {bad : Bool} (h : Keeps s t) : Keeps s (dpxCheck t r bad) := by
  unfold Machine.dpxCheck
  extract_lets n z s1
  have hs1 : Keeps s s1 := h.withDpx
  split
  · exact hs1.dpxReason
  · exact hs1

theorem Keeps.dpxCount (h : Keeps s t) : Keeps s (dpxCount t) := h.wr

theorem Keeps.setPdeg {b : Bool} (h : Keeps s t) : Keeps s (setPdeg t b) := h.wrb.updQuality

theorem Keeps.dpxOffset {msg : DpxStatus} {stamp : ℕ} (h : Keeps s t) : Keeps s (dpxOffset t msg stamp) := by
  unfold Machine.dpxOffset
  split
  · exact h
  · extract_lets t1 ofs s1 z s2
    have hs1 : Keeps s s1 := h.wr.wr
    have hs2 : Keeps s s2 := hs1.withDpx
    split
    · exact hs1.withDpx.setPdeg
    · split
      · exact hs2.setPdeg
      · exact hs2

theorem Keeps.dpxConfig {init : ℕ} {off : ℕ} {value : Word} (h : Keeps s t) : Keeps s (dpxConfig t init off value) := by
  unfold Machine.dpxConfig
  extract_lets no en role pair hold was s1 s2
  have hno : Keeps s no := h.ignored
  have hs1 : Keeps s s1 := h.wr.wr.wr.wr
  have hs2 : Keeps s s2 := by
    unfold s2
    split
    · exact hs1.dpxReason
    · exact hs1
  split
  · split
    · exact hno
    · split
      · exact hno
      · split
        · exact hno
        · exact hs2.dpxEligible
  · split
    · split
      · exact hno
      · exact h.wr.wr
    · split
      · exact h.wr
      · split
        · exact h.wr
        · exact h

theorem Keeps.dpxClear (h : Keeps s t) : Keeps s (dpxClear t) := by
  unfold Machine.dpxClear
  extract_lets z s1
  have hs1 : Keeps s s1 := h.withDpx
  exact hs1.clrBit.clrBit.clrBit.dpxCount.dpxEligible

theorem Keeps.dpxCompare {a : DpxOutput} {b : DpxOutput} (h : Keeps s t) : Keeps s (dpxCompare t a b) := by
  unfold Machine.dpxCompare
  extract_lets d
  split
  · exact h.bump
  · split
    · exact h.bump.wr.wr
    · exact h

/-! ### Debug -/

theorem Keeps.coreHalt {n : ℕ} (h : Keeps s t) : Keeps s (coreHalt t n) := by
  unfold Machine.coreHalt
  split
  · exact h.drainAll.modScribe.wr.wr
  · exact h.modScribe.wr

theorem Keeps.coreRelease {n : ℕ} {step : Bool} (h : Keeps s t) : Keeps s (coreRelease t n step) := by
  unfold Machine.coreRelease
  split
  · exact h
  · split
    · exact h.modScribe.wr.wr.wr
    · exact h.modScribe.wr.wr

theorem Keeps.emulEnd {b : ℕ} {v : ℕ} (h : Keeps s t) : Keeps s (emulEnd t b v) := by
  unfold Machine.emulEnd
  extract_lets pwr u off back i count
  have hu : Keeps s u := h.withPwr
  have hback : ∀ q, Keeps s q → Keeps s (back q) := by
    intro q hq
    unfold back
    split
    · exact hq.setFerPower
    · split
      · exact hq.wr
      · exact hq.setDomPower
  have hcount : ∀ q a, Keeps s q → Keeps s (count q a) := fun _ _ hq => hq.bump.wr.setBit
  clear_value count back u
  split
  · exact hcount _ _ (hback _ hu)
  · split
    next e => exact hcount _ _ (hback _ (hu.blockFinish.snd e))
    next e => exact (hu.blockFinish.snd e).blockEnter

theorem Keeps.detach (h : Keeps s t) :
    Keeps s (detach t) :=
  (((h.wr.foldl fun _ _ hq => hq.modScribe.coreRelease).foldl fun _ _ hq => (hq.foldl fun _ _ hq1 => hq1.releaseNib)).foldl fun _ _ hq => hq.emulEnd).wr

theorem Keeps.attachWrite {init : ℕ} {attach : Bool} (h : Keeps s t) : Keeps s (attachWrite t init attach) := by
  unfold Machine.attachWrite
  split
  · split
    · exact h.wr
    · split
      · exact h.detach
      · exact h
  · exact h.ignored

theorem Keeps.haltWrite {mask : ℕ} (h : Keeps s t) : Keeps s (haltWrite t mask) := by
  unfold Machine.haltWrite
  split
  · exact h.ignored
  · refine h.foldl fun q a hq => ?_
    extract_lets up
    split
    · exact hq.modScribe
    · exact hq.ignored

theorem Keeps.resumeWrite {mask : ℕ} (h : Keeps s t) : Keeps s (resumeWrite t mask) := h.foldl fun _ _ hq => hq.coreRelease

theorem Keeps.stepWrite {mask : ℕ} (h : Keeps s t) : Keeps s (stepWrite t mask) := by
  unfold Machine.stepWrite
  split
  · exact h.ignored
  · exact h.foldl fun _ _ hq => hq.modScribe.coreRelease

theorem Keeps.nibSelect {value : Word} (h : Keeps s t) : Keeps s (nibSelect t value) := by
  unfold Machine.nibSelect
  extract_lets f n halt s1 s2
  have hs1 : Keeps s s1 := h.setWord
  have hs2 : Keeps s s2 := by
    unfold s2
    split
    · exact hs1.haltNib
    · exact hs1
  split
  · exact h.ignored
  · split
    · exact hs2.releaseNib
    · exact hs2

theorem Keeps.loadIr {code : ℕ} (h : Keeps s t) : Keeps s (loadIr t code) := by
  unfold Machine.loadIr
  extract_lets z s1 z1 z2
  have hs1 : Keeps s s1 := h.withDbg
  split
  · exact hs1
  · extract_lets s2
    have hs2 : Keeps s s2 := by
      unfold s2
      refine Keeps.withDbg (Keeps.withPwr ?_)
      exact h
    split
    · exact hs2.ferResetStart.ferResetEnd
    · exact hs2.deskReset.deskStart

theorem Keeps.boundaryScan {code : ℕ} {dr : ℕ} (h : Keeps s t) : Keeps s (boundaryScan t code dr) := by
  unfold Machine.boundaryScan
  extract_lets s1 z
  have hs1 : Keeps s s1 := h.loadIr
  exact hs1.withDbg

theorem Keeps.scanRegion {b : ℕ} (h : Keeps s t) : Keeps s (scanRegion t b) := by
  unfold Machine.scanRegion
  extract_lets z z1 s1
  have hs1 : Keeps s s1 := h.beside
  split
  · exact hs1.ferResetStart.clearSecrets
  · exact hs1.deskReset.clearSecrets

theorem Keeps.relock (h : Keeps s t) : Keeps s (relock t) := by
  unfold Machine.relock
  extract_lets s1
  have hs1 : Keeps s s1 := h.wr
  split
  · exact hs1.detach
  · exact hs1

theorem Keeps.blotWord {w : Word} (h : Keeps s t) : Keeps s (blotWord t w) := by
  unfold Machine.blotWord
  split
  · exact h
  · extract_lets p z s1 s2 z1 z2 s3 z3
    have hs1 : Keeps s s1 := h.withBlot
    have hs2 : Keeps s s2 := hs1.wr
    have hz1 : Keeps s z1 := hs2.bump
    have hs3 : Keeps s s3 := by
      unfold s3
      split
      · exact hz1.withBlot
      · exact hs2
    split
    · extract_lets z4
      have hz4 : Keeps s z4 := by
        unfold z4
        split
        · exact hs3.wr
        · exact hs3
      exact hz4.withBlot
    · exact hs3

theorem Keeps.owedGap {src : ℕ} (h : Keeps s t) : Keeps s (owedGap t src) := by
  unfold Machine.owedGap
  extract_lets n g z
  split
  · exact h
  · exact h.withBlot

theorem Keeps.writePacket {src : ℕ} {p : Packet} (h : Keeps s t) : Keeps s (writePacket t src p) := by
  unfold Machine.writePacket
  extract_lets sync words s1 dcyc at' z s2 s3 s4 s5 k z1
  have hs1 : Keeps s s1 := by
    unfold s1
    split
    · exact h.blotWord.blotWord
    · exact h
  have hs2 : Keeps s s2 := hs1.withBlot
  have hs3 : Keeps s s3 := hs2.blotWord
  have hs4 : Keeps s s4 := by
    unfold s4
    split
    · exact hs3.blotWord
    · exact hs3
  have hs5 : Keeps s s5 := hs4.wr.wr.wr
  split
  · exact h.wr.wr
  · split
    · split
      · exact hs5
      · exact hs5.withBlot
    · exact hs4

theorem Keeps.stimWrite {p : ℕ} {value : Word} (h : Keeps s t) : Keeps s (stimWrite t p value) := by
  unfold Machine.stimWrite
  extract_lets s1
  have hs1 : Keeps s s1 := h.wr
  split
  · exact hs1.trace
  · exact hs1

theorem Keeps.blotClear (h : Keeps s t) : Keeps s (blotClear t) := by
  unfold Machine.blotClear
  extract_lets s1 z
  have hs1 : Keeps s s1 := h.wr.wr.wr.wr
  exact hs1.withBlot

/-! ### Sregs -/

theorem Keeps.setG {n : ℕ} {i : ℕ} {v : Word} (h : Keeps s t) : Keeps s (State.setG t n i v) := by
  unfold State.setG
  split
  · exact h
  · exact h.modScribeG

theorem Keeps.flushPred {n : ℕ} (h : Keeps s t) : Keeps s (flushPred t n) := by
  unfold Machine.flushPred
  extract_lets s1
  have hs1 : Keeps s s1 := h.modScribe
  split
  · exact hs1.bump
  · exact hs1

theorem Keeps.setStatus {n : ℕ} {v : Word} (h : Keeps s t) : Keeps s (setStatus t n v) := by
  unfold Machine.setStatus
  extract_lets old new s1 s2
  have hs1 : Keeps s s1 := by
    unfold s1
    split
    · exact h.flushBrh.trace
    · exact h
  have hs2 : Keeps s s2 := hs1.modScribe
  refine Keeps.showLevel ?_
  split
  · exact hs2.flushPred
  · exact hs2

theorem Keeps.sregPut {core : ℕ} {n : ℕ} {v : Word} (h : Keeps s t) : Keeps s (sregPut t core n v) := by
  unfold Machine.sregPut
  split
  · exact h
  · split
    · exact h
    · split
      · exact h.setStatus
      · split
        · exact h.modScribe
        · extract_lets old new s1
          have hs1 : Keeps s s1 := h.modScribeSr
          split
          · exact hs1.flushPred
          · exact hs1

theorem Keeps.srvalWrite {v : Word} (h : Keeps s t) : Keeps s (srvalWrite t v) := by
  unfold Machine.srvalWrite
  extract_lets no tgt n
  have hno : Keeps s no := h.ignored
  split
  · exact hno
  · split
    · split
      · exact h.setG
      · exact h
    · split
      · split
        · exact hno
        · exact h.modScribe
      · split
        · exact hno
        · exact h.sregPut

/-! ### Reset -/

theorem Keeps.coldState {phase : ℕ} (h : Keeps s t) : Keeps s (coldState t phase) := by
  refine h.trans ⟨fun i => ?_, rfl, Nat.le_refl _⟩
  exact {
    regs := twf_filter i.regs _
    gens := fun _ he => absurd he List.not_mem_nil
    mem := rfl
    scribes := rfl
    general := fun _ he => absurd he List.not_mem_nil
    nibs := rfl
    ports := twf_foldl_tset (t := []) rfl _ _ _
    pairs := rfl
    subs := rfl
    pubs := rfl
    trips := twf_foldl_tset (t := []) rfl _ _ _ }

theorem Keeps.loadOtp (h : Keeps s t) : Keeps s (loadOtp t) := h.wr.wr.wr.showFuses

theorem Keeps.boot {fails : List TestElement} {failed : ℕ} (h : Keeps s t) : Keeps s (boot t fails failed) := by
  unfold Machine.boot
  split
  next x s1 e =>
    have hq := h.withPhase.bootVerify.snd e
    exact hq.bootDecision
  next x s1 e =>
    have hq := h.withPhase.bootVerify.snd e
    exact hq.withPhase

theorem Keeps.rulChipReset (h : Keeps s t) : Keeps s (rulChipReset t) := by
  unfold Machine.rulChipReset
  extract_lets u live v idle w x y z
  have hu : Keeps s u := by
    unfold u
    split
    · exact h.complete
    · exact h
  have hx : Keeps s x := ((hu.foldl fun _ _ hq => hq.fnFree).foldl fun _ _ hq => hq.bumpGen).setFlows
  clear_value x
  exact hx.beside.setWord.setWord.wr.resetWords.foldl fun _ _ hq => hq.foldl fun _ _ hq => hq.wr.wr

theorem Keeps.fersChipReset (h : Keeps s t) : Keeps s (fersChipReset t) := by
  unfold Machine.fersChipReset
  extract_lets s1
  have hs1 : Keeps s s1 := by
    unfold s1
    refine h.foldl fun q a hq => ?_
    split
    · exact hq.ferResetStart
    · split
      · exact hq.ferClear
      · exact hq
  exact hs1.withFerrules

theorem Keeps.qpsFree (h : Keeps s t) : Keeps s (qpsFree t) := by
  unfold Machine.qpsFree
  refine h.foldl fun q a hq => ?_
  split
  · exact hq
  · exact hq.resetWords.resetWords.bumpGen

theorem Keeps.mcChipReset (h : Keeps s t) : Keeps s (mcChipReset t) :=
  (h.setMcu fun _ => rfl).pwrAbandon.wr.setScribe fun _ => ⟨rfl, rfl⟩

theorem Keeps.chipResetStart (h : Keeps s t) : Keeps s (chipResetStart t) := by
  unfold Machine.chipResetStart
  extract_lets frozen s1 dbg s3 s4 bst s6 s7 s8 s9 s10 s11 s12 s13 s14
  clear_value frozen
  have h1 : Keeps s s1 := h.csnChipReset.foldl fun _ _ hq => hq.schedCancel
  have h3 : Keeps s s3 := h1.beside
  clear_value s3
  have h4 : Keeps s s4 := h3.signoffAll.relock.mcChipReset
  clear_value s4
  have h6 : Keeps s s6 := by
    unfold s6
    split
    · exact h4.withBst.complete
    · exact h4
  clear_value s6
  have h7 : Keeps s s7 := h6.fersChipReset.rulChipReset
  clear_value s7
  have h8 : Keeps s s8 := h7.foldl fun _ _ hq => hq.routerReset
  clear_value s8
  have h9 : Keeps s s9 := h8.foldl fun _ _ hq => hq.deskReset.foldl fun _ _ hq => hq.wr
  clear_value s9
  have h10 : Keeps s s10 := h9.foldl fun _ _ hq => hq.foldl fun _ _ hq => hq.resetWords
  clear_value s10
  have h11 : Keeps s s11 := h10.foldl fun _ _ hq => hq.headerReset.resetWords
  clear_value s11
  have h12 : Keeps s s12 := h11.dramReset.dmaReset.uplinksDown.pcieDown
  clear_value s12
  have h13 : Keeps s s13 := by
    unfold s13
    split
    · exact h12.dramLose
    · exact h12
  clear_value s13
  have h14 : Keeps s s14 := h13.headerReset.resetWords
  clear_value s14
  exact (show Keeps s { s14 with icu := {}, dpx := {} } from h14.beside).qpsFree

theorem Keeps.chipResetLeave (h : Keeps s t) : Keeps s (chipResetLeave t) := (h.foldl fun _ _ hq => hq.ferResetEnd).wrb

theorem Keeps.sealRecord (h : Keeps s t) : Keeps s (sealRecord t) := by
  unfold Machine.sealRecord
  split
  · exact h.refuse
  · split
    · exact h.refuse
    · exact h.complete.chipResetStart.chipResetLeave.recordPhase

/-! ### DmaCtl -/

theorem Keeps.dmaShowWait {n : ℕ} (h : Keeps s t) : Keeps s (dmaShowWait t n) := h.wrb

theorem Keeps.swreqWrite {v : ℕ} (h : Keeps s t) : Keeps s (swreqWrite t v) := h.wr.dmaWithdraw

theorem Keeps.dmaEvent {n : ℕ} (h : Keeps s t) : Keeps s (dmaEvent t n) := by
  unfold Machine.dmaEvent
  split
  · exact h.setBit
  · exact h

theorem Keeps.dmaFail {n : ℕ} {e : DmaErr} (h : Keeps s t) : Keeps s (dmaFail t n e) := (h.foldl fun _ _ hq => hq.wr).wr.pageErr

theorem Keeps.dmaFree {n : ℕ} (h : Keeps s t) : Keeps s (dmaFree t n) := (h.resetWords.foldl fun _ _ hq => hq.resetWords).setDma.bumpGen

theorem Keeps.dmaStopped {n : ℕ} (h : Keeps s t) : Keeps s (dmaStopped t n) := by
  unfold Machine.dmaStopped
  extract_lets stop s1 z s2
  have hs1 : Keeps s s1 := by
    unfold s1
    split
    · exact h.wr.dmaEvent
    · exact h
  have hs2 : Keeps s s2 := hs1.setDma.wr
  split
  · exact h
  · split
    · exact hs2.complete
    · exact hs2

theorem Keeps.dmaStop {n : ℕ} {how : ℕ} (h : Keeps s t) : Keeps s (dmaStop t n how) := by
  unfold Machine.dmaStop
  extract_lets s1 z s2
  have hs1 : Keeps s s1 := h.wr.wr
  have hs2 : Keeps s s2 := hs1.setDma
  split
  · exact hs2
  · exact hs2.dmaStopped

theorem Keeps.dmaCreate {init : ℕ} (h : Keeps s t) : Keeps s (dmaCreate t init) := by
  unfold Machine.dmaCreate
  split
  · exact h.refuse
  · split
    · exact h.refuse
    · split
      · exact h.refuse
      · split
        · exact h.refuse
        · exact (h.setDma.wr.foldl fun _ _ hq => hq.wr).wr.wr.complete

theorem Keeps.dmaStart {n : ℕ} (h : Keeps s t) : Keeps s (dmaStart t n) := by
  unfold Machine.dmaStart
  extract_lets src dst crc s1 s2 s3 s4
  have hs1 : Keeps s s1 := h.resetWords.resetWords
  have hs2 : Keeps s s2 := hs1.wr.wr.wr.wr
  have hs3 : Keeps s s3 := hs2.setDma
  have hs4 : Keeps s s4 := by
    unfold s4
    split
    · exact hs3.dmaFail
    · split
      · exact hs3.dmaFail
      · exact hs3.dmaShowWait
  exact hs4.complete

theorem Keeps.dmaBell {init : ℕ} {seq : ℕ} {opc : ℕ} {handle : ℕ} (h : Keeps s t) : Keeps s (dmaBell t init seq opc handle) := by
  unfold Machine.dmaBell
  extract_lets late n
  split
  next x s1 e =>
    have hq := h.doorbell.fst e
    exact hq
  next x s1 e =>
    have hq := h.doorbell.fst e
    extract_lets cst live
    split
    · exact hq.dmaCreate
    · split
      · split
        · exact hq.refuse
        · exact hq.dmaFree.complete
      · split
        · split
          · exact hq.refuse
          · exact hq.dmaStart
        · split
          · exact hq.dmaStop
          · exact hq.complete

/-! ### Ten -/

theorem Keeps.setTen {t1 : ℕ} {x : Ten} (h : Keeps s t) : Keeps s (State.setTen t t1 x) := h.withTens

theorem Keeps.dramRead {src addr n : Nat} {l : List Word} {b : Bool} {q : State} (h : Keeps s t) (e : dramRead t src addr n = some
    (l, b, q)) :
    Keeps s q := by
  unfold Machine.dramRead at e
  extract_lets first last r at e
  have hr : ∀ p, r = some p → Keeps s p.2.2 := by
    refine foldl_keeps (P := fun r : Option (List Word × Bool × State) => ∀ p, r = some p → Keeps s p.2.2)
      (fun p hp => Option.some.inj hp ▸ h) fun r a hr p hp => ?_
    obtain ⟨x, hx, hp⟩ := Option.bind_eq_some_iff.1 hp
    split at hp
    next hn => cases hp; exact (hr x hx).ncRead.snd hn
    · cases hp
  clear_value r
  split at e
  · cases e; exact h
  · obtain ⟨p, hp, e⟩ := Option.map_eq_some_iff.1 e
    cases e; exact hr p hp

theorem Keeps.dramWrite {src : ℕ} {addr : ℕ} {ws : List Word} (h : Keeps s t) :
    Keeps s (dramWrite t src addr ws) := h.foldl fun _ _ hq => hq.ncWrite

theorem Keeps.tenRefuse {reason : ℕ} (h : Keeps s t) : Keeps s (tenRefuse t reason) := h.refuse

theorem Keeps.tenDone {rhandle : ℕ} (h : Keeps s t) : Keeps s (tenDone t rhandle) := h.complete

theorem Keeps.tenActivate (h : Keeps s t) : Keeps s (tenActivate t) := by
  unfold Machine.tenActivate
  extract_lets t1
  split
  · exact h.tenRefuse
  · exact h.wr.tenDone

theorem Keeps.qpCreate (h : Keeps s t) : Keeps s (qpCreate t) := by
  unfold Machine.qpCreate
  extract_lets a rx tx rlog tlog ringOk
  split
  · exact h.tenRefuse
  · split
    · exact h.tenRefuse
    · exact (h.foldl fun _ _ hq => hq.wr).setQp.tenDone

theorem Keeps.qpFree {q : ℕ} (h : Keeps s t) : Keeps s (qpFree t q) := h.resetWords.resetWords.setQp.bumpGen

theorem Keeps.tenFreeze (h : Keeps s t) : Keeps s (tenFreeze t) := by
  unfold Machine.tenFreeze
  extract_lets t1 T z
  split
  · exact h.tenRefuse
  · split
    · exact h.tenRefuse
    · exact h.setTen.tenDone

theorem Keeps.tenExport (h : Keeps s t) : Keeps s (tenExport t) := by
  unfold Machine.tenExport
  extract_lets t1 addr payload len
  split
  · exact h.tenRefuse
  · split
    · exact h.tenRefuse
    · split
      · exact h.tenRefuse
      · split
        next x nonce s1 e =>
          have hq := h.free.snd e
          extract_lets head
          split
          · exact hq.dramWrite.tenDone

theorem Keeps.importContext {t1 : ℕ} {r : ℕ × List Word} (h : Keeps s t) : Keeps s (importContext t t1 r) := by
  unfold Machine.importContext
  extract_lets b f k n iw s1 p nt s2 s3 tpl words s4
  have hs1 : Keeps s s1 := h.foldl fun _ _ hq => hq.setWord
  have hs2 : Keeps s s2 := h.pubMake
  have hs3 : Keeps s s3 := hs2.setWord.setWord
  have hs4 : Keeps s s4 := hs3.foldl fun _ _ hq => hq.setWord
  split
  · exact h.subMake
  · split
    · exact hs1.wr
    · split
      · exact hs4.foldl fun _ _ hq => hq.setWord
      · exact h

theorem Keeps.replayCmd {n : Nat} {r : Option (State × List (Nat × Nat) × List Nat)} {b : List Word} {q : State} {x : List (Nat × Nat)}
    {y : List Nat} (hr : ∀ q a b, r = some (q, a, b) → Keeps s q) (e : replayCmd n r b = some (q, x, y)) :
    Keeps s q := by
  unfold Machine.replayCmd at e
  obtain ⟨⟨u, a, c⟩, hx, e⟩ := Option.bind_eq_some_iff.1 e
  have hu : Keeps s u := hr u a c hx
  extract_lets v cmd opc old d w i at e
  have hw : Keeps s w := hu.histCmd
  clear_value w
  split at e
  · split at e
    · cases e
    · split at e
      · cases e
      next hp =>
        extract_lets z at e
        have hz : Keeps s z := (hw.setFn.wr.wr.placeSearch hp).refreshAll.countFns.setPstate
        clear_value z
        cases e; exact hz.logCmd
  · split at e
    · cases e; exact hw
    · extract_lets z f g y at e
      have hz : Keeps s z := hw.logCmd
      clear_value z
      have hy : Keeps s y := by
        unfold y
        split
        · exact hz.fnFree
        · exact hz.setFn
      clear_value y
      cases e; exact hy

theorem Keeps.importState {idx : List ℕ} {b : List Word} (h : Keeps s t) : Keeps s (importState idx t b) := by
  unfold Machine.importState
  extract_lets i ws s1 s2 z
  have hs1 : Keeps s s1 := h.foldl fun _ _ hq => hq.seedState
  have hs2 : Keeps s s2 := hs1.foldl fun _ _ hq => hq.swapBank.ringsChange
  split
  · exact h
  · exact hs2.setFn.wr

theorem Keeps.importBlob {n : Nat} {recs : List (Nat × List Word)} {q : State} (h : Keeps s t) (e : importBlob t n recs = some q) :
    Keeps s q := by
  unfold Machine.importBlob at e
  extract_lets of ten u at e
  have hu : Keeps s u := (h.wr.foldl fun _ _ hq => hq.importContext).setTen
  clear_value u
  split at e
  · cases e
  · split at e
    · cases e
    next v a idx hv =>
      have hr : Keeps s v := by
        refine foldl_keeps (P := fun r : Option (State × List (Nat × Nat) × List Nat) => ∀ q a b, r = some (q, a, b) → Keeps s q)
          (fun q a b hq => ?_) (fun r c hr q a b hq => Keeps.replayCmd hr hq) v a idx hv
        cases hq; exact hu
      cases e
      exact ((hr.foldl fun _ _ hq => hq.importState).foldl fun _ _ hq => hq.wr.wrb).wr.afterEvent

theorem Keeps.tenImport {q : State} (h : Keeps s t) (e : tenImport t = some q) : Keeps s q := by
  unfold Machine.tenImport at e
  extract_lets n addr at e
  split at e
  · cases e; exact h.tenRefuse
  · split at e
    · cases e; exact h.tenRefuse
    · split at e
      · cases e
      · extract_lets hw num len words at e
        split at e
        · cases e; exact h.tenRefuse
        · split at e
          · cases e; exact h.tenRefuse
          · split at e
            · cases e
            next hb =>
              have hq := h.dramRead hb
              extract_lets all head at e
              split at e
              · cases e; exact hq.tenRefuse
              · split at e
                · cases e; exact hq.tenRefuse
                · split at e
                  · cases e; exact hq.tenRefuse
                  next hi => cases e; exact (hq.importBlob hi).tenDone

theorem Keeps.tenResume (h : Keeps s t) : Keeps s (tenResume t) := by
  unfold Machine.tenResume
  extract_lets t1 T z
  split
  · exact h.tenRefuse
  · split
    · exact h.tenRefuse
    · exact h.setTen.tenDone

theorem Keeps.tenReset (h : Keeps s t) : Keeps s (tenReset t) := by
  unfold Machine.tenReset
  extract_lets t1 squash st z s1 s2
  have hs1 : Keeps s s1 := h.wr.setTen
  have hs2 : Keeps s s2 := by
    unfold s2
    refine hs1.foldl fun q a hq => ?_
    split
    · exact hq.dmaStop
    · exact hq
  split
  · exact h.tenRefuse
  · exact hs2.foldl fun _ _ hq => hq.destroyFn

theorem Keeps.tenBell {init : ℕ} {seq : ℕ} {opc : ℕ} {handle : ℕ} (h : Keeps s t) : Keeps s (tenBell t init seq opc handle) := by
  unfold Machine.tenBell
  extract_lets q late before
  have hbefore : Keeps s before := h
  split
  next x s1 e =>
    have hq := h.doorbell.fst e
    exact hq
  next x s1 e =>
    have hq := h.doorbell.fst e
    extract_lets s2
    have hs2 : Keeps s s2 := hq
    split
    · exact hs2.tenRefuse
    · split
      · exact hs2.tenActivate
      · split
        · exact hs2.qpCreate
        · split
          · exact hs2.qpFree.tenDone
          · split
            · exact hs2.tenFreeze
            · split
              · exact hs2.tenExport
              · split
                · exact hbefore.getD fun _ e => hs2.tenImport e
                · split
                  · exact hs2.tenResume
                  · exact hs2.tenReset

/-! ### Access -/

theorem Keeps.readWord {init : ℕ} {page : ℕ} {off : ℕ} (h : Keeps s t) : Keeps s (readWord t init page off).2 := by
  unfold Machine.readWord
  split
  · dsimp only
    exact h.free
  · exact h

theorem Keeps.clearRC {page : ℕ} {off : ℕ} (h : Keeps s t) : Keeps s (clearRC t page off) := h.setWord

theorem Keeps.readEffect {page : ℕ} {off : ℕ} (h : Keeps s t) : Keeps s (readEffect t page off) := by
  unfold Machine.readEffect
  split
  · split
    · exact h.withCsn
    · exact h.clearRC
  · split
    · exact h.biPop
    · exact h.clearRC
  · split
    · exact h.withMcu
    · exact h.clearRC
  · exact h.clearRC

theorem Keeps.pageRead {init : ℕ} {page : ℕ} {off : ℕ} {inspect : Bool} (h : Keeps s t) : Keeps s (pageRead t init page off inspect).2 := by
  unfold Machine.pageRead
  extract_lets r
  dsimp only
  split
  · exact h.readWord
  · exact h.readWord.readEffect

theorem Keeps.pageBell {init : ℕ} {page : ℕ} {value : Word} (h : Keeps s t) : Keeps s (pageBell t init page value) := by
  unfold Machine.pageBell
  extract_lets seq opc handle f unknown
  have hunknown : Keeps s unknown := h.doorbell
  split
  · split
    · exact h.rulDoorbell
    · exact hunknown
  · split
    · exact h.subCreate
    · split
      · exact h.subDestroy
      · split
        · exact h.subSetpol
        · exact hunknown
  · split
    · exact h.pubCreate
    · split
      · exact h.pubDestroy
      · exact hunknown
  · split
    · exact h.dmcBell
    · exact hunknown
  · split
    · exact h.dmaBell
    · exact hunknown
  · split
    · exact h.pwrBell
    · exact hunknown
  · split
    · exact h.bstBell fun _ hq => hq.fullTest
    · split
      · exact h.bstBell fun _ hq => hq.fuse
      · split
        · exact h.bstBell fun _ hq => hq.sealRecord
        · exact hunknown
  · split
    · exact h.tenBell
    · exact hunknown
  · exact h

theorem Keeps.qpTailWrite {j : ℕ} {v : ℕ} (h : Keeps s t) : Keeps s (qpTailWrite t j v) := by
  unfold Machine.qpTailWrite
  extract_lets q size ahead
  split
  · exact h.ignored
  · exact h.wr

theorem Keeps.vfMapWrite {off : ℕ} {value : Word} (h : Keeps s t) : Keeps s (vfMapWrite t off value) := by
  unfold Machine.vfMapWrite
  extract_lets en bad
  split
  · exact h.ignored
  · exact h.writeRW

theorem Keeps.pciConfig {value : Word} (h : Keeps s t) : Keeps s (pciConfig t value) := by
  unfold Machine.pciConfig
  split
  · exact h.ignored
  · exact h.writeRW

theorem Keeps.mcbWrite {init : ℕ} {off : ℕ} {value : Word} (h : Keeps s t) : Keeps s (mcbWrite t init off value) := by
  unfold Machine.mcbWrite
  split
  · split
    · exact h.ignored
    · exact h.writeRW
  · split
    · split
      · exact h.ignored
      · exact h.writeRW
    · split
      · refine h.foldl fun q a hq => ?_
        split
        · exact hq.mbPost
        · exact hq
      · split
        · split
          · exact h.wdgConfig
          · split
            · exact h.wdgKick
            · exact h.ignored
        · split
          · split
            · exact h.writeRW
            · exact h.ignored
          · split
            · split
              · exact h.mcReset
              · extract_lets kick s1
                have hs1 : Keeps s s1 := by
                  unfold s1
                  split
                  · exact h.mcPeriod
                  · exact h
                split
                · exact hs1.mcKick
                · exact hs1
            · exact h

theorem Keeps.bltWrite {init : ℕ} {off : ℕ} {value : Word} (h : Keeps s t) : Keeps s (bltWrite t init off value) := by
  unfold Machine.bltWrite
  split
  · extract_lets u v
    have hv : Keeps s v := by
      unfold v
      split
      · exact h.writeRW.blotClear
      · exact h.writeRW
    clear_value v
    split
    · exact hv.wr
    · exact hv
  · split
    · exact h.attachWrite
    · split
      · exact h.haltWrite
      · split
        · exact h.resumeWrite
        · split
          · exact h.stepWrite
          · split
            · exact h.srvalWrite
            · split
              · exact h.nibSelect
              · split
                · split
                  · exact h.writeRW
                  · exact h.ignored
                · split
                  · exact h.stimWrite
                  · split
                    · exact h.setWord
                    · exact h.writeRW

theorem Keeps.portWrite {page : ℕ} {off : ℕ} {value : Word} (h : Keeps s t) : Keeps s (portWrite t page off value) := by
  unfold Machine.portWrite
  extract_lets lane p rel
  clear_value p
  split
  · exact h.writeRW
  · split
    · exact h.writeRW
    · split
      · exact h.laneConfigWrite
      · split
        · split
          · split
            · exact h.cellRelearn
            · exact h.unlearn
          · exact h
        · exact h.writeRW

theorem Keeps.pageWrite {init : ℕ} {page : ℕ} {off : ℕ} {value : Word} (h : Keeps s t) : Keeps s (pageWrite t init page off value) := by
  unfold Machine.pageWrite
  extract_lets plain f a
  have hplain : Keeps s plain := h.writeRW
  split
  · exact h.stageWrite
  · split
    · exact h.pageBell
    · split
      · split
        · exact h.csnSealWrite
        · split
          · exact h.csnExpire.csnSignWrite
          · split
            · split
              · exact h.csnExpire.csnAbortWrite
              · exact h
            · exact hplain
      · split
        · exact h.timConfigWrite
        · split
          · exact h.timSetWrite
          · split
            · exact hplain.wr
            · split
              · exact h.errSync.writeRW
              · exact hplain
      · split
        · exact h.domParamWrite
        · split
          · exact h.domCtlWrite
          · exact hplain
      · split
        · exact h.domParamWrite
        · split
          · exact h.domCtlWrite
          · exact hplain
      · split
        · exact h.ignored
        · exact hplain
      · split
        · exact h.lrdWrite
        · exact hplain
      · split
        · exact h.pairConfigWrite
        · exact h.portWrite
      · exact h.portWrite
      · split
        · exact h.pairConfigWrite
        · exact hplain
      · split
        · exact h.schtWrite
        · split
          · exact h.schlWrite
          · split
            · split
              · exact h.ignored
              · exact hplain.biSample
            · exact hplain
      · split
        · exact h.runWrite
        · split
          · exact h.writeRW
          · exact hplain
      · split
        · exact h.icuSourceWrite
        · exact hplain
      · split
        · exact h.dmcConfig
        · exact hplain
      · split
        · exact h.swreqWrite
        · exact hplain
      · split
        · exact h.ignored
        · exact hplain
      · split
        · exact h.pciConfig
        · exact hplain
      · split
        · exact h.setWord
        · exact hplain
      · split
        · exact h.ignored
        · exact hplain
      · exact h.bltWrite
      · split
        · exact h.vfMapWrite
        · split
          · exact h.qpTailWrite
          · exact hplain
      · split
        · exact h.dpxConfig
        · split
          · split
            · exact h.dpxClear
            · exact h
          · exact hplain
      · exact h.mcbWrite
      · exact hplain

theorem Keeps.busErrFor {addr : ℕ} {code : ℕ} {init : ℕ} {write : Bool} (h : Keeps s t) :
    Keeps s (State.busErrFor t addr code init write) := by
  unfold State.busErrFor
  split
  · exact h.busErr
  · exact h.free.busErr

theorem Keeps.regAccess {init : ℕ} {vf : ℕ} {page : ℕ} {off : ℕ} {size : ℕ} {value : Option Word} {inspect : Bool} (h : Keeps s t) :
    Keeps s (regAccess t init vf page off size value inspect).2 := by
  unfold Machine.regAccess
  extract_lets page1 code r
  clear_value code
  split
  · dsimp only
    exact h.busErrFor
  · split
    · exact h
    · split
      · dsimp only
        exact h.pageWrite
      · dsimp only
        exact h.pageRead

theorem Keeps.commandAccess {init : ℕ} {vf : ℕ} {page : ℕ} {off : ℕ} {size : ℕ} {value : Option Word} (h : Keeps s t) :
    Keeps s (commandAccess t init vf page off size value) := by
  unfold Machine.commandAccess
  split
  next x s1 e =>
    have hq := h.regAccess.snd e
    exact hq.stall
  next x fst s1 x1 e =>
    have hq := h.regAccess.snd e
    exact hq

theorem Keeps.unstall {id : ℕ} (h : Keeps s t) : Keeps s (State.unstall t id) := h.withStalled

theorem Keeps.voteEntails {page : ℕ} {word : ℕ} {value : Word} (h : Keeps s t) : Keeps s (voteEntails t page word value) := by
  unfold Machine.voteEntails
  extract_lets f s1 s2
  have hs1 : Keeps s s1 := h.setWord
  have hs2 : Keeps s s2 := h.setWord
  split
  · split
    · exact h.setWord
    · split
      · split
        · exact h.setWord
        · exact h.laneConfigWrite
      · exact h
  · split
    · split
      · exact h.setWord
      · exact h.laneConfigWrite
    · exact h
  · split
    · exact h.runWrite
    · exact h.setWord
  · split
    · exact hs1.tripNow
    · exact hs1
  · split
    · exact hs2.signoffAll
    · exact hs2
  · exact h.setWord

/-! ### Commit -/

theorem Keeps.commitTrip {f : ℕ} (h : Keeps s t) : Keeps s (commitTrip t f) := by
  unfold Machine.commitTrip
  extract_lets s1 s2
  have hs1 : Keeps s s1 := by
    unfold s1
    split
    · exact h.wr.wr
    · exact h
  have hs2 : Keeps s s2 := by
    unfold s2
    split
    · exact hs1.schedCancel
    · exact hs1
  exact hs2.tripNow

theorem Keeps.commitArmed {was : Bool} (h : Keeps s t) : Keeps s (commitArmed t was) := by
  unfold Machine.commitArmed
  extract_lets on
  split
  · refine Keeps.signoffAll ?_
    refine Keeps.forEach h (fun q0 q1 hq => ?_)
    split
    · exact hq.schedCancel
    · exact hq
  · split
    · exact h.forEach fun _ _ hq => hq.tripNow
    · exact h

theorem Keeps.commitBench {was : ℕ} (h : Keeps s t) :
    Keeps s (commitBench t was) := h.forEach fun _ _ hq => (hq.forEach fun _ _ hq1 => hq1.releaseNib)

theorem Keeps.commitAll {T : ℕ} (h : Keeps s t) : Keeps s (commitAll t T) := by
  unfold Machine.commitAll
  extract_lets before es s1 changed s2 lines s3 s4 sl
  have hbefore : Keeps s before := h
  have hs1 : Keeps s s1 := h.csnApply
  have hs2 : Keeps s s2 := by
    unfold s2
    split
    · exact hs1.reselect
    · exact hs1
  have hs3 : Keeps s s3 := (hs2.forEach fun _ _ hq => hq.commitTrip).commitArmed
  have hs4 : Keeps s s4 := hs3.commitBench
  split
  · exact hs4.rulEvent
  · exact hs4

/-! ### Phys -/

theorem Keeps.inkRead {f : ℕ} {a : ℕ} {ecc : Ecc} (h : Keeps s t) : Keeps s (inkRead t f a ecc).2 := by
  unfold Machine.inkRead
  split
  · exact h
  · dsimp only
    exact h.bump
  · dsimp only
    exact h.inkUncorr.pageErr

theorem Keeps.outerWord (h : Keeps s t) : Keeps s (outerWord t).2 := by
  unfold Machine.outerWord
  extract_lets r
  dsimp only
  exact h.free

theorem Keeps.outerFails (h : Keeps s t) : Keeps s (outerFails t).2 := by
  unfold Machine.outerFails
  dsimp only
  exact h.free

theorem Keeps.physRead {init : ℕ} {vf : ℕ} {addr : ℕ} {size : ℕ} {inspect : Bool} {ecc : Ecc} (h : Keeps s t) :
    Keeps s (physRead t init vf addr size inspect ecc).2 := by
  unfold Machine.physRead
  extract_lets fail
  split
  · split
    · exact h.busErrFor
    · split
      next x ws p s1 e =>
        have hq := h.ncRead.snd e
        exact hq
      next x snd e =>
        have hq := h.ncRead.snd e
        exact hq
  · split
    next x v s1 e =>
      have hq := h.regAccess.snd e
      exact hq
    next x c s1 e =>
      have hq := h.regAccess.snd e
      exact hq
    next x s1 e =>
      have hq := h.regAccess.snd e
      exact hq
  · split
    · exact h.busErrFor
    · split
      · exact h.inkRead
      · exact h
      · exact h
      · exact h
      · exact h
      · split
        · exact h.outerFails.busErrFor
        · dsimp only
          exact h.outerFails.outerWord
      · exact h.busErrFor

theorem Keeps.physWrite {init : ℕ} {vf : ℕ} {addr : ℕ} {size : ℕ} {value : Word} {mask : Word} (h : Keeps s t) :
    Keeps s (physWrite t init vf addr size value mask).2 := by
  unfold Machine.physWrite
  extract_lets fail merge done
  have hfail : ∀ u c, Keeps s u → Keeps s (fail u c).2 := fun _ _ hu => hu.busErrFor
  have hdone : ∀ u, Keeps s u → Keeps s (done u).2 := fun _ hu => hu
  clear_value fail done
  split
  · split
    · exact hfail _ _ h
    · exact hdone _ h.ncWrite
  · split
    next e => exact hdone _ (h.regAccess.snd e)
    next e => exact h.regAccess.snd e
    next e => exact h.regAccess.snd e
  · split
    · exact hfail _ _ h
    · split
      · exact hdone _ h.setInk
      · exact hdone _ (h.setMcu fun i => twf_tset i _ _)
      · exact hdone _ h
      · exact hdone _ h
      · split
        · exact hfail _ _ h.outerFails
        · exact hdone _ h.outerFails
      · exact hfail _ _ h

/-! ### Dma -/

theorem Keeps.dmaStall {n : ℕ} {page : ℕ} {off : ℕ} {write : Bool} {value : Word} (h : Keeps s t) :
    Keeps s (dmaStall t n page off write value) := by
  unfold Machine.dmaStall
  split
  · exact h
  · exact h.stall

theorem Keeps.dmaUnstall {n : ℕ} (h : Keeps s t) : Keeps s (dmaUnstall t n) := h.withStalled

theorem Keeps.dmaResult {n : ℕ} {addr : ℕ} {write : Bool} {value : Word} {r : Phys × State} (h : Keeps s r.2) :
    Keeps s (dmaResult n addr write value r).2 := by
  unfold Machine.dmaResult
  split
  · dsimp only
    exact h.dmaUnstall
  · dsimp only
    exact h.dmaUnstall
  · dsimp only
    exact h.dmaUnstall
  · dsimp only
    exact h.dmaStall
  · exact h

theorem Keeps.dmaReads {n : ℕ} {addr : ℕ} {k : ℕ} (h : Keeps s t) : Keeps s (dmaReads t n addr k).2 := by
  unfold Machine.dmaReads
  split
  · split
    · dsimp only
      exact h.busErrFor
    · split
      · exact h
      · split
        next x fst s1 e =>
          have hq := h.ncRead.snd e
          exact hq
        next x ws s1 e =>
          have hq := h.ncRead.snd e
          exact hq
        next x s1 e =>
          have hq := h.ncRead.snd e
          exact hq
  · exact h.physRead.dmaResult

theorem Keeps.dmaWrites {n : ℕ} {addr : ℕ} {ws : List Word} (h : Keeps s t) : Keeps s (dmaWrites t n addr ws).2 := by
  unfold Machine.dmaWrites
  split
  · split
    · dsimp only
      exact h.busErrFor
    · extract_lets p z s1 z1
      have hs1 : Keeps s s1 := h.setDma
      dsimp only
      exact hs1.withMem
  · exact h.physWrite.dmaResult

theorem Keeps.setDmaList {n : ℕ} {dst : Bool} {l : DmaList} (h : Keeps s t) : Keeps s (setDmaList t n dst l) := h.setDma

theorem Keeps.dmaErr {n : ℕ} {e : DmaErr} (h : Keeps s t) : Keeps s (dmaErr t n e) := h.setDma

theorem Keeps.dmaIssued {n : ℕ} {wait : Option ℕ} (h : Keeps s t) : Keeps s (dmaIssued t n wait) := h.setDma

theorem Keeps.dmaTakeDesc {n : ℕ} {dst : Bool} {a : ℕ} {w0 : Word} {w1 : Word} (h : Keeps s t) : Keeps s (dmaTakeDesc t n dst a w0 w1) := by
  unfold Machine.dmaTakeDesc
  extract_lets s1 z l s2 addr len bad
  have hs1 : Keeps s s1 := h.bump
  have hs2 : Keeps s s2 := hs1.setDmaList
  split
  · exact hs2.dmaErr
  · split
    · split
      · exact hs2.dmaErr
      · exact hs2.setDmaList
    · split
      · exact hs2.dmaErr
      · exact hs2.setDmaList

theorem Keeps.dmaFetch {n : ℕ} {dst : Bool} (h : Keeps s t) : Keeps s (dmaFetch t n dst).1 := by
  unfold Machine.dmaFetch
  extract_lets l a limit bad
  split
  · exact h.dmaErr
  · split
    · exact h.dmaErr
    · split
      next x c b s1 e =>
        have hq := h.dmaReads.snd e
        exact hq.dmaErr
      next x line s1 e =>
        have hq := h.dmaReads.snd e
        dsimp only
        exact hq.dmaIssued
      next x w1 s1 e =>
        have hq := h.dmaReads.snd e
        split
        next x1 c b s2 e1 =>
          have hq1 := hq.dmaReads.snd e1
          exact hq1.dmaErr
        next x1 line s2 e1 =>
          have hq1 := hq.dmaReads.snd e1
          dsimp only
          exact hq1.dmaIssued
        next x1 w11 s2 e1 =>
          have hq1 := hq.dmaReads.snd e1
          dsimp only
          exact hq1.dmaIssued.dmaTakeDesc

theorem Keeps.dmaDescDone {n : ℕ} {dst : Bool} (h : Keeps s t) : Keeps s (dmaDescDone t n dst) := by
  unfold Machine.dmaDescDone
  extract_lets l
  refine Keeps.setDmaList ?_
  split
  · exact h.setBit
  · exact h

theorem Keeps.dmaPut {n : ℕ} (h : Keeps s t) : Keeps s (dmaPut t n).1 := by
  unfold Machine.dmaPut
  extract_lets c l k bad
  split
  · split
    · dsimp only
      exact h.dmaErr
    · exact h.dmaFetch
  · split
    · dsimp only
      exact h.dmaDescDone
    · split
      · exact h.dmaErr
      · split
        next x c1 b s1 e =>
          have hq := h.dmaWrites.snd e
          exact hq.dmaErr
        next x line s1 e =>
          have hq := h.dmaWrites.snd e
          dsimp only
          exact hq.dmaIssued
        next x w1 s1 e =>
          have hq := h.dmaWrites.snd e
          extract_lets s2 z s3
          have hs2 : Keeps s s2 := hq.dmaIssued
          have hs3 : Keeps s s3 := hs2.setDma
          dsimp only
          exact hs3.wr

theorem Keeps.dmaGet {n : ℕ} (h : Keeps s t) : Keeps s (dmaGet t n).1 := by
  unfold Machine.dmaGet
  extract_lets c l s1 k bad
  have hs1 : Keeps s s1 := h.dmaDescDone
  split
  · exact h.dmaFetch
  · split
    · dsimp only
      split
      · exact hs1.setDma
      · exact hs1
    · split
      · exact h.dmaErr
      · split
        next x c1 b s2 e =>
          have hq := h.dmaReads.snd e
          exact hq.dmaErr
        next x line s2 e =>
          have hq := h.dmaReads.snd e
          dsimp only
          exact hq.dmaIssued
        next x w1 s2 e =>
          have hq := h.dmaReads.snd e
          extract_lets s3 c1 s4
          have hs3 : Keeps s s3 := hq.dmaIssued
          have hs4 : Keeps s s4 := hs3.setDma
          dsimp only
          exact hs4.wr.wr

theorem Keeps.dmaMove {n : ℕ} (h : Keeps s t) : Keeps s (dmaMove t n).1 := by
  unfold Machine.dmaMove
  extract_lets c
  split
  · exact h.dmaPut
  · split
    · exact h
    · exact h.dmaGet

theorem Keeps.dmaMoves {k n : ℕ} (h : Keeps s t) : Keeps s (dmaMoves k t n) := by
  induction k generalizing t with
  | zero => exact h
  | succ k ih =>
    unfold Machine.dmaMoves
    split
    next e => exact ih (h.dmaMove.fst e)
    next e => exact h.dmaMove.fst e

theorem Keeps.dmaRelease {n : ℕ} (h : Keeps s t) : Keeps s (dmaRelease t n) := h.dmaUnstall.setDma

theorem Keeps.dmaBurstEnd {n : ℕ} (h : Keeps s t) : Keeps s (dmaBurstEnd t n) := by
  unfold Machine.dmaBurstEnd
  extract_lets c s1 f s2 v s3 s4
  have hs1 : Keeps s s1 := by
    unfold s1
    split
    · exact h.bump
    · exact h
  have hs2 : Keeps s s2 := hs1.dmaRelease
  have hs3 : Keeps s s3 := by
    unfold s3
    split
    · exact hs2.gated fun _ hq => hq.lrdWrite
    · exact hs2
  have hs4 : Keeps s s4 := hs3.wr.wr
  split
  · exact h.dmaRelease.dmaFail.dmaStopped
  · split
    · exact h.dmaRelease.dmaStopped
    · split
      · exact hs3.dmaStopped
      · split
        · refine Keeps.dmaEvent ?_
          split
          · exact hs4.wr
          · exact hs4
        · exact hs3.dmaShowWait

/-! ### Walk -/

theorem Keeps.andThen {α : Type} {β : Type} {r : Res α × State} {f : α → State → Res β × State} (h : Keeps s r.2)
    (hf : ∀ x0 q, Keeps s q → Keeps s (f x0 q).2) :
    Keeps s (andThen r f).2 := by
  unfold Machine.andThen
  split
  · exact hf _ _ h
  · exact h
  · exact h

theorem Keeps.noteWalk {x : CoreAcc} {va : ℕ} {pa : ℕ} {sub : ℕ} (h : Keeps s t) : Keeps s (noteWalk t x va pa sub) := by
  unfold Machine.noteWalk
  extract_lets w
  split
  · split
    · exact h
    · exact h.modScribe
  · exact h.modScribe

theorem Keeps.tableWord {x : CoreAcc} {va : ℕ} {pa : ℕ} {sub : ℕ} (h : Keeps s t) : Keeps s (tableWord t x va pa sub).2 := by
  unfold Machine.tableWord
  extract_lets bad timed
  have hbad : ∀ k u, Keeps s u → Keeps s (bad k u).2 := fun _ _ hu => hu
  clear_value bad timed
  split
  · exact hbad _ _ h
  · split
    · exact hbad _ _ h.busErrFor
    · split
      · exact hbad _ _ h
      · split
        next e => exact (h.acquireLine.snd e).noteWalk
        next e =>
          have hq := h.acquireLine.snd e
          split
          · exact hbad _ _ hq
          · exact hq

theorem Keeps.cachedPtr {x : CoreAcc} {stage2 : Bool} {a : ℕ} {level : ℕ} (h : Keeps s t) : Keeps s (cachedPtr t x stage2 a level).2 := by
  unfold Machine.cachedPtr
  extract_lets t1
  split
  · split
    · dsimp only
      exact h.free
    · dsimp only
      exact h.free
  · exact h

theorem Keeps.keepPtr {x : CoreAcc} {stage2 : Bool} {a : ℕ} {level : ℕ} {frame : ℕ} (h : Keeps s t) :
    Keeps s (keepPtr t x stage2 a level frame) := by
  unfold Machine.keepPtr
  exact h.modScribe

theorem Keeps.walk2 {x : CoreAcc} {va : ℕ} {ipa : ℕ} {sub : ℕ} {k frame : ℕ} (h : Keeps s t) :
    Keeps s (walk2 x va ipa sub k frame t).2 := by
  induction k generalizing t frame with
  | zero => exact h
  | succ k ih =>
    unfold Machine.walk2
    extract_lets level pa
    split
    next e => exact ih (h.cachedPtr.snd e)
    next e =>
      refine (h.cachedPtr.snd e).tableWord.andThen fun v q hq => ?_
      split
      · exact hq
      · exact ih hq.keepPtr
      · exact hq

theorem Keeps.place2 {x : CoreAcc} {va : ℕ} {ipa : ℕ} (h : Keeps s t) : Keeps s (place2 x va ipa t).2 := by
  unfold Machine.place2
  split
  · exact h
  · refine Keeps.andThen ?_ (fun q0 q1 hq => ?_)
    · exact h.walk2
    · split
      · exact hq
      · exact hq

theorem Keeps.walk1 {x : CoreAcc} {va : ℕ} {k frame : ℕ} {used : List Leaf} (h : Keeps s t) : Keeps s (walk1 x va k frame used t).2 := by
  induction k generalizing t frame used with
  | zero => exact h
  | succ k ih =>
    unfold Machine.walk1
    extract_lets level ipa
    split
    next e => exact ih (h.cachedPtr.snd e)
    next e =>
      refine (h.cachedPtr.snd e).place2.andThen fun p q hq => hq.tableWord.andThen fun v q hq => ?_
      extract_lets used
      split
      · exact hq
      · exact ih hq.keepPtr
      · exact hq

theorem Keeps.setBits_nil (s : State) (x : CoreAcc) (va : ℕ) : Machine.setBits s x va [] = (.ok (), s) := by
  delta Machine.setBits
  rfl

theorem Keeps.setBits_cons (s : State) (x : CoreAcc) (va : ℕ) (b : ℕ × ℕ) (l : List (ℕ × ℕ)) :
    Machine.setBits s x va (b :: l) = match Machine.acquire s x.n (b.1 / 64) true with
      | (false, s) => (.wait, Machine.noteWalk s x va b.1 0)
      | (true, s) => Machine.setBits (Machine.l2Write s x.n (b.1 / 64)
          (maskBytes b.1 ((s.l2 (x.n / 8) (b.1 / 64)).words.getD (b.1 / 8 % 8) 0 ||| BitVec.ofNat 72 b.2) allOnes)) x va l := by
  delta Machine.setBits
  rfl

theorem Keeps.setBits {x : CoreAcc} {va : ℕ} {l : List (ℕ × ℕ)} (h : Keeps s t) : Keeps s (setBits t x va l).2 := by
  induction l generalizing t with
  | nil => exact Keeps.setBits_nil t x va ▸ h
  | cons b l ih =>
    rw [Keeps.setBits_cons]
    split
    next e =>
      dsimp only
      exact (h.acquireLine.snd e).noteWalk
    next e => exact ih (h.acquireLine.snd e).l2Write

theorem Keeps.tlbDropPage {x : CoreAcc} {va : ℕ} (h : Keeps s t) : Keeps s (tlbDropPage t x va) := by
  unfold Machine.tlbDropPage
  exact h.modScribe

theorem Keeps.tlbFill {x : CoreAcc} {va : ℕ} {pa : ℕ} {attr : ℕ} {size : ℕ} {f : Option Found} {l2 : Option Leaf} {ipa : ℕ} {d : Bool}
    (h : Keeps s t) :
    Keeps s (tlbFill t x va pa attr size f l2 ipa d) := by
  unfold Machine.tlbFill
  exact h.modScribe

theorem Keeps.finishWalk {x : CoreAcc} {va : ℕ} {ipa : ℕ} {f : Option Found} (h : Keeps s t) : Keeps s (finishWalk x va ipa f t).2 := by
  unfold Machine.finishWalk
  extract_lets r2 e1 upd e3 abit own maps d
  have hr2 : Keeps s r2.2 := by
    unfold r2
    split
    · exact h.walk2.andThen fun _ _ hq => hq
    · exact h
  refine Keeps.andThen ?_ (fun q0 q1 hq => ?_)
  · exact hr2
  · extract_lets e2 pa attr size
    clear_value e1
    clear_value e2
    split
    · exact hq
    · exact hq
    · split
      · exact hq
      · clear_value e3
        split
        · exact hq
        · exact hq.setBits.andThen fun _ _ hq1 => hq1.tlbFill

theorem Keeps.walkAll {x : CoreAcc} {va : ℕ} (h : Keeps s t) : Keeps s (walkAll x va t).2 := by
  unfold Machine.walkAll
  split
  · exact h.walk1.andThen fun _ _ hq => hq.finishWalk
  · split
    · exact h
    · exact h.finishWalk

theorem Keeps.translate {x : CoreAcc} {ea : Word} (h : Keeps s t) : Keeps s (translate t x ea).2 := by
  unfold Machine.translate
  extract_lets va report hit r
  have hr : Keeps s r.2 := by
    unfold r
    clear_value hit
    split
    · split
      · dsimp only
        exact h.free
      · exact h.free.walkAll
    · exact h.walkAll
  split
  · exact h
  · split
    · split
      · exact h
      · split
        · exact h
        · exact h
    · clear_value r
      split
      · exact hr
      · dsimp only
        exact hr.modScribe
      · extract_lets s1
        have hs1 : Keeps s s1 := hr.modScribe
        dsimp only
        split
        · exact hs1.tlbDropPage
        · exact hs1

theorem Keeps.tlbInvalidate {n : ℕ} {kind : ℕ} {ga : Word} {gb : Word} (h : Keeps s t) :
    Keeps s (tlbInvalidate t n kind ga gb) := h.forEach fun _ _ hq => hq.modScribe

/-! ### Exc -/

theorem Keeps.makeRoom {k n need : ℕ} (h : Keeps s t) : Keeps s (makeRoom k t n need).2 := by
  induction k generalizing t with
  | zero => exact h
  | succ k ih =>
    unfold Machine.makeRoom
    split
    · exact h
    · split
      next e => exact h.drainOne.snd e
      next e => exact ih (h.drainOne.snd e)

theorem Keeps.writeWords {x : CoreAcc} {va : ℕ} {pa : ℕ} {ws : List Word} (h : Keeps s t) : Keeps s (writeWords t x va pa ws).2 := by
  unfold Machine.writeWords
  refine Keeps.foldlSnd ?_ fun p a hq => ?_
  · exact h
  · refine Keeps.andThen ?_ (fun q0 q1 hq1 => ?_)
    · exact hq
    · split
      next x1 value poison s1 e =>
        have hq2 := hq1.physWrite.snd e
        exact hq2
      next x1 c s1 e =>
        have hq2 := hq1.physWrite.snd e
        exact hq2
      next x1 fst s1 x2 x3 e =>
        have hq2 := hq1.physWrite.snd e
        exact hq2

theorem Keeps.writeFrame {n : ℕ} {level : ℕ} {esp : Word} {ws : List Word} (h : Keeps s t) : Keeps s (writeFrame t n level esp ws).2 := by
  unfold Machine.writeFrame
  extract_lets x va
  split
  · exact h.writeWords
  · refine Keeps.andThen ?_ (fun q0 q1 hq => ?_)
    · exact h.translate
    · split
      · exact hq.writeWords
      · split
        · dsimp only
          exact hq.busErrFor
        · split
          · dsimp only
            exact hq.ncWrite
          · split
            next x1 s1 e =>
              have hq1 := hq.makeRoom.snd e
              exact hq1
            next x1 s1 e =>
              have hq1 := hq.makeRoom.snd e
              dsimp only
              exact hq1.putStore

theorem Keeps.coreLock {n : ℕ} {cause : ℕ} {pc : ℕ} (h : Keeps s t) : Keeps s (coreLock t n cause pc) := by
  unfold Machine.coreLock
  split
  · exact h.mcRestart
  · exact h.scribeLock

theorem Keeps.entered {n : ℕ} {e : Entry} {esp : Word} (h : Keeps s t) :
    Keeps s (entered t n e esp) := h.modScribeSr.setStatus.modScribe.tracePacket.tracePacket

theorem Keeps.enter {k n : ℕ} {x : Entry} (h : Keeps s t) : Keeps s (enter k t n x).2 := by
  induction k generalizing t x with
  | zero => exact h
  | succ k ih =>
    unfold Machine.enter
    extract_lets esp slim last
    clear_value esp slim last
    generalize (if last = true then esp.toNat + 128 else esp.toNat) = room
    split
    · split
      · exact h.coreLock
      · exact ih h
    · split
      next e => exact h.writeFrame.snd e
      next e =>
        have hq := h.writeFrame.snd e
        split
        · exact hq.coreLock
        · exact ih hq
      next e => exact (h.writeFrame.snd e).entered

theorem Keeps.raiseExc {n : ℕ} {x : Exc} (h : Keeps s t) : Keeps s (raiseExc t n x).2 := by
  unfold Machine.raiseExc
  extract_lets c cl
  split
  · split
    · dsimp only
      exact h.coreLock
    · exact h.enter
  · exact h.enter

theorem Keeps.stepDone {n : ℕ} (h : Keeps s t) : Keeps s (stepDone t n) := by
  unfold Machine.stepDone
  extract_lets c up
  split
  · exact h.coreHalt
  · exact h

theorem Keeps.trap {n : ℕ} {x : Exc} (h : Keeps s t) : Keeps s (trap t n x) := by
  unfold Machine.trap
  extract_lets pc
  split
  next x1 s1 e =>
    have hq := h.raiseExc.snd e
    exact hq
  next x1 fst s1 x2 e =>
    have hq := h.raiseExc.snd e
    extract_lets s2
    have hs2 : Keeps s s2 := by
      unfold s2
      split
      · exact hq.bump.wr
      · exact hq
    exact hs2.stepDone

theorem Keeps.takeInterrupt {n : ℕ} {src : ℕ} {level : ℕ} {ilvl : ℕ} (h : Keeps s t) : Keeps s (takeInterrupt t n src level ilvl) := by
  unfold Machine.takeInterrupt
  extract_lets x
  split
  next x1 s1 e =>
    have hq := h.enter.snd e
    exact hq
  next x1 fst s1 x2 e =>
    have hq := h.enter.snd e
    exact hq.stepDone

theorem Keeps.icuTaken {n : ℕ} {src : ℕ} (h : Keeps s t) : Keeps s (icuTaken t n src) := by
  unfold Machine.icuTaken
  split
  · exact h.withIcu
  · exact h

theorem Keeps.wake {n : ℕ} (h : Keeps s t) : Keeps s (wake t n) := by
  unfold Machine.wake
  extract_lets pc s1
  have hs1 : Keeps s s1 := h.modScribe
  split
  · exact hs1.wr.wr.bump
  · exact hs1

theorem Keeps.icuCommand {n : ℕ} {f : State → State} (h : Keeps s t) (hf : ∀ q, Keeps s q → Keeps s (f q)) :
    Keeps s (icuCommand t n f) := by
  unfold Machine.icuCommand
  split
  · exact h
  · split
    · exact h.trap
    · exact hf _ h

/-! ### Data -/

theorem Keeps.locate {x : CoreAcc} {ea : Word} {size : ℕ} (h : Keeps s t) : Keeps s (locate t x ea size).2 := by
  unfold Machine.locate
  extract_lets parts r
  have hr : Keeps s r.2 := by
    unfold r
    refine Keeps.foldlSnd ?_ fun p a hq => ?_
    · exact h
    · refine Keeps.andThen ?_ (fun q0 q1 hq1 => ?_)
      · exact hq
      · split
        · exact hq1
        · exact hq1.translate.andThen fun _ _ hq2 => hq2
  refine Keeps.andThen ?_ (fun q0 q1 hq => ?_)
  · exact hr
  · split
    · exact hq
    · exact hq

theorem Keeps.l2Uncorr {d : ℕ} {line : ℕ} (h : Keeps s t) : Keeps s (l2Uncorr t d line) := by
  unfold Machine.l2Uncorr
  extract_lets s1 s2 s3 x
  have hs1 : Keeps s s1 := h.bump
  have hs2 : Keeps s s2 := by
    unfold s2
    split
    · exact hs1
    · exact hs1.wr.wr
  have hs3 : Keeps s s3 := hs2.pageErr
  split
  · exact hs3.setL2
  · exact hs3.l2Lose

theorem Keeps.l1Use {n : ℕ} {line : ℕ} (h : Keeps s t) : Keeps s (l1Use t n line) := h.modScribe

theorem Keeps.cacheRead {n : ℕ} {line : ℕ} {own : Bool} {err : MemErr} (h : Keeps s t) : Keeps s (cacheRead t n line own err).2 := by
  unfold Machine.cacheRead
  extract_lets d
  split
  next x s1 e =>
    have hq := h.acquireLine.snd e
    exact hq
  next x s1 e =>
    have hq := h.acquireLine.snd e
    extract_lets hit s2 s3 s4
    have hs2 : Keeps s s2 := by
      unfold s2
      split
      · split
        · exact hq.bump
        · exact hq
      · exact hq.bump
    have hs3 : Keeps s s3 := by
      unfold s3
      split
      · exact hs2.bump
      · exact hs2
    have hs4 : Keeps s s4 := by
      unfold s4
      split
      · exact hs3.l2Uncorr
      · exact hs3
    split
    next x1 s5 e1 =>
      have hq1 := hs4.acquireLine.snd e1
      exact hq1
    next x1 s5 e1 =>
      have hq1 := hs4.acquireLine.snd e1
      dsimp only
      exact hq1.l1Use

theorem Keeps.coreStall {x : CoreAcc} {p : Part} {page : ℕ} {off : ℕ} {value : Word} (h : Keeps s t) :
    Keeps s (coreStall t x p page off value) := by
  unfold Machine.coreStall
  split
  · exact h
  · extract_lets id a
    exact h.withStalled

theorem Keeps.coreUnstall {n : ℕ} (h : Keeps s t) : Keeps s (coreUnstall t n) := h.withStalled

theorem Keeps.physResult {x : CoreAcc} {p : Part} {value : Word} {r : Phys × State} (h : Keeps s r.2) :
    Keeps s (physResult x p value r).2 := by
  unfold Machine.physResult
  split
  · dsimp only
    exact h.coreUnstall
  · dsimp only
    exact h.coreUnstall
  · dsimp only
    exact h.coreStall
  · exact h

theorem Keeps.readBytes {x : CoreAcc} {p : Part} {own : Bool} {err : MemErr} (h : Keeps s t) : Keeps s (readBytes t x p own err).2 := by
  unfold Machine.readBytes
  extract_lets at' line r
  have hr : Keeps s r.2 := by
    unfold r
    split
    · split
      next x1 w s1 e =>
        have hq := h.ncRead.snd e
        exact hq
      next x1 s1 e =>
        have hq := h.ncRead.snd e
        exact hq
    · exact h.cacheRead
  split
  · dsimp only
    exact h.busErrFor
  · refine Keeps.andThen ?_ (fun q0 q1 hq => ?_)
    · exact hr
    · extract_lets wr ws
      split
      · exact hq
      · exact hq

theorem Keeps.readPart {x : CoreAcc} {p : Part} {own : Bool} {err : MemErr} (h : Keeps s t) : Keeps s (readPart t x p own err).2 := by
  unfold Machine.readPart
  split
  · extract_lets ecc
    refine Keeps.andThen ?_ (fun q0 q1 hq => ?_)
    · exact h.physRead.physResult
    · split
      · exact hq
      · exact hq
  · exact h.readBytes.andThen fun _ _ hq => hq

theorem Keeps.memLoad {x : CoreAcc} {ea : Word} {size : ℕ} {err : MemErr} (h : Keeps s t) : Keeps s (memLoad t x ea size err).2 := by
  unfold Machine.memLoad
  refine Keeps.andThen ?_ (fun q0 q1 hq => ?_)
  · exact h.locate
  · refine Keeps.foldlSnd ?_ fun p a hq1 => ?_
    · exact hq
    · exact hq1.andThen fun _ _ hq2 => (hq2.readPart.andThen fun _ _ hq3 => hq3)

theorem Keeps.storeErr {n : ℕ} {line : ℕ} {err : MemErr} (h : Keeps s t) : Keeps s (storeErr t n line err) := by
  unfold Machine.storeErr
  split
  · exact h
  · split
    · exact h.bump
    · exact h
  · exact h.bump
  · exact h.l2Uncorr

theorem Keeps.storeParts {x : CoreAcc} {l : List Part} {size : ℕ} {v : Word} {err : MemErr} (h : Keeps s t) :
    Keeps s (storeParts t x l size v err).2 := by
  unfold Machine.storeParts
  split
  · dsimp only
    exact h.busErrFor
  · extract_lets room
    have hroom : Keeps s room.2 := by
      unfold room
      split
      · exact h.makeRoom
      · exact h
    split
    · exact hroom
    · refine Keeps.foldlSnd ?_ fun p a hq => ?_
      · exact hroom
      · refine Keeps.andThen ?_ (fun q0 q1 hq1 => ?_)
        · exact hq
        · extract_lets part wr lane s1
          have hs1 : Keeps s s1 := by
            unfold s1
            split
            · exact hq1.storeErr
            · exact hq1
          split
          · exact hq1.physWrite.physResult.andThen fun _ _ hq2 => hq2
          · dsimp only
            split
            · exact hs1.ncWrite
            · exact hs1.putStore

/-! ### Coh -/

theorem Keeps.coreStore {x : CoreAcc} {ea : Word} {size : ℕ} {v : Word} {err : MemErr} (h : Keeps s t) :
    Keeps s (Machine.memStore t x ea size v err).2 := h.locate.andThen fun _ _ hq => hq.storeParts

/-! ### Data -/

theorem Keeps.coreCompare {n : ℕ} {kind : ℕ} {addr : ℕ} {value : Word} (h : Keeps s t) : Keeps s (coreCompare t n kind addr value) := by
  unfold Machine.coreCompare
  refine h.foldl fun q a hq => ?_
  split
  · exact hq
  · extract_lets s1 act ok
    have hs1 : Keeps s s1 := hq.bump
    split
    · split
      · exact hs1.modScribe
      · exact hs1
    · split
      · exact hs1
      · split
        · exact hs1.flushBrh.trace
        · split
          · exact hs1.flushBrh.traceTrig
          · exact hs1

/-! ### Insn -/

theorem Keeps.fetch {n : ℕ} (h : Keeps s t) : Keeps s (fetch t n).2 := by
  unfold Machine.fetch
  extract_lets c x inside
  split
  · split
    · dsimp only
      exact h.busErrFor
    · split
      next x1 s1 e =>
        have hq := h.mcFetch.snd e
        exact hq
      next x1 s1 e =>
        have hq := h.mcFetch.snd e
        exact hq
  · refine Keeps.andThen ?_ (fun q0 q1 hq => ?_)
    · exact h.translate
    · split
      · dsimp only
        exact hq.busErrFor
      · split
        · exact hq
        · exact hq

theorem Keeps.finish {n : ℕ} {next : Option ℕ} (h : Keeps s t) : Keeps s (finish t n next) := by
  unfold Machine.finish
  split
  · exact h.stepDone
  · extract_lets old s1
    have hs1 : Keeps s s1 := h.modScribe
    refine Keeps.stepDone ?_
    split
    · exact hs1.wr.bump
    · exact hs1

theorem Keeps.issue {n : ℕ} {half : ℕ} {body : Body} (h : Keeps s t) (hbody : ∀ q, Keeps s q → Keeps s (body q).2) :
    Keeps s (issue t n half body) := by
  unfold Machine.issue
  split
  · exact h
  · split
    · exact h.coreHalt
    · split
      · exact h.icuTaken.takeInterrupt
      · split
        next x s1 e =>
          have hq := h.fetch.snd e
          exact hq
        next x x1 s1 e =>
          have hq := h.fetch.snd e
          exact hq.trap
        next x a s1 e =>
          have hq := h.fetch.snd e
          extract_lets pc
          split
          · exact hq.coreCompare.coreHalt
          · split
            · exact hbody _ hq
            next x1 x2 s2 e1 =>
              have hq1 := (hbody _ hq.coreCompare).snd e1
              exact hq1.trap
            next x1 next s2 e1 =>
              have hq1 := (hbody _ hq.coreCompare).snd e1
              exact hq1.finish

theorem Keeps.illegal (h : Keeps s t) : Keeps s (illegal t).2 := h

theorem Keeps.result {n : ℕ} {gd : ℕ} {v : Word} (h : Keeps s t) : Keeps s (result t n gd v).2 := by
  unfold Machine.result
  dsimp only
  exact h.setG

/-! ### Alu -/

theorem Keeps.regOp {n : ℕ} {gd : ℕ} {ga : ℕ} {gb : ℕ} {f : Word → Word → Word} (h : Keeps s t) :
    Keeps s (regOp n gd ga gb f t).2 := h.result

theorem Keeps.unaryOp {n : ℕ} {gd : ℕ} {ga : ℕ} {gb : ℕ} {f : Word → Word} (h : Keeps s t) : Keeps s (unaryOp n gd ga gb f t).2 := by
  unfold Machine.unaryOp
  split
  · exact h.illegal
  · exact h.result

theorem Keeps.selBody {n : ℕ} {gd : ℕ} {ga : ℕ} {gb : ℕ} {fn : ℕ} (h : Keeps s t) : Keeps s (selBody n gd ga gb fn t).2 := by
  unfold Machine.selBody
  split
  · exact h.illegal
  · split
    · exact h.illegal
    · exact h.result

theorem Keeps.immOp {n : ℕ} {gd : ℕ} {ga : ℕ} {f : Word → Word} (h : Keeps s t) : Keeps s (immOp n gd ga f t).2 := h.result

theorem Keeps.shiftImm {n : ℕ} {gd : ℕ} {ga : ℕ} {imm : ℕ} {f : Word → ℕ → Word} (h : Keeps s t) :
    Keeps s (shiftImm n gd ga imm f t).2 := by
  unfold Machine.shiftImm
  split
  · exact h.illegal
  · exact h.result

theorem Keeps.unpackBody {n : ℕ} {gd : ℕ} {ga : ℕ} {gb : ℕ} {fn : ℕ} (h : Keeps s t) : Keeps s (unpackBody n gd ga gb fn t).2 := by
  unfold Machine.unpackBody
  extract_lets v
  split
  · exact h.illegal
  · exact h.result

theorem Keeps.packBody {n : ℕ} {gd : ℕ} {ga : ℕ} {gb : ℕ} {fn : ℕ} (h : Keeps s t) : Keeps s (packBody n gd ga gb fn t).2 := by
  unfold Machine.packBody
  extract_lets octet
  split
  · exact h.illegal
  · exact h.result

theorem Keeps.crcBody {n : ℕ} {gd : ℕ} {ga : ℕ} {gb : ℕ} {fn : ℕ} (h : Keeps s t) : Keeps s (crcBody n gd ga gb fn t).2 := by
  unfold Machine.crcBody
  extract_lets count packed poly octet
  split
  · split
    · exact h.illegal
    · exact h.result
  · split
    · exact h.illegal
    · exact h.result

/-! ### Block -/

theorem Keeps.blockPlace {x : CoreAcc} {ea : Word} {len : ℕ} (h : Keeps s t) : Keeps s (blockPlace t x ea len).2 := by
  unfold Machine.blockPlace
  refine Keeps.andThen ?_ (fun q0 q1 hq => ?_)
  · exact h.translate
  · split
    · exact hq
    · split
      · dsimp only
        exact hq.busErrFor
      · exact hq

theorem Keeps.blockWrite {n : ℕ} {p : Part} {l : List ℕ} (h : Keeps s t) : Keeps s (blockWrite t n p l).2 := by
  unfold Machine.blockWrite
  extract_lets wr
  split
  · dsimp only
    exact h.ncWrite
  · split
    next x s1 e =>
      have hq := h.makeRoom.snd e
      exact hq
    next x s1 e =>
      have hq := h.makeRoom.snd e
      dsimp only
      exact hq.putStore

theorem Keeps.blockNext {n : ℕ} {gb : ℕ} (h : Keeps s t) : Keeps s (blockNext t n gb).2 := h

theorem Keeps.bmoveBody {n : ℕ} {half : ℕ} {gd : ℕ} {ga : ℕ} {gb : ℕ} {err : MemErr} (h : Keeps s t) :
    Keeps s (bmoveBody n half gd ga gb err t).2 := by
  unfold Machine.bmoveBody
  extract_lets dst src left k delta w
  split
  · exact h.illegal
  · split
    · exact h.blockNext
    · refine Keeps.andThen ?_ (fun q0 q1 hq => ?_)
      · exact h.blockPlace
      · refine Keeps.andThen ?_ (fun q0 q1 hq1 => ?_)
        · exact hq.blockPlace
        · refine Keeps.andThen ?_ (fun q0 q1 hq2 => ?_)
          · exact hq1.readBytes
          · extract_lets l
            refine Keeps.andThen ?_ (fun q0 q1 hq3 => ?_)
            · exact hq2.blockWrite
            · extract_lets s1 s2
              have hs1 : Keeps s s1 := hq3.setG.setG.setG
              have hs2 : Keeps s s2 := hs1.coreCompare
              exact hs2.coreCompare.blockNext

theorem Keeps.bfillBody {n : ℕ} {half : ℕ} {gd : ℕ} {ga : ℕ} {gb : ℕ} {err : MemErr} (h : Keeps s t) :
    Keeps s (bfillBody n half gd ga gb err t).2 := by
  unfold Machine.bfillBody
  extract_lets dst left k w
  split
  · exact h.illegal
  · split
    · exact h.blockNext
    · refine Keeps.andThen ?_ (fun q0 q1 hq => ?_)
      · exact h.blockPlace
      · extract_lets s1 l
        have hs1 : Keeps s s1 := by
          unfold s1
          split
          · exact hq.storeErr
          · exact hq
        refine Keeps.andThen ?_ (fun q0 q1 hq1 => ?_)
        · exact hs1.blockWrite
        · extract_lets s2
          have hs2 : Keeps s s2 := hq1.setG.setG
          exact hs2.coreCompare.blockNext

theorem Keeps.bscanBody {n : ℕ} {half : ℕ} {gd : ℕ} {ga : ℕ} {gb : ℕ} {fn : ℕ} {err : MemErr} (h : Keeps s t) :
    Keeps s (bscanBody n half gd ga gb fn err t).2 := by
  unfold Machine.bscanBody
  extract_lets start left u x k
  split
  · exact h.illegal
  · split
    · exact h.blockNext
    · split
      · exact h
      · refine Keeps.andThen ?_ (fun q0 q1 hq => ?_)
        · exact h.blockPlace
        · refine Keeps.andThen ?_ (fun q0 q1 hq1 => ?_)
          · exact hq.readBytes
          · extract_lets key s1 hit
            have hs1 : Keeps s s1 := hq1.coreCompare
            split
            · dsimp only
              exact hs1.setG.setG
            · exact hs1.setG.setG.blockNext

/-! ### Control -/

theorem Keeps.transfer {n : ℕ} {target : ℕ} (h : Keeps s t) : Keeps s (transfer t n target) := h.modScribe

theorem Keeps.branchBody {n : ℕ} {ga : ℕ} {gb : ℕ} {disp : ℕ} {test : Word → Word → Bool} (h : Keeps s t) :
    Keeps s (branchBody n ga gb disp test t).2 := by
  unfold Machine.branchBody
  extract_lets taken target s1 s2
  have hs1 : Keeps s s1 := by
    unfold s1
    split
    · exact h.bump
    · exact h
  have hs2 : Keeps s s2 := hs1.traceBranch
  split
  · dsimp only
    exact hs2.transfer
  · exact hs2

theorem Keeps.pushReturn {n : ℕ} (h : Keeps s t) : Keeps s (pushReturn t n) := by
  unfold Machine.pushReturn
  exact h.modScribe

theorem Keeps.jalrBody {n : ℕ} {gd : ℕ} {ga : ℕ} {gb : ℕ} {fn : ℕ} (h : Keeps s t) : Keeps s (jalrBody n gd ga gb fn t).2 := by
  unfold Machine.jalrBody
  split
  · exact h.illegal
  · extract_lets c target ret idx s1 s2 s3 s4 s5 s6
    have hs1 : Keeps s s1 := by
      unfold s1
      split
      · exact h.bump
      · exact h
    have hs2 : Keeps s s2 := by
      unfold s2
      split
      · exact h.bump
      · exact h
    have hs3 : Keeps s s3 := by
      unfold s3
      split
      · exact hs1.modScribe
      · exact hs2.modScribe
    have hs4 : Keeps s s4 := by
      unfold s4
      split
      · exact hs3.pushReturn
      · exact hs3
    have hs5 : Keeps s s5 := hs4.setG
    have hs6 : Keeps s s6 := hs5.transfer
    dsimp only
    exact hs6.tracePacket

/-! ### Dbgacc -/

theorem Keeps.dbgResult {status : ℕ} {data : Word} (h : Keeps s t) : Keeps s (dbgResult t status data) := h.withDbg

theorem Keeps.dbgRead {a : DbgAcc} (h : Keeps s t) : Keeps s (dbgRead t a).2 := by
  unfold Machine.dbgRead
  extract_lets n m inspect
  split
  next x v q s1 e =>
    have hq := h.physRead.snd e
    extract_lets lo
    split
    · exact hq
    · split
      next x1 v1 q1 s2 e1 =>
        have hq1 := hq.physRead.snd e1
        exact hq1
      · exact hq.physRead
  · exact h.physRead

theorem Keeps.dbgWrite {a : DbgAcc} (h : Keeps s t) : Keeps s (dbgWrite t a).2 := by
  unfold Machine.dbgWrite
  extract_lets n m lane
  split
  next x v q s1 e =>
    have hq := h.physWrite.snd e
    split
    · exact hq
    · exact hq.physWrite
  · exact h.physWrite

theorem Keeps.dbgEnd (h : Keeps s t) : Keeps s (dbgEnd t) := h.beside

theorem Keeps.dbgPerform {a : DbgAcc} (h : Keeps s t) : Keeps s (dbgPerform t a) := by
  unfold Machine.dbgPerform
  have hr : ∀ p : Phys × State, (if a.op = 2 then Machine.dbgWrite t a else Machine.dbgRead t a) = p → Keeps s p.2 := by
    intro p e
    split at e
    · exact e ▸ h.dbgWrite
    · exact e ▸ h.dbgRead
  split
  next e => exact (hr _ e).dbgEnd.dbgResult
  next e => exact (hr _ e).dbgEnd.dbgResult
  next e =>
    split
    · exact hr _ e
    · exact (hr _ e).stall
  next e => exact hr _ e

theorem Keeps.dbgUpdate {addr : ℕ} {size : ℕ} {op : ℕ} {data : Word} (h : Keeps s t) : Keeps s (dbgUpdate t addr size op data) := by
  unfold Machine.dbgUpdate
  split
  · exact h.loadIr.dbgResult
  · extract_lets s1 a z
    have hs1 : Keeps s s1 := h.loadIr
    split
    · exact hs1.dbgResult
    · split
      · exact hs1.dbgResult
      · exact hs1.withDbg.dbgPerform

/-! ### Qp -/

theorem Keeps.windowFail {t1 : ℕ} (h : Keeps s t) : Keeps s (windowFail t t1) := h.wr.pageErr

theorem Keeps.qpStop {q : ℕ} (h : Keeps s t) : Keeps s (qpStop t q) := h.wr

theorem Keeps.qpRead {q : ℕ} {addr : ℕ} {n : ℕ} (h : Keeps s t) : Keeps s (qpRead t q addr n).2 := by
  unfold Machine.qpRead
  extract_lets t1
  split
  · dsimp only
    exact h.qpStop.windowFail
  · refine Keeps.foldlSnd ?_ fun p a hq => ?_
    · exact h
    · split
      · split
        next x w s1 e =>
          have hq1 := hq.physRead.snd e
          exact hq1
        next x value s1 e =>
          have hq1 := hq.physRead.snd e
          dsimp only
          exact hq1.free
        next x code s1 e =>
          have hq1 := hq.physRead.snd e
          dsimp only
          exact hq1.qpStop
        next x fst s1 x1 x2 x3 e =>
          have hq1 := hq.physRead.snd e
          exact hq1
      · exact hq

theorem Keeps.qpWrite {q : ℕ} {addr : ℕ} {ws : List Word} (h : Keeps s t) : Keeps s (qpWrite t q addr ws).2 := by
  unfold Machine.qpWrite
  extract_lets t1
  split
  · dsimp only
    exact h.qpStop.windowFail
  · refine Keeps.foldlSnd ?_ fun p a hq => ?_
    · exact h
    · split
      · split
        next x value poison s1 e =>
          have hq1 := hq.physWrite.snd e
          exact hq1
        next x c s1 e =>
          have hq1 := hq.physWrite.snd e
          dsimp only
          exact hq1.qpStop
        next x fst s1 x1 x2 e =>
          have hq1 := hq.physWrite.snd e
          exact hq1
      · exact hq

theorem Keeps.qpWaiting {addr : ℕ} (h : Keeps s t) : Keeps s (qpWaiting t addr) := h.physRead

theorem Keeps.qpDone {q : ℕ} {j : ℕ} {lines : List ℕ} (h : Keeps s t) : Keeps s (qpDone t q j lines) := h.setQp.qpSettle

theorem Keeps.qpSend {q : ℕ} {o : List ℕ} (h : Keeps s t) : Keeps s (qpSend t q o) := by
  unfold Machine.qpSend
  extract_lets port p u mk leave smac
  have hu : Keeps s u := h.withQpTurn
  have hleave : ∀ v f, Keeps s v → Keeps s (leave v f) := fun _ _ hv => hv.setPort.bumpIf
  clear_value leave mk u
  split
  · exact hleave _ _ hu
  · extract_lets mode seq red v w
    split
    · exact hleave _ _ hu
    · have hv : Keeps s v := hleave _ _ hu.wrapInc
      have hw : Keeps s w := by
        unfold w
        split
        · exact hv.windowAdd
        · exact hv
      clear_value w
      exact hw.enqueue

theorem Keeps.qpTxDone {q : ℕ} {entry : ℕ} {status : ℕ} {stamp : Word} (h : Keeps s t) : Keeps s (qpTxDone t q entry status stamp) := by
  unfold Machine.qpTxDone
  split
  next x ws s1 e =>
    have hq := h.qpWrite.snd e
    exact hq.qpDone
  next x fst s1 x1 e =>
    have hq := h.qpWrite.snd e
    exact hq

theorem Keeps.qpTransmit {q : ℕ} (h : Keeps s t) : Keeps s (qpTransmit t q) := by
  unfold Machine.qpTransmit
  extract_lets entry t1
  split
  · exact h.qpWaiting
  next x s' e =>
    have hq := h.qpRead.snd e
    exact hq
  next x ws s' e =>
    have hq := h.qpRead.snd e
    extract_lets len
    split
    · exact hq.free.qpTxDone
    · split
      · exact h.qpWaiting
      next x1 s'1 e1 =>
        have hq1 := hq.qpRead.snd e1
        exact hq1
      next x1 ws1 s'1 e1 =>
        have hq1 := hq.qpRead.snd e1
        extract_lets o
        split
        · exact hq1.free.spoofDrop.bump.qpTxDone
        · split
          · exact h
          · exact hq1.qpSend.qpTxDone.bump

theorem Keeps.qpReceive {s0 : State} {q : ℕ} {p : ℕ} {x : RxFrame} (h0 : Keeps s s0) (h : Keeps s t) : Keeps s (qpReceive s0 t q p x) := by
  unfold Machine.qpReceive
  extract_lets n entry
  clear_value n entry
  split
  · exact h.bump
  · split
    · exact h0.qpWaiting
    next e => exact h.qpRead.snd e
    next e =>
      have hq := h.qpRead.snd e
      extract_lets buf
      clear_value buf
      split
      · exact h0.qpWaiting
      next e => exact hq.qpWrite.snd e
      next e =>
        have hr := hq.qpWrite.snd e
        split
        next e => exact (hr.qpWrite.snd e).bump.qpDone
        next e => exact hr.qpWrite.snd (by assumption)

theorem Keeps.qpClassify {s0 : State} {p : ℕ} {x : RxFrame} (h0 : Keeps s s0) (h : Keeps s t) : Keeps s (qpClassify s0 t p x) := by
  unfold Machine.qpClassify
  split
  · split
    · exact Keeps.qpReceive h0 h
    · exact h.bump
  · exact h.bump

theorem Keeps.uplinkFrame {p : ℕ} {x : RxFrame} (h : Keeps s t) : Keeps s (uplinkFrame t p x) := by
  unfold Machine.uplinkFrame
  extract_lets b slaves s1
  have hs1 : Keeps s s1 := by
    unfold s1
    split
    · exact h.forEach fun _ _ hq => hq.bump
    · exact h
  clear_value s1
  split
  · split
    next e => exact Keeps.qpClassify h (hs1.rxStages.fst e)
    next e => exact hs1.rxStages.fst e
  · split
    · exact h.bump
    · split
      · exact h.bump
      · split
        · exact h.bump
        · exact Keeps.qpClassify h h

/-! ### Pcie -/

theorem Keeps.pcieDone {status : ℕ} {ep : Bool} {octets : List ℕ} (h : Keeps s t) : Keeps s (pcieDone t status ep octets) := h.withPcie

theorem Keeps.pcieRes {addr : ℕ} {r : Phys × State} {f : Word → Bool → State → PcieRes × State} (h : Keeps s r.2)
    (hf : ∀ x0 x1 q, Keeps s q → Keeps s (f x0 x1 q).2) :
    Keeps s (pcieRes addr r f).2 := by
  unfold Machine.pcieRes
  split
  · exact hf _ _ _ h
  · exact h
  · exact h
  · exact h

theorem Keeps.pcieWord {vf : ℕ} {data : Option (List ℕ)} {g : ℕ × List (ℕ × ℕ)} {done : List ℕ} {ep : Bool} (h : Keeps s t) :
    Keeps s (pcieWord t vf data g done ep).2 := by
  unfold Machine.pcieWord
  extract_lets whole page size
  clear_value whole page size
  split
  · exact h.physRead.pcieRes fun _ _ _ hq => hq
  · extract_lets put
    have hput : ∀ w u, Keeps s u → Keeps s (put w u).2 := fun _ _ hu => hu.physWrite.pcieRes fun _ _ _ hq => hq
    clear_value put
    split
    · exact hput _ _ h
    · exact h.physRead.pcieRes fun _ _ _ hq => hput _ _ hq

theorem Keeps.pcieAll {vf : ℕ} {data : Option (List ℕ)} {l : List (ℕ × List (ℕ × ℕ))} (h : Keeps s t) :
    Keeps s (pcieAll t vf data l).2 := by
  unfold Machine.pcieAll
  refine Keeps.foldlSnd ?_ fun p a hq => ?_
  · exact h
  · split
    · exact hq.pcieWord
    · exact hq

theorem Keeps.pciePerform {vf : ℕ} {data : Option (List ℕ)} {places : List (ℕ × ℕ)} (h : Keeps s t) :
    Keeps s (pciePerform t vf data places) := by
  unfold Machine.pciePerform
  extract_lets clear
  split
  next x o ep s1 e =>
    have hq := h.pcieAll.snd e
    exact hq.withStalled.pcieDone
  next x s1 e =>
    have hq := h.pcieAll.snd e
    exact hq.withStalled.pcieDone
  · exact h.physRead
  · split
    · exact h
    · exact h.stall

theorem Keeps.pcieRequest {vf : ℕ} {req : PcieReq} (h : Keeps s t) : Keeps s (pcieRequest t vf req) := by
  unfold Machine.pcieRequest
  extract_lets n data addrs t1 places
  split
  · exact h.pcieDone
  · split
    · exact h.pcieDone
    · split
      · exact h.icuEdge.pcieDone
      · split
        · exact h.pcieDone
        · split
          · exact h.bump.windowFail.pcieDone
          · exact h.pciePerform

/-! ### Cross -/

theorem Keeps.dmaCrossing {a : StalledAccess} (h : Keeps s t) : Keeps s (dmaCrossing t a) := by
  unfold Machine.dmaCrossing
  extract_lets c e s1 z
  have hs1 : Keeps s s1 := h.dmaErr
  split
  · exact h
  · exact hs1.setDma

theorem Keeps.insnCrossing {s0 : State} {a : StalledAccess} (h0 : Keeps s s0) (h : Keeps s t) : Keeps s (insnCrossing s0 t a) := by
  unfold Machine.insnCrossing
  extract_lets n
  split
  · exact h
  · split
    · exact h0
    next e => exact (h.raiseExc.snd (by assumption)).stepDone

/-! ### Float -/

theorem Keeps.fRounding {n : ℕ} {rnd : ℕ} (h : Keeps s t) : Keeps s (fRounding t n rnd).2 := by
  unfold Machine.fRounding
  extract_lets rm
  split
  · exact h
  · split
    · dsimp only
      exact h.free
    · exact h

theorem Keeps.fpBody {n : ℕ} {gd : ℕ} {ga : ℕ} {gb : ℕ} {fmt : ℕ} {rnd : ℕ} {gc : ℕ} {useB : Bool} {useC : Bool} {rounds : Bool}
    {f : Bool → ℕ → Word → Word → Word → FRes} (h : Keeps s t) :
    Keeps s (fpBody n gd ga gb fmt rnd gc useB useC rounds f t).2 := by
  unfold Machine.fpBody
  split
  · exact h.illegal
  · extract_lets r x s1
    have hs1 : Keeps s s1 := h.fRounding.modScribeSr
    exact hs1.result

/-! ### Loads -/

theorem Keeps.updateBase {n : ℕ} {ga : ℕ} {u : Option Word} (h : Keeps s t) : Keeps s (updateBase t n ga u) := by
  unfold Machine.updateBase
  split
  · exact h.setG
  · exact h

theorem Keeps.loadBody {n : ℕ} {half : ℕ} {gd : ℕ} {ga : ℕ} {mode : ℕ} {imm : ℕ} {size : ℕ} {ext : Word → Word} {err : MemErr}
    (h : Keeps s t) :
    Keeps s (loadBody n half gd ga mode imm size ext err t).2 := by
  unfold Machine.loadBody
  split
  · exact h.illegal
  · refine Keeps.andThen ?_ (fun q0 q1 hq => ?_)
    · exact h.memLoad
    · extract_lets s1
      have hs1 : Keeps s s1 := hq.updateBase.setG
      dsimp only
      exact hs1.coreCompare

theorem Keeps.storeBody {n : ℕ} {half : ℕ} {gd : ℕ} {ga : ℕ} {mode : ℕ} {imm : ℕ} {size : ℕ} {err : MemErr} (h : Keeps s t) :
    Keeps s (storeBody n half gd ga mode imm size err t).2 := by
  unfold Machine.storeBody
  split
  · exact h.illegal
  · extract_lets v
    refine Keeps.andThen ?_ (fun q0 q1 hq => ?_)
    · exact h.coreStore
    · extract_lets s1
      have hs1 : Keeps s s1 := hq.updateBase
      dsimp only
      exact hs1.coreCompare

theorem Keeps.wordPlace {x : CoreAcc} {ea : Word} (h : Keeps s t) : Keeps s (wordPlace t x ea).2 := by
  unfold Machine.wordPlace
  refine Keeps.andThen ?_ (fun q0 q1 hq => ?_)
  · exact h.translate
  · split
    · exact hq
    · exact hq

theorem Keeps.lrBody {n : ℕ} {half : ℕ} {gd : ℕ} {ga : ℕ} {gb : ℕ} {err : MemErr} (h : Keeps s t) :
    Keeps s (lrBody n half gd ga gb err t).2 := by
  unfold Machine.lrBody
  split
  · exact h.illegal
  · extract_lets ea x d
    refine Keeps.andThen ?_ (fun q0 q1 hq => ?_)
    · exact h.wordPlace
    · refine Keeps.andThen ?_ (fun q0 q1 hq1 => ?_)
      · exact hq.readPart
      · extract_lets s1 z s2 s3
        have hs1 : Keeps s s1 := hq1.modScribe
        have hs2 : Keeps s s2 := hs1.setDesk
        have hs3 : Keeps s s3 := hs2.setG
        dsimp only
        exact hs3.coreCompare

theorem Keeps.scFail {n : ℕ} {gd : ℕ} (h : Keeps s t) : Keeps s (scFail t n gd).2 := by
  unfold Machine.scFail
  extract_lets s1
  have hs1 : Keeps s s1 := h.modScribe.bump
  exact hs1.result

theorem Keeps.scBody {n : ℕ} {half : ℕ} {gd : ℕ} {ga : ℕ} {gb : ℕ} {err : MemErr} (h : Keeps s t) :
    Keeps s (scBody n half gd ga gb err t).2 := by
  unfold Machine.scBody
  split
  · exact h.illegal
  · extract_lets ea v x
    refine Keeps.andThen ?_ (fun q0 q1 hq => ?_)
    · exact h.wordPlace
    · split
      · dsimp only
        exact hq.busErrFor
      · split
        · exact hq.scFail
        · split
          next x1 s1 e =>
            have hq1 := hq.drainAll.snd e
            exact hq1
          next x1 s1 e =>
            have hq1 := hq.drainAll.snd e
            refine Keeps.andThen ?_ (fun q0 q1 hq2 => ?_)
            · exact hq1.cacheRead
            · split
              · exact hq2.scFail
              · split
                · exact hq2
                · extract_lets s2 s3
                  have hs2 : Keeps s s2 := hq2.l2Write
                  have hs3 : Keeps s s3 := hs2.modScribe.setG
                  dsimp only
                  exact hs3.coreCompare

/-! ### NibIns -/

theorem Keeps.haltIf {f : ℕ} {n : ℕ} {h1 : Bool} (h : Keeps s t) : Keeps s (haltIf t f n h1) := by
  unfold Machine.haltIf
  split
  · exact h.haltNib
  · exact h

theorem Keeps.memCompare {c : RunCtx} {i : NibIns} (h : Keeps s t) : Keeps s (memCompare t c i).1 := by
  unfold Machine.memCompare
  extract_lets r
  have hr : Keeps s r.1 := by
    unfold r
    split
    · exact h.nibCompare
    · exact h
  split
  · extract_lets q
    have hq : Keeps s q.1 := hr.nibCompare
    exact hq
  · exact hr

theorem Keeps.nibStep {f : ℕ} {n : ℕ} {op : ℕ} {cond : BitVec 3} {operand : BitVec 6} {ext : BitVec 14} {err : NibErr} {mk : RunCtx → Nib → NibIns} (h : Keeps s t)
    (hmk : ∀ c b q, Keeps s q → Keeps s ((mk c b).eff q)) : Keeps s (nibStep t f n op cond operand ext err mk) := by
  unfold Machine.nibStep
  split
  · split
    · exact h
    next c _ =>
      extract_lets b i held par0 par1 fetch u v pc w x y z
      have hi : ∀ q, Keeps s q → Keeps s (i.eff q) := by
        intro q hq
        unfold i
        split
        · exact hq
        · exact hmk _ _ _ hq
      have hu : Keeps s u := h.nibCompare
      have hv : Keeps s v := by
        unfold v
        split
        · exact hu.bump
        · exact hu
      clear_value v u fetch i
      split
      · exact hu.haltNib
      · split
        · exact hv.faultRun
        · split
          · exact hv.inkUncorr.faultRun
          · split
            · exact hv.faultRun
            · have hw : Keeps s w := hv.setNib
              clear_value w
              split
              · have hx : Keeps s x := hi _ hw
                clear_value x
                split
                · exact hx
                · exact hx.setNib.memCompare.haltIf
              · exact hw.setNib
  · exact h

theorem Keeps.onNib {f : ℕ} {n : ℕ} {g : Nib → Nib} (h : Keeps s t) : Keeps s (onNib f n g t) := h.setNib

theorem Keeps.setPend {f : ℕ} {i : ℕ} (h : Keeps s t) : Keeps s (setPend t f i) := h.setFerrule

theorem Keeps.winWrite {c : RunCtx} {b : Nib} {win : ℕ} {off : ℕ} {v : Word} (h : Keeps s t) : Keeps s (winWrite t c b win off v) := by
  unfold Machine.winWrite
  split
  · exact h.setInk.setPend
  · exact h.setInk.setNib

/-! ### System -/

theorem Keeps.privileged {atH : Bool} (h : Keeps s t) : Keeps s (privileged t atH).2 := h

theorem Keeps.goOn {n : ℕ} (h : Keeps s t) : Keeps s (goOn t n).2 := h

theorem Keeps.eretBody {n : ℕ} {half : ℕ} (h : Keeps s t) : Keeps s (eretBody n half t).2 := by
  unfold Machine.eretBody
  extract_lets c esp x
  split
  · exact h.privileged
  · refine Keeps.andThen ?_ (fun q0 q1 hq => ?_)
    · exact h.memLoad
    · refine Keeps.andThen ?_ (fun q0 q1 hq1 => ?_)
      · exact hq.memLoad
      · extract_lets lvl pc s1 s2
        have hs1 : Keeps s s1 := hq1.modScribeSr
        have hs2 : Keeps s s2 := hs1.setStatus
        split
        · exact hq1.illegal
        · split
          · exact hq1
          · dsimp only
            exact hs2.tracePacket

theorem Keeps.storesVisible {n : ℕ} (h : Keeps s t) : Keeps s (storesVisible t n).2 := by
  unfold Machine.storesVisible
  extract_lets r
  have hr : Keeps s r.2 := by
    unfold r
    split
    · exact h.drainAll
    · exact h
  exact hr

theorem Keeps.fenceBody {n : ℕ} {kind : ℕ} (h : Keeps s t) : Keeps s (fenceBody n kind t).2 := by
  unfold Machine.fenceBody
  split
  · exact h.illegal
  · split
    · exact h.goOn
    · split
      next x s1 e =>
        have hq := h.storesVisible.snd e
        exact hq.goOn
      next x s1 e =>
        have hq := h.storesVisible.snd e
        exact hq

theorem Keeps.mfsrBody {n : ℕ} {gd : ℕ} {num : ℕ} (h : Keeps s t) : Keeps s (mfsrBody n gd num t).2 := by
  unfold Machine.mfsrBody
  split
  · exact h.illegal
  · split
    · exact h.illegal
    · split
      · exact h.privileged
      · split
        · exact h.iackRead.result
        · exact h.result

theorem Keeps.mtsrBody {n : ℕ} {ga : ℕ} {gb : ℕ} {num : ℕ} (h : Keeps s t) : Keeps s (mtsrBody n ga gb num t).2 := by
  unfold Machine.mtsrBody
  extract_lets v lvl dest
  split
  · exact h.illegal
  · split
    · exact h.illegal
    · split
      · exact h.privileged
      · split
        · split
          · exact h.privileged
          · split
            · exact h.illegal
            · exact h.setStatus.goOn
        · split
          · exact h.ieoiWrite.goOn
          · split
            · exact h.swiWrite.goOn
            · exact h.sregPut.goOn

theorem Keeps.wfiBody {n : ℕ} (h : Keeps s t) : Keeps s (wfiBody n t).2 := by
  unfold Machine.wfiBody
  split
  · exact h.privileged
  · split
    · split
      · exact h.goOn
      · dsimp only
        exact h.wr
    · split
      · exact h.goOn
      · exact h

theorem Keeps.allVisible (h : Keeps s t) : Keeps s (allVisible t).2 := by
  unfold Machine.allVisible
  refine Keeps.foldlSnd ?_ fun p a hq => ?_
  · exact h
  · split
    · exact hq.storesVisible
    · exact hq

theorem Keeps.tlbiBody {n : ℕ} {ga : ℕ} {gb : ℕ} {kind : ℕ} (h : Keeps s t) : Keeps s (tlbiBody n ga gb kind t).2 := by
  unfold Machine.tlbiBody
  split
  · exact h.illegal
  · split
    · exact h.privileged
    · split
      · exact h.privileged
      · split
        next x s1 e =>
          have hq := h.storesVisible.snd e
          exact hq
        next x s1 e =>
          have hq := h.storesVisible.snd e
          extract_lets s2
          have hs2 : Keeps s s2 := hq.tlbInvalidate
          split
          next x1 s3 e1 =>
            have hq1 := hs2.allVisible.snd e1
            exact hq1
          next x1 s3 e1 =>
            have hq1 := hs2.allVisible.snd e1
            exact hq1.goOn

theorem Keeps.linePlace {n : ℕ} {half : ℕ} {kind : ℕ} {ea : Word} (h : Keeps s t) : Keeps s (linePlace t n half kind ea).2 := by
  unfold Machine.linePlace
  extract_lets x
  refine Keeps.andThen ?_ (fun q0 q1 hq => ?_)
  · exact h.translate
  · split
    · dsimp only
      exact hq.busErrFor
    · split
      next x1 s1 e =>
        have hq1 := hq.drainAll.snd e
        exact hq1
      next x1 s1 e =>
        have hq1 := hq.drainAll.snd e
        exact hq1

theorem Keeps.cleanLine {d line : Nat} {q : State} (h : Keeps s t) (e : cleanLine t d line = some q) : Keeps s q := by
  unfold Machine.cleanLine at e
  extract_lets u x st at e
  have hu : Keeps s u := h.drive.settleWbs
  clear_value u
  split at e
  · cases e
  · split at e
    · cases e; exact hu.memWrite.setL2.setPres
    · cases e; exact hu

theorem Keeps.cleanBody {n : ℕ} {half : ℕ} {ga : ℕ} {gb : ℕ} {flush : Bool} {err : MemErr} (h : Keeps s t) :
    Keeps s (cleanBody n half ga gb flush err t).2 := by
  unfold Machine.cleanBody
  split
  · exact h.illegal
  · refine Keeps.andThen ?_ (fun q0 q1 hq => ?_)
    · exact h.linePlace
    · split
      · exact hq.goOn
      · extract_lets line d s1
        have hs1 : Keeps s s1 := by
          unfold s1
          split
          · exact hq
          · exact hq.storeErr
        split
        · exact hs1
        next x s3 e =>
          have hq1 := hs1.cleanLine e
          refine Keeps.goOn ?_
          split
          · exact hq1.l2Lose
          · exact hq1

theorem Keeps.dzeroBody {n : ℕ} {half : ℕ} {ga : ℕ} {gb : ℕ} {err : MemErr} (h : Keeps s t) : Keeps s (dzeroBody n half ga gb err t).2 := by
  unfold Machine.dzeroBody
  split
  · exact h.illegal
  · refine Keeps.andThen ?_ (fun q0 q1 hq => ?_)
    · exact h.linePlace
    · extract_lets line s1
      have hs1 : Keeps s s1 := by
        unfold s1
        split
        · exact hq
        · exact hq.storeErr
      split
      · exact hq
      · split
        · exact hq.ncWrite.goOn
        · split
          next x s2 e =>
            have hq1 := hs1.acquireZero.snd e
            exact hq1
          next x s2 e =>
            have hq1 := hs1.acquireZero.snd e
            exact hq1.l2Write.goOn

end Sys2Proof.Machine
end

section
/-! PROOFS. The commands: each answers a next state and keeps what is kept; the invariant and the frame of every step (O1, O2, O5). -/

namespace Sys2Proof.Machine
open Sys2Proof

variable {s t : State}

theorem Keeps.ctlIns {f n : ℕ} {operand : BitVec 6} {g : Nib → Nib} (h : Keeps s t) : Keeps s ((ctlIns f n operand g).eff t) := h.onNib

theorem Keeps.aluIns {f n : ℕ} {operand : BitVec 6} {g : Half → Half → Half} (h : Keeps s t) : Keeps s ((aluIns f n operand g).eff t) := by
  dsimp only [Machine.aluIns]
  exact h.onNib

theorem Keeps.cmpIns {f n : ℕ} {operand : BitVec 6} {g : Half → Half → Bool} (h : Keeps s t) : Keeps s ((cmpIns f n operand g).eff t) := by
  dsimp only [Machine.cmpIns]
  exact h.onNib

/-! ### Csn -/

theorem Keeps.execCsnSeal {t1 : ℕ} {init : ℕ} {digest : Word} (h : Keeps s t) :
    Answers s (execCsnSeal t1 init digest t) := .next h.tick.csnSealWrite

theorem Keeps.execCsnSign {t1 : ℕ} {init : ℕ} {digest : Word} (h : Keeps s t) :
    Answers s (execCsnSign t1 init digest t) := .next h.tick.csnExpire.csnSignWrite

theorem Keeps.execCsnAbort {t1 : ℕ} {init : ℕ} (h : Keeps s t) : Answers s (execCsnAbort t1 init t) := .next h.tick.csnExpire.csnAbortWrite

theorem Keeps.execCountersignWindowExpire {t1 : ℕ} (h : Keeps s t) : Answers s (execCountersignWindowExpire t1 t) := .next h.tick.csnExpire

theorem Keeps.execCommitNoBoundary {t1 : ℕ} (h : Keeps s t) : Answers s (execCommitNoBoundary t1 t) := by
  unfold Machine.execCommitNoBoundary
  extract_lets s1
  have hs1 : Keeps s s1 := h.tick
  refine .next ?_
  split
  · exact hs1.csnEnd
  · exact hs1

/-! ### Coh -/

theorem Keeps.execHomeRds {t1 : ℕ} {line : ℕ} {src : ℕ} (h : Keeps s t) : Answers s (execHomeRds t1 line src t) := .next h.tick.homeOrder

theorem Keeps.execHomeRdx {t1 : ℕ} {line : ℕ} {src : ℕ} (h : Keeps s t) : Answers s (execHomeRdx t1 line src t) := .next h.tick.homeOrder

theorem Keeps.execHomeUpg {t1 : ℕ} {line : ℕ} {src : ℕ} (h : Keeps s t) : Answers s (execHomeUpg t1 line src t) := .next h.tick.homeOrder

theorem Keeps.execHomeZx {t1 : ℕ} {line : ℕ} {src : ℕ} (h : Keeps s t) : Answers s (execHomeZx t1 line src t) := .next h.tick.homeOrder

theorem Keeps.execHomeWb {t1 : ℕ} {line : ℕ} {src : ℕ} (h : Keeps s t) :
    Answers s (execHomeWb t1 line src t) := .next h.tick.takeAnswer.takeAnswer.setWbs

theorem Keeps.execHomeNcrd {t1 : ℕ} {line : ℕ} {src : ℕ} (h : Keeps s t) : Answers s (execHomeNcrd t1 line src t) := .next h.tick.homeOrder

theorem Keeps.execHomeNcwr {t1 : ℕ} {line : ℕ} {src : ℕ} (h : Keeps s t) : Answers s (execHomeNcwr t1 line src t) := by
  unfold Machine.execHomeNcwr
  refine .next ?_
  extract_lets s1 z
  have hs1 : Keeps s s1 := h.tick
  split
  · exact hs1
  · extract_lets s2
    have hs2 : Keeps s s2 := hs1.withMem
    exact hs2.ncWrite

theorem Keeps.execSnoopSnps {t1 : ℕ} {desk : ℕ} {line : ℕ} (h : Keeps s t) :
    Answers s (execSnoopSnps t1 desk line t) := .next h.tick.takeAnswer

theorem Keeps.execSnoopSnpx {t1 : ℕ} {desk : ℕ} {line : ℕ} (h : Keeps s t) :
    Answers s (execSnoopSnpx t1 desk line t) := .next h.tick.takeAnswer

theorem Keeps.execSnoopSnpinv {t1 : ℕ} {desk : ℕ} {line : ℕ} (h : Keeps s t) :
    Answers s (execSnoopSnpinv t1 desk line t) := .next h.tick.takeAnswer.finishLine

theorem Keeps.execSnoopSnprd {t1 : ℕ} {desk : ℕ} {line : ℕ} (h : Keeps s t) :
    Answers s (execSnoopSnprd t1 desk line t) := .next h.tick.takeAnswer.finishLine

theorem Keeps.execForwardedSnoop {t1 : ℕ} {desk : ℕ} {line : ℕ} (h : Keeps s t) :
    Answers s (execForwardedSnoop t1 desk line t) := .next h.tick.takeAnswer.finishLine

theorem Keeps.execGrantDeliver {t1 : ℕ} {desk : ℕ} {line : ℕ} (h : Keeps s t) : Answers s (execGrantDeliver t1 desk line t) := by
  unfold Machine.execGrantDeliver
  refine .next ?_
  extract_lets s1
  have hs1 : Keeps s s1 := h.tick
  split
  · split
    · split
      next x s2 e =>
        have hq := hs1.completeTx e
        exact hq
      · exact hs1
    · exact hs1
  · exact hs1

theorem Keeps.execWbAck {t1 : ℕ} {desk : ℕ} {line : ℕ} (h : Keeps s t) : Answers s (execWbAck t1 desk line t) := by
  unfold Machine.execWbAck
  refine .next ?_
  extract_lets s1
  have hs1 : Keeps s s1 := h.tick
  split
  · extract_lets s2
    have hs2 : Keeps s s2 := hs1.setWbs
    split
    · exact hs2
    · exact hs2.memWrite
  · exact hs1

theorem Keeps.execSnoopTimeout {t1 : ℕ} {desk : ℕ} {line : ℕ} (h : Keeps s t) : Answers s (execSnoopTimeout t1 desk line t) := by
  unfold Machine.execSnoopTimeout
  refine .next ?_
  extract_lets s1 c
  have hs1 : Keeps s s1 := h.tick
  split
  · split
    · exact hs1.bump
    · exact hs1.wr.wr.wr.pageErr.setBit
  · exact hs1

theorem Keeps.execReclaimMessage {t1 : ℕ} {line : ℕ} (h : Keeps s t) : Answers s (execReclaimMessage t1 line t) := by
  unfold Machine.execReclaimMessage
  refine .next ?_
  extract_lets s1 z
  have hs1 : Keeps s s1 := h.tick
  split
  · exact hs1
  · extract_lets s2 s3 s4
    have hs2 : Keeps s s2 := hs1.withMem
    have hs3 : Keeps s s3 := hs2.drive
    have hs4 : Keeps s s4 := hs3.homeOrder
    exact hs4.drive

/-! ### Dmc -/

theorem Keeps.execDmcConfigWrite {t1 : ℕ} {init : ℕ} {ch : ℕ} {value : Word} (h : Keeps s t) :
    Answers s (execDmcConfigWrite t1 init ch value t) := .next (h.tick.gated fun _ hq => hq.dmcConfig)

theorem Keeps.execDmcRelease {t1 : ℕ} {init : ℕ} {ch : ℕ} {seq : ℕ} (h : Keeps s t) :
    Answers s (execDmcRelease t1 init ch seq t) := .next (h.tick.gatedCmd fun _ hq => hq.dmcBell)

theorem Keeps.execDmcReset {t1 : ℕ} {init : ℕ} {ch : ℕ} {seq : ℕ} (h : Keeps s t) :
    Answers s (execDmcReset t1 init ch seq t) := .next (h.tick.gatedCmd fun _ hq => hq.dmcBell)

theorem Keeps.execDmcTrain {t1 : ℕ} {init : ℕ} {ch : ℕ} {seq : ℕ} (h : Keeps s t) :
    Answers s (execDmcTrain t1 init ch seq t) := .next (h.tick.gatedCmd fun _ hq => hq.dmcBell)

theorem Keeps.execDmcEnable {t1 : ℕ} {init : ℕ} {ch : ℕ} {seq : ℕ} (h : Keeps s t) :
    Answers s (execDmcEnable t1 init ch seq t) := .next (h.tick.gatedCmd fun _ hq => hq.dmcBell)

theorem Keeps.execTrainingStepComplete {t1 : ℕ} {ch : ℕ} {pass : Bool} {lane : ℕ} {sub : ℕ} {rank : ℕ} {results : List PhyLane}
    (h : Keeps s t) :
    Answers s (execTrainingStepComplete t1 ch pass lane sub rank results t) := by
  unfold Machine.execTrainingStepComplete
  refine .next ?_
  extract_lets s1 x s2 p s3 s4 s5
  have hs1 : Keeps s s1 := h.tick
  have hs2 : Keeps s s2 := hs1.phyResults
  have hs3 : Keeps s s3 := hs2.wr
  have hs4 : Keeps s s4 := hs2.wr.wr.wr
  have hs5 : Keeps s s5 := hs4.pageErr.setBit
  split
  · exact hs1
  · split
    · split
      · exact hs3.setDmc.complete
      · split
        · exact hs3.setDmc
        · exact hs3.dmcResetEnd.complete
    · exact hs5.setDmc.refuse

theorem Keeps.execDramReadDecode {t1 : ℕ} {ch : ℕ} {line : ℕ} {errs : List (ℕ × ℕ)} (h : Keeps s t) :
    Answers s (execDramReadDecode t1 ch line errs t) := by
  unfold Machine.execDramReadDecode
  refine .next ?_
  extract_lets s1 d s2
  have hs1 : Keeps s s1 := h.tick
  have hs2 : Keeps s s2 := by
    unfold s2
    split
    · exact hs1.bump
    · split
      · exact hs1.bump
      · exact hs1
  split
  · exact hs1
  · split
    · exact hs1
    · extract_lets put
      split
      · exact hs1.setTxs.freezeChannel
      · exact hs2.setTxs.finishLine

theorem Keeps.execDramAlertParity {t1 : ℕ} {ch : ℕ} {line : ℕ} (h : Keeps s t) : Answers s (execDramAlertParity t1 ch line t) := by
  unfold Machine.execDramAlertParity
  refine .next ?_
  extract_lets s1
  have hs1 : Keeps s s1 := h.tick
  split
  · exact hs1
  · split
    · exact hs1.freezeChannel
    · exact hs1.freezeChannel

theorem Keeps.execDramWriteCrcError {t1 : ℕ} {ch : ℕ} {line : ℕ} (h : Keeps s t) : Answers s (execDramWriteCrcError t1 ch line t) := by
  unfold Machine.execDramWriteCrcError
  refine .next ?_
  extract_lets s1 n z s2
  have hs1 : Keeps s s1 := h.tick
  have hs2 : Keeps s s2 := hs1.setDmc
  split
  · exact hs1.bump
  · split
    · exact hs1
    · split
      · exact hs1.setDmc.bump
      · split
        · exact hs2.freezeChannel
        · split
          next x v s3 e =>
            have hq := hs2.free.snd e
            exact hq.freezeChannel

theorem Keeps.execDramPatrolRead {t1 : ℕ} {ch : ℕ} {errs : List (ℕ × ℕ)} (h : Keeps s t) : Answers s (execDramPatrolRead t1 ch errs t) := by
  unfold Machine.execDramPatrolRead
  refine .next ?_
  extract_lets s1 x line d s2
  have hs1 : Keeps s s1 := h.tick
  have hs2 : Keeps s s2 := hs1.setDmc
  split
  · exact hs1
  · split
    · exact hs2.memStore.bump
    · split
      · exact hs2.memStore.bump.pageErr.setBit
      · exact hs2

theorem Keeps.execDramRefresh {t1 : ℕ} {ch : ℕ} {rank : ℕ} {bank : ℕ} (h : Keeps s t) : Answers s (execDramRefresh t1 ch rank bank t) := by
  unfold Machine.execDramRefresh
  refine .next ?_
  extract_lets s1 st x n
  have hs1 : Keeps s s1 := h.tick
  split
  · exact hs1
  · split
    · exact hs1.setDmc.bump
    · split
      · exact hs1.setDmc
      · exact hs1.setDmc.bump

theorem Keeps.execDramMr4Poll {t1 : ℕ} {ch : ℕ} {rank : ℕ} {rate : ℕ} (h : Keeps s t) : Answers s (execDramMr4Poll t1 ch rank rate t) := by
  unfold Machine.execDramMr4Poll
  refine .next ?_
  extract_lets s1
  have hs1 : Keeps s s1 := h.tick
  split
  · exact hs1.wr
  · exact hs1

theorem Keeps.execFrozenWaitTimeout {t1 : ℕ} {ch : ℕ} {scribe : ℕ} (h : Keeps s t) : Answers s (execFrozenWaitTimeout t1 ch scribe t) := by
  unfold Machine.execFrozenWaitTimeout
  refine .next ?_
  extract_lets s1
  have hs1 : Keeps s s1 := h.tick
  split
  · exact hs1.setBit
  · exact hs1

theorem Keeps.execPhyDriftTrack {t1 : ℕ} {ch : ℕ} {correction : ℕ} (h : Keeps s t) : Answers s (execPhyDriftTrack t1 ch correction t) := by
  unfold Machine.execPhyDriftTrack
  refine .next ?_
  extract_lets s1
  have hs1 : Keeps s s1 := h.tick
  split
  · exact hs1.wr
  · exact hs1

/-! ### Icu -/

theorem Keeps.execIcuSourceWrite {t1 : ℕ} {init : ℕ} {source : ℕ} {value : Word} (h : Keeps s t) :
    Answers s (execIcuSourceWrite t1 init source value t) := .next (h.tick.gated fun _ hq => hq.icuSourceWrite)

theorem Keeps.execScribeTimerExpire {t1 : ℕ} {scribe : ℕ} (h : Keeps s t) : Answers s (execScribeTimerExpire t1 scribe t) := by
  unfold Machine.execScribeTimerExpire
  extract_lets x
  exact .next h.tick

/-! ### Store -/

theorem Keeps.execStoreBufferDrain {t1 : ℕ} {scribe : ℕ} (h : Keeps s t) : Answers s (execStoreBufferDrain t1 scribe t) := by
  unfold Machine.execStoreBufferDrain
  refine .next ?_
  extract_lets s1
  have hs1 : Keeps s s1 := h.tick
  split
  · exact hs1.drainOne
  · exact hs1

theorem Keeps.execScribeRunWrite {t1 : ℕ} {init : ℕ} {scribe : ℕ} {run : Bool} (h : Keeps s t) :
    Answers s (execScribeRunWrite t1 init scribe run t) := .next (h.tick.gated fun _ hq => hq.runWrite)

/-! ### Time -/

theorem Keeps.execPtpSyncRx {t1 : ℕ} {port : ℕ} {stamp : ℕ} {msg : PtpSync} (h : Keeps s t) :
    Answers s (execPtpSyncRx t1 port stamp msg t) := by
  unfold Machine.execPtpSyncRx
  extract_lets s1
  have hs1 : Keeps s s1 := h.tick
  refine .next ?_
  refine Keeps.forEach hs1 (fun q0 q1 hq => ?_)
  extract_lets x s2 s3
  have hs2 : Keeps s s2 := hq.setSrc
  have hs3 : Keeps s s3 := hs2.wr
  split
  · exact hs3
  · exact hs3.ptpExchange

theorem Keeps.execPtpFollowUpRx {t1 : ℕ} {port : ℕ} {seq : ℕ} {origin : ℕ} {domain : ℕ} {corr : ℤ} (h : Keeps s t) :
    Answers s (execPtpFollowUpRx t1 port seq origin domain corr t) := by
  unfold Machine.execPtpFollowUpRx
  extract_lets s1
  have hs1 : Keeps s s1 := h.tick
  refine .next ?_
  refine Keeps.forEach hs1 (fun q0 q1 hq => ?_)
  extract_lets x s2
  have hs2 : Keeps s s2 := hq.setSrc
  split
  · split
    · exact hs2.ptpExchange
    · exact hs2
  · exact hs2

theorem Keeps.execPtpAnnounceRx {t1 : ℕ} {port : ℕ} {msg : PtpAnnounce} (h : Keeps s t) : Answers s (execPtpAnnounceRx t1 port msg t) := by
  unfold Machine.execPtpAnnounceRx
  extract_lets s1
  have hs1 : Keeps s s1 := h.tick
  refine .next ?_
  refine Keeps.forEach hs1 (fun q0 q1 hq => ?_)
  extract_lets c ok z s2 s3 s4 s5 s6
  have hs2 : Keeps s s2 := hq.setSrc
  have hs3 : Keeps s s3 := hs2.wr.wr
  have hs4 : Keeps s s4 := by
    unfold s4
    split
    · exact hs3.loseQual
    · exact hs3
  have hs5 : Keeps s s5 := hs4.wr
  have hs6 : Keeps s s6 := hs5.wrb
  split
  · split
    · exact hs6.wr.wr
    · exact hs6
  · exact hs4

theorem Keeps.execPtpQualTimeout {t1 : ℕ} {src : ℕ} {announce : Bool} (h : Keeps s t) :
    Answers s (execPtpQualTimeout t1 src announce t) := by
  unfold Machine.execPtpQualTimeout
  extract_lets s1 x
  have hs1 : Keeps s s1 := h.tick
  refine .next ?_
  split
  · split
    · exact hs1.loseQual
    · exact hs1
  · split
    · exact hs1.loseQual
    · exact hs1

theorem Keeps.execIrigFrameRx {t1 : ℕ} {frame : IrigFrame} (h : Keeps s t) : Answers s (execIrigFrameRx t1 frame t) := by
  unfold Machine.execIrigFrameRx
  extract_lets s1 x s2 ext s3 s4 utcofs local' devUtc utc sec off follows onTime run s5 s6 s7
  have hs1 : Keeps s s1 := h.tick
  have hs2 : Keeps s s2 := hs1.wr.setSrc
  have hs3 : Keeps s s3 := hs1.wr
  have hs4 : Keeps s s4 := by
    unfold s4
    split
    · exact hs3.wrb
    · exact hs3
  have hs5 : Keeps s s5 := hs4.setSrc
  have hs6 : Keeps s s6 := by
    unfold s6
    split
    · exact hs5.loseQual
    · exact hs5
  have hs7 : Keeps s s7 := hs6.measured
  refine .next ?_
  split
  · exact hs1
  · split
    · split
      · exact hs2.loseQual
      · exact hs2
    · split
      · exact hs7.gainQual
      · exact hs7

theorem Keeps.execIrigFrameMissing {t1 : ℕ} (h : Keeps s t) : Answers s (execIrigFrameMissing t1 t) := by
  unfold Machine.execIrigFrameMissing
  extract_lets s1 x s2
  have hs1 : Keeps s s1 := h.tick
  have hs2 : Keeps s s2 := hs1.wr.setSrc
  refine .next ?_
  split
  · split
    · exact hs2.loseQual
    · exact hs2
  · exact hs1

theorem Keeps.execPpsEdge {t1 : ℕ} {falling : Bool} (h : Keeps s t) : Answers s (execPpsEdge t1 falling t) := by
  unfold Machine.execPpsEdge
  extract_lets s1 x e off onTime run s2 s3 s4
  have hs1 : Keeps s s1 := h.tick
  have hs2 : Keeps s s2 := hs1.setSrc
  have hs3 : Keeps s s3 := by
    unfold s3
    split
    · exact hs2.loseQual
    · exact hs2
  have hs4 : Keeps s s4 := hs3.measured
  refine .next ?_
  split
  · exact hs1
  · split
    · exact hs4.gainQual
    · exact hs4

theorem Keeps.execPpsEdgeMissing {t1 : ℕ} (h : Keeps s t) : Answers s (execPpsEdgeMissing t1 t) := by
  unfold Machine.execPpsEdgeMissing
  extract_lets s1 x s2
  have hs1 : Keeps s s1 := h.tick
  have hs2 : Keeps s s2 := hs1.wr.setSrc
  refine .next ?_
  split
  · split
    · exact hs2.loseQual
    · exact hs2
  · exact hs1

theorem Keeps.execF10mStatusChange {t1 : ℕ} {ok : Bool} (h : Keeps s t) : Answers s (execF10mStatusChange t1 ok t) := .next h.tick.wrb

theorem Keeps.execSourceHoldoffExpire {t1 : ℕ} {src : ℕ} (h : Keeps s t) : Answers s (execSourceHoldoffExpire t1 src t) := by
  unfold Machine.execSourceHoldoffExpire
  extract_lets s1
  have hs1 : Keeps s s1 := h.tick
  refine .next ?_
  split
  · exact hs1.reselect
  · exact hs1

theorem Keeps.execSlewComplete {t1 : ℕ} (h : Keeps s t) : Answers s (execSlewComplete t1 t) := .next h.tick.updQuality

theorem Keeps.execHoldoverLimitExceeded {t1 : ℕ} (h : Keeps s t) : Answers s (execHoldoverLimitExceeded t1 t) := .next h.tick.updQuality

theorem Keeps.execLeapSecondApply {t1 : ℕ} (h : Keeps s t) : Answers s (execLeapSecondApply t1 t) := by
  unfold Machine.execLeapSecondApply
  extract_lets s1
  have hs1 : Keeps s s1 := h.tick
  refine .next ?_
  split
  · exact hs1.wr.wr
  · exact hs1

theorem Keeps.execTimSet {t1 : ℕ} {init : ℕ} {value : Word} (h : Keeps s t) : Answers s (execTimSet t1 init value t) := by
  unfold Machine.execTimSet
  extract_lets x
  exact .next h.tick.timSetWrite

theorem Keeps.execTimSourceConfigWrite {t1 : ℕ} {init : ℕ} {off : ℕ} {value : Word} (h : Keeps s t) :
    Answers s (execTimSourceConfigWrite t1 init off value t) := by
  unfold Machine.execTimSourceConfigWrite
  extract_lets x s1
  have hs1 : Keeps s s1 := h.tick
  refine .next ?_
  split
  · exact hs1.timConfigWrite
  · exact hs1

theorem Keeps.execTimeReplicaRealign {t1 : ℕ} {replica : ℕ} (h : Keeps s t) : Answers s (execTimeReplicaRealign t1 replica t) := by
  unfold Machine.execTimeReplicaRealign
  extract_lets s1 z
  have hs1 : Keeps s s1 := h.tick
  exact .next hs1.withTim

/-! ### Ledger -/

theorem Keeps.execLedgerLrdWrite {t1 : ℕ} {init : ℕ} {ferrule : ℕ} {value : ℕ} (h : Keeps s t) :
    Answers s (execLedgerLrdWrite t1 init ferrule value t) := .next (h.tick.gated fun _ hq => hq.lrdWrite)

/-! ### Fast -/

theorem Keeps.execNibRunStart {t1 : ℕ} {ferrule : ℕ} {nib : ℕ} (h : Keeps s t) : Answers s (execNibRunStart t1 ferrule nib t) := by
  unfold Machine.execNibRunStart
  extract_lets s1 b
  have hs1 : Keeps s s1 := h.tick
  refine .next ?_
  split
  · exact hs1
  · split
    · split
      · exact hs1.startRun
      · exact hs1.setNib
    · exact hs1

/-! ### Pubs -/

theorem Keeps.execGooseRetransmit {t1 : ℕ} {pub : ℕ} (h : Keeps s t) : Answers s (execGooseRetransmit t1 pub t) := by
  unfold Machine.execGooseRetransmit
  extract_lets s1 x s2 s3
  have hs1 : Keeps s s1 := h.tick
  have hs2 : Keeps s s2 := hs1.wr
  have hs3 : Keeps s s3 := hs2.setPub
  refine .next ?_
  split
  · exact hs3.setNext.gooseFrame
  · exact hs1

theorem Keeps.execPubCreate {t1 : ℕ} {init : ℕ} {ferrule : ℕ} {seq : ℕ} {handle : ℕ} (h : Keeps s t) :
    Answers s (execPubCreate t1 init ferrule seq handle t) := .next (h.tick.gatedCmd fun _ hq => hq.pubCreate)

theorem Keeps.execPubDestroy {t1 : ℕ} {init : ℕ} {ferrule : ℕ} {seq : ℕ} {handle : ℕ} (h : Keeps s t) :
    Answers s (execPubDestroy t1 init ferrule seq handle t) := .next (h.tick.gatedCmd fun _ hq => hq.pubDestroy)

/-! ### Lanes -/

theorem Keeps.execLaneConfigWrite {t1 : ℕ} {init : ℕ} {page : ℕ} {block : ℕ} {value : Word} (h : Keeps s t) :
    Answers s (execLaneConfigWrite t1 init page block value t) := by
  unfold Machine.execLaneConfigWrite
  extract_lets s1
  have hs1 : Keeps s s1 := h.tick
  refine .next ?_
  split
  · exact hs1.gated fun _ hq => hq.laneConfigWrite
  · exact hs1

theorem Keeps.execLaneTxIdleAfterFrame {t1 : ℕ} {lane : ℕ} (h : Keeps s t) : Answers s (execLaneTxIdleAfterFrame t1 lane t) := by
  unfold Machine.execLaneTxIdleAfterFrame
  extract_lets s1 z
  have hs1 : Keeps s s1 := h.tick
  refine .next ?_
  split
  · exact hs1.setPort
  · exact hs1

theorem Keeps.execPairConfigWrite {t1 : ℕ} {init : ℕ} {page : ℕ} {value : Word} (h : Keeps s t) :
    Answers s (execPairConfigWrite t1 init page value t) := by
  unfold Machine.execPairConfigWrite
  extract_lets s1
  have hs1 : Keeps s s1 := h.tick
  refine .next ?_
  split
  · exact hs1.gated fun _ hq => hq.pairConfigWrite
  · exact hs1

theorem Keeps.execDupEntryExpire {t1 : ℕ} {pair : ℕ} {smac : ℕ} {seq : ℕ} (h : Keeps s t) :
    Answers s (execDupEntryExpire t1 pair smac seq t) := by
  unfold Machine.execDupEntryExpire
  extract_lets s1
  have hs1 : Keeps s s1 := h.tick
  exact .next hs1.setWindow

theorem Keeps.execLaneSignalLoss {t1 : ℕ} {lane : ℕ} (h : Keeps s t) : Answers s (execLaneSignalLoss t1 lane t) := by
  unfold Machine.execLaneSignalLoss
  extract_lets s1 x s2 b s3 s4 s5
  have hs1 : Keeps s s1 := h.tick
  have hs2 : Keeps s s2 := hs1.setPort
  have hs3 : Keeps s s3 := hs2.wr
  have hs4 : Keeps s s4 := hs3.bump.lnkEvent
  have hs5 : Keeps s s5 := hs4.pageErr
  refine .next ?_
  split
  · split
    · exact hs5.setLst
    · exact hs3
  · exact hs2

theorem Keeps.execLaneSignalDetect {t1 : ℕ} {lane : ℕ} (h : Keeps s t) : Answers s (execLaneSignalDetect t1 lane t) := by
  unfold Machine.execLaneSignalDetect
  extract_lets s1 z s2
  have hs1 : Keeps s s1 := h.tick
  have hs2 : Keeps s s2 := hs1.setPort
  refine .next ?_
  split
  · exact hs2.showSig.evalLink
  · exact hs2

theorem Keeps.execLanePcsSync {t1 : ℕ} {lane : ℕ} (h : Keeps s t) : Answers s (execLanePcsSync t1 lane t) := by
  unfold Machine.execLanePcsSync
  extract_lets s1 x s2
  have hs1 : Keeps s s1 := h.tick
  have hs2 : Keeps s s2 := hs1.setPort
  refine .next ?_
  split
  · split
    · exact hs2.evalLink
    · exact hs2
  · exact hs1

theorem Keeps.execLanePcsSyncLoss {t1 : ℕ} {lane : ℕ} (h : Keeps s t) : Answers s (execLanePcsSyncLoss t1 lane t) := by
  unfold Machine.execLanePcsSyncLoss
  extract_lets s1 z s2
  have hs1 : Keeps s s1 := h.tick
  have hs2 : Keeps s s2 := hs1.setPort
  refine .next ?_
  split
  · exact hs2.setLst
  · exact hs2

theorem Keeps.execLaneAutonegComplete {t1 : ℕ} {lane : ℕ} {fullDuplex : Bool} {remoteFault : Bool} (h : Keeps s t) :
    Answers s (execLaneAutonegComplete t1 lane fullDuplex remoteFault t) := by
  unfold Machine.execLaneAutonegComplete
  extract_lets s1 b
  have hs1 : Keeps s s1 := h.tick
  refine .next ?_
  split
  · exact hs1.setLst.wrb
  · exact hs1

theorem Keeps.execLaneEyeReport {t1 : ℕ} {lane : ℕ} {eyeh : ℕ} {eyew : ℕ} {loss : ℕ} (h : Keeps s t) :
    Answers s (execLaneEyeReport t1 lane eyeh eyew loss t) := by
  unfold Machine.execLaneEyeReport
  extract_lets s1 b m
  have hs1 : Keeps s s1 := h.tick
  refine .next ?_
  split
  · exact hs1.wr.wr.wr.wr.wr
  · exact hs1

theorem Keeps.execPartnerRelearn {t1 : ℕ} {init : ℕ} {lane : ℕ} (h : Keeps s t) : Answers s (execPartnerRelearn t1 init lane t) := by
  unfold Machine.execPartnerRelearn
  extract_lets s1
  have hs1 : Keeps s s1 := h.tick
  refine .next ?_
  split
  · exact hs1.gated fun _ hq => hq.unlearn
  · exact hs1

theorem Keeps.execPtpMasterSyncTx {t1 : ℕ} {lane : ℕ} (h : Keeps s t) : Answers s (execPtpMasterSyncTx t1 lane t) := by
  unfold Machine.execPtpMasterSyncTx
  extract_lets s1 last due
  have hs1 : Keeps s s1 := h.tick
  refine .next ?_
  split
  · split
    next x n s2 e =>
      have hq := hs1.ptpSeqNext.snd e
      exact hq.withTim.ptpSend
  · exact hs1

theorem Keeps.execPtpMasterAnnounceTx {t1 : ℕ} {lane : ℕ} (h : Keeps s t) : Answers s (execPtpMasterAnnounceTx t1 lane t) := by
  unfold Machine.execPtpMasterAnnounceTx
  extract_lets s1 last
  have hs1 : Keeps s s1 := h.tick
  refine .next ?_
  split
  · split
    next x n s2 e =>
      have hq := hs1.ptpSeqNext.snd e
      split
      · exact hq.withTim.ptpSend
  · exact hs1

theorem Keeps.execPtpPdelayReqRx {t1 : ℕ} {lane : ℕ} {seq : ℕ} {stamp : ℕ} (h : Keeps s t) :
    Answers s (execPtpPdelayReqRx t1 lane seq stamp t) := by
  unfold Machine.execPtpPdelayReqRx
  extract_lets s1
  have hs1 : Keeps s s1 := h.tick
  refine .next ?_
  split
  · exact hs1.ptpSend
  · exact hs1

theorem Keeps.execPdelayMeasureTx {t1 : ℕ} {lane : ℕ} (h : Keeps s t) : Answers s (execPdelayMeasureTx t1 lane t) := by
  unfold Machine.execPdelayMeasureTx
  extract_lets s1 last
  have hs1 : Keeps s s1 := h.tick
  refine .next ?_
  split
  · split
    next x n s2 e =>
      have hq := hs1.ptpSeqNext.snd e
      exact hq.withTim.ptpSend
  · exact hs1

theorem Keeps.execPtpPdelayRespRx {t1 : ℕ} {lane : ℕ} {seq : ℕ} {t2 : ℕ} {t3 : ℕ} {t4 : ℕ} (h : Keeps s t) :
    Answers s (execPtpPdelayRespRx t1 lane seq t2 t3 t4 t) := by
  unfold Machine.execPtpPdelayRespRx
  extract_lets s1 b z
  have hs1 : Keeps s s1 := h.tick
  refine .next ?_
  split
  · split
    · exact hs1.setPort.wr.wr
    · exact hs1
  · exact hs1

theorem Keeps.execLaneFrameTx {t1 : ℕ} {lane : ℕ} (h : Keeps s t) : Answers s (execLaneFrameTx t1 lane t) := by
  unfold Machine.execLaneFrameTx
  extract_lets s1 x b
  have hs1 : Keeps s s1 := h.tick
  refine .next ?_
  split
  · exact hs1
  · split
    · exact hs1
    · extract_lets q f y s2 s3 s4 s5 s6
      have hs2 : Keeps s s2 := hs1.setPort
      have hs3 : Keeps s s3 := hs2.bump
      have hs4 : Keeps s s4 := by
        unfold s4
        split
        · split
          · exact hs3.bump
          · exact hs3
        · exact hs2
      have hs5 : Keeps s s5 := by
        unfold s5
        split
        · exact hs4.bump
        · exact hs4.bump
        · exact hs4
      have hs6 : Keeps s s6 := by
        unfold s6
        split
        · exact hs5.ptpSend
        · exact hs5.ptpSend
        · exact hs5
      split
      · exact hs6
      · extract_lets m
        split
        · exact hs6
        · exact hs6.windowAdd
      · exact hs6

/-! ### Mesh -/

theorem Keeps.execFlitParityError {t1 : ℕ} {router : ℕ} {port : ℕ} {slot : ℕ} {resentBad : Bool} (h : Keeps s t) :
    Answers s (execFlitParityError t1 router port slot resentBad t) := by
  unfold Machine.execFlitParityError
  extract_lets s1 link e n fl i r s2 s3
  have hs1 : Keeps s s1 := h.tick
  have hs2 : Keeps s s2 := hs1.bump
  have hs3 : Keeps s s3 := hs2.bump.pageErr
  refine .next ?_
  split
  · exact hs1
  · split
    · split
      · exact hs3.loseMessage
      · exact hs2
    · exact hs1

/-! ### Subs -/

theorem Keeps.execSubDeadline {t1 : ℕ} {sub : ℕ} {stroke : ℕ} (h : Keeps s t) :
    Answers s (execSubDeadline t1 sub stroke t) := .next h.tick.passSubDeadline

theorem Keeps.execStrokeCutoff {t1 : ℕ} {sub : ℕ} (h : Keeps s t) : Answers s (execStrokeCutoff t1 sub t) := .next h.tick.passCutoff

theorem Keeps.execGooseTalExpire {t1 : ℕ} {sub : ℕ} (h : Keeps s t) : Answers s (execGooseTalExpire t1 sub t) := .next h.tick.passCutoff

theorem Keeps.execSubCreate {t1 : ℕ} {init : ℕ} {ferrule : ℕ} {seq : ℕ} {handle : ℕ} (h : Keeps s t) :
    Answers s (execSubCreate t1 init ferrule seq handle t) := .next (h.tick.gatedCmd fun _ hq => hq.subCreate)

theorem Keeps.execSubDestroy {t1 : ℕ} {init : ℕ} {ferrule : ℕ} {seq : ℕ} {handle : ℕ} (h : Keeps s t) :
    Answers s (execSubDestroy t1 init ferrule seq handle t) := .next (h.tick.gatedCmd fun _ hq => hq.subDestroy)

theorem Keeps.execSubSetpol {t1 : ℕ} {init : ℕ} {ferrule : ℕ} {seq : ℕ} {handle : ℕ} (h : Keeps s t) :
    Answers s (execSubSetpol t1 init ferrule seq handle t) := .next (h.tick.gatedCmd fun _ hq => hq.subSetpol)

/-! ### Rx -/

theorem Keeps.execLaneFrameRx {t1 : ℕ} {lane : ℕ} {frame : RxFrame} (h : Keeps s t) : Answers s (execLaneFrameRx t1 lane frame t) := by
  unfold Machine.execLaneFrameRx
  extract_lets s1
  have hs1 : Keeps s s1 := h.tick
  refine .next ?_
  split
  · exact hs1.rxStages
  · exact hs1

/-! ### Cell -/

theorem Keeps.execCellCapabilityTx {t1 : ℕ} {lane : ℕ} (h : Keeps s t) : Answers s (execCellCapabilityTx t1 lane t) := by
  unfold Machine.execCellCapabilityTx
  extract_lets s1 s2 s3 z
  have hs1 : Keeps s s1 := h.tick
  have hs2 : Keeps s s2 := hs1.periodNow
  have hs3 : Keeps s s3 := hs2.cellPut
  refine .next ?_
  split
  · exact hs3.setCell
  · exact hs1

theorem Keeps.execCellEchoRequestTx {t1 : ℕ} {lane : ℕ} (h : Keeps s t) : Answers s (execCellEchoRequestTx t1 lane t) := by
  unfold Machine.execCellEchoRequestTx
  extract_lets s1 c s2 z
  have hs1 : Keeps s s1 := h.tick
  have hs2 : Keeps s s2 := hs1.cellPut
  refine .next ?_
  split
  · exact hs2.setCell
  · exact hs1

theorem Keeps.execCellCapabilityRx {t1 : ℕ} {lane : ℕ} {rx : CellRx} (h : Keeps s t) :
    Answers s (execCellCapabilityRx t1 lane rx t) := .next h.tick.cellReceive

theorem Keeps.execCellEchoReplyRx {t1 : ℕ} {lane : ℕ} {rx : CellRx} (h : Keeps s t) :
    Answers s (execCellEchoReplyRx t1 lane rx t) := .next h.tick.cellReceive

theorem Keeps.execCellStatusRx {t1 : ℕ} {lane : ℕ} {rx : CellRx} (h : Keeps s t) :
    Answers s (execCellStatusRx t1 lane rx t) := .next h.tick.cellReceive

theorem Keeps.execCellExchangeTimeout {t1 : ℕ} {lane : ℕ} (h : Keeps s t) : Answers s (execCellExchangeTimeout t1 lane t) := by
  unfold Machine.execCellExchangeTimeout
  extract_lets s1
  have hs1 : Keeps s s1 := h.tick
  refine .next ?_
  split
  · exact hs1.cellFail
  · exact hs1

theorem Keeps.execCellEchoTimeout {t1 : ℕ} {lane : ℕ} (h : Keeps s t) : Answers s (execCellEchoTimeout t1 lane t) := by
  unfold Machine.execCellEchoTimeout
  extract_lets s1
  have hs1 : Keeps s s1 := h.tick
  refine .next ?_
  split
  · split
    · exact hs1.cellFail
    · exact hs1
  · exact hs1

theorem Keeps.execCellExchangeRetry {t1 : ℕ} {lane : ℕ} (h : Keeps s t) : Answers s (execCellExchangeRetry t1 lane t) := by
  unfold Machine.execCellExchangeRetry
  extract_lets s1 cfr
  have hs1 : Keeps s s1 := h.tick
  refine .next ?_
  split
  · exact hs1.setLst
  · exact hs1

theorem Keeps.execCellLinkRelearn {t1 : ℕ} {init : ℕ} {lane : ℕ} (h : Keeps s t) : Answers s (execCellLinkRelearn t1 init lane t) := by
  unfold Machine.execCellLinkRelearn
  extract_lets s1
  have hs1 : Keeps s s1 := h.tick
  refine .next ?_
  split
  · exact hs1.gated fun _ hq => hq.cellRelearn
  · exact hs1

theorem Keeps.execCellCommandLaunch {t1 : ℕ} {lane : ℕ} {stroke : ℕ} (h : Keeps s t) :
    Answers s (execCellCommandLaunch t1 lane stroke t) := by
  unfold Machine.execCellCommandLaunch
  extract_lets s1 b c
  have hs1 : Keeps s s1 := h.tick
  refine .next ?_
  split
  · exact hs1
  · extract_lets at'
    split
    · split
      · split
        · extract_lets s2
          have hs2 : Keeps s s2 := hs1.cellSend
          split
          · exact hs2.bump
          · exact hs2
        · exact hs1
      · split
        · exact hs1.bump
        · exact hs1
    · exact hs1

theorem Keeps.execCellSignoffLaunch {t1 : ℕ} {lane : ℕ} {stroke : ℕ} (h : Keeps s t) :
    Answers s (execCellSignoffLaunch t1 lane stroke t) := by
  unfold Machine.execCellSignoffLaunch
  extract_lets s1 c reset able
  have hs1 : Keeps s s1 := h.tick
  refine .next ?_
  split
  · exact hs1
  · extract_lets at' s2
    have hs2 : Keeps s s2 := hs1.cellSend
    split
    · split
      · exact hs2
      · exact hs2.bump
    · exact hs1

theorem Keeps.execCellRttUpdate {t1 : ℕ} {lane : ℕ} (h : Keeps s t) : Answers s (execCellRttUpdate t1 lane t) := by
  unfold Machine.execCellRttUpdate
  extract_lets s1 b c rtt old s2
  have hs1 : Keeps s s1 := h.tick
  have hs2 : Keeps s s2 := hs1.wr.wr
  refine .next ?_
  split
  · exact hs2.setCell
  · exact hs1

/-! ### Trips -/

theorem Keeps.execTripSchedArm {t1 : ℕ} {init : ℕ} {line : ℕ} {value : Word} (h : Keeps s t) :
    Answers s (execTripSchedArm t1 init line value t) := by
  unfold Machine.execTripSchedArm
  extract_lets value1
  exact .next (h.tick.gated fun _ hq => hq.schlWrite)

theorem Keeps.execTripSchedCancel {t1 : ℕ} {init : ℕ} {line : ℕ} (h : Keeps s t) : Answers s (execTripSchedCancel t1 init line t) := by
  unfold Machine.execTripSchedCancel
  extract_lets value
  exact .next (h.tick.gated fun _ hq => hq.schlWrite)

theorem Keeps.execScheduledEdgeFire {t1 : ℕ} {line : ℕ} (h : Keeps s t) : Answers s (execScheduledEdgeFire t1 line t) := by
  unfold Machine.execScheduledEdgeFire
  extract_lets s1 s2 z
  have hs1 : Keeps s s1 := h.tick
  have hs2 : Keeps s s2 := hs1.wr
  refine .next ?_
  split
  · exact hs2.setTrip.tripNow
  · exact hs1

theorem Keeps.execBinaryInputChange {t1 : ℕ} {input : ℕ} {ball : Bool} (h : Keeps s t) :
    Answers s (execBinaryInputChange t1 input ball t) := by
  unfold Machine.execBinaryInputChange
  extract_lets s1 z
  have hs1 : Keeps s s1 := h.tick
  exact .next hs1.setTrip.biSample

theorem Keeps.execBinaryInputAccept {t1 : ℕ} {input : ℕ} (h : Keeps s t) : Answers s (execBinaryInputAccept t1 input t) := by
  unfold Machine.execBinaryInputAccept
  extract_lets s1
  have hs1 : Keeps s s1 := h.tick
  refine .next ?_
  split
  · exact hs1.biAccept
  · exact hs1

theorem Keeps.execBiEventPop {t1 : ℕ} {init : ℕ} {input : ℕ} (h : Keeps s t) :
    Answers s (execBiEventPop t1 init input t) := .next (h.tick.gatedRead fun _ hq => hq.biPop)

/-! ### Egress -/

theorem Keeps.execOutputMessageArrive {t1 : ℕ} {fn : ℕ} {twin : ℕ} {point : ℕ} {stroke : ℕ} (h : Keeps s t) :
    Answers s (execOutputMessageArrive t1 fn twin point stroke t) := .next h.tick.arrive

theorem Keeps.execErrorNoticeArrive {t1 : ℕ} {fn : ℕ} {twin : ℕ} {point : ℕ} {stroke : ℕ} (h : Keeps s t) :
    Answers s (execErrorNoticeArrive t1 fn twin point stroke t) := .next h.tick.arrive

theorem Keeps.execTwinCompareDeadline {t1 : ℕ} {fn : ℕ} {point : ℕ} {stroke : ℕ} (h : Keeps s t) :
    Answers s (execTwinCompareDeadline t1 fn point stroke t) := by
  unfold Machine.execTwinCompareDeadline
  extract_lets s1
  have hs1 : Keeps s s1 := h.tick
  refine .next ?_
  split
  · exact hs1.compareDeadline
  · exact hs1.deadlineLost

theorem Keeps.execEgressDeadline {t1 : ℕ} {fn : ℕ} {point : ℕ} {stroke : ℕ} (h : Keeps s t) :
    Answers s (execEgressDeadline t1 fn point stroke t) := by
  unfold Machine.execEgressDeadline
  extract_lets s1
  have hs1 : Keeps s s1 := h.tick
  refine .next ?_
  split
  · exact hs1.usePoint
  · split
    · exact hs1.deadlineLost
    · exact hs1

theorem Keeps.execTwinDecisionArrive {t1 : ℕ} {fn : ℕ} {twin : ℕ} {stroke : ℕ} (h : Keeps s t) :
    Answers s (execTwinDecisionArrive t1 fn twin stroke t) := by
  unfold Machine.execTwinDecisionArrive
  extract_lets s1 is z
  have hs1 : Keeps s s1 := h.tick
  refine .next ?_
  split
  · exact hs1.withRul.takeDecision
  · exact hs1

theorem Keeps.execGatewayLegArrive {t1 : ℕ} {fn : ℕ} {gateway : ℕ} {stroke : ℕ} (h : Keeps s t) :
    Answers s (execGatewayLegArrive t1 fn gateway stroke t) := by
  unfold Machine.execGatewayLegArrive
  extract_lets s1 is z s2 s3
  have hs1 : Keeps s s1 := h.tick
  have hs2 : Keeps s s2 := hs1.withRul
  have hs3 : Keeps s s3 := hs2.passDeadline
  refine .next ?_
  split
  · split
    · exact hs3.bump
    · exact hs3.usePoint
  · exact hs1

theorem Keeps.execShadowMessageArrive {t1 : ℕ} {fn : ℕ} {twin : ℕ} {point : ℕ} {stroke : ℕ} (h : Keeps s t) :
    Answers s (execShadowMessageArrive t1 fn twin point stroke t) := by
  unfold Machine.execShadowMessageArrive
  extract_lets s1 is z s2 z1
  have hs1 : Keeps s s1 := h.tick
  have hs2 : Keeps s s2 := hs1.withRul
  refine .next ?_
  split
  · split
    · exact hs2
    · split
      · split
        · exact hs2
        · split
          · exact hs2.shadowNote
          · exact hs2.withRul.shadowSettle
      · exact hs2
  · exact hs1

/-! ### Ruler -/

theorem Keeps.execRulerHandleNibFault {t1 : ℕ} (h : Keeps s t) : Answers s (execRulerHandleNibFault t1 t) := by
  unfold Machine.execRulerHandleNibFault
  extract_lets s1
  have hs1 : Keeps s s1 := h.tick
  refine .next ?_
  split
  · exact hs1.popEvent.nibFails.afterEvent
  · exact hs1.popEvent.enterService.histAll.afterEvent
  · exact hs1

theorem Keeps.execRulerHandleTwinOutcome {t1 : ℕ} (h : Keeps s t) : Answers s (execRulerHandleTwinOutcome t1 t) := by
  unfold Machine.execRulerHandleTwinOutcome
  extract_lets s1
  have hs1 : Keeps s s1 := h.tick
  refine .next ?_
  split
  · exact hs1.popEvent.twinRuling.afterEvent
  · exact hs1

theorem Keeps.execRulerHandleSliceCommit {t1 : ℕ} (h : Keeps s t) : Answers s (execRulerHandleSliceCommit t1 t) := by
  unfold Machine.execRulerHandleSliceCommit
  extract_lets s1
  have hs1 : Keeps s s1 := h.tick
  refine .next ?_
  split
  · extract_lets s2
    have hs2 : Keeps s s2 := hs1.popEvent.histAll
    refine Keeps.afterEvent ?_
    refine Keeps.forEach hs2 (fun q0 q1 hq => ?_)
    split
    · exact hq.slicePlace
    · exact hq
  · exact hs1

theorem Keeps.execRulerHandleShadowOutcome {t1 : ℕ} (h : Keeps s t) : Answers s (execRulerHandleShadowOutcome t1 t) := by
  unfold Machine.execRulerHandleShadowOutcome
  extract_lets s1
  have hs1 : Keeps s s1 := h.tick
  refine .next ?_
  split
  · exact hs1.popEvent.shadowRuling.afterEvent
  · exact hs1

theorem Keeps.execStagingAreaRead {t1 : ℕ} (h : Keeps s t) : Answers s (execStagingAreaRead t1 t) := by
  unfold Machine.execStagingAreaRead
  extract_lets s1
  have hs1 : Keeps s s1 := h.tick
  refine .next ?_
  split
  · extract_lets f a fd words s2 ok d z s3
    have hs2 : Keeps s s2 := hs1.histCmd
    have hs3 : Keeps s s3 := hs2.withRul
    split
    · refine Keeps.afterEvent ?_
      split
      · exact hs2.endCmd
      · split
        · exact hs3.createFn
        · exact hs3.updateFn
    · exact hs1
  · exact hs1

theorem Keeps.execRulerCreate {t1 : ℕ} {init : ℕ} {seq : ℕ} {handle : ℕ} (h : Keeps s t) :
    Answers s (execRulerCreate t1 init seq handle t) := .next h.tick.rulDoorbell

theorem Keeps.execRulerDestroy {t1 : ℕ} {init : ℕ} {seq : ℕ} {handle : ℕ} (h : Keeps s t) :
    Answers s (execRulerDestroy t1 init seq handle t) := .next h.tick.rulDoorbell

theorem Keeps.execRulerUpdate {t1 : ℕ} {init : ℕ} {seq : ℕ} {handle : ℕ} (h : Keeps s t) :
    Answers s (execRulerUpdate t1 init seq handle t) := .next h.tick.rulDoorbell

theorem Keeps.execRulerCkpt {t1 : ℕ} {init : ℕ} {seq : ℕ} {handle : ℕ} (h : Keeps s t) :
    Answers s (execRulerCkpt t1 init seq handle t) := .next h.tick.rulDoorbell

theorem Keeps.execNibout {t1 : ℕ} {init : ℕ} {seq : ℕ} {handle : ℕ} (h : Keeps s t) :
    Answers s (execNibout t1 init seq handle t) := .next h.tick.rulDoorbell

theorem Keeps.execNibin {t1 : ℕ} {init : ℕ} {seq : ℕ} {handle : ℕ} (h : Keeps s t) :
    Answers s (execNibin t1 init seq handle t) := .next h.tick.rulDoorbell

theorem Keeps.execRulerQueuedCommandStart {t1 : ℕ} (h : Keeps s t) : Answers s (execRulerQueuedCommandStart t1 t) := by
  unfold Machine.execRulerQueuedCommandStart
  extract_lets s1
  have hs1 : Keeps s s1 := h.tick
  refine .next ?_
  split
  · exact hs1.popEvent.startCmd
  · exact hs1

theorem Keeps.execFunctionLoadComplete {t1 : ℕ} {fn : ℕ} (h : Keeps s t) : Answers s (execFunctionLoadComplete t1 fn t) := by
  unfold Machine.execFunctionLoadComplete
  extract_lets s1 x d n send s2 z s3 z1
  have hs1 : Keeps s s1 := h.tick
  have hs2 : Keeps s s2 := by
    unfold s2
    split
    · exact hs1.setFn.forEach fun _ _ hq => hq.sendDecided
    · exact hs1
  have hs3 : Keeps s s3 := by
    unfold s3
    split
    · exact hs2.setFn
    · exact hs2
  refine .next ?_
  split
  · extract_lets ps
    split
    · exact hs3.setFn.forEach fun _ _ hq => hq.sendDecided
    · exact hs3
  · exact hs3

/-! ### Strokes -/

theorem Keeps.execDomainParamWrite {t1 : ℕ} {init : ℕ} {dom : ℕ} {off : ℕ} {value : Word} (h : Keeps s t) :
    Answers s (execDomainParamWrite t1 init dom off value t) := by
  unfold Machine.execDomainParamWrite
  extract_lets x
  exact .next h.tick.domParamWrite

theorem Keeps.execDomainStart {t1 : ℕ} {init : ℕ} {dom : ℕ} (h : Keeps s t) : Answers s (execDomainStart t1 init dom t) := by
  unfold Machine.execDomainStart
  extract_lets x
  exact .next h.tick.domCtlWrite

theorem Keeps.execDomainStop {t1 : ℕ} {init : ℕ} {dom : ℕ} (h : Keeps s t) : Answers s (execDomainStop t1 init dom t) := by
  unfold Machine.execDomainStop
  extract_lets x
  exact .next h.tick.domCtlWrite

theorem Keeps.execStrokeOpen {t1 : ℕ} {dom : ℕ} (h : Keeps s t) : Answers s (execStrokeOpen t1 dom t) := .next h.tick.strokeOpen

theorem Keeps.execSampleMessageArrive {t1 : ℕ} {ferrule : ℕ} {sub : ℕ} {stroke : ℕ} (h : Keeps s t) :
    Answers s (execSampleMessageArrive t1 ferrule sub stroke t) := by
  unfold Machine.execSampleMessageArrive
  extract_lets s1 is z s2 d fd
  have hs1 : Keeps s s1 := h.tick
  have hs2 : Keeps s s2 := hs1.withRul
  refine .next ?_
  split
  · split
    · exact hs2
    · exact hs2.putFrame.setFerDom
  · exact hs1

theorem Keeps.execStrokeClose {t1 : ℕ} {ferrule : ℕ} {dom : ℕ} (h : Keeps s t) :
    Answers s (execStrokeClose t1 ferrule dom t) := .next h.tick.strokeClose

/-! ### Mcu -/

theorem Keeps.execWdgKick {t1 : ℕ} {init : ℕ} {scribe : ℕ} (h : Keeps s t) :
    Answers s (execWdgKick t1 init scribe t) := .next (h.tick.gated fun _ hq => hq.wdgKick)

theorem Keeps.execWdgPerWrite {t1 : ℕ} {init : ℕ} {scribe : ℕ} {value : Word} (h : Keeps s t) :
    Answers s (execWdgPerWrite t1 init scribe value t) := .next (h.tick.gated fun _ hq => hq.wdgConfig)

theorem Keeps.execScribeWatchdogExpire {t1 : ℕ} {scribe : ℕ} (h : Keeps s t) : Answers s (execScribeWatchdogExpire t1 scribe t) := by
  unfold Machine.execScribeWatchdogExpire
  refine .next ?_
  extract_lets s1 was s2 s3
  have hs1 : Keeps s s1 := h.tick
  have hs2 : Keeps s s2 := hs1.wdgCount
  have hs3 : Keeps s s3 := hs2.wr.bump
  split
  · split
    · exact hs3.runWrite
    · exact hs3
  · exact hs2

theorem Keeps.execMcMkick {t1 : ℕ} {init : ℕ} (h : Keeps s t) :
    Answers s (execMcMkick t1 init t) := .next (h.tick.gated fun _ hq => hq.mcKick)

theorem Keeps.execMcMperWrite {t1 : ℕ} {init : ℕ} {value : ℕ} (h : Keeps s t) :
    Answers s (execMcMperWrite t1 init value t) := .next (h.tick.gated fun _ hq => hq.mcPeriod)

theorem Keeps.execMcMrst {t1 : ℕ} {init : ℕ} {fails : List TestElement} (h : Keeps s t) : Answers s (execMcMrst t1 init fails t) := by
  unfold Machine.execMcMrst
  extract_lets x
  exact .next (h.tick.gated fun _ hq => hq.mcReset)

theorem Keeps.execMcWatchdogExpire {t1 : ℕ} {fails : List TestElement} (h : Keeps s t) : Answers s (execMcWatchdogExpire t1 fails t) := by
  unfold Machine.execMcWatchdogExpire
  extract_lets x s1 was s2
  have hs1 : Keeps s s1 := h.tick
  have hs2 : Keeps s s2 := hs1.wdgCount
  refine .next ?_
  split
  · exact hs2.mcRestart
  · exact hs2

theorem Keeps.execMbIpost {t1 : ℕ} {init : ℕ} (h : Keeps s t) :
    Answers s (execMbIpost t1 init t) := .next (h.tick.gated fun _ hq => hq.mbPost)

theorem Keeps.execMbIdone {t1 : ℕ} {init : ℕ} (h : Keeps s t) :
    Answers s (execMbIdone t1 init t) := .next (h.tick.gated fun _ hq => hq.mbPost)

theorem Keeps.execMbOpost {t1 : ℕ} {init : ℕ} (h : Keeps s t) :
    Answers s (execMbOpost t1 init t) := .next (h.tick.gated fun _ hq => hq.mbPost)

theorem Keeps.execMbOdone {t1 : ℕ} {init : ℕ} (h : Keeps s t) :
    Answers s (execMbOdone t1 init t) := .next (h.tick.gated fun _ hq => hq.mbPost)

theorem Keeps.execFlashLineFill {t1 : ℕ} (h : Keeps s t) : Answers s (execFlashLineFill t1 t) := by
  unfold Machine.execFlashLineFill
  refine .next ?_
  extract_lets s1 m
  have hs1 : Keeps s s1 := h.tick
  split
  · exact hs1
  · extract_lets bufs
    exact hs1.withMcu

/-! ### Pwr -/

theorem Keeps.execDeskpl {t1 : ℕ} {init : ℕ} {seq : ℕ} (h : Keeps s t) :
    Answers s (execDeskpl t1 init seq t) := .next (h.tick.gatedCmd fun _ hq => hq.pwrBell)

theorem Keeps.execDeskst {t1 : ℕ} {init : ℕ} {seq : ℕ} (h : Keeps s t) :
    Answers s (execDeskst t1 init seq t) := .next (h.tick.gatedCmd fun _ hq => hq.pwrBell)

theorem Keeps.execFerst {t1 : ℕ} {init : ℕ} {seq : ℕ} (h : Keeps s t) :
    Answers s (execFerst t1 init seq t) := .next (h.tick.gatedCmd fun _ hq => hq.pwrBell)

theorem Keeps.execDomst {t1 : ℕ} {init : ℕ} {seq : ℕ} (h : Keeps s t) :
    Answers s (execDomst t1 init seq t) := .next (h.tick.gatedCmd fun _ hq => hq.pwrBell)

theorem Keeps.execDevst {t1 : ℕ} {init : ℕ} {seq : ℕ} (h : Keeps s t) :
    Answers s (execDevst t1 init seq t) := .next (h.tick.gatedCmd fun _ hq => hq.pwrBell)

theorem Keeps.execPwrDead {t1 : ℕ} {init : ℕ} {seq : ℕ} (h : Keeps s t) :
    Answers s (execPwrDead t1 init seq t) := .next (h.tick.gatedCmd fun _ hq => hq.pwrBell)

theorem Keeps.execBreset {t1 : ℕ} {init : ℕ} {seq : ℕ} (h : Keeps s t) :
    Answers s (execBreset t1 init seq t) := .next (h.tick.gatedCmd fun _ hq => hq.pwrBell)

theorem Keeps.execPwrBlockGrant {t1 : ℕ} {block : ℕ} (h : Keeps s t) : Answers s (execPwrBlockGrant t1 block t) := by
  unfold Machine.execPwrBlockGrant
  refine .next ?_
  extract_lets s1
  have hs1 : Keeps s s1 := h.tick
  split
  · exact hs1
  · split
    · exact hs1
    · split
      · split
        next x s2 e =>
          have hq := hs1.deskWriteBack.snd e
          exact hq.deskHold
        next x s2 e =>
          have hq := hs1.deskWriteBack.snd e
          exact hq
      · split
        · exact hs1
        · extract_lets off r'
          split
          · exact hs1.pwrFail
          · split
            next x s2 e =>
              have hq := hs1.blockFinish.snd e
              exact hq
            next x s2 e =>
              have hq := hs1.blockFinish.snd e
              extract_lets z s3
              have hs3 : Keeps s s3 := hq.withPwr
              split
              · exact hs3.requestGranted
              · split
                · exact hs3.answerRequest
                · exact hs3

theorem Keeps.execPwrRequestTimeout {t1 : ℕ} {block : ℕ} (h : Keeps s t) : Answers s (execPwrRequestTimeout t1 block t) := by
  unfold Machine.execPwrRequestTimeout
  refine .next ?_
  extract_lets s1 z s2
  have hs1 : Keeps s s1 := h.tick
  have hs2 : Keeps s s2 := hs1.withPwr
  split
  · exact hs1
  · split
    · split
      · exact hs2.pageErr.pwrEnd
      · exact hs1.pwrFail
    · exact hs1

theorem Keeps.execDeskLevelChangeComplete {t1 : ℕ} {ok : Bool} {rail : ℕ} (h : Keeps s t) :
    Answers s (execDeskLevelChangeComplete t1 ok rail t) := .next h.tick.levelEnd

theorem Keeps.execDeskNapExit {t1 : ℕ} {desk : ℕ} (h : Keeps s t) : Answers s (execDeskNapExit t1 desk t) := by
  unfold Machine.execDeskNapExit
  refine .next ?_
  extract_lets s1 st s2
  have hs1 : Keeps s s1 := h.tick
  have hs2 : Keeps s s2 := hs1.blockEnter
  split
  · split
    · exact hs2.bump.setBit
    · exact hs2
  · exact hs1

theorem Keeps.execFerrulePowerUpComplete {t1 : ℕ} {ferrule : ℕ} (h : Keeps s t) : Answers s (execFerrulePowerUpComplete t1 ferrule t) := by
  unfold Machine.execFerrulePowerUpComplete
  refine .next ?_
  extract_lets s1
  have hs1 : Keeps s s1 := h.tick
  split
  · exact hs1.endChanges.changesDone
  · exact hs1

theorem Keeps.execPwrTransitionComplete {t1 : ℕ} (h : Keeps s t) : Answers s (execPwrTransitionComplete t1 t) := by
  unfold Machine.execPwrTransitionComplete
  refine .next ?_
  extract_lets s1
  have hs1 : Keeps s s1 := h.tick
  split
  · split
    · exact hs1.endChanges.changesDone
    · exact hs1
  · exact hs1

theorem Keeps.execReclaimWalkComplete {t1 : ℕ} {desk : ℕ} (h : Keeps s t) : Answers s (execReclaimWalkComplete t1 desk t) := by
  unfold Machine.execReclaimWalkComplete
  refine .next ?_
  extract_lets s1
  have hs1 : Keeps s s1 := h.tick
  split
  · exact hs1.reclaimEnd
  · exact hs1

theorem Keeps.execThermalSample {t1 : ℕ} {sensor : ℕ} {temp : ℤ} (h : Keeps s t) : Answers s (execThermalSample t1 sensor temp t) := by
  unfold Machine.execThermalSample
  refine .next ?_
  extract_lets s1 z s2
  have hs1 : Keeps s s1 := h.tick
  have hs2 : Keeps s s2 := by
    unfold s2
    split
    · exact hs1.withPwr
    · exact hs1
  split
  · extract_lets s3 s4 z1 s5
    have hs3 : Keeps s s3 := hs2.wr.wr
    have hs4 : Keeps s s4 := by
      unfold s4
      split
      · exact hs3.setBit
      · exact hs3
    have hs5 : Keeps s s5 := hs4.withPwr.setBit
    split
    · refine hs5.foldl fun q a hq => ?_
      split
      · exact hq.wr.wr
      · exact hq
    · split
      · exact hs4.withPwr
      · exact hs4

theorem Keeps.execRailLow {t1 : ℕ} {rail : ℕ} {mv : ℕ} (h : Keeps s t) : Answers s (execRailLow t1 rail mv t) := by
  unfold Machine.execRailLow
  refine .next ?_
  extract_lets s1 s2 s3
  have hs1 : Keeps s s1 := h.tick
  have hs2 : Keeps s s2 := hs1.wr
  have hs3 : Keeps s s3 := by
    unfold s3
    split
    · exact hs2.wr
    · exact hs2
  split
  · split
    · exact hs3.setBit
    · exact hs3
  · exact hs1

theorem Keeps.execAgeingMonitorSample {t1 : ℕ} {monitor : ℕ} {degr : ℕ} (h : Keeps s t) :
    Answers s (execAgeingMonitorSample t1 monitor degr t) := by
  unfold Machine.execAgeingMonitorSample
  refine .next ?_
  extract_lets s1
  have hs1 : Keeps s s1 := h.tick
  split
  · exact hs1.wr.wr
  · exact hs1

/-! ### Bst -/

theorem Keeps.execFullTestComplete {t1 : ℕ} {fails : List TestElement} (h : Keeps s t) : Answers s (execFullTestComplete t1 fails t) := by
  unfold Machine.execFullTestComplete
  refine .next ?_
  extract_lets s1 z s2
  have hs1 : Keeps s s1 := h.tick
  have hs2 : Keeps s s2 := hs1.withBst
  split
  · exact hs2.testFails.wr.complete
  · exact hs1

theorem Keeps.execFulltest {t1 : ℕ} {init : ℕ} {seq : ℕ} (h : Keeps s t) :
    Answers s (execFulltest t1 init seq t) := .next (h.tick.gatedCmd fun _ hq => (hq.bstBell fun _ hq1 => hq1.fullTest))

theorem Keeps.execFuse {t1 : ℕ} {init : ℕ} {seq : ℕ} (h : Keeps s t) :
    Answers s (execFuse t1 init seq t) := .next (h.tick.gatedCmd fun _ hq => (hq.bstBell fun _ hq1 => hq1.fuse))

theorem Keeps.execVbatRetentionLoss {t1 : ℕ} (h : Keeps s t) : Answers s (execVbatRetentionLoss t1 t) := by
  unfold Machine.execVbatRetentionLoss
  refine .next ?_
  extract_lets s1
  have hs1 : Keeps s s1 := h.tick
  split
  · exact hs1.wr.wr
  · exact hs1

theorem Keeps.execRollingTestStart {t1 : ℕ} (h : Keeps s t) : Answers s (execRollingTestStart t1 t) := by
  unfold Machine.execRollingTestStart
  refine .next ?_
  extract_lets s1 z z1 s2
  have hs1 : Keeps s s1 := h.tick
  have hz : Keeps s z := hs1.bump
  have hs2 : Keeps s s2 := hz.withBst
  split
  · split
    · exact hs1.rollStart
    · split
      · exact hs1
      · split
        · exact hs2.rollStart
        · exact hs2
  · exact hs1

theorem Keeps.execNibTestComplete {t1 : ℕ} {pass : Bool} (h : Keeps s t) : Answers s (execNibTestComplete t1 pass t) := by
  unfold Machine.execNibTestComplete
  refine .next ?_
  extract_lets s1 f n b s2 s3 s4 s5
  have hs1 : Keeps s s1 := h.tick
  have hs2 : Keeps s s2 := hs1.rollIdle.bump
  have hs3 : Keeps s s3 := by
    unfold s3
    split
    · exact hs2
    · exact hs2.rollFailed
  have hs4 : Keeps s s4 := hs3.wr
  have hs5 : Keeps s s5 := hs3.wr
  split
  · split
    · split
      · exact hs4.rulEvent
      · exact hs4
    · split
      · exact hs5.rulEvent
      · exact hs5.setBit
  · exact hs1

theorem Keeps.execSegmentSaveComplete {t1 : ℕ} (h : Keeps s t) : Answers s (execSegmentSaveComplete t1 t) := by
  unfold Machine.execSegmentSaveComplete
  refine .next ?_
  extract_lets s1 z z1
  have hs1 : Keeps s s1 := h.tick
  have hz : Keeps s z := hs1.wr
  split
  · exact hz.withBst
  · exact hs1

theorem Keeps.execSegmentTestPassComplete {t1 : ℕ} {fails : List TestElement} {repairable : Bool} (h : Keeps s t) :
    Answers s (execSegmentTestPassComplete t1 fails repairable t) := by
  unfold Machine.execSegmentTestPassComplete
  refine .next ?_
  extract_lets s1 again
  have hs1 : Keeps s s1 := h.tick
  split
  · split
    · exact hs1.wr
    · extract_lets s2 s3 z s4 s5 z1 z2 s6
      have hs2 : Keeps s s2 := hs1.showFailure
      have hs3 : Keeps s s3 := by
        unfold s3
        refine Keeps.wr ?_
        split
        · exact hs2
        · exact hs2.bump
      have hs4 : Keeps s s4 := hs3.withBst
      have hs5 : Keeps s s5 := hs4.setSoft
      have hs6 : Keeps s s6 := hs4.withBst
      split
      · exact hs5.withBst
      · exact hs6.rollIdle.bump.wr.pageErr
  · exact hs1

theorem Keeps.execSegmentRestoreComplete {t1 : ℕ} (h : Keeps s t) : Answers s (execSegmentRestoreComplete t1 t) := by
  unfold Machine.execSegmentRestoreComplete
  refine .next ?_
  extract_lets s1 n s2
  have hs1 : Keeps s s1 := h.tick
  have hs2 : Keeps s s2 := hs1.rollIdle
  split
  · split
    · exact hs2
    · exact hs2.bump
  · exact hs1

/-! ### Duplex -/

theorem Keeps.execHealthTick {t1 : ℕ} (h : Keeps s t) : Answers s (execHealthTick t1 t) := by
  unfold Machine.execHealthTick
  refine .next ?_
  extract_lets s1 z
  have hs1 : Keeps s s1 := h.tick.wrapInc
  exact hs1.withMcu.dpxStatusTx

theorem Keeps.execDuplexStatusRx {t1 : ℕ} {stamp : ℕ} {version : ℕ} {msg : DpxStatus} (h : Keeps s t) :
    Answers s (execDuplexStatusRx t1 stamp version msg t) := by
  unfold Machine.execDuplexStatusRx
  refine .next ?_
  extract_lets s1 second mine z s2 s3 s4 s5 s6 role s7
  have hs1 : Keeps s s1 := h.tick
  have hs2 : Keeps s s2 := hs1.withDpx
  have hs3 : Keeps s s3 := hs2.bump.wr.wrb.wr.wr
  have hs4 : Keeps s s4 := hs3.wr.wr
  have hs5 : Keeps s s5 := hs4.dpxCheck.dpxCheck.dpxCheck
  have hs6 : Keeps s s6 := hs5.dpxReason
  have hs7 : Keeps s s7 := hs6.dpxReason
  split
  · exact hs1
  · split
    · exact hs1.bump
    · exact hs7.dpxReason.dpxCount.dpxEligible.dpxOffset

theorem Keeps.execDuplexPeerTimeout {t1 : ℕ} (h : Keeps s t) : Answers s (execDuplexPeerTimeout t1 t) := by
  unfold Machine.execDuplexPeerTimeout
  refine .next ?_
  extract_lets s1 s2 z s3
  have hs1 : Keeps s s1 := h.tick
  have hs2 : Keeps s s2 := hs1.wr.wr
  have hs3 : Keeps s s3 := hs2.withDpx
  split
  · exact hs3.setPdeg.dpxReason.dpxEligible
  · exact hs1

theorem Keeps.execDuplexConfigWrite {t1 : ℕ} {init : ℕ} {off : ℕ} {value : Word} (h : Keeps s t) :
    Answers s (execDuplexConfigWrite t1 init off value t) := .next (h.tick.gated fun _ hq => hq.dpxConfig)

theorem Keeps.execDuplexClr {t1 : ℕ} {init : ℕ} (h : Keeps s t) :
    Answers s (execDuplexClr t1 init t) := .next (h.tick.gated fun _ hq => hq.dpxClear)

theorem Keeps.execDuplexOutputTx {t1 : ℕ} {dom : ℕ} {stroke : ℕ} (h : Keeps s t) : Answers s (execDuplexOutputTx t1 dom stroke t) := by
  unfold Machine.execDuplexOutputTx
  refine .next ?_
  extract_lets s1 m s2 late s3 x s4 z s5 z1
  have hs1 : Keeps s s1 := h.tick
  have hs2 : Keeps s s2 := hs1.sendOn
  have hs3 : Keeps s s3 := hs2.foldl fun _ _ hq => hq.bump
  have hs4 : Keeps s s4 := hs3.withDpx
  have hs5 : Keeps s s5 := by
    unfold s5
    split
    · exact hs4.dpxCompare
    · exact hs4.withDpx
  split
  · exact hs5.withDpx
  · exact hs1

theorem Keeps.execDuplexOutputRx {t1 : ℕ} {version : ℕ} {msg : DpxOutput} (h : Keeps s t) :
    Answers s (execDuplexOutputRx t1 version msg t) := by
  unfold Machine.execDuplexOutputRx
  refine .next ?_
  extract_lets s1 z
  have hs1 : Keeps s s1 := h.tick
  split
  · exact hs1
  · split
    · exact hs1.bump
    · split
      · exact hs1.withDpx.dpxCompare
      · split
        · exact hs1.withDpx
        · exact hs1

/-! ### Debug -/

theorem Keeps.execDebugAttachWrite {t1 : ℕ} {init : ℕ} {attach : Bool} (h : Keeps s t) :
    Answers s (execDebugAttachWrite t1 init attach t) := .next (h.tick.gated fun _ hq => hq.attachWrite)

theorem Keeps.execDebugHalt {t1 : ℕ} {init : ℕ} {mask : BitVec 33} (h : Keeps s t) :
    Answers s (execDebugHalt t1 init mask t) := .next (h.tick.gated fun _ hq => hq.haltWrite)

theorem Keeps.execScribeHalted {t1 : ℕ} {scribe : ℕ} (h : Keeps s t) : Answers s (execScribeHalted t1 scribe t) := by
  unfold Machine.execScribeHalted
  refine .next ?_
  extract_lets s1
  have hs1 : Keeps s s1 := h.tick
  split
  · split
    · exact hs1.coreHalt
    · exact hs1
  · split
    · exact hs1.coreHalt
    · exact hs1

theorem Keeps.execDebugResume {t1 : ℕ} {init : ℕ} {mask : BitVec 33} (h : Keeps s t) :
    Answers s (execDebugResume t1 init mask t) := .next (h.tick.gated fun _ hq => hq.resumeWrite)

theorem Keeps.execDebugStep {t1 : ℕ} {init : ℕ} {mask : BitVec 33} (h : Keeps s t) :
    Answers s (execDebugStep t1 init mask t) := .next (h.tick.gated fun _ hq => hq.stepWrite)

theorem Keeps.execNibDebugHalt {t1 : ℕ} {init : ℕ} {value : Word} (h : Keeps s t) :
    Answers s (execNibDebugHalt t1 init value t) := .next (h.tick.gated fun _ hq => hq.nibSelect)

theorem Keeps.execNibDebugRelease {t1 : ℕ} {init : ℕ} {value : Word} (h : Keeps s t) :
    Answers s (execNibDebugRelease t1 init value t) := .next (h.tick.gated fun _ hq => hq.nibSelect)

theorem Keeps.execExtest {t1 : ℕ} {dr : ℕ} (h : Keeps s t) : Answers s (execExtest t1 dr t) := .next h.tick.boundaryScan

theorem Keeps.execSamplePreload {t1 : ℕ} {dr : ℕ} (h : Keeps s t) : Answers s (execSamplePreload t1 dr t) := .next h.tick.boundaryScan

theorem Keeps.execExtestPulse {t1 : ℕ} {dr : ℕ} (h : Keeps s t) : Answers s (execExtestPulse t1 dr t) := .next h.tick.boundaryScan

theorem Keeps.execExtestTrain {t1 : ℕ} {dr : ℕ} (h : Keeps s t) : Answers s (execExtestTrain t1 dr t) := .next h.tick.boundaryScan

theorem Keeps.execIdcode {t1 : ℕ} (h : Keeps s t) : Answers s (execIdcode t1 t) := by
  unfold Machine.execIdcode
  refine .next ?_
  extract_lets s1 z
  have hs1 : Keeps s s1 := h.tick.loadIr
  exact hs1.withDbg

theorem Keeps.execBypass {t1 : ℕ} {tdi : Bool} (h : Keeps s t) : Answers s (execBypass t1 tdi t) := by
  unfold Machine.execBypass
  refine .next ?_
  extract_lets s1 z
  have hs1 : Keeps s s1 := h.tick.loadIr
  exact hs1.withDbg

theorem Keeps.execScanr {t1 : ℕ} {sel : BitVec 8} (h : Keeps s t) : Answers s (execScanr t1 sel t) := by
  unfold Machine.execScanr
  refine .next ?_
  extract_lets s1 b s2 up
  have hs1 : Keeps s s1 := h.tick
  have hs2 : Keeps s s2 := hs1.loadIr
  split
  · exact hs1.loadIr
  · split
    · exact hs1.loadIr
    · split
      · exact hs2.scanRegion
      · exact hs2

theorem Keeps.execUnlockRequest {t1 : ℕ} {op : BitVec 8} (h : Keeps s t) : Answers s (execUnlockRequest t1 op t) := by
  unfold Machine.execUnlockRequest
  refine .next ?_
  extract_lets s1 z
  have hs1 : Keeps s s1 := h.tick.loadIr
  split
  · split
    · exact hs1.withDbg
    · split
      next x nonce s2 e =>
        have hq := hs1.free.snd e
        extract_lets l z1
        exact hq.withDbg
  · exact hs1

theorem Keeps.execUnlockAnswer {t1 : ℕ} {sigR : ℕ} {sigS : ℕ} {pubKey : ℕ} (h : Keeps s t) :
    Answers s (execUnlockAnswer t1 sigR sigS pubKey t) := by
  unfold Machine.execUnlockAnswer
  refine .next ?_
  extract_lets s1 lvl ok z s2 z1 s3
  have hs1 : Keeps s s1 := h.tick.loadIr
  have hs2 : Keeps s s2 := hs1.withDbg
  have hs3 : Keeps s s3 := hs2.withDbg
  split
  · exact hs2.wr
  · exact hs3.bump.wr.wr.pageErr

theorem Keeps.execUnlockRelock {t1 : ℕ} (h : Keeps s t) : Answers s (execUnlockRelock t1 t) := .next h.tick.loadIr.relock

theorem Keeps.execChallengeWaitExpire {t1 : ℕ} (h : Keeps s t) : Answers s (execChallengeWaitExpire t1 t) := by
  unfold Machine.execChallengeWaitExpire
  refine .next ?_
  extract_lets s1
  have hs1 : Keeps s s1 := h.tick
  split
  · exact hs1.wr
  · exact hs1

theorem Keeps.execBlotterPacketWrite {t1 : ℕ} (h : Keeps s t) : Answers s (execBlotterPacketWrite t1 t) := by
  unfold Machine.execBlotterPacketWrite
  refine .next ?_
  extract_lets s1 z
  have hs1 : Keeps s s1 := h.tick
  split
  · exact hs1
  · split
    · exact hs1
    · extract_lets s2
      have hs2 : Keeps s s2 := hs1.withBlot
      exact hs2.writePacket.owedGap

theorem Keeps.execBlotterStimWrite {t1 : ℕ} {init : ℕ} {port : ℕ} {value : Word} (h : Keeps s t) :
    Answers s (execBlotterStimWrite t1 init port value t) := .next (h.tick.gated fun _ hq => hq.stimWrite)

theorem Keeps.execBlotterClr {t1 : ℕ} {init : ℕ} (h : Keeps s t) :
    Answers s (execBlotterClr t1 init t) := .next (h.tick.gated fun _ hq => hq.blotClear)

theorem Keeps.execBlotterStop {t1 : ℕ} {init : ℕ} (h : Keeps s t) :
    Answers s (execBlotterStop t1 init t) := .next (h.tick.gated fun _ hq => hq.wr)

/-! ### Sregs -/

theorem Keeps.execDebugRegWrite {t1 : ℕ} {init : ℕ} {value : Word} (h : Keeps s t) :
    Answers s (execDebugRegWrite t1 init value t) := .next (h.tick.gated fun _ hq => hq.srvalWrite)

/-! ### Reset -/

theorem Keeps.execSupplyAonGood {t1 : ℕ} (h : Keeps s t) : Answers s (execSupplyAonGood t1 t) := by
  unfold Machine.execSupplyAonGood
  refine .next ?_
  extract_lets s1
  have hs1 : Keeps s s1 := h.tick
  split
  · exact hs1.withPhase
  · exact hs1

theorem Keeps.execPowerOnReset {t1 : ℕ} (h : Keeps s t) : Answers s (execPowerOnReset t1 t) := by
  unfold Machine.execPowerOnReset
  refine .next ?_
  extract_lets s1
  have hs1 : Keeps s s1 := h.tick
  split
  · exact hs1
  · exact hs1.coldState

theorem Keeps.execPowerOnResetEnd {t1 : ℕ} {fails : List TestElement} (h : Keeps s t) : Answers s (execPowerOnResetEnd t1 fails t) := by
  unfold Machine.execPowerOnResetEnd
  refine .next ?_
  extract_lets s1 z
  have hs1 : Keeps s s1 := h.tick
  split
  · exact hs1.withTim.loadOtp.boot
  · exact hs1

theorem Keeps.execPowerLoss {t1 : ℕ} (h : Keeps s t) : Answers s (execPowerLoss t1 t) := .next h.tick.coldState

theorem Keeps.execChipReset {t1 : ℕ} (h : Keeps s t) : Answers s (execChipReset t1 t) := by
  unfold Machine.execChipReset
  refine .next ?_
  extract_lets s1 s2 z z1
  have hs1 : Keeps s s1 := h.tick
  have hs2 : Keeps s s2 := hs1.chipResetStart
  have hz : Keeps s z := hs2.wr
  split
  · exact hs1
  · exact hz.withBst

theorem Keeps.execChipResetEnd {t1 : ℕ} {fails : List TestElement} (h : Keeps s t) : Answers s (execChipResetEnd t1 fails t) := by
  unfold Machine.execChipResetEnd
  refine .next ?_
  extract_lets s1
  have hs1 : Keeps s s1 := h.tick
  split
  · exact hs1.withPhase.chipResetLeave.boot
  · exact hs1

theorem Keeps.execSeal {t1 : ℕ} {init : ℕ} {seq : ℕ} (h : Keeps s t) :
    Answers s (execSeal t1 init seq t) := .next (h.tick.gatedCmd fun _ hq => (hq.bstBell fun _ hq1 => hq1.sealRecord))

theorem Keeps.execFerruleReset {t1 : ℕ} {ferrule : ℕ} (h : Keeps s t) : Answers s (execFerruleReset t1 ferrule t) := by
  unfold Machine.execFerruleReset
  refine .next ?_
  extract_lets s1
  have hs1 : Keeps s s1 := h.tick
  split
  · exact hs1.ferResetStart
  · exact hs1

theorem Keeps.execFerruleResetEnd {t1 : ℕ} {ferrule : ℕ} (h : Keeps s t) : Answers s (execFerruleResetEnd t1 ferrule t) := by
  unfold Machine.execFerruleResetEnd
  refine .next ?_
  extract_lets s1
  have hs1 : Keeps s s1 := h.tick
  split
  · exact hs1.ferResetEnd
  · exact hs1

/-! ### DmaCtl -/

theorem Keeps.execDmaCreate {t1 : ℕ} {init : ℕ} {seq : ℕ} {handle : ℕ} (h : Keeps s t) :
    Answers s (execDmaCreate t1 init seq handle t) := .next (h.tick.gatedCmd fun _ hq => hq.dmaBell)

theorem Keeps.execDmaDestroy {t1 : ℕ} {init : ℕ} {seq : ℕ} {handle : ℕ} (h : Keeps s t) :
    Answers s (execDmaDestroy t1 init seq handle t) := .next (h.tick.gatedCmd fun _ hq => hq.dmaBell)

theorem Keeps.execDmaStart {t1 : ℕ} {init : ℕ} {seq : ℕ} {handle : ℕ} (h : Keeps s t) :
    Answers s (execDmaStart t1 init seq handle t) := .next (h.tick.gatedCmd fun _ hq => hq.dmaBell)

theorem Keeps.execDmaStop {t1 : ℕ} {init : ℕ} {seq : ℕ} {handle : ℕ} (h : Keeps s t) :
    Answers s (execDmaStop t1 init seq handle t) := .next (h.tick.gatedCmd fun _ hq => hq.dmaBell)

/-! ### Ten -/

theorem Keeps.execTenantActivate {t1 : ℕ} {init : ℕ} {seq : ℕ} (h : Keeps s t) :
    Answers s (execTenantActivate t1 init seq t) := .next (h.tick.gatedCmd fun _ hq => hq.tenBell)

theorem Keeps.execQpcreate {t1 : ℕ} {init : ℕ} {seq : ℕ} (h : Keeps s t) :
    Answers s (execQpcreate t1 init seq t) := .next (h.tick.gatedCmd fun _ hq => hq.tenBell)

theorem Keeps.execQpdestroy {t1 : ℕ} {init : ℕ} {seq : ℕ} {handle : ℕ} (h : Keeps s t) :
    Answers s (execQpdestroy t1 init seq handle t) := .next (h.tick.gatedCmd fun _ hq => hq.tenBell)

theorem Keeps.execTenantFreeze {t1 : ℕ} {init : ℕ} {seq : ℕ} (h : Keeps s t) :
    Answers s (execTenantFreeze t1 init seq t) := .next (h.tick.gatedCmd fun _ hq => hq.tenBell)

theorem Keeps.execTenantExport {t1 : ℕ} {init : ℕ} {seq : ℕ} (h : Keeps s t) :
    Answers s (execTenantExport t1 init seq t) := .next (h.tick.gatedCmd fun _ hq => hq.tenBell)

theorem Keeps.execTenantImport {t1 : ℕ} {init : ℕ} {seq : ℕ} (h : Keeps s t) :
    Answers s (execTenantImport t1 init seq t) := .next (h.tick.gatedCmd fun _ hq => hq.tenBell)

theorem Keeps.execTenantResume {t1 : ℕ} {init : ℕ} {seq : ℕ} (h : Keeps s t) :
    Answers s (execTenantResume t1 init seq t) := .next (h.tick.gatedCmd fun _ hq => hq.tenBell)

theorem Keeps.execTreset {t1 : ℕ} {init : ℕ} {seq : ℕ} (h : Keeps s t) :
    Answers s (execTreset t1 init seq t) := .next (h.tick.gatedCmd fun _ hq => hq.tenBell)

theorem Keeps.execTenantFreezeTakeEffect {t1 : ℕ} {tenant : ℕ} {dom : ℕ} (h : Keeps s t) :
    Answers s (execTenantFreezeTakeEffect t1 tenant dom t) := by
  unfold Machine.execTenantFreezeTakeEffect
  refine .next ?_
  extract_lets s1
  have hs1 : Keeps s s1 := h.tick
  split
  · exact hs1
  · extract_lets due
    split
    · exact hs1.freezeDom
    · exact hs1

theorem Keeps.execTenantFreezeComplete {t1 : ℕ} {tenant : ℕ} (h : Keeps s t) : Answers s (execTenantFreezeComplete t1 tenant t) := by
  unfold Machine.execTenantFreezeComplete
  refine .next ?_
  extract_lets s1 doms nds fns s2 s3
  have hs1 : Keeps s s1 := h.tick
  have hs2 : Keeps s s2 := by
    unfold s2
    refine hs1.foldl fun q a hq => ?_
    extract_lets x p nd s4 z
    have hs4 : Keeps s s4 := by
      unfold s4
      split
      · exact hq.ckptOf
      · exact hq
    split
    · exact hs4.setFn
    · exact hq
  have hs3 : Keeps s s3 := by
    unfold s3
    refine hs2.foldl fun q a hq => ?_
    split
    · split
      · exact hq.wr.wr
      · exact hq.wr
    · exact hq.wr
  split
  · exact hs1
  · split
    · exact hs3.wr.wr
    · exact hs1

theorem Keeps.execTenantResumeTakeEffect {t1 : ℕ} {tenant : ℕ} (h : Keeps s t) : Answers s (execTenantResumeTakeEffect t1 tenant t) := by
  unfold Machine.execTenantResumeTakeEffect
  refine .next ?_
  extract_lets s1 z s2 s3
  have hs1 : Keeps s s1 := h.tick
  have hs2 : Keeps s s2 := hs1.wr.setTen
  have hs3 : Keeps s s3 := by
    unfold s3
    refine hs2.foldl fun q a hq => ?_
    split
    · exact hq.slicePlace
    · exact hq
  split
  · exact hs1
  · split
    · exact hs3.afterEvent
    · exact hs1

theorem Keeps.execTenantResetComplete {t1 : ℕ} {tenant : ℕ} (h : Keeps s t) : Answers s (execTenantResetComplete t1 tenant t) := by
  unfold Machine.execTenantResetComplete
  refine .next ?_
  extract_lets s1 s2 s3 s4 s5 s6
  have hs1 : Keeps s s1 := h.tick
  have hs2 : Keeps s s2 := hs1.foldl fun _ _ hq => hq.pubFree
  have hs3 : Keeps s s3 := hs2.foldl fun _ _ hq => hq.subFree
  have hs4 : Keeps s s4 := by
    unfold s4
    refine hs3.foldl fun q a hq => ?_
    split
    · exact hq.qpFree
    · exact hq
  have hs5 : Keeps s s5 := by
    unfold s5
    refine hs4.foldl fun q a hq => ?_
    split
    · exact hq.dmaFree
    · exact hq
  have hs6 : Keeps s s6 := hs5.setTen.wr.wr
  split
  · exact hs6.tenDone
  · exact hs1

/-! ### Access -/

theorem Keeps.execRegisterWrite {t1 : ℕ} {init : ℕ} {vf : ℕ} {page : ℕ} {off : ℕ} {size : ℕ} {value : Word} (h : Keeps s t) :
    Answers s (execRegisterWrite t1 init vf page off size value t) := .next h.tick.commandAccess

theorem Keeps.execStagedWrite {t1 : ℕ} {init : ℕ} {page : ℕ} {off : ℕ} {value : Word} (h : Keeps s t) :
    Answers s (execStagedWrite t1 init page off value t) := .next h.tick.commandAccess

theorem Keeps.execClearOnRead {t1 : ℕ} {init : ℕ} {vf : ℕ} {page : ℕ} {off : ℕ} {size : ℕ} (h : Keeps s t) :
    Answers s (execClearOnRead t1 init vf page off size t) := .next h.tick.commandAccess

theorem Keeps.execQpRxDoorbell {t1 : ℕ} {init : ℕ} {vf : ℕ} {qp : ℕ} {tail : ℕ} (h : Keeps s t) :
    Answers s (execQpRxDoorbell t1 init vf qp tail t) := by
  unfold Machine.execQpRxDoorbell
  refine .next ?_
  split
  · exact h.tick.commandAccess
  · exact h.tick

theorem Keeps.execQpTxDoorbell {t1 : ℕ} {init : ℕ} {vf : ℕ} {qp : ℕ} {tail : ℕ} (h : Keeps s t) :
    Answers s (execQpTxDoorbell t1 init vf qp tail t) := by
  unfold Machine.execQpTxDoorbell
  refine .next ?_
  split
  · exact h.tick.commandAccess
  · exact h.tick

theorem Keeps.execStalledAccessResume {t1 : ℕ} {acc : ℕ} (h : Keeps s t) : Answers s (execStalledAccessResume t1 acc t) := by
  unfold Machine.execStalledAccessResume
  extract_lets s1
  have hs1 : Keeps s s1 := h.tick
  refine .next ?_
  split
  · exact hs1
  · extract_lets older
    split
    · exact hs1
    · exact hs1.unstall.commandAccess

theorem Keeps.execVoteScrub {t1 : ℕ} {page : ℕ} {word : ℕ} {up0 : Word} {up1 : Word} {up2 : Word} {written : Bool} (h : Keeps s t) :
    Answers s (execVoteScrub t1 page word up0 up1 up2 written t) := by
  unfold Machine.execVoteScrub
  extract_lets s1 v s2
  have hs1 : Keeps s s1 := h.tick
  have hs2 : Keeps s s2 := hs1.bump.wr
  refine .next ?_
  split
  · exact hs1
  · extract_lets m c0 c1 c2 r s3
    have hs3 : Keeps s s3 := by
      unfold s3
      split
      · exact hs2.wr.pageErr
      · exact hs2
    split
    · exact hs1
    · split
      · exact hs3
      · exact hs3.voteEntails

/-! ### Commit -/

theorem Keeps.execCommitInstant {t1 : ℕ} (h : Keeps s t) : Answers s (execCommitInstant t1 t) := by
  unfold Machine.execCommitInstant
  extract_lets s1
  have hs1 : Keeps s s1 := h.tick
  refine .next ?_
  split
  · split
    · exact hs1.commitAll
    · exact hs1
  · exact hs1

/-! ### Phys -/

theorem Keeps.execInkwellWindowWrite {t1 : ℕ} {init : ℕ} {ferrule : ℕ} {addr : ℕ} {value : Word} (h : Keeps s t) :
    Answers s (execInkwellWindowWrite t1 init ferrule addr value t) := by
  unfold Machine.execInkwellWindowWrite
  refine .next ?_
  split
  · exact h.tick.physWrite
  · exact h.tick

theorem Keeps.execInkwellWindowRead {t1 : ℕ} {init : ℕ} {ferrule : ℕ} {addr : ℕ} {ecc : Ecc} (h : Keeps s t) :
    Answers s (execInkwellWindowRead t1 init ferrule addr ecc t) := by
  unfold Machine.execInkwellWindowRead
  refine .next ?_
  split
  · exact h.tick.physRead
  · exact h.tick

/-! ### Dma -/

theorem Keeps.execDmaBurst {t1 : ℕ} {chan : ℕ} (h : Keeps s t) : Answers s (execDmaBurst t1 chan t) := by
  unfold Machine.execDmaBurst
  extract_lets s1 c z s2
  have hs1 : Keeps s s1 := h.tick
  have hz : Keeps s z := hs1.setDma
  have hs2 : Keeps s s2 := hz.withDmaLast
  refine .next ?_
  split
  · exact hs1
  · split
    · split
      · exact hs1
      · exact hs1.dmaMoves
    · split
      · exact hs1
      · exact hs2.wr.dmaMoves

theorem Keeps.execDmaBurstComplete {t1 : ℕ} {chan : ℕ} (h : Keeps s t) : Answers s (execDmaBurstComplete t1 chan t) := by
  unfold Machine.execDmaBurstComplete
  extract_lets s1
  have hs1 : Keeps s s1 := h.tick
  refine .next ?_
  split
  · exact hs1.dmaBurstEnd
  · exact hs1

theorem Keeps.execDmaTargetTimeout {t1 : ℕ} {chan : ℕ} (h : Keeps s t) : Answers s (execDmaTargetTimeout t1 chan t) := by
  unfold Machine.execDmaTargetTimeout
  extract_lets s1 c
  have hs1 : Keeps s s1 := h.tick
  refine .next ?_
  split
  · exact hs1.dmaErr.dmaBurstEnd
  · exact hs1

/-! ### Exc -/

theorem Keeps.execScribeInterruptEntry {t1 : ℕ} {scribe : ℕ} (h : Keeps s t) : Answers s (execScribeInterruptEntry t1 scribe t) := by
  unfold Machine.execScribeInterruptEntry
  extract_lets s1 s2
  have hs1 : Keeps s s1 := h.tick
  have hs2 : Keeps s s2 := by
    unfold s2
    split
    · exact hs1.wake
    · exact hs1
  refine .next ?_
  split
  · exact hs1
  · split
    · exact hs1
    · exact hs2.icuTaken.takeInterrupt

theorem Keeps.execMcInterruptEntry {t1 : ℕ} (h : Keeps s t) : Answers s (execMcInterruptEntry t1 t) := by
  unfold Machine.execMcInterruptEntry
  extract_lets s1
  have hs1 : Keeps s s1 := h.tick
  refine .next ?_
  split
  · exact hs1
  · split
    · exact hs1
    · exact hs1.takeInterrupt

theorem Keeps.execWfiWake {t1 : ℕ} {scribe : ℕ} (h : Keeps s t) : Answers s (execWfiWake t1 scribe t) := by
  unfold Machine.execWfiWake
  extract_lets s1
  have hs1 : Keeps s s1 := h.tick
  refine .next ?_
  split
  · exact hs1.wake.stepDone
  · exact hs1

theorem Keeps.execWalkTimeout {t1 : ℕ} {scribe : ℕ} (h : Keeps s t) : Answers s (execWalkTimeout t1 scribe t) := by
  unfold Machine.execWalkTimeout
  extract_lets s1
  have hs1 : Keeps s s1 := h.tick
  refine .next ?_
  split
  · exact hs1
  · split
    · exact hs1
    · split
      · exact hs1.modScribe
      · exact hs1.modScribe.trap

theorem Keeps.execIackRead {t1 : ℕ} {scribe : ℕ} {gd : BitVec 5} (h : Keeps s t) :
    Answers s (execIackRead t1 scribe gd t) := .next (h.tick.icuCommand fun _ hq => hq.iackRead.setG)

theorem Keeps.execIeoiWrite {t1 : ℕ} {scribe : ℕ} {value : Word} (h : Keeps s t) :
    Answers s (execIeoiWrite t1 scribe value t) := .next (h.tick.icuCommand fun _ hq => hq.ieoiWrite)

theorem Keeps.execSwiWrite {t1 : ℕ} {scribe : ℕ} {value : Word} (h : Keeps s t) :
    Answers s (execSwiWrite t1 scribe value t) := .next (h.tick.icuCommand fun _ hq => hq.swiWrite)

/-! ### Alu -/

theorem Keeps.execAdd {core : ℕ} {gd : BitVec 5} {ga : BitVec 5} {gb : BitVec 5} (h : Keeps s t) :
    Answers s (execAdd core gd ga gb t) := .next (h.issue fun _ hq => hq.regOp)

theorem Keeps.execSub {core : ℕ} {gd : BitVec 5} {ga : BitVec 5} {gb : BitVec 5} (h : Keeps s t) :
    Answers s (execSub core gd ga gb t) := .next (h.issue fun _ hq => hq.regOp)

theorem Keeps.execAnd {core : ℕ} {gd : BitVec 5} {ga : BitVec 5} {gb : BitVec 5} (h : Keeps s t) :
    Answers s (execAnd core gd ga gb t) := .next (h.issue fun _ hq => hq.regOp)

theorem Keeps.execOr {core : ℕ} {gd : BitVec 5} {ga : BitVec 5} {gb : BitVec 5} (h : Keeps s t) :
    Answers s (execOr core gd ga gb t) := .next (h.issue fun _ hq => hq.regOp)

theorem Keeps.execXor {core : ℕ} {gd : BitVec 5} {ga : BitVec 5} {gb : BitVec 5} (h : Keeps s t) :
    Answers s (execXor core gd ga gb t) := .next (h.issue fun _ hq => hq.regOp)

theorem Keeps.execAndn {core : ℕ} {gd : BitVec 5} {ga : BitVec 5} {gb : BitVec 5} (h : Keeps s t) :
    Answers s (execAndn core gd ga gb t) := .next (h.issue fun _ hq => hq.regOp)

theorem Keeps.execSll {core : ℕ} {gd : BitVec 5} {ga : BitVec 5} {gb : BitVec 5} (h : Keeps s t) :
    Answers s (execSll core gd ga gb t) := .next (h.issue fun _ hq => hq.regOp)

theorem Keeps.execSrl {core : ℕ} {gd : BitVec 5} {ga : BitVec 5} {gb : BitVec 5} (h : Keeps s t) :
    Answers s (execSrl core gd ga gb t) := .next (h.issue fun _ hq => hq.regOp)

theorem Keeps.execSra {core : ℕ} {gd : BitVec 5} {ga : BitVec 5} {gb : BitVec 5} (h : Keeps s t) :
    Answers s (execSra core gd ga gb t) := .next (h.issue fun _ hq => hq.regOp)

theorem Keeps.execRor {core : ℕ} {gd : BitVec 5} {ga : BitVec 5} {gb : BitVec 5} (h : Keeps s t) :
    Answers s (execRor core gd ga gb t) := .next (h.issue fun _ hq => hq.regOp)

theorem Keeps.execSlt {core : ℕ} {gd : BitVec 5} {ga : BitVec 5} {gb : BitVec 5} (h : Keeps s t) :
    Answers s (execSlt core gd ga gb t) := .next (h.issue fun _ hq => hq.regOp)

theorem Keeps.execSltu {core : ℕ} {gd : BitVec 5} {ga : BitVec 5} {gb : BitVec 5} (h : Keeps s t) :
    Answers s (execSltu core gd ga gb t) := .next (h.issue fun _ hq => hq.regOp)

theorem Keeps.execMin {core : ℕ} {gd : BitVec 5} {ga : BitVec 5} {gb : BitVec 5} (h : Keeps s t) :
    Answers s (execMin core gd ga gb t) := .next (h.issue fun _ hq => hq.regOp)

theorem Keeps.execMax {core : ℕ} {gd : BitVec 5} {ga : BitVec 5} {gb : BitVec 5} (h : Keeps s t) :
    Answers s (execMax core gd ga gb t) := .next (h.issue fun _ hq => hq.regOp)

theorem Keeps.execMinu {core : ℕ} {gd : BitVec 5} {ga : BitVec 5} {gb : BitVec 5} (h : Keeps s t) :
    Answers s (execMinu core gd ga gb t) := .next (h.issue fun _ hq => hq.regOp)

theorem Keeps.execMaxu {core : ℕ} {gd : BitVec 5} {ga : BitVec 5} {gb : BitVec 5} (h : Keeps s t) :
    Answers s (execMaxu core gd ga gb t) := .next (h.issue fun _ hq => hq.regOp)

theorem Keeps.execClz {core : ℕ} {gd : BitVec 5} {ga : BitVec 5} {gb : BitVec 5} (h : Keeps s t) :
    Answers s (execClz core gd ga gb t) := .next (h.issue fun _ hq => hq.unaryOp)

theorem Keeps.execCtz {core : ℕ} {gd : BitVec 5} {ga : BitVec 5} {gb : BitVec 5} (h : Keeps s t) :
    Answers s (execCtz core gd ga gb t) := .next (h.issue fun _ hq => hq.unaryOp)

theorem Keeps.execPopc {core : ℕ} {gd : BitVec 5} {ga : BitVec 5} {gb : BitVec 5} (h : Keeps s t) :
    Answers s (execPopc core gd ga gb t) := .next (h.issue fun _ hq => hq.unaryOp)

theorem Keeps.execSxb {core : ℕ} {gd : BitVec 5} {ga : BitVec 5} {gb : BitVec 5} (h : Keeps s t) :
    Answers s (execSxb core gd ga gb t) := .next (h.issue fun _ hq => hq.unaryOp)

theorem Keeps.execSxq {core : ℕ} {gd : BitVec 5} {ga : BitVec 5} {gb : BitVec 5} (h : Keeps s t) :
    Answers s (execSxq core gd ga gb t) := .next (h.issue fun _ hq => hq.unaryOp)

theorem Keeps.execSxh {core : ℕ} {gd : BitVec 5} {ga : BitVec 5} {gb : BitVec 5} (h : Keeps s t) :
    Answers s (execSxh core gd ga gb t) := .next (h.issue fun _ hq => hq.unaryOp)

theorem Keeps.execZxb {core : ℕ} {gd : BitVec 5} {ga : BitVec 5} {gb : BitVec 5} (h : Keeps s t) :
    Answers s (execZxb core gd ga gb t) := .next (h.issue fun _ hq => hq.unaryOp)

theorem Keeps.execZxq {core : ℕ} {gd : BitVec 5} {ga : BitVec 5} {gb : BitVec 5} (h : Keeps s t) :
    Answers s (execZxq core gd ga gb t) := .next (h.issue fun _ hq => hq.unaryOp)

theorem Keeps.execZxh {core : ℕ} {gd : BitVec 5} {ga : BitVec 5} {gb : BitVec 5} (h : Keeps s t) :
    Answers s (execZxh core gd ga gb t) := .next (h.issue fun _ hq => hq.unaryOp)

theorem Keeps.execMul {core : ℕ} {gd : BitVec 5} {ga : BitVec 5} {gb : BitVec 5} (h : Keeps s t) :
    Answers s (execMul core gd ga gb t) := .next (h.issue fun _ hq => hq.regOp)

theorem Keeps.execMulh {core : ℕ} {gd : BitVec 5} {ga : BitVec 5} {gb : BitVec 5} (h : Keeps s t) :
    Answers s (execMulh core gd ga gb t) := .next (h.issue fun _ hq => hq.regOp)

theorem Keeps.execMulhu {core : ℕ} {gd : BitVec 5} {ga : BitVec 5} {gb : BitVec 5} (h : Keeps s t) :
    Answers s (execMulhu core gd ga gb t) := .next (h.issue fun _ hq => hq.regOp)

theorem Keeps.execDiv {core : ℕ} {gd : BitVec 5} {ga : BitVec 5} {gb : BitVec 5} (h : Keeps s t) :
    Answers s (execDiv core gd ga gb t) := .next (h.issue fun _ hq => hq.regOp)

theorem Keeps.execDivu {core : ℕ} {gd : BitVec 5} {ga : BitVec 5} {gb : BitVec 5} (h : Keeps s t) :
    Answers s (execDivu core gd ga gb t) := .next (h.issue fun _ hq => hq.regOp)

theorem Keeps.execRem {core : ℕ} {gd : BitVec 5} {ga : BitVec 5} {gb : BitVec 5} (h : Keeps s t) :
    Answers s (execRem core gd ga gb t) := .next (h.issue fun _ hq => hq.regOp)

theorem Keeps.execRemu {core : ℕ} {gd : BitVec 5} {ga : BitVec 5} {gb : BitVec 5} (h : Keeps s t) :
    Answers s (execRemu core gd ga gb t) := .next (h.issue fun _ hq => hq.regOp)

theorem Keeps.execSel {core : ℕ} {gd : BitVec 5} {ga : BitVec 5} {gb : BitVec 5} {fn : BitVec 14} (h : Keeps s t) :
    Answers s (execSel core gd ga gb fn t) := .next (h.issue fun _ hq => hq.selBody)

theorem Keeps.execAddi {core : ℕ} {gd : BitVec 5} {ga : BitVec 5} {imm : BitVec 19} (h : Keeps s t) :
    Answers s (execAddi core gd ga imm t) := .next (h.issue fun _ hq => hq.immOp)

theorem Keeps.execAndi {core : ℕ} {gd : BitVec 5} {ga : BitVec 5} {imm : BitVec 19} (h : Keeps s t) :
    Answers s (execAndi core gd ga imm t) := .next (h.issue fun _ hq => hq.immOp)

theorem Keeps.execOri {core : ℕ} {gd : BitVec 5} {ga : BitVec 5} {imm : BitVec 19} (h : Keeps s t) :
    Answers s (execOri core gd ga imm t) := .next (h.issue fun _ hq => hq.immOp)

theorem Keeps.execXori {core : ℕ} {gd : BitVec 5} {ga : BitVec 5} {imm : BitVec 19} (h : Keeps s t) :
    Answers s (execXori core gd ga imm t) := .next (h.issue fun _ hq => hq.immOp)

theorem Keeps.execSlti {core : ℕ} {gd : BitVec 5} {ga : BitVec 5} {imm : BitVec 19} (h : Keeps s t) :
    Answers s (execSlti core gd ga imm t) := .next (h.issue fun _ hq => hq.immOp)

theorem Keeps.execSltiu {core : ℕ} {gd : BitVec 5} {ga : BitVec 5} {imm : BitVec 19} (h : Keeps s t) :
    Answers s (execSltiu core gd ga imm t) := .next (h.issue fun _ hq => hq.immOp)

theorem Keeps.execSlli {core : ℕ} {gd : BitVec 5} {ga : BitVec 5} {imm : BitVec 19} (h : Keeps s t) :
    Answers s (execSlli core gd ga imm t) := .next (h.issue fun _ hq => hq.shiftImm)

theorem Keeps.execSrli {core : ℕ} {gd : BitVec 5} {ga : BitVec 5} {imm : BitVec 19} (h : Keeps s t) :
    Answers s (execSrli core gd ga imm t) := .next (h.issue fun _ hq => hq.shiftImm)

theorem Keeps.execSrai {core : ℕ} {gd : BitVec 5} {ga : BitVec 5} {imm : BitVec 19} (h : Keeps s t) :
    Answers s (execSrai core gd ga imm t) := .next (h.issue fun _ hq => hq.shiftImm)

theorem Keeps.execRori {core : ℕ} {gd : BitVec 5} {ga : BitVec 5} {imm : BitVec 19} (h : Keeps s t) :
    Answers s (execRori core gd ga imm t) := .next (h.issue fun _ hq => hq.shiftImm)

theorem Keeps.execShin {core : ℕ} {gd : BitVec 5} {ga : BitVec 5} {imm : BitVec 19} (h : Keeps s t) :
    Answers s (execShin core gd ga imm t) := .next (h.issue fun _ hq => hq.immOp)

theorem Keeps.execAddpc {core : ℕ} {gd : BitVec 5} {ga : BitVec 5} {imm : BitVec 19} (h : Keeps s t) :
    Answers s (execAddpc core gd ga imm t) := by
  unfold Machine.execAddpc
  refine .next ?_
  refine Keeps.issue h (fun q0 hq => ?_)
  split
  · exact hq.illegal
  · exact hq.result

theorem Keeps.execOunpack {core : ℕ} {gd : BitVec 5} {ga : BitVec 5} {gb : BitVec 5} {fn : BitVec 14} (h : Keeps s t) :
    Answers s (execOunpack core gd ga gb fn t) := .next (h.issue fun _ hq => hq.unpackBody)

theorem Keeps.execOpack {core : ℕ} {gd : BitVec 5} {ga : BitVec 5} {gb : BitVec 5} {fn : BitVec 14} (h : Keeps s t) :
    Answers s (execOpack core gd ga gb fn t) := .next (h.issue fun _ hq => hq.packBody)

theorem Keeps.execCrc {core : ℕ} {gd : BitVec 5} {ga : BitVec 5} {gb : BitVec 5} {fn : BitVec 14} (h : Keeps s t) :
    Answers s (execCrc core gd ga gb fn t) := .next (h.issue fun _ hq => hq.crcBody)

/-! ### Block -/

theorem Keeps.execBmove {core : ℕ} {gd : BitVec 5} {ga : BitVec 5} {gb : BitVec 5} {err : MemErr} (h : Keeps s t) :
    Answers s (execBmove core gd ga gb err t) := by
  unfold Machine.execBmove
  extract_lets half
  exact .next (h.issue fun _ hq => hq.bmoveBody)

theorem Keeps.execBfill {core : ℕ} {gd : BitVec 5} {ga : BitVec 5} {gb : BitVec 5} {err : MemErr} (h : Keeps s t) :
    Answers s (execBfill core gd ga gb err t) := by
  unfold Machine.execBfill
  extract_lets half
  exact .next (h.issue fun _ hq => hq.bfillBody)

theorem Keeps.execBscan {core : ℕ} {gd : BitVec 5} {ga : BitVec 5} {gb : BitVec 5} {fn : BitVec 14} {err : MemErr} (h : Keeps s t) :
    Answers s (execBscan core gd ga gb fn err t) := by
  unfold Machine.execBscan
  extract_lets half
  exact .next (h.issue fun _ hq => hq.bscanBody)

/-! ### Control -/

theorem Keeps.execBeq {core : ℕ} {ga : BitVec 5} {gb : BitVec 5} {disp : BitVec 19} (h : Keeps s t) :
    Answers s (execBeq core ga gb disp t) := .next (h.issue fun _ hq => hq.branchBody)

theorem Keeps.execBne {core : ℕ} {ga : BitVec 5} {gb : BitVec 5} {disp : BitVec 19} (h : Keeps s t) :
    Answers s (execBne core ga gb disp t) := .next (h.issue fun _ hq => hq.branchBody)

theorem Keeps.execBlt {core : ℕ} {ga : BitVec 5} {gb : BitVec 5} {disp : BitVec 19} (h : Keeps s t) :
    Answers s (execBlt core ga gb disp t) := .next (h.issue fun _ hq => hq.branchBody)

theorem Keeps.execBge {core : ℕ} {ga : BitVec 5} {gb : BitVec 5} {disp : BitVec 19} (h : Keeps s t) :
    Answers s (execBge core ga gb disp t) := .next (h.issue fun _ hq => hq.branchBody)

theorem Keeps.execBltu {core : ℕ} {ga : BitVec 5} {gb : BitVec 5} {disp : BitVec 19} (h : Keeps s t) :
    Answers s (execBltu core ga gb disp t) := .next (h.issue fun _ hq => hq.branchBody)

theorem Keeps.execBgeu {core : ℕ} {ga : BitVec 5} {gb : BitVec 5} {disp : BitVec 19} (h : Keeps s t) :
    Answers s (execBgeu core ga gb disp t) := .next (h.issue fun _ hq => hq.branchBody)

theorem Keeps.execJmp {core : ℕ} {disp : BitVec 29} (h : Keeps s t) : Answers s (execJmp core disp t) := by
  unfold Machine.execJmp
  refine .next ?_
  refine Keeps.issue h (fun q0 hq => ?_)
  extract_lets target
  dsimp only
  exact hq.transfer

theorem Keeps.execCall {core : ℕ} {disp : BitVec 29} (h : Keeps s t) : Answers s (execCall core disp t) := by
  unfold Machine.execCall
  refine .next ?_
  refine Keeps.issue h (fun q0 hq => ?_)
  extract_lets target s1
  have hs1 : Keeps s s1 := hq.pushReturn.setG
  dsimp only
  exact hs1.transfer

theorem Keeps.execJalr {core : ℕ} {gd : BitVec 5} {ga : BitVec 5} {gb : BitVec 5} {fn : BitVec 14} (h : Keeps s t) :
    Answers s (execJalr core gd ga gb fn t) := .next (h.issue fun _ hq => hq.jalrBody)

/-! ### Dbgacc -/

theorem Keeps.execDbgaccRead {t1 : ℕ} {addr : BitVec 44} {size : BitVec 2} (h : Keeps s t) :
    Answers s (execDbgaccRead t1 addr size t) := .next h.tick.dbgUpdate

theorem Keeps.execDbgaccInspectRead {t1 : ℕ} {addr : BitVec 44} {size : BitVec 2} (h : Keeps s t) :
    Answers s (execDbgaccInspectRead t1 addr size t) := .next h.tick.dbgUpdate

theorem Keeps.execDbgaccWrite {t1 : ℕ} {addr : BitVec 44} {size : BitVec 2} {data : Word} (h : Keeps s t) :
    Answers s (execDbgaccWrite t1 addr size data t) := .next h.tick.dbgUpdate

theorem Keeps.execDbgaccPoll {t1 : ℕ} (h : Keeps s t) : Answers s (execDbgaccPoll t1 t) := by
  unfold Machine.execDbgaccPoll
  refine .next ?_
  extract_lets s1 s2
  have hs1 : Keeps s s1 := h.tick
  have hs2 : Keeps s s2 := hs1.loadIr
  split
  · exact hs1.loadIr.dbgResult
  · split
    · extract_lets s3
      have hs3 : Keeps s s3 := hs2.dbgPerform
      split
      · exact hs3.dbgResult
      · exact hs3
    · exact hs2

theorem Keeps.execDbgaccTimeout {t1 : ℕ} (h : Keeps s t) : Answers s (execDbgaccTimeout t1 t) := by
  unfold Machine.execDbgaccTimeout
  refine .next ?_
  extract_lets s1
  have hs1 : Keeps s s1 := h.tick
  split
  · split
    · exact hs1.dbgEnd.dbgResult
    · exact hs1
  · exact hs1

/-! ### Qp -/

theorem Keeps.execQpTxFrame {t1 : ℕ} {qp : ℕ} (h : Keeps s t) : Answers s (execQpTxFrame t1 qp t) := by
  unfold Machine.execQpTxFrame
  extract_lets s1
  have hs1 : Keeps s s1 := h.tick
  refine .next ?_
  split
  · exact hs1.qpTransmit
  · exact hs1

theorem Keeps.execUplinkFrameRx {t1 : ℕ} {port : ℕ} {frame : RxFrame} (h : Keeps s t) : Answers s (execUplinkFrameRx t1 port frame t) := by
  unfold Machine.execUplinkFrameRx
  extract_lets s1
  have hs1 : Keeps s s1 := h.tick
  refine .next ?_
  split
  · exact hs1.uplinkFrame
  · exact hs1

/-! ### Pcie -/

theorem Keeps.execPcieInboundRequest {t1 : ℕ} {vf : ℕ} {req : PcieReq} (h : Keeps s t) :
    Answers s (execPcieInboundRequest t1 vf req t) := by
  unfold Machine.execPcieInboundRequest
  extract_lets s1
  have hs1 : Keeps s s1 := h.tick
  refine .next ?_
  split
  · exact hs1.pcieRequest
  · exact hs1

theorem Keeps.execPcieLinkStateChange {t1 : ℕ} {ltssm : ℕ} {width : ℕ} {gen : ℕ} {up : Bool} (h : Keeps s t) :
    Answers s (execPcieLinkStateChange t1 ltssm width gen up t) := by
  unfold Machine.execPcieLinkStateChange
  extract_lets s1 may
  have hs1 : Keeps s s1 := h.tick
  refine .next ?_
  split
  · exact hs1
  · exact hs1.wr.wr.wr.wrb

/-! ### Cross -/

theorem Keeps.execAccessCrossingTimeout {t1 : ℕ} {acc : ℕ} (h : Keeps s t) : Answers s (execAccessCrossingTimeout t1 acc t) := by
  unfold Machine.execAccessCrossingTimeout
  extract_lets u
  have hu : Keeps s u := h.tick
  clear_value u
  refine .next ?_
  split
  · exact hu
  · extract_lets s1
    have hs1 : Keeps s s1 := hu.unstall.busErrFor
    clear_value s1
    split
    · exact hu
    · split
      · exact hs1
      · split
        · exact hs1.dmaCrossing
        · split
          · exact hs1.pcieDone
          · split
            · exact hs1.dbgEnd.dbgResult
            · exact Keeps.insnCrossing hu hs1

/-! ### Float -/

theorem Keeps.execFadd {core : ℕ} {gd : BitVec 5} {ga : BitVec 5} {gb : BitVec 5} {fmt : BitVec 1} {rnd : BitVec 3} {gc : BitVec 5}
    (h : Keeps s t) :
    Answers s (execFadd core gd ga gb fmt rnd gc t) := .next (h.issue fun _ hq => hq.fpBody)

theorem Keeps.execFsub {core : ℕ} {gd : BitVec 5} {ga : BitVec 5} {gb : BitVec 5} {fmt : BitVec 1} {rnd : BitVec 3} {gc : BitVec 5}
    (h : Keeps s t) :
    Answers s (execFsub core gd ga gb fmt rnd gc t) := .next (h.issue fun _ hq => hq.fpBody)

theorem Keeps.execFmul {core : ℕ} {gd : BitVec 5} {ga : BitVec 5} {gb : BitVec 5} {fmt : BitVec 1} {rnd : BitVec 3} {gc : BitVec 5}
    (h : Keeps s t) :
    Answers s (execFmul core gd ga gb fmt rnd gc t) := .next (h.issue fun _ hq => hq.fpBody)

theorem Keeps.execFdiv {core : ℕ} {gd : BitVec 5} {ga : BitVec 5} {gb : BitVec 5} {fmt : BitVec 1} {rnd : BitVec 3} {gc : BitVec 5}
    (h : Keeps s t) :
    Answers s (execFdiv core gd ga gb fmt rnd gc t) := .next (h.issue fun _ hq => hq.fpBody)

theorem Keeps.execFsqrt {core : ℕ} {gd : BitVec 5} {ga : BitVec 5} {gb : BitVec 5} {fmt : BitVec 1} {rnd : BitVec 3} {gc : BitVec 5}
    (h : Keeps s t) :
    Answers s (execFsqrt core gd ga gb fmt rnd gc t) := .next (h.issue fun _ hq => hq.fpBody)

theorem Keeps.execFmin {core : ℕ} {gd : BitVec 5} {ga : BitVec 5} {gb : BitVec 5} {fmt : BitVec 1} {rnd : BitVec 3} {gc : BitVec 5}
    (h : Keeps s t) :
    Answers s (execFmin core gd ga gb fmt rnd gc t) := .next (h.issue fun _ hq => hq.fpBody)

theorem Keeps.execFmax {core : ℕ} {gd : BitVec 5} {ga : BitVec 5} {gb : BitVec 5} {fmt : BitVec 1} {rnd : BitVec 3} {gc : BitVec 5}
    (h : Keeps s t) :
    Answers s (execFmax core gd ga gb fmt rnd gc t) := .next (h.issue fun _ hq => hq.fpBody)

theorem Keeps.execFmadd {core : ℕ} {gd : BitVec 5} {ga : BitVec 5} {gb : BitVec 5} {fmt : BitVec 1} {rnd : BitVec 3} {gc : BitVec 5}
    (h : Keeps s t) :
    Answers s (execFmadd core gd ga gb fmt rnd gc t) := .next (h.issue fun _ hq => hq.fpBody)

theorem Keeps.execFmsub {core : ℕ} {gd : BitVec 5} {ga : BitVec 5} {gb : BitVec 5} {fmt : BitVec 1} {rnd : BitVec 3} {gc : BitVec 5}
    (h : Keeps s t) :
    Answers s (execFmsub core gd ga gb fmt rnd gc t) := .next (h.issue fun _ hq => hq.fpBody)

theorem Keeps.execFnmsub {core : ℕ} {gd : BitVec 5} {ga : BitVec 5} {gb : BitVec 5} {fmt : BitVec 1} {rnd : BitVec 3} {gc : BitVec 5}
    (h : Keeps s t) :
    Answers s (execFnmsub core gd ga gb fmt rnd gc t) := .next (h.issue fun _ hq => hq.fpBody)

theorem Keeps.execFeq {core : ℕ} {gd : BitVec 5} {ga : BitVec 5} {gb : BitVec 5} {fmt : BitVec 1} {rnd : BitVec 3} {gc : BitVec 5}
    (h : Keeps s t) :
    Answers s (execFeq core gd ga gb fmt rnd gc t) := .next (h.issue fun _ hq => hq.fpBody)

theorem Keeps.execFlt {core : ℕ} {gd : BitVec 5} {ga : BitVec 5} {gb : BitVec 5} {fmt : BitVec 1} {rnd : BitVec 3} {gc : BitVec 5}
    (h : Keeps s t) :
    Answers s (execFlt core gd ga gb fmt rnd gc t) := .next (h.issue fun _ hq => hq.fpBody)

theorem Keeps.execFle {core : ℕ} {gd : BitVec 5} {ga : BitVec 5} {gb : BitVec 5} {fmt : BitVec 1} {rnd : BitVec 3} {gc : BitVec 5}
    (h : Keeps s t) :
    Answers s (execFle core gd ga gb fmt rnd gc t) := .next (h.issue fun _ hq => hq.fpBody)

theorem Keeps.execFclass {core : ℕ} {gd : BitVec 5} {ga : BitVec 5} {gb : BitVec 5} {fmt : BitVec 1} {rnd : BitVec 3} {gc : BitVec 5}
    (h : Keeps s t) :
    Answers s (execFclass core gd ga gb fmt rnd gc t) := .next (h.issue fun _ hq => hq.fpBody)

theorem Keeps.execFcvt {core : ℕ} {gd : BitVec 5} {ga : BitVec 5} {gb : BitVec 5} {fmt : BitVec 1} {rnd : BitVec 3} {gc : BitVec 5}
    (h : Keeps s t) :
    Answers s (execFcvt core gd ga gb fmt rnd gc t) := .next (h.issue fun _ hq => hq.fpBody)

theorem Keeps.execFcvti {core : ℕ} {gd : BitVec 5} {ga : BitVec 5} {gb : BitVec 5} {fmt : BitVec 1} {rnd : BitVec 3} {gc : BitVec 5}
    (h : Keeps s t) :
    Answers s (execFcvti core gd ga gb fmt rnd gc t) := .next (h.issue fun _ hq => hq.fpBody)

theorem Keeps.execFcvtu {core : ℕ} {gd : BitVec 5} {ga : BitVec 5} {gb : BitVec 5} {fmt : BitVec 1} {rnd : BitVec 3} {gc : BitVec 5}
    (h : Keeps s t) :
    Answers s (execFcvtu core gd ga gb fmt rnd gc t) := .next (h.issue fun _ hq => hq.fpBody)

theorem Keeps.execIcvtf {core : ℕ} {gd : BitVec 5} {ga : BitVec 5} {gb : BitVec 5} {fmt : BitVec 1} {rnd : BitVec 3} {gc : BitVec 5}
    (h : Keeps s t) :
    Answers s (execIcvtf core gd ga gb fmt rnd gc t) := .next (h.issue fun _ hq => hq.fpBody)

theorem Keeps.execUcvtf {core : ℕ} {gd : BitVec 5} {ga : BitVec 5} {gb : BitVec 5} {fmt : BitVec 1} {rnd : BitVec 3} {gc : BitVec 5}
    (h : Keeps s t) :
    Answers s (execUcvtf core gd ga gb fmt rnd gc t) := .next (h.issue fun _ hq => hq.fpBody)

theorem Keeps.execFscopy {core : ℕ} {gd : BitVec 5} {ga : BitVec 5} {gb : BitVec 5} {fmt : BitVec 1} {rnd : BitVec 3} {gc : BitVec 5}
    (h : Keeps s t) :
    Answers s (execFscopy core gd ga gb fmt rnd gc t) := .next (h.issue fun _ hq => hq.fpBody)

theorem Keeps.execFsncopy {core : ℕ} {gd : BitVec 5} {ga : BitVec 5} {gb : BitVec 5} {fmt : BitVec 1} {rnd : BitVec 3} {gc : BitVec 5}
    (h : Keeps s t) :
    Answers s (execFsncopy core gd ga gb fmt rnd gc t) := .next (h.issue fun _ hq => hq.fpBody)

theorem Keeps.execFsxor {core : ℕ} {gd : BitVec 5} {ga : BitVec 5} {gb : BitVec 5} {fmt : BitVec 1} {rnd : BitVec 3} {gc : BitVec 5}
    (h : Keeps s t) :
    Answers s (execFsxor core gd ga gb fmt rnd gc t) := .next (h.issue fun _ hq => hq.fpBody)

/-! ### Loads -/

theorem Keeps.execLb {core : ℕ} {gd : BitVec 5} {ga : BitVec 5} {mode : BitVec 3} {imm : BitVec 16} {err : MemErr} (h : Keeps s t) :
    Answers s (execLb core gd ga mode imm err t) := by
  unfold Machine.execLb
  extract_lets half
  exact .next (h.issue fun _ hq => hq.loadBody)

theorem Keeps.execLbu {core : ℕ} {gd : BitVec 5} {ga : BitVec 5} {mode : BitVec 3} {imm : BitVec 16} {err : MemErr} (h : Keeps s t) :
    Answers s (execLbu core gd ga mode imm err t) := by
  unfold Machine.execLbu
  extract_lets half
  exact .next (h.issue fun _ hq => hq.loadBody)

theorem Keeps.execLq {core : ℕ} {gd : BitVec 5} {ga : BitVec 5} {mode : BitVec 3} {imm : BitVec 16} {err : MemErr} (h : Keeps s t) :
    Answers s (execLq core gd ga mode imm err t) := by
  unfold Machine.execLq
  extract_lets half
  exact .next (h.issue fun _ hq => hq.loadBody)

theorem Keeps.execLqu {core : ℕ} {gd : BitVec 5} {ga : BitVec 5} {mode : BitVec 3} {imm : BitVec 16} {err : MemErr} (h : Keeps s t) :
    Answers s (execLqu core gd ga mode imm err t) := by
  unfold Machine.execLqu
  extract_lets half
  exact .next (h.issue fun _ hq => hq.loadBody)

theorem Keeps.execLh {core : ℕ} {gd : BitVec 5} {ga : BitVec 5} {mode : BitVec 3} {imm : BitVec 16} {err : MemErr} (h : Keeps s t) :
    Answers s (execLh core gd ga mode imm err t) := by
  unfold Machine.execLh
  extract_lets half
  exact .next (h.issue fun _ hq => hq.loadBody)

theorem Keeps.execLhu {core : ℕ} {gd : BitVec 5} {ga : BitVec 5} {mode : BitVec 3} {imm : BitVec 16} {err : MemErr} (h : Keeps s t) :
    Answers s (execLhu core gd ga mode imm err t) := by
  unfold Machine.execLhu
  extract_lets half
  exact .next (h.issue fun _ hq => hq.loadBody)

theorem Keeps.execLw {core : ℕ} {gd : BitVec 5} {ga : BitVec 5} {mode : BitVec 3} {imm : BitVec 16} {err : MemErr} (h : Keeps s t) :
    Answers s (execLw core gd ga mode imm err t) := by
  unfold Machine.execLw
  extract_lets half
  exact .next (h.issue fun _ hq => hq.loadBody)

theorem Keeps.execSb {core : ℕ} {gd : BitVec 5} {ga : BitVec 5} {mode : BitVec 3} {imm : BitVec 16} {err : MemErr} (h : Keeps s t) :
    Answers s (execSb core gd ga mode imm err t) := by
  unfold Machine.execSb
  extract_lets half
  exact .next (h.issue fun _ hq => hq.storeBody)

theorem Keeps.execSq {core : ℕ} {gd : BitVec 5} {ga : BitVec 5} {mode : BitVec 3} {imm : BitVec 16} {err : MemErr} (h : Keeps s t) :
    Answers s (execSq core gd ga mode imm err t) := by
  unfold Machine.execSq
  extract_lets half
  exact .next (h.issue fun _ hq => hq.storeBody)

theorem Keeps.execSh {core : ℕ} {gd : BitVec 5} {ga : BitVec 5} {mode : BitVec 3} {imm : BitVec 16} {err : MemErr} (h : Keeps s t) :
    Answers s (execSh core gd ga mode imm err t) := by
  unfold Machine.execSh
  extract_lets half
  exact .next (h.issue fun _ hq => hq.storeBody)

theorem Keeps.execSw {core : ℕ} {gd : BitVec 5} {ga : BitVec 5} {mode : BitVec 3} {imm : BitVec 16} {err : MemErr} (h : Keeps s t) :
    Answers s (execSw core gd ga mode imm err t) := by
  unfold Machine.execSw
  extract_lets half
  exact .next (h.issue fun _ hq => hq.storeBody)

theorem Keeps.execLr {core : ℕ} {gd : BitVec 5} {ga : BitVec 5} {gb : BitVec 5} {err : MemErr} (h : Keeps s t) :
    Answers s (execLr core gd ga gb err t) := by
  unfold Machine.execLr
  extract_lets half
  exact .next (h.issue fun _ hq => hq.lrBody)

theorem Keeps.execSc {core : ℕ} {gd : BitVec 5} {ga : BitVec 5} {gb : BitVec 5} {err : MemErr} (h : Keeps s t) :
    Answers s (execSc core gd ga gb err t) := by
  unfold Machine.execSc
  extract_lets half
  exact .next (h.issue fun _ hq => hq.scBody)

/-! ### NibIns -/

theorem Keeps.execNibNop {fer : ℕ} {nib : ℕ} {cond : BitVec 3} {operand : BitVec 6} {ext : BitVec 14} {err : NibErr} (h : Keeps s t) :
    Answers s (execNibNop fer nib cond operand ext err t) := .next (h.nibStep fun _ _ _ hq => hq.onNib)

theorem Keeps.execNibEnd {fer : ℕ} {nib : ℕ} {cond : BitVec 3} {operand : BitVec 6} {ext : BitVec 14} {err : NibErr} (h : Keeps s t) :
    Answers s (execNibEnd fer nib cond operand ext err t) := .next (h.nibStep fun _ _ _ hq => hq.endRun)

theorem Keeps.execNibRel {fer : ℕ} {nib : ℕ} {cond : BitVec 3} {operand : BitVec 6} {ext : BitVec 14} {err : NibErr} (h : Keeps s t) :
    Answers s (execNibRel fer nib cond operand ext err t) := .next (h.nibStep fun _ _ _ hq => hq.releaseOutputs)

theorem Keeps.execNibRet {fer : ℕ} {nib : ℕ} {cond : BitVec 3} {operand : BitVec 6} {ext : BitVec 14} {err : NibErr} (h : Keeps s t) :
    Answers s (execNibRet fer nib cond operand ext err t) := by
  refine .next (h.nibStep fun _ _ _ hq => ?_)
  dsimp only
  exact hq.onNib

theorem Keeps.execNibLexit {fer : ℕ} {nib : ℕ} {cond : BitVec 3} {operand : BitVec 6} {ext : BitVec 14} {err : NibErr} (h : Keeps s t) :
    Answers s (execNibLexit fer nib cond operand ext err t) := .next (h.nibStep fun _ _ _ hq => hq.ctlIns)

theorem Keeps.execNibClrv {fer : ℕ} {nib : ℕ} {cond : BitVec 3} {operand : BitVec 6} {ext : BitVec 14} {err : NibErr} (h : Keeps s t) :
    Answers s (execNibClrv fer nib cond operand ext err t) := .next (h.nibStep fun _ _ _ hq => hq.ctlIns)

theorem Keeps.execNibSetf {fer : ℕ} {nib : ℕ} {cond : BitVec 3} {operand : BitVec 6} {ext : BitVec 14} {err : NibErr} (h : Keeps s t) :
    Answers s (execNibSetf fer nib cond operand ext err t) := .next (h.nibStep fun _ _ _ hq => hq.ctlIns)

theorem Keeps.execNibClrf {fer : ℕ} {nib : ℕ} {cond : BitVec 3} {operand : BitVec 6} {ext : BitVec 14} {err : NibErr} (h : Keeps s t) :
    Answers s (execNibClrf fer nib cond operand ext err t) := .next (h.nibStep fun _ _ _ hq => hq.ctlIns)

theorem Keeps.execNibNotf {fer : ℕ} {nib : ℕ} {cond : BitVec 3} {operand : BitVec 6} {ext : BitVec 14} {err : NibErr} (h : Keeps s t) :
    Answers s (execNibNotf fer nib cond operand ext err t) := .next (h.nibStep fun _ _ _ hq => hq.ctlIns)

theorem Keeps.execNibClra0 {fer : ℕ} {nib : ℕ} {cond : BitVec 3} {operand : BitVec 6} {ext : BitVec 14} {err : NibErr} (h : Keeps s t) :
    Answers s (execNibClra0 fer nib cond operand ext err t) := .next (h.nibStep fun _ _ _ hq => hq.ctlIns)

theorem Keeps.execNibClra1 {fer : ℕ} {nib : ℕ} {cond : BitVec 3} {operand : BitVec 6} {ext : BitVec 14} {err : NibErr} (h : Keeps s t) :
    Answers s (execNibClra1 fer nib cond operand ext err t) := .next (h.nibStep fun _ _ _ hq => hq.ctlIns)

theorem Keeps.execNibAddaa {fer : ℕ} {nib : ℕ} {cond : BitVec 3} {operand : BitVec 6} {ext : BitVec 14} {err : NibErr} (h : Keeps s t) :
    Answers s (execNibAddaa fer nib cond operand ext err t) := .next (h.nibStep fun _ _ _ hq => hq.ctlIns)

theorem Keeps.execNibSubaa {fer : ℕ} {nib : ℕ} {cond : BitVec 3} {operand : BitVec 6} {ext : BitVec 14} {err : NibErr} (h : Keeps s t) :
    Answers s (execNibSubaa fer nib cond operand ext err t) := .next (h.nibStep fun _ _ _ hq => hq.ctlIns)

theorem Keeps.execNibSwpa {fer : ℕ} {nib : ℕ} {cond : BitVec 3} {operand : BitVec 6} {ext : BitVec 14} {err : NibErr} (h : Keeps s t) :
    Answers s (execNibSwpa fer nib cond operand ext err t) := .next (h.nibStep fun _ _ _ hq => hq.ctlIns)

theorem Keeps.execNibBr {fer : ℕ} {nib : ℕ} {cond : BitVec 3} {operand : BitVec 6} {ext : BitVec 14} {err : NibErr} (h : Keeps s t) :
    Answers s (execNibBr fer nib cond operand ext err t) := by
  refine .next (h.nibStep fun _ _ _ hq => ?_)
  dsimp only
  exact hq.onNib

theorem Keeps.execNibCall {fer : ℕ} {nib : ℕ} {cond : BitVec 3} {operand : BitVec 6} {ext : BitVec 14} {err : NibErr} (h : Keeps s t) :
    Answers s (execNibCall fer nib cond operand ext err t) := by
  refine .next (h.nibStep fun _ _ _ hq => ?_)
  dsimp only
  exact hq.onNib

theorem Keeps.execNibLoop {fer : ℕ} {nib : ℕ} {cond : BitVec 3} {operand : BitVec 6} {ext : BitVec 14} {err : NibErr} (h : Keeps s t) :
    Answers s (execNibLoop fer nib cond operand ext err t) := by
  refine .next (h.nibStep fun _ _ _ hq => ?_)
  dsimp only
  exact hq.onNib

theorem Keeps.execNibLdi {fer : ℕ} {nib : ℕ} {cond : BitVec 3} {operand : BitVec 6} {ext : BitVec 14} {err : NibErr} (h : Keeps s t) :
    Answers s (execNibLdi fer nib cond operand ext err t) := by
  refine .next (h.nibStep fun _ _ _ hq => ?_)
  dsimp only
  exact hq.onNib

theorem Keeps.execNibAddi {fer : ℕ} {nib : ℕ} {cond : BitVec 3} {operand : BitVec 6} {ext : BitVec 14} {err : NibErr} (h : Keeps s t) :
    Answers s (execNibAddi fer nib cond operand ext err t) := by
  refine .next (h.nibStep fun _ _ _ hq => ?_)
  dsimp only
  exact hq.onNib

theorem Keeps.execNibMov {fer : ℕ} {nib : ℕ} {cond : BitVec 3} {operand : BitVec 6} {ext : BitVec 14} {err : NibErr} (h : Keeps s t) :
    Answers s (execNibMov fer nib cond operand ext err t) := by
  refine .next (h.nibStep fun _ _ _ hq => ?_)
  dsimp only
  exact hq.onNib

theorem Keeps.execNibAdd {fer : ℕ} {nib : ℕ} {cond : BitVec 3} {operand : BitVec 6} {ext : BitVec 14} {err : NibErr} (h : Keeps s t) :
    Answers s (execNibAdd fer nib cond operand ext err t) := .next (h.nibStep fun _ _ _ hq => hq.aluIns)

theorem Keeps.execNibSub {fer : ℕ} {nib : ℕ} {cond : BitVec 3} {operand : BitVec 6} {ext : BitVec 14} {err : NibErr} (h : Keeps s t) :
    Answers s (execNibSub fer nib cond operand ext err t) := .next (h.nibStep fun _ _ _ hq => hq.aluIns)

theorem Keeps.execNibAnd {fer : ℕ} {nib : ℕ} {cond : BitVec 3} {operand : BitVec 6} {ext : BitVec 14} {err : NibErr} (h : Keeps s t) :
    Answers s (execNibAnd fer nib cond operand ext err t) := .next (h.nibStep fun _ _ _ hq => hq.aluIns)

theorem Keeps.execNibOr {fer : ℕ} {nib : ℕ} {cond : BitVec 3} {operand : BitVec 6} {ext : BitVec 14} {err : NibErr} (h : Keeps s t) :
    Answers s (execNibOr fer nib cond operand ext err t) := .next (h.nibStep fun _ _ _ hq => hq.aluIns)

theorem Keeps.execNibXor {fer : ℕ} {nib : ℕ} {cond : BitVec 3} {operand : BitVec 6} {ext : BitVec 14} {err : NibErr} (h : Keeps s t) :
    Answers s (execNibXor fer nib cond operand ext err t) := .next (h.nibStep fun _ _ _ hq => hq.aluIns)

theorem Keeps.execNibCeq {fer : ℕ} {nib : ℕ} {cond : BitVec 3} {operand : BitVec 6} {ext : BitVec 14} {err : NibErr} (h : Keeps s t) :
    Answers s (execNibCeq fer nib cond operand ext err t) := .next (h.nibStep fun _ _ _ hq => hq.cmpIns)

theorem Keeps.execNibClt {fer : ℕ} {nib : ℕ} {cond : BitVec 3} {operand : BitVec 6} {ext : BitVec 14} {err : NibErr} (h : Keeps s t) :
    Answers s (execNibClt fer nib cond operand ext err t) := .next (h.nibStep fun _ _ _ hq => hq.cmpIns)

theorem Keeps.execNibCltu {fer : ℕ} {nib : ℕ} {cond : BitVec 3} {operand : BitVec 6} {ext : BitVec 14} {err : NibErr} (h : Keeps s t) :
    Answers s (execNibCltu fer nib cond operand ext err t) := .next (h.nibStep fun _ _ _ hq => hq.cmpIns)

theorem Keeps.execNibShf {fer : ℕ} {nib : ℕ} {cond : BitVec 3} {operand : BitVec 6} {ext : BitVec 14} {err : NibErr} (h : Keeps s t) :
    Answers s (execNibShf fer nib cond operand ext err t) := by
  refine .next (h.nibStep fun _ _ _ hq => ?_)
  dsimp only [Machine.aluIns]
  exact hq.onNib

theorem Keeps.execNibUna {fer : ℕ} {nib : ℕ} {cond : BitVec 3} {operand : BitVec 6} {ext : BitVec 14} {err : NibErr} (h : Keeps s t) :
    Answers s (execNibUna fer nib cond operand ext err t) := by
  refine .next (h.nibStep fun _ _ _ hq => ?_)
  dsimp only [Machine.aluIns]
  exact hq.onNib

theorem Keeps.execNibLdx {fer : ℕ} {nib : ℕ} {cond : BitVec 3} {operand : BitVec 6} {ext : BitVec 14} {err : NibErr} (h : Keeps s t) :
    Answers s (execNibLdx fer nib cond operand ext err t) := by
  refine .next (h.nibStep fun _ _ _ hq => ?_)
  dsimp only
  exact hq.onNib

theorem Keeps.execNibLdy {fer : ℕ} {nib : ℕ} {cond : BitVec 3} {operand : BitVec 6} {ext : BitVec 14} {err : NibErr} (h : Keeps s t) :
    Answers s (execNibLdy fer nib cond operand ext err t) := by
  refine .next (h.nibStep fun _ _ _ hq => ?_)
  dsimp only
  exact hq.onNib

theorem Keeps.execNibStx {fer : ℕ} {nib : ℕ} {cond : BitVec 3} {operand : BitVec 6} {ext : BitVec 14} {err : NibErr} (h : Keeps s t) :
    Answers s (execNibStx fer nib cond operand ext err t) := by
  refine .next (h.nibStep fun _ _ _ hq => ?_)
  dsimp only
  exact hq.onNib

theorem Keeps.execNibSty {fer : ℕ} {nib : ℕ} {cond : BitVec 3} {operand : BitVec 6} {ext : BitVec 14} {err : NibErr} (h : Keeps s t) :
    Answers s (execNibSty fer nib cond operand ext err t) := by
  refine .next (h.nibStep fun _ _ _ hq => ?_)
  dsimp only
  exact hq.onNib

theorem Keeps.execNibStk {fer : ℕ} {nib : ℕ} {cond : BitVec 3} {operand : BitVec 6} {ext : BitVec 14} {err : NibErr} (h : Keeps s t) :
    Answers s (execNibStk fer nib cond operand ext err t) := by
  refine .next (h.nibStep fun _ _ _ hq => ?_)
  dsimp only
  exact hq.onNib

theorem Keeps.execNibMac {fer : ℕ} {nib : ℕ} {cond : BitVec 3} {operand : BitVec 6} {ext : BitVec 14} {err : NibErr} (h : Keeps s t) :
    Answers s (execNibMac fer nib cond operand ext err t) := by
  refine .next (h.nibStep fun _ _ _ hq => ?_)
  dsimp only
  exact hq.onNib

theorem Keeps.execNibMacd {fer : ℕ} {nib : ℕ} {cond : BitVec 3} {operand : BitVec 6} {ext : BitVec 14} {err : NibErr} (h : Keeps s t) :
    Answers s (execNibMacd fer nib cond operand ext err t) := by
  refine .next (h.nibStep fun _ _ _ hq => ?_)
  dsimp only
  exact hq.onNib

theorem Keeps.execNibAcc {fer : ℕ} {nib : ℕ} {cond : BitVec 3} {operand : BitVec 6} {ext : BitVec 14} {err : NibErr} (h : Keeps s t) :
    Answers s (execNibAcc fer nib cond operand ext err t) := by
  refine .next (h.nibStep fun _ _ _ hq => ?_)
  dsimp only
  exact hq.onNib

theorem Keeps.execNibExt {fer : ℕ} {nib : ℕ} {cond : BitVec 3} {operand : BitVec 6} {ext : BitVec 14} {err : NibErr} (h : Keeps s t) :
    Answers s (execNibExt fer nib cond operand ext err t) := by
  refine .next (h.nibStep fun _ _ _ hq => ?_)
  dsimp only
  exact hq.onNib

theorem Keeps.execNibAsh {fer : ℕ} {nib : ℕ} {cond : BitVec 3} {operand : BitVec 6} {ext : BitVec 14} {err : NibErr} (h : Keeps s t) :
    Answers s (execNibAsh fer nib cond operand ext err t) := by
  refine .next (h.nibStep fun _ _ _ hq => ?_)
  dsimp only
  exact hq.onNib

theorem Keeps.execNibIn {fer : ℕ} {nib : ℕ} {cond : BitVec 3} {operand : BitVec 6} {ext : BitVec 14} {err : NibErr} (h : Keeps s t) :
    Answers s (execNibIn fer nib cond operand ext err t) := by
  refine .next (h.nibStep fun _ _ _ hq => ?_)
  dsimp only
  exact hq.onNib

theorem Keeps.execNibOut {fer : ℕ} {nib : ℕ} {cond : BitVec 3} {operand : BitVec 6} {ext : BitVec 14} {err : NibErr} (h : Keeps s t) :
    Answers s (execNibOut fer nib cond operand ext err t) := by
  refine .next (h.nibStep fun _ _ _ hq => ?_)
  dsimp only
  split
  · exact hq.winWrite
  · exact hq.winWrite.onNib

theorem Keeps.execNibBudgetOverrun {t1 : ℕ} {ferrule : ℕ} {nib : ℕ} (h : Keeps s t) :
    Answers s (execNibBudgetOverrun t1 ferrule nib t) := by
  unfold Machine.execNibBudgetOverrun
  extract_lets s1 b
  have hs1 : Keeps s s1 := h.tick
  refine .next ?_
  split
  · split
    · exact hs1
    · extract_lets par held par1
      split
      · exact hs1.faultRun
      · exact hs1
  · exact hs1

/-! ### System -/

theorem Keeps.execSyscall {core : ℕ} {gd : BitVec 5} {ga : BitVec 5} {gb : BitVec 5} {sub : BitVec 10} (h : Keeps s t) :
    Answers s (execSyscall core gd ga gb sub t) := .next (h.issue fun _ hq => hq)

theorem Keeps.execEret {core : ℕ} {gd : BitVec 5} {ga : BitVec 5} {gb : BitVec 5} (h : Keeps s t) :
    Answers s (execEret core gd ga gb t) := by
  unfold Machine.execEret
  extract_lets half
  exact .next (h.issue fun _ hq => hq.eretBody)

theorem Keeps.execFence {core : ℕ} {gd : BitVec 5} {ga : BitVec 5} {gb : BitVec 5} {sub : BitVec 10} (h : Keeps s t) :
    Answers s (execFence core gd ga gb sub t) := .next (h.issue fun _ hq => hq.fenceBody)

theorem Keeps.execIfence {core : ℕ} {gd : BitVec 5} {ga : BitVec 5} {gb : BitVec 5} (h : Keeps s t) :
    Answers s (execIfence core gd ga gb t) := by
  unfold Machine.execIfence
  refine .next ?_
  refine Keeps.issue h (fun q0 hq => ?_)
  split
  next x s1 e =>
    have hq1 := hq.storesVisible.snd e
    exact hq1.goOn
  next x s1 e =>
    have hq1 := hq.storesVisible.snd e
    exact hq1

theorem Keeps.execTime {t1 : ℕ} {core : ℕ} {gd : BitVec 5} {ga : BitVec 5} {gb : BitVec 5} (h : Keeps s t) :
    Answers s (execTime t1 core gd ga gb t) := .next (h.tick.issue fun _ hq => hq.result)

theorem Keeps.execMfsr {core : ℕ} {gd : BitVec 5} {ga : BitVec 5} {gb : BitVec 5} {sub : BitVec 10} (h : Keeps s t) :
    Answers s (execMfsr core gd ga gb sub t) := .next (h.issue fun _ hq => hq.mfsrBody)

theorem Keeps.execMtsr {core : ℕ} {gd : BitVec 5} {ga : BitVec 5} {gb : BitVec 5} {sub : BitVec 10} (h : Keeps s t) :
    Answers s (execMtsr core gd ga gb sub t) := .next (h.issue fun _ hq => hq.mtsrBody)

theorem Keeps.execWfi {core : ℕ} {gd : BitVec 5} {ga : BitVec 5} {gb : BitVec 5} (h : Keeps s t) :
    Answers s (execWfi core gd ga gb t) := .next (h.issue fun _ hq => hq.wfiBody)

theorem Keeps.execBrk {core : ℕ} {gd : BitVec 5} {ga : BitVec 5} {gb : BitVec 5} (h : Keeps s t) : Answers s (execBrk core gd ga gb t) := by
  unfold Machine.execBrk
  refine .next ?_
  refine Keeps.issue h (fun q0 hq => ?_)
  split
  · dsimp only
    exact hq.modScribe
  · exact hq

theorem Keeps.execTlbi {core : ℕ} {gd : BitVec 5} {ga : BitVec 5} {gb : BitVec 5} {sub : BitVec 10} (h : Keeps s t) :
    Answers s (execTlbi core gd ga gb sub t) := .next (h.issue fun _ hq => hq.tlbiBody)

theorem Keeps.execDclean {core : ℕ} {gd : BitVec 5} {ga : BitVec 5} {gb : BitVec 5} {err : MemErr} (h : Keeps s t) :
    Answers s (execDclean core gd ga gb err t) := by
  unfold Machine.execDclean
  extract_lets half
  exact .next (h.issue fun _ hq => hq.cleanBody)

theorem Keeps.execDflush {core : ℕ} {gd : BitVec 5} {ga : BitVec 5} {gb : BitVec 5} {err : MemErr} (h : Keeps s t) :
    Answers s (execDflush core gd ga gb err t) := by
  unfold Machine.execDflush
  extract_lets half
  exact .next (h.issue fun _ hq => hq.cleanBody)

theorem Keeps.execDzero {core : ℕ} {gd : BitVec 5} {ga : BitVec 5} {gb : BitVec 5} {err : MemErr} (h : Keeps s t) :
    Answers s (execDzero core gd ga gb err t) := by
  unfold Machine.execDzero
  extract_lets half
  exact .next (h.issue fun _ hq => hq.dzeroBody)

/-- Every command answers, and what is kept is kept. -/
theorem exec_answers (s : State) : ∀ c, Answers s (exec c s)
  | .registerWrite .. => (Keeps.refl s).execRegisterWrite
  | .clearOnRead .. => (Keeps.refl s).execClearOnRead
  | .accessCrossingTimeout .. => (Keeps.refl s).execAccessCrossingTimeout
  | .stalledAccessResume .. => (Keeps.refl s).execStalledAccessResume
  | .voteScrub .. => (Keeps.refl s).execVoteScrub
  | .inkwellWindowWrite .. => (Keeps.refl s).execInkwellWindowWrite
  | .inkwellWindowRead .. => (Keeps.refl s).execInkwellWindowRead
  | .timeReplicaRealign .. => (Keeps.refl s).execTimeReplicaRealign
  | .stagedWrite .. => (Keeps.refl s).execStagedWrite
  | .csnSeal .. => (Keeps.refl s).execCsnSeal
  | .csnSign .. => (Keeps.refl s).execCsnSign
  | .csnAbort .. => (Keeps.refl s).execCsnAbort
  | .countersignWindowExpire .. => (Keeps.refl s).execCountersignWindowExpire
  | .commitInstant .. => (Keeps.refl s).execCommitInstant
  | .commitNoBoundary .. => (Keeps.refl s).execCommitNoBoundary
  | .timSet _ init _ => (Keeps.refl s).execTimSet (init := init)
  | .timSourceConfigWrite _ init _ _ => (Keeps.refl s).execTimSourceConfigWrite (init := init)
  | .ptpSyncRx .. => (Keeps.refl s).execPtpSyncRx
  | .ptpFollowUpRx .. => (Keeps.refl s).execPtpFollowUpRx
  | .ptpAnnounceRx .. => (Keeps.refl s).execPtpAnnounceRx
  | .ptpQualTimeout .. => (Keeps.refl s).execPtpQualTimeout
  | .irigFrameRx .. => (Keeps.refl s).execIrigFrameRx
  | .irigFrameMissing .. => (Keeps.refl s).execIrigFrameMissing
  | .ppsEdge .. => (Keeps.refl s).execPpsEdge
  | .ppsEdgeMissing .. => (Keeps.refl s).execPpsEdgeMissing
  | .f10mStatusChange .. => (Keeps.refl s).execF10mStatusChange
  | .sourceHoldoffExpire .. => (Keeps.refl s).execSourceHoldoffExpire
  | .slewComplete .. => (Keeps.refl s).execSlewComplete
  | .holdoverLimitExceeded .. => (Keeps.refl s).execHoldoverLimitExceeded
  | .leapSecondApply .. => (Keeps.refl s).execLeapSecondApply
  | .ptpMasterSyncTx .. => (Keeps.refl s).execPtpMasterSyncTx
  | .ptpMasterAnnounceTx .. => (Keeps.refl s).execPtpMasterAnnounceTx
  | .ptpPdelayReqRx .. => (Keeps.refl s).execPtpPdelayReqRx
  | .pdelayMeasureTx .. => (Keeps.refl s).execPdelayMeasureTx
  | .ptpPdelayRespRx .. => (Keeps.refl s).execPtpPdelayRespRx
  | .laneFrameRx .. => (Keeps.refl s).execLaneFrameRx
  | .uplinkFrameRx .. => (Keeps.refl s).execUplinkFrameRx
  | .dupEntryExpire .. => (Keeps.refl s).execDupEntryExpire
  | .laneConfigWrite .. => (Keeps.refl s).execLaneConfigWrite
  | .laneTxIdleAfterFrame .. => (Keeps.refl s).execLaneTxIdleAfterFrame
  | .pairConfigWrite .. => (Keeps.refl s).execPairConfigWrite
  | .laneSignalLoss .. => (Keeps.refl s).execLaneSignalLoss
  | .laneSignalDetect .. => (Keeps.refl s).execLaneSignalDetect
  | .lanePcsSync .. => (Keeps.refl s).execLanePcsSync
  | .lanePcsSyncLoss .. => (Keeps.refl s).execLanePcsSyncLoss
  | .laneAutonegComplete .. => (Keeps.refl s).execLaneAutonegComplete
  | .laneEyeReport .. => (Keeps.refl s).execLaneEyeReport
  | .partnerRelearn .. => (Keeps.refl s).execPartnerRelearn
  | .laneFrameTx .. => (Keeps.refl s).execLaneFrameTx
  | .cellCapabilityTx .. => (Keeps.refl s).execCellCapabilityTx
  | .cellCapabilityRx .. => (Keeps.refl s).execCellCapabilityRx
  | .cellEchoRequestTx .. => (Keeps.refl s).execCellEchoRequestTx
  | .cellEchoReplyRx .. => (Keeps.refl s).execCellEchoReplyRx
  | .cellExchangeTimeout .. => (Keeps.refl s).execCellExchangeTimeout
  | .cellEchoTimeout .. => (Keeps.refl s).execCellEchoTimeout
  | .cellExchangeRetry .. => (Keeps.refl s).execCellExchangeRetry
  | .cellLinkRelearn .. => (Keeps.refl s).execCellLinkRelearn
  | .cellCommandLaunch .. => (Keeps.refl s).execCellCommandLaunch
  | .cellSignoffLaunch .. => (Keeps.refl s).execCellSignoffLaunch
  | .cellStatusRx .. => (Keeps.refl s).execCellStatusRx
  | .cellRttUpdate .. => (Keeps.refl s).execCellRttUpdate
  | .subCreate .. => (Keeps.refl s).execSubCreate
  | .subDestroy .. => (Keeps.refl s).execSubDestroy
  | .subSetpol .. => (Keeps.refl s).execSubSetpol
  | .domainParamWrite _ init _ _ _ => (Keeps.refl s).execDomainParamWrite (init := init)
  | .domainStart _ init _ => (Keeps.refl s).execDomainStart (init := init)
  | .domainStop _ init _ => (Keeps.refl s).execDomainStop (init := init)
  | .strokeOpen .. => (Keeps.refl s).execStrokeOpen
  | .strokeCutoff .. => (Keeps.refl s).execStrokeCutoff
  | .gooseTalExpire .. => (Keeps.refl s).execGooseTalExpire
  | .subDeadline .. => (Keeps.refl s).execSubDeadline
  | .sampleMessageArrive .. => (Keeps.refl s).execSampleMessageArrive
  | .strokeClose .. => (Keeps.refl s).execStrokeClose
  | .nibRunStart .. => (Keeps.refl s).execNibRunStart
  | .ledgerLrdWrite .. => (Keeps.refl s).execLedgerLrdWrite
  | .nibBudgetOverrun .. => (Keeps.refl s).execNibBudgetOverrun
  | .outputMessageArrive .. => (Keeps.refl s).execOutputMessageArrive
  | .errorNoticeArrive .. => (Keeps.refl s).execErrorNoticeArrive
  | .twinCompareDeadline .. => (Keeps.refl s).execTwinCompareDeadline
  | .twinDecisionArrive .. => (Keeps.refl s).execTwinDecisionArrive
  | .gatewayLegArrive .. => (Keeps.refl s).execGatewayLegArrive
  | .egressDeadline .. => (Keeps.refl s).execEgressDeadline
  | .flitParityError .. => (Keeps.refl s).execFlitParityError
  | .rulerCreate .. => (Keeps.refl s).execRulerCreate
  | .rulerDestroy .. => (Keeps.refl s).execRulerDestroy
  | .rulerUpdate .. => (Keeps.refl s).execRulerUpdate
  | .rulerCkpt .. => (Keeps.refl s).execRulerCkpt
  | .nibout .. => (Keeps.refl s).execNibout
  | .nibin .. => (Keeps.refl s).execNibin
  | .rulerQueuedCommandStart .. => (Keeps.refl s).execRulerQueuedCommandStart
  | .stagingAreaRead .. => (Keeps.refl s).execStagingAreaRead
  | .functionLoadComplete .. => (Keeps.refl s).execFunctionLoadComplete
  | .rulerHandleNibFault .. => (Keeps.refl s).execRulerHandleNibFault
  | .rulerHandleTwinOutcome .. => (Keeps.refl s).execRulerHandleTwinOutcome
  | .rulerHandleSliceCommit .. => (Keeps.refl s).execRulerHandleSliceCommit
  | .shadowMessageArrive .. => (Keeps.refl s).execShadowMessageArrive
  | .rulerHandleShadowOutcome .. => (Keeps.refl s).execRulerHandleShadowOutcome
  | .pubCreate .. => (Keeps.refl s).execPubCreate
  | .pubDestroy .. => (Keeps.refl s).execPubDestroy
  | .gooseRetransmit .. => (Keeps.refl s).execGooseRetransmit
  | .tripSchedArm .. => (Keeps.refl s).execTripSchedArm
  | .tripSchedCancel .. => (Keeps.refl s).execTripSchedCancel
  | .scheduledEdgeFire .. => (Keeps.refl s).execScheduledEdgeFire
  | .binaryInputChange .. => (Keeps.refl s).execBinaryInputChange
  | .binaryInputAccept .. => (Keeps.refl s).execBinaryInputAccept
  | .biEventPop .. => (Keeps.refl s).execBiEventPop
  | .scribeRunWrite .. => (Keeps.refl s).execScribeRunWrite
  | .scribeInterruptEntry .. => (Keeps.refl s).execScribeInterruptEntry
  | .walkTimeout .. => (Keeps.refl s).execWalkTimeout
  | .wfiWake .. => (Keeps.refl s).execWfiWake
  | .scribeTimerExpire _ scribe => (Keeps.refl s).execScribeTimerExpire (scribe := scribe)
  | .iackRead .. => (Keeps.refl s).execIackRead
  | .ieoiWrite .. => (Keeps.refl s).execIeoiWrite
  | .swiWrite .. => (Keeps.refl s).execSwiWrite
  | .icuSourceWrite .. => (Keeps.refl s).execIcuSourceWrite
  | .add .. => (Keeps.refl s).execAdd
  | .sub .. => (Keeps.refl s).execSub
  | .and .. => (Keeps.refl s).execAnd
  | .or .. => (Keeps.refl s).execOr
  | .xor .. => (Keeps.refl s).execXor
  | .andn .. => (Keeps.refl s).execAndn
  | .sll .. => (Keeps.refl s).execSll
  | .srl .. => (Keeps.refl s).execSrl
  | .sra .. => (Keeps.refl s).execSra
  | .ror .. => (Keeps.refl s).execRor
  | .slt .. => (Keeps.refl s).execSlt
  | .sltu .. => (Keeps.refl s).execSltu
  | .min .. => (Keeps.refl s).execMin
  | .max .. => (Keeps.refl s).execMax
  | .minu .. => (Keeps.refl s).execMinu
  | .maxu .. => (Keeps.refl s).execMaxu
  | .clz .. => (Keeps.refl s).execClz
  | .ctz .. => (Keeps.refl s).execCtz
  | .popc .. => (Keeps.refl s).execPopc
  | .sxb .. => (Keeps.refl s).execSxb
  | .sxq .. => (Keeps.refl s).execSxq
  | .sxh .. => (Keeps.refl s).execSxh
  | .zxb .. => (Keeps.refl s).execZxb
  | .zxq .. => (Keeps.refl s).execZxq
  | .zxh .. => (Keeps.refl s).execZxh
  | .mul .. => (Keeps.refl s).execMul
  | .mulh .. => (Keeps.refl s).execMulh
  | .mulhu .. => (Keeps.refl s).execMulhu
  | .div .. => (Keeps.refl s).execDiv
  | .divu .. => (Keeps.refl s).execDivu
  | .rem .. => (Keeps.refl s).execRem
  | .remu .. => (Keeps.refl s).execRemu
  | .sel .. => (Keeps.refl s).execSel
  | .addi .. => (Keeps.refl s).execAddi
  | .andi .. => (Keeps.refl s).execAndi
  | .ori .. => (Keeps.refl s).execOri
  | .xori .. => (Keeps.refl s).execXori
  | .slti .. => (Keeps.refl s).execSlti
  | .sltiu .. => (Keeps.refl s).execSltiu
  | .slli .. => (Keeps.refl s).execSlli
  | .srli .. => (Keeps.refl s).execSrli
  | .srai .. => (Keeps.refl s).execSrai
  | .rori .. => (Keeps.refl s).execRori
  | .shin .. => (Keeps.refl s).execShin
  | .addpc .. => (Keeps.refl s).execAddpc
  | .lb .. => (Keeps.refl s).execLb
  | .lbu .. => (Keeps.refl s).execLbu
  | .lq .. => (Keeps.refl s).execLq
  | .lqu .. => (Keeps.refl s).execLqu
  | .lh .. => (Keeps.refl s).execLh
  | .lhu .. => (Keeps.refl s).execLhu
  | .lw .. => (Keeps.refl s).execLw
  | .sb .. => (Keeps.refl s).execSb
  | .sq .. => (Keeps.refl s).execSq
  | .sh .. => (Keeps.refl s).execSh
  | .sw .. => (Keeps.refl s).execSw
  | .beq .. => (Keeps.refl s).execBeq
  | .bne .. => (Keeps.refl s).execBne
  | .blt .. => (Keeps.refl s).execBlt
  | .bge .. => (Keeps.refl s).execBge
  | .bltu .. => (Keeps.refl s).execBltu
  | .bgeu .. => (Keeps.refl s).execBgeu
  | .jmp .. => (Keeps.refl s).execJmp
  | .call .. => (Keeps.refl s).execCall
  | .jalr .. => (Keeps.refl s).execJalr
  | .fadd .. => (Keeps.refl s).execFadd
  | .fsub .. => (Keeps.refl s).execFsub
  | .fmul .. => (Keeps.refl s).execFmul
  | .fdiv .. => (Keeps.refl s).execFdiv
  | .fsqrt .. => (Keeps.refl s).execFsqrt
  | .fmin .. => (Keeps.refl s).execFmin
  | .fmax .. => (Keeps.refl s).execFmax
  | .fmadd .. => (Keeps.refl s).execFmadd
  | .fmsub .. => (Keeps.refl s).execFmsub
  | .fnmsub .. => (Keeps.refl s).execFnmsub
  | .feq .. => (Keeps.refl s).execFeq
  | .flt .. => (Keeps.refl s).execFlt
  | .fle .. => (Keeps.refl s).execFle
  | .fclass .. => (Keeps.refl s).execFclass
  | .fcvt .. => (Keeps.refl s).execFcvt
  | .fcvti .. => (Keeps.refl s).execFcvti
  | .fcvtu .. => (Keeps.refl s).execFcvtu
  | .icvtf .. => (Keeps.refl s).execIcvtf
  | .ucvtf .. => (Keeps.refl s).execUcvtf
  | .fscopy .. => (Keeps.refl s).execFscopy
  | .fsncopy .. => (Keeps.refl s).execFsncopy
  | .fsxor .. => (Keeps.refl s).execFsxor
  | .lr .. => (Keeps.refl s).execLr
  | .sc .. => (Keeps.refl s).execSc
  | .ounpack .. => (Keeps.refl s).execOunpack
  | .opack .. => (Keeps.refl s).execOpack
  | .crc .. => (Keeps.refl s).execCrc
  | .bmove .. => (Keeps.refl s).execBmove
  | .bfill .. => (Keeps.refl s).execBfill
  | .bscan .. => (Keeps.refl s).execBscan
  | .syscall .. => (Keeps.refl s).execSyscall
  | .eret .. => (Keeps.refl s).execEret
  | .fence .. => (Keeps.refl s).execFence
  | .ifence .. => (Keeps.refl s).execIfence
  | .time .. => (Keeps.refl s).execTime
  | .mfsr .. => (Keeps.refl s).execMfsr
  | .mtsr .. => (Keeps.refl s).execMtsr
  | .wfi .. => (Keeps.refl s).execWfi
  | .brk .. => (Keeps.refl s).execBrk
  | .tlbi .. => (Keeps.refl s).execTlbi
  | .dclean .. => (Keeps.refl s).execDclean
  | .dflush .. => (Keeps.refl s).execDflush
  | .dzero .. => (Keeps.refl s).execDzero
  | .nibNop .. => (Keeps.refl s).execNibNop
  | .nibEnd .. => (Keeps.refl s).execNibEnd
  | .nibRel .. => (Keeps.refl s).execNibRel
  | .nibRet .. => (Keeps.refl s).execNibRet
  | .nibLexit .. => (Keeps.refl s).execNibLexit
  | .nibClrv .. => (Keeps.refl s).execNibClrv
  | .nibSetf .. => (Keeps.refl s).execNibSetf
  | .nibClrf .. => (Keeps.refl s).execNibClrf
  | .nibNotf .. => (Keeps.refl s).execNibNotf
  | .nibClra0 .. => (Keeps.refl s).execNibClra0
  | .nibClra1 .. => (Keeps.refl s).execNibClra1
  | .nibAddaa .. => (Keeps.refl s).execNibAddaa
  | .nibSubaa .. => (Keeps.refl s).execNibSubaa
  | .nibSwpa .. => (Keeps.refl s).execNibSwpa
  | .nibBr .. => (Keeps.refl s).execNibBr
  | .nibCall .. => (Keeps.refl s).execNibCall
  | .nibLoop .. => (Keeps.refl s).execNibLoop
  | .nibLdi .. => (Keeps.refl s).execNibLdi
  | .nibAddi .. => (Keeps.refl s).execNibAddi
  | .nibMov .. => (Keeps.refl s).execNibMov
  | .nibAdd .. => (Keeps.refl s).execNibAdd
  | .nibSub .. => (Keeps.refl s).execNibSub
  | .nibAnd .. => (Keeps.refl s).execNibAnd
  | .nibOr .. => (Keeps.refl s).execNibOr
  | .nibXor .. => (Keeps.refl s).execNibXor
  | .nibCeq .. => (Keeps.refl s).execNibCeq
  | .nibClt .. => (Keeps.refl s).execNibClt
  | .nibCltu .. => (Keeps.refl s).execNibCltu
  | .nibShf .. => (Keeps.refl s).execNibShf
  | .nibUna .. => (Keeps.refl s).execNibUna
  | .nibLdx .. => (Keeps.refl s).execNibLdx
  | .nibLdy .. => (Keeps.refl s).execNibLdy
  | .nibStx .. => (Keeps.refl s).execNibStx
  | .nibSty .. => (Keeps.refl s).execNibSty
  | .nibStk .. => (Keeps.refl s).execNibStk
  | .nibMac .. => (Keeps.refl s).execNibMac
  | .nibMacd .. => (Keeps.refl s).execNibMacd
  | .nibAcc .. => (Keeps.refl s).execNibAcc
  | .nibExt .. => (Keeps.refl s).execNibExt
  | .nibAsh .. => (Keeps.refl s).execNibAsh
  | .nibIn .. => (Keeps.refl s).execNibIn
  | .nibOut .. => (Keeps.refl s).execNibOut
  | .homeRds .. => (Keeps.refl s).execHomeRds
  | .homeRdx .. => (Keeps.refl s).execHomeRdx
  | .homeUpg .. => (Keeps.refl s).execHomeUpg
  | .homeZx .. => (Keeps.refl s).execHomeZx
  | .homeWb .. => (Keeps.refl s).execHomeWb
  | .homeNcrd .. => (Keeps.refl s).execHomeNcrd
  | .homeNcwr .. => (Keeps.refl s).execHomeNcwr
  | .snoopSnps .. => (Keeps.refl s).execSnoopSnps
  | .snoopSnpx .. => (Keeps.refl s).execSnoopSnpx
  | .snoopSnpinv .. => (Keeps.refl s).execSnoopSnpinv
  | .snoopSnprd .. => (Keeps.refl s).execSnoopSnprd
  | .forwardedSnoop .. => (Keeps.refl s).execForwardedSnoop
  | .grantDeliver .. => (Keeps.refl s).execGrantDeliver
  | .wbAck .. => (Keeps.refl s).execWbAck
  | .snoopTimeout .. => (Keeps.refl s).execSnoopTimeout
  | .reclaimMessage .. => (Keeps.refl s).execReclaimMessage
  | .reclaimWalkComplete .. => (Keeps.refl s).execReclaimWalkComplete
  | .dmcConfigWrite .. => (Keeps.refl s).execDmcConfigWrite
  | .dmcRelease .. => (Keeps.refl s).execDmcRelease
  | .dmcReset .. => (Keeps.refl s).execDmcReset
  | .dmcTrain .. => (Keeps.refl s).execDmcTrain
  | .dmcEnable .. => (Keeps.refl s).execDmcEnable
  | .dramReadDecode .. => (Keeps.refl s).execDramReadDecode
  | .dramAlertParity .. => (Keeps.refl s).execDramAlertParity
  | .dramWriteCrcError .. => (Keeps.refl s).execDramWriteCrcError
  | .dramPatrolRead .. => (Keeps.refl s).execDramPatrolRead
  | .dramRefresh .. => (Keeps.refl s).execDramRefresh
  | .dramMr4Poll .. => (Keeps.refl s).execDramMr4Poll
  | .frozenWaitTimeout .. => (Keeps.refl s).execFrozenWaitTimeout
  | .phyDriftTrack .. => (Keeps.refl s).execPhyDriftTrack
  | .dmaCreate .. => (Keeps.refl s).execDmaCreate
  | .dmaDestroy .. => (Keeps.refl s).execDmaDestroy
  | .dmaStart .. => (Keeps.refl s).execDmaStart
  | .dmaStop .. => (Keeps.refl s).execDmaStop
  | .dmaBurst .. => (Keeps.refl s).execDmaBurst
  | .dmaBurstComplete .. => (Keeps.refl s).execDmaBurstComplete
  | .dmaTargetTimeout .. => (Keeps.refl s).execDmaTargetTimeout
  | .tenantActivate .. => (Keeps.refl s).execTenantActivate
  | .qpcreate .. => (Keeps.refl s).execQpcreate
  | .qpdestroy .. => (Keeps.refl s).execQpdestroy
  | .tenantFreeze .. => (Keeps.refl s).execTenantFreeze
  | .tenantExport .. => (Keeps.refl s).execTenantExport
  | .tenantImport .. => (Keeps.refl s).execTenantImport
  | .tenantResume .. => (Keeps.refl s).execTenantResume
  | .treset .. => (Keeps.refl s).execTreset
  | .tenantFreezeTakeEffect .. => (Keeps.refl s).execTenantFreezeTakeEffect
  | .tenantFreezeComplete .. => (Keeps.refl s).execTenantFreezeComplete
  | .tenantResumeTakeEffect .. => (Keeps.refl s).execTenantResumeTakeEffect
  | .tenantResetComplete .. => (Keeps.refl s).execTenantResetComplete
  | .qpRxDoorbell .. => (Keeps.refl s).execQpRxDoorbell
  | .qpTxDoorbell .. => (Keeps.refl s).execQpTxDoorbell
  | .qpTxFrame .. => (Keeps.refl s).execQpTxFrame
  | .pcieInboundRequest .. => (Keeps.refl s).execPcieInboundRequest
  | .pcieLinkStateChange .. => (Keeps.refl s).execPcieLinkStateChange
  | .mcInterruptEntry .. => (Keeps.refl s).execMcInterruptEntry
  | .flashLineFill .. => (Keeps.refl s).execFlashLineFill
  | .wdgKick .. => (Keeps.refl s).execWdgKick
  | .wdgPerWrite .. => (Keeps.refl s).execWdgPerWrite
  | .scribeWatchdogExpire .. => (Keeps.refl s).execScribeWatchdogExpire
  | .mcMkick .. => (Keeps.refl s).execMcMkick
  | .mcMperWrite .. => (Keeps.refl s).execMcMperWrite
  | .mcMrst _ _ fails => (Keeps.refl s).execMcMrst (fails := fails)
  | .mcWatchdogExpire _ fails => (Keeps.refl s).execMcWatchdogExpire (fails := fails)
  | .healthTick .. => (Keeps.refl s).execHealthTick
  | .mbIpost .. => (Keeps.refl s).execMbIpost
  | .mbIdone .. => (Keeps.refl s).execMbIdone
  | .mbOpost .. => (Keeps.refl s).execMbOpost
  | .mbOdone .. => (Keeps.refl s).execMbOdone
  | .deskpl .. => (Keeps.refl s).execDeskpl
  | .deskst .. => (Keeps.refl s).execDeskst
  | .ferst .. => (Keeps.refl s).execFerst
  | .domst .. => (Keeps.refl s).execDomst
  | .devst .. => (Keeps.refl s).execDevst
  | .pwrDead .. => (Keeps.refl s).execPwrDead
  | .breset .. => (Keeps.refl s).execBreset
  | .pwrBlockGrant .. => (Keeps.refl s).execPwrBlockGrant
  | .pwrRequestTimeout .. => (Keeps.refl s).execPwrRequestTimeout
  | .deskLevelChangeComplete .. => (Keeps.refl s).execDeskLevelChangeComplete
  | .deskNapExit .. => (Keeps.refl s).execDeskNapExit
  | .ferrulePowerUpComplete .. => (Keeps.refl s).execFerrulePowerUpComplete
  | .thermalSample .. => (Keeps.refl s).execThermalSample
  | .railLow .. => (Keeps.refl s).execRailLow
  | .ageingMonitorSample .. => (Keeps.refl s).execAgeingMonitorSample
  | .fulltest .. => (Keeps.refl s).execFulltest
  | .fuse .. => (Keeps.refl s).execFuse
  | .seal .. => (Keeps.refl s).execSeal
  | .rollingTestStart .. => (Keeps.refl s).execRollingTestStart
  | .nibTestComplete .. => (Keeps.refl s).execNibTestComplete
  | .segmentSaveComplete .. => (Keeps.refl s).execSegmentSaveComplete
  | .segmentTestPassComplete .. => (Keeps.refl s).execSegmentTestPassComplete
  | .segmentRestoreComplete .. => (Keeps.refl s).execSegmentRestoreComplete
  | .vbatRetentionLoss .. => (Keeps.refl s).execVbatRetentionLoss
  | .extest .. => (Keeps.refl s).execExtest
  | .samplePreload .. => (Keeps.refl s).execSamplePreload
  | .extestPulse .. => (Keeps.refl s).execExtestPulse
  | .extestTrain .. => (Keeps.refl s).execExtestTrain
  | .idcode .. => (Keeps.refl s).execIdcode
  | .bypass .. => (Keeps.refl s).execBypass
  | .scanr .. => (Keeps.refl s).execScanr
  | .unlockRequest .. => (Keeps.refl s).execUnlockRequest
  | .unlockAnswer .. => (Keeps.refl s).execUnlockAnswer
  | .unlockRelock .. => (Keeps.refl s).execUnlockRelock
  | .dbgaccRead .. => (Keeps.refl s).execDbgaccRead
  | .dbgaccInspectRead .. => (Keeps.refl s).execDbgaccInspectRead
  | .dbgaccWrite .. => (Keeps.refl s).execDbgaccWrite
  | .dbgaccPoll .. => (Keeps.refl s).execDbgaccPoll
  | .dbgaccTimeout .. => (Keeps.refl s).execDbgaccTimeout
  | .debugAttachWrite .. => (Keeps.refl s).execDebugAttachWrite
  | .debugHalt .. => (Keeps.refl s).execDebugHalt
  | .scribeHalted .. => (Keeps.refl s).execScribeHalted
  | .debugResume .. => (Keeps.refl s).execDebugResume
  | .debugStep .. => (Keeps.refl s).execDebugStep
  | .debugRegWrite .. => (Keeps.refl s).execDebugRegWrite
  | .nibDebugHalt .. => (Keeps.refl s).execNibDebugHalt
  | .nibDebugRelease .. => (Keeps.refl s).execNibDebugRelease
  | .blotterPacketWrite .. => (Keeps.refl s).execBlotterPacketWrite
  | .blotterStimWrite .. => (Keeps.refl s).execBlotterStimWrite
  | .blotterClr .. => (Keeps.refl s).execBlotterClr
  | .blotterStop .. => (Keeps.refl s).execBlotterStop
  | .duplexConfigWrite .. => (Keeps.refl s).execDuplexConfigWrite
  | .duplexStatusRx .. => (Keeps.refl s).execDuplexStatusRx
  | .duplexPeerTimeout .. => (Keeps.refl s).execDuplexPeerTimeout
  | .duplexOutputTx .. => (Keeps.refl s).execDuplexOutputTx
  | .duplexOutputRx .. => (Keeps.refl s).execDuplexOutputRx
  | .duplexClr .. => (Keeps.refl s).execDuplexClr
  | .supplyAonGood .. => (Keeps.refl s).execSupplyAonGood
  | .powerOnReset .. => (Keeps.refl s).execPowerOnReset
  | .powerOnResetEnd .. => (Keeps.refl s).execPowerOnResetEnd
  | .chipReset .. => (Keeps.refl s).execChipReset
  | .chipResetEnd .. => (Keeps.refl s).execChipResetEnd
  | .ferruleReset .. => (Keeps.refl s).execFerruleReset
  | .ferruleResetEnd .. => (Keeps.refl s).execFerruleResetEnd
  | .powerLoss .. => (Keeps.refl s).execPowerLoss
  | .storeBufferDrain .. => (Keeps.refl s).execStoreBufferDrain
  | .trainingStepComplete .. => (Keeps.refl s).execTrainingStepComplete
  | .fullTestComplete .. => (Keeps.refl s).execFullTestComplete
  | .pwrTransitionComplete .. => (Keeps.refl s).execPwrTransitionComplete
  | .challengeWaitExpire .. => (Keeps.refl s).execChallengeWaitExpire

/-- Settles O5: every command's operation is composed of ones that keep the queue and true time. -/
theorem commandFrame : Obligations.CommandFrame := by
  refine ⟨fun c s t e => ?_, fun c s => ?_⟩
  · obtain ⟨u, hu, h⟩ := exec_answers s c
    cases hu.symm.trans e
    exact ⟨h.queue, h.time⟩
  · obtain ⟨u, hu, _⟩ := exec_answers s c
    exact ⟨u, hu⟩

/-- A state without the command that is performed meets the invariant as before. -/
theorem State.Inv.pop {s : State} {l : List Instr} (h : s.Inv) : State.Inv { s with pending := l } :=
  ⟨h.regs, h.gens, h.mem, h.scribes, h.general, h.nibs, h.ports, h.pairs, h.subs, h.pubs, h.trips⟩

/-- Settles O1: both are the two branches of a step. -/
theorem stepPerformsFrontCommand : Obligations.StepPerformsFrontCommand :=
  ⟨fun s c l h => by rw [step, h], fun s h => by rw [step, h]⟩

/-- Settles O2: a step idles, or performs a command, whose operations keep the invariant. -/
theorem stepKeepsInvariant : Obligations.StepKeepsInvariant := by
  intro s t hs e
  obtain ⟨hfront, hidle⟩ := stepPerformsFrontCommand
  cases hp : s.pending with
  | nil =>
    rw [hidle s hp] at e
    cases e; exact hs
  | cons c l =>
    rw [hfront s c l hp] at e
    obtain ⟨u, hu, h⟩ := exec_answers { s with pending := l } c
    cases hu.symm.trans e
    exact h.inv hs.pop

end Sys2Proof.Machine
end

section
/-! PROOFS. The state after reset, writes of general registers and of fields, counts of bits, time words and handles. -/

namespace Sys2Proof.Machine
open Sys2Proof

/-! ### Reset -/

/-- Settles O3: every table is empty after reset. -/
theorem resetMeetsInvariant : Obligations.ResetMeetsInvariant :=
  ⟨rfl, fun _ h => absurd h List.not_mem_nil, rfl, rfl, fun _ h => absurd h List.not_mem_nil, rfl, rfl, rfl, rfl, rfl, rfl⟩

theorem reset_scribe (n : Nat) : State.reset.scribe n = default := rfl

/-- Settles O4: a core of the empty table is at its default. -/
theorem resetState : Obligations.ResetState := by
  refine ⟨fun n _ => ?_, by decide, by decide, by decide, by decide, by decide, by decide, rfl⟩
  simp only [reset_scribe, State.g]
  refine ⟨by decide, by decide, by decide, fun r => ?_⟩
  split
  · rfl
  · rfl

/-! ### Writes -/

theorem scribe_setScribe_self {s : State} (h : twf s.scribes = true) (n : Nat) (c : Scribe) : (s.setScribe n c).scribe n = c :=
  tget_tset_self h _ _

theorem scribe_setScribe_ne (s : State) {n m : Nat} (h : n ≠ m) (c : Scribe) : (s.setScribe n c).scribe m = s.scribe m :=
  tget_tset_ne _ h _

theorem scribe_modScribe_self {s : State} (h : twf s.scribes = true) (n : Nat) (f : Scribe → Scribe) :
    (s.modScribe n f).scribe n = f (s.scribe n) := scribe_setScribe_self h _ _

theorem scribe_modScribe_ne (s : State) {n m : Nat} (h : n ≠ m) (f : Scribe → Scribe) : (s.modScribe n f).scribe m = s.scribe m :=
  scribe_setScribe_ne s h _

@[simp] theorem g_zero (s : State) (n : Nat) : s.g n 0 = 0 := rfl

@[simp] theorem setG_zero (s : State) (n : Nat) (v : Word) : s.setG n 0 v = s := rfl

theorem setG_of_ne (s : State) (n : Nat) {i : Nat} (h : i ≠ 0) (v : Word) :
    s.setG n i v = s.modScribe n (fun c => { c with g := tset c.g i v }) := if_neg h

theorem g_of_ne (s : State) (n : Nat) {i : Nat} (h : i ≠ 0) : s.g n i = tget (s.scribe n).g i := if_neg h

/-- A general register other than g0 reads the value written (R369). -/
theorem g_setG_self {s : State} (h : twf s.scribes = true) {n r : Nat} (hg : twf (s.scribe n).g = true) (hr : r ≠ 0) (v : Word) :
    (s.setG n r v).g n r = v := by
  rw [setG_of_ne s n hr, g_of_ne _ n hr, scribe_modScribe_self h]
  exact tget_tset_self hg _ _

/-- A write of a general register changes no other (R369). -/
theorem g_setG_ne {s : State} (h : twf s.scribes = true) {n m r q : Nat} (hne : m ≠ n ∨ q ≠ r) (v : Word) :
    (s.setG n r v).g m q = s.g m q := by
  rcases eq_or_ne r 0 with rfl | hr
  · rfl
  rcases eq_or_ne q 0 with rfl | hq
  · rfl
  rw [setG_of_ne s n hr, g_of_ne _ m hq, g_of_ne _ m hq]
  rcases eq_or_ne n m with rfl | hm
  · rw [scribe_modScribe_self h]
    exact tget_tset_ne _ (hne.resolve_left (· rfl)).symm _
  · rw [scribe_modScribe_ne s hm]

/-- A state after several writes of fields, in their order. -/
def State.wrs (s : State) (l : List (Fld × Nat)) : State := l.foldl (fun q e => q.wr e.1 e.2) s

theorem Reads.wrs {s : State} {f : Fld} {v : Nat} (h : Reads s f v) {l : List (Fld × Nat)} (hin : ∀ e ∈ l, FldIn e.1)
    (ha : ∀ e ∈ l, FldApart e.1 f) : Reads (s.wrs l) f v := by
  induction l generalizing s with
  | nil => exact h
  | cons e l ih =>
    simp only [List.mem_cons, forall_eq_or_imp] at hin ha
    exact ih (h.wr hin.1 ha.1 _) hin.2 ha.2

/-- Of several fields that share no bit, each reads the value written to it. -/
theorem reads_wrs {s : State} (h : twf s.regs = true) {l : List (Fld × Nat)} (hin : ∀ e ∈ l, FldIn e.1)
    (ha : l.Pairwise fun a b => FldApart b.1 a.1) : ∀ e ∈ l, Reads (s.wrs l) e.1 (e.2 % 2 ^ e.1.len) := by
  induction l generalizing s with
  | nil => exact fun _ he => absurd he List.not_mem_nil
  | cons a l ih =>
    simp only [List.mem_cons, forall_eq_or_imp, List.pairwise_cons] at hin ha ⊢
    exact ⟨(reads_wr_self h hin.1 _).wrs hin.2 ha.1, ih (twf_wr h _ _) hin.2 ha.2⟩

/-- Settles O6: a general register and a field read back what was written, and nothing beside them changes. -/
theorem registerWrites : Obligations.RegisterWrites :=
  ⟨fun s n _ v hs hg => ⟨g_zero s n, setG_zero s n v, fun hr => g_setG_self hs hg hr v, fun _ _ hne => g_setG_ne hs hne v⟩,
    fun _ _ _ v h hf _ => ⟨rd_wr_self h hf v, fun ha => rd_wr_apart h hf ha v⟩⟩

/-! ### Counts of bits -/

theorem bitOf_toNat (a : Word) (k : Nat) : bitOf a.toNat k = a.getLsbD k := rfl

/-- Settles O8: the counts search for the first bit that is 1 and count the bits that are. -/
theorem bitCounts : Obligations.BitCounts := by
  intro a
  refine ⟨?_, ?_, ?_, ?_⟩
  · rintro rfl
    exact ⟨by decide, by decide, by decide⟩
  · intro k hk ha hz
    rw [leadingZeros, findBelow_some (k := 71 - k) (by omega)]
    · rfl
    · rw [bitOf_toNat, show 71 - (71 - k) = k by omega, ha]
    · intro j hj
      exact hz _ (by omega) (by omega)
  · intro k hk ha hz
    rw [trailingZeros, findBelow_some (p := fun k => bitOf a.toNat k) hk ha hz]
    rfl
  · rw [setBitsOf, List.countP_eq_length_filter]
    rfl

/-! ### Handles -/

/-- A state with two entries for one context slot, as the invariant allows: it does not ask that the generations' table is canonical. -/
def twiceListed : State := { State.reset with gens := [(0, 4094), (0, 5)] }

theorem twiceListed_inv : twiceListed.Inv :=
  { resetMeetsInvariant with
    gens := by decide
    mem := rfl }

/-- Refutes O38: the last generation of a slot that is listed twice is followed by that of the second entry, not by the first generation. -/
theorem not_handleLayout : ¬ Obligations.HandleLayout := by
  intro h
  obtain ⟨-, -, -, -, -, hbump⟩ := h twiceListed 0 0 0 twiceListed_inv (by decide) (by decide) (by decide)
  exact absurd hbump (by decide)

/-! ### Time words (R99) -/

/-- The seconds and the fraction are the two digits of a time word in base 2^32. -/
theorem timeWord_fields {sec n : Nat} (hs : sec < 2 ^ 40) (hn : n < 10 ^ 9) :
    getField (timeWord (sec * 10 ^ 9 + n)) 32 40 = sec ∧
      getField (timeWord (sec * 10 ^ 9 + n)) 0 32 = (n * 2 ^ 32 + 500000000) / 1000000000 := by
  have h1 : (sec * 10 ^ 9 + n) / 1000000000 = sec := by omega
  have h2 : (sec * 10 ^ 9 + n) % 1000000000 = n := by omega
  have h3 : (n * 2 ^ 32 + 500000000) / 1000000000 < 2 ^ 32 := by omega
  simp only [getField, timeWord, h1, h2, Nat.mod_eq_of_lt hs, BitVec.toNat_ofNat, Nat.shiftRight_eq_div_pow]
  generalize (n * 2 ^ 32 + 500000000) / 1000000000 = f at h3 ⊢
  omega

/-- Settles O16: the rounded fraction lies within half a unit of the nanoseconds, which it gives back when it is rounded again. -/
theorem timeWordLayout : Obligations.TimeWordLayout := by
  intro sec n hs hn
  obtain ⟨hsec, hfrac⟩ := timeWord_fields hs hn
  have hback : (getField (timeWord (sec * 10 ^ 9 + n)) 0 32 * 1000000000 + 2 ^ 31) / 2 ^ 32 = n := by
    rw [hfrac]; omega
  refine ⟨hsec, by rw [hfrac]; omega, by rw [hfrac]; omega, ?_⟩
  rw [wordTime, hback, hsec]
  exact if_pos ⟨hn, rfl⟩

end Sys2Proof.Machine
end

section
/-! PROOFS. Countersigning: everything the end of a proposal leaves (R87, R90, R91). -/

namespace Sys2Proof.Machine
open Sys2Proof

/-- A mark that is cleared stays cleared when the marks of any page are cleared. -/
theorem Reads.clearMarks {s : State} {p : Nat} {f : Fld} (hf : f = F.HDR_STG p ∨ f = F.HDR_NSTG p) (h : Reads s f 0) (m : Nat) :
    Reads ((s.wr (F.HDR_STG m) 0).wr (F.HDR_NSTG m) 0) f 0 := by
  rcases eq_or_ne m p with rfl | hm
  · rcases hf with rfl | rfl
    · exact (reads_wr_self (f := F.HDR_STG m) h.regs (by simp [F.HDR_STG]) 0).wr (g := F.HDR_NSTG m) (by simp [F.HDR_NSTG]) (.inr (.inr (Nat.le_refl 2))) 0
    · exact reads_wr_self (twf_wr h.regs _ _) (by simp [F.HDR_NSTG]) 0
  · have ha : m * 512 + 4 ≠ f.addr := by rcases hf with rfl | rfl <;> simp [F.HDR_STG, F.HDR_NSTG, hm]
    exact (h.wr (g := F.HDR_STG m) (by simp [F.HDR_STG]) (.inl ha) 0).wr (by simp [F.HDR_NSTG]) (.inl ha) 0

/-- The marks of every page of a list are cleared (R87). -/
theorem reads_clearMarks {s : State} (h : twf s.regs = true) {l : List Nat} {p : Nat} (hp : p ∈ l) {f : Fld}
    (hf : f = F.HDR_STG p ∨ f = F.HDR_NSTG p) :
    Reads (forEach l s fun q m => (q.wr (F.HDR_STG m) 0).wr (F.HDR_NSTG m) 0) f 0 := by
  obtain ⟨l1, l2, rfl⟩ := List.append_of_mem hp
  rw [forEach, List.foldl_append, List.foldl_cons]
  have hr := foldl_keeps (P := fun q : State => twf q.regs = true) (l := l1) h
    (g := fun q m => (q.wr (F.HDR_STG m) 0).wr (F.HDR_NSTG m) 0) fun q m hq => twf_wr (twf_wr hq _ _) _ _
  refine foldl_keeps (P := fun q => Reads q f 0) ?_ fun q m hq => hq.clearMarks hf m
  rcases hf with rfl | rfl
  · exact (reads_wr_self (f := F.HDR_STG p) hr (by simp [F.HDR_STG]) 0).wr (g := F.HDR_NSTG p) (by simp [F.HDR_NSTG]) (.inr (.inr (Nat.le_refl 2))) 0
  · exact reads_wr_self (twf_wr hr _ _) (by simp [F.HDR_NSTG]) 0

theorem csnPages_csnLog (s : State) (outcome signer time : Nat) (digest : Word) :
    csnPages (csnCount (csnLog s outcome signer time digest) outcome) = csnPages s := by
  obtain ⟨f, -, -, he⟩ := csnCount_eq_bump (csnLog s outcome signer time digest) outcome
  rw [he]
  simp only [csnPages, csnLog]
  split <;> rfl

/-- A field of no word that the end of a proposal clears or counts in reads as the log left it. -/
theorem Reads.csnEnd {s : State} {f : Fld} {v outcome signer time : Nat} {digest : Word}
    (h : Reads (csnLog s outcome signer time digest) f v) (h4 : f.addr % 512 ≠ 4) (h9 : f.addr ≠ 1 * 512 + 9) (h17 : f.addr ≠ 1 * 512 + 17) :
    (csnEnd s outcome signer time digest).rd f = v :=
  ((((h.csnCount h17 outcome).marks h4 _ (fun _ _ => 0) (fun _ _ => 0)).wr (g := F.CSN_CST) (by decide) (.inl h9.symm) 0).wr
    (g := F.CSN_NENT) (by decide) (.inl h9.symm) 0).val

/-- The writes of a log entry (R91), and of HEAD behind it. -/
def csnLogWrites (s : State) (outcome signer time : Nat) (digest : Word) : List (Fld × Nat) :=
  let k := s.rd F.CSN_HEAD
  [(F.CSN_LSERIAL k, s.rd F.CSN_SERIAL), (F.CSN_OUTCOME k, outcome), (F.CSN_LPROP k, s.rd F.CSN_PPARTY), (F.CSN_LSIGN k, signer),
    (F.CSN_LNENT k, s.rd F.CSN_NENT), (F.CSN_LTIME k, (timeWord time).toNat), (F.CSN_LDIG k, digest.toNat), (F.CSN_HEAD, k + 1)]

/-- A log entry is written over the fields of the proposal, whether or not it displaces one that was not read. -/
theorem csnLog_regs {s : State} (h : twf s.regs = true) (outcome signer time : Nat) (digest : Word) :
    ∃ r : State, twf r.regs = true ∧ (csnLog s outcome signer time digest).regs = (r.wrs (csnLogWrites s outcome signer time digest)).regs := by
  unfold csnLog csnLogWrites
  extract_lets k r e q
  refine ⟨r, ?_, ?_⟩
  · unfold r
    split
    · exact twf_bump h _
    · exact h
  · have hr : ∀ f : Fld, FldApart F.CSN_LOST f → r.rd f = s.rd f := by
      intro f hf
      unfold r
      split
      · exact rd_bump_apart h (by decide) hf
      · rfl
    simp only [q, e, State.wrs, List.foldl_cons, List.foldl_nil, hr F.CSN_PPARTY (by decide), hr F.CSN_SERIAL (by decide),
      hr F.CSN_NENT (by decide)]

theorem reads_csnLogWrites {s : State} (h : twf s.regs = true) {outcome signer time : Nat} {digest : Word} {e : Fld × Nat}
    (he : e ∈ csnLogWrites s outcome signer time digest) : Reads (csnLog s outcome signer time digest) e.1 (e.2 % 2 ^ e.1.len) := by
  obtain ⟨r, hr, hq⟩ := csnLog_regs h outcome signer time digest
  have hk : s.rd F.CSN_HEAD < 64 := rd_lt s F.CSN_HEAD
  refine (reads_wrs hr ?_ ?_ e he).of_regs hq
  · simp [csnLogWrites, F.CSN_LSERIAL, F.CSN_OUTCOME, F.CSN_LPROP, F.CSN_LSIGN, F.CSN_LNENT, F.CSN_LTIME, F.CSN_LDIG, F.CSN_HEAD]
  · simp [csnLogWrites, FldApart, F.CSN_LSERIAL, F.CSN_OUTCOME, F.CSN_LPROP, F.CSN_LSIGN, F.CSN_LNENT, F.CSN_LTIME, F.CSN_LDIG, F.CSN_HEAD]
    omega

/-- The writes of a log entry are in words 18 to 21 of a page. -/
theorem csnLogWrites_addr {s : State} {outcome signer time : Nat} {digest : Word} {e : Fld × Nat}
    (he : e ∈ csnLogWrites s outcome signer time digest) : 18 ≤ e.1.addr % 512 ∧ e.1.addr % 512 ≤ 21 ∧ (e.1.addr ≠ 1 * 512 + 17) := by
  simp only [csnLogWrites, List.mem_cons, List.not_mem_nil, or_false] at he
  rcases he with rfl | rfl | rfl | rfl | rfl | rfl | rfl | rfl
  all_goals simp only [F.CSN_LSERIAL, F.CSN_OUTCOME, F.CSN_LPROP, F.CSN_LSIGN, F.CSN_LNENT, F.CSN_LTIME, F.CSN_LDIG, F.CSN_HEAD]
  all_goals omega

/-- A field of a log entry reads what was written to it once the proposal has ended. -/
theorem csnEnd_reads {s : State} (h : twf s.regs = true) {outcome signer time : Nat} {digest : Word} {f : Fld} {v : Nat}
    (he : (f, v) ∈ csnLogWrites s outcome signer time digest) : (csnEnd s outcome signer time digest).rd f = v % 2 ^ f.len := by
  have ⟨(hlo : 18 ≤ f.addr % 512), (hhi : f.addr % 512 ≤ 21), h17⟩ := csnLogWrites_addr he
  exact Reads.csnEnd (f := f) (reads_csnLogWrites h he) (by omega) (by omega) h17

/-- The end of a proposal clears the marks of its pages (R87). -/
theorem csnEnd_clears {s : State} (h : twf s.regs = true) {outcome signer time p : Nat} {digest : Word} (hp : p ∈ csnPages s) {f : Fld}
    (hf : f = F.HDR_STG p ∨ f = F.HDR_NSTG p) : (csnEnd s outcome signer time digest).rd f = 0 := by
  have hc := ((reads_csnLog h outcome signer time digest).csnCount (by simp only [F.CSN_OUTCOME]; omega) outcome).regs
  have ha : 1 * 512 + 9 ≠ f.addr := by rcases hf with rfl | rfl <;> simp only [F.HDR_STG, F.HDR_NSTG] <;> omega
  have hm := reads_clearMarks hc (csnPages_csnLog s outcome signer time digest ▸ hp) hf
  exact ((hm.wr (g := F.CSN_CST) (by decide) (.inl ha) 0).wr (g := F.CSN_NENT) (by decide) (.inl ha) 0).val

theorem csnEnd_nent {s : State} (h : twf s.regs = true) (outcome signer time : Nat) (digest : Word) :
    (csnEnd s outcome signer time digest).rd F.CSN_NENT = 0 := by
  have hw : (F.CSN_OUTCOME (s.rd F.CSN_HEAD)).addr % 512 = 19 := by simp only [F.CSN_OUTCOME]; omega
  have hm := ((reads_csnLog h outcome signer time digest).csnCount (by omega) outcome).marks (by omega)
    (csnPages (csnCount (csnLog s outcome signer time digest) outcome)) (fun _ _ => 0) (fun _ _ => 0)
  exact (reads_wr_self (f := F.CSN_NENT) (twf_wr hm.regs F.CSN_CST 0) (by decide) 0).val

/-- Settles O27: the log entry is written before the marks, the state and the entries are cleared. -/
theorem proposalEndState : Obligations.ProposalEndState := by
  intro s outcome signer time digest hs ho hg t k
  obtain ⟨hcst, hent, hout⟩ := csnEnd_leaves hs.regs (outcome := outcome) (by omega) signer time digest
  refine ⟨hcst, csnEnd_nent hs.regs .., hent, fun p hp _ => ⟨csnEnd_clears hs.regs hp (.inl rfl), csnEnd_clears hs.regs hp (.inr rfl)⟩,
    ?_, hout, ?_, ?_, ?_, ?_⟩
  · exact (csnEnd_reads hs.regs (by simp [csnLogWrites, k])).trans (Nat.mod_eq_of_lt (rd_lt s F.CSN_SERIAL))
  · exact (csnEnd_reads hs.regs (by simp [csnLogWrites, k])).trans (Nat.mod_eq_of_lt (rd_lt s F.CSN_PPARTY))
  · exact (csnEnd_reads hs.regs (by simp [csnLogWrites, k])).trans (Nat.mod_eq_of_lt (Nat.lt_of_lt_of_le hg (show 4 ≤ 2 ^ 4 by decide)))
  · exact (csnEnd_reads hs.regs (by simp [csnLogWrites, k])).trans (Nat.mod_eq_of_lt digest.isLt)
  · exact csnEnd_reads hs.regs (by simp [csnLogWrites, k])

end Sys2Proof.Machine
end

section
/-! PROOFS. The integer instructions of the cores: results of register operations, of operations of one operand and of immediates
(R372, R373), and the octet and CRC instructions (R390, R391). -/

namespace Sys2Proof.Machine
open Sys2Proof

variable {s r : State} {n half : Nat} {gd ga gb : BitVec 5} {i : Instr}

/-- An instruction whose body is a result: it writes gd and goes on. -/
theorem exec_of_result {body : Body} {v : Word} (h : Ready s n r) (hi : exec i s = .next (issue s n half body))
    (hb : body r = result r n gd.toNat v) : exec i s = .next (wrote r n gd v) := by
  rw [hi, issue_of_ok h hb]
  rfl

/-- Register operations of two operands. -/
theorem exec_regOp {f : Word → Word → Word} {v : Word} (h : Ready s n r)
    (hi : exec i s = .next (issue s n half (regOp n gd.toNat ga.toNat gb.toNat f))) (hv : f (r.g n ga.toNat) (r.g n gb.toNat) = v) :
    exec i s = .next (wrote r n gd v) := exec_of_result h hi (hv ▸ rfl)

theorem ult_ite {a b x y : Word} : (if a.ult b then x else y) = if a.toNat < b.toNat then x else y := by
  simp [BitVec.ult]

theorem registerOperationResult : Claims.RegisterOperationResult := by
  intro s r n gd ga gb h a b k
  simp only [List.forall_mem_cons, List.not_mem_nil, false_imp_iff, implies_true, and_true]
  refine ⟨exec_regOp h rfl rfl, exec_regOp h rfl rfl, exec_regOp h rfl rfl, exec_regOp h rfl rfl, exec_regOp h rfl rfl, exec_regOp h rfl rfl,
    exec_regOp h rfl rfl, exec_regOp h rfl rfl, exec_regOp h rfl rfl, exec_regOp h rfl rfl, exec_regOp h rfl rfl, exec_regOp h rfl ult_ite,
    exec_regOp h rfl rfl, exec_regOp h rfl rfl, exec_regOp h rfl ult_ite, exec_regOp h rfl ult_ite, exec_regOp h rfl rfl, exec_regOp h rfl rfl,
    exec_regOp h rfl rfl, exec_regOp h rfl rfl, exec_regOp h rfl ?_, exec_regOp h rfl rfl, exec_regOp h rfl ?_⟩
  · refine ite_congr rfl (fun _ => rfl) fun _ => BitVec.eq_of_toNat_eq ?_
    rw [BitVec.udiv_eq, BitVec.toNat_udiv, BitVec.toNat_ofNat, Nat.mod_eq_of_lt (Nat.lt_of_le_of_lt (Nat.div_le_self _ _) a.isLt)]
  · refine ite_congr rfl (fun _ => rfl) fun _ => BitVec.eq_of_toNat_eq ?_
    rw [BitVec.umod_eq, BitVec.toNat_umod, BitVec.toNat_ofNat, Nat.mod_eq_of_lt (Nat.lt_of_le_of_lt (Nat.mod_le _ _) a.isLt)]

/-- Register operations of one operand, their gb field 0. -/
theorem exec_unaryOp {f : Word → Word} {v : Word} (h : Ready s n r)
    (hi : exec i s = .next (issue s n half (unaryOp n gd.toNat ga.toNat (0 : BitVec 5).toNat f))) (hv : f (r.g n ga.toNat) = v) :
    exec i s = .next (wrote r n gd v) := exec_of_result h hi (hv ▸ rfl)

/-- The low bits of a word, as a number and extended with zeros. -/
theorem extractLsb'_setWidth (a : Word) (k : Nat) : (a.extractLsb' 0 k).setWidth 72 = BitVec.ofNat 72 (a.toNat % 2 ^ k) := by
  refine BitVec.eq_of_toNat_eq ?_
  simp [BitVec.extractLsb'_toNat]

theorem extractLsb'_zero (a : Word) (k : Nat) : a.extractLsb' 0 k = a.setWidth k := by
  refine BitVec.eq_of_toNat_eq ?_
  simp [BitVec.extractLsb'_toNat]

theorem unaryOperationResult : Claims.UnaryOperationResult := by
  intro s r n gd ga h a
  simp only [List.forall_mem_cons, List.not_mem_nil, false_imp_iff, implies_true, and_true]
  exact ⟨exec_unaryOp h rfl rfl, exec_unaryOp h rfl rfl, exec_unaryOp h rfl rfl,
    exec_unaryOp h rfl (congrArg _ (extractLsb'_zero _ 9)), exec_unaryOp h rfl (congrArg _ (extractLsb'_zero _ 18)),
    exec_unaryOp h rfl (congrArg _ (extractLsb'_zero _ 36)), exec_unaryOp h rfl (extractLsb'_setWidth _ 9),
    exec_unaryOp h rfl (extractLsb'_setWidth _ 18), exec_unaryOp h rfl (extractLsb'_setWidth _ 36)⟩

/-- Operations of a register and an immediate. -/
theorem exec_immOp {f : Word → Word} {v : Word} (h : Ready s n r)
    (hi : exec i s = .next (issue s n half (immOp n gd.toNat ga.toNat f))) (hv : f (r.g n ga.toNat) = v) :
    exec i s = .next (wrote r n gd v) := exec_of_result h hi (hv ▸ rfl)

/-- Shifts by an immediate that is less than the width. -/
theorem exec_shiftImm {f : Word → Nat → Word} {imm : Nat} (h : Ready s n r)
    (hi : exec i s = .next (issue s n half (shiftImm n gd.toNat ga.toNat imm f))) (hk : imm < 72) :
    exec i s = .next (wrote r n gd (f (r.g n ga.toNat) imm)) := exec_of_result h hi (if_neg (Nat.not_le.2 hk))

/-- An instruction whose body finds it illegal. -/
theorem exec_of_illegal {body : Body} (h : Ready s n r) (hi : exec i s = .next (issue s n half body)) (hb : body r = illegal r) :
    exec i s = .next (trap r n { code := 1, inst := half }) := by
  rw [hi, issue_of_bad h hb]

theorem immediateOperationResult : Claims.ImmediateOperationResult := by
  intro s r n gd ga imm h a x z
  simp only [List.forall_mem_cons, List.not_mem_nil, false_imp_iff, implies_true, and_true]
  refine ⟨⟨exec_immOp h rfl rfl, exec_immOp h rfl rfl, exec_immOp h rfl rfl, exec_immOp h rfl rfl, exec_immOp h rfl rfl,
    exec_immOp h rfl ult_ite, exec_immOp h rfl rfl⟩, exec_of_result h rfl rfl,
    fun hk => ⟨exec_shiftImm h rfl hk, exec_shiftImm h rfl hk, exec_shiftImm h rfl hk, exec_shiftImm h rfl hk⟩, fun hk => ?_⟩
  exact ⟨⟨_, exec_of_illegal h rfl (if_pos hk)⟩, ⟨_, exec_of_illegal h rfl (if_pos hk)⟩, ⟨_, exec_of_illegal h rfl (if_pos hk)⟩,
    ⟨_, exec_of_illegal h rfl (if_pos hk)⟩⟩

/-- Settles O7: each instruction's body is a result, and its value the one stated. -/
theorem integerResults : Obligations.IntegerResults := ⟨registerOperationResult, unaryOperationResult, immediateOperationResult⟩

/-! ### SEL, OUNPACK, OPACK and CRC -/

theorem bitsOf_eq (v lo len : Nat) : bitsOf v lo len = v / 2 ^ lo % 2 ^ len := by
  rw [bitsOf, Nat.shiftRight_eq_div_pow]

theorem getField_eq (w : Word) (lo len : Nat) : getField w lo len = w.toNat / 2 ^ lo % 2 ^ len := by
  rw [getField, Nat.shiftRight_eq_div_pow]

/-- A field of a pair of words that lies in the low word. -/
theorem pair_low (a b lo len : Nat) (h : lo + len ≤ 72) : (b * 2 ^ 72 + a) / 2 ^ lo % 2 ^ len = a / 2 ^ lo % 2 ^ len := by
  have hb : b * 2 ^ 72 = 2 ^ lo * (b * 2 ^ (72 - lo - len) * 2 ^ len) := by
    rw [Nat.mul_comm (2 ^ lo), Nat.mul_assoc, Nat.mul_assoc, ← Nat.pow_add, ← Nat.pow_add]
    congr 2; omega
  rw [hb, Nat.mul_add_div (Nat.two_pow_pos lo), Nat.add_comm, Nat.add_mul_mod_self_right]

/-- A field of a pair of words that lies in the high word. -/
theorem pair_high (a b k : Nat) (h : a < 2 ^ 72) : (b * 2 ^ 72 + a) / 2 ^ (72 + k) = b / 2 ^ k := by
  rw [Nat.pow_add, ← Nat.div_div_eq_div_mul, Nat.mul_comm b, Nat.mul_add_div (by decide), Nat.div_eq_of_lt h, Nat.add_zero]

/-- An octet of OPACK is one of the pair's (R390). -/
theorem packOctet (a b : Word) {k : Nat} (h : k ≤ 15) :
    (if k < 8 then getField a (9 * k) 8 else getField b (9 * (k - 8)) 8) = (b.toNat * 2 ^ 72 + a.toNat) / 2 ^ (9 * k) % 256 := by
  split
  · rw [getField_eq, show (256 : Nat) = 2 ^ 8 from rfl, pair_low _ _ _ _ (by omega)]
  · rw [getField_eq, ← pair_high _ _ _ a.isLt, show 72 + 9 * (k - 8) = 9 * k by omega, show (2 : Nat) ^ 8 = 256 from rfl]

theorem foldl_range_congr {α : Type} {m : Nat} {f g : α → Nat → α} (h : ∀ a j, j < m → f a j = g a j) (a : α) :
    (List.range m).foldl f a = (List.range m).foldl g a :=
  List.foldl_ext f g a fun a j hj => h a j (List.mem_range.1 hj)

/-- Settles O9: the fn field passes the checks, and the octets are those of the pair of words. -/
theorem selectAndPackResult : Obligations.SelectAndPackResult := by
  intro s r n gd ga gb fn h a b f pair
  have hf : f < 2 ^ 14 := fn.isLt
  refine ⟨fun c hz hc => ?_, fun hle => ?_, fun hr => ?_, fun hlt h4 h8 h9 => ?_⟩
  · refine exec_of_result h rfl ?_
    have h1 : bitsOf f 8 6 = 0 := by rw [bitsOf_eq]; omega
    have h2 : bitsOf f 5 3 = f / 32 := by rw [bitsOf_eq]; omega
    simp only [selBody, f, a] at h1 h2 hc ⊢
    simp [h1, h2, hc, b]
  · refine exec_of_result h rfl ((if_neg ?_).trans ?_)
    · rw [bitsOf_eq]; omega
    · refine congrArg (result r n gd.toNat) (foldl_range_congr (fun w j _ => ?_) 0)
      rw [bitsOf_eq, Nat.mod_eq_of_lt (show fn.toNat < 16 by omega)]
      rfl
  · refine exec_of_result h rfl ((if_neg ?_).trans ?_)
    · simp only [bitsOf_eq]; omega
    · refine congrArg (result r n gd.toNat) (foldl_range_congr (fun w j hj => ?_) 0)
      exact congrArg _ (packOctet a b (by omega))
  · have hcount : bitsOf f 2 4 = f / 4 := by rw [bitsOf_eq]; omega
    have h1 : bitOf f 1 = decide (f / 2 % 2 = 1) := by rw [bitOf, Nat.testBit_eq_decide_div_mod_eq]
    have h0 : bitOf f 0 = decide (f % 2 = 1) := by rw [bitOf, Nat.testBit_eq_decide_div_mod_eq, Nat.pow_zero, Nat.div_one]
    refine exec_of_result h rfl ((if_neg ?_).trans ?_)
    · rw [hcount, h1, bitsOf_eq]
      simp only [decide_eq_true_eq]
      split <;> omega
    · rw [hcount]
      refine congrArg (fun c => result r n gd.toNat (BitVec.ofNat 72 c)) (foldl_range_congr (fun c j _ => ?_) _)
      rw [h0, h1]
      simp only [decide_eq_true_eq, getField_eq]
      refine congrArg (crcOctet _ c) ?_
      split
      · rfl
      · rfl

end Sys2Proof.Machine
end

section
/-! PROOFS. What register instructions leave unchanged: a core that is listed twice in the table of cores refutes it. -/

namespace Sys2Proof.Machine
open Sys2Proof

/-- Scribe 0 runs at the start of DRAM, and its table lists it twice: no statement of an instruction asks for a canonical table. The second
entry shows once the first is all default. -/
def coreTwice : State :=
  { State.reset.wrs [(F.DSK_SST 0, 1), (F.DMC_EN 0, 1), (F.DMC_STATE 0, 2), (fldAt F.PWR_DOM.addr 0 2, 1)] with
    scribes := [(0, { (default : Scribe) with g := [(1, 5)] }), (0, { (default : Scribe) with g := [(2, 7)] })] }

/-- The state in which it performs its first instruction. -/
def coreTwiceFetched : State := coreCompare (fetch coreTwice 0).2 0 0 ((fetch coreTwice 0).2.scribe 0).pc 0

theorem coreTwice_ready : Ready coreTwice 0 coreTwiceFetched :=
  ⟨by decide +kernel, by decide +kernel, by decide +kernel, (fetch coreTwice 0).2, Prod.ext (by decide +kernel) rfl, .inl (by decide +kernel), rfl⟩

/-- Refutes O19: scribe 0, listed twice, writes 0 to its only register that is not 0, at address 0; g2 then reads the second entry's. -/
theorem not_registerInstructionFrames : ¬ Obligations.RegisterInstructionFrames := by
  rintro ⟨hframe, -⟩
  obtain ⟨t, ht, -⟩ := exec_answers coreTwice (.add 0 1 3 3)
  obtain ⟨hg, -⟩ := hframe _ _ t 0 1 3 3 0 coreTwice_ready _ List.mem_cons_self ht
  have hzero : coreTwiceFetched.g 0 3 + coreTwiceFetched.g 0 3 = 0 := by decide +kernel
  have hdone : exec (.add 0 1 3 3) coreTwice = .next (wrote coreTwiceFetched 0 1 0) :=
    exec_regOp (ga := 3) (gb := 3) (f := fun a b => a + b) coreTwice_ready rfl hzero
  have h2 := hg 2 (by decide)
  rw [Host.Outcome.next.inj (ht.symm.trans hdone)] at h2
  exact absurd h2 (by decide +kernel)

end Sys2Proof.Machine
end

section
/-! PROOFS. The instructions of the nibs (R279 to R302). -/

namespace Sys2Proof.Machine
open Sys2Proof

/-- The model's instruction `mk` is the row `p`: its operation code, its checks and accesses, its effect on its nib and what it leaves
of the nib when its condition does not hold. -/
structure NibIs (s : State) (f n : Nat) (k : BitVec 3) (o : BitVec 6) (e : BitVec 14) (err : NibErr) (c : RunCtx)
    (p : Instr × Nat × NibIns × (Nib → Nib)) (mk : RunCtx → Nib → NibIns) (g : Nib → Nib) : Prop where
  op : exec p.1 s = .next (nibStep s f n p.2.1 k o e err mk)
  checks : { mk c (s.nib f n) with eff := id, unheld := id } = p.2.2.1
  goes : (mk c (s.nib f n)).isEnd = false
  eff : (mk c (s.nib f n)).eff = onNib f n g
  effect : g ((s.nib f n).past p.2.2.1) = p.2.2.2 ((s.nib f n).past p.2.2.1)
  unheld : (mk c (s.nib f n)).unheld = fun b => if p.2.1 = 3 then { b with pc := afterIns c.x.desc (e.toNat % 2 ^ 13) } else b

theorem toNat_eq_iff {w : Nat} (x y : BitVec w) : (x = y) = (x.toNat = y.toNat) := propext BitVec.toNat_eq

theorem brUndef_eq (o : BitVec 6) : brUndef o = !(decide (o = 0) || (decide (16 ≤ o.toNat) && decide (o.toNat ≤ 21))) := by
  simp only [brUndef, toNat_eq_iff o 0]
  rfl

theorem brTarget_eq (b : Nib) (o : BitVec 6) (e : BitVec 14) :
    brTarget b o e = e.toNat % 2 ^ 13 + (if o = 0 then 0 else tget b.a (o.toNat - 16)) := by
  rw [brTarget]
  simp only [toNat_eq_iff o 0]
  rfl

/-- Every row is an instruction of the model. -/
theorem nibRow_is {s : State} {f n : Nat} {k : BitVec 3} {o : BitVec 6} {e : BitVec 14} {err : NibErr} {c : RunCtx}
    {p : Instr × Nat × NibIns × (Nib → Nib)} (hp : NibRow c (s.nib f n) f n k o e err p) : ∃ mk g, NibIs s f n k o e err c p mk g := by
  simp only [NibRow, List.mem_cons, List.not_mem_nil, or_false] at hp
  rcases hp with rfl | rfl | rfl | rfl | rfl | rfl | rfl | rfl | rfl | rfl | rfl | rfl | rfl | rfl | rfl | rfl | rfl | rfl | rfl | rfl |
    rfl | rfl | rfl | rfl | rfl | rfl | rfl | rfl | rfl | rfl | rfl | rfl | rfl | rfl | rfl | rfl | rfl | rfl
  pick_goal 37 -- EXT
  · refine ⟨_, ?_, rfl, ?_, rfl, ?_, ?_, ?_⟩
    on_goal 3 =>
      dsimp only
      rfl
    · rfl
    · simp only [toNat_eq_iff e 0]
      rfl
    · rfl
  pick_goal 28 -- UNA
  · refine ⟨_, ?_, rfl, ?_, rfl, ?_, ?_, ?_⟩
    on_goal 3 =>
      dsimp only [aluIns]
      rfl
    · have he : (decide (8 ≤ e.toNat) || decide (e.toNat = 7)) = decide (7 ≤ e.toNat) := by
        rw [← Bool.decide_or, decide_eq_decide]; omega
      simp only [he]
      rfl
    · rfl
    · rfl
  pick_goal 18 -- MOV
  · refine ⟨_, ?_, rfl, ?_, rfl, ?_, ?_, ?_⟩
    on_goal 3 =>
      dsimp only
      rfl
    · simp only [toNat_eq_iff o 16]
      rfl
    · rfl
    · rfl
  pick_goal 14 -- CALL
  · refine ⟨_, ?_, rfl, ?_, rfl, ?_, ?_, ?_⟩
    on_goal 3 =>
      dsimp only
      rfl
    · simp only [brUndef_eq, brTarget_eq]
    · simp only [brTarget_eq]
      rfl
    · rfl
  pick_goal 13 -- BR
  · refine ⟨_, ?_, rfl, ?_, rfl, ?_, ?_, ?_⟩
    on_goal 3 =>
      dsimp only
      rfl
    · simp only [brUndef_eq, brTarget_eq]
    · simp only [brTarget_eq]
      rfl
    · rfl
  pick_goal 2 -- RET
  · refine ⟨_, ?_, rfl, ?_, rfl, ?_, ?_, ?_⟩
    on_goal 3 =>
      dsimp only
      rfl
    · simp only [List.isEmpty_iff]
      rfl
    · rfl
    · rfl
  all_goals
    refine ⟨_, ?_, rfl, ?_, rfl, ?_, ?_, ?_⟩
    on_goal 3 =>
      dsimp only [ctlIns, aluIns, cmpIns]
      rfl
    all_goals rfl

/-- Settles O21: a row's effect is on its nib alone. -/
theorem nibInstructionResult : Obligations.NibInstructionResult := by
  intro s r f n k o e c hs hh p hp h
  obtain ⟨mk, g, hm⟩ := nibRow_is hp
  rw [hm.op, nibStep_done hs.nibs hh h hm.checks hm.goes hm.eff hm.effect]

/-- An instruction whose condition does not hold moves the nib past it. -/
theorem nibStep_unheld {s r : State} {f n op : Nat} {k : BitVec 3} {o : BitVec 6} {e : BitVec 14} {c : RunCtx}
    {mk : RunCtx → Nib → NibIns} {i : NibIns} (hw : twf s.nibs = true) (hh : (s.nib f n).holds k = false) (h : NibReady s f n k c i r)
    (hi : { mk c (s.nib f n) with eff := id, unheld := id } = i) (he : (mk c (s.nib f n)).isEnd = false) :
    nibStep s f n op k o e .clean mk = r.setNib f n (((mk c (s.nib f n)).unheld ((s.nib f n).past i)).looped (s.nib f n).pc) := by
  obtain ⟨⟨h1, h2, h0, hc, h3, h4⟩, h5, h6⟩ := h
  have hr : r.nibs = s.nibs := by rw [← nibCompare_nibs s f n 0, h3]
  have hr' : twf r.nibs = true := by rw [hr]; exact hw
  have hf : firstFault (mk c (s.nib f n)) c.x.desc.plen (s.nib f n).pc false .clean = none := by
    subst hi; simpa [hh, firstFault] using h5
  have hb : ¬ (hc && nibMayHalt r f n) = true := by cases hc <;> simp_all
  have hbud : decide (c.x.desc.budget ≤ (s.nib f n).cyc + (mk c (s.nib f n)).cyc) = false := by
    subst hi; simp at h6; simpa using h6
  simp only [nibStep, h0, h1, h2, if_true, h3, hb, hf, hh, hbud, he, if_false, reduceCtorEq, Bool.false_and, Bool.false_eq_true,
    nib_setNib_self hr', setNib_setNib hr']
  subst hi
  rfl

theorem nibConditionFails : Claims.NibConditionFails := by
  intro s r f n k o e c hs hh p hp h
  obtain ⟨mk, g, hm⟩ := nibRow_is hp
  rw [hm.op, nibStep_unheld hs.nibs hh h hm.checks hm.goes, hm.unheld]

/-- An instruction that a nib reaches and that fails a check ends its run. -/
theorem nibStep_fault {s r : State} {f n op : Nat} {k : BitVec 3} {o : BitVec 6} {e : BitVec 14} {err : NibErr} {c : RunCtx}
    {mk : RunCtx → Nib → NibIns} {kind sub : Nat} (he : err ≠ .corrected) (h : NibAt s f n c r)
    (hf : firstFault (mk c (s.nib f n)) c.x.desc.plen (s.nib f n).pc ((s.nib f n).holds k) err = some (kind, sub)) :
    nibStep s f n op k o e err mk = faultRun r c kind sub ((s.nib f n).cyc + 1) (k.toNat * 2 ^ 11 + op * 2 ^ 6 + o.toNat)
      (if (mk c (s.nib f n)).ext = true ∧ (s.nib f n).pc + 1 < c.x.desc.plen then some e.toNat else none) := by
  obtain ⟨h1, h2, h0, hc, h3, h4⟩ := h
  have hb : ¬ (hc && nibMayHalt r f n) = true := by cases hc <;> simp_all
  simp only [nibStep, h0, h1, h2, if_true, h3, hb, hf, he, if_false, Bool.false_eq_true, Bool.and_eq_true, decide_eq_true_eq]

theorem nibFaultResult : Claims.NibFaultResult := by
  intro s r f n k o e err c kind sub he p hp
  obtain ⟨mk, g, hm⟩ := nibRow_is hp
  refine ⟨fun h hf => ?_, fun h1 h2 h0 h3 hpar hprog => ?_⟩
  · rw [← hm.checks] at hf ⊢
    rw [hm.op, nibStep_fault he h hf]
  · have hplen : (s.nib f n).pc < c.x.desc.plen := by
      simp only [noOpcode, Bool.and_eq_true, decide_eq_true_eq] at h0
      exact h0.1
    have hf : firstFault { undef := true } c.x.desc.plen (s.nib f n).pc ((s.nib f n).holds k) err = some (2, 1) := by
      simp [firstFault, hpar, hprog, Nat.not_le.2 hplen]
    rw [hm.op]
    simp only [nibStep, h0, h1, h2, if_true, h3, hf, he, if_false, Bool.false_eq_true, Bool.false_and]

/-- An instruction that a nib reaches, its condition holding and no check failing: its effect is on the nib moved past it; unless it ends
the run, the loop level at its address is counted and the comparators see its accesses. -/
theorem nibStep_held {s r : State} {f n op : Nat} {k : BitVec 3} {o : BitVec 6} {e : BitVec 14} {c : RunCtx}
    {mk : RunCtx → Nib → NibIns} (hh : (s.nib f n).holds k = true) (h : NibAt s f n c r)
    (hf : firstFault (mk c (s.nib f n)) c.x.desc.plen (s.nib f n).pc true .clean = none)
    (hb : (mk c (s.nib f n)).isEnd = true ∨ (s.nib f n).cyc + (mk c (s.nib f n)).cyc < c.x.desc.budget) :
    nibStep s f n op k o e .clean mk =
      let i := mk c (s.nib f n)
      let t := i.eff (r.setNib f n ((s.nib f n).past i))
      if i.isEnd then t
      else
        let m := memCompare (t.setNib f n ((t.nib f n).looped (s.nib f n).pc)) c i
        haltIf m.1 f n m.2 := by
  obtain ⟨h1, h2, h0, hc, h3, h4⟩ := h
  have hh' : ¬ (hc && nibMayHalt r f n) = true := by cases hc <;> simp_all
  have hbud : ¬ (decide (c.x.desc.budget ≤ (s.nib f n).cyc + (mk c (s.nib f n)).cyc) && !((mk c (s.nib f n)).isEnd && true)) = true := by
    rcases hb with hb | hb
    · simp [hb]
    · simp [Nat.not_le.2 hb]
  simp only [nibStep, h0, h1, h2, if_true, h3, hh', hf, hh, hbud, if_false, reduceCtorEq, decide_false, Bool.false_and, Bool.false_eq_true]
  rfl

theorem memCompare_none (s : State) (c : RunCtx) {i : NibIns} (hx : i.xAt = none) (hy : i.yAt = none) : memCompare s c i = (s, false) := by
  simp only [memCompare, hx, hy]

/-- An instruction with no access to the nib's memories and that does not end the run. -/
theorem nibStep_quiet {s r : State} {f n op : Nat} {k : BitVec 3} {o : BitVec 6} {e : BitVec 14} {c : RunCtx}
    {mk : RunCtx → Nib → NibIns} (hh : (s.nib f n).holds k = true) (h : NibAt s f n c r)
    (hf : firstFault (mk c (s.nib f n)) c.x.desc.plen (s.nib f n).pc true .clean = none)
    (hb : (s.nib f n).cyc + (mk c (s.nib f n)).cyc < c.x.desc.budget) (he : (mk c (s.nib f n)).isEnd = false)
    (hx : (mk c (s.nib f n)).xAt = none) (hy : (mk c (s.nib f n)).yAt = none) :
    nibStep s f n op k o e .clean mk =
      let t := (mk c (s.nib f n)).eff (r.setNib f n ((s.nib f n).past (mk c (s.nib f n))))
      t.setNib f n ((t.nib f n).looped (s.nib f n).pc) := by
  rw [nibStep_held hh h hf (.inr hb)]
  simp only [he, if_false, Bool.false_eq_true, memCompare_none _ c hx hy, haltIf, Bool.false_and]

theorem NibAt.nibs {s r : State} {f n : Nat} {c : RunCtx} (h : NibAt s f n c r) : r.nibs = s.nibs := by
  obtain ⟨-, -, -, hc, h3, -⟩ := h
  rw [← nibCompare_nibs s f n 0, h3]

theorem twf_winWrite {s : State} (h : twf s.nibs = true) (c : RunCtx) (b : Nib) (win off : Nat) (v : Word) :
    twf (winWrite s c b win off v).nibs = true := by
  unfold winWrite
  split
  · exact h
  · exact twf_setNib (s := s.setInk c.f (c.p.out + off) v) h _ _ _

/-- What OUT does, as `execNibOut` states it. -/
def ioOut (s : State) (f n : Nat) (o : BitVec 6) (e : BitVec 14) (c : RunCtx) (b : Nib) : NibIns :=
  let win := ioWin o
  { cyc := 6, ext := true, undef := decide (6 ≤ ioData o),
    win := if win = 0 ∨ win = 3 then some 4 else if win = 2 && b.released then some 5 else none,
    range := winRange s c b win (ioX o) e.toNat,
    eff := fun s =>
      let b := s.nib f n
      let v := b.pair (ioData o)
      let off := winOffset b win (ioX o) e.toNat
      let s := winWrite s c b win off v
      if b.released then s else onNib f n (fun b => { b with stores := v :: storeTag win off :: b.stores }) s }

/-- An OUT whose window is checked writes window 1 or 2. -/
theorem ioOut_window {s : State} {f n : Nat} {o : BitVec 6} {e : BitVec 14} {c : RunCtx} {b : Nib} {plen pc : Nat}
    (h : firstFault (ioOut s f n o e c b) plen pc true .clean = none) : ioWin o ≠ 3 := by
  intro hw
  simp only [firstFault, ioOut, hw, reduceCtorEq, if_false, Bool.not_true, Bool.false_eq_true, or_true, if_true] at h
  split_ifs at h

/-- The effect of an OUT, and the loop level counted after it. -/
theorem ioOut_looped {r : State} (hr : twf r.nibs = true) (s : State) (f n : Nat) (o : BitVec 6) (e : BitVec 14) (c : RunCtx) (b b' : Nib)
    (pc : Nat) (hw : ioWin o ≠ 3) :
    let q := (ioOut s f n o e c b).eff (r.setNib f n b')
    let off := e.toNat + (if ioX o then tget b'.a 5 else 0)
    let v := b'.pair (ioData o)
    let t := winWrite (r.setNib f n b') c b' (ioWin o) off v
    let u := t.nib f n
    q.setNib f n ((q.nib f n).looped pc) =
      t.setNib f n ((if b'.released then u else { u with stores := v :: storeTag (ioWin o) off :: u.stores }).looped pc) := by
  have ht := twf_winWrite (twf_setNib hr f n b') c b' (ioWin o) (e.toNat + (if ioX o then tget b'.a 5 else 0)) (b'.pair (ioData o))
  simp only [ioOut, nib_setNib_self hr, winOffset, hw, if_false]
  by_cases hrel : b'.released = true
  · simp only [hrel, if_true]
  · simp only [hrel, Bool.false_eq_true, if_false, onNib, nib_setNib_self ht, setNib_setNib ht]

theorem nibWindowResult : Claims.NibWindowResult := by
  intro s r f n k o e c hs hh b win x io
  refine ⟨fun h hf => ?_, fun h => ?_, fun h => ?_, fun h => ?_⟩
  · have he := nibStep_held (op := 0) (k := k) (o := o) (e := e) (mk := fun c _ => { undef := decide (0xD < o.toNat), isEnd := true, eff := fun s => endRun s c })
      hh h hf (.inl rfl)
    exact congrArg Host.Outcome.next he
  · have hf := h.noFault
    rw [hh] at hf
    exact congrArg Host.Outcome.next (nibStep_quiet hh h.toNibAt hf h.budget rfl rfl rfl)
  · have hf := h.noFault
    rw [hh] at hf
    have hr : twf r.nibs = true := h.toNibAt.nibs ▸ hs.nibs
    refine (congrArg Host.Outcome.next (nibStep_quiet hh h.toNibAt hf h.budget rfl rfl rfl)).trans ?_
    refine congrArg Host.Outcome.next ?_
    simp only [nibDone, memCompare_none _ c (i := io) rfl rfl, haltIf, Bool.false_and, Bool.false_eq_true, if_false, onNib,
      nib_setNib_self hr, setNib_setNib hr]
    refine congrArg (fun q : Nib => r.setNib f n (q.looped b.pc)) ?_
    simp only [ringNext, Bool.and_eq_true, decide_eq_true_eq]
    rfl
  · have hf := h.noFault
    rw [hh] at hf
    have hr : twf r.nibs = true := h.toNibAt.nibs ▸ hs.nibs
    have hm : firstFault (ioOut s f n o e c (s.nib f n)) c.x.desc.plen (s.nib f n).pc true .clean = none := by
      rw [← hf]
      simp only [ioOut, Bool.and_eq_true, decide_eq_true_eq]
      rfl
    refine (congrArg Host.Outcome.next (nibStep_quiet (mk := ioOut s f n o e) hh h.toNibAt hm h.budget rfl rfl rfl)).trans ?_
    exact congrArg Host.Outcome.next (ioOut_looped hr s f n o e c _ (b.past io) b.pc (ioOut_window hm))

/-- Settles O22: `nibStep` by its outcomes: a condition that fails, the first check that fails, and the effect otherwise. -/
theorem nibOtherOutcomes : Obligations.NibOtherOutcomes := ⟨nibConditionFails, nibFaultResult, nibWindowResult⟩

end Sys2Proof.Machine
end

section
/-! PROOFS. Resets, and the state without power. -/

namespace Sys2Proof.Machine
open Sys2Proof

/-- A canonical table rewritten entry by entry into another. -/
theorem tget_foldl_tset {α β : Type} [DecidableEq α] [Inhabited α] [DecidableEq β] [Inhabited β] (g : α → β) {l : Tbl α} {b : Option ℕ}
    (hl : twfFrom l b = true) {t : Tbl β} (ht : twf t = true) (a : ℕ) :
    tget (l.foldl (fun (t : Tbl β) (e : ℕ × α) => tset t e.1 (g e.2)) t) a =
      if tget l a = default then tget t a else g (tget l a) := by
  induction l generalizing t b with
  | nil => simp [tget]
  | cons e r ih =>
    obtain ⟨k, v⟩ := e
    simp only [twfFrom, Bool.and_eq_true, decide_eq_true_eq] at hl
    obtain ⟨⟨-, hv⟩, hr⟩ := hl
    rw [List.foldl_cons, ih hr (twf_tset ht k (g v))]
    by_cases hk : k = a
    · subst hk
      simp [tget, tget_below hr (Nat.le_refl k), hv, tget_tset_self ht]
    · simp [tget, hk, tget_tset_ne t hk]

theorem resets : Claims.Resets := by
  intro s t f fails u
  refine ⟨fun h => ?_, fun h => ?_, rfl, fun h => ?_, fun h => ?_, fun h h' => ?_, fun h => ?_, fun h => ?_, fun h => ?_, fun hf h => ?_, fun h => ?_,
    fun hf hp hr hh => ?_, fun h => ?_⟩
  · exact ⟨congrArg Host.Outcome.next (if_pos h), congrArg Host.Outcome.next (if_pos h), congrArg Host.Outcome.next (if_pos h)⟩
  · exact ⟨congrArg Host.Outcome.next (if_neg h), congrArg Host.Outcome.next (if_neg h), congrArg Host.Outcome.next (if_neg h)⟩
  · exact congrArg Host.Outcome.next (if_pos h)
  · exact congrArg Host.Outcome.next (if_neg h)
  · exact congrArg Host.Outcome.next (if_pos ⟨h, h'⟩)
  · exact congrArg Host.Outcome.next (if_neg (by show ¬ (1 ≤ u.phase ∧ u.phase ≤ 3); omega))
  · exact congrArg Host.Outcome.next (if_pos h)
  · exact congrArg Host.Outcome.next (if_neg h)
  · exact congrArg Host.Outcome.next (if_pos ⟨hf, h⟩)
  · exact congrArg Host.Outcome.next (if_neg (fun hc => h hc.2))
  · refine congrArg Host.Outcome.next ((if_pos ⟨hf, hp⟩).trans (if_pos ⟨hr, ?_⟩))
    exact hh ▸ Bool.false_ne_true
  · have hk : ferResetEnd u f = u := if_neg (by rintro ⟨h1, h2⟩; rcases h with h | h <;> simp_all)
    refine congrArg Host.Outcome.next ?_
    show (if f < 64 ∧ u.phase ≠ 1 then ferResetEnd u f else u) = u
    rw [hk, ite_self]

/-- What is left of a port and of a trip line without power: the levels at their pins. -/
def pinsOfPort (x : Port) : Port := { sig := x.sig }
def pinsOfTrip (x : Trip) : Trip := { ball := x.ball }

theorem coldState_port {s : State} (h : s.Inv) (p l : ℕ) :
    (coldState s p).port l = if tget s.ports l = default then default else pinsOfPort (s.port l) :=
  tget_foldl_tset pinsOfPort h.ports (t := []) rfl l

theorem coldState_trip {s : State} (h : s.Inv) (p l : ℕ) :
    (coldState s p).trip l = if tget s.trips l = default then default else pinsOfTrip (s.trip l) :=
  tget_foldl_tset pinsOfTrip h.trips (t := []) rfl l

theorem coldState_claim : Claims.ColdState := by
  intro s p q
  refine ⟨rfl, rfl, rfl, rfl, rfl, rfl, rfl, rfl, rfl, rfl, rfl, rfl, rfl, rfl, fun _ => rfl, fun _ _ => rfl, fun h => ⟨?_, fun l => ?_, fun i => ?_⟩,
    fun a ha => ?_⟩
  · exact (Keeps.coldState (phase := p) (Keeps.refl s)).inv h
  · show ((coldState s p).port l).sig = _ ∧ ((coldState s p).port l).txq = _
    rw [coldState_port h]
    split
    · next hd => exact ⟨by rw [State.port, hd], rfl⟩
    · exact ⟨rfl, rfl⟩
  · show ((coldState s p).trip i).ball = _ ∧ ((coldState s p).trip i).queue = _
    rw [coldState_trip h]
    split
    · next hd => exact ⟨by rw [State.trip, hd], rfl⟩
    · exact ⟨rfl, rfl⟩
  · refine List.find?_eq_none.2 fun e he hea => ?_
    have hs : shelfWord e.1 = true := (List.mem_filter.1 he).2
    rw [beq_iff_eq.1 hea, ha] at hs
    exact Bool.false_ne_true hs

/-- Settles O60: each reset is one test of the phase; a cold state is the state of reset with the ports and the trip lines rewritten
entry by entry. -/
theorem resetsAndColdState : Obligations.ResetsAndColdState := ⟨resets, coldState_claim⟩

end Sys2Proof.Machine
end

section
/-! PROOFS. What a store leaves unchanged: a core that is single-stepped drains its store buffer after the store. -/

namespace Sys2Proof.Machine
open Sys2Proof

/-- Scribe 0 at the start of DRAM, halted again after one instruction (R579). -/
def coreStepped : State :=
  (State.reset.wrs [(F.DSK_SST 0, 1), (F.DMC_EN 0, 1), (F.DMC_STATE 0, 2), (fldAt F.PWR_DOM.addr 0 2, 1)]).modScribe 0 (fun c => { c with stepping := true })

/-- The state in which it performs its first instruction. -/
def coreSteppedFetched : State := coreCompare (fetch coreStepped 0).2 0 0 ((fetch coreStepped 0).2.scribe 0).pc 0

theorem coreStepped_ready : Ready coreStepped 0 coreSteppedFetched :=
  ⟨by decide +kernel, by decide +kernel, by decide +kernel, (fetch coreStepped 0).2, Prod.ext (by decide +kernel) rfl, .inl (by decide +kernel), rfl⟩

theorem pair_of_fst {α β : Type} {p : α × β} {a : α} (h : p.1 = a) : p = (a, p.2) := by rw [← h]

/-- The bytes of a line that scribe 0's own store buffer holds after an instruction. -/
def ownBytesAfter (o : Out) (line : ℕ) : List (ℕ × ℕ) :=
  match o with
  | .next t => ownBytes t 0 line
  | _ => []

/-- Where the store of g1 at the address 40h goes. -/
def steppedPlace : Res (List Part) × State :=
  locate coreSteppedFetched (accOf coreSteppedFetched 0 1 (encM 0x2B (1 : BitVec 5).toNat (0 : BitVec 5).toNat (0 : BitVec 3).toNat
    (0x40 : BitVec 16).toNat)) 0x40 8

/-- Refutes O20: SW of g1 at 40h by a core that a debugger steps: the core halts at the end of the instruction and drains its store buffer
(R575), in which the bytes stored are then not found. -/
theorem not_storeFrame : ¬ Obligations.StoreFrame := by
  intro hstore
  have hea : effAddr coreSteppedFetched 0 (1 : BitVec 5).toNat (0 : BitVec 5).toNat (0 : BitVec 3).toNat (0x40 : BitVec 16).toNat 8 false =
      some (0x40, none) := by decide +kernel
  have hplace : steppedPlace = (.ok [{ ea := 0x40, len := 8, pa := 0x40, attr := 0, split := false }], steppedPlace.2) :=
    pair_of_fst (by decide +kernel)
  have hsw := hstore coreStepped coreSteppedFetched steppedPlace.2 0 1 0 0 0x40 { ea := 0x40, len := 8, pa := 0x40, attr := 0, split := false }
    coreStepped_ready (by decide) (.sw 0 1 0 0 0x40 .clean, 0x2B, 8) (by simp) 0x40 none hea
  obtain ⟨t, ht, -, -, hown⟩ := hsw hplace rfl rfl (by decide +kernel) (by decide +kernel)
  have hempty : ownBytesAfter (exec (.sw 0 1 0 0 0x40 .clean) coreStepped) 1 = [] := by decide +kernel
  have hfound := hown 1 0
  rw [ht] at hempty
  rw [show ownBytes t 0 1 = [] from hempty] at hfound
  exact absurd hfound (by simp)

end Sys2Proof.Machine
end

section
/-! PROOFS. Branches, jumps and calls (R372, R379, R380). -/

namespace Sys2Proof.Machine
open Sys2Proof

variable {s r t u : State} {n half : ℕ} {i : Instr}

/-- An instruction whose body completes. -/
theorem exec_of_ok {body : Body} {q : State} {x : Option ℕ} (h : Ready s n r) (hi : exec i s = .next (issue s n half body))
    (hb : body r = (.ok x, q)) : exec i s = .next (finish q n x) := by
  rw [hi, issue_of_ok h hb]

/-- A field of an instruction read as a signed number. -/
theorem signedOf_toNat {w : ℕ} (v : BitVec (w + 1)) : signedOf v.toNat (w + 1) = v.toInt := by
  have hlt := v.isLt
  rw [signedOf, Nat.mod_eq_of_lt hlt, BitVec.toInt_eq_toNat_cond, Nat.add_sub_cancel]
  have hp : 2 ^ (w + 1) = 2 * 2 ^ w := by ring
  rw [hp] at *
  exact ite_congr (propext ⟨fun h => by omega, fun h => by omega⟩) (fun _ => rfl) fun _ => rfl

/-- A conditional branch that goes as its test says. -/
theorem exec_branch {ga gb : BitVec 5} {disp : BitVec 19} {test : Word → Word → Bool} {taken : Bool} (h : Ready s n r) (hn : n < 32)
    (hi : exec i s = .next (issue s n half (branchBody n ga.toNat gb.toNat disp.toNat test)))
    (ht : test (r.g n ga.toNat) (r.g n gb.toNat) = taken) :
    exec i s = .next (
      let q := traceBranch (r.bump (F.DSK_CBR n)) n taken
      let target := (((r.scribe n).pc : Int) + disp.toInt * 4).emod (2 ^ 48) |>.toNat
      if taken then finish (transfer q n target) n (some target) else finish q n (some (nextPc q n))) := by
  subst ht
  by_cases hk : test (r.g n ga.toNat) (r.g n gb.toNat) = true
  · rw [if_pos hk]
    refine exec_of_ok h hi ?_
    simp only [branchBody, hn, hk, if_true, pcTarget, signedOf_toNat]
  · rw [if_neg hk]
    refine exec_of_ok h hi ?_
    simp only [branchBody, hn, hk, if_true, if_false, Bool.false_eq_true]

theorem branchResult : Claims.BranchResult := by
  intro s r n ga gb disp h hn a b
  simp only [List.forall_mem_cons, List.not_mem_nil, false_imp_iff, implies_true, and_true]
  refine ⟨exec_branch h hn rfl rfl, exec_branch h hn rfl rfl, exec_branch h hn rfl rfl, exec_branch h hn rfl ?_, exec_branch h hn rfl rfl,
    exec_branch h hn rfl ?_⟩
  · show (!a.slt b) = _
    rw [BitVec.slt_eq_decide, ← decide_not, decide_eq_decide, Int.not_lt]
  · show (!a.ult b) = _
    rw [BitVec.ult_eq_decide, ← decide_not, decide_eq_decide, Nat.not_lt]

/-- A core without its predictors and its branch history. -/
def bare (c : Scribe) : Scribe := { c with itab := [], hist := [], rstack := [], brh := [] }

/-- What the bookkeeping of an instruction keeps: memory and, where the table of cores is canonical, the other cores and the core itself but
for its predictors and its branch history. -/
structure KeepsG (n : ℕ) (s t : State) : Prop where
  mem : t.mem = s.mem
  core : twf s.scribes = true → twf t.scribes = true ∧ bare (t.scribe n) = bare (s.scribe n) ∧ ∀ m, m ≠ n → t.scribe m = s.scribe m

namespace KeepsG

theorem refl (n : ℕ) (s : State) : KeepsG n s s := ⟨rfl, fun h => ⟨h, rfl, fun _ _ => rfl⟩⟩

theorem trans (h : KeepsG n s t) (k : KeepsG n t u) : KeepsG n s u :=
  ⟨k.mem.trans h.mem, fun hs =>
    have ⟨ht, hc, hm⟩ := h.core hs
    have ⟨hu, hc', hm'⟩ := k.core ht
    ⟨hu, hc'.trans hc, fun m hne => (hm' m hne).trans (hm m hne)⟩⟩

theorem of_scribes (hs : t.scribes = s.scribes) (hm : t.mem = s.mem) : KeepsG n s t :=
  have hc (m : ℕ) : t.scribe m = s.scribe m := by rw [State.scribe, hs]; rfl
  ⟨hm, fun h => ⟨hs ▸ h, congrArg bare (hc n), fun m _ => hc m⟩⟩

theorem modScribe (s : State) (n : ℕ) (f : Scribe → Scribe) (hf : ∀ c, bare (f c) = bare c) : KeepsG n s (s.modScribe n f) :=
  ⟨rfl, fun h => ⟨twf_tset h _ _, by rw [scribe_modScribe_self h, hf], fun _ hm => scribe_modScribe_ne s (Ne.symm hm) f⟩⟩

theorem g (h : KeepsG n s t) (hs : twf s.scribes = true) (i : ℕ) : t.g n i = s.g n i := by
  have hg : (bare (t.scribe n)).g = (bare (s.scribe n)).g := congrArg Scribe.g (h.core hs).2.1
  exact congrArg (fun l => if i = 0 then 0 else tget l i) hg

theorem pc (h : KeepsG n s t) (hs : twf s.scribes = true) : (t.scribe n).pc = (s.scribe n).pc := (congrArg Scribe.pc (h.core hs).2.1 :)

end KeepsG

theorem twf_setG {s : State} (h : twf s.scribes = true) (n i : ℕ) (v : Word) : twf (s.setG n i v).scribes = true := by
  unfold State.setG
  split
  · exact h
  · exact twf_tset h _ _

theorem setG_mem (s : State) (n i : ℕ) (v : Word) : (s.setG n i v).mem = s.mem := by
  unfold State.setG
  split <;> rfl

theorem blotPut_scribes (s : State) (src : ℕ) (k : Packet) : (blotPut s src k).scribes = s.scribes := by
  simp only [blotPut]
  split <;> simp

theorem blotPut_mem (s : State) (src : ℕ) (k : Packet) : (blotPut s src k).mem = s.mem := by
  simp only [blotPut]
  split <;> simp

theorem trace_scribes (s : State) (src ty payload : ℕ) (ext : Option Word) : (s.trace src ty payload ext).scribes = s.scribes := by
  simp only [State.trace]
  split
  · split <;> simp [blotPut_scribes]
  · rfl

theorem trace_mem (s : State) (src ty payload : ℕ) (ext : Option Word) : (s.trace src ty payload ext).mem = s.mem := by
  simp only [State.trace]
  split
  · split <;> simp [blotPut_mem]
  · rfl

theorem KeepsG.trace (s : State) (n src ty payload : ℕ) (ext : Option Word) : KeepsG n s (s.trace src ty payload ext) :=
  .of_scribes (trace_scribes _ _ _ _ _) (trace_mem _ _ _ _ _)

theorem KeepsG.flushBrh (s : State) (n : ℕ) : KeepsG n s (flushBrh s n) := by
  unfold Machine.flushBrh
  extract_lets l p
  split
  · exact .refl n s
  · exact (KeepsG.trace s n _ _ _ _).trans (.modScribe _ n _ fun _ => rfl)

theorem KeepsG.tracePacket (s : State) (n ty payload : ℕ) (ext : Option Word) : KeepsG n s (tracePacket s n ty payload ext) := by
  unfold Machine.tracePacket
  split
  · exact (KeepsG.flushBrh s n).trans (.trace _ n _ _ _ _)
  · exact .refl n s

theorem KeepsG.pushReturn (s : State) (n : ℕ) : KeepsG n s (pushReturn s n) :=
  .modScribe s n (fun c => { c with rstack := (nextPc s n :: c.rstack).take 32 }) fun _ => rfl

theorem KeepsG.transfer (s : State) (n target : ℕ) : KeepsG n s (transfer s n target) := .modScribe s n _ fun _ => rfl

/-- What JALR learns of a return from its stack, or of a target that is not a return from its table (R380). -/
def jalrLearn (r : State) (n : ℕ) (ret : Bool) (target : ℕ) : State :=
  let c := r.scribe n
  let idx := targetIndex c.pc c.hist
  if ret then
    (if n < 32 ∧ c.rstack.head? ≠ some target then r.bump (F.DSK_RMISS n) else r).modScribe n (fun c => { c with rstack := c.rstack.drop 1 })
  else
    (if n < 32 ∧ tget c.itab idx ≠ target + 1 then r.bump (F.DSK_IMISS n) else r).modScribe n (fun c => { c with itab := tset c.itab idx (target + 1) })

theorem KeepsG.jalrLearn (r : State) (n : ℕ) (ret : Bool) (target : ℕ) : KeepsG n r (jalrLearn r n ret target) := by
  unfold Machine.jalrLearn
  extract_lets c idx
  split
  · refine KeepsG.trans ?_ (.modScribe _ n _ fun _ => rfl)
    split
    · exact .of_scribes rfl rfl
    · exact .refl n r
  · refine KeepsG.trans ?_ (.modScribe _ n _ fun _ => rfl)
    split
    · exact .of_scribes rfl rfl
    · exact .refl n r

/-- The state in which JALR writes its link register. -/
def jalrLink (r : State) (n gd : ℕ) (ret : Bool) (target : ℕ) : State :=
  let q := jalrLearn r n ret target
  if gd = 31 then pushReturn q n else q

theorem KeepsG.jalrLink (r : State) (n gd : ℕ) (ret : Bool) (target : ℕ) : KeepsG n r (jalrLink r n gd ret target) := by
  unfold Machine.jalrLink
  extract_lets q
  split
  · exact (KeepsG.jalrLearn r n ret target).trans (.pushReturn _ n)
  · exact .jalrLearn r n ret target

/-- The return stack of a core that has called is not empty, so that its record stays in any table. -/
theorem pushReturn_nextPc (s : State) (n : ℕ) : nextPc (pushReturn s n) n = nextPc s n := by
  have hne : ({ s.scribe n with rstack := (nextPc s n :: (s.scribe n).rstack).take 32 } : Scribe) ≠ default :=
    fun h => List.cons_ne_nil _ _ (congrArg Scribe.rstack h)
  have hc : (pushReturn s n).scribe n = { s.scribe n with rstack := (nextPc s n :: (s.scribe n).rstack).take 32 } := tget_tset_of_ne _ _ hne
  simp only [nextPc, hc]

theorem jalrBody_eq (r : State) (n gd ga fn : ℕ) :
    jalrBody n gd ga 0 fn r =
      let target := getField (r.g n ga + BitVec.ofInt 72 (signedOf fn 14 * 4)) 0 48 / 4 * 4
      let ret := decide (gd = 0) && decide (ga = 31) && decide (fn = 0)
      let q := jalrLink r n gd ret target
      (.ok (some target), tracePacket (transfer (q.setG n gd (BitVec.ofNat 72 (nextPc q n))) n target) n 2 (target + (if ret then 1 else 0)) none) := rfl

theorem jumpResult : Claims.JumpResult := by
  intro s r n disp gd ga fn h far near
  have hfar : pcTarget r n disp.toNat 29 = far := by simp only [pcTarget, signedOf_toNat, far]
  refine ⟨exec_of_ok h rfl (by rw [hfar]), exec_of_ok h rfl ?_, ?_⟩
  · rw [pushReturn_nextPc, ← hfar]
  have hnear : getField (r.g n ga.toNat + BitVec.ofInt 72 (signedOf fn.toNat 14 * 4)) 0 48 / 4 * 4 = near := by
    simp only [getField, signedOf_toNat, near, Nat.shiftRight_zero]
  have hbody := jalrBody_eq r n gd.toNat ga.toNat fn.toNat
  rw [hnear] at hbody
  have hlink := KeepsG.jalrLink r n gd.toNat (decide (gd.toNat = 0) && decide (ga.toNat = 31) && decide (fn.toNat = 0)) near
  refine ⟨_, exec_of_ok h rfl hbody, fun hr hg hgd => ?_, ?_⟩
  · have hq := (hlink.core hr).1
    have hqg : twf ((jalrLink r n gd.toNat _ near).scribe n).g = true := (congrArg Scribe.g (hlink.core hr).2.1).symm ▸ hg
    have hgd0 : gd.toNat ≠ 0 := fun h0 => hgd (BitVec.eq_of_toNat_eq h0)
    rw [KeepsG.g (.tracePacket _ n _ _ _) (twf_tset (twf_setG hq _ _ _) _ _), KeepsG.g (.transfer _ n _) (twf_setG hq _ _ _),
      g_setG_self hq hqg hgd0, nextPc, nextPc, hlink.pc hr]
  · rw [(KeepsG.tracePacket _ n _ _ _).mem, (KeepsG.transfer _ n _).mem, setG_mem, hlink.mem]

/-- Settles O10: a branch and a jump by what their bodies answer; JALR's bookkeeping keeps the general registers, the PC and memory. -/
theorem controlFlow : Obligations.ControlFlow := ⟨branchResult, jumpResult⟩

end Sys2Proof.Machine
end

section
/-! PROOFS. The floating point instructions (R372). -/

namespace Sys2Proof.Machine
open Sys2Proof

variable {s r : State} {n half : ℕ} {gd ga gb gc : BitVec 5} {fmt : BitVec 1} {rnd : BitVec 3} {i : Instr}

/-- The end of a floating point instruction: its flags are gathered and its result is written. -/
def fpDid (t : State) (n : ℕ) (gd : BitVec 5) (q : FRes) : State :=
  wrote (t.modScribe n (fun k => { k with sr := tset k.sr 0x010 (tget k.sr 0x010 ||| BitVec.ofNat 72 (q.flags * 8)) })) n gd (BitVec.ofNat 72 q.bits)

/-- A floating point instruction whose fields are defined. -/
theorem exec_fp {useB useC rounds : Bool} {f : Bool → ℕ → Word → Word → Word → FRes} {q : FRes} (h : Ready s n r) (hn : n ≠ 32)
    (hi : exec i s = .next (issue s n half (fpBody n gd.toNat ga.toNat gb.toNat fmt.toNat rnd.toNat gc.toNat useB useC rounds f)))
    (h5 : rnd ≠ 5) (h6 : rnd ≠ 6) (hrnd : rounds = true ∨ rnd = 0) (hb : useB = true ∨ gb = 0) (hc : useC = true ∨ gc = 0)
    (hq : f (decide (fmt = 1)) (fRounding r n rnd.toNat).1 (r.g n ga.toNat) (r.g n gb.toNat) (r.g n gc.toNat) = q) :
    exec i s = .next (fpDid (fRounding r n rnd.toNat).2 n gd q) := by
  subst hq
  have hfmt : decide (fmt.toNat = 1) = decide (fmt = 1) := decide_eq_decide.2 ⟨fun he => BitVec.eq_of_toNat_eq he, fun he => he ▸ rfl⟩
  have hr5 : rnd.toNat ≠ 5 := fun he => h5 (BitVec.eq_of_toNat_eq he)
  have hr6 : rnd.toNat ≠ 6 := fun he => h6 (BitVec.eq_of_toNat_eq he)
  have hdef : ¬ (n = 32 ∨ rnd.toNat = 5 ∨ rnd.toNat = 6 ∨ (rounds = false ∧ rnd.toNat ≠ 0) ∨ (useB = false ∧ gb.toNat ≠ 0) ∨
      (useC = false ∧ gc.toNat ≠ 0)) := by
    rintro (he | he | he | ⟨he, hne⟩ | ⟨he, hne⟩ | ⟨he, hne⟩)
    · exact hn he
    · exact hr5 he
    · exact hr6 he
    · rcases hrnd with hx | hx
      · exact absurd (he.symm.trans hx) Bool.false_ne_true
      · exact hne (hx ▸ rfl)
    · rcases hb with hx | hx
      · exact absurd (he.symm.trans hx) Bool.false_ne_true
      · exact hne (hx ▸ rfl)
    · rcases hc with hx | hx
      · exact absurd (he.symm.trans hx) Bool.false_ne_true
      · exact hne (hx ▸ rfl)
  rw [← hfmt]
  exact exec_of_ok h hi (if_neg hdef)

/-- Settles O11: every floating point instruction has one body, with its operands and its function. -/
theorem floatResult : Obligations.FloatResult := by
  intro s r n gd ga gb gc fmt rnd h hn p a b c m t x y z did
  have both {α : Prop} : true = true ∨ α := .inl rfl
  have no {k : ℕ} {v : BitVec k} {α : Prop} : α ∨ v = v := .inr rfl
  refine ⟨fun h5 h6 => ?_, fun h0 => ?_⟩
  · exact ⟨exec_fp h hn rfl h5 h6 both both both rfl, exec_fp h hn rfl h5 h6 both both both rfl, exec_fp h hn rfl h5 h6 both both both rfl,
      exec_fp h hn rfl h5 h6 both both no rfl, exec_fp h hn rfl h5 h6 both both no rfl, exec_fp h hn rfl h5 h6 both both no rfl,
      exec_fp h hn rfl h5 h6 both both no rfl, exec_fp h hn rfl h5 h6 both no no rfl, exec_fp h hn rfl h5 h6 both no no rfl,
      exec_fp h hn rfl h5 h6 both no no rfl, exec_fp h hn rfl h5 h6 both no no rfl, exec_fp h hn rfl h5 h6 both no no rfl,
      exec_fp h hn rfl h5 h6 both no no rfl⟩
  · subst h0
    exact ⟨exec_fp h hn rfl (by decide) (by decide) no both no rfl, exec_fp h hn rfl (by decide) (by decide) no both no rfl,
      exec_fp h hn rfl (by decide) (by decide) no both no rfl, exec_fp h hn rfl (by decide) (by decide) no both no rfl,
      exec_fp h hn rfl (by decide) (by decide) no both no rfl, exec_fp h hn rfl (by decide) (by decide) no no no rfl,
      exec_fp h hn rfl (by decide) (by decide) no both no rfl, exec_fp h hn rfl (by decide) (by decide) no both no rfl,
      exec_fp h hn rfl (by decide) (by decide) no both no rfl⟩

end Sys2Proof.Machine
end

section
/-! PROOFS. Loads, stores and their address forms (R364, R371, R372). -/

namespace Sys2Proof.Machine
open Sys2Proof

variable {s r q : State} {n size : ℕ} {gd ga : BitVec 5} {mode : BitVec 3} {imm : BitVec 16} {err : MemErr} {i : Instr}

/-- A load whose address form is defined and whose access succeeds. -/
theorem exec_load {half : ℕ} {v w ea : Word} {u : Option Word} {ext : Word → Word} (h : Ready s n r)
    (hi : exec i s = .next (issue s n half (loadBody n half gd.toNat ga.toNat mode.toNat imm.toNat size ext err))) (hv : ext v = w)
    (ha : effAddr r n gd.toNat ga.toNat mode.toNat imm.toNat size true = some (ea, u))
    (hl : memLoad r (accOf r n 0 half) ea size err = (.ok v, q)) :
    exec i s = .next (let t := (updateBase q n ga.toNat u).setG n gd.toNat w
      finish (coreCompare t n 1 (ea.toNat % 2 ^ 48) w) n (some (nextPc t n))) := by
  subst hv
  refine exec_of_ok h hi ?_
  simp only [loadBody, ha, hl, andThen]
  rfl

theorem loadResult : Claims.LoadResult := by
  intro s r q n gd ga mode imm err v h
  simp only [List.forall_mem_cons, List.not_mem_nil, false_imp_iff, implies_true, and_true]
  have hx := extractLsb'_zero v
  exact ⟨fun _ _ => exec_load h rfl (congrArg _ (hx 9)), fun _ _ => exec_load h rfl (congrArg _ (hx 9)),
    fun _ _ => exec_load h rfl (congrArg _ (hx 18)), fun _ _ => exec_load h rfl (congrArg _ (hx 18)),
    fun _ _ => exec_load h rfl (congrArg _ (hx 36)), fun _ _ => exec_load h rfl (congrArg _ (hx 36)), fun _ _ => exec_load h rfl rfl⟩

/-- A store whose address form is defined and whose access succeeds. -/
theorem exec_store {half : ℕ} {ea : Word} {u : Option Word} (h : Ready s n r)
    (hi : exec i s = .next (issue s n half (storeBody n half gd.toNat ga.toNat mode.toNat imm.toNat size err)))
    (ha : effAddr r n gd.toNat ga.toNat mode.toNat imm.toNat size false = some (ea, u))
    (hl : memStore r (accOf r n 1 half) ea size (r.g n gd.toNat) err = (.ok (), q)) :
    exec i s = .next (let t := updateBase q n ga.toNat u
      finish (coreCompare t n 2 (ea.toNat % 2 ^ 48) (r.g n gd.toNat &&& BitVec.ofNat 72 (2 ^ (9 * size) - 1))) n (some (nextPc t n))) := by
  refine exec_of_ok h hi ?_
  simp only [storeBody, ha, hl, andThen]
  rfl

theorem storeResult : Claims.StoreResult := by
  intro s r q n gd ga mode imm err h v
  simp only [List.forall_mem_cons, List.not_mem_nil, false_imp_iff, implies_true, and_true]
  exact ⟨fun _ _ => exec_store h rfl, fun _ _ => exec_store h rfl, fun _ _ => exec_store h rfl, fun _ _ => exec_store h rfl⟩

theorem ofInt_signedOf (imm : BitVec 16) : BitVec.ofInt 72 (signedOf imm.toNat 16) = imm.signExtend 72 := by
  rw [signedOf_toNat]
  rfl

theorem addressForms : Claims.AddressForms := by
  intro r n gd ga imm size load a i upd
  have hupd : (decide (ga ≠ 0) && !(load && decide (gd = ga))) = decide upd := by simp [upd]
  have himm : imm.toNat / 32 ≠ 0 ↔ 32 ≤ imm.toNat := by omega
  have form (mode : ℕ) : effAddr r n gd ga mode imm.toNat size load =
      if mode = 0 then some (a + i, none)
      else if mode = 1 then some (a + i * BitVec.ofNat 72 size, none)
      else if mode = 2 then (if upd then some (a, some (a + i)) else none)
      else if mode = 3 then (if upd then some (a + i, some (a + i)) else none)
      else if mode = 4 then (if 32 ≤ imm.toNat then none else some (a + r.g n (imm.toNat % 32) * BitVec.ofNat 72 size, none))
      else if mode = 5 then (if load ∧ ga = 0 then some (BitVec.ofNat 72 (r.scribe n).pc + (i <<< 2), none) else none)
      else none := by
    simp only [effAddr, ofInt_signedOf, hupd, decide_eq_true_eq, himm, a, i]
  refine ⟨form 0, form 1, fun h => ⟨(form 2).trans (if_pos h), (form 3).trans (if_pos h)⟩,
    fun h => ⟨(form 2).trans (if_neg h), (form 3).trans (if_neg h)⟩, fun h => (form 4).trans ((if_neg (Nat.not_le.2 h)).trans ?_),
    fun h => (form 4).trans (if_pos h), fun h => (form 5).trans (if_pos h), fun h => (form 5).trans (if_neg h), form 6, form 7⟩
  rw [Nat.mod_eq_of_lt h]

/-- Settles O12: each load and each store is one body, with its size and its extension. -/
theorem memoryAccess : Obligations.MemoryAccess := ⟨loadResult, storeResult, addressForms⟩

end Sys2Proof.Machine
end

section
/-! PROOFS. LR, SC and the drain of a store buffer (R363, R392, R450, R462). -/

namespace Sys2Proof.Machine
open Sys2Proof

variable {s r t u : State}

theorem loadReserveStoreConditional : Claims.LoadReserveStoreConditional := by
  intro s r u n gd ga gb err p h hn ea x y
  refine ⟨fun v q hp hv => ?_, fun hp hf => ⟨fun hr => ?_, fun z l q hr hz hc hq => ?_⟩⟩
  · refine exec_of_ok h rfl ?_
    have hb : ¬ (n = 32 ∨ (0 : BitVec 5).toNat ≠ 0) := by simp [hn]
    simp only [lrBody, hb, if_false]
    rw [show wordPlace r (accOf r n 0 (encR 0x04 gd.toNat ga.toNat (0 : BitVec 5).toNat 0)) (r.g n ga.toNat) = _ from hp]
    simp only [andThen]
    rw [show readPart u (accOf r n 0 (encR 0x04 gd.toNat ga.toNat (0 : BitVec 5).toNat 0)) p true err = _ from hv]
    rfl
  · refine exec_of_ok h rfl ?_
    simp only [scBody, hn, if_false]
    rw [show wordPlace r (accOf r n 1 (encR 0x04 gd.toNat ga.toNat gb.toNat 1)) (r.g n ga.toNat) = _ from hp]
    simp only [andThen, hf, hr, ne_eq, not_false_eq_true, if_true]
    rfl
  · refine exec_of_ok h rfl ?_
    simp only [scBody, hn, if_false]
    rw [show wordPlace r (accOf r n 1 (encR 0x04 gd.toNat ga.toNat gb.toNat 1)) (r.g n ga.toNat) = _ from hp]
    simp only [andThen, hf, hr, hz, hc, hq, not_true_eq_false, ne_eq, if_false, Bool.false_eq_true]
    rfl

/-! ### The L2 of a desk -/

/-- The way in which the lines of a desk hold a line, and the line there. -/
@[irreducible] def wayIn (ways : Tbl L2Line) (line : ℕ) : Option ℕ :=
  findBelow (fun w => let x := tget ways (l2Set line * 16 + w); decide (x.st ≠ 0) && decide (x.line = line)) 16

def lineIn (ways : Tbl L2Line) (line : ℕ) : L2Line :=
  match wayIn ways line with
  | some w => tget ways (l2Set line * 16 + w)
  | none => {}

theorem l2Way_eq (s : State) (d line : ℕ) : s.l2Way d line = wayIn (s.desk d).ways line := by
  unfold wayIn
  rfl

theorem l2_eq (s : State) (d line : ℕ) : s.l2 d line = lineIn (s.desk d).ways line := by
  unfold State.l2 lineIn
  rw [l2Way_eq] <;> rfl

theorem findBelow_lt {p : ℕ → Bool} {n k : ℕ} (h : findBelow p n = some k) : k < n ∧ p k = true := by
  induction n with
  | zero => simp [findBelow] at h
  | succ n ih =>
    rw [findBelow] at h
    split at h
    · next j hj =>
      obtain rfl := Option.some.inj h
      have ⟨h1, h2⟩ := ih hj
      exact ⟨Nat.lt_succ_of_lt h1, h2⟩
    · split at h
      · next hp =>
        obtain rfl := Option.some.inj h
        exact ⟨Nat.lt_succ_self _, hp⟩
      · cases h

theorem wayIn_some {ways : Tbl L2Line} {line w : ℕ} (h : wayIn ways line = some w) :
    w < 16 ∧ (tget ways (l2Set line * 16 + w)).st ≠ 0 ∧ (tget ways (l2Set line * 16 + w)).line = line := by
  unfold wayIn at h
  have ⟨h1, h2⟩ := findBelow_lt h
  simp only [Bool.and_eq_true, decide_eq_true_eq] at h2
  exact ⟨h1, h2⟩

/-- The way of a line is where it was after a line in the L2 has been given other contents. -/
theorem wayIn_tset {ways : Tbl L2Line} {line w : ℕ} {x : L2Line} (h : wayIn ways line = some w) (hs : x.st ≠ 0) (hl : x.line = line) (l : ℕ) :
    wayIn (tset ways (l2Set line * 16 + w) x) l = wayIn ways l := by
  have hx : x ≠ default := fun he => hs (he ▸ rfl)
  have ⟨hw, hst, hln⟩ := wayIn_some h
  unfold wayIn
  refine congrArg (fun p => findBelow p 16) (funext fun v => ?_)
  by_cases hk : l2Set line * 16 + w = l2Set l * 16 + v
  · simp only [← hk, tget_tset_of_ne ways _ hx, hl, hln, ne_eq, hs, hst]
  · simp only [tget_tset_ne ways hk]

theorem lineIn_tset_self {ways : Tbl L2Line} {line w : ℕ} {x : L2Line} (h : wayIn ways line = some w) (hs : x.st ≠ 0) (hl : x.line = line) :
    lineIn (tset ways (l2Set line * 16 + w) x) line = x := by
  have hx : x ≠ default := fun he => hs (he ▸ rfl)
  simp only [lineIn, wayIn_tset h hs hl, h, tget_tset_of_ne ways _ hx]

theorem lineIn_tset_ne {ways : Tbl L2Line} {line w l : ℕ} {x : L2Line} (h : wayIn ways line = some w) (hs : x.st ≠ 0) (hl : x.line = line)
    (hne : l ≠ line) : lineIn (tset ways (l2Set line * 16 + w) x) l = lineIn ways l := by
  have ⟨hw, hst, hln⟩ := wayIn_some h
  simp only [lineIn, wayIn_tset h hs hl]
  split
  · next v hv =>
    have ⟨hv16, hvst, hvln⟩ := wayIn_some hv
    refine tget_tset_ne ways (fun he => hne ?_) _
    rw [← hvln, ← he, hln]
  · rfl

/-- A desk that holds a line is not the desk of reset, so that its record stays in any table. -/
theorem desk_setDesk_self {d : ℕ} {x : Desk} (hx : x.ways ≠ []) : (s.setDesk d x).desk d = x :=
  tget_tset_of_ne _ _ fun he => hx (he ▸ rfl)

theorem desk_setDesk_ne {d e : ℕ} (h : d ≠ e) (x : Desk) : (s.setDesk d x).desk e = s.desk e := tget_tset_ne _ h _

theorem ways_ne_nil {ways : Tbl L2Line} {line w : ℕ} (h : wayIn ways line = some w) : ways ≠ [] := by
  rintro rfl
  exact (wayIn_some h).2.1 rfl

theorem tput_ne_nil {α : Type} (t : Tbl α) (a : ℕ) (x : α) : tput t a x ≠ [] := by
  cases t with
  | nil => exact List.cons_ne_nil _ _
  | cons e t =>
    rw [tput]
    split
    · exact List.cons_ne_nil _ _
    · split <;> exact List.cons_ne_nil _ _

theorem tset_ne_nil {ways : Tbl L2Line} {k : ℕ} {x : L2Line} (hs : x.st ≠ 0) : tset ways k x ≠ [] := by
  have hx : x ≠ default := fun he => hs (he ▸ rfl)
  rw [tset, if_neg hx]
  exact tput_ne_nil _ _ _

theorem l2_l2Touch (s : State) (d line e l : ℕ) : (s.l2Touch d line).l2 e l = s.l2 e l := by
  unfold State.l2Touch
  split
  · next w hw =>
    rw [l2Way_eq] at hw
    rw [l2_eq, l2_eq]
    by_cases he : d = e
    · subst he
      rw [desk_setDesk_self (x := { s.desk d with plru := tmod (s.desk d).plru (l2Set line) (fun b => plruTouch b w) }) (ways_ne_nil hw)]
    · rw [desk_setDesk_ne he]
  · rfl

/-- A line that a desk holds is found in a way. -/
theorem l2Way_of_held {d line : ℕ} (h : (s.l2 d line).st ≠ 0) :
    ∃ w, s.l2Way d line = some w ∧ wayIn (s.desk d).ways line = some w ∧ (s.l2 d line).line = line := by
  rw [l2_eq, lineIn] at h
  split at h
  · next w hw =>
    refine ⟨w, (l2Way_eq s d line).trans hw, hw, ?_⟩
    rw [l2_eq, lineIn, hw]
    exact (wayIn_some hw).2.2
  · exact absurd rfl h

theorem setL2_of_held {d line w : ℕ} {x : L2Line} (hw : s.l2Way d line = some w) (hs : x.st ≠ 0) :
    s.setL2 d line x = s.setDesk d { s.desk d with ways := tset (s.desk d).ways (l2Set line * 16 + w) x } := by
  unfold State.setL2
  rw [hw]
  exact congrArg (fun y => s.setDesk d { s.desk d with ways := tset (s.desk d).ways (l2Set line * 16 + w) y }) (if_neg hs)

theorem l2_setL2_self {d line : ℕ} {x : L2Line} (h : (s.l2 d line).st ≠ 0) (hs : x.st ≠ 0) (hl : x.line = (s.l2 d line).line) :
    (s.setL2 d line x).l2 d line = x := by
  obtain ⟨w, hw, hw', hline⟩ := l2Way_of_held h
  rw [setL2_of_held hw hs, l2_eq, desk_setDesk_self (x := { s.desk d with ways := tset (s.desk d).ways (l2Set line * 16 + w) x }) (tset_ne_nil hs)]
  exact lineIn_tset_self hw' hs (hl.trans hline)

theorem l2_setL2_ne {d line e l : ℕ} {x : L2Line} (h : (s.l2 d line).st ≠ 0) (hs : x.st ≠ 0) (hl : x.line = (s.l2 d line).line) (hne : l ≠ line) :
    (s.setL2 d line x).l2 e l = s.l2 e l := by
  obtain ⟨w, hw, hw', hline⟩ := l2Way_of_held h
  rw [setL2_of_held hw hs, l2_eq, l2_eq]
  by_cases he : d = e
  · subst he
    rw [desk_setDesk_self (x := { s.desk d with ways := tset (s.desk d).ways (l2Set line * 16 + w) x }) (tset_ne_nil hs)]
    exact lineIn_tset_ne hw' hs (hl.trans hline) hne
  · rw [desk_setDesk_ne he]

/-! ### What the losses of the L1 and of reservations keep -/

theorem l1Drop_mem (s : State) (d line : ℕ) (keep : Option ℕ) : (s.l1Drop d line keep).mem = s.mem := by
  unfold State.l1Drop forEach
  refine foldl_keeps (P := fun t : State => t.mem = s.mem) rfl fun t k ht => ?_
  dsimp only
  split
  · exact ht
  · exact ht

theorem clearResv_mem (s : State) (line : ℕ) (p : ℕ → Bool) : (s.clearResv line p).mem = s.mem := by
  unfold State.clearResv forEach
  refine foldl_keeps (P := fun t : State => t.mem = s.mem) rfl fun t k ht => ?_
  split
  · split <;> exact ht
  · exact ht

theorem l2_of_mem (h : t.mem = s.mem) (d line : ℕ) : t.l2 d line = s.l2 d line := by
  have hd : t.desk d = s.desk d := by rw [State.desk, State.desk, h]
  rw [l2_eq, l2_eq, hd]

/-- A line with bytes written into it. -/
def lineWritten (x : L2Line) (wr : List (ℕ × ℕ)) : L2Line :=
  { x with words := writeBytes x.words wr, poison := x.poison && !(fullLine wr) }

theorem lineWritten_st (x : L2Line) (wr : List (ℕ × ℕ)) : (lineWritten x wr).st = x.st := rfl

theorem lineWritten_line (x : L2Line) (wr : List (ℕ × ℕ)) : (lineWritten x wr).line = x.line := rfl

theorem l2Write_mem (s : State) (n line : ℕ) (wr : List (ℕ × ℕ)) :
    (l2Write s n line wr).mem = (s.setL2 (n / 8) line (lineWritten (s.l2 (n / 8) line) wr)).mem := by
  unfold l2Write lineWritten
  extract_lets d x u
  rw [clearResv_mem, l1Drop_mem]

theorem setL2_dram (s : State) (d line : ℕ) (x : L2Line) : (s.setL2 d line x).mem.dram = s.mem.dram := by
  unfold State.setL2
  split <;> rfl

theorem l2Touch_dram (s : State) (d line : ℕ) : (s.l2Touch d line).mem.dram = s.mem.dram := by
  unfold State.l2Touch
  split <;> rfl

/-- A store buffer whose oldest entry is of a line that the desk holds in M. -/
theorem drainOne_held {n line : ℕ} {wr : List (ℕ × ℕ)} {rest : List (ℕ × List (ℕ × ℕ))} (hb : (s.scribe n).sb = (line, wr) :: rest)
    (h : (s.l2 (n / 8) line).st = 4) :
    drainOne s n = (true, (l2Write (s.l2Touch (n / 8) line) n line wr).modScribe n (fun c => { c with sb := rest })) := by
  have hacq : acquire s n line true = (true, s.l2Touch (n / 8) line) := by
    simp only [acquire, h, if_true, decide_true]
  simp only [drainOne, hb, hacq, if_true]

/-- What a write of a line that the desk holds does to the L2 and to memory. -/
theorem l2Write_held {n line : ℕ} (wr : List (ℕ × ℕ)) (h : (s.l2 (n / 8) line).st ≠ 0)
    (u : State) (hu : u.mem = (l2Write s n line wr).mem) :
    u.mem.dram = s.mem.dram ∧ (u.l2 (n / 8) line).words = writeBytes (s.l2 (n / 8) line).words wr ∧
      (u.l2 (n / 8) line).st = (s.l2 (n / 8) line).st ∧ ∀ d l, l ≠ line → u.l2 d l = s.l2 d l := by
  have hm := hu.trans (l2Write_mem s n line wr)
  have hw : (lineWritten (s.l2 (n / 8) line) wr).st ≠ 0 := by rw [lineWritten_st]; exact h
  have hself := l2_setL2_self h hw (lineWritten_line _ _)
  refine ⟨?_, ?_, ?_, fun e l hne => ?_⟩
  · rw [hm, setL2_dram]
  · rw [l2_of_mem hm, hself, lineWritten]
  · rw [l2_of_mem hm, hself, lineWritten]
  · rw [l2_of_mem hm, l2_setL2_ne h hw (lineWritten_line _ _) hne]

theorem l2_tick (s : State) (t d line : ℕ) : (s.tick t).l2 d line = s.l2 d line := l2_of_mem (tick_mem s t) d line

/-- The state after a drain of an entry whose line the desk holds in M. -/
def drained (s : State) (n line : ℕ) (wr : List (ℕ × ℕ)) (rest : List (ℕ × List (ℕ × ℕ))) : State :=
  (l2Write (s.l2Touch (n / 8) line) n line wr).modScribe n (fun c => { c with sb := rest })

theorem drained_mem (s : State) (n line : ℕ) (wr : List (ℕ × ℕ)) (rest : List (ℕ × List (ℕ × ℕ))) :
    (drained s n line wr rest).mem = (l2Write (s.l2Touch (n / 8) line) n line wr).mem := by
  rw [drained, modScribe_mem]

theorem drained_l2 {n line : ℕ} (wr : List (ℕ × ℕ)) (rest : List (ℕ × List (ℕ × ℕ))) (h : (s.l2 (n / 8) line).st = 4) :
    (drained s n line wr rest).mem.dram = s.mem.dram ∧
      ((drained s n line wr rest).l2 (n / 8) line).words = writeBytes (s.l2 (n / 8) line).words wr ∧
      ((drained s n line wr rest).l2 (n / 8) line).st = 4 ∧ ∀ d l, l ≠ line → (drained s n line wr rest).l2 d l = s.l2 d l := by
  have hheld : ((s.l2Touch (n / 8) line).l2 (n / 8) line).st ≠ 0 := by rw [l2_l2Touch, h]; decide
  have hw := l2Write_held wr hheld (drained s n line wr rest) (drained_mem s n line wr rest)
  rw [l2_l2Touch, l2Touch_dram, h] at hw
  obtain ⟨hdram, hwords, hst, hne⟩ := hw
  exact ⟨hdram, hwords, hst, fun d l hl => (hne d l hl).trans (l2_l2Touch _ _ _ _ _)⟩

theorem storeBufferDrain : Claims.StoreBufferDrain := by
  intro s t n line wr rest hn hs hb h4 _
  have hq := drained_l2 (s := s.tick t) wr rest (by rw [l2_tick, h4])
  rw [tick_mem, l2_tick] at hq
  obtain ⟨hdram, hwords, hst, hne⟩ := hq
  have hk : Keeps s (l2Write ((s.tick t).l2Touch (n / 8) line) n line wr) := (Keeps.refl s).tick.l2Touch.l2Write
  have hd : (drainOne (s.tick t) n).2 = drained (s.tick t) n line wr rest := by
    rw [drainOne_held hb (by rw [l2_tick, h4]), drained]
  refine ⟨drained (s.tick t) n line wr rest, ?_, ?_, hdram, hwords, hst, fun e l h => (hne e l h).trans (l2_tick _ _ _ _)⟩
  · exact congrArg Host.Outcome.next ((if_pos hn).trans hd)
  · rw [drained, scribe_modScribe_self (hk.inv hs).scribes]

/-- Settles O13: LR and SC by what their bodies answer; a drain writes one way of the desk's L2. -/
theorem reservationAndDrain : Obligations.ReservationAndDrain := ⟨loadReserveStoreConditional, storeBufferDrain⟩

end Sys2Proof.Machine
end

section
/-! PROOFS. BMOVE, BFILL and BSCAN (R386 to R389). -/

namespace Sys2Proof.Machine
open Sys2Proof

variable {s r : State} {n : ℕ}

/-- The bytes moved are those read when the destination does not lie within them. -/
theorem range_map_getD {l : List ℕ} {k delta : ℕ} (hl : l.length = k) (hk : k ≤ delta) :
    (List.range k).map (fun i => l.getD (if 0 < delta ∧ delta < k then i % delta else i) 0) = l := by
  have hd : ¬ (0 < delta ∧ delta < k) := by omega
  refine List.ext_getElem (by simp [hl]) fun i h1 h2 => ?_
  simp [hd, h2]

theorem blockStepResult : Claims.BlockStepResult := by
  intro s r n gd ga gb err hr hok h dst src left w step'
  refine ⟨fun h0 => ?_, ?_, ?_, ?_⟩
  · have hg : r.g n gb.toNat = 0 := h0
    refine ⟨exec_of_ok hr rfl ?_, exec_of_ok hr rfl ?_, exec_of_ok hr rfl ?_⟩
    · simp only [bmoveBody, hok, hg, not_true_eq_false, if_false, if_true, blockNext]
    · simp only [bfillBody, hok, hg, not_true_eq_false, if_false, if_true, blockNext]
    · have hbits : bitsOf (0x2000 : BitVec 14).toNat 12 2 = 2 ∧ bitsOf (0x2000 : BitVec 14).toNat 3 9 = 0 := by decide
      simp only [bscanBody, hok, hg, hbits, not_true_eq_false, ne_eq, or_self, if_false, if_true, blockNext]
  · intro ps pd l u v z q h0 k hk hps hpd hl hlen hq
    refine exec_of_ok hr rfl ?_
    have h0' : ¬ r.g n gb.toNat = 0 := h0
    simp only [bmoveBody, hok, h0', not_true_eq_false, if_false]
    rw [show blockPlace r (accOf r n 0 _) _ _ = _ from hps, andThen, show blockPlace u (accOf u n 1 _) _ _ = _ from hpd, andThen,
      show readBytes v (accOf v n 0 _) ps false err = _ from hl, andThen, range_map_getD hlen hk, hq]
    rfl
  · intro pd v q h0 k hpd z l hq
    refine exec_of_ok hr rfl ?_
    have h0' : ¬ r.g n gb.toNat = 0 := h0
    simp only [bfillBody, hok, h0', not_true_eq_false, if_false]
    rw [show blockPlace r (accOf r n 1 _) _ _ = _ from hpd, andThen, show blockWrite _ n pd _ = _ from hq]
    rfl
  · intro fn p l u q h0 hfn hfn' b hb hb' k x hp hl t hit
    have h0' : ¬ r.g n gb.toNat = 0 := h0
    have hfields : ¬ (bitsOf fn.toNat 12 2 ≠ 2 ∨ bitsOf fn.toNat 3 9 ≠ 0) := by
      rw [bitsOf_eq, bitsOf_eq]
      omega
    have hal : ¬ ((r.g n gd.toNat).toNat % 2 ^ (fn.toNat % 4) ≠ 0 ∨ (r.g n gb.toNat).toNat % 2 ^ (fn.toNat % 4) ≠ 0) :=
      fun hc => hc.elim (fun hc => hc hb) fun hc => hc hb'
    have hbit : bitOf fn.toNat 2 = decide (fn.toNat / 4 % 2 = 1) := by
      rw [bitOf, Nat.testBit_eq_decide_div_mod_eq]
    have hbody : bscanBody n (h fn.toNat) gd.toNat ga.toNat gb.toNat fn.toNat err r =
        match findBelow hit (k / b) with
        | some j => (.ok (some (nextPc t n)), (t.setG n gd.toNat (dst + w (j * b))).setG n gb.toNat (left - w (j * b)))
        | none => blockNext ((t.setG n gd.toNat (dst + w k)).setG n gb.toNat (left - w k)) n gb.toNat := by
      simp only [bscanBody, hok, h0', hfields, hal, not_true_eq_false, false_or, if_false, hbit]
      rw [show blockPlace r (accOf r n 0 _) _ _ = _ from hp, andThen, show readBytes u (accOf r n 0 _) p false err = _ from hl, andThen] <;> rfl
    refine ⟨fun j hj hhit hno => exec_of_ok hr rfl ?_, fun hno => exec_of_ok hr rfl ?_⟩
    · exact hbody.trans (by rw [findBelow_some hj hhit hno])
    · exact hbody.trans (by rw [findBelow_none hno]; rfl)

/-- Block instructions whose operands are not three different registers, none of them g0. -/
theorem blockFormsRefused : Claims.BlockFormsRefused := by
  intro s r n gd ga gb fn err h hbad
  have hok : blockOk n gd.toNat ga.toNat gb.toNat = false := by
    have ne {a b : BitVec 5} (hab : a = b) : decide (a.toNat ≠ b.toNat) = false := by simp [hab]
    have nz {a : BitVec 5} (ha : a = 0) : decide (a.toNat ≠ 0) = false := by simp [ha]
    rcases hbad with hbad | hbad | hbad | hbad | hbad | hbad | hbad
    · simp [blockOk, hbad]
    · simp [blockOk, nz hbad]
    · simp [blockOk, nz hbad]
    · simp [blockOk, nz hbad]
    · simp [blockOk, ne hbad]
    · simp [blockOk, ne hbad]
    · simp [blockOk, ne hbad]
  simp only [List.forall_mem_cons, List.not_mem_nil, false_imp_iff, implies_true, and_true]
  exact ⟨⟨_, exec_of_illegal h rfl (by simp only [bmoveBody, hok, Bool.false_eq_true, not_false_eq_true, if_true])⟩,
    ⟨_, exec_of_illegal h rfl (by simp only [bfillBody, hok, Bool.false_eq_true, not_false_eq_true, if_true])⟩,
    ⟨_, exec_of_illegal h rfl (by simp only [bscanBody, hok, Bool.false_eq_true, not_false_eq_true, true_or, if_true])⟩⟩

/-- Settles O14: the bodies of the block instructions, step by step. -/
theorem blockInstructions : Obligations.BlockInstructions := ⟨blockStepResult, blockFormsRefused⟩

end Sys2Proof.Machine
end

section
/-! PROOFS. System instructions (R372, R385, R395, R401, R402, R420, R444, R453). -/

namespace Sys2Proof.Machine
open Sys2Proof

variable {s r q : State} {n half : ℕ} {gd ga gb : BitVec 5} {num : BitVec 10} {i : Instr}

/-- An instruction that ends with `goOn`. -/
theorem exec_of_goOn {body : Body} (h : Ready s n r) (hi : exec i s = .next (issue s n half body)) (hb : body r = goOn q n) :
    exec i s = .next (passed q n) := exec_of_ok h hi hb

/-- An instruction whose body finds it privileged. -/
theorem exec_of_privileged {body : Body} {atH : Bool} (h : Ready s n r) (hi : exec i s = .next (issue s n half body))
    (hb : body r = privileged r atH) : ∃ b h, exec i s = .next (trap r n { code := 2, atH := b, inst := h }) :=
  ⟨atH, half, by rw [hi, issue_of_bad h hb]⟩

theorem toNat_ne_zero_of_ne {w : ℕ} {v k : BitVec w} (h : v.toNat ≠ k.toNat) : v ≠ k := fun he => h (he ▸ rfl)

/-! ### MFSR and MTSR -/

theorem mfsrBody_value {row : SregRow} (hrow : sregRow n num.toNat = some row) (h3 : row.rd ≠ 3) (hl : row.rd ≤ coreLevel r n) :
    mfsrBody n gd.toNat num.toNat r =
      if num.toNat = 9 then result (iackRead r n).2 n gd.toNat (iackRead r n).1 else result r n gd.toNat (sregValue r n num.toNat) := by
  simp only [mfsrBody, hrow, h3, Nat.not_lt.2 hl, if_false]

theorem mfsrBody_privileged {row : SregRow} (hrow : sregRow n num.toNat = some row) (h3 : row.rd ≠ 3) (hl : coreLevel r n < row.rd) :
    mfsrBody n gd.toNat num.toNat r = privileged r (decide (row.rd = 2)) := by
  simp only [mfsrBody, hrow, h3, hl, if_false, if_true]

/-- MTSR of a register that may be written at the core's level: STATUS has checks of its own. -/
theorem mtsrBody_value {row : SregRow} (hrow : sregRow n num.toNat = some row) (h3 : row.wr ≠ 3) (hl : row.wr ≤ coreLevel r n) :
    mtsrBody n ga.toNat (0 : BitVec 5).toNat num.toNat r =
      let v := r.g n ga.toNat
      let lvl := coreLevel r n
      let dest := getField v 0 2
      if num.toNat = 0 then
        (if lvl = 1 ∧ 2 ≤ dest then privileged r false
         else if dest = 3 ∨ (n = 32 ∧ dest ≠ 2) then illegal r
         else goOn (setStatus r n (if lvl = 1 then putField v 2 4 (min 13 (getField v 2 4)) else v)) n)
      else if num.toNat = 0x00A then goOn (ieoiWrite r n v.toNat) n
      else if num.toNat = 0x00C then goOn (swiWrite r v.toNat) n
      else goOn (sregPut r n num.toNat v) n := by
  have hno : ¬ ((0 : BitVec 5).toNat ≠ 0 ∨ row.wr = 3) := fun hc => hc.elim (fun hc => hc rfl) h3
  simp only [mtsrBody, hrow, hno, Nat.not_lt.2 hl, if_false]

theorem mtsrBody_privileged {row : SregRow} (hrow : sregRow n num.toNat = some row) (h3 : row.wr ≠ 3) (hl : coreLevel r n < row.wr) :
    mtsrBody n ga.toNat (0 : BitVec 5).toNat num.toNat r = privileged r (decide (row.rd = 2) && decide (row.wr = 2)) := by
  have hno : ¬ ((0 : BitVec 5).toNat ≠ 0 ∨ row.wr = 3) := fun hc => hc.elim (fun hc => hc rfl) h3
  simp only [mtsrBody, hrow, hno, hl, if_false, if_true]

/-- STATUS may be written at K and at H. -/
theorem sregRow_status (n : ℕ) : ∃ row, sregRow n (0 : BitVec 10).toNat = some row ∧ row.wr ≠ 3 ∧ row.wr ≤ (if n = 32 then 2 else 1) := by
  unfold sregRow
  split
  · exact ⟨_, rfl, by decide, by decide⟩
  · exact ⟨_, rfl, by decide, by decide⟩

theorem systemResult : Claims.SystemResult := by
  intro s r n gd ga gb num err h a lvl code
  refine ⟨?_, fun q hq => ⟨?_, ?_, ?_⟩, fun row hrow h3 hl => ⟨fun h9 => ?_, fun h9 => ?_⟩, fun row hrow h3 hl => ?_, fun hlvl hn hc => ?_,
    fun hn h7 hlvl u q hu hq => ?_, fun hn => ⟨fun p q z hp hz => ?_, fun p q z hp hz => ?_, fun p q z hp hz => ?_⟩⟩
  · exact exec_of_goOn h rfl rfl
  · exact exec_of_goOn h rfl (by show (match storesVisible r n with | (true, s) => goOn s n | (false, s) => (.wait, s)) = _; rw [hq])
  · exact exec_of_goOn h rfl (by show (match storesVisible r n with | (true, s) => goOn s n | (false, s) => (.wait, s)) = _; rw [hq])
  · exact exec_of_goOn h rfl (by rw [hq])
  · exact exec_of_result h rfl ((mfsrBody_value hrow h3 hl).trans (if_neg h9))
  · exact exec_of_ok h rfl ((mfsrBody_value hrow h3 hl).trans (if_pos h9))
  · have hb := mtsrBody_value (ga := ga) hrow h3 hl
    refine ⟨fun h0 h10 h12 => ?_, fun h10 => ?_, fun h12 => ?_, fun h0 h2 hd hn => ?_, fun h0 h1 hd hn => ?_⟩
    · exact exec_of_goOn h rfl (hb.trans ((if_neg h0).trans ((if_neg h10).trans (if_neg h12))))
    · have h0 : ¬ num.toNat = 0 := by show ¬ code = 0; omega
      exact exec_of_goOn h rfl (hb.trans ((if_neg h0).trans (if_pos h10)))
    · have h0 : ¬ num.toNat = 0 := by show ¬ code = 0; omega
      have h10 : ¬ num.toNat = 10 := by show ¬ code = 10; omega
      exact exec_of_goOn h rfl (hb.trans ((if_neg h0).trans ((if_neg h10).trans (if_pos h12))))
    · have hl1 : ¬ coreLevel r n = 1 := by show ¬ lvl = 1; omega
      have hk : ¬ (getField (r.g n ga.toNat) 0 2 = 3 ∨ (n = 32 ∧ getField (r.g n ga.toNat) 0 2 ≠ 2)) :=
        fun hc => hc.elim hd fun hc => hc.2 (hn hc.1)
      exact exec_of_goOn h rfl (hb.trans ((if_pos h0).trans (by simp only [hl1, hk, false_and, if_false]; rfl)))
    · have hl1 : coreLevel r n = 1 := h1
      have hk : ¬ (getField (r.g n ga.toNat) 0 2 = 3 ∨ (n = 32 ∧ getField (r.g n ga.toNat) 0 2 ≠ 2)) :=
        fun hc => hc.elim (fun hc => absurd hd (by show ¬ getField (r.g n ga.toNat) 0 2 < 2; omega)) fun hc => hn hc.1
      have hk2 : ¬ 2 ≤ getField (r.g n ga.toNat) 0 2 := Nat.not_le.2 hd
      exact exec_of_goOn h rfl (hb.trans ((if_pos h0).trans (by simp only [hl1, hk, hk2, and_false, if_false, if_true]; rfl)))
  · have hl0 : ¬ coreLevel r n = 0 := hlvl
    exact exec_of_goOn h rfl (by simp only [wfiBody, hl0, hn, hc, if_true, if_false])
  · have hno : ¬ (n = 32 ∨ 7 < num.toNat) := fun hc => hc.elim hn (Nat.not_lt.2 h7)
    have hl0 : ¬ coreLevel r n = 0 := by show ¬ lvl = 0; omega
    have hl1 : ¬ (coreLevel r n = 1 ∧ 4 ≤ num.toNat) := by show ¬ (lvl = 1 ∧ 4 ≤ code); omega
    exact exec_of_goOn h rfl (by simp only [tlbiBody, hno, hl0, hl1, hu, if_false]; erw [hq])
  all_goals
    have hno : ¬ (n = 32 ∨ (0 : BitVec 5).toNat ≠ 0) := fun hc => hc.elim hn fun hc => hc rfl
    refine exec_of_goOn h rfl ?_
  · simp only [cleanBody, hno, if_false]
    rw [show linePlace r n (encR 0x09 gd.toNat ga.toNat (0 : BitVec 5).toNat 0x00A) 0 (r.g n ga.toNat) = _ from hp, andThen]
    simp only [ne_eq, not_true_eq_false, if_false, hz, Bool.false_eq_true]
  · simp only [cleanBody, hno, if_false]
    rw [show linePlace r n (encR 0x09 gd.toNat ga.toNat (0 : BitVec 5).toNat 0x00B) 0 (r.g n ga.toNat) = _ from hp, andThen]
    simp only [ne_eq, not_true_eq_false, if_false, hz, if_true]
  · simp only [dzeroBody, hno, if_false]
    rw [show linePlace r n (encR 0x09 gd.toNat ga.toNat (0 : BitVec 5).toNat 0x00C) 1 (r.g n ga.toNat) = _ from hp, andThen]
    simp only [OfNat.zero_ne_ofNat, zero_ne_one, if_false, hz]

theorem timeResult : Claims.TimeResult := by
  intro s r t n gd ga gb h
  have hi : issue (s.tick t) n (encR 0x09 gd.toNat ga.toNat gb.toNat 4) (fun s => result s n gd.toNat (timeWord s.devTime)) = _ :=
    issue_of_ok h rfl
  exact congrArg Host.Outcome.next hi

/-- An instruction that waits is taken back: it acts on the state that its fetch has left. -/
theorem issue_of_wait {f : State} {body : Body} (hi : coreIssues s n = true) (hh : (s.scribe n).haltReq = false) (hc : coreInterrupt s n = none)
    (hf : fetch s n = (.ok (), f)) (hx : fetchHalts f n (f.scribe n).pc = false)
    (hb : body (coreCompare f n 0 (f.scribe n).pc 0) = (.wait, q)) : issue s n half body = (body f).2 := by
  simp only [issue, hi, hh, hc, hf, hx, hb, not_true_eq_false, if_false, false_and, Bool.false_eq_true]

theorem wfiBody_wait (hl : coreLevel r n ≠ 0) (hn : n < 32) (hc : icuClaimable r n = none) : wfiBody n r = (.wait, r.wr (F.DSK_SST n) 2) := by
  simp only [wfiBody, hl, hn, hc, if_true, if_false, Option.isSome_none, Bool.false_eq_true]

theorem waitForInterrupt : Claims.WaitForInterrupt := by
  intro s f n gd ga gb hn hi hh hc hf hx r hr hlr hlf hcr hcf
  subst hr
  refine congrArg Host.Outcome.next ((issue_of_wait hi hh hc hf hx (wfiBody_wait hlr hn hcr)).trans ?_)
  rw [wfiBody_wait hlf hn hcf]

theorem privilegedFaults : Claims.PrivilegedFaults := by
  intro s r n gd ga gb num h bad
  refine ⟨fun hn h0 => ⟨?_, ?_, fun h7 => ?_⟩, fun row hrow => ⟨fun h3 hl => ?_, fun h3 hl => ?_⟩, fun hn h1 h4 h7 => ?_, fun hn h1 hd => ?_, fun h2 hd => ?_⟩
  · exact exec_of_privileged h rfl (if_pos h0)
  · exact exec_of_privileged h rfl (if_pos h0)
  · have hno : ¬ (n = 32 ∨ 7 < num.toNat) := fun hc => hc.elim hn (Nat.not_lt.2 h7)
    exact exec_of_privileged h rfl ((if_neg hno).trans (if_pos h0))
  · exact exec_of_privileged h rfl (mfsrBody_privileged hrow h3 hl)
  · exact exec_of_privileged h rfl (mtsrBody_privileged hrow h3 hl)
  · have hno : ¬ (n = 32 ∨ 7 < num.toNat) := fun hc => hc.elim hn (Nat.not_lt.2 h7)
    have hl0 : ¬ coreLevel r n = 0 := by omega
    exact exec_of_privileged h rfl ((if_neg hno).trans ((if_neg hl0).trans (if_pos ⟨h1, h4⟩)))
  · obtain ⟨row, hrow, h3, hl⟩ := sregRow_status n
    rw [if_neg hn, ← h1] at hl
    exact exec_of_privileged h rfl ((mtsrBody_value hrow h3 hl).trans ((if_pos rfl).trans (if_pos ⟨h1, hd⟩)))
  · obtain ⟨row, hrow, h3, hl⟩ := sregRow_status n
    have hl' : row.wr ≤ coreLevel r n := by
      rw [h2]
      exact hl.trans (by split <;> omega)
    have h1 : ¬ (coreLevel r n = 1 ∧ 2 ≤ getField (r.g n ga.toNat) 0 2) := by omega
    exact ⟨_, exec_of_illegal h rfl ((mtsrBody_value hrow h3 hl').trans ((if_pos rfl).trans ((if_neg h1).trans (if_pos (.inl hd)))))⟩

/-- Settles O15: the system instructions by what their bodies answer. -/
theorem systemInstructions : Obligations.SystemInstructions := ⟨systemResult, timeResult, waitForInterrupt, privilegedFaults⟩

end Sys2Proof.Machine
end

section
/-! PROOFS. Calls, returns, and entries of exceptions (R403 to R419). -/

namespace Sys2Proof.Machine
open Sys2Proof

variable {s t u r q : State} {n : ℕ}

/-! ### SYSCALL, BRK and ERET -/

theorem systemCallAndBreak : Claims.SystemCallAndBreak := by
  intro s r n gd ga gb sub h
  refine ⟨?_, fun hoff => ?_, fun ha hb => ?_⟩
  · rw [Bool.decide_and]
    have hb : issue s n (encR 9 gd.toNat ga.toNat gb.toNat (sub.toNat * 16)) (fun s => (Res.bad
        { code := 8, num := sub.toNat, atH := decide (coreLevel s n = 1) && decide (getField (s.scribe n).hctl 0 1 = 1) }, s)) = _ :=
      issue_of_bad h rfl
    exact congrArg Host.Outcome.next hb
  · refine congrArg Host.Outcome.next ((issue_of_bad h (if_neg ?_)).trans rfl)
    rintro ⟨ha, hb⟩
    rcases hoff with hx | hx
    · exact absurd (hx.symm.trans ha) Bool.false_ne_true
    · exact absurd (hx.symm.trans hb) Bool.false_ne_true
  · exact exec_of_ok h rfl (if_pos ⟨ha, hb⟩)

theorem returnFromException : Claims.ReturnFromException := by
  intro s r u q n gd ga gb w0 w1 h half c esp lvl hc h0 h1
  have hbody : eretBody n half r =
      if n = 32 ∧ lvl ≠ 2 then illegal q
      else if lvl = 3 ∨ c < lvl ∨ (lvl = 2 ∧ getField (q.scribe n).hctl 0 1 = 0) then (.bad { code := 0x0A }, q)
      else
        let pc := getField w0 0 48 / 4 * 4
        let z := q.modScribe n (fun k => { k with sr := tset k.sr (espNum c) (esp + 64), resv := none })
        (.ok (some pc), tracePacket (setStatus z n w1) n 2 (pc + 3) none) := by
    refine (if_neg hc).trans ?_
    rw [show memLoad r (accOf r n 0 half) (sr r n (espNum (coreLevel r n))) 8 .clean = _ from h0, andThen]
    rw [show memLoad u (accOf r n 0 half) (sr r n (espNum (coreLevel r n)) + 8) 8 .clean = _ from h1, andThen]
  refine ⟨fun hm hle h3 hh => ?_, fun hn hbad => ?_⟩
  · have hmc : ¬ (n = 32 ∧ lvl ≠ 2) := fun hx => hx.2 (hm hx.1)
    have hok : ¬ (lvl = 3 ∨ c < lvl ∨ (lvl = 2 ∧ getField (q.scribe n).hctl 0 1 = 0)) := by
      rintro (hx | hx | ⟨hx, hy⟩)
      · exact h3 hx
      · exact absurd hle (Nat.not_le.2 hx)
      · exact absurd (hy.symm.trans (hh hx)) (by decide)
    exact exec_of_ok h rfl (hbody.trans ((if_neg hmc).trans (if_neg hok)))
  · have hmc : ¬ (n = 32 ∧ lvl ≠ 2) := fun hx => hn hx.1
    have hk : lvl = 3 ∨ c < lvl ∨ (lvl = 2 ∧ getField (q.scribe n).hctl 0 1 = 0) := hbad.elim .inl fun hx => .inr (.inl hx)
    exact congrArg Host.Outcome.next ((issue_of_bad h (hbody.trans ((if_neg hmc).trans (if_pos hk)))).trans rfl)

/-- Settles O17: SYSCALL and BRK by what their bodies answer; ERET by its two reads and its checks. -/
theorem callsAndReturns : Obligations.CallsAndReturns := ⟨systemCallAndBreak, returnFromException⟩

/-! ### A core changed, and nothing else of the cores and of memory -/

/-- A state whose core is a given one but for its predictors and its branch history; the other cores and memory are as before. -/
structure CoreIs (n : ℕ) (s t : State) (c : Scribe) : Prop where
  scribes : twf t.scribes = true
  bare : bare (t.scribe n) = bare c
  others : ∀ m, m ≠ n → t.scribe m = s.scribe m
  mem : t.mem = s.mem

namespace CoreIs

variable {c : Scribe}

theorem refl (h : twf s.scribes = true) : CoreIs n s s (s.scribe n) := ⟨h, rfl, fun _ _ => rfl, rfl⟩

theorem keeps (h : CoreIs n s t c) (k : KeepsG n t u) : CoreIs n s u c :=
  have ⟨hu, hb, hm⟩ := k.core h.scribes
  ⟨hu, hb.trans h.bare, fun m hne => (hm m hne).trans (h.others m hne), k.mem.trans h.mem⟩

theorem mod (h : CoreIs n s t c) (f : Scribe → Scribe) (hf : ∀ c, Machine.bare (f c) = Machine.bare (f (Machine.bare c))) :
    CoreIs n s (t.modScribe n f) (f c) :=
  ⟨twf_tset h.scribes _ _, by rw [scribe_modScribe_self h.scribes, hf, h.bare, ← hf],
    fun m hne => (scribe_modScribe_ne t (Ne.symm hne) f).trans (h.others m hne), h.mem⟩

end CoreIs

theorem KeepsG.flushPred (s : State) (n : ℕ) : KeepsG n s (flushPred s n) := by
  unfold Machine.flushPred
  extract_lets q
  have hq : KeepsG n s q := .modScribe s n _ fun _ => rfl
  split
  · exact hq.trans (.of_scribes rfl rfl)
  · exact hq

theorem KeepsG.showLevel (s : State) (n : ℕ) : KeepsG n s (showLevel s n) := by
  unfold Machine.showLevel
  split
  · exact .of_scribes rfl rfl
  · exact .refl n s

/-- STATUS takes a value; besides, only the predictors and the trace change. -/
theorem CoreIs.setStatus {c : Scribe} (h : CoreIs n s t c) (v : Word) : CoreIs n s (setStatus t n v) { c with status := v &&& 0x7F#72 } := by
  unfold Machine.setStatus
  extract_lets old new q z
  have hq : CoreIs n s q c := by
    refine h.keeps ?_
    unfold q
    split
    · exact (KeepsG.flushBrh t n).trans (.trace _ n _ _ _ _)
    · exact .refl n t
  have hz : CoreIs n s z { c with status := v &&& 0x7F#72 } := hq.mod _ fun _ => rfl
  refine CoreIs.keeps ?_ (.showLevel _ n)
  split
  · exact hz.keeps (.flushPred z n)
  · exact hz

theorem enteredCore (h : s.Inv) (n : ℕ) (e : Entry) (esp : Word) (hl : e.level = 1 ∨ e.level = 2) :
    CoreIs n s (entered s n e esp) { s.scribe n with
      sr := tset (s.scribe n).sr (espNum e.level) esp, resv := none, walk := none,
      status := BitVec.ofNat 72 (e.level + e.mask * 4) &&& 0x7F#72, pc := (getField (sr s n (vbNum e.level)) 0 48 + e.code * 0x40) % 2 ^ 48 } := by
  unfold entered
  extract_lets s1 s2 pc s3 s4
  have h1 : CoreIs n s s1 _ := (CoreIs.refl h.scribes).mod _ fun _ => rfl
  have h2 : CoreIs n s s2 _ := h1.setStatus _
  have hvb : sr s2 n (vbNum e.level) = sr s n (vbNum e.level) := by
    have hsr : (bare (s2.scribe n)).sr = tset (s.scribe n).sr (espNum e.level) esp := congrArg Scribe.sr h2.bare
    have hne : espNum e.level ≠ vbNum e.level := by rcases hl with hl | hl <;> rw [hl] <;> decide
    exact (congrArg (fun l => tget l (vbNum e.level)) hsr).trans (tget_tset_ne _ hne _)
  have hpc : pc = (getField (sr s n (vbNum e.level)) 0 48 + e.code * 0x40) % 2 ^ 48 := by rw [← hvb]
  rw [← hpc]
  have h3 : CoreIs n s s3 _ := h2.mod _ fun _ => rfl
  exact (h3.keeps (.tracePacket _ n _ _ _)).keeps (.tracePacket _ n _ _ _)

/-- STATUS as an entry writes it. -/
theorem entryStatus : ∀ l ∈ [1, 2], ∀ m < 16,
    getField (BitVec.ofNat 72 (l + m * 4) &&& 0x7F#72) 0 2 = l ∧ getField (BitVec.ofNat 72 (l + m * 4) &&& 0x7F#72) 2 4 = m ∧
      getField (BitVec.ofNat 72 (l + m * 4) &&& 0x7F#72) 6 1 = 0 := by decide

theorem exceptionEntryState : Claims.ExceptionEntryState := by
  intro s n e esp hs hl hmask t
  have ht := enteredCore hs n e esp hl
  have hsr : (bare (t.scribe n)).sr = tset (s.scribe n).sr (espNum e.level) esp := congrArg Scribe.sr ht.bare
  have hst : (bare (t.scribe n)).status = BitVec.ofNat 72 (e.level + e.mask * 4) &&& 0x7F#72 := congrArg Scribe.status ht.bare
  have hst' : (t.scribe n).status = BitVec.ofNat 72 (e.level + e.mask * 4) &&& 0x7F#72 := hst
  obtain ⟨hlevel, hmask', hbit⟩ := entryStatus e.level (by simpa using hl) e.mask hmask
  refine ⟨congrArg Scribe.pc ht.bare, ?_, ?_, ?_, ?_, congrArg Scribe.resv ht.bare, fun i => ?_, ht.others, ht.mem⟩
  · rw [scribeLevel, hst', hlevel]
  · rw [scribeMask, hst', hmask']
  · rw [hst', hbit]
  · exact (congrArg (fun l => tget l (espNum e.level)) hsr).trans (tget_tset_self (hs.scribe n).2 _ _)
  · have hg : (t.scribe n).g = (s.scribe n).g := (congrArg Scribe.g ht.bare :)
    exact congrArg (fun l => if i = 0 then 0 else tget l i) hg

/-- An entry whose stack has room and whose frame is written. -/
theorem enter_of_frame {k : ℕ} {e : Entry} (hroom : (sr s n (slimNum e.level)).toNat ≤
      if e.level = 2 ∧ e.mask = 15 then (sr s n (espNum e.level) - 64).toNat + 128 else (sr s n (espNum e.level) - 64).toNat)
    (hf : writeFrame s n e.level (sr s n (espNum e.level) - 64) (excFrame s n e) = (.ok (), q)) :
    enter (k + 1) s n e = (.ok (), entered q n e (sr s n (espNum e.level) - 64)) := by
  simp only [enter, hf, Bool.and_eq_true, decide_eq_true_eq, Nat.not_lt.2 hroom, if_false]

theorem exceptionTaken : Claims.ExceptionTaken := by
  intro s q n x hcode hmask level e esp hslim hframe
  have hcl : classLevel x.code ≤ 14 := by
    unfold classLevel
    split_ifs <;> omega
  have hentry : raiseExc s n x = enter 3 s n e := by
    refine (if_neg (Nat.not_le.2 hmask)).trans ?_
    rw [Nat.max_eq_right (Nat.le_of_lt hmask)]
  have hnot : ¬ (e.level = 2 ∧ e.mask = 15) := fun hc => absurd (show classLevel x.code = 15 from hc.2) (by omega)
  exact hentry.trans (enter_of_frame (by rw [if_neg hnot]; exact hslim) hframe)

theorem escalationAndLockup : Claims.EscalationAndLockup := by
  intro s n x hcl
  refine ⟨fun h15 hn => ?_, fun h15 hn => ?_, fun h15 q => ?_⟩
  · have hn' : n ≠ 32 := Nat.ne_of_lt hn
    exact (if_pos hcl).trans ((if_pos h15).trans (congrArg (Prod.mk (Res.ok ())) (if_neg hn')))
  · exact (if_pos hcl).trans ((if_pos h15).trans (congrArg (Prod.mk (Res.ok ())) (if_pos hn)))
  · intro e esp hslim _ hframe
    exact (if_pos hcl).trans ((if_neg h15).trans (enter_of_frame (e := e) (by rw [if_pos ⟨rfl, rfl⟩]; exact hslim) hframe))

/-- Settles O18: an entry changes one core and is traced; an exception is entered where its frame is written. -/
theorem exceptionEntries : Obligations.ExceptionEntries := ⟨exceptionEntryState, exceptionTaken, escalationAndLockup⟩

end Sys2Proof.Machine
end

section
/-! PROOFS. Accesses to register pages, voted fields and the windows of the inkwells (R28, R48 to R62). -/

namespace Sys2Proof.Machine
open Sys2Proof

variable {s u : State} {init vf page off size : ℕ} {value : Word}

/-! ### Accesses -/

theorem regAccess_size {value : Option Word} (hk : pageKind (deskWord page off) ≠ none)
    (ha : pageAdmits u init vf (deskWord page off) off value.isSome = true) (hs : size ≠ 8) (inspect : Bool) :
    regAccess u init vf page off size value inspect =
      (.fault 1, u.busErrFor (pageAddr (deskWord page off) off) 1 init value.isSome) := by
  simp only [regAccess, hk, ha, hs, not_true_eq_false, if_false, ne_eq, not_false_eq_true, if_true]

/-- An access of a whole word that meets no error. -/
theorem regAccess_word {value : Option Word} (hf : accessFault u init vf (deskWord page off) off value.isSome = none)
    (hk : pageKind (deskWord page off) ≠ none) (ha : pageAdmits u init vf (deskWord page off) off value.isSome = true) (inspect : Bool) :
    regAccess u init vf page off 8 value inspect =
      if ¬ alwaysOn (deskWord page off) off ∧ pageInReset u (deskWord page off) then (.stall, u)
      else match value with
        | some v => (.done 0, pageWrite u init (deskWord page off) off v)
        | none => let r := pageRead u init (deskWord page off) off inspect
          (.done r.1, r.2) := by
  simp only [regAccess, hk, ha, hf, ne_eq, not_true_eq_false, if_false] <;> rfl

theorem commandAccess_fault {value : Option Word} {c : ℕ} {q : State} (h : regAccess u init vf page off size value false = (.fault c, q)) :
    commandAccess u init vf page off size value = q := by
  simp only [commandAccess, h]

theorem commandAccess_done {value : Option Word} {w : Word} {q : State} (h : regAccess u init vf page off size value false = (.done w, q)) :
    commandAccess u init vf page off size value = q := by
  simp only [commandAccess, h]

theorem registerAccessResult : Claims.RegisterAccessResult := by
  intro s t init vf page off size id value u p hk haw har
  have fault {w : Option Word} (hw : wordFields p off ≠ none) (hon : alwaysOn p off = true ∨ pagePowered u p = true)
      (ha : pageAdmits u init vf p off w.isSome = true) : accessFault u init vf p off w.isSome = none := by
    simp only [accessFault, hk, ha, hw, not_true_eq_false, if_false]
    exact if_neg fun hc => hon.elim hc.1 hc.2
  refine ⟨fun hs => ⟨?_, ?_⟩, fun hw hon => ?_, fun hw hon hp hr => ?_, fun a ha hi ht => ?_, fun a ha hi ht => ?_, fun a ha hi hr ho => ?_⟩
  · exact congrArg Host.Outcome.next (commandAccess_fault (regAccess_size (value := some value) hk haw hs false))
  · exact congrArg Host.Outcome.next (commandAccess_fault (regAccess_size (value := none) hk har hs false))
  · have hgo : ¬ (¬ alwaysOn p off = true ∧ pageInReset u p = true) := fun hc => hc.1 hon
    have hwrite : commandAccess u init vf page off 8 (some value) = pageWrite u init p off value :=
      commandAccess_done ((regAccess_word (value := some value) (fault hw (.inl hon) haw) hk haw false).trans (if_neg hgo))
    have hread : commandAccess u init vf page off 8 none = (pageRead u init p off false).2 :=
      commandAccess_done ((regAccess_word (value := none) (fault hw (.inl hon) har) hk har false).trans (if_neg hgo))
    exact ⟨congrArg Host.Outcome.next hwrite, fun hvf => congrArg Host.Outcome.next (hvf ▸ hwrite), congrArg Host.Outcome.next hread⟩
  · have hstall : regAccess u init vf page off 8 (some value) false = (.stall, u) :=
      (regAccess_word (value := some value) (fault hw (.inr hp) haw) hk haw false).trans (if_pos ⟨hon ▸ Bool.false_ne_true, hr⟩)
    refine congrArg Host.Outcome.next ?_
    show commandAccess u init vf page off 8 (some value) = _
    simp only [commandAccess, hstall]
    rfl
  · refine congrArg Host.Outcome.next ?_
    simp only [show (s.tick t).stalledAt id = some a from ha]
    exact if_pos ht
  · refine congrArg Host.Outcome.next ?_
    simp only [show (s.tick t).stalledAt id = some a from ha]
    exact (if_neg (Nat.not_lt.2 ht)).trans (if_pos (hi ▸ Bool.false_ne_true))
  · have hold : u.stalled.any (fun b => decide (b.id < a.id) && b.init == a.init && b.page == a.page) = false := by
      refine List.any_eq_false.2 fun b hb hc => ?_
      simp only [Bool.and_eq_true, decide_eq_true_eq, beq_iff_eq] at hc
      exact ho b hb hc.1.1 hc.1.2 hc.2
    refine congrArg Host.Outcome.next ?_
    simp only [show (s.tick t).stalledAt id = some a from ha]
    exact if_neg (by rw [hi, show (s.tick t).stalled.any _ = false from hold, show pageInReset (s.tick t) a.page = false from hr]; decide)

/-! ### Voted fields -/

/-- A field written with what it holds. -/
theorem putField_getField (w : Word) (lo len : ℕ) : putField w lo len (getField w lo len) = w := by
  refine BitVec.eq_of_getLsbD_eq fun i hi => ?_
  rw [putField, BitVec.getLsbD_or, BitVec.getLsbD_and, BitVec.getLsbD_not, BitVec.getLsbD_ofNat, BitVec.getLsbD_ofNat,
    Nat.testBit_shiftLeft, Nat.testBit_shiftLeft, Nat.testBit_two_pow_sub_one, Nat.mod_eq_of_lt (getField_lt w lo len), testBit_getField]
  by_cases h : lo ≤ i
  · by_cases h' : i - lo < len
    · simp [hi, h, h', Nat.add_sub_cancel' h, BitVec.testBit_toNat]
    · simp [hi, h, h']
  · simp [hi, h]

/-- A vote in which two copies are right keeps a field. -/
theorem voteField_right {page word : ℕ} {c0 c1 c2 v : Word} (f : FieldDesc) (h : c0 = v ∧ c1 = v ∨ c0 = v ∧ c2 = v ∨ c1 = v ∧ c2 = v) :
    voteField s page word c0 c1 c2 f (v, false) = (v, false) := by
  have hv := putField_getField v f.lo f.len
  unfold voteField
  rcases h with ⟨h0, h1⟩ | ⟨h0, h1⟩ | ⟨h0, h1⟩
  all_goals rw [h0, h1]
  · simp [hv]
  · simp [hv]
  · by_cases ha : getField c0 f.lo f.len = getField v f.lo f.len
    · simp [ha, hv]
    · simp [ha, hv]

theorem voteFields_right {page word : ℕ} {c0 c1 c2 v : Word} (l : List FieldDesc) (h : c0 = v ∧ c1 = v ∨ c0 = v ∧ c2 = v ∨ c1 = v ∧ c2 = v) :
    l.foldl (fun r f => voteField s page word c0 c1 c2 f r) (v, false) = (v, false) :=
  foldl_keeps (P := fun r => r = (v, false)) rfl fun _ f hr => (congrArg _ hr).trans (voteField_right f h)

theorem xor_eq_self {v x : Word} : v ^^^ x = v ↔ x = 0 := by
  constructor
  · intro h
    have hx := congrArg (v ^^^ ·) h
    simpa [← BitVec.xor_assoc] using hx
  · rintro rfl
    simp

/-- One visit to a word one copy of which is wrong. -/
theorem voteScrub_one {t page word : ℕ} {a b c up : Word} {l : List FieldDesc} (hl : wordFields page word = some l) (h2 : 2 ≤ word)
    (hup : up &&& fieldMask l (fun f => f.voted) ≠ 0) (h : a = up ∧ b = 0 ∧ c = 0 ∨ a = 0 ∧ b = up ∧ c = 0 ∨ a = 0 ∧ b = 0 ∧ c = up) :
    exec (.voteScrub t page word a b c false) s = .next (((s.tick t).bump (F.HDR_TCNT page)).wr (F.HDR_TOFS page) word) := by
  refine congrArg Host.Outcome.next ?_
  simp only [hl]
  generalize (s.tick t).word (viewAddr (s.tick t) page word) = v
  generalize fieldMask l (fun f => f.voted) = m at hup
  have hne : v ^^^ (up &&& m) ≠ v := fun he => hup (xor_eq_self.1 he)
  have hz : v ^^^ (0 &&& m) = v := by simp
  rw [if_neg, voteFields_right l]
  · simp
  · rcases h with ⟨rfl, rfl, rfl⟩ | ⟨rfl, rfl, rfl⟩ | ⟨rfl, rfl, rfl⟩
    · exact .inr (.inr ⟨hz, hz⟩)
    · exact .inr (.inl ⟨hz, hz⟩)
    · exact .inl ⟨hz, hz⟩
  · rintro (hc | hc | ⟨hc, hc'⟩)
    · exact Bool.false_ne_true hc
    · omega
    · rcases h with ⟨rfl, rfl, rfl⟩ | ⟨rfl, rfl, rfl⟩ | ⟨rfl, rfl, rfl⟩
      · exact hne (hc.trans hz)
      · exact hne (hc.symm.trans hz)
      · exact hne (hc'.symm.trans hz)

theorem voteScrubResult : Claims.VoteScrubResult := by
  intro s t page word up l hl h2 u m
  refine ⟨fun written => ?_, fun a b c => ?_, fun hup => ?_⟩
  · refine congrArg Host.Outcome.next ?_
    simp only [hl, and_self, or_true, if_true]
    rfl
  · refine congrArg Host.Outcome.next ?_
    simp only [hl, true_or, if_true]
    rfl
  · simp only [List.forall_mem_cons, List.not_mem_nil, false_imp_iff, implies_true, and_true]
    exact ⟨voteScrub_one hl h2 hup (.inl ⟨rfl, rfl, rfl⟩), voteScrub_one hl h2 hup (.inr (.inl ⟨rfl, rfl, rfl⟩)),
      voteScrub_one hl h2 hup (.inr (.inr ⟨rfl, rfl, rfl⟩))⟩

/-! ### The windows of the inkwells -/

theorem regionOf_inkwell {f a : ℕ} (hf : f < 64) (ha : a < 2 ^ 18) : regionOf (0xF0000000000 + f * 0x200000 + a * 8) = .inkwell f a := by
  have h1 : ¬ 0xF0000000000 + f * 0x200000 + a * 8 < 0x80000000000 := by omega
  have h2 : 0xF0000000000 ≤ 0xF0000000000 + f * 0x200000 + a * 8 ∧ 0xF0000000000 + f * 0x200000 + a * 8 < 0xF0008000000 := by omega
  have h3 : (0xF0000000000 + f * 0x200000 + a * 8 - 0xF0000000000) / 0x200000 = f := by omega
  have h4 : (0xF0000000000 + f * 0x200000 + a * 8 - 0xF0000000000) % 0x200000 / 8 = a := by omega
  rw [regionOf, if_neg h1, if_pos h2, h3, h4]

theorem physWrite_inkwell {addr f a : ℕ} (hr : regionOf addr = .inkwell f a) (h : regionFault u init (.inkwell f a) true = none) (vf : ℕ) (v : Word) :
    (physWrite u init vf addr 8 v allOnes).2 = u.setInk f a v := by
  have hm : (u.ink f a &&& ~~~allOnes) ||| (v &&& allOnes) = v := by
    rw [show allOnes = BitVec.allOnes 72 from rfl, BitVec.not_allOnes, BitVec.and_zero, BitVec.zero_or, BitVec.and_allOnes]
  simp only [physWrite, hr, h, hm]

theorem physRead_inkwell {addr f a : ℕ} (hr : regionOf addr = .inkwell f a) (h : regionFault u init (.inkwell f a) false = none) (vf : ℕ) (ecc : Ecc) :
    physRead u init vf addr 8 false ecc = inkRead u f a ecc := by
  simp only [physRead, hr, h]

theorem inkwellWindowResult : Claims.InkwellWindowResult := by
  intro s t init f a value hf ha u
  have hin : f < 64 ∧ a < 2 ^ 18 := ⟨hf, ha⟩
  have read (h : regionFault u init (.inkwell f a) false = none) (ecc : Ecc) :
      exec (.inkwellWindowRead t init f a ecc) s = .next (inkRead u f a ecc).2 :=
    congrArg Host.Outcome.next ((if_pos hin).trans (congrArg Prod.snd (physRead_inkwell (regionOf_inkwell hf ha) h 0 ecc)))
  refine ⟨fun h => ?_, fun h => ⟨read h .clean, read h .corrected, read h .uncorrectable⟩⟩
  exact congrArg Host.Outcome.next ((if_pos hin).trans (physWrite_inkwell (regionOf_inkwell hf ha) h 0 value))

/-- Settles O23: an access by its first fault, a vote by the copies that are right, and a window by its region. -/
theorem registerAccess : Obligations.RegisterAccess := ⟨registerAccessResult, voteScrubResult, inkwellWindowResult⟩

end Sys2Proof.Machine
end

section
/-! PROOFS. The records of errors, of ignored writes and of completed commands (R54, R59, R68, R72, R73). -/

namespace Sys2Proof.Machine
open Sys2Proof

variable {s : State}

/-- Of several fields of one word written in turn, whose bits lie apart, each reads the value written to it. -/
theorem rd_wrs {l : List (Fld × ℕ)} (h : twf s.regs = true) (hin : ∀ e ∈ l, FldIn e.1) (ha : l.Pairwise fun a b => FldApart b.1 a.1)
    {f : Fld} {v : ℕ} (hf : (f, v) ∈ l) (hv : v < 2 ^ f.len) : Reads (s.wrs l) f v := by
  have hr := reads_wrs h hin ha (f, v) hf
  rwa [Nat.mod_eq_of_lt hv] at hr

theorem Reads.bump {f g : Fld} {v : ℕ} (h : Reads s f v) (hg : FldIn g) (ha : FldApart g f) : Reads (s.bump g) f v := h.wr hg ha _

/-! ### Bus errors -/

/-- What the first bus error writes (R54). -/
def busErrWrites (addr code init : ℕ) (write : Bool) : List (Fld × ℕ) :=
  [(F.DEV_BADDR, addr), (F.DEV_BCODE, code), (F.DEV_BINIT, init), (F.DEV_BWR, b2n write)]

theorem busErr_first {addr code init : ℕ} {write : Bool} (h : s.rd F.DEV_BCODE = 0) :
    s.busErr addr code init write = (s.wrs (busErrWrites addr code init write)).bump F.DEV_BCNT := by
  simp only [State.busErr, h, if_true]
  rfl

theorem busErr_later {addr code init : ℕ} {write : Bool} (h : s.rd F.DEV_BCODE ≠ 0) : s.busErr addr code init write = s.bump F.DEV_BCNT := by
  simp only [State.busErr, h, if_false]

theorem busErrorCapture : Claims.BusErrorCapture := by
  intro s addr code init write hs haddr h0 hcode hinit t
  have hr := hs.regs
  refine ⟨fun hz => ?_, fun hz => ?_, ?_⟩
  · have ht : t = _ := busErr_first hz
    have reads {f : Fld} {v : ℕ} (hf : (f, v) ∈ busErrWrites addr code init write) (hv : v < 2 ^ f.len) (ha : FldApart F.DEV_BCNT f) : t.rd f = v := by
      rw [ht]
      exact ((rd_wrs hr (by simp only [busErrWrites, List.forall_mem_cons, List.not_mem_nil, false_imp_iff, implies_true, and_true]; decide)
        (by simp only [busErrWrites, List.pairwise_cons, List.forall_mem_cons, List.not_mem_nil, false_imp_iff, implies_true, and_true, List.Pairwise.nil]; decide)
        hf hv).bump (by decide) ha).val
    have hw : t.rd F.DEV_BWR = b2n write := reads (by simp [busErrWrites]) (by cases write <;> decide) (by decide)
    refine ⟨reads (by simp [busErrWrites]) hcode (by decide), reads (by simp [busErrWrites]) haddr (by decide),
      reads (by simp [busErrWrites]) hinit (by decide), ?_⟩
    rw [State.isSet, hw]
    cases write <;> rfl
  · have ht : t = _ := busErr_later hz
    rw [ht]
    exact ⟨rd_bump_apart hr (by decide) (by decide), rd_bump_apart hr (by decide) (by decide), rd_bump_apart hr (by decide) (by decide),
      rd_bump_apart hr (by decide) (by decide)⟩
  · by_cases hz : s.rd F.DEV_BCODE = 0
    · have ht : t = _ := busErr_first hz
      have hw : Reads (s.wrs (busErrWrites addr code init write)) F.DEV_BCNT (s.rd F.DEV_BCNT) :=
        Reads.wrs ⟨hr, rfl⟩ (by simp only [busErrWrites, List.forall_mem_cons, List.not_mem_nil, false_imp_iff, implies_true, and_true]; decide)
          (by simp only [busErrWrites, List.forall_mem_cons, List.not_mem_nil, false_imp_iff, implies_true, and_true]; decide)
      rw [ht, rd_bump hw.regs (by decide), hw.val]
    · have ht : t = _ := busErr_later hz
      rw [ht, rd_bump hr (by decide)]

/-! ### The error record and the ignored-write record of a page -/

/-- What the first error of a page writes (R59). -/
def pageErrWrites (page code ofs info : ℕ) : List (Fld × ℕ) :=
  [(F.HDR_ECODE page, code), (F.HDR_EOFS page, ofs), (F.HDR_EINFO page, info)]

theorem pageErr_first {page code ofs info : ℕ} (h : s.rd (F.HDR_ECODE page) = 0) :
    s.pageErr page code ofs info = (s.wrs (pageErrWrites page code ofs info)).bump (F.HDR_ECNT page) := by
  simp only [State.pageErr, h, if_true]
  rfl

theorem pageErr_later {page code ofs info : ℕ} (h : s.rd (F.HDR_ECODE page) ≠ 0) :
    s.pageErr page code ofs info = s.bump (F.HDR_ECNT page) := by
  simp only [State.pageErr, h, if_false]

theorem pageErrWrites_in (page code ofs info : ℕ) : ∀ e ∈ pageErrWrites page code ofs info, FldIn e.1 := by
  simp [pageErrWrites, F.HDR_ECODE, F.HDR_EOFS, F.HDR_EINFO]

theorem pageErrWrites_apart (page code ofs info : ℕ) : (pageErrWrites page code ofs info).Pairwise fun a b => FldApart b.1 a.1 := by
  simp [pageErrWrites, FldApart, F.HDR_ECODE, F.HDR_EOFS, F.HDR_EINFO]

theorem pageErr_count (h : twf s.regs = true) (page code ofs info : ℕ) :
    (s.pageErr page code ofs info).rd (F.HDR_ECNT page) = min (s.rd (F.HDR_ECNT page) + 1) (2 ^ (F.HDR_ECNT page).len - 1) := by
  by_cases hz : s.rd (F.HDR_ECODE page) = 0
  · have hw : Reads (s.wrs (pageErrWrites page code ofs info)) (F.HDR_ECNT page) (s.rd (F.HDR_ECNT page)) :=
      Reads.wrs ⟨h, rfl⟩ (pageErrWrites_in _ _ _ _) (by simp [pageErrWrites, FldApart, F.HDR_ECODE, F.HDR_EOFS, F.HDR_EINFO, F.HDR_ECNT])
    rw [pageErr_first hz, rd_bump hw.regs (by simp [F.HDR_ECNT]), hw.val]
  · rw [pageErr_later hz, rd_bump h (by simp [F.HDR_ECNT])]

theorem pageRecords : Claims.PageRecords := by
  intro s page a b c hs hp h0 ha hb hc t u
  have hr := hs.regs
  have hcnt : FldIn (F.HDR_ECNT page) := by simp [F.HDR_ECNT]
  have hu : u = ((s.bump (F.HDR_IGNCNT page)).wr (F.HDR_IGNOFS page) b).wr (F.HDR_IGNRSN page) a := rfl
  have hbump : twf (s.bump (F.HDR_IGNCNT page)).regs = true := twf_bump hr _
  refine ⟨fun hz => ?_, fun hz => ?_, pageErr_count hr _ _ _ _, ?_, fun _ => ?_, ?_⟩
  · have ht : t = _ := pageErr_first hz
    have reads {f : Fld} {v : ℕ} (hf : (f, v) ∈ pageErrWrites page a b c) (hv : v < 2 ^ f.len) (ha : FldApart (F.HDR_ECNT page) f) : t.rd f = v := by
      rw [ht]
      exact ((rd_wrs hr (pageErrWrites_in _ _ _ _) (pageErrWrites_apart _ _ _ _) hf hv).bump hcnt ha).val
    exact ⟨reads (by simp [pageErrWrites]) ha (by simp [FldApart, F.HDR_ECNT, F.HDR_ECODE]),
      reads (by simp [pageErrWrites]) hb (by simp [FldApart, F.HDR_ECNT, F.HDR_EOFS]),
      reads (by simp [pageErrWrites]) hc (by simp [FldApart, F.HDR_ECNT, F.HDR_EINFO])⟩
  · have ht : t = _ := pageErr_later hz
    rw [ht]
    exact ⟨rd_bump_apart hr hcnt (by simp [FldApart, F.HDR_ECNT, F.HDR_ECODE]), rd_bump_apart hr hcnt (by simp [FldApart, F.HDR_ECNT, F.HDR_EOFS]),
      rd_bump_apart hr hcnt (by simp [FldApart, F.HDR_ECNT, F.HDR_EINFO])⟩
  · have hofs := (reads_wr_self (f := F.HDR_IGNOFS page) hbump (by simp [F.HDR_IGNOFS]) b).wr (g := F.HDR_IGNRSN page) (by simp [F.HDR_IGNRSN])
      (by simp [FldApart, F.HDR_IGNOFS, F.HDR_IGNRSN]) a
    rw [hu, hofs.val, Nat.mod_eq_of_lt (hb.trans (by simp [F.HDR_IGNOFS]))]
  · rw [hu, rd_wr_self (twf_wr hbump _ _) (by simp [F.HDR_IGNRSN])]
    exact Nat.mod_eq_of_lt ha
  · rw [hu, rd_wr_apart (twf_wr hbump _ _) (by simp [F.HDR_IGNRSN]) (by simp [FldApart, F.HDR_IGNRSN, F.HDR_IGNCNT]),
      rd_wr_apart hbump (by simp [F.HDR_IGNOFS]) (by simp [FldApart, F.HDR_IGNOFS, F.HDR_IGNCNT]), rd_bump hr (by simp [F.HDR_IGNCNT])]

/-! ### Completed commands -/

/-- What the completion of a command writes (R68). -/
def completeWrites (page status reason h : ℕ) : List (Fld × ℕ) :=
  [(F.DBL_STATUS page, status), (F.DBL_REASON page, reason), (F.DBL_RHANDLE page, h), (F.DBL_STATE page, 2)]

theorem complete_eq (s : State) (page status reason h : ℕ) : s.complete page status reason h = s.wrs (completeWrites page status reason h) := rfl

theorem completeWrites_in (page status reason h : ℕ) : ∀ e ∈ completeWrites page status reason h, FldIn e.1 := by
  simp [completeWrites, F.DBL_STATUS, F.DBL_REASON, F.DBL_RHANDLE, F.DBL_STATE]

theorem completeWrites_apart (page status reason h : ℕ) : (completeWrites page status reason h).Pairwise fun a b => FldApart b.1 a.1 := by
  simp [completeWrites, FldApart, F.DBL_STATUS, F.DBL_REASON, F.DBL_RHANDLE, F.DBL_STATE]

theorem doorbellCompletion : Claims.DoorbellCompletion := by
  intro s page status reason h hs hst hre hh q
  have reads {f : Fld} {v : ℕ} (hf : (f, v) ∈ completeWrites page status reason h) (hv : v < 2 ^ f.len) : q.rd f = v :=
    (rd_wrs hs.regs (completeWrites_in _ _ _ _) (completeWrites_apart _ _ _ _) hf hv).val
  refine ⟨reads (by simp [completeWrites]) hst, reads (by simp [completeWrites]) hre, reads (by simp [completeWrites]) hh,
    reads (by simp [completeWrites]) (by simp [F.DBL_STATE]), ?_⟩
  exact (Reads.wrs ⟨hs.regs, rfl⟩ (completeWrites_in page status reason h)
    (by simp [completeWrites, FldApart, F.DBL_STATUS, F.DBL_REASON, F.DBL_RHANDLE, F.DBL_STATE, F.HDR_SEQ])).val

/-- Settles O24: each record is a list of writes of fields that lie apart, and a count. -/
theorem errorAndCommandRecords : Obligations.ErrorAndCommandRecords := ⟨busErrorCapture, pageRecords, doorbellCompletion⟩

end Sys2Proof.Machine
end

section
/-! PROOFS. A doorbell write during a command or out of sequence (R66, R67). -/

namespace Sys2Proof.Machine
open Sys2Proof

variable {s : State} {page seq opc handle : ℕ}

/-- A function of doorbell writes that does nothing more where the doorbell does not take the write. -/
def Rejects (f : State → State) (page seq opc handle : ℕ) : Prop :=
  ∀ u q, (∀ late, u.doorbell page seq opc handle late = (q, false)) → f u = q

/-- The two checks of a doorbell write that come before its handle. -/
theorem Rejects.checks {f : State → State} (h : Rejects f page seq opc handle) (u : State) :
    (u.rd (F.DBL_STATE page) = 1 → f u = (rung u page seq opc handle).ignored page 8 1) ∧
      (u.rd (F.DBL_STATE page) ≠ 1 → seq % 256 ≠ u.rd (F.HDR_SEQ page) → f u = (rung u page seq opc handle).ignored page 8 2) :=
  ⟨fun hb => h _ _ (doorbell_of_busy hb seq opc handle), fun hb hs => h _ _ (doorbell_of_seq hb hs opc handle)⟩

/-- A command of a doorbell page whose access goes through. -/
theorem exec_rejects {f : State → State} {i : Instr} {t init : ℕ} (hi : exec i s = .next ((s.tick t).gatedCmd init page seq opc handle f))
    (h : Rejects f page seq opc handle) (hp : Passes (s.tick t) init page 8 true) :
    ((s.tick t).rd (F.DBL_STATE page) = 1 → exec i s = .next ((rung (s.tick t) page seq opc handle).ignored page 8 1)) ∧
      ((s.tick t).rd (F.DBL_STATE page) ≠ 1 → seq % 256 ≠ (s.tick t).rd (F.HDR_SEQ page) →
        exec i s = .next ((rung (s.tick t) page seq opc handle).ignored page 8 2)) := by
  rw [hi, gatedCmd_of_passes hp]
  exact ⟨fun hb => congrArg Host.Outcome.next ((h.checks _).1 hb), fun hb hs => congrArg Host.Outcome.next ((h.checks _).2 hb hs)⟩

theorem exec_rejects_open {f : State → State} {i : Instr} {t : ℕ} (hi : exec i s = .next (f (s.tick t))) (h : Rejects f page seq opc handle) :
    ((s.tick t).rd (F.DBL_STATE page) = 1 → exec i s = .next ((rung (s.tick t) page seq opc handle).ignored page 8 1)) ∧
      ((s.tick t).rd (F.DBL_STATE page) ≠ 1 → seq % 256 ≠ (s.tick t).rd (F.HDR_SEQ page) →
        exec i s = .next ((rung (s.tick t) page seq opc handle).ignored page 8 2)) := by
  rw [hi]
  exact ⟨fun hb => congrArg Host.Outcome.next ((h.checks _).1 hb), fun hb hs => congrArg Host.Outcome.next ((h.checks _).2 hb hs)⟩

theorem rejects_subCreate (init f seq h : ℕ) : Rejects (fun s => subCreate s init f seq h) (subPage f) seq 1 h := fun u q hq => by
  simp only [subCreate, hq]

theorem rejects_subDestroy (init f seq h : ℕ) : Rejects (fun s => subDestroy s init f seq h) (subPage f) seq 2 h := fun u q hq => by
  simp only [subDestroy, hq]

theorem rejects_subSetpol (init f seq h : ℕ) : Rejects (fun s => subSetpol s init f seq h) (subPage f) seq 3 h := fun u q hq => by
  simp only [subSetpol, hq]

theorem rejects_pubCreate (init f seq h : ℕ) : Rejects (fun s => pubCreate s init f seq h) (pubPage f) seq 1 h := fun u q hq => by
  simp only [pubCreate, hq]

theorem rejects_pubDestroy (init f seq h : ℕ) : Rejects (fun s => pubDestroy s init f seq h) (pubPage f) seq 2 h := fun u q hq => by
  simp only [pubDestroy, hq]

theorem rejects_rulDoorbell (init seq opc h : ℕ) : Rejects (fun s => rulDoorbell s init seq opc h) 4 seq opc h := fun u q hq => by
  simp only [rulDoorbell, hq]

theorem rejects_hostBell (page seq opc : ℕ) (allowed : Bool) (f : State → State) :
    Rejects (fun s => s.hostBell page seq opc allowed f) page seq opc 0 := fun u q hq => by
  simp only [State.hostBell, hq]

theorem rejects_dmaBell (init seq opc h : ℕ) : Rejects (fun s => dmaBell s init seq opc h) 0x270 seq opc h := fun u q hq => by
  simp only [dmaBell, hq]

theorem rejects_tenBell (init seq opc h : ℕ) : Rejects (fun s => tenBell s init seq opc h) 0x2D0 seq opc h := fun u q hq => by
  simp only [tenBell, hq]

theorem rejects_dmcBell (init c seq opc : ℕ) : Rejects (fun s => dmcBell s init c seq opc) (dmcPage c) seq opc 0 := rejects_hostBell _ _ _ _ _

theorem rejects_pwrBell (init seq opc : ℕ) : Rejects (fun s => pwrBell s init seq opc) 0x2A0 seq opc 0 := fun u q hq => by
  simp only [pwrBell, State.hostBell, hq]

theorem rejects_bstBell (init seq opc : ℕ) (f : State → State) : Rejects (fun s => bstBell s init seq opc f) 0x2B0 seq opc 0 :=
  rejects_hostBell _ _ _ _ _

/-- Settles O25: every function of doorbell writes leaves what the doorbell has done where it does not take the write. -/
theorem doorbellChecks : Obligations.DoorbellChecks := by
  intro s t init f ch seq h hf hch
  simp only [List.forall_mem_cons, List.not_mem_nil, false_imp_iff, implies_true, and_true]
  have rul (opc : ℕ) := rejects_rulDoorbell init seq opc h
  have dmc (opc : ℕ) := rejects_dmcBell init ch seq opc
  have dma (opc : ℕ) := rejects_dmaBell init seq opc h
  have ten (opc h : ℕ) := rejects_tenBell init seq opc h
  have pwr (opc : ℕ) := rejects_pwrBell init seq opc
  exact ⟨exec_rejects rfl (rejects_subCreate init f seq h), exec_rejects rfl (rejects_subDestroy init f seq h),
    exec_rejects rfl (rejects_subSetpol init f seq h), exec_rejects rfl (rejects_pubCreate init f seq h),
    exec_rejects rfl (rejects_pubDestroy init f seq h),
    fun _ => exec_rejects_open rfl (rul 1), fun _ => exec_rejects_open rfl (rul 2), fun _ => exec_rejects_open rfl (rul 3),
    fun _ => exec_rejects_open rfl (rul 4), fun _ => exec_rejects_open rfl (rul 5), fun _ => exec_rejects_open rfl (rul 6),
    exec_rejects rfl (dmc 1), exec_rejects rfl (dmc 2), exec_rejects rfl (dmc 3), exec_rejects rfl (dmc 4),
    exec_rejects rfl (dma 1), exec_rejects rfl (dma 2), exec_rejects rfl (dma 3), exec_rejects rfl (dma 4),
    exec_rejects rfl (ten 1 0), exec_rejects rfl (ten 2 0), exec_rejects rfl (ten 3 h), exec_rejects rfl (ten 4 0), exec_rejects rfl (ten 5 0),
    exec_rejects rfl (ten 6 0), exec_rejects rfl (ten 7 0), exec_rejects rfl (ten 8 0),
    exec_rejects rfl (pwr 1), exec_rejects rfl (pwr 2), exec_rejects rfl (pwr 3), exec_rejects rfl (pwr 4), exec_rejects rfl (pwr 5),
    exec_rejects rfl (pwr 6), exec_rejects rfl (pwr 7),
    exec_rejects rfl (rejects_bstBell init seq 1 _), exec_rejects rfl (rejects_bstBell init seq 2 _), exec_rejects rfl (rejects_bstBell init seq 3 _)⟩

end Sys2Proof.Machine
end

section
/-! PROOFS. Proposals: how they open, are sealed, countersigned and aborted, and end (R65, R75 to R87). -/

namespace Sys2Proof.Machine
open Sys2Proof

variable {s u : State}

/-- A page that has fields is a page. -/
theorem pageKind_of_fields {page off : ℕ} (h : wordFields page off ≠ none) : pageKind page ≠ none := by
  intro hk
  refine h ?_
  unfold wordFields
  split
  · rw [hk]; rfl
  · rw [show pageRows page = [] by rw [pageRows, hk]]
    rfl

theorem proposalOpens : Claims.ProposalOpens := by
  intro s t init page off value u p hd hw hon hadm hcs hcst hmay
  have hpage : pageKind (deskWord page off) ≠ none := by rw [hd]; exact pageKind_of_fields hw
  have hfault : accessFault u init 0 (deskWord page off) off (some value).isSome = none := by
    have hk := pageKind_of_fields hw
    simp only [hd, accessFault, hk, Option.isSome_some, hadm, hw, hon, not_true_eq_false, false_and, if_false]
  have hacc := regAccess_word (value := some value) hfault hpage (by rw [hd]; exact hadm) false
  rw [hd, if_neg (fun hc => hc.1 hon)] at hacc
  refine congrArg Host.Outcome.next ((commandAccess_done hacc).trans ((if_pos hcs).trans ?_))
  have hp : party u init ≠ 0 := by
    have hm : mayPropose u (party u init) = true := hmay
    simp only [mayPropose, Bool.and_eq_true, decide_eq_true_eq] at hm
    exact hm.1
  have hne : ¬ (u.rd F.CSN_CST = 2 ∨ u.rd F.CSN_CST = 3) := by omega
  exact (if_neg hne).trans ((if_neg hp).trans ((if_pos hcst).trans (if_pos hmay)))

theorem csnExpire_open (h : u.rd F.CSN_CST ≠ 2 ∨ u.devTime < u.csn.windowAt + 2000000000) : csnExpire u = u :=
  if_neg fun hc => h.elim (fun h => h hc.1) fun h => absurd hc.2 (Nat.not_le.2 h)

theorem countersignResult : Claims.CountersignResult := by
  intro s t init digest u sl sg p
  refine ⟨fun h1 hp hd => ?_, fun h1 hp hd => ?_, fun hbad => ?_, fun h2 hwin => ?_, fun hst hp => ?_, fun h1 h2 => ?_⟩
  · exact congrArg Host.Outcome.next ((if_pos ⟨h1, hp⟩).trans (if_pos hd))
  · exact congrArg Host.Outcome.next ((if_pos ⟨h1, hp⟩).trans (if_neg hd))
  · exact congrArg Host.Outcome.next (if_neg fun hc => hbad.elim (fun h => h hc.1) fun h => h hc.2)
  · have hexec : exec (.csnSign t init digest) s = .next (csnSignWrite u init digest) :=
      congrArg (fun q => Host.Outcome.next (csnSignWrite q init digest)) (csnExpire_open (.inr hwin))
    rw [hexec]
    have hlate : ¬ sg.csn.windowAt + 2000000000 ≤ sg.devTime := Nat.not_le.2 hwin
    refine ⟨fun hm => congrArg Host.Outcome.next (if_pos hm), fun hm hc hd => congrArg Host.Outcome.next ?_,
      fun hm hc hd => congrArg Host.Outcome.next ?_⟩
    all_goals
      have hm' : ¬ maySign sg p = false := by rw [hm]; exact Bool.noConfusion
      have h0 : ¬ (sg.rd F.CSN_CST = 0 ∧ sg.csn.expired = true) := by omega
      have hc' : ¬ sg.rd F.CSN_CST ≠ 2 := not_not.2 hc
      refine (if_neg hm').trans ((if_neg h0).trans ((if_neg hc').trans ?_))
    · exact if_pos hd
    · exact (if_neg (not_not.2 hd)).trans (if_neg hlate)
  · have hopen : csnExpire u = u := csnExpire_open (hst.elim (fun h => .inl (by omega)) fun h => .inr h.2)
    have hcst : u.rd F.CSN_CST = 1 ∨ u.rd F.CSN_CST = 2 := hst.elim .inl fun h => .inr h.1
    exact congrArg Host.Outcome.next ((congrArg (csnAbortWrite · init) hopen).trans (if_pos ⟨hcst, hp⟩))
  · have hopen : csnExpire u = u := csnExpire_open (.inl h2)
    exact congrArg Host.Outcome.next ((congrArg (csnAbortWrite · init) hopen).trans (if_neg fun hc => hc.1.elim h1 h2))

theorem proposalEnds : Claims.ProposalEnds := by
  intro s t T u
  refine ⟨fun h2 hw => ?_, fun hno => ?_, fun h3 hT hle => ?_, fun hT hlt => ?_, fun h3 hT hle => ?_⟩
  · exact congrArg Host.Outcome.next (if_pos ⟨h2, hw⟩)
  · exact congrArg Host.Outcome.next (csnExpire_open hno)
  · refine congrArg Host.Outcome.next ?_
    simp only [show (s.tick t).csn.commitAt = some T from hT]
    exact if_pos ⟨h3, hle⟩
  · refine congrArg Host.Outcome.next ?_
    simp only [show (s.tick t).csn.commitAt = some T from hT]
    exact if_neg fun hc => absurd hc.2 (Nat.not_le.2 hlt)
  · exact congrArg Host.Outcome.next (if_pos ⟨h3, hT, hle⟩)

/-- Settles O26: the writes of a proposal by their checks in turn, and the ends of its windows. -/
theorem proposals : Obligations.Proposals := ⟨proposalOpens, countersignResult, proposalEnds⟩

end Sys2Proof.Machine
end

section
/-! PROOFS. Device time: its setting, its quality, the selection of its source, and what a source measures (R101 to R122). -/

namespace Sys2Proof.Machine
open Sys2Proof

variable {s q u : State} {f : Fld} {v : ℕ}

/-! ### What the quality of device time and the selection of a source leave unchanged -/

theorem devTime_of (ht : q.tim = s.tim) (hn : q.now = s.now) : q.devTime = s.devTime := by
  simp only [State.devTime, ht, hn]

/-- A field reads back a value that fits it. -/
theorem reads_wr_fit (h : twf s.regs = true) (hf : FldIn f) (hv : v < 2 ^ f.len) : Reads (s.wr f v) f v := by
  have hr := reads_wr_self h hf v
  rwa [Nat.mod_eq_of_lt hv] at hr

theorem Reads.errSync (h : Reads s f v) (ha : FldApart F.TIM_ERREST f) : Reads s.errSync f v := h.wr (by decide) ha _

theorem updQuality_tim (s : State) : s.updQuality.tim = s.tim := by
  unfold State.updQuality
  extract_lets a b c
  have hc : c.tim = s.tim := by
    unfold c
    split <;> rfl
  split
  · exact hc
  · exact hc

theorem updQuality_now (s : State) : s.updQuality.now = s.now := by
  unfold State.updQuality
  extract_lets a b c
  have hc : c.now = s.now := by
    unfold c
    split <;> rfl
  split
  · exact hc
  · exact hc

/-- The fields that bringing the quality up to date does not write. -/
abbrev QualityApart (f : Fld) : Prop := FldApart F.TIM_ERREST f ∧ FldApart F.TIM_SLEW f ∧ FldApart F.TIM_QSTATE f ∧ FldApart F.TIM_QCHG f

theorem Reads.updQuality (h : Reads s f v) (ha : QualityApart f) : Reads s.updQuality f v := by
  obtain ⟨h1, h2, h3, h4⟩ := ha
  unfold State.updQuality
  extract_lets a b c
  have hc : Reads c f v := by
    unfold c
    split
    · exact (h.errSync h1).wr (by decide) h2 _
    · exact h.errSync h1
  split
  · exact hc
  · exact (hc.wr (by decide) h3 _).wr (by decide) h4 _

theorem qualityNow_lt (s : State) : qualityNow s < 4 := by
  unfold qualityNow
  extract_lets c x q
  have hq : q < 4 := by
    unfold q
    split_ifs <;> omega
  split_ifs <;> omega

/-- QSTATE is the quality as it is now, and QCHG shows a change (R110, R111). -/
theorem updQuality_reads (h : twf s.regs = true) : s.updQuality.rd F.TIM_QSTATE = qualityNow s.errSync ∧
    (qualityNow s.errSync ≠ s.rd F.TIM_QSTATE → s.updQuality.rd F.TIM_QCHG = 1) := by
  unfold State.updQuality
  extract_lets a b c
  have hc : Reads c F.TIM_QSTATE (s.rd F.TIM_QSTATE) := by
    have ha : Reads a F.TIM_QSTATE (s.rd F.TIM_QSTATE) := Reads.errSync ⟨h, rfl⟩ (by decide)
    unfold c
    split
    · exact ha.wr (by decide) (by decide) _
    · exact ha
  split
  · next he =>
    exact ⟨he.symm, fun hne => absurd (he.trans hc.val) hne⟩
  · next he =>
    have hq := (reads_wr_self (f := F.TIM_QSTATE) hc.regs (by decide) b).wr (g := F.TIM_QCHG) (by decide) (by decide) 1
    exact ⟨hq.val.trans (Nat.mod_eq_of_lt (qualityNow_lt _)), fun _ => rd_wr_self (twf_wr hc.regs _ _) (by decide) 1⟩

/-! ### Setting device time -/

theorem stepTime_devTime (s : State) (ns : ℕ) : (s.stepTime ns).devTime = ns := by
  simp only [State.stepTime, State.devTime, slewDone, Nat.sub_self, Nat.zero_mul, Nat.zero_div]
  simp

/-- A write of TIM_SET (R103). The definition is opened by `delta`: the kernel must not be made to reduce `wordTime value`. -/
theorem timSetWrite_cases (s : State) (value : Word) :
    let q := s.wr F.TIM_SETV value.toNat
    (wordTime value = none ∧ timSetWrite s value = q.ignored 2 21 7) ∨
      ∃ ns, wordTime value = some ns ∧
        timSetWrite s value = if q.rd F.TIM_QSTATE = 0 ∧ (runningDomains q).isEmpty then q.stepTime ns else q.ignored 2 21 7 := by
  intro q
  have e : @timSetWrite = @timSetWrite := rfl
  conv at e => rhs; delta timSetWrite
  rw [e]
  beta_reduce
  generalize wordTime value = o
  cases o with
  | none => exact .inl ⟨rfl, rfl⟩
  | some ns => exact .inr ⟨ns, rfl, rfl⟩

theorem timSetWrite_some {value : Word} {ns : ℕ} (hw : wordTime value = some ns) (s : State) :
    timSetWrite s value = if (s.wr F.TIM_SETV value.toNat).rd F.TIM_QSTATE = 0 ∧ (runningDomains (s.wr F.TIM_SETV value.toNat)).isEmpty then
      (s.wr F.TIM_SETV value.toNat).stepTime ns else (s.wr F.TIM_SETV value.toNat).ignored 2 21 7 := by
  rcases timSetWrite_cases s value with ⟨h, -⟩ | ⟨m, h, he⟩
  · rw [hw] at h
    cases h
  · rw [hw] at h
    cases h
    exact he

theorem timSetWrite_none {value : Word} (hw : wordTime value = none) (s : State) :
    timSetWrite s value = (s.wr F.TIM_SETV value.toNat).ignored 2 21 7 := by
  rcases timSetWrite_cases s value with ⟨-, he⟩ | ⟨m, h, -⟩
  · exact he
  · rw [hw] at h
    cases h

theorem exec_timSet (s : State) (t init : ℕ) (value : Word) : exec (.timSet t init value) s = .next (timSetWrite (s.tick t) value) := rfl

theorem timConfigWrite_open {off : ℕ} (h : timWordSelected s off = false) (value : Word) : timConfigWrite s off value =
    let q := s.writeRW 2 off value
    if off = 11 ∨ off = 12 then
      if q.isSet (F.TIM_EN_11 (off - 11)) then
        let q := if q.rd (F.TIM_PSTATE (off - 11)) = 0 then q.wr (F.TIM_PSTATE (off - 11)) 1 else q
        if ptpPortBad q (off - 11) then (ptpPortErr q (off - 11)).loseQual (off - 11 + 1) else q
      else (q.wr (F.TIM_PSTATE (off - 11)) 0).loseQual (off - 11 + 1)
    else if off = 17 then (if q.isSet F.TIM_EN_17 then q else q.loseQual 3)
    else if off = 18 then (if q.isSet F.TIM_EN_18 then q else q.loseQual 4)
    else q := if_neg (h ▸ Bool.false_ne_true)

theorem timSettings : Claims.TimeSettings := by
  intro s t init off ns value hs u v
  refine ⟨fun hw hq hr => ⟨?_, stepTime_devTime v ns⟩, fun hbad => ?_, fun ho hsel => ?_, fun hsel => ?_, fun hsel hen => ?_, fun hsel hen => ?_⟩
  · rw [exec_timSet, timSetWrite_some hw, if_pos ⟨hq, List.isEmpty_iff.2 hr⟩]
  · rw [exec_timSet]
    cases hw : wordTime value with
    | none => rw [timSetWrite_none hw]
    | some m =>
      rw [timSetWrite_some hw, if_neg]
      rintro ⟨h1, h2⟩
      rcases hbad with hbad | hbad | hbad
      · rw [hw] at hbad
        cases hbad
      · exact hbad h1
      · exact hbad (List.isEmpty_iff.1 h2)
  · have ho' : off = 11 ∨ off = 12 ∨ off = 16 ∨ off = 17 ∨ off = 18 := by simpa using ho
    rw [exec_timSourceConfigWrite ho', timConfigWrite, if_pos hsel]
  · rw [exec_timSourceConfigWrite (by simp [TimConfigWord]), timConfigWrite_open hsel]
    rfl
  · rw [exec_timSourceConfigWrite (by simp [TimConfigWord]), timConfigWrite_open hsel]
    exact congrArg Host.Outcome.next (if_pos hen)
  · rw [exec_timSourceConfigWrite (by simp [TimConfigWord]), timConfigWrite_open hsel]
    exact congrArg Host.Outcome.next (if_neg (hen ▸ Bool.false_ne_true))

/-! ### Events of the time base -/

theorem toField_succ (x : ℕ) (h : x < 2 ^ 16) : toField (signedOf x 16 + 1) 16 = (x + 1) % 2 ^ 16 := by
  rw [toField, signedOf, Nat.mod_eq_of_lt h]
  split <;> omega

theorem timeBaseEvents : Claims.TimeBaseEvents := by
  intro s t k ok hs u
  have hu : twf u.regs = true := hs.regs
  refine ⟨rfl, ⟨_, rfl, rd_wrb hu (by decide) rfl ok, rfl⟩, fun he hl => ⟨_, congrArg Host.Outcome.next (if_pos ⟨he, hl⟩), ?_, ?_⟩, fun hno => ?_, ?_, fun hk => ?_, fun hk => ?_⟩
  · have hr := (reads_wr_self (f := F.TIM_UTCOFS) hu (by decide) (toField (signedOf (u.rd F.TIM_UTCOFS) 16 + 1) 16)).wr (g := F.TIM_LEAPP)
      (by decide) (by decide) 0
    refine hr.val.trans ?_
    rw [toField_succ _ (rd_lt u F.TIM_UTCOFS)]
    exact Nat.mod_mod _ _
  · exact rd_wr_self (twf_wr hu _ _) (by decide) 0
  · refine congrArg Host.Outcome.next (if_neg ?_)
    rintro ⟨he, hl⟩
    rcases hno with hx | hx
    · exact absurd (hx.symm.trans he) Bool.false_ne_true
    · exact absurd (hx.symm.trans hl) Bool.false_ne_true
  · simp only [List.forall_mem_cons, List.not_mem_nil, false_imp_iff, implies_true, and_true]
    obtain ⟨h1, h2⟩ := updQuality_reads hu
    have hd : u.updQuality.devTime = u.devTime := devTime_of (updQuality_tim u) (updQuality_now u)
    exact ⟨⟨_, rfl, h1, h2, hd⟩, ⟨_, rfl, h1, h2, hd⟩⟩
  · exact congrArg Host.Outcome.next (if_pos hk)
  · exact congrArg Host.Outcome.next (if_neg hk)

/-! ### Selection -/

/-- The fields that a source's acquisition does not write. -/
abbrev AcquireApart (f : Fld) : Prop :=
  FldApart F.TIM_STEPREF f ∧ FldApart F.TIM_SLEW f ∧ FldApart F.TIM_ERREST f ∧ FldApart F.TIM_STEPR f ∧ f.addr ≠ 2 * 512 + 5

theorem startHolding_regs (s : State) : s.startHolding.regs = s.regs := by
  unfold State.startHolding
  split <;> rfl

theorem Reads.acquire (h : Reads s f v) (ha : AcquireApart f) (c : ℕ) : Reads (s.acquire c) f v := by
  obtain ⟨h1, h2, h3, h4, h5⟩ := ha
  unfold State.acquire
  extract_lets x s1 s2 tb1 s3 s4 s5 tb2 s6 s7
  have h3' : Reads s3 f v := h.of_regs rfl
  have h6 : Reads s6 f v := h.of_regs rfl
  have h7 : Reads s7 f v := h.of_regs (startHolding_regs _)
  split
  · exact ((h3'.wr (by decide) h1 _).wr (by decide) h2 _).wr (by decide) h3 _
  · split
    · exact ((h6.wr (by decide) h1 _).wr (by decide) h2 _).wr (by decide) h3 _
    · exact ((h7.wr (by decide) h1 _).wr (by decide) h4 _).pageErr h5 _ _ _

theorem srcList_lt (s : State) : ∀ c ∈ srcList s, c < 16 := by
  intro c hc
  have hm := (List.takeWhile_prefix (fun c => decide (c ≠ 0))).subset (List.mem_eraseDups.1 hc)
  simp only [List.mem_cons, List.not_mem_nil, or_false] at hm
  rcases hm with rfl | rfl | rfl | rfl
  · exact rd_lt s F.TIM_PRI0
  · exact rd_lt s F.TIM_PRI1
  · exact rd_lt s F.TIM_PRI2
  · exact rd_lt s F.TIM_PRI3

theorem srcChoice_lt (s : State) : srcChoice s < 16 := by
  unfold srcChoice
  extract_lets l cur ok
  have find {p : ℕ → Bool} {k : List ℕ} {c : ℕ} (hk : k ⊆ l) (h : k.find? p = some c) : c < 16 :=
    srcList_lt s c (hk (List.mem_of_find?_eq_some h))
  split
  · split
    · next c hc => exact find (List.takeWhile_prefix _).subset hc
    · exact rd_lt s F.TIM_SRC
  · cases h : l.find? ok with
    | none => decide
    | some c => exact find (List.Subset.refl l) h

theorem sourceSelection : Claims.SourceSelection := by
  intro s hs
  unfold State.reselect
  extract_lets a cur c x b d e
  have ha : twf a.regs = true := twf_wr hs.regs _ _
  have hcur : cur = s.rd F.TIM_SRC := rd_wr_apart hs.regs (by decide) (by decide) _
  split
  · next he =>
    refine ⟨?_, fun hne => absurd (he.trans hcur) hne⟩
    exact (Reads.updQuality ⟨ha, he.symm⟩ (by decide)).val
  · have hb : twf b.regs = true := by
      unfold b
      split
      · exact ha
      · exact ha
    have hsrc : Reads d F.TIM_SRC c := by
      exact (reads_wr_fit (f := F.TIM_SRC) hb (by decide) (srcChoice_lt a)).wr (g := F.TIM_SRCCHG) (by decide) (by decide) 1
    have hchg : Reads d F.TIM_SRCCHG 1 := reads_wr_self (f := F.TIM_SRCCHG) (twf_wr hb _ _) (by decide) 1
    have he {f : Fld} {v : ℕ} (h : Reads d f v) (ha : FldApart F.TIM_GMID f) : Reads e f v := by
      unfold e
      split
      · exact h.wr (by decide) ha _
      · exact h
    have hsrc' := he hsrc (by decide)
    have hchg' := he hchg (by decide)
    split
    · have hold {f : Fld} {v : ℕ} (h : Reads e f v) : Reads (e.setSlew 0).startHolding f v := h.of_regs (startHolding_regs _)
      exact ⟨((hold hsrc').updQuality (by decide)).val, fun _ => ((hold hchg').updQuality (by decide)).val⟩
    · exact ⟨((hsrc'.acquire (by decide) c).updQuality (by decide)).val, fun _ => ((hchg'.acquire (by decide) c).updQuality (by decide)).val⟩

/-! ### What a source measures -/

theorem src_setSrc_of_ne {c : ℕ} {x : TimeSrc} (hx : x ≠ default) : (s.setSrc c x).src c = x := tget_tset_of_ne _ _ hx

theorem src_of_srcs (h : q.tim.srcs = s.tim.srcs) (c : ℕ) : q.src c = s.src c := by rw [State.src, h]; rfl

/-- ERREST stays as written while no holdover runs (R112). -/
theorem updQuality_errest {v : ℕ} (h : Reads s F.TIM_ERREST v) (hold : s.tim.holding = false) : Reads s.updQuality F.TIM_ERREST v := by
  have hnow : s.errestNow = v := (if_neg (hold ▸ Bool.false_ne_true)).trans h.val
  have hv : v < 2 ^ 24 := h.val ▸ rd_lt s F.TIM_ERREST
  have hsync : Reads s.errSync F.TIM_ERREST v := by
    rw [State.errSync, hnow]
    exact reads_wr_fit h.regs (by decide) hv
  unfold State.updQuality
  extract_lets a b c
  have hc : Reads c F.TIM_ERREST v := by
    unfold c
    split
    · exact hsync.wr (by decide) (by decide) _
    · exact hsync
  split
  · exact hc
  · exact (hc.wr (by decide) (by decide) _).wr (by decide) (by decide) _

/-- What a source measures while it is in use (R101, R112). -/
theorem measured_used {c : ℕ} {off : ℤ} (hc : s.rd F.TIM_SRC = c) (hu : (s.src c).used = true) :
    s.measured c off =
      let q := (s.setSrc c { s.src c with offset := off }).setSlew off
      let q := if 100 < off.natAbs then q.wr F.TIM_SLEW 1 else q
      (q.wr F.TIM_ERREST (min 0xFFFFFF (off.natAbs + srcAccuracy q c))).updQuality := if_pos ⟨hc, hu⟩

theorem measured_unused {c : ℕ} {off : ℤ} (h : s.rd F.TIM_SRC ≠ c ∨ (s.src c).used = false) :
    s.measured c off = s.setSrc c { s.src c with offset := off } := by
  refine if_neg ?_
  rintro ⟨hc, hu⟩
  rcases h with h | h
  · exact h hc
  · exact Bool.false_ne_true (h.symm.trans hu)

theorem setSlew_srcs (s : State) (off : ℤ) : (s.setSlew off).tim.srcs = s.tim.srcs := rfl

theorem srcAccuracy_of_rd {c : ℕ} (h1 : q.rd F.TIM_F10EN = s.rd F.TIM_F10EN) (h2 : q.rd F.TIM_F10OK = s.rd F.TIM_F10OK) :
    srcAccuracy q c = srcAccuracy s c := by
  unfold srcAccuracy State.isSet
  rw [h1, h2]

theorem measuredOffset : Claims.MeasuredOffset := by
  intro s c off hs h1 h4 h0 q
  have hne : ({ s.src c with offset := off } : TimeSrc) ≠ default := fun he => h0 (congrArg TimeSrc.offset he)
  by_cases hused : s.rd F.TIM_SRC = c ∧ (s.src c).used = true
  · obtain ⟨hc, hu⟩ := hused
    have hq : q = _ := measured_used hc hu
    rw [hq]
    extract_lets x a b
    have hbr : Reads b F.TIM_F10EN (s.rd F.TIM_F10EN) ∧ Reads b F.TIM_F10OK (s.rd F.TIM_F10OK) := by
      have ha {f : Fld} : Reads a f (s.rd f) := ⟨hs.regs, rfl⟩
      unfold b
      split
      · exact ⟨ha.wr (by decide) (by decide) _, ha.wr (by decide) (by decide) _⟩
      · exact ⟨ha, ha⟩
    have hbt : b.tim = a.tim := by
      unfold b
      split <;> rfl
    have hacc : srcAccuracy b c = srcAccuracy s c := srcAccuracy_of_rd hbr.1.val hbr.2.val
    rw [hacc]
    have htim (x : ℕ) : (b.wr F.TIM_ERREST x).updQuality.tim = a.tim := (updQuality_tim _).trans hbt
    refine ⟨?_, fun _ _ hold => ⟨?_, ?_, ?_⟩, fun hn => absurd hc hn⟩
    · rw [src_of_srcs (s := s.setSrc c { s.src c with offset := off }) ((congrArg TimeBase.srcs (htim _)).trans (setSlew_srcs _ _)),
        src_setSrc_of_ne hne]
    · exact congrArg TimeBase.slew (htim _)
    · exact congrArg TimeBase.base (htim _)
    · refine (updQuality_errest (reads_wr_fit hbr.1.regs (by decide) ?_) (hbt ▸ hold)).val
      exact Nat.lt_of_le_of_lt (Nat.min_le_left _ _) (by decide)
  · have hq : q = _ := measured_unused (not_and_or.1 hused |>.imp_right fun h => Bool.eq_false_iff.2 h)
    rw [hq]
    refine ⟨congrArg TimeSrc.offset (src_setSrc_of_ne hne), fun hc hu => absurd ⟨hc, hu⟩ hused, fun _ => ⟨rfl, rfl, rfl⟩⟩

/-- Settles O32: the quality, the selection and the slewing of device time by the fields of TIM that they write. -/
theorem timeBase : Obligations.TimeBase := ⟨timSettings, timeBaseEvents, sourceSelection, measuredOffset⟩

end Sys2Proof.Machine
end

section
/-! PROOFS. The sources of device time: PTP messages, IRIG-B frames and 1PPS edges (R104 to R120). -/

namespace Sys2Proof.Machine
open Sys2Proof

variable {s q u : State}

/-! ### PTP -/

theorem forEach_singleton {α σ : Type} (a : α) (s : σ) (f : σ → α → σ) : forEach [a] s f = f s a := rfl

/-- A PTP message that one source listens to. -/
theorem exec_ptp {i : Instr} {l : List ℕ} {j : ℕ} {f : State → ℕ → State} (hi : exec i s = .next (forEach l u f)) (hl : l = [j]) :
    exec i s = .next (f u j) := by
  rw [hi, hl, forEach_singleton]

/-- The port of a PTP source is an uplink port, whose words are on pages of their own. -/
theorem ptpPortBad_of_rd {j : ℕ} (hp : q.rd (F.TIM_PORT j) = s.rd (F.TIM_PORT j))
    (hm : q.rd (F.LNK_MODE (portBlock (1024 + s.rd (F.TIM_PORT j)))) = s.rd (F.LNK_MODE (portBlock (1024 + s.rd (F.TIM_PORT j))))) :
    ptpPortBad q j = ptpPortBad s j := by
  simp only [ptpPortBad, hp, hm]

/-- What an Announce shows of its source (R106): its record, its class, and the state of its port. -/
def announced (s : State) (j : ℕ) (m : PtpAnnounce) : State :=
  let q := s.setSrc (j + 1) { s.src (j + 1) with
    lastAnn := s.now, annInt := m.interval, announced := true, annOk := m.ptpTimescale && decide (m.clockClass ≤ s.rd (F.TIM_MAXCC j))
    gmId := m.gmId, steps := m.stepsRemoved, prio1 := m.priority1, prio2 := m.priority2
    accuracy := m.accuracy, inaccuracy := m.inaccuracy }
  (q.wr (F.TIM_CLASS j) m.clockClass).wr (F.TIM_PSTATE j) (if ptpPortBad q j then 4 else if m.slave then 3 else 1)

theorem announced_rd {j : ℕ} {f : Fld} (h : twf s.regs = true) (m : PtpAnnounce) (hc : FldApart (F.TIM_CLASS j) f) (hp : FldApart (F.TIM_PSTATE j) f) :
    (announced s j m).rd f = s.rd f :=
  (((⟨h, rfl⟩ : Reads s f _).of_regs (setSrc_regs _ _ _)).wr (g := F.TIM_CLASS j) (by simp [F.TIM_CLASS]) hc _).wr (g := F.TIM_PSTATE j)
    (by simp [F.TIM_PSTATE]) hp _ |>.val

/-- A field of no word of the states of the PTP sources. -/
theorem apart_of_addr {j : ℕ} {f : Fld} (h : f.addr ≠ 2 * 512 + (13 + j)) : FldApart (F.TIM_CLASS j) f ∧ FldApart (F.TIM_PSTATE j) f :=
  ⟨.inl h.symm, .inl h.symm⟩

theorem portBlock_uplink {k : ℕ} (h : k < 8) : portBlock (1024 + k) = (0x280 + k) * 512 + 8 := by
  have h1 : ¬ 1024 + k < 1024 := by omega
  have h2 : 1024 + k < 1032 := by omega
  rw [portBlock, if_neg h1, if_pos h2, Nat.add_sub_cancel_left]

theorem announced_reads {j : ℕ} (h : twf s.regs = true) (m : PtpAnnounce) (hj : j < 2) (hc : m.clockClass < 256) :
    (announced s j m).rd (F.TIM_CLASS j) = m.clockClass ∧
      (ptpPortBad (announced s j m) j = false → (announced s j m).rd (F.TIM_PSTATE j) = if m.slave then 3 else 1) := by
  unfold announced
  extract_lets x q
  have hq : q.regs = s.regs := setSrc_regs s _ _
  have ht : Reads (q.wr (F.TIM_CLASS j) m.clockClass) (F.TIM_CLASS j) m.clockClass :=
    reads_wr_fit (hq ▸ h) (by simp [F.TIM_CLASS]) (by simp [F.TIM_CLASS, hc])
  refine ⟨(ht.wr (g := F.TIM_PSTATE j) (by simp [F.TIM_PSTATE]) (by simp [FldApart, F.TIM_PSTATE, F.TIM_CLASS]) _).val, fun hgood => ?_⟩
  have keep {f : Fld} (hf : f.addr ≠ 2 * 512 + (13 + j)) (v : ℕ) :
      ((q.wr (F.TIM_CLASS j) m.clockClass).wr (F.TIM_PSTATE j) v).rd f = q.rd f :=
    (rd_wr_apart ht.regs (by simp [F.TIM_PSTATE]) (apart_of_addr hf).2 v).trans
      (rd_wr_apart (hq ▸ h) (by simp [F.TIM_CLASS]) (apart_of_addr hf).1 _)
  have hport : q.rd (F.TIM_PORT j) < 8 := rd_lt q (F.TIM_PORT j)
  have hbad : ptpPortBad q j = false := by
    rw [← hgood]
    refine (ptpPortBad_of_rd (keep (by simp [F.TIM_PORT]) _) (keep ?_ _)).symm
    rw [portBlock_uplink hport]
    simp only [F.LNK_MODE]
    omega
  rw [hbad, rd_wr_self ht.regs (by simp [F.TIM_PSTATE])]
  cases m.slave <;> rfl

theorem ptpMessages : Claims.PtpMessages := by
  intro s t port stamp seq origin dom j corr m a u x
  refine ⟨fun hl => ⟨fun h2 => ?_, fun h2 => ?_⟩, fun hl c st hw => ?_, fun hl => ?_, fun hl hsrc hcls hs hj hc => ?_, fun hj ht => ?_,
    fun hj ht => ?_, fun ht => ?_⟩
  · refine (exec_ptp rfl hl).trans ?_
    simp only [h2, if_true]
    rfl
  · refine (exec_ptp rfl hl).trans ?_
    simp only [h2, Bool.false_eq_true, if_false]
    rfl
  · refine (exec_ptp rfl hl).trans ?_
    show Host.Outcome.next (match x.wait with
      | some (q, stamp, c) => if q = seq then ptpExchange (u.setSrc (j + 1) { x with lastSync := u.now }) j origin stamp (c + corr) true
        else u.setSrc (j + 1) { x with lastSync := u.now }
      | none => u.setSrc (j + 1) { x with lastSync := u.now }) = _
    generalize u.setSrc (j + 1) { x with lastSync := u.now } = r
    rw [hw]
    exact congrArg Host.Outcome.next (if_pos rfl)
  · have hexec : exec (.ptpAnnounceRx t port a) s = .next (forEach (ptpOn u port a.domain) u _) := rfl
    rw [hexec, hl]
    rfl
  · have hr : twf u.regs = true := hs.regs
    have hmax : (announced u j a).rd (F.TIM_MAXCC j) = u.rd (F.TIM_MAXCC j) :=
      announced_rd hr a (.inl (by simp [F.TIM_CLASS, F.TIM_MAXCC])) (.inl (by simp [F.TIM_PSTATE, F.TIM_MAXCC]))
    have hsrc' : (announced u j a).rd F.TIM_SRC = u.rd F.TIM_SRC :=
      announced_rd hr a (.inl (by simp only [F.TIM_CLASS, F.TIM_SRC]; omega)) (.inl (by simp only [F.TIM_PSTATE, F.TIM_SRC]; omega))
    have hq : exec (.ptpAnnounceRx t port a) s = .next (announced u j a) := by
      refine (exec_ptp rfl hl).trans (congrArg Host.Outcome.next ?_)
      have h1 : ¬ (announced u j a).rd (F.TIM_MAXCC j) < a.clockClass := by rw [hmax]; exact Nat.not_lt.2 hcls
      have h2 : ¬ (announced u j a).rd F.TIM_SRC = j + 1 := by rw [hsrc']; exact hsrc
      show (if (if (announced u j a).rd (F.TIM_MAXCC j) < a.clockClass then (announced u j a).loseQual (j + 1) else announced u j a).rd F.TIM_SRC = j + 1
        then _ else (if (announced u j a).rd (F.TIM_MAXCC j) < a.clockClass then (announced u j a).loseQual (j + 1) else announced u j a)) = _
      rw [if_neg h1, if_neg h2]
    obtain ⟨hclass, hstate⟩ := announced_reads hr a hj hc
    have hx : (announced u j a).src (j + 1) = { u.src (j + 1) with
        lastAnn := u.now, annInt := a.interval, announced := true, annOk := a.ptpTimescale && decide (a.clockClass ≤ u.rd (F.TIM_MAXCC j))
        gmId := a.gmId, steps := a.stepsRemoved, prio1 := a.priority1, prio2 := a.priority2
        accuracy := a.accuracy, inaccuracy := a.inaccuracy } :=
      src_setSrc_of_ne (s := u) fun he => Bool.noConfusion (congrArg TimeSrc.announced he)
    refine ⟨_, hq, by rw [hx], by rw [hx], ?_, hclass, hstate⟩
    rw [hx]
    show (a.ptpTimescale && decide (a.clockClass ≤ u.rd (F.TIM_MAXCC j))) = _
    rw [decide_eq_true hcls, Bool.and_true]
  · exact congrArg Host.Outcome.next (if_pos ⟨by omega, by rw [if_pos rfl]; exact ht⟩)
  · exact congrArg Host.Outcome.next (if_pos ⟨by omega, by rw [if_neg Bool.false_ne_true]; exact ht⟩)
  · refine congrArg Host.Outcome.next (if_neg ?_)
    rintro ⟨-, h⟩
    rw [if_pos rfl] at h
    exact Nat.not_le.2 ht h

/-! ### IRIG-B and 1PPS -/

theorem tput_tput {α : Type} (t : Tbl α) (a : ℕ) (x y : α) : tput (tput t a x) a y = tput t a y := by
  induction t with
  | nil => simp [tput]
  | cons e t ih =>
    obtain ⟨k, v⟩ := e
    by_cases hk : k = a
    · simp [tput, hk]
    · by_cases hl : a < k
      · simp [tput, hk, hl]
      · simp [tput, hk, hl, ih]

theorem setSrc_setSrc_of_ne {c : ℕ} {x y : TimeSrc} (hx : x ≠ default) (hy : y ≠ default) : (s.setSrc c x).setSrc c y = s.setSrc c y := by
  have h : tset (tset s.tim.srcs c x) c y = tset s.tim.srcs c y := by
    simp only [tset, hx, hy, if_false, tput_tput]
  simp only [State.setSrc, h]

theorem ne_default_of_qual {x : TimeSrc} (h : x.qual = true) : x ≠ default := by
  rintro rfl
  exact Bool.noConfusion h

/-- A pulse that is missing or bad (R104): the second in a row costs the source its qualification. -/
theorem missed_first {c : ℕ} {x : TimeSrc} (h : x.miss = 0) :
    (if 2 ≤ x.miss + 1 then (q.setSrc c { x with miss := x.miss + 1, run := 0 }).loseQual c else q.setSrc c { x with miss := x.miss + 1, run := 0 }) =
      q.setSrc c { x with miss := 1, run := 0 } := by
  rw [h]
  rfl

theorem missed_again {c : ℕ} {x : TimeSrc} (h : 1 ≤ x.miss) :
    (if 2 ≤ x.miss + 1 then (q.setSrc c { x with miss := x.miss + 1, run := 0 }).loseQual c else q.setSrc c { x with miss := x.miss + 1, run := 0 }) =
      (q.setSrc c { x with miss := x.miss + 1, run := 0 }).loseQual c := if_pos (by omega)

/-- The offset of a source that is qualified and not used (R114) enters its record only. -/
theorem setSrc_measured {c : ℕ} {z : TimeSrc} {off : ℤ} (hq : z.qual = true) (hsrc : q.rd F.TIM_SRC ≠ c) :
    (q.setSrc c z).measured c off = q.setSrc c { z with offset := off } := by
  have hz : z ≠ default := ne_default_of_qual hq
  have hz' : { z with offset := off } ≠ default := ne_default_of_qual (x := { z with offset := off }) hq
  rw [measured_unused (s := q.setSrc c z) (.inl hsrc), src_setSrc_of_ne hz, setSrc_setSrc_of_ne hz hz']

theorem qual_setSrc {c : ℕ} {z : TimeSrc} (hq : z.qual = true) : ((q.setSrc c z).src c).qual = true := by
  rw [src_setSrc_of_ne (ne_default_of_qual hq), hq]

/-- A mark on time: one second and at most 1 µs after the one before it (R104). -/
abbrev OnTime (now : ℕ) (x : TimeSrc) : Prop := x.lastMark + 1000000000 ≤ now + 1000 ∧ now ≤ x.lastMark + 1000001000

theorem ppsEdge_onTime {t : ℕ} {falling : Bool} {y : TimeSrc} {e : ℤ} (hu : s.tick t = u) (hy : u.src 4 = y)
    (he : (u.devTime : ℤ) - (u.rd F.TIM_DLY_18 : ℕ) = e) (hen : u.isSet F.TIM_EN_18 = true) (hedge : u.isSet F.TIM_EDGE = falling)
    (hq : y.qual = true) (hon : OnTime u.now y) (hrun : 0 < y.run) (hsrc : u.rd F.TIM_SRC ≠ 4) :
    exec (.ppsEdge t falling) s =
      .next (u.setSrc 4 { y with run := y.run + 1, miss := 0, lastMark := u.now, offset := (e + 500000000) / 1000000000 * 1000000000 - e }) := by
  have hexec : exec (.ppsEdge t falling) s = execPpsEdge t falling s := rfl
  have hoff : ¬ (u.isSet F.TIM_EN_18 = false ∨ u.isSet F.TIM_EDGE ≠ falling) := by simp [hen, hedge]
  rw [hexec, execPpsEdge, hu]
  simp only [hoff, hy, he, hon, hrun, if_false, if_true, decide_true, and_self, and_false, Bool.true_eq_false,
    setSrc_measured (c := 4) (z := { y with run := y.run + 1, miss := 0, lastMark := u.now }) hq hsrc]
  rw [if_neg fun h => Bool.false_ne_true (h.1.symm.trans (qual_setSrc (z := { y with
    run := y.run + 1, miss := 0, lastMark := u.now, offset := (e + 500000000) / 1000000000 * 1000000000 - e }) hq))]

/-- The seconds that a frame of IRIG-B names once the format gives the year (R104, R119). -/
theorem irigFrame_onTime {t : ℕ} {fr : IrigFrame} {x : TimeSrc} {sec off : ℤ} (hu : s.tick t = u) (hx : u.src 3 = x) (hr : twf u.regs = true)
    (hsec : fr.utc + signedOf (u.rd F.TIM_UTCOFS) 16 = sec) (hoff : sec * 1000000000 - ((u.devTime : ℤ) - (u.rd F.TIM_DLY_17 : ℕ)) = off)
    (hen : u.isSet F.TIM_EN_17 = true) (hg : fr.good = true) (hext : u.isSet F.TIM_EXT = false) (hf : 4 ≤ fr.format)
    (hq : x.qual = true) (hon : OnTime u.now x) (hsrc : u.rd F.TIM_SRC ≠ 3) :
    ∃ run, exec (.irigFrameRx t fr) s = .next ((u.wr F.TIM_FMT fr.format).setSrc 3
      { x with run := run, miss := 0, lastMark := u.now, lastSec := sec, offset := off }) := by
  have hexec : exec (.irigFrameRx t fr) s = execIrigFrameRx t fr s := rfl
  have hrd {f : Fld} (hf : FldApart F.TIM_FMT f) : (u.wr F.TIM_FMT fr.format).rd f = u.rd f := rd_wr_apart hr (by decide) hf _
  have hnow : (u.wr F.TIM_FMT fr.format).now = u.now := rfl
  have hdev : (u.wr F.TIM_FMT fr.format).devTime = u.devTime := devTime_of rfl hnow
  have hutc : (u.wr F.TIM_FMT fr.format).rd F.TIM_UTCOFS = u.rd F.TIM_UTCOFS := hrd (by decide)
  have hdly : (u.wr F.TIM_FMT fr.format).rd F.TIM_DLY_17 = u.rd F.TIM_DLY_17 := hrd (by decide)
  have hsrc' : (u.wr F.TIM_FMT fr.format).rd F.TIM_SRC ≠ 3 := fun he => hsrc ((hrd (by decide)).symm.trans he)
  refine ⟨if 0 < x.run ∧ decide (sec = x.lastSec + 1) = true then x.run + 1 else 1, ?_⟩
  rw [hexec, execIrigFrameRx, hu]
  simp only [hen, hg, hext, hx, hf, hutc, hdly, hdev, hnow, hon, sub_zero, hsec, hoff, if_false, if_true, decide_true, and_self,
    and_true, and_false, Bool.true_eq_false, Bool.false_eq_true]
  generalize (if 0 < x.run ∧ decide (sec = x.lastSec + 1) = true then x.run + 1 else 1) = run
  rw [setSrc_measured (z := { x with run := run, miss := 0, lastMark := u.now, lastSec := sec }) hq hsrc']
  rw [if_neg fun h => Bool.false_ne_true (h.1.symm.trans (qual_setSrc (z := { x with
    run := run, miss := 0, lastMark := u.now, lastSec := sec, offset := off }) hq))]

theorem pulseSources : Claims.PulseSources := by
  intro s t fr falling u x y
  refine ⟨fun h => congrArg Host.Outcome.next (if_pos h), fun h hg hm => ?_, fun h hg hm => ?_, ?_, fun h hl hm => ?_,
    fun h hedge hq h1 h2 hrun hsrc => ?_, fun h => congrArg Host.Outcome.next (if_pos h), fun h hl hm => ?_, fun h hl hm => ?_⟩
  · exact congrArg Host.Outcome.next ((if_neg (by rw [h]; decide)).trans ((if_pos hg).trans (missed_first hm)))
  · exact congrArg Host.Outcome.next ((if_neg (by rw [h]; decide)).trans ((if_pos hg).trans (missed_again hm)))
  · intro h hg hext hf hq h1 h2 hsrc hs sec off
    obtain ⟨run, hexec⟩ := irigFrame_onTime (fr := fr) rfl rfl hs.regs rfl rfl h hg hext hf hq ⟨h1, h2⟩ hsrc
    have hx := src_setSrc_of_ne (s := u.wr F.TIM_FMT fr.format) (c := 3)
      (ne_default_of_qual (x := { x with run := run, miss := 0, lastMark := u.now, lastSec := sec, offset := off }) hq)
    refine ⟨_, hexec, by rw [hx], by rw [hx], by rw [hx], by rw [hx], rfl⟩
  · exact congrArg Host.Outcome.next ((if_pos ⟨h, hl⟩).trans (missed_first hm))
  · exact ppsEdge_onTime rfl rfl rfl h hedge hq ⟨h1, h2⟩ hrun hsrc
  · exact congrArg Host.Outcome.next ((if_pos ⟨h, hl⟩).trans (missed_again hm))
  · exact congrArg Host.Outcome.next ((if_pos ⟨h, hl⟩).trans (missed_first hm))

/-- Settles O33: messages, frames and edges act on the record of the one source that hears them. -/
theorem timeSources : Obligations.TimeSources := ⟨ptpMessages, pulseSources⟩

end Sys2Proof.Machine
end

section
/-! PROOFS. The process links: frames received, queued and sent, and PTP on lanes (R114 to R118, R129 to R149). -/

namespace Sys2Proof.Machine
open Sys2Proof

variable {s q u : State} {p l : ℕ} {x : RxFrame} {ptp : Bool}

/-! ### Frames received (R129) -/

theorem rxStages_lineBad (h : x.lineOk = false) : rxStages s p x ptp = (s.bump (F.LNK_RXCRC (portBlock p)), false) := by
  rw [rxStages, h]
  rfl

theorem rxStages_length (h : x.lineOk = true) (hl : x.len < 64 ∨ s.rd (F.LNK_MAXLEN (portBlock p)) < x.len) :
    rxStages s p x ptp = (s.bump (F.LNK_RXLEN (portBlock p)), false) := by
  rw [rxStages, h]
  exact if_pos hl

theorem rxStages_format (h : x.lineOk = true) (hl : ¬ (x.len < 64 ∨ s.rd (F.LNK_MAXLEN (portBlock p)) < x.len)) (hb : stage3Bad s p x = true) :
    rxStages s p x ptp = (s.bump (F.LNK_RXFMT (portBlock p)), false) := by
  rw [rxStages, h]
  exact (if_neg hl).trans (if_pos hb)

/-- A frame of a port that is in no redundant pair has no sequence number to look for. -/
theorem rxSeq_unpaired (h : portPairMode s p = 0) : rxSeq s p x = none := by
  rw [rxSeq, h]
  cases x.red <;> rfl

/-- The stages from the learning of the partner on, for a frame of sampled values on a lane that is in no redundant pair. -/
theorem rxStages_sampled {t : State} (h : x.lineOk = true) (hl : ¬ (x.len < 64 ∨ s.rd (F.LNK_MAXLEN (portBlock p)) < x.len)) (hb : stage3Bad s p x = false)
    (hpair : portPairMode s p = 0) (hp : p < 1024) (hs : partnerLearn s p x = t) (ht : rxEtype s p x = 0x88BA) (hd : apduDecodes 0x88BA x.apdu = true)
    (hpeer : peerFrame t p x = false) {i : ℕ} (hm : rxMatch t p x = some i) :
    rxStages s p x ptp =
      (if authOk t i x = false then (t.bump (F.LNK_RXAUTH (portBlock p)), false)
      else if (stage8 t p x none).2 = true then (subDeliver ((stage8 t p x none).1.bump (F.LNK_RXOK (portBlock p))) i x.apdu, false)
      else ((stage8 t p x none).1, false)) := by
  unfold rxStages
  rw [h, if_neg (by decide), if_neg hl, if_neg (by rw [hb]; decide)]
  simp only [rxSeq_unpaired hpair, hpair]
  simp only [ht, hp, hs, hpeer, hd, hm, if_true]
  rw [if_neg (by simp), if_neg (by decide), if_neg (by decide), if_neg (by decide)]
  simp only [or_true, if_true, Bool.not_eq_true']

theorem exec_laneFrameRx_up {t : ℕ} (hu : s.tick t = u) (hen : portEn u l = true) (heth : isEthernet u l = true) (hact : portActive u l = true)
    (hup : portLst u l = 4) : ∃ ptp, exec (.laneFrameRx t l x) s = .next (rxStages u l x ptp).1 := by
  subst hu
  exact ⟨_, congrArg Host.Outcome.next (if_pos (by rw [hen, heth, hact, hup]; rfl))⟩

theorem exec_uplinkFrameRx_up {t : ℕ} (hu : s.tick t = u) (h1 : 1024 ≤ p) (h2 : p < 1034) (hen : portEn u p = true) (heth : isEthernet u p = true)
    (hact : portActive u p = true) (hup : portLst u p = 4) :
    exec (.uplinkFrameRx t p x) s = .next (uplinkFrame u p x) := by
  subst hu
  exact congrArg Host.Outcome.next (if_pos ⟨h1, h2, hen, heth, hact, hup⟩)

theorem uplinkFrame_lineBad {k : ℕ} (h : x.lineOk = false) :
    uplinkFrame s (1032 + k) x = s.bump (F.LNK_RXCRC (portBlock (1032 + k))) := by
  rw [uplinkFrame]
  exact (if_neg (by omega)).trans (if_pos (by rw [h]; rfl))

theorem frameReception : Claims.FrameReception := by
  intro s t l k x u b up
  refine ⟨fun hdown => congrArg Host.Outcome.next (if_neg ?_), fun hup => ?_, fun hk ⟨hen, heth, hact, h4⟩ => exec_uplinkFrameRx_up rfl (by omega) (by omega) hen heth hact h4,
    fun hk ⟨hen, heth, hact, h4⟩ hline => ?_⟩
  · rw [decide_eq_false hdown, Bool.and_false]
    exact Bool.false_ne_true
  · obtain ⟨hen, heth, hact, h4⟩ := hup
    obtain ⟨ptp, hexec⟩ := exec_laneFrameRx_up (x := x) (s := s) (t := t) rfl hen heth hact h4
    rw [hexec]
    refine ⟨fun hline => ?_, fun hline hlen => ?_, fun hline h64 hmax hbad => ?_, fun hline h64 hmax hgood hpair hl hty hdec hpeer => ?_⟩
    · exact congrArg (fun r => Host.Outcome.next r.1) (rxStages_lineBad hline)
    · exact congrArg (fun r => Host.Outcome.next r.1) (rxStages_length hline hlen)
    · have hlen : ¬ (x.len < 64 ∨ u.rd (F.LNK_MAXLEN b) < x.len) := by omega
      exact congrArg (fun r => Host.Outcome.next r.1) (rxStages_format hline hlen hbad)
    · have hlen : ¬ (x.len < 64 ∨ u.rd (F.LNK_MAXLEN b) < x.len) := by omega
      refine ⟨fun i hm hauth => ?_, fun i q hm hauth hdup => ?_⟩
      · rw [rxStages_sampled hline hlen hgood hpair hl rfl hty hdec hpeer hm, if_pos hauth]
      · rw [rxStages_sampled hline hlen hgood hpair hl rfl hty hdec hpeer hm, if_neg (by rw [hauth]; decide), hdup, if_pos rfl]
  · exact (exec_uplinkFrameRx_up (u := u) rfl (by omega) (by omega) hen heth hact h4).trans (congrArg Host.Outcome.next (uplinkFrame_lineBad hline))

/-! ### The next frame (R144, R514, R592) -/

/-- The better of the best frame so far and one that waits behind it. -/
def betterFrame (b : Option TxFrame) (x : TxFrame) : Option TxFrame :=
  match b with
  | some y => if classRank x.cls < classRank y.cls then some x else some y
  | none => some x

theorem nextFrame_eq (q : List TxFrame) : nextFrame q = q.foldl betterFrame none := by
  unfold nextFrame
  congr 1
  funext b x
  cases b with
  | none => rfl
  | some y => rfl

/-- The search from a frame at hand: it stays, or one behind it of a better class, the first of that class, takes its place. -/
theorem foldl_betterFrame (q : List TxFrame) (y : TxFrame) :
    (q.foldl betterFrame (some y) = some y ∧ ∀ z ∈ q, classRank y.cls ≤ classRank z.cls) ∨
      ∃ f a b, q.foldl betterFrame (some y) = some f ∧ q = a ++ f :: b ∧ classRank f.cls < classRank y.cls ∧
        (∀ z ∈ a, classRank f.cls < classRank z.cls) ∧ ∀ z ∈ b, classRank f.cls ≤ classRank z.cls := by
  induction q generalizing y with
  | nil => exact .inl ⟨rfl, fun z hz => by cases hz⟩
  | cons x q ih =>
    rw [List.foldl_cons, betterFrame]
    by_cases hx : classRank x.cls < classRank y.cls
    · right
      rw [if_pos hx]
      rcases ih x with ⟨hf, hall⟩ | ⟨f, a, b, hf, rfl, hlt, ha, hb⟩
      · exact ⟨x, [], q, hf, rfl, hx, (fun z hz => by cases hz), hall⟩
      · refine ⟨f, x :: a, b, hf, rfl, hlt.trans hx, fun z hz => ?_, hb⟩
        rcases List.mem_cons.1 hz with rfl | hz
        · exact hlt
        · exact ha z hz
    · rw [if_neg hx]
      rcases ih y with ⟨hf, hall⟩ | ⟨f, a, b, hf, rfl, hlt, ha, hb⟩
      · refine .inl ⟨hf, fun z hz => ?_⟩
        rcases List.mem_cons.1 hz with rfl | hz
        · exact Nat.not_lt.1 hx
        · exact hall z hz
      · refine .inr ⟨f, x :: a, b, hf, rfl, hlt, fun z hz => ?_, hb⟩
        rcases List.mem_cons.1 hz with rfl | hz
        · exact hlt.trans_le (Nat.not_lt.1 hx)
        · exact ha z hz

/-- Taking a frame out of a queue takes the first that is equal to it. -/
theorem dropOne_append {a b : List TxFrame} {f : TxFrame} (h : ∀ y ∈ a, y ≠ f) : dropOne (a ++ f :: b) f = a ++ b := by
  have htake : (a ++ f :: b).takeWhile (fun y => y ≠ f) = a := by
    rw [List.takeWhile_append_of_pos (by simpa using h)]
    simp
  have hdrop : (a ++ f :: b).dropWhile (fun y => y ≠ f) = f :: b := by
    rw [List.dropWhile_append_of_pos (by simpa using h)]
    simp
  rw [dropOne, htake, hdrop, List.drop_one, List.tail_cons]

theorem framePriority : Claims.FramePriority := by
  intro q
  have key : ∀ f, nextFrame q = some f → ∃ a b, q = a ++ f :: b ∧ (∀ y ∈ a, classRank f.cls < classRank y.cls) ∧
      (∀ y ∈ b, classRank f.cls ≤ classRank y.cls) := by
    intro f hf
    cases q with
    | nil => cases hf
    | cons x q =>
      rw [nextFrame_eq, List.foldl_cons] at hf
      rcases foldl_betterFrame q x with ⟨hx, hall⟩ | ⟨g, a, b, hg, rfl, hlt, ha, hb⟩
      · obtain rfl : x = f := Option.some.inj (hx.symm.trans hf)
        exact ⟨[], q, rfl, (fun y hy => by cases hy), hall⟩
      · obtain rfl : g = f := Option.some.inj (hg.symm.trans hf)
        refine ⟨x :: a, b, rfl, fun y hy => ?_, hb⟩
        rcases List.mem_cons.1 hy with rfl | hy
        · exact hlt
        · exact ha y hy
  refine ⟨⟨fun hn => ?_, fun hq => by rw [hq]; rfl⟩, fun f hf => ?_⟩
  · cases q with
    | nil => rfl
    | cons x q =>
      rw [nextFrame_eq, List.foldl_cons] at hn
      rcases foldl_betterFrame q x with ⟨hx, -⟩ | ⟨g, a, b, hg, -⟩
      · exact absurd (hx.symm.trans hn) (Option.some_ne_none _)
      · exact absurd (hg.symm.trans hn) (Option.some_ne_none _)
  · obtain ⟨a, b, rfl, ha, hb⟩ := key f hf
    exact ⟨a, b, rfl, ha, hb, dropOne_append fun y hy he => Nat.lt_irrefl _ (he ▸ ha y hy)⟩

/-! ### Frame boundaries -/

/-- A frame that leaves a port (R145): it is taken out of the queue, and kept with the time at which it left. -/
def frameLeft (s : State) (l : ℕ) (f : TxFrame) : State :=
  s.setPort l { s.port l with txq := dropOne (s.port l).txq f, sent := some f, sentAt := s.now }

theorem execLaneFrameTx_empty {t : ℕ} (hu : s.tick t = u) (hq : (u.port l).txq = []) : exec (.laneFrameTx t l) s = .next u := by
  have hexec : exec (.laneFrameTx t l) s = execLaneFrameTx t l s := rfl
  rw [hexec, execLaneFrameTx, hu]
  simp only [hq, show nextFrame [] = none from rfl, ite_self]

theorem execLaneFrameTx_plain {t : ℕ} {f : TxFrame} {o : List ℕ} (hu : s.tick t = u) (hen : portEn u l = true) (heth : isEthernet u l = true)
    (hsend : portSends u l = true) (hnext : nextFrame (u.port l).txq = some f) (hred : f.red = .none) (hsign : f.signoff = false)
    (hact : portActive (frameLeft u l f) l = true) (hbody : f.body = .raw o) :
    exec (.laneFrameTx t l) s = .next ((frameLeft u l f).bump (F.LNK_TXFRM (portBlock l))) := by
  have hexec : exec (.laneFrameTx t l) s = execLaneFrameTx t l s := rfl
  rw [hexec, execLaneFrameTx, hu]
  rw [frameLeft] at hact
  simp only [hen, heth, hsend, hnext, hbody, hred, hsign, hact, frameLeft, Bool.not_true, Bool.or_self, Bool.false_eq_true, if_false, if_true]

theorem execLaneFrameTx_sync {t n : ℕ} {f : TxFrame} (hu : s.tick t = u) (hen : portEn u l = true) (heth : isEthernet u l = true)
    (hsend : portSends u l = true) (hnext : nextFrame (u.port l).txq = some f) (hred : f.red = .none) (hsign : f.signoff = false)
    (hact : portActive (frameLeft u l f) l = true) (hbody : f.body = .ptpSync n) :
    exec (.laneFrameTx t l) s = .next
      (ptpSend ((frameLeft u l f).bump (F.LNK_TXFRM (portBlock l))) l (.ptpFollowUp n ((frameLeft u l f).bump (F.LNK_TXFRM (portBlock l))).devTime)) := by
  have hexec : exec (.laneFrameTx t l) s = execLaneFrameTx t l s := rfl
  rw [hexec, execLaneFrameTx, hu]
  rw [frameLeft] at hact
  simp only [hen, heth, hsend, hnext, hbody, hred, hsign, hact, frameLeft, Bool.not_true, Bool.or_self, Bool.false_eq_true, if_false, if_true]

theorem frameTransmission : Claims.FrameTransmission := by
  intro s t l f u x y
  exact ⟨fun hq => execLaneFrameTx_empty rfl hq, fun hen heth hsend hnext hred hsign hact =>
    ⟨fun o ho => execLaneFrameTx_plain rfl hen heth hsend hnext hred hsign hact ho,
      fun n hn => execLaneFrameTx_sync rfl hen heth hsend hnext hred hsign hact hn⟩⟩

/-! ### PTP on lanes -/

/-- A response completes the measurement of the delay of a lane (R118): half of what the exchange took less the time at the partner. -/
theorem exec_ptpPdelayRespRx {t seq t1 t2 t3 t4 : ℕ} (hu : s.tick t = u) (hlane : ptpLane u l = true) (h4 : portLst u l = 4)
    (hp : (u.port l).pdelay = some (seq, t1)) (h14 : t1 ≤ t4) (h23 : t2 ≤ t3) (hd : t3 - t2 ≤ t4 - t1) (hlt : (t4 - t1 - (t3 - t2)) / 2 < 2 ^ 16) :
    exec (.ptpPdelayRespRx t l seq t2 t3 t4) s = .next (((u.setPort l { u.port l with pdelay := none }).wr (F.LNK_PDLY (portBlock l))
      ((t4 - t1 - (t3 - t2)) / 2)).wr (F.LNK_PDV (portBlock l)) 1) := by
  have hexec : exec (.ptpPdelayRespRx t l seq t2 t3 t4) s = execPtpPdelayRespRx t l seq t2 t3 t4 s := rfl
  have hdelay : (((t4 : ℤ) - t1) - ((t3 : ℤ) - t2)) / 2 = ((t4 - t1 - (t3 - t2)) / 2 : ℕ) := by omega
  rw [hexec, execPtpPdelayRespRx, hu]
  simp only [hp, hlane, h4, hdelay, and_self, if_true]
  rw [if_neg (by omega), Int.toNat_natCast, Nat.min_eq_left (by omega)]

theorem ptpOnLanes : Claims.PtpOnLanes := by
  intro s t l seq stamp t1 t2 t3 t4 u n next' hlane
  refine ⟨fun hm => ⟨fun h => ?_, fun h => ?_, fun h => ?_⟩, fun h => ?_, fun h hp h14 h23 hd hlt => ?_⟩
  · exact congrArg Host.Outcome.next (if_pos (by rw [hlane, hm, h]; rfl))
  · exact congrArg Host.Outcome.next (if_pos (by rw [hlane, hm, h]; rfl))
  · exact congrArg Host.Outcome.next (if_pos (by rw [hlane, hm, h]; rfl))
  · exact congrArg Host.Outcome.next (if_pos (by rw [hlane, h]; rfl))
  · exact exec_ptpPdelayRespRx rfl hlane h hp h14 h23 hd hlt

/-- Settles O35: frames pass the stages of R129 in order, and leave by class. -/
theorem processFrames : Obligations.ProcessFrames := ⟨frameReception, framePriority, frameTransmission, ptpOnLanes⟩

end Sys2Proof.Machine
end

section
/-! PROOFS. The cell link: its frames, the exchange and the launches (R162 to R186). -/

namespace Sys2Proof.Machine
open Sys2Proof

variable {s u : State} {l : ℕ}

/-! ### Frames -/

theorem cellReceive_of_up {rx : CellRx} (hact : portActive s l = true) (hen : portEn s l = true) (hcell : isCell s l = true) (hup : 3 ≤ portLst s l) :
    cellReceive s l rx =
      (if rx.lineBad then s.bump (F.LNK_RXCRC (portBlock l))
      else if rx.octets.length ≠ 32 then s.bump (F.LNK_RXLEN (portBlock l))
      else if (octetsOf (crc32c (rx.octets.take 28)) 4).reverse ≠ rx.octets.drop 28 then s.bump (F.LNK_RXCRC (portBlock l))
      else if rx.octets.getD 0 0 = 0x31 then capabilityIn s l rx.octets
      else if rx.octets.getD 0 0 = 0x51 then echoReplyIn s l rx.octets rx.first
      else if rx.octets.getD 0 0 = 0x21 then statusIn s l rx.octets rx.first
      else s.bump (F.LNK_RXFMT (portBlock l))) :=
  if_neg (by rw [hact, hen, hcell, decide_eq_false (Nat.not_lt.2 hup)]; decide)

theorem cellReceive_of_down {rx : CellRx} (h : portLst s l < 3) : cellReceive s l rx = s :=
  if_pos (by rw [decide_eq_true h, Bool.or_true])

theorem octetsOf_length (n k : ℕ) : (octetsOf n k).length = k := by
  induction k with
  | zero => rfl
  | succ k ih => rw [octetsOf, List.length_cons, ih]

/-- The header and the payload of a cell frame: its first 28 octets. -/
def cellHead (ty flags snum : ℕ) (payload : List ℕ) : List ℕ :=
  [ty * 16 + 1, flags] ++ octetsOf snum 2 ++ (payload ++ List.replicate 24 0).take 24

theorem cellHead_length (ty flags snum : ℕ) (payload : List ℕ) : (cellHead ty flags snum payload).length = 28 := by
  simp [cellHead, octetsOf_length]

theorem cellFrame_eq (ty flags snum : ℕ) (payload : List ℕ) :
    cellFrame ty flags snum payload = cellHead ty flags snum payload ++ (octetsOf (crc32c (cellHead ty flags snum payload)) 4).reverse := rfl

theorem cellFrameChecks : Claims.CellFrameChecks := by
  intro s t l ty flags snum payload x u b crcOk
  refine ⟨fun i hi => ?_, ?_⟩
  · have hexec : exec i s = .next (cellReceive u l x) := by
      simp only [List.mem_cons, List.not_mem_nil, or_false] at hi
      rcases hi with rfl | rfl | rfl <;> rfl
    rw [hexec]
    refine ⟨fun h => congrArg Host.Outcome.next (cellReceive_of_down h), fun hact hen hcell hup => ?_⟩
    rw [cellReceive_of_up hact hen hcell hup]
    refine ⟨fun hbad => ?_, fun hline hlen => ?_, fun hline hlen hcrc => ?_, fun hline hlen hcrc hty => ?_, fun hline hlen hcrc hty => ?_,
      fun hline hlen hcrc hty => ?_, fun hline hlen hcrc hty => ?_⟩
    · rw [if_pos hbad]
    all_goals rw [if_neg (by rw [hline]; decide)]
    · rw [if_pos hlen]
    all_goals rw [if_neg (not_not.2 hlen)]
    · rw [if_pos hcrc]
    all_goals rw [if_neg (not_not.2 hcrc)]
    · rw [if_pos hty]
    · rw [if_neg (by rw [hty]; decide), if_pos hty]
    · rw [if_neg (by rw [hty]; decide), if_neg (by rw [hty]; decide), if_pos hty]
    · simp only [List.mem_cons, List.not_mem_nil, or_false, not_or] at hty
      obtain ⟨h31, h51, h21⟩ := hty
      rw [if_neg h31, if_neg h51, if_neg h21]
  · have hlen := cellHead_length ty flags snum payload
    intro o
    have ho : o = cellHead ty flags snum payload ++ (octetsOf (crc32c (cellHead ty flags snum payload)) 4).reverse := rfl
    have htake : o.take 28 = cellHead ty flags snum payload := by rw [ho, ← hlen, List.take_left]
    have hdrop : o.drop 28 = (octetsOf (crc32c (cellHead ty flags snum payload)) 4).reverse := by rw [ho, ← hlen, List.drop_left]
    refine ⟨?_, by rw [hdrop, htake], ?_⟩
    · rw [ho, List.length_append, hlen, List.length_reverse, octetsOf_length]
    · have h4 : (o.drop 4).take 24 = (o.take 28).drop 4 := by rw [List.drop_take]
      have hhead : ([ty * 16 + 1, flags] ++ octetsOf snum 2).length = 4 := by simp [octetsOf_length]
      rw [h4, htake, cellHead, ← hhead, List.drop_left]

/-! ### The exchange -/

/-- A reply that takes 25 µs fails the exchange (R173). -/
theorem exec_cellEchoTimeout {t out : ℕ} (hu : s.tick t = u) (hact : portActive u l = true) (hcell : isCell u l = true) (h3 : portLst u l = 3)
    (ho : (u.cell l).echoOut = some out) (h : out + 250000 ≤ u.now * 10) : exec (.cellEchoTimeout t l) s = .next (cellFail u l 5) := by
  have hexec : exec (.cellEchoTimeout t l) s = execCellEchoTimeout t l s := rfl
  rw [hexec, execCellEchoTimeout, hu]
  simp only [ho]
  rw [if_pos (by rw [hact, hcell, h3, decide_eq_true h]; rfl)]

theorem cellExchange : Claims.CellExchange := by
  intro s t init l u b c hact hcell
  refine ⟨fun h3 => ⟨fun he hc hl => ?_, fun he ho hi hl => ?_, fun h => ?_, fun h => ?_, fun at' ho h => ?_⟩, fun h5 h1 h2 h => ?_, fun hl hp => ⟨fun h => ?_, fun h => ?_⟩, fun hs hn => ?_⟩
  · exact congrArg Host.Outcome.next (if_pos (by rw [hact, hcell, h3, he, hc, hl]; rfl))
  · have hexec : exec (.cellEchoRequestTx t l) s = .next (
        let q := cellPut u l (cellFrame 4 0 c.echoIdx []) false
        q.setCell l { q.cell l with echoOut := some (q.now * 10 + cellDur10 q l) }) :=
      congrArg Host.Outcome.next (if_pos (by rw [hact, hcell, h3, he, ho, hi, hl]; rfl))
    rw [hexec, hi]
  · exact congrArg Host.Outcome.next (if_pos (by rw [hact, hcell, h3, decide_eq_true h]; rfl))
  · exact congrArg Host.Outcome.next (if_neg (by rw [decide_eq_false (Nat.not_le.2 h), Bool.and_false]; decide))
  · exact exec_cellEchoTimeout rfl hact hcell h3 ho h
  · exact congrArg Host.Outcome.next (if_pos (by rw [hact, hcell, h5, decide_eq_true h1, decide_eq_true h2, decide_eq_true h]; rfl))
  · exact congrArg Host.Outcome.next ((if_pos ⟨hl, hcell⟩).trans ((gated_of_passes hp _ _).trans (if_pos h)))
  · exact congrArg Host.Outcome.next ((if_pos ⟨hl, hcell⟩).trans ((gated_of_passes hp _ _).trans (if_neg (by omega))))
  · exact congrArg Host.Outcome.next (if_pos (by rw [hact, hcell, hs, decide_eq_true hn]; rfl))

/-! ### Launches -/

section
variable {t p n : ℕ}

/-- The command frame of a stroke that is ready in time at its instant (R178). -/
def readyAtLaunch (s : State) (l p n : ℕ) : Option CellCommand :=
  (s.cell l).ready.find? (fun r => r.stroke = n && decide (r.readyAt * 10 + 100 ≤ laneLaunch10 s l p n))

/-- At the instant of a stroke's launch: the frame that is ready is sent, or its lack is counted. -/
theorem exec_cellCommandLaunch (hu : s.tick t = u) (hpub : lanePub u l = some p) (hen : portEn u l = true) (hcell : isCell u l = true)
    (hdue : laneLaunch10 u l p n ≤ u.devTime * 10 + 20) (hsent : (u.cell l).sent.contains n = false) (hper : (u.cell l).period ≠ 0) :
    exec (.cellCommandLaunch t l n) s = .next (match readyAtLaunch u l p n with
      | some r =>
        if cellSends u l || !portActive u l then
          let q := cellSend u l n r.words r.blk false r.ind
          if portActive q l then q.bump (F.LNK_TXFRM (portBlock l)) else q
        else u
      | none => if cellSends u l && !laneSignoff u l then u.bump (F.LNK_WLAN (portBlock l)) else u) := by
  have hexec : exec (.cellCommandLaunch t l n) s = execCellCommandLaunch t l n s := rfl
  rw [hexec, execCellCommandLaunch, hu]
  simp only [hpub]
  rw [if_pos (by rw [hen, hcell, decide_eq_true hdue, hsent, decide_eq_true hper]; rfl)] <;> rfl

theorem exec_cellCommandLaunch_ready {r : CellCommand} (hu : s.tick t = u) (hpub : lanePub u l = some p) (hen : portEn u l = true)
    (hcell : isCell u l = true) (hdue : laneLaunch10 u l p n ≤ u.devTime * 10 + 20) (hsent : (u.cell l).sent.contains n = false)
    (hper : (u.cell l).period ≠ 0) (hr : readyAtLaunch u l p n = some r) (hs : cellSends u l = true)
    (hact : portActive (cellSend u l n r.words r.blk false r.ind) l = true) :
    exec (.cellCommandLaunch t l n) s = .next ((cellSend u l n r.words r.blk false r.ind).bump (F.LNK_TXFRM (portBlock l))) := by
  rw [exec_cellCommandLaunch hu hpub hen hcell hdue hsent hper, hr]
  simp only [hs, hact, Bool.true_or, if_true]

theorem exec_cellCommandLaunch_late (hu : s.tick t = u) (hpub : lanePub u l = some p) (hen : portEn u l = true)
    (hcell : isCell u l = true) (hdue : laneLaunch10 u l p n ≤ u.devTime * 10 + 20) (hsent : (u.cell l).sent.contains n = false)
    (hper : (u.cell l).period ≠ 0) (hr : ∀ r ∈ (u.cell l).ready, r.stroke ≠ n) (hs : cellSends u l = true) (hsign : laneSignoff u l = false) :
    exec (.cellCommandLaunch t l n) s = .next (u.bump (F.LNK_WLAN (portBlock l))) := by
  have hnone : readyAtLaunch u l p n = none := by
    refine List.find?_eq_none.2 fun r hmem => ?_
    rw [decide_eq_false (hr r hmem)]
    exact Bool.false_ne_true
  rw [exec_cellCommandLaunch hu hpub hen hcell hdue hsent hper, hnone]
  simp only [hs, hsign, Bool.not_false, Bool.and_self, if_true]

theorem exec_cellSignoffLaunch {a per ofs clen : ℕ} {image : List ℕ} (hu : s.tick t = u) (hen : portEn u l = true) (hcell : isCell u l = true)
    (hsent : (u.cell l).sent.contains n = false) (hso : (u.cell l).soCopy = some (a, per, ofs, clen, image)) (hact : portActive u l = true)
    (hreset : inChipReset u = false) (hs : cellSends u l = true) (hsign : laneSignoff u l = true) (hper : per ≠ 0)
    (hdue : launch10 a per ofs clen (cellDur10 u l) n ≤ u.devTime * 10 + 20) :
    exec (.cellSignoffLaunch t l n) s = .next ((cellSend u l n image true true false).bump (F.LNK_TXSGN (portBlock l))) := by
  have hexec : exec (.cellSignoffLaunch t l n) s = execCellSignoffLaunch t l n s := rfl
  rw [hexec, execCellSignoffLaunch, hu]
  simp only [hso, hact, hreset, Bool.not_true, Bool.or_self, Bool.false_eq_true, if_false]
  rw [if_pos (by rw [hen, hcell, hs, hsign, decide_eq_true hper, decide_eq_true hdue, hsent, Bool.or_true]; rfl)]

end

theorem cellLaunch : Claims.CellLaunch := by
  intro s t l p n u c b hen hcell hsent
  refine ⟨fun hpub hdue hper => ⟨fun r hr hs hact => ?_, fun hr hs hsign => ?_⟩, fun a per ofs clen image hso hact hreset hs hsign hper hdue => ?_⟩
  · exact exec_cellCommandLaunch_ready rfl hpub hen hcell hdue hsent hper hr hs hact
  · exact exec_cellCommandLaunch_late rfl hpub hen hcell hdue hsent hper hr hs hsign
  · exact exec_cellSignoffLaunch rfl hen hcell hsent hso hact hreset hs hsign hper hdue

/-- Settles O36: received frames are told apart by length, CRC and type, and every launch is at its instant. -/
theorem cellLink : Obligations.CellLink := ⟨cellFrameChecks, cellExchange, cellLaunch⟩

end Sys2Proof.Machine
end

section
/-! PROOFS. The checks of a handle in a doorbell write (R67, R70, R71). -/

namespace Sys2Proof.Machine
open Sys2Proof

variable {s q : State} {t init f seq h r : ℕ} {owner : ℕ → Bool}

/-- A doorbell write that comes at its turn and fails a later check. -/
theorem doorbell_refused {page opc : ℕ} {late : State → Option ℕ} (hr : Rings s init page seq opc h) (hl : late (rung s page seq opc h) = some r) :
    s.doorbell page seq opc h late = ((rung s page seq opc h).ignored page 8 r, false) := by
  rw [doorbell_of_rings hr, hl]

theorem handleCheck_kind {k : HandleSpec} (hk : h / 2 ^ 32 % 16 ≠ k.kind ∨ k.count ≤ h % 2 ^ 20) : handleCheck s k h owner = some 4 := if_pos hk

theorem handleCheck_generation {k : HandleSpec} (hk : h / 2 ^ 32 % 16 = k.kind) (hc : h % 2 ^ 20 < k.count)
    (hg : h / 2 ^ 20 % 4096 ≠ s.gen k.kind (k.slot (h % 2 ^ 20))) : handleCheck s k h owner = some 5 :=
  (if_neg (by omega)).trans (if_pos hg)

theorem handleCheck_owner {k : HandleSpec} (hk : h / 2 ^ 32 % 16 = k.kind) (hc : h % 2 ^ 20 < k.count)
    (hg : h / 2 ^ 20 % 4096 = s.gen k.kind (k.slot (h % 2 ^ 20))) (ho : owner (h % 2 ^ 20) = false) : handleCheck s k h owner = some 6 :=
  (if_neg (by omega)).trans ((if_neg (not_not.2 hg)).trans (if_neg (by rw [ho]; decide)))

theorem subHandleCheck_some (hc : handleCheck s subHandles h (fun i => s.rd (F.SUB_OWNER i) = subHandleCheck.initTen s init) = some r) :
    subHandleCheck s init f h = some r := by
  rw [subHandleCheck, hc]

theorem subDestroy_refused (hr : Rings s init (subPage f) seq 2 h) (hl : subHandleCheck (rung s (subPage f) seq 2 h) init f h = some r) :
    subDestroy s init f seq h = (rung s (subPage f) seq 2 h).ignored (subPage f) 8 r := by
  simp only [subDestroy, doorbell_refused (late := fun s => subHandleCheck s init f h) hr hl]

theorem subSetpol_refused (hr : Rings s init (subPage f) seq 3 h) (hl : subHandleCheck (rung s (subPage f) seq 3 h) init f h = some r) :
    subSetpol s init f seq h = (rung s (subPage f) seq 3 h).ignored (subPage f) 8 r := by
  simp only [subSetpol, doorbell_refused (late := fun s => subHandleCheck s init f h) hr hl]

theorem subCreate_handle (hr : Rings s init (subPage f) seq 1 h) (hh : h ≠ 0) :
    subCreate s init f seq h = (rung s (subPage f) seq 1 h).ignored (subPage f) 8 4 := by
  simp only [subCreate, doorbell_refused (late := fun _ => if h ≠ 0 then some 4 else none) hr (if_pos hh)]

/-- Settles O37: both commands on a handle are ignored for what the check of the handle answers first. -/
theorem handleChecks : Obligations.HandleChecks := by
  intro s t init f seq h u page v
  have key {i : Instr} {opc : ℕ} (hi : ∀ r, subHandleCheck (rung u page seq opc h) init f h = some r →
      exec i s = .next ((rung u page seq opc h).ignored page 8 r)) :
      let q := rung u page seq opc h
      (h / 2 ^ 32 % 16 ≠ 1 ∨ subHandles.count ≤ h % 2 ^ 20 → exec i s = .next (q.ignored page 8 4)) ∧
      (h / 2 ^ 32 % 16 = 1 → h % 2 ^ 20 < subHandles.count → h / 2 ^ 20 % 4096 ≠ q.gen 1 (h % 2 ^ 20) → exec i s = .next (q.ignored page 8 5)) ∧
      (h / 2 ^ 32 % 16 = 1 → h % 2 ^ 20 < subHandles.count → h / 2 ^ 20 % 4096 = q.gen 1 (h % 2 ^ 20) →
        q.rd (F.SUB_OWNER (h % 2 ^ 20)) ≠ (if init < 0x20 then scribeTenant (q.scribe init) else 0) → exec i s = .next (q.ignored page 8 6)) :=
    ⟨fun hk => hi 4 (subHandleCheck_some (handleCheck_kind hk)),
      fun hk hc hg => hi 5 (subHandleCheck_some (handleCheck_generation hk hc hg)),
      fun hk hc hg ho => hi 6 (subHandleCheck_some (handleCheck_owner hk hc hg (decide_eq_false ho)))⟩
  refine ⟨fun hr hh => congrArg Host.Outcome.next ((gatedCmd_of_passes hr.passes _ _ _ _).trans (subCreate_handle hr hh)), fun p hp => ?_⟩
  simp only [List.mem_cons, List.not_mem_nil, or_false] at hp
  rcases hp with rfl | rfl
  · exact fun hr => key fun r hl => congrArg Host.Outcome.next ((gatedCmd_of_passes hr.passes _ _ _ _).trans (subDestroy_refused hr hl))
  · exact fun hr => key fun r hl => congrArg Host.Outcome.next ((gatedCmd_of_passes hr.passes _ _ _ _).trans (subSetpol_refused hr hl))

end Sys2Proof.Machine
end

section
/-! PROOFS. The commands of subscriptions and of stroke domains (R187 to R193, R216 to R219). -/

namespace Sys2Proof.Machine
open Sys2Proof

variable {s q u : State} {t init f seq h i d : ℕ}

/-! ### Accepted commands -/

/-- A doorbell write that comes at its turn and passes every later check. -/
theorem doorbell_accepted {page opc : ℕ} {late : State → Option ℕ} (hr : Rings s init page seq opc h) (hl : late (rung s page seq opc h) = none) :
    s.doorbell page seq opc h late = (accepted s page seq opc h, true) := by
  rw [doorbell_of_rings hr, hl]

theorem subCreate_accepted (hr : Rings s init (subPage f) seq 1 0) :
    subCreate s init f seq 0 =
      let q := accepted s (subPage f) seq 1 0
      let a := subArgs q f
      let ten := if init < 0x20 then scribeTenant (q.scribe init) else 0
      let free := findBelow (fun k => !subLive q (64 * f + k)) 64
      if subRefusal q f ten free a ≠ 0 then q.complete (subPage f) 1 (subRefusal q f ten free a) 0
      else (subMake q (64 * f + free.getD 0) ten a).complete (subPage f) 0 0 (q.handle 1 (64 * f + free.getD 0) (64 * f + free.getD 0)) := by
  simp only [subCreate, doorbell_accepted (late := fun _ => if 0 ≠ 0 then some 4 else none) hr rfl]

theorem subDestroy_accepted (hr : Rings s init (subPage f) seq 2 h) (hl : subHandleCheck (rung s (subPage f) seq 2 h) init f h = none) :
    subDestroy s init f seq h =
      let q := accepted s (subPage f) seq 2 h
      if q.rd (F.SUB_SSTATE_23 (h % 2 ^ 20)) = 2 then q.complete (subPage f) 1 8 0
      else (subFree q (h % 2 ^ 20)).complete (subPage f) 0 0 0 := by
  simp only [subDestroy, doorbell_accepted (late := fun s => subHandleCheck s init f h) hr hl]

theorem subSetpol_accepted (hr : Rings s init (subPage f) seq 3 h) (hl : subHandleCheck (rung s (subPage f) seq 3 h) init f h = none) :
    subSetpol s init f seq h =
      let q := accepted s (subPage f) seq 3 h
      let i := h % 2 ^ 20
      if q.rd (F.SUB_LPOL f) = 3 then q.complete (subPage f) 1 9 0
      else (if q.isSet (F.DOM_RUN (subDom q i)) then
          q.setSub i { q.sub i with setpol := some (nextBoundary q (subDom q i) (q.devTime + 1), q.rd (F.SUB_LPOL f), q.isSet (F.SUB_SIMOK f)) }
        else applySetpol q i (q.rd (F.SUB_LPOL f)) (q.isSet (F.SUB_SIMOK f))).complete (subPage f) 0 0 0 := by
  simp only [subSetpol, doorbell_accepted (late := fun s => subHandleCheck s init f h) hr hl]

theorem exec_subCreate (hp : Passes (s.tick t) init (subPage f) 8 true) : exec (.subCreate t init f seq h) s = .next (subCreate (s.tick t) init f seq h) :=
  congrArg Host.Outcome.next (gatedCmd_of_passes hp _ _ _ _)

theorem exec_subDestroy (hp : Passes (s.tick t) init (subPage f) 8 true) : exec (.subDestroy t init f seq h) s = .next (subDestroy (s.tick t) init f seq h) :=
  congrArg Host.Outcome.next (gatedCmd_of_passes hp _ _ _ _)

theorem exec_subSetpol (hp : Passes (s.tick t) init (subPage f) 8 true) : exec (.subSetpol t init f seq h) s = .next (subSetpol (s.tick t) init f seq h) :=
  congrArg Host.Outcome.next (gatedCmd_of_passes hp _ _ _ _)

theorem subscriptionCommands : Claims.SubscriptionCommands := by
  intro s t init f seq h u page i
  refine ⟨fun hr => ?_, fun hr hl => ?_, fun hr hl => ?_⟩
  · rw [exec_subCreate hr.passes, subCreate_accepted hr]
    intro q a ten free
    refine ⟨fun hrefuse => congrArg Host.Outcome.next (if_pos hrefuse), fun k hok hk => congrArg Host.Outcome.next ((if_neg (not_not.2 hok)).trans ?_)⟩
    rw [show findBelow (fun k => !subLive (accepted u (subPage f) seq 1 0) (64 * f + k)) 64 = some k from hk]
    rfl
  · rw [exec_subDestroy hr.passes, subDestroy_accepted hr hl]
    exact ⟨fun h2 => congrArg Host.Outcome.next (if_pos h2), fun h2 => congrArg Host.Outcome.next (if_neg h2)⟩
  · rw [exec_subSetpol hr.passes, subSetpol_accepted hr hl]
    refine ⟨fun h3 => congrArg Host.Outcome.next (if_pos h3), fun h3 hrun => ?_, fun h3 hrun => ?_⟩
    · exact congrArg Host.Outcome.next ((if_neg h3).trans (congrArg (State.complete · _ 0 0 0) (if_neg fun h => Bool.false_ne_true (hrun.symm.trans h))))
    · exact congrArg Host.Outcome.next ((if_neg h3).trans (congrArg (State.complete · _ 0 0 0) (if_pos hrun)))

/-! ### Stroke domains -/

theorem forEach_same {α σ β : Type} {g : σ → β} {f : σ → α → σ} (hf : ∀ q a, g (f q a) = g q) (l : List α) (s : σ) : g (forEach l s f) = g s := by
  induction l generalizing s with
  | nil => rfl
  | cons a l ih => exact (ih (f s a)).trans (hf s a)

/-- What a domain forgets at its start touches neither the register pages nor the time. -/
theorem strokesForget_same {β : Type} {g : State → β} (hg : ∀ q q' : State, q'.regs = q.regs → q'.tim = q.tim → q'.now = q.now → g q' = g q)
    (s : State) (d : ℕ) : g (strokesForget s d) = g s := by
  unfold strokesForget
  extract_lets other r z s1 s2 s3
  have h1 : g s1 = g s := hg s s1 rfl rfl rfl
  have h2 : g s2 = g s1 := forEach_same (by exact fun q _ => hg q _ rfl rfl rfl) _ s1
  have h3 : g s3 = g s2 := forEach_same (by exact fun q _ => hg q _ rfl rfl rfl) _ s2
  exact (forEach_same (by exact fun q _ => hg q _ rfl rfl rfl) _ s3).trans (h3.trans (h2.trans h1))

theorem strokesForget_regs (s : State) (d : ℕ) : (strokesForget s d).regs = s.regs := strokesForget_same (fun _ _ h _ _ => h) s d

theorem strokesForget_tim (s : State) (d : ℕ) : (strokesForget s d).tim = s.tim := strokesForget_same (fun _ _ _ h _ => h) s d

theorem strokesForget_now (s : State) (d : ℕ) : (strokesForget s d).now = s.now := strokesForget_same (fun _ _ _ _ h => h) s d

/-- A domain that is ready to start (R218). -/
abbrev DomainReady (s : State) (d : ℕ) : Prop :=
  s.isSet (F.DOM_RUN d) = false ∧ domPeriod s d ≠ 0 ∧ graceNs s d + 6000 ≤ domPeriod s d ∧
    s.rd (F.DOM_ANC d) ≤ (timeWord s.devTime).toNat ∧ firstStroke s d < 2 ^ 48

/-- A domain that starts with stroke `n`: it runs, and its first and present stroke are `n`. -/
def domainStarted (s : State) (d n : ℕ) : State :=
  let q := ((s.wr (F.DOM_RUN d) 1).wr (F.DOM_FIRST d) n).wr (F.DOM_CUR d) n
  { q with rul := { q.rul with fresh := insertNat d q.rul.fresh } }

theorem domCtlWrite_start (h : DomainReady s d) : domCtlWrite s d true false = domainStarted (strokesForget s d) d (firstStroke s d) := if_pos h

theorem domCtlWrite_start_refused (h : ¬ DomainReady s d) : domCtlWrite s d true false = s.ignored (4 + d) 67 7 := if_neg h

theorem domainStarted_reads {n : ℕ} (hs : twf s.regs = true) (hn : n < 2 ^ 48) :
    (domainStarted s d n).isSet (F.DOM_RUN d) = true ∧ (domainStarted s d n).rd (F.DOM_FIRST d) = n ∧ (domainStarted s d n).rd (F.DOM_CUR d) = n := by
  have hrun : Reads (s.wr (F.DOM_RUN d) 1) (F.DOM_RUN d) 1 := reads_wr_fit hs (by simp [F.DOM_RUN]) (by simp [F.DOM_RUN])
  have hfirst := reads_wr_fit (f := F.DOM_FIRST d) hrun.regs (by simp [F.DOM_FIRST]) (show n < 2 ^ (F.DOM_FIRST d).len from hn)
  have hcur := reads_wr_fit (f := F.DOM_CUR d) hfirst.regs (by simp [F.DOM_CUR]) (show n < 2 ^ (F.DOM_CUR d).len from hn)
  have apart {f : Fld} (hf : f.addr ≠ (4 + d) * 512 + 69) : FldApart (F.DOM_CUR d) f := .inl hf.symm
  have hregs : (domainStarted s d n).regs = (((s.wr (F.DOM_RUN d) 1).wr (F.DOM_FIRST d) n).wr (F.DOM_CUR d) n).regs := rfl
  refine ⟨?_, ?_, (hcur.of_regs hregs).val⟩
  · have h := (hrun.wr (g := F.DOM_FIRST d) (by simp [F.DOM_FIRST]) (by simp [FldApart, F.DOM_FIRST, F.DOM_RUN]) n).wr
      (g := F.DOM_CUR d) (by simp [F.DOM_CUR]) (apart (by simp [F.DOM_RUN])) n
    exact decide_eq_true (h.of_regs hregs).val
  · exact ((hfirst.wr (g := F.DOM_CUR d) (by simp [F.DOM_CUR]) (apart (by simp [F.DOM_FIRST])) n).of_regs hregs).val

theorem domainStarted_devTime (n : ℕ) : (domainStarted s d n).devTime = s.devTime := rfl

theorem exec_domainParamWrite {off : ℕ} {v : Word} : exec (.domainParamWrite t init d off v) s = .next (domParamWrite (s.tick t) d off v) := rfl

theorem domParamWrite_anchor {v : Word} (h : ¬ s.isSet (F.DOM_RUN d) = true) :
    domParamWrite s d 65 v =
      if (wordTime v).isNone then s.ignored (4 + d) 65 7 else domSubsEval (s.wr (F.DOM_ANC d) v.toNat) d := by
  rw [domParamWrite, if_neg h, if_neg (by decide), if_pos rfl]

theorem domParamWrite_grace {v : Word} (h : ¬ s.isSet (F.DOM_RUN d) = true) :
    domParamWrite s d 66 v =
      if 5000 < getField v 0 13 then s.ignored (4 + d) 66 7 else s.wr (F.DOM_GRC d) (getField v 0 13) := by
  rw [domParamWrite, if_neg h, if_neg (by decide), if_neg (by decide), if_pos rfl]

theorem domCtlWrite_stop (hf : liveFns s = []) (hsub : liveSubs (s.wr (F.DOM_RUN d) 0) = []) :
    domCtlWrite s d false true =
      let v := s.wr (F.DOM_RUN d) 0
      let q : State := { v with rul := { v.rul with fresh := v.rul.fresh.filter (fun e => e ≠ d) } }
      forEach (cellLanes q d) q.domainsStopped periodNow := by
  rw [domCtlWrite, if_neg (by decide), if_neg (by decide), if_pos rfl, hf, List.any_nil, if_neg Bool.false_ne_true]
  generalize s.wr (F.DOM_RUN d) 0 = v at hsub
  have hlive : liveSubs { v with rul := { v.rul with fresh := v.rul.fresh.filter (fun e => e ≠ d) } } = [] := hsub
  dsimp only at hlive ⊢
  rw [hlive, List.foldl_nil]

theorem domainControl : Claims.DomainControl := by
  intro s t init d off v u
  refine ⟨fun hrun => congrArg Host.Outcome.next (if_pos hrun), fun hrun => ?_, ⟨fun hn => congrArg Host.Outcome.next (domCtlWrite_start_refused hn),
    fun hready hs hd => ?_⟩, fun ⟨i, hi, hp, hdom⟩ => ?_, fun hf hsub => ?_⟩
  · have hidle : ¬ u.isSet (F.DOM_RUN d) = true := by rw [hrun]; decide
    refine ⟨fun h0 hr => ?_, fun hw => ?_, fun hw => ?_, fun hg => ?_, fun hg => ?_⟩
    · exact congrArg Host.Outcome.next ((if_neg hidle).trans ((if_pos rfl).trans (if_pos ⟨h0, hr⟩)))
    · rw [exec_domainParamWrite, domParamWrite_anchor hidle, hw, if_pos Option.isNone_none]
    · rw [exec_domainParamWrite, domParamWrite_anchor hidle, if_neg (by rwa [Option.isNone_iff_eq_none])]
    · rw [exec_domainParamWrite, domParamWrite_grace hidle, if_pos hg]
    · rw [exec_domainParamWrite, domParamWrite_grace hidle, if_neg (Nat.not_lt.2 hg)]
  · refine ⟨_, congrArg Host.Outcome.next (domCtlWrite_start hready), ?_⟩
    obtain ⟨hrun, hfirst, hcur⟩ := domainStarted_reads (s := strokesForget u d) (d := d) (by rw [strokesForget_regs]; exact hs.regs) hready.2.2.2.2
    exact ⟨hrun, hfirst, hcur, (domainStarted_devTime _).trans (devTime_of (strokesForget_tim _ d) (strokesForget_now _ d))⟩
  · have hany : ((liveFns u).any fun i => isPlaced u i && decide ((u.fn i).desc.dom = d)) = true :=
      List.any_eq_true.2 ⟨i, hi, by rw [hp, decide_eq_true hdom]; rfl⟩
    exact congrArg Host.Outcome.next (if_pos hany)
  · exact congrArg Host.Outcome.next (domCtlWrite_stop hf hsub)

/-- Settles O39: an accepted command is refused for its first check that fails or performed; a domain starts at its next stroke. -/
theorem subscriptionsAndDomains : Obligations.SubscriptionsAndDomains := ⟨subscriptionCommands, domainControl⟩

end Sys2Proof.Machine
end

section
/-! PROOFS. Strokes: their instants, the arrival of samples, and their close (R200 to R230). -/

namespace Sys2Proof.Machine
open Sys2Proof

variable {s u : State} {t i n f d b : ℕ}

/-! ### Instants -/

theorem strokeOpen_early (h : s.devTime < openAt s d (nextOpen s d) ∨ s.isSet (F.DOM_RUN d) = false) : strokeOpen s d = s := by
  refine if_neg ?_
  rcases h with h | h
  · rw [decide_eq_false (Nat.not_le.2 h), Bool.and_false]
    exact Bool.false_ne_true
  · rw [h, Bool.false_and]
    exact Bool.false_ne_true

theorem passCutoff_dead (h : subLive s i = false) : passCutoff s i = s := by
  rw [passCutoff, h, Bool.false_and, Bool.false_and, if_neg Bool.false_ne_true]

theorem passCutoff_due (hlive : subLive s i = true) (hty : subType s i = 2 ∨ (subType s i = 1 ∧ subAlign s i = true))
    (hact : recvActive s i = true) (hn : cutStroke s (subDom s i) = some n) (hcut : (s.sub i).cut ≤ n)
    (hsince : (s.sub i).since ≤ openAt s (subDom s i) n - 1000 + 1) : passCutoff s i = subCut s i n := by
  have htype : (decide (subType s i = 2) || (decide (subType s i = 1) && subAlign s i)) = true := by
    rcases hty with h | ⟨h, ha⟩
    · rw [decide_eq_true h, Bool.true_or]
    · rw [decide_eq_true h, ha, Bool.and_self, Bool.or_true]
  rw [passCutoff, hlive, htype, hact, if_pos (by rfl), hn]
  exact if_pos ⟨hcut, hsince⟩

theorem passSubDeadline_early (h : s.devTime < subDeadline s i n) : passSubDeadline s i n = s :=
  if_neg (by rw [decide_eq_false (Nat.not_le.2 h), Bool.and_false, Bool.false_and]; exact Bool.false_ne_true)

theorem passSubDeadline_due (hd : subDecides s i n = true) (hdue : subDeadline s i n ≤ s.devTime) (hsince : (s.sub i).since ≤ subDeadline s i n + 1) :
    passSubDeadline s i n = subDecide s i n :=
  if_pos (by rw [hd, decide_eq_true hdue, decide_eq_true hsince]; rfl)

theorem strokeInstants : Claims.StrokeInstants := by
  intro s t d i n u
  refine ⟨fun h => congrArg Host.Outcome.next (strokeOpen_early h), fun _ _ => rfl, fun c hc => ?_,
    fun h => congrArg Host.Outcome.next (passSubDeadline_early h), fun hd hdue hs => congrArg Host.Outcome.next (passSubDeadline_due hd hdue hs)⟩
  have hexec : exec c s = .next (passCutoff u i) := by
    simp only [List.mem_cons, List.not_mem_nil, or_false] at hc
    rcases hc with rfl | rfl <;> rfl
  rw [hexec]
  exact ⟨fun h => congrArg Host.Outcome.next (passCutoff_dead h),
    fun hl hty hact hn hcut hsince => congrArg Host.Outcome.next (passCutoff_due hl hty hact hn hcut hsince)⟩

/-! ### Samples -/

/-- The sample message of a subscription's stroke to a ferrule. -/
def isSample (f b n : ℕ) (m : SampleMsg) : Bool := m.ferrule = f && m.sub = b && m.stroke = n

/-- The state with a sample message taken out of the mesh. -/
def sampleTaken (s : State) (f b n : ℕ) : State :=
  { s with rul := { s.rul with samples := s.rul.samples.filter (fun q => !isSample f b n q) } }

theorem exec_sampleMessageArrive_none (hu : s.tick t = u) (h : u.rul.samples.find? (isSample f b n) = none) :
    exec (.sampleMessageArrive t f b n) s = .next u := by
  have hexec : exec (.sampleMessageArrive t f b n) s = execSampleMessageArrive t f b n s := rfl
  unfold isSample at h
  rw [hexec, execSampleMessageArrive, hu]
  simp only [h]

theorem exec_sampleMessageArrive_some {m : SampleMsg} (hu : s.tick t = u) (h : u.rul.samples.find? (isSample f b n) = some m) :
    exec (.sampleMessageArrive t f b n) s = .next (
      let q := sampleTaken u f b n
      let d := subDom q b
      let fd := q.ferDom f d
      if ferRun q f = false ∨ n < fd.closed then q
      else (putFrame q f b n (frameHead n m.pres false) m.words).setFerDom f d
        { fd with arrived := fd.arrived.filter (fun e => !(decide (e.1 = b) && decide (e.2.1 = n))) ++ [(b, n, m.pres, q.devTime)] }) := by
  have hexec : exec (.sampleMessageArrive t f b n) s = execSampleMessageArrive t f b n s := rfl
  unfold isSample at h
  rw [hexec, execSampleMessageArrive, hu]
  simp only [h] <;> rfl

theorem sampleArrival : Claims.SampleArrival := by
  intro s t f b n m u is q d fd
  refine ⟨fun h => exec_sampleMessageArrive_none rfl h, fun h hlate => ?_, fun h hrun hopen => ?_⟩
  · exact (exec_sampleMessageArrive_some rfl h).trans (congrArg Host.Outcome.next (if_pos hlate))
  · refine (exec_sampleMessageArrive_some rfl h).trans (congrArg Host.Outcome.next (if_neg ?_))
    rintro (h' | h')
    · exact Bool.false_ne_true (h'.symm.trans hrun)
    · exact Nat.not_lt.2 hopen h'

/-! ### The close of a stroke -/

/-- The members of a stroke on a ferrule whose samples its close waits for (R224). -/
def closeMembers (s : State) (f d n : ℕ) : List ℕ :=
  ((fnsFor s f d n).foldl (fun l q => (s.fn q.1).subs.foldl (fun l b => insertNat b l) l) []).filter (subClosure s)

/-- The times at which the members' samples arrived. -/
def closeTimes (s : State) (f d n : ℕ) : List (Option ℕ) :=
  (closeMembers s f d n).map fun b => ((s.ferDom f d).arrived.find? (fun e => e.1 = b && e.2.1 = n)).map (fun e => e.2.2.2)

/-- The instant at which a stroke closes on a ferrule: its deadline, or from its opening on once no member is missing (R225). -/
def closeInstant (s : State) (f d n : ℕ) : ℕ :=
  max (openAt s d n) (if (closeTimes s f d n).all (fun t => t.isSome)
    then min (deadlineAt s d n) ((closeTimes s f d n).foldl (fun a t => max a (t.getD 0)) 0) else deadlineAt s d n)

theorem strokeClose_none (h : nextClose s f d = none) : strokeClose s f d = s := by
  rw [strokeClose, h]

theorem strokeClose_some (h : nextClose s f d = some n) :
    strokeClose s f d =
      if s.devTime < closeInstant s f d n then s
      else if !ferRun s f then closeSkipped s f d n
      else if runsLeft s f d then s
      else closeNow s f d n (closeInstant s f d n = deadlineAt s d n) := by
  rw [strokeClose, h]
  rfl

theorem openAt_le_deadlineAt : openAt s d n ≤ deadlineAt s d n := Nat.le_add_right _ _

theorem closeInstant_ge_open : openAt s d n ≤ closeInstant s f d n := le_max_left _ _

theorem closeInstant_le_deadline : closeInstant s f d n ≤ deadlineAt s d n := by
  refine max_le openAt_le_deadlineAt ?_
  split
  · exact min_le_left _ _
  · exact le_refl _

theorem closeInstant_of_missing (h : ∃ b ∈ closeMembers s f d n, ((s.ferDom f d).arrived.any fun e => e.1 = b && e.2.1 = n) = false) :
    closeInstant s f d n = deadlineAt s d n := by
  obtain ⟨b, hb, hmiss⟩ := h
  have hnone : (s.ferDom f d).arrived.find? (fun e => e.1 = b && e.2.1 = n) = none := by
    rwa [← Option.isNone_iff_eq_none, ← Option.not_isSome, List.isSome_find?, Bool.not_eq_true', ← Bool.not_eq_true, Bool.not_eq_true]
  have hfull : (closeTimes s f d n).all (fun t => t.isSome) = false := by
    refine List.all_eq_false.2 ⟨none, List.mem_map.2 ⟨b, hb, by rw [hnone]; rfl⟩, Bool.false_ne_true⟩
  rw [closeInstant, hfull, if_neg Bool.false_ne_true, Nat.max_eq_right openAt_le_deadlineAt]

theorem closeInstant_of_nobody (h : closeMembers s f d n = []) : closeInstant s f d n = openAt s d n := by
  rw [closeInstant, closeTimes, h]
  simp

theorem strokeCloseResult : Claims.StrokeCloseResult := by
  intro s t f d n u members arrived
  have hexec : exec (.strokeClose t f d) s = .next (strokeClose u f d) := rfl
  rw [hexec]
  refine ⟨fun h => congrArg Host.Outcome.next (strokeClose_none h), fun h hwait => ?_, fun h hdue hdown => ?_, fun h hmiss => ⟨fun hdue => ?_,
    fun hdue hrun hleft => ?_⟩, fun h hnone hdue hrun hleft => ?_⟩
  all_goals
    rw [strokeClose_some h]
    refine congrArg Host.Outcome.next ?_
  · rcases hwait with hlt | ⟨hrun, hleft⟩
    · exact if_pos (hlt.trans_le closeInstant_ge_open)
    · rw [hrun, hleft, Bool.not_true, if_neg Bool.false_ne_true, if_pos rfl, ite_self]
  · rw [if_neg (Nat.not_lt.2 (closeInstant_le_deadline.trans hdue)), hdown, if_pos (by rfl)]
  · rw [closeInstant_of_missing hmiss, if_pos hdue]
  · rw [closeInstant_of_missing hmiss, if_neg (Nat.not_lt.2 hdue), hrun, hleft, Bool.not_true, if_neg Bool.false_ne_true, if_neg Bool.false_ne_true,
      decide_eq_true rfl]
  · rw [closeInstant_of_nobody hnone, if_neg (Nat.not_lt.2 hdue), hrun, hleft, Bool.not_true, if_neg Bool.false_ne_true, if_neg Bool.false_ne_true]

/-- Settles O40: strokes open, are cut and decided at their instants; the close comes when no sample is missing, or at the deadline. -/
theorem strokes : Obligations.Strokes := ⟨strokeInstants, sampleArrival, strokeCloseResult⟩

end Sys2Proof.Machine
end

section
/-! PROOFS. Results at the egress points, their deadlines, and parity errors on the mesh (R271, R272, R317 to R339). -/

namespace Sys2Proof.Machine
open Sys2Proof

variable {s u : State} {t fn tw p n : ℕ}

/-! ### Arrivals -/

/-- A message of a twin's results to an egress point: its output or its error notice. -/
def isOutput (fn tw p n : ℕ) (err : Bool) (m : OutMsg) : Bool :=
  m.fn = fn && m.twin = tw && m.point = p && m.stroke = n && (m.err == err) && !m.shadow

/-- A message that a shadow run sends to an egress point. -/
def isShadow (fn tw p n : ℕ) (m : OutMsg) : Bool := m.fn = fn && m.twin = tw && m.point = p && m.stroke = n && m.shadow

def outputTaken (s : State) (is : OutMsg → Bool) : State :=
  { s with rul := { s.rul with outputs := s.rul.outputs.filter (fun q => !is q) } }

theorem arrive_none {err : Bool} (h : s.rul.outputs.find? (isOutput fn tw p n err) = none) : arrive s fn tw p n err = s := by
  unfold isOutput at h
  simp only [arrive, h]

theorem arrive_some {err : Bool} {m : OutMsg} (h : s.rul.outputs.find? (isOutput fn tw p n err) = some m) :
    arrive s fn tw p n err = deliver (outputTaken s (isOutput fn tw p n err)) m := by
  unfold isOutput at h ⊢
  simp only [arrive, h, outputTaken]

def isDecision (fn tw n : ℕ) (d : ℕ × ℕ × ℕ × Bool × Bool) : Bool := d.1 = fn && d.2.1 = tw && d.2.2.1 = n

theorem exec_twinDecisionArrive {a b : Bool} (hu : s.tick t = u) (h : u.rul.decisions.find? (isDecision fn tw n) = some (fn, tw, n, a, b)) :
    exec (.twinDecisionArrive t fn tw n) s = .next
      (takeDecision { u with rul := { u.rul with decisions := u.rul.decisions.filter (fun d => !isDecision fn tw n d) } } fn tw n a b) := by
  have hexec : exec (.twinDecisionArrive t fn tw n) s = execTwinDecisionArrive t fn tw n s := rfl
  unfold isDecision at h ⊢
  rw [hexec, execTwinDecisionArrive, hu]
  simp only [h]

def isLeg (fn p n : ℕ) (d : ℕ × ℕ × ℕ × Option (List Word)) : Bool := d.1 = fn && d.2.1 = p && d.2.2.1 = n

theorem exec_gatewayLegArrive {r : Option (List Word)} (hu : s.tick t = u) (h : u.rul.legs.find? (isLeg fn p n) = some (fn, p, n, r)) :
    exec (.gatewayLegArrive t fn p n) s = .next (
      let q := passDeadline { u with rul := { u.rul with legs := u.rul.legs.filter (fun d => !isLeg fn p n d) } } fn p n 1
      if n < decidedAt q fn p then q.bump (F.RUL_NLOUT fn) else usePoint q fn p n (r.map (fun ws => (ws, 0)))) := by
  have hexec : exec (.gatewayLegArrive t fn p n) s = execGatewayLegArrive t fn p n s := rfl
  unfold isLeg at h ⊢
  rw [hexec, execGatewayLegArrive, hu]
  simp only [h]

theorem exec_shadowMessageArrive {m : OutMsg} (hu : s.tick t = u) (h : u.rul.outputs.find? (isShadow fn tw p n) = some m) :
    exec (.shadowMessageArrive t fn tw p n) s = .next (
      let q := outputTaken u (isShadow fn tw p n)
      if decide (p < 64) && !ferRun q p then q
      else match (q.fn fn).move with
        | some v =>
          if v.ns ≠ n then q
          else if openAt q (q.fn fn).desc.dom n + shadowEdlNs q fn p < q.devTime then shadowNote q fn tw p false
          else shadowSettle { q with rul := { q.rul with shadows := q.rul.shadows ++ [m] } } fn p
        | none => q) := by
  have hexec : exec (.shadowMessageArrive t fn tw p n) s = execShadowMessageArrive t fn tw p n s := rfl
  unfold isShadow at h ⊢
  rw [hexec, execShadowMessageArrive, hu]
  simp only [h, outputTaken] <;> rfl

theorem exec_shadowMessageArrive_gateway {m : OutMsg} {v : Move} (hu : s.tick t = u) (h : u.rul.outputs.find? (isShadow fn tw p n) = some m) (hp : 64 ≤ p)
    (hv : ((outputTaken u (isShadow fn tw p n)).fn fn).move = some v) (hn : v.ns = n) :
    exec (.shadowMessageArrive t fn tw p n) s = .next (
      let q := outputTaken u (isShadow fn tw p n)
      if openAt q (q.fn fn).desc.dom n + shadowEdlNs q fn p < q.devTime then shadowNote q fn tw p false
      else shadowSettle { q with rul := { q.rul with shadows := q.rul.shadows ++ [m] } } fn p) := by
  rw [exec_shadowMessageArrive hu h]
  dsimp only
  rw [if_neg (by rw [decide_eq_false (Nat.not_lt.2 hp), Bool.false_and]; exact Bool.false_ne_true), hv]
  exact congrArg Host.Outcome.next (if_neg (not_not.2 hn))

theorem egressArrivals : Claims.EgressArrivals := by
  intro s t fn tw p n u
  refine ⟨fun e he => ?_, fun a b => ?_, fun r => ?_, fun m => ?_⟩
  · have hexec : exec e.1 s = .next (arrive u fn tw p n e.2) := by
      simp only [List.mem_cons, List.not_mem_nil, or_false] at he
      rcases he with rfl | rfl <;> rfl
    rw [hexec]
    exact ⟨fun h => congrArg Host.Outcome.next (arrive_none h), fun m h => congrArg Host.Outcome.next (arrive_some h)⟩
  · exact fun h => exec_twinDecisionArrive rfl h
  · intro is h q
    exact ⟨fun hlate => (exec_gatewayLegArrive rfl h).trans (congrArg Host.Outcome.next (if_pos hlate)),
      fun hopen => (exec_gatewayLegArrive rfl h).trans (congrArg Host.Outcome.next (if_neg (Nat.not_lt.2 hopen)))⟩
  · intro is q h
    refine ⟨fun hp hdown => ?_, fun hp v hv hn hlate => ?_, fun hp v hv hn hopen => ?_⟩
    · refine (exec_shadowMessageArrive rfl h).trans (congrArg Host.Outcome.next (if_pos ?_))
      rw [decide_eq_true hp, show ferRun (outputTaken u (isShadow fn tw p n)) p = false from hdown]
      rfl
    · exact (exec_shadowMessageArrive_gateway rfl h hp hv hn).trans (congrArg Host.Outcome.next (if_pos hlate))
    · exact (exec_shadowMessageArrive_gateway rfl h hp hv hn).trans (congrArg Host.Outcome.next (if_neg (Nat.not_lt.2 hopen)))

/-! ### Deadlines -/

theorem deadlineLost_early (h : deadlinePast s fn p n 0 = false) : deadlineLost s fn p n = s :=
  if_neg (by rw [h, Bool.false_and]; exact Bool.false_ne_true)

/-- A point out of RUN that lets its deadline pass has the stroke behind it. -/
theorem decidedAt_deadlineLost (h : deadlinePast s fn p n 0 = true) (hp : pointRuns s p = false) : decidedAt (deadlineLost s fn p n) fn p = n + 1 := by
  have hlost : deadlineLost s fn p n =
      let q := setDecided s fn p n
      if p = lowestPoint q (q.fn fn) then { q with rul := { q.rul with unsent := tset q.rul.unsent fn (n + 1) } } else q :=
    if_pos (by rw [h, hp]; rfl)
  have hset : tget (setDecided s fn p n).rul.decided (fn * 128 + p) = n + 1 := tget_tset_of_ne _ _ (Nat.succ_ne_zero n)
  rw [hlost]
  dsimp only
  split
  · exact hset
  · exact hset

theorem egressDeadlines : Claims.EgressDeadlines := by
  intro s t fn p n u
  have hcompare : exec (.twinCompareDeadline t fn p n) s = .next (
      if deadlineDue u fn p n 0 && !runsSolo (u.fn fn) && decide (p < 64) then compareDeadline u fn p n else deadlineLost u fn p n) := rfl
  have hegress : exec (.egressDeadline t fn p n) s = .next (
      if deadlineDue u fn p n 0 && (runsSolo (u.fn fn) || decide (64 ≤ p)) then usePoint u fn p n none
      else if runsSolo (u.fn fn) then deadlineLost u fn p n else u) := rfl
  rw [hcompare, hegress]
  refine ⟨fun h => ?_, fun h hp hsolo => ?_, fun h hp hsolo => ?_, fun h hsolo hp => ?_, fun h hsolo => ?_⟩
  · have hdue : deadlineDue u fn p n 0 = false := by rw [deadlineDue, h, Bool.false_and]
    simp only [hdue, Bool.false_and, Bool.false_eq_true, if_false, deadlineLost_early h, ite_self, and_self]
  · have hdue : deadlineDue u fn p n 0 = false := by rw [deadlineDue, hp, Bool.and_false]
    refine ⟨?_, fun _ => decidedAt_deadlineLost h hp⟩
    simp only [hdue, hsolo, Bool.false_and, Bool.false_eq_true, if_false, if_true]
  · have hdue : deadlineDue u fn p n 0 = false := by rw [deadlineDue, hp, Bool.and_false]
    simp only [hdue, Bool.false_and, Bool.false_eq_true, if_false]
  · refine congrArg Host.Outcome.next (if_pos ?_)
    rw [h, hsolo, decide_eq_true hp]
    rfl
  · refine congrArg Host.Outcome.next (if_pos ?_)
    rcases hsolo with hsolo | hp
    · rw [h, hsolo, Bool.true_or, Bool.and_self]
    · rw [h, decide_eq_true hp, Bool.or_true, Bool.and_self]

/-! ### Parity errors on the mesh -/

section
variable {r port slot : ℕ}

theorem exec_flitParityError {bad : Bool} (hu : s.tick t = u) (h1 : 2 ^ 13 ≤ slotEntry u (8 * r + port) slot) (h2 : slotEntry u (8 * r + port) slot < 2 ^ 14)
    (hn : flowStroke u (tget u.rul.flows (slotEntry u (8 * r + port) slot % 2 ^ 13)) = some n) :
    exec (.flitParityError t r port slot bad) s = .next (
      let q := u.bump (F.MSH_RETX (r / 4) (r % 4) port)
      if bad then loseMessage ((q.bump (F.MSH_LOST (r / 4) (r % 4) port)).pageErr (0x10 + r / 4) 0x10 (16 + 8 * (r % 4) + port)
          (r % 4 + port * 4 + slotEntry u (8 * r + port) slot % 2 ^ 13 * 2 ^ 5))
        (tget u.rul.flows (slotEntry u (8 * r + port) slot % 2 ^ 13)) (8 * r + port) n
      else q) := by
  have hexec : exec (.flitParityError t r port slot bad) s = execFlitParityError t r port slot bad s := rfl
  rw [hexec, execFlitParityError, hu]
  dsimp only
  rw [if_neg (by omega), hn]

theorem exec_flitParityError_idle {bad : Bool} (hu : s.tick t = u) (h : slotEntry u (8 * r + port) slot < 2 ^ 13) :
    exec (.flitParityError t r port slot bad) s = .next u := by
  have hexec : exec (.flitParityError t r port slot bad) s = execFlitParityError t r port slot bad s := rfl
  rw [hexec, execFlitParityError, hu]
  exact congrArg Host.Outcome.next (if_pos (.inl h))

end

theorem flitParity : Claims.FlitParity := by
  intro s t r port slot n u e fl
  refine ⟨fun h bad => exec_flitParityError_idle rfl h, fun h1 h2 hn => ⟨?_, ?_⟩⟩
  · exact (exec_flitParityError rfl h1 h2 hn).trans (congrArg Host.Outcome.next (if_neg Bool.false_ne_true))
  · exact (exec_flitParityError rfl h1 h2 hn).trans (congrArg Host.Outcome.next (if_pos rfl))

/-- Settles O42: each message is taken out as it arrives; a deadline decides once. -/
theorem egress : Obligations.Egress := ⟨egressArrivals, egressDeadlines, flitParity⟩

end Sys2Proof.Machine
end

section
/-! PROOFS. The ruler: its commands, its events and the loading of functions (R304 to R312). -/

namespace Sys2Proof.Machine
open Sys2Proof

variable {s u q : State} {t init seq h opc f n : ℕ} {c : RulCmd}

/-! ### Commands -/

/-- The command that an accepted doorbell write gives the ruler. -/
def rulCmdOf (q : State) (init opc h : ℕ) : RulCmd :=
  { opc := opc, cmd := q.word (F.DBL_SEQ 4).addr, index := h % 2 ^ 20, arg := q.word (4 * 512 + 10), init := init, tenant := initTenant q init }

/-- A doorbell write of the ruler that no later check refuses: with no handle where the command makes one or names none, else with the
handle of a function of the tenant's. -/
def RulerTakes (v : State) (init opc h : ℕ) : Prop :=
  (h = 0 ∧ (opc = 1 ∨ opc = 5 ∨ opc = 6)) ∨
    ((handleCheck v fnHandles h (fun i => v.rd (F.RUL_TEN i) = initTenant v init) = none ∧ v.rd (F.RUL_FST (h % 2 ^ 20)) ≠ 0 ∧
      v.rd (F.TEN_TSTATE (v.rd (F.RUL_TEN (h % 2 ^ 20)))) ≠ 3) ∧ 2 ≤ opc ∧ opc ≤ 4)

/-- A command that the ruler takes (R304): it starts at once when no event waits, else it is queued behind them. -/
def cmdTaken (q : State) (c : RulCmd) : State :=
  if q.rul.events.isEmpty then startCmd q c else { q with rul := { q.rul with cmd := some c } }.rulEvent .command

theorem rulDoorbell_accepted (hidle : s.rd (F.DBL_STATE 4) ≠ 1) (hseq : seq % 256 = s.rd (F.HDR_SEQ 4)) (ht : RulerTakes (rung s 4 seq opc h) init opc h) :
    rulDoorbell s init seq opc h = cmdTaken (accepted s 4 seq opc h) (rulCmdOf (accepted s 4 seq opc h) init opc h) := by
  unfold rulDoorbell
  extract_lets late
  have hlate : late (rung s 4 seq opc h) = none := by
    rcases ht with ⟨rfl, ho⟩ | ⟨⟨hc, hf, ht⟩, h2, h4⟩
    · exact (if_pos ho).trans (if_neg (by decide))
    · refine (if_neg (by omega)).trans ?_
      rw [hc]
      exact if_neg (not_or.2 ⟨hf, ht⟩)
  rw [doorbell_accepts hidle hseq hlate]
  generalize accepted s 4 seq opc h = q
  rfl

/-- A command that starts: the ruler works on it. -/
def cmdStarted (q : State) (c : RulCmd) : State := { q with rul := { q.rul with cmd := some { c with started := true } } }

theorem startCmd_wake (ho : c.opc = 1 ∨ (c.opc = 3 ∧ fnBusy (cmdStarted q c) c = false)) :
    startCmd q c = wakeFerrule (cmdStarted q c) (getField c.arg 0 6) := if_pos ho

/-- What a command that reads no staging area does once it is in the history. -/
def cmdDone (s : State) (c : RulCmd) : State :=
  let i := c.index
  let f := getField c.arg 0 6
  let n := getField c.arg 6 5
  let inService := decide (n < 18) && bitOf (s.rd (F.RUL_SVC f)) n
  if (decide (2 ≤ c.opc) && decide (c.opc ≤ 4)) && fnBusy s c then endCmd s 3 0x21 0
  else if c.opc = 2 then endCmd (destroyFn (logCmd s c i []) i) 0 0 0
  else if c.opc = 4 then
    let x := s.fn i
    let m := getField c.arg 0 48
    if m ≤ curStroke s x.desc.dom then endCmd s 3 0x22 0
    else endCmd (s.setFn i { x with ckpt := some m }) (if x.ckpt.isSome then 0x81 else 0) 0 0
  else if c.init ≠ 0x20 then endCmd s 3 0x20 0
  else if c.opc = 5 then (if inService then endCmd (nibOut s f n) 0 0 0 else endCmd s 3 0x23 0)
  else if n < 18 ∧ inService = false then endCmd (histAll (enterService s f n) [faultWord 3 f n]) 0 0 0
  else endCmd s 3 0x23 0

theorem startCmd_done (ho : ¬ (c.opc = 1 ∨ (c.opc = 3 ∧ fnBusy (cmdStarted q c) c = false))) :
    startCmd q c = afterEvent (cmdDone (histCmd (cmdStarted q c) [c.cmd, c.arg]) c) := if_neg ho

theorem cmdDone_busy (h2 : 2 ≤ c.opc) (h4 : c.opc ≤ 4) (hb : fnBusy s c = true) : cmdDone s c = endCmd s 3 0x21 0 :=
  if_pos (by rw [decide_eq_true h2, decide_eq_true h4, hb]; rfl)

/-- A command on a function that is free to take it, or on no function. -/
abbrev Unhindered (s : State) (c : RulCmd) : Prop := ¬ ((decide (2 ≤ c.opc) && decide (c.opc ≤ 4)) && fnBusy s c) = true

theorem unhindered_of_idle (hb : fnBusy s c = false) : Unhindered s c := by
  rw [Unhindered, hb, Bool.and_false]
  exact Bool.false_ne_true

theorem unhindered_of_service (ho : c.opc = 5 ∨ c.opc = 6) : Unhindered s c := by
  have h4 : decide (c.opc ≤ 4) = false := decide_eq_false (by omega)
  rw [Unhindered, h4, Bool.and_false, Bool.false_and]
  exact Bool.false_ne_true

theorem cmdDone_destroy (hb : Unhindered s c) (ho : c.opc = 2) : cmdDone s c = endCmd (destroyFn (logCmd s c c.index []) c.index) 0 0 0 :=
  (if_neg hb).trans (if_pos ho)

theorem cmdDone_checkpoint (hb : Unhindered s c) (ho : c.opc = 4) :
    cmdDone s c = if getField c.arg 0 48 ≤ curStroke s (s.fn c.index).desc.dom then endCmd s 3 0x22 0
      else endCmd (s.setFn c.index { s.fn c.index with ckpt := some (getField c.arg 0 48) }) (if (s.fn c.index).ckpt.isSome then 0x81 else 0) 0 0 :=
  (if_neg hb).trans ((if_neg (by omega)).trans (if_pos ho))

theorem cmdDone_notManagement (ho : c.opc = 5 ∨ c.opc = 6) (hi : c.init ≠ 0x20) : cmdDone s c = endCmd s 3 0x20 0 :=
  (if_neg (unhindered_of_service ho)).trans ((if_neg (by omega)).trans ((if_neg (by omega)).trans (if_pos hi)))

theorem cmdDone_nibout (ho : c.opc = 5) (hi : c.init = 0x20) :
    cmdDone s c = if decide (getField c.arg 6 5 < 18) && bitOf (s.rd (F.RUL_SVC (getField c.arg 0 6))) (getField c.arg 6 5)
      then endCmd (nibOut s (getField c.arg 0 6) (getField c.arg 6 5)) 0 0 0 else endCmd s 3 0x23 0 :=
  (if_neg (unhindered_of_service (.inl ho))).trans ((if_neg (by omega)).trans ((if_neg (by omega)).trans ((if_neg (not_not.2 hi)).trans (if_pos ho))))

theorem cmdDone_nibin (ho : c.opc = 6) (hi : c.init = 0x20) (hn : getField c.arg 6 5 < 18)
    (hs : bitOf (s.rd (F.RUL_SVC (getField c.arg 0 6))) (getField c.arg 6 5) = false) :
    cmdDone s c = endCmd (histAll (enterService s (getField c.arg 0 6) (getField c.arg 6 5))
      [faultWord 3 (getField c.arg 0 6) (getField c.arg 6 5)]) 0 0 0 :=
  (if_neg (unhindered_of_service (.inr ho))).trans ((if_neg (by omega)).trans ((if_neg (by omega)).trans ((if_neg (not_not.2 hi)).trans
    ((if_neg (by omega)).trans (if_pos ⟨hn, by rw [hs, Bool.and_false]⟩)))))

theorem rulerCommands : Claims.RulerCommands := by
  intro s t init seq h opc u v q c f n went free held hidle hseq htake i hi
  have hexec : exec i s = .next (rulDoorbell u init seq opc h) := by
    simp only [List.mem_cons, Prod.mk.injEq, List.not_mem_nil, or_false] at hi
    rcases hi with ⟨rfl, rfl⟩ | ⟨rfl, rfl⟩ | ⟨rfl, rfl⟩ | ⟨rfl, rfl⟩ | ⟨rfl, rfl⟩ | ⟨rfl, rfl⟩ <;> rfl
  have hbell := rulDoorbell_accepted (init := init) hidle hseq htake
  rw [hexec, hbell]
  have hopc : c.opc = opc := rfl
  have hcinit : c.init = init := rfl
  refine ⟨fun he => congrArg Host.Outcome.next (if_neg fun h0 => he (List.isEmpty_iff.1 h0)), fun he => ?_⟩
  have hstart : cmdTaken q c = startCmd q c := if_pos (List.isEmpty_iff.2 he)
  intro g hist
  have done {r : State} (ho : ¬ (c.opc = 1 ∨ (c.opc = 3 ∧ fnBusy g c = false))) (hr : cmdDone hist c = r) :
      Host.Outcome.next (φ := Fault) (ρ := Refusal) (startCmd q c) = .next (afterEvent r) :=
    congrArg Host.Outcome.next ((startCmd_done ho).trans (congrArg afterEvent hr))
  have start {r : Host.Outcome State Fault Refusal} (hr : Host.Outcome.next (startCmd q c) = r) :
      Host.Outcome.next (cmdTaken q c) = r :=
    (congrArg Host.Outcome.next hstart).trans hr
  refine ⟨fun ho => start (congrArg Host.Outcome.next (startCmd_wake ho)), fun h2 h4 hg hh => start (done ?_ (cmdDone_busy h2 h4 hh)),
    fun ho hg hh => start (done ?_ (cmdDone_destroy (unhindered_of_idle hh) ho)), fun ho hh hm => start (done ?_ ?_), fun ho hh hm => start (done ?_ ?_),
    fun ho hn => start (done ?_ (cmdDone_notManagement ho hn)), fun ho hc hn hs => start (done ?_ ?_), fun ho hc hs => start (done ?_ ?_),
    fun ho hc hn hs => start (done ?_ (cmdDone_nibin ho hc hn hs))⟩
  · rintro (h1 | ⟨-, hf⟩)
    · omega
    · exact Bool.false_ne_true (hf.symm.trans hg)
  · omega
  · omega
  · exact (cmdDone_checkpoint (unhindered_of_idle hh) ho).trans (if_pos hm)
  · omega
  · exact (cmdDone_checkpoint (unhindered_of_idle hh) ho).trans (if_neg (Nat.not_le.2 hm))
  · omega
  · omega
  · exact (cmdDone_nibout ho hc).trans (if_pos (by rw [hs]; rw [decide_eq_true hn]; rfl))
  · omega
  · exact (cmdDone_nibout ho hc).trans (if_neg (by rw [hs, Bool.and_false]; exact Bool.false_ne_true))
  · omega

/-! ### Events -/

section
variable {i w : ℕ} {ws : List Word} {a : Bool}

/-- The kinds of events that the commands of a ruler's row name. -/
def isCommandEvent (e : RulEvent) : Bool := match e with
  | .command => true
  | _ => false

def isNibEvent (e : RulEvent) : Bool := match e with
  | .nibFault _ _ => true
  | .nibReturn _ _ => true
  | _ => false

def isTwinEvent (e : RulEvent) : Bool := match e with
  | .twinOutcome _ _ => true
  | _ => false

def isSliceEvent (e : RulEvent) : Bool := match e with
  | .slice _ => true
  | _ => false

def isShadowEvent (e : RulEvent) : Bool := match e with
  | .shadow _ _ => true
  | _ => false

theorem headEvent_nil {p : RulEvent → Bool} (h : s.rul.events = []) : headEvent s p = none := by
  rw [headEvent, h]

theorem exec_rulerQueuedCommandStart (hu : s.tick t = u) :
    exec (.rulerQueuedCommandStart t) s = .next (match headEvent u isCommandEvent, u.rul.cmd with
      | some .command, some c => startCmd (popEvent u) c
      | _, _ => u) := by
  subst hu
  rfl

theorem exec_rulerHandleNibFault (hu : s.tick t = u) :
    exec (.rulerHandleNibFault t) s = .next (match headEvent u isNibEvent with
      | some (.nibFault f n) => afterEvent (nibFails (popEvent u) f n)
      | some (.nibReturn f n) => afterEvent (histAll (enterService (popEvent u) f n) [faultWord 3 f n])
      | _ => u) := by
  subst hu
  rfl

theorem exec_rulerHandleTwinOutcome (hu : s.tick t = u) :
    exec (.rulerHandleTwinOutcome t) s = .next (match headEvent u isTwinEvent with
      | some (.twinOutcome i w) => afterEvent (twinRuling (popEvent u) i w)
      | _ => u) := by
  subst hu
  rfl

theorem exec_rulerHandleSliceCommit (hu : s.tick t = u) :
    exec (.rulerHandleSliceCommit t) s = .next (match headEvent u isSliceEvent with
      | some (.slice ws) =>
        let q := histAll (popEvent u) ws
        afterEvent (forEach (liveFns q) q (fun s i => if settled s i then slicePlace s i else s))
      | _ => u) := by
  subst hu
  rfl

theorem exec_rulerHandleShadowOutcome (hu : s.tick t = u) :
    exec (.rulerHandleShadowOutcome t) s = .next (match headEvent u isShadowEvent with
      | some (.shadow i a) => afterEvent (shadowRuling (popEvent u) i a)
      | _ => u) := by
  subst hu
  rfl

end

theorem rulerEvents : Claims.RulerEvents := by
  intro s t f n i w c ws a u
  refine ⟨fun he hc => ?_, fun hnil x hx => ?_, fun he => ?_, fun he => ?_, fun he => ?_, fun he => ?_, fun he => ?_⟩
  · rw [exec_rulerQueuedCommandStart (u := u) rfl, show headEvent u isCommandEvent = some .command from he, hc]
  · simp only [List.mem_cons, List.not_mem_nil, or_false] at hx
    rcases hx with rfl | rfl | rfl | rfl | rfl
    · rw [exec_rulerQueuedCommandStart (u := u) rfl, headEvent_nil hnil]
    · rw [exec_rulerHandleNibFault (u := u) rfl, headEvent_nil hnil]
    · rw [exec_rulerHandleTwinOutcome (u := u) rfl, headEvent_nil hnil]
    · rw [exec_rulerHandleSliceCommit (u := u) rfl, headEvent_nil hnil]
    · rw [exec_rulerHandleShadowOutcome (u := u) rfl, headEvent_nil hnil]
  · rw [exec_rulerHandleNibFault (u := u) rfl, show headEvent u isNibEvent = some (.nibFault f n) from he]
  · rw [exec_rulerHandleNibFault (u := u) rfl, show headEvent u isNibEvent = some (.nibReturn f n) from he]
  · rw [exec_rulerHandleTwinOutcome (u := u) rfl, show headEvent u isTwinEvent = some (.twinOutcome i w) from he]
  · rw [exec_rulerHandleSliceCommit (u := u) rfl, show headEvent u isSliceEvent = some (.slice ws) from he]
  · rw [exec_rulerHandleShadowOutcome (u := u) rfl, show headEvent u isShadowEvent = some (.shadow i a) from he]

/-! ### Loading -/

/-- What is read of a staging area (R307): its first four words, and the rest of the descriptor where they give its length. -/
def stagedWords (s : State) (f a : ℕ) : List Word :=
  if areaOk s f a 4 then (if areaOk s f a (descrLen (s.inks f a 4)) then s.inks f a (descrLen (s.inks f a 4)) else s.inks f a 4) else []

/-- A CREATE whose staging area has been read. -/
def createStaged (q : State) (c : RulCmd) (ws : List Word) : State :=
  let f := getField c.arg 0 6
  let a := getField c.arg 6 18
  if !(areaOk q f a 4 && areaOk q f a (descrLen (ws.take 4))) then endCmd q 1 1 0
  else createFn { q with rul := { q.rul with staged := some (readDescr ws) } } c (readDescr ws)

theorem createStaged_outside {ws : List Word} (h : areaOk q (getField c.arg 0 6) (getField c.arg 6 18) 4 = false) :
    createStaged q c ws = endCmd q 1 1 0 := if_pos (by rw [h]; rfl)

theorem createStaged_inside {ws : List Word} (h : areaOk q (getField c.arg 0 6) (getField c.arg 6 18) 4 = true)
    (hl : areaOk q (getField c.arg 0 6) (getField c.arg 6 18) (descrLen (ws.take 4)) = true) :
    createStaged q c ws = createFn { q with rul := { q.rul with staged := some (readDescr ws) } } c (readDescr ws) := if_neg (by rw [h, hl]; decide)

theorem exec_stagingAreaRead (hu : s.tick t = u) (hc : u.rul.cmd = some c) (hstart : c.started = true) (ho : c.opc = 1)
    (hrun : ferRun u (getField c.arg 0 6) = true) :
    exec (.stagingAreaRead t) s = .next (
      let ws := stagedWords u (getField c.arg 0 6) (getField c.arg 6 18)
      afterEvent (createStaged (histCmd u ([c.cmd, c.arg] ++ ws)) c ws)) := by
  have hexec : exec (.stagingAreaRead t) s = execStagingAreaRead t s := rfl
  rw [hexec, execStagingAreaRead, hu]
  simp only [hc, hstart, ho, hrun, decide_true, Bool.true_or, Bool.and_self, eq_self, if_true]
  rfl

theorem exec_stagingAreaRead_idle (hu : s.tick t = u) (hc : u.rul.cmd = none) : exec (.stagingAreaRead t) s = .next u := by
  have hexec : exec (.stagingAreaRead t) s = execStagingAreaRead t s := rfl
  rw [hexec, execStagingAreaRead, hu]
  simp only [hc]

theorem exec_functionLoadComplete {fn : ℕ} (hu : s.tick t = u) (hup : (u.fn fn).update = none) (hmove : (u.fn fn).move = none) (hsubs : (u.fn fn).subs = []) :
    exec (.functionLoadComplete t fn) s = .next (
      if u.rd (F.RUL_FST fn) = 1 ∧ (u.fn fn).loaded = false ∧ fersRun u ((u.fn fn).places.map (fun q => q.2)) = true
      then u.setFn fn { u.fn fn with loaded := true } else u) := by
  have hexec : exec (.functionLoadComplete t fn) s = execFunctionLoadComplete t fn s := rfl
  rw [hexec, execFunctionLoadComplete, hu]
  simp only [hup, hmove, hsubs]
  rfl

theorem exec_functionLoadComplete_loaded {fn : ℕ} (hu : s.tick t = u) (hl : (u.fn fn).loaded = true) (hup : (u.fn fn).update = none)
    (hmove : (u.fn fn).move = none) : exec (.functionLoadComplete t fn) s = .next u := by
  have hexec : exec (.functionLoadComplete t fn) s = execFunctionLoadComplete t fn s := rfl
  rw [hexec, execFunctionLoadComplete, hu]
  simp only [hup, hmove, hl, Bool.true_eq_false, false_and, and_false, if_false]

theorem functionLoading : Claims.FunctionLoading := by
  intro s t fn c u f a
  refine ⟨fun hn => exec_stagingAreaRead_idle rfl hn, fun hc hstart ho hrun => ⟨fun hu hq => ?_, fun h4 hd => ?_⟩,
    fun hl hup hm => exec_functionLoadComplete_loaded rfl hl hup hm, fun hst hl hrun hsubs hup hm => ?_⟩
  · have hws : stagedWords u f a = [] := if_neg (by rw [hu]; exact Bool.false_ne_true)
    rw [exec_stagingAreaRead (u := u) rfl hc hstart ho hrun, show stagedWords u (getField c.arg 0 6) (getField c.arg 6 18) = [] from hws]
    exact congrArg (fun r => Host.Outcome.next (afterEvent r)) (createStaged_outside hq)
  · intro ws q hq4 hqd
    have hws : stagedWords u f a = ws := (if_pos h4).trans (if_pos hd)
    rw [exec_stagingAreaRead (u := u) rfl hc hstart ho hrun, show stagedWords u (getField c.arg 0 6) (getField c.arg 6 18) = ws from hws]
    exact congrArg (fun r => Host.Outcome.next (afterEvent r)) (createStaged_inside hq4 hqd)
  · exact (exec_functionLoadComplete rfl hup hm hsubs).trans (congrArg Host.Outcome.next (if_pos ⟨hst, hl, hrun⟩))

/-- Settles O43: a command starts at once or waits its turn, and every event is taken from the head of the queue. -/
theorem ruler : Obligations.Ruler := ⟨rulerCommands, rulerEvents, functionLoading⟩

end Sys2Proof.Machine
end

section
/-! PROOFS. The commands of publications, and the retransmission of GOOSE (R333, R350). -/

namespace Sys2Proof.Machine
open Sys2Proof

variable {s u : State} {t init f seq h r : ℕ}

theorem exec_pubCreate (hp : Passes (s.tick t) init (pubPage f) 8 true) : exec (.pubCreate t init f seq h) s = .next (pubCreate (s.tick t) init f seq h) :=
  congrArg Host.Outcome.next (gatedCmd_of_passes hp _ _ _ _)

theorem exec_pubDestroy (hp : Passes (s.tick t) init (pubPage f) 8 true) : exec (.pubDestroy t init f seq h) s = .next (pubDestroy (s.tick t) init f seq h) :=
  congrArg Host.Outcome.next (gatedCmd_of_passes hp _ _ _ _)

theorem pubCreate_handle (hr : Rings s init (pubPage f) seq 1 h) (hh : h ≠ 0) :
    pubCreate s init f seq h = (rung s (pubPage f) seq 1 h).ignored (pubPage f) 8 4 := by
  simp only [pubCreate, doorbell_refused (late := fun _ => if h ≠ 0 then some 4 else none) hr (if_pos hh)]

theorem pubCreate_accepted (hr : Rings s init (pubPage f) seq 1 0) :
    pubCreate s init f seq 0 =
      let q := accepted s (pubPage f) seq 1 0
      let a := pubArgs q f
      let free := findBelow (fun k => q.rd (F.PUB_PSTATE_48 f k) = 0) 32
      if pubRefusal q f init free a ≠ 0 then q.complete (pubPage f) 1 (pubRefusal q f init free a) 0
      else (pubMake q (32 * f + free.getD 0) (initTenant q init) a).complete (pubPage f) 0 0 (q.handle 2 (32 * f + free.getD 0) (32 * f + free.getD 0)) := by
  simp only [pubCreate, doorbell_accepted (late := fun _ => if 0 ≠ 0 then some 4 else none) hr rfl]

/-- The check of a publication's handle: its kind, generation and owner. -/
abbrev pubOwned (v : State) (init h : ℕ) : Option ℕ := handleCheck v pubHandles h (fun i => v.rd (F.PUB_OWNER i) = initTenant v init)

theorem pubDestroy_refused (hr : Rings s init (pubPage f) seq 2 h) (hl : pubOwned (rung s (pubPage f) seq 2 h) init h = some r) :
    pubDestroy s init f seq h = (rung s (pubPage f) seq 2 h).ignored (pubPage f) 8 r := by
  unfold pubDestroy
  dsimp only
  rw [doorbell_of_rings hr]
  simp only [hl]

theorem pubDestroy_accepted (hr : Rings s init (pubPage f) seq 2 h) (hl : pubOwned (rung s (pubPage f) seq 2 h) init h = none)
    (hhere : pubHere (rung s (pubPage f) seq 2 h) f (h % 2 ^ 20) = true)
    (hten : (rung s (pubPage f) seq 2 h).rd (F.TEN_TSTATE ((rung s (pubPage f) seq 2 h).rd (F.PUB_OWNER (h % 2 ^ 20)))) ≠ 3) :
    pubDestroy s init f seq h =
      let q := accepted s (pubPage f) seq 2 h
      if q.rd (F.PUB_PSTATE_18 (h % 2 ^ 20)) = 2 then q.complete (pubPage f) 1 8 0
      else (pubFree q (h % 2 ^ 20)).complete (pubPage f) 0 0 0 := by
  unfold pubDestroy
  dsimp only
  rw [doorbell_of_rings hr]
  simp only [hl, hhere, hten, ne_eq, not_false_eq_true, and_self, if_true]

theorem publicationCommands : Claims.PublicationCommands := by
  intro s t init f seq h u page p
  refine ⟨fun hr => ?_, fun hr hh => ?_, fun hr => ?_⟩
  · rw [exec_pubCreate hr.passes, pubCreate_accepted hr]
    intro q a free
    refine ⟨fun hrefuse => congrArg Host.Outcome.next (if_pos hrefuse), fun k hok hk => congrArg Host.Outcome.next ((if_neg (not_not.2 hok)).trans ?_)⟩
    rw [show findBelow (fun k => (accepted u (pubPage f) seq 1 0).rd (F.PUB_PSTATE_48 f k) = 0) 32 = some k from hk]
    rfl
  · exact (exec_pubCreate hr.passes).trans (congrArg Host.Outcome.next (pubCreate_handle hr hh))
  · rw [exec_pubDestroy hr.passes]
    intro v q
    refine ⟨fun r hl => congrArg Host.Outcome.next (pubDestroy_refused hr hl), fun hl hhere hten => ?_⟩
    rw [pubDestroy_accepted hr hl hhere hten]
    exact ⟨fun h2 => congrArg Host.Outcome.next (if_pos h2), fun h2 => congrArg Host.Outcome.next (if_neg h2)⟩

theorem gooseRetransmission : Claims.GooseRetransmission := by
  intro s t p u x
  refine ⟨fun hwait => congrArg Host.Outcome.next (if_neg ?_), fun hlive hdue => congrArg Host.Outcome.next (if_pos ⟨hlive, hdue⟩)⟩
  rintro ⟨hlive, hdue⟩
  rcases hwait with h | h
  · exact Bool.false_ne_true (h.symm.trans hlive)
  · exact Nat.not_le.2 h hdue

/-- Settles O44: an accepted command is refused for its first check that fails or performed; a retransmission comes at its instant. -/
theorem publications : Obligations.Publications := ⟨publicationCommands, gooseRetransmission⟩

end Sys2Proof.Machine
end

section
/-! PROOFS. The events of scribes, and the interrupt controller (R398, R420 to R428, R446). -/

namespace Sys2Proof.Machine
open Sys2Proof

variable {s u : State} {t n src : ℕ}

/-! ### Events -/

theorem exec_scribeInterruptEntry (hu : s.tick t = u) (hn : n < 32) (hup : scribeUp u n = true) (hh : (u.scribe n).haltReq = false) :
    exec (.scribeInterruptEntry t n) s = .next (match coreInterrupt u n with
      | none => u
      | some (src, level, ilvl) => takeInterrupt (icuTaken (if u.rd (F.DSK_SST n) = 2 then wake u n else u) n src) n src level ilvl) := by
  have hexec : exec (.scribeInterruptEntry t n) s = execScribeInterruptEntry t n s := rfl
  rw [hexec, execScribeInterruptEntry, hu]
  dsimp only
  rw [if_neg (by simp [hn, hup, hh])] <;> rfl

theorem exec_scribeInterruptEntry_none (hu : s.tick t = u) (h : coreInterrupt u n = none) : exec (.scribeInterruptEntry t n) s = .next u := by
  have hexec : exec (.scribeInterruptEntry t n) s = execScribeInterruptEntry t n s := rfl
  rw [hexec, execScribeInterruptEntry, hu]
  simp only [h, ite_self]

theorem exec_scribeInterruptEntry_running {level ilvl : ℕ} (hu : s.tick t = u) (hn : n < 32) (hst : u.rd (F.DSK_SST n) = 1)
    (hh : (u.scribe n).haltReq = false) (h : coreInterrupt u n = some (src, level, ilvl)) :
    exec (.scribeInterruptEntry t n) s = .next (takeInterrupt (icuTaken u n src) n src level ilvl) := by
  have hup : scribeUp u n = true := by rw [scribeUp, hst]; rfl
  rw [exec_scribeInterruptEntry hu hn hup hh, h]
  dsimp only
  rw [if_neg (by rw [hst]; decide)]

/-- The wait of a walk for its table entry, at the end of its 10 µs (R446). -/
theorem exec_walkTimeout {w : WalkWait} (hu : s.tick t = u) (hw : (u.scribe n).walk = some w) :
    exec (.walkTimeout t n) s = .next (
      if u.now < w.since + 10000 ∨ 32 ≤ n ∨ ¬ scribeUp u n then u
      else if w.entry then u.modScribe n (fun c => { c with walk := some { w with timed := true } })
      else trap (u.modScribe n (fun c => { c with walk := none })) n
        { code := 5, sub := w.sub + 2, atH := decide (128 ≤ w.sub), split := w.split, faddr := w.va, fpaddr := w.pa, inst := w.inst }) := by
  have hexec : exec (.walkTimeout t n) s = execWalkTimeout t n s := rfl
  rw [hexec, execWalkTimeout, hu]
  simp only [hw]

theorem scribeEvents : Claims.ScribeEvents := by
  intro s t init n src level ilvl u
  refine ⟨fun hp => ?_, fun hn hst hi => ?_, fun hwait => ?_, fun hn hst hh hi => exec_scribeInterruptEntry_running rfl hn hst hh hi,
    fun _ _ hi => exec_scribeInterruptEntry_none rfl hi, rfl, fun w hw hn hup => ?_⟩
  · exact ⟨congrArg Host.Outcome.next (gated_of_passes hp _ _), congrArg Host.Outcome.next (gated_of_passes hp _ _)⟩
  · exact congrArg Host.Outcome.next (if_pos ⟨hn, hst, Option.isSome_iff_ne_none.2 hi⟩)
  · refine congrArg Host.Outcome.next (if_neg ?_)
    rintro ⟨-, hst, hi⟩
    rcases hwait with h | h
    · exact h hst
    · exact Option.isSome_iff_ne_none.1 hi h
  · have hn' : ¬ 32 ≤ n := Nat.not_le.2 hn
    refine ⟨fun hlt => ?_, fun hdue hentry => ?_⟩
    · exact (exec_walkTimeout rfl hw).trans (congrArg Host.Outcome.next (if_pos (.inl hlt)))
    · refine (exec_walkTimeout rfl hw).trans (congrArg Host.Outcome.next ((if_neg ?_).trans (if_neg ?_)))
      · exact not_or.2 ⟨Nat.not_lt.2 hdue, not_or.2 ⟨hn', not_not.2 hup⟩⟩
      · rw [hentry]
        exact Bool.false_ne_true

/-! ### The interrupt controller -/

theorem icuCommand_runs {f : State → State} (hn : n < 32) (hst : s.rd (F.DSK_SST n) = 1) (hl : scribeLevel (s.scribe n) ≠ 0) : icuCommand s n f = f s :=
  (if_neg (by omega)).trans (if_neg hl)

theorem icuCommand_user {f : State → State} (hn : n < 32) (hst : s.rd (F.DSK_SST n) = 1) (hl : scribeLevel (s.scribe n) = 0) :
    icuCommand s n f = trap s n { code := 2 } :=
  (if_neg (by omega)).trans (if_pos hl)

theorem iackRead_none (h : icuClaimable s n = none) : iackRead s n = (iackValue s none, s) := by
  rw [iackRead, h]

theorem iackRead_some (h : icuClaimable s n = some src) : iackRead s n = (iackValue s (some src), icuClaim s src n) := by
  rw [iackRead, h]

theorem icuSourceWrite_free {v : Word} (h3 : getField v 5 2 ≠ 3) (h0 : getField v 5 2 = 0 ∨ getField v 9 3 = 0) :
    icuSourceWrite s src v = if s.icuRd F.ICU_ACT src = 1 then
        { s with icu := { s.icu with next := (s.icu.next.filter (fun e => e.1 ≠ src)) ++ [(src, v)] } }
      else icuConfig s src v := by
  refine if_neg ?_
  rintro (h | ⟨h, h'⟩)
  · exact h3 h
  · exact h0.elim h h'

theorem interruptController : Claims.InterruptController := by
  intro s t init n src gd v u
  refine ⟨fun hn hst hl => ?_, fun hn hst hl c hc => ?_, fun hp => ⟨fun hbad => ?_, fun h3 h0 => ⟨fun hact => ?_, fun hact => ?_⟩⟩⟩
  · have command (f : State → State) : icuCommand u n f = f u := icuCommand_runs hn hst hl
    refine ⟨fun hi => ?_, fun hi => ?_, fun ha => ?_, fun ha => ?_, fun hv => ?_, fun hv => ?_⟩
    · refine congrArg Host.Outcome.next ((command _).trans ?_)
      rw [iackRead_none hi]
    · refine congrArg Host.Outcome.next ((command _).trans ?_)
      rw [iackRead_some hi]
    · exact congrArg Host.Outcome.next ((command _).trans (if_neg (by rw [ha]; exact Bool.false_ne_true)))
    · exact congrArg Host.Outcome.next ((command _).trans (if_pos ha))
    · exact congrArg Host.Outcome.next ((command _).trans (if_pos hv))
    · exact congrArg Host.Outcome.next ((command _).trans (if_neg hv))
  · simp only [List.mem_cons, List.not_mem_nil, or_false] at hc
    rcases hc with rfl | rfl | rfl
    · exact congrArg Host.Outcome.next (icuCommand_user hn hst hl)
    · exact congrArg Host.Outcome.next (icuCommand_user hn hst hl)
    · exact congrArg Host.Outcome.next (icuCommand_user hn hst hl)
  · exact congrArg Host.Outcome.next ((gated_of_passes hp _ _).trans (if_pos hbad))
  · exact congrArg Host.Outcome.next ((gated_of_passes hp _ _).trans ((icuSourceWrite_free h3 h0).trans (if_pos hact)))
  · exact congrArg Host.Outcome.next ((gated_of_passes hp _ _).trans ((icuSourceWrite_free h3 h0).trans (if_neg hact)))

/-- Settles O46: each event acts where its condition holds; the controller's words are privileged. -/
theorem scribeInterrupts : Obligations.ScribeInterrupts := ⟨scribeEvents, interruptController⟩

end Sys2Proof.Machine
end

section
/-! PROOFS. The home agents: requests, snoops, grants and reclaims (R451 to R469). -/

namespace Sys2Proof.Machine
open Sys2Proof

variable {s u : State} {t d line src kind : ℕ} {x y : Tx} {w : Wb}

/-! ### Requests -/

/-- A request as its home agent orders it (R451). -/
def orderedTx (s : State) (line kind src rd : ℕ) : Tx :=
  { line := line, kind := kind, src := src, waits := snoopDesks s line kind src, since := s.now, rd := rd, wr := [] }

/-- A read of a desk is a miss of its L2. -/
def missCounted (s : State) (kind src : ℕ) : State :=
  match srcDesk src with
  | some d => if kind ≤ 1 then s.bump (F.DSK_L2MISS d) else s
  | none => s

theorem missCounted_eq (h : kind ≤ 4) :
    (if caching kind ∧ (kind = 0 ∨ kind = 1) then (match srcDesk src with | some d => s.bump (F.DSK_L2MISS d) | none => s) else s) =
      missCounted s kind src := by
  unfold missCounted
  by_cases hk : kind ≤ 1
  · have hc : caching kind = true := decide_eq_true (by omega)
    rw [if_pos ⟨hc, by omega⟩]
    cases srcDesk src with
    | none => rfl
    | some d => exact (if_pos hk).symm
  · rw [if_neg (by omega)]
    cases srcDesk src with
    | none => rfl
    | some d => exact (if_neg hk).symm

theorem missCounted_mem (kind src : ℕ) : (missCounted s kind src).mem = s.mem := by
  unfold missCounted
  cases srcDesk src with
  | none => rfl
  | some d =>
    dsimp only
    split <;> rfl

/-- The write back of a line that is with its home agent and whose data is not yet taken. -/
abbrev heldWb (s : State) (line : ℕ) : Option Wb := s.mem.wbs.find? (fun w => w.line == line && w.ordered && !w.spent)

def wbTaken (s : State) (w : Wb) : State := s.setWbs (s.mem.wbs.map (fun y => if y = w then { y with spent := true } else y))

theorem homeOrder_free (hk : kind ≤ 4) (h : heldWb s line = none) :
    homeOrder s line kind src [] = (missCounted s kind src).setTxs ((missCounted s kind src).mem.txs ++
      [orderedTx s line kind src (if kind = 0 ∨ kind = 1 ∨ kind = 4 then 1 else 0)]) := by
  have hq : heldWb (missCounted s kind src) line = none := by rw [heldWb, missCounted_mem]; exact h
  unfold homeOrder
  extract_lets x q
  have he : q = missCounted s kind src := missCounted_eq hk
  rw [heldWb] at hq
  rw [he, hq] <;> rfl

theorem homeOrder_held (hk : kind ≤ 4) (h : heldWb s line = some w) :
    homeOrder s line kind src [] =
      let x := orderedTx s line kind src (if kind = 0 ∨ kind = 1 ∨ kind = 4 then 1 else 0)
      let r := wbTaken (missCounted s kind src) w
      if kind = 1 ∨ kind = 2 ∨ kind = 3 then r.setTxs (r.mem.txs ++ [{ x with data := some w.words, poison := w.poison, rd := 0 }])
      else (r.memWrite line w.words w.poison).setTxs (r.mem.txs ++ [x]) := by
  have hq : heldWb (missCounted s kind src) line = some w := by rw [heldWb, missCounted_mem]; exact h
  unfold homeOrder
  extract_lets x q
  have he : q = missCounted s kind src := missCounted_eq hk
  rw [heldWb] at hq
  rw [he, hq] <;> rfl

/-- Requests of a line with no snoop left to wait for take no answer. -/
theorem takeAnswer_none {e : ℕ} {ok : ℕ → Bool} (h : s.mem.txs.find? (fun t => t.line == line && t.waits.contains e) = none) : takeAnswer s line e ok = s := by
  unfold takeAnswer
  rw [h]

theorem find_waits_none {e : ℕ} (h : ∀ x ∈ s.mem.txs, x.line = line → x.waits = []) :
    s.mem.txs.find? (fun t => t.line == line && t.waits.contains e) = none := by
  refine List.find?_eq_none.2 fun x hx hw => ?_
  rw [Bool.and_eq_true, beq_iff_eq] at hw
  rw [h x hx hw.1] at hw
  exact Bool.false_ne_true hw.2

theorem takeAnswer_idle {e : ℕ} {ok : ℕ → Bool} (h : ∀ x ∈ s.mem.txs, x.line = line → x.waits = []) : takeAnswer s line e ok = s :=
  takeAnswer_none (find_waits_none h)

theorem exec_homeNcwr_some {p : Posted} (hu : s.tick t = u) (hp : u.mem.posted.find? (fun p => p.src == src && p.line == line) = some p) :
    exec (.homeNcwr t line src) s = .next
      (ncWrite { u with mem := { u.mem with posted := removeFirst u.mem.posted (fun x => x == p) } } src line p.wr) := by
  have hexec : exec (.homeNcwr t line src) s = execHomeNcwr t line src s := rfl
  rw [hexec, execHomeNcwr, hu]
  simp only [hp]

theorem exec_homeNcwr_none (hu : s.tick t = u) (hp : u.mem.posted.find? (fun p => p.src == src && p.line == line) = none) :
    exec (.homeNcwr t line src) s = .next u := by
  have hexec : exec (.homeNcwr t line src) s = execHomeNcwr t line src s := rfl
  rw [hexec, execHomeNcwr, hu]
  simp only [hp]

theorem exec_homeWb_idle (hu : s.tick t = u) (hw : ∀ x ∈ u.mem.txs, x.line = line → x.waits = []) :
    exec (.homeWb t line src) s = .next
      (u.setWbs (replaceFirst u.mem.wbs (fun w => w.line == line && srcDesk src == some w.desk && !w.ordered) (fun w => { w with ordered := true }))) := by
  have hexec : exec (.homeWb t line src) s = execHomeWb t line src s := rfl
  rw [hexec, execHomeWb, hu]
  simp only [takeAnswer_idle hw]

theorem homeOrders : Claims.HomeOrders := by
  intro s t line src w p u
  refine ⟨fun e he => ?_, fun hp => exec_homeNcwr_some rfl hp, fun hp => exec_homeNcwr_none rfl hp, fun hw => exec_homeWb_idle rfl hw⟩
  intro x q
  have hexec : exec e.1 s = .next (homeOrder u line e.2.1 src []) ∧ e.2.1 ≤ 4 ∧ (if e.2.1 = 0 ∨ e.2.1 = 1 ∨ e.2.1 = 4 then 1 else 0) = e.2.2 := by
    simp only [List.mem_cons, List.not_mem_nil, or_false] at he
    rcases he with rfl | rfl | rfl | rfl | rfl
    · exact ⟨rfl, by simp, rfl⟩
    · exact ⟨rfl, by simp, rfl⟩
    · exact ⟨rfl, by simp, rfl⟩
    · exact ⟨rfl, by simp, rfl⟩
    · exact ⟨rfl, by simp, rfl⟩
  obtain ⟨hexec, hk, hrd⟩ := hexec
  have hq : q = missCounted u e.2.1 src := rfl
  have hx : x = orderedTx u line e.2.1 src e.2.2 := rfl
  rw [hexec, hq, hx]
  refine ⟨fun hw => ?_, fun hw => ?_⟩
  · rw [homeOrder_free hk hw, hrd]
  · intro r
    rw [homeOrder_held hk hw, hrd]
    have hdata : (1 ≤ e.2.1 ∧ e.2.1 ≤ 3) ↔ (e.2.1 = 1 ∨ e.2.1 = 2 ∨ e.2.1 = 3) := by omega
    refine congrArg Host.Outcome.next ?_
    by_cases hd : e.2.1 = 1 ∨ e.2.1 = 2 ∨ e.2.1 = 3
    · exact (if_pos hd).trans (if_pos (hdata.2 hd)).symm
    · exact (if_neg hd).trans (if_neg fun h => hd (hdata.1 h)).symm

/-! ### Answers to snoops -/

/-- A request with the answer of a desk's entry taken. -/
def answeredTx (x : Tx) (e : ℕ) (a : Answer) : Tx :=
  let y : Tx := { x with waits := x.waits.filter (· ≠ e), shared := x.shared || a.kept || a.data.isSome }
  match a.data with
  | some ws => if x.kind = 3 then y else { y with data := some ws, poison := a.poison, fromWb := a.wb, rd := 0 }
  | none => y

/-- What a desk's answer to a snoop leaves: the request with what it was given, and a line that was lost written as lost. -/
def answerTaken (s : State) (line d e : ℕ) (x : Tx) : State :=
  let a := (answerSnoop s d line (snoopOf x.kind)).1
  let q := (answerSnoop s d line (snoopOf x.kind)).2
  let r := q.setTxs (replaceFirst q.mem.txs (fun y => y == x) (fun _ => answeredTx x e a))
  if a.lost then r.memWrite line zeroLine true else r

theorem takeAnswer_some {e : ℕ} {ok : ℕ → Bool} (hd : e % 8 = d) (h : s.mem.txs.find? (fun t => t.line == line && t.waits.contains e) = some x)
    (hok : ok (snoopOf x.kind) = true) (hcan : canAnswer s d line (snoopOf x.kind) = true)
    (hfirst : ¬ (8 ≤ e ∧ (s.mem.txs.takeWhile (fun y => y ≠ x)).any (fun y => y.line == line && srcDesk y.src == some d) = true)) :
    takeAnswer s line e ok = answerTaken s line d e x := by
  subst hd
  unfold takeAnswer
  rw [h]
  dsimp only
  rw [if_neg (not_or.2 ⟨not_not.2 hok, not_or.2 ⟨not_not.2 hcan, hfirst⟩⟩)] <;> rfl

theorem takeAnswer_refused {e : ℕ} {ok : ℕ → Bool} (hd : e % 8 = d) (h : s.mem.txs.find? (fun t => t.line == line && t.waits.contains e) = some x)
    (hno : canAnswer s d line (snoopOf x.kind) = false ∨ ok (snoopOf x.kind) = false) : takeAnswer s line e ok = s := by
  subst hd
  unfold takeAnswer
  rw [h]
  dsimp only
  refine if_pos ?_
  rcases hno with h | h
  · exact .inr (.inl (by rw [h]; exact Bool.false_ne_true))
  · exact .inl (by rw [h]; exact Bool.false_ne_true)

theorem snoopAnswers : Claims.SnoopAnswers := by
  intro s t d line x u k a q y z r v hd hx
  have h8 : d % 8 = d := Nat.mod_eq_of_lt hd
  have hv : v = answerTaken u line d d x := rfl
  have taken {ok : ℕ → Bool} (hok : ok k = true) (hcan : canAnswer u d line k = true) : takeAnswer u line d ok = v :=
    (takeAnswer_some h8 hx hok hcan (by omega)).trans hv.symm
  refine ⟨fun hcan => ⟨fun hk => ?_, fun hk => ?_, fun hk => ?_, fun hk => ?_⟩, fun hno => ?_, fun hno => ?_⟩
  · exact congrArg Host.Outcome.next (taken (ok := fun k => k == 0) (beq_iff_eq.2 hk) hcan)
  · exact congrArg Host.Outcome.next (taken (ok := fun k => k == 1) (beq_iff_eq.2 hk) hcan)
  · exact congrArg (fun q => Host.Outcome.next (finishLine q line)) (taken (ok := fun k => k == 2) (beq_iff_eq.2 hk) hcan)
  · exact congrArg (fun q => Host.Outcome.next (finishLine q line)) (taken (ok := fun k => k == 3) (beq_iff_eq.2 hk) hcan)
  · exact congrArg Host.Outcome.next (takeAnswer_refused (ok := fun k => k == 0) h8 hx (hno.imp_right fun h => beq_eq_false_iff_ne.2 h))
  · exact congrArg Host.Outcome.next (takeAnswer_refused (ok := fun k => k == 1) h8 hx (hno.imp_right fun h => beq_eq_false_iff_ne.2 h))

/-! ### Grants -/

theorem completeTx_waiting (h : x.waits ≠ []) : completeTx s x = none := if_pos h

theorem completeTx_zero (hw : x.waits = []) (hk : x.kind = 3) (hd : srcDesk x.src = some d) :
    completeTx s x = some (((s.setTxs (removeFirst s.mem.txs (fun y => y.line == x.line))).l2Install d x.line
      { line := x.line, st := 4, words := zeroLine }).setPres d x.line 4) := by
  unfold completeTx
  dsimp only
  rw [if_neg (not_not.2 hw), if_neg (by omega), if_neg (by omega), if_neg (by omega), hd]
  exact if_pos hk

theorem exec_grantDeliver (hu : s.tick t = u) (hx : u.mem.txs.find? (fun t => t.line == line) = some x) (hc : caching x.kind = true)
    (hd : srcDesk x.src = some d) : exec (.grantDeliver t d line) s = .next ((completeTx u x).getD u) := by
  have hexec : exec (.grantDeliver t d line) s = execGrantDeliver t d line s := rfl
  rw [hexec, execGrantDeliver, hu]
  simp only [hx, hc, hd, and_self, if_true]
  cases completeTx u x <;> rfl

theorem finishLine_none (h : s.mem.txs.find? (fun t => t.line == line) = none) : finishLine s line = s := by
  rw [finishLine, h]

theorem finishLine_caching (h : s.mem.txs.find? (fun t => t.line == line) = some x) (hc : caching x.kind = true) : finishLine s line = s := by
  rw [finishLine, h]
  exact if_pos hc

theorem find_replaceFirst {l : List Tx} (h : l.find? (fun x => x.line == line) = some x) (hy : y.line = line) :
    (replaceFirst l (fun z => z == x) (fun _ => y)).find? (fun x => x.line == line) = some y := by
  induction l with
  | nil => exact absurd h (by simp)
  | cons z l ih =>
    rw [List.find?_cons] at h
    by_cases hz : z = x
    · rw [replaceFirst, if_pos (beq_iff_eq.2 hz), List.find?_cons, beq_iff_eq.2 hy]
    · cases hl : z.line == line with
      | true => rw [hl] at h; exact absurd (Option.some.inj h) hz
      | false =>
        rw [hl] at h
        rw [replaceFirst, if_neg (by rw [beq_iff_eq]; exact hz), List.find?_cons, hl]
        exact ih h

/-- No request of a line comes before the first one. -/
theorem takeWhile_any_false {l : List Tx} {p : Tx → Bool} (h : l.find? (fun x => x.line == line) = some x) :
    (l.takeWhile (fun z => z ≠ x)).any (fun z => z.line == line && p z) = false := by
  induction l with
  | nil => rfl
  | cons z l ih =>
    rw [List.find?_cons] at h
    by_cases hz : z = x
    · rw [List.takeWhile_cons, if_neg (by simp [hz])]
      rfl
    · cases hl : z.line == line with
      | true => rw [hl] at h; exact absurd (Option.some.inj h) hz
      | false =>
        rw [hl] at h
        rw [List.takeWhile_cons, if_pos (by simp [hz]), List.any_cons, hl, Bool.false_and, Bool.false_or]
        exact ih h

theorem line_of_find {l : List Tx} (h : l.find? (fun x => x.line == line) = some x) : x.line = line := by
  simpa using List.find?_some h

theorem exec_wbAck_some (hu : s.tick t = u) (hw : u.mem.wbs.find? (fun w => w.desk == d && w.line == line && w.ordered) = some w) :
    exec (.wbAck t d line) s = .next (
      let q := u.setWbs (removeFirst u.mem.wbs (fun x => x == w))
      if w.spent then q else q.memWrite line w.words w.poison) := by
  have hexec : exec (.wbAck t d line) s = execWbAck t d line s := rfl
  rw [hexec, execWbAck, hu]
  simp only [hw]

theorem exec_wbAck_none (hu : s.tick t = u) (hw : u.mem.wbs.find? (fun w => w.desk == d && w.line == line && w.ordered) = none) :
    exec (.wbAck t d line) s = .next u := by
  have hexec : exec (.wbAck t d line) s = execWbAck t d line s := rfl
  rw [hexec, execWbAck, hu]
  simp only [hw]

/-- A desk that has nothing of a line answers a forwarded snoop: it is no longer waited for. -/
theorem takeAnswer_nothing (hd : d < 8) (hy : s.mem.txs.find? (fun y => y.line == line && y.waits.contains (8 + d)) = some y)
    (hfirst : s.mem.txs.find? (fun z => z.line == line) = some y) (hk : snoopOf y.kind = 1) (hcan : canAnswer s d line 1 = true)
    (ha : (answerSnoop s d line 1).1 = { data := none }) (hs : (answerSnoop s d line 1).2 = s) :
    takeAnswer s line (8 + d) (fun _ => true) =
      s.setTxs (replaceFirst s.mem.txs (fun x => x == y) (fun _ => { y with waits := y.waits.filter (· ≠ 8 + d) })) := by
  have h8 : (8 + d) % 8 = d := by omega
  rw [takeAnswer_some h8 hy rfl (hk ▸ hcan) fun h => Bool.false_ne_true ((takeWhile_any_false hfirst).symm.trans h.2)]
  unfold answerTaken answeredTx
  simp only [hk, ha, hs, Option.isSome_none, Bool.or_false, Bool.false_eq_true, if_false]

theorem grants : Claims.Grants := by
  intro s t d line x w u
  refine ⟨fun hx hc hd => ⟨fun hw => ?_, fun hw hk => ?_⟩, fun hf hl => ?_, fun y hy hd hfirst hk hc _ hcan ha hs => ?_, fun hw => exec_wbAck_some rfl hw,
    fun hw => exec_wbAck_none rfl hw⟩
  · rw [exec_grantDeliver (u := u) rfl hx hc hd, completeTx_waiting hw, Option.getD_none]
  · rw [exec_grantDeliver (u := u) rfl hx hc hd, completeTx_zero hw hk hd, line_of_find hx, Option.getD_some]
  · exact congrArg Host.Outcome.next ((congrArg (finishLine · line) (takeAnswer_none hf)).trans (finishLine_none hl))
  · refine congrArg Host.Outcome.next ((congrArg (finishLine · line) (takeAnswer_nothing hd hy hfirst hk hcan ha hs)).trans ?_)
    exact finishLine_caching (find_replaceFirst hfirst (show y.line = line from line_of_find hfirst)) hc

/-! ### Timeouts and reclaims -/

theorem exec_snoopTimeout_early (hu : s.tick t = u) (h : ∀ x ∈ u.mem.txs, u.now < x.since + 10000) : exec (.snoopTimeout t d line) s = .next u := by
  have hexec : exec (.snoopTimeout t d line) s = execSnoopTimeout t d line s := rfl
  rw [hexec, execSnoopTimeout, hu]
  refine congrArg Host.Outcome.next (if_neg fun hany => ?_)
  obtain ⟨x, hx, hl⟩ := List.any_eq_true.1 hany
  rw [Bool.and_eq_true, decide_eq_true_eq] at hl
  exact Nat.not_le.2 (h x hx) hl.2

theorem drive_none {n : ℕ} (h : ∀ x ∈ s.mem.txs, x.line ≠ line) : drive n s line = s := by
  have hf : s.mem.txs.find? (fun t => t.line == line) = none :=
    List.find?_eq_none.2 fun x hx he => h x hx (beq_iff_eq.1 he)
  cases n with
  | zero => rfl
  | succ n => rw [drive, hf]

/-- A request that is ordered is the last of the requests. -/
theorem homeOrder_length (s : State) (line kind src : ℕ) (wr : List (ℕ × ℕ)) : (homeOrder s line kind src wr).mem.txs.length = s.mem.txs.length + 1 := by
  unfold homeOrder
  extract_lets x q
  have hq : q.mem.txs = s.mem.txs := by
    simp only [q]
    split
    · split <;> rfl
    · rfl
  have append (r : State) (y : Tx) : (r.setTxs (q.mem.txs ++ [y])).mem.txs.length = s.mem.txs.length + 1 := by
    rw [← hq]
    exact List.length_append
  split
  · dsimp only
    split
    · exact append _ _
    · exact append _ _
  · exact append _ _

theorem exec_reclaimMessage_none (hu : s.tick t = u) (hr : u.mem.reclaims.find? (fun r => r.2 == line) = none) :
    exec (.reclaimMessage t line) s = .next u := by
  have hexec : exec (.reclaimMessage t line) s = execReclaimMessage t line s := rfl
  rw [hexec, execReclaimMessage, hu]
  simp only [hr]

theorem exec_reclaimMessage_some {r : ℕ × ℕ} (hu : s.tick t = u) (hr : u.mem.reclaims.find? (fun r => r.2 == line) = some r)
    (hl : ∀ x ∈ u.mem.txs, x.line ≠ line) :
    exec (.reclaimMessage t line) s = .next
      (drive (u.mem.txs.length + 2) (homeOrder { u with mem := { u.mem with reclaims := removeFirst u.mem.reclaims (fun x => x == r) } }
        line 6 (8 * r.1) []) line) := by
  have hexec : exec (.reclaimMessage t line) s = execReclaimMessage t line s := rfl
  rw [hexec, execReclaimMessage, hu]
  simp only [hr, homeOrder_length]
  rw [drive_none (s := { u with mem := { u.mem with reclaims := removeFirst u.mem.reclaims (fun x => x == r) } }) hl]

theorem exec_reclaimWalkComplete_ends (hu : s.tick t = u) (hd : reclaimDesk u = some d) (hr : ∀ r ∈ u.mem.reclaims, r.1 ≠ d)
    (hx : ∀ x ∈ u.mem.txs, x.kind ≠ 6) (hheld : ∀ c, c < 4 → (u.dmc c).held = []) :
    exec (.reclaimWalkComplete t d) s = .next (
      let q := (u.wr (F.PWR_RECL d) 0).wr (F.PWR_DEAD d) 1
      let q : State := { q with pwr := { q.pwr with held := q.pwr.held.filter (fun b => b ≠ 64 + d && b ≠ 192 + d) } }
      pwrEnd (commanded (deskReset (q.wr (F.PWR_DST d) 3) d) (64 + d) 3) 0 0) := by
  have hreclaims : u.mem.reclaims.any (fun r => r.1 == d) = false :=
    List.any_eq_false.2 fun r hmem he => hr r hmem (beq_iff_eq.1 he)
  have htxs : u.mem.txs.any (fun t => t.kind == 6 && t.src == 8 * d) = false := by
    refine List.any_eq_false.2 fun x hmem he => hx x hmem ?_
    rw [Bool.and_eq_true, beq_iff_eq] at he
    exact he.1
  have hdmc : (List.range 4).any (fun c => (u.dmc c).held.any (fun w => w.2.2)) = false := by
    refine List.any_eq_false.2 fun c hc => ?_
    rw [hheld c (List.mem_range.1 hc), List.any_nil]
    exact Bool.false_ne_true
  have hend : reclaimEnd u = (
      let q := (u.wr (F.PWR_RECL d) 0).wr (F.PWR_DEAD d) 1
      let q : State := { q with pwr := { q.pwr with held := q.pwr.held.filter (fun b => b ≠ 64 + d && b ≠ 192 + d) } }
      pwrEnd (commanded (deskReset (q.wr (F.PWR_DST d) 3) d) (64 + d) 3) 0 0) := by
    unfold reclaimEnd
    rw [hd]
    exact if_neg (by rw [hreclaims, htxs, hdmc]; exact Bool.false_ne_true)
  subst hu
  exact congrArg Host.Outcome.next ((if_pos hd).trans hend)

theorem exec_reclaimWalkComplete_left {r : ℕ × ℕ} (hu : s.tick t = u) (hd : reclaimDesk u = some d) (hr : r ∈ u.mem.reclaims) (hrd : r.1 = d) :
    exec (.reclaimWalkComplete t d) s = .next u := by
  have hreclaims : u.mem.reclaims.any (fun r => r.1 == d) = true := List.any_eq_true.2 ⟨r, hr, beq_iff_eq.2 hrd⟩
  have hend : reclaimEnd u = u := by
    unfold reclaimEnd
    rw [hd]
    exact if_pos (by rw [hreclaims, Bool.true_or, Bool.true_or])
  subst hu
  exact congrArg Host.Outcome.next ((if_pos hd).trans hend)

theorem snoopTimeoutAndReclaim : Claims.SnoopTimeoutAndReclaim := by
  intro s t d line x r u c
  refine ⟨fun hx hline hw hlate => ⟨fun hv => ?_, fun hv => ?_⟩, fun h => exec_snoopTimeout_early rfl h, fun hr => exec_reclaimMessage_none rfl hr,
    fun hr hl => exec_reclaimMessage_some rfl hr hl, fun hd => congrArg Host.Outcome.next (if_neg hd),
    fun hd ⟨r, hr, hrd⟩ => exec_reclaimWalkComplete_left rfl hd hr hrd, fun hd hr hx hh => exec_reclaimWalkComplete_ends rfl hd hr hx hh⟩
  · exact (exec_snoopTimeout_of_waits (u := u) (c := c) rfl rfl hx hline hw hlate).trans (congrArg Host.Outcome.next (if_pos hv))
  · exact (exec_snoopTimeout_of_waits (u := u) (c := c) rfl rfl hx hline hw hlate).trans
      (congrArg Host.Outcome.next (if_neg fun h => Bool.false_ne_true (hv.symm.trans h)))

/-- Settles O47: requests of a line are ordered, their snoops answered once each, and a grant waits for the last of them. -/
theorem coherence : Obligations.Coherence := ⟨homeOrders, snoopAnswers, grants, snoopTimeoutAndReclaim⟩

end Sys2Proof.Machine
end

section
/-! PROOFS. The DRAM channels: their commands and errors, their upkeep and training (R475 to R488). -/

namespace Sys2Proof.Machine
open Sys2Proof

variable {s u : State} {t init c n m seq line : ℕ} {x : Tx}

/-! ### Commands -/

/-- A command of the host's pages that is accepted: done, or refused for who gave it (R68). -/
theorem hostBell_accepted {page opc : ℕ} {allowed : Bool} {f : State → State} (hr : Rings s init page seq opc 0) :
    s.hostBell page seq opc allowed f =
      if allowed then f (accepted s page seq opc 0) else (accepted s page seq opc 0).complete page 1 1 0 := by
  simp only [State.hostBell, doorbell_accepted (late := fun _ => none) hr rfl, State.refuse]

theorem exec_dmcCommand {opc : ℕ} {i : Instr} (hi : exec i s = .next ((s.tick t).gatedCmd init (dmcPage c) seq opc 0 (fun q => dmcBell q init c seq opc)))
    (hr : Rings (s.tick t) init (dmcPage c) seq opc 0) :
    exec i s = .next (if init = 0x20 then dmcCommand (accepted (s.tick t) (dmcPage c) seq opc 0) c opc
      else (accepted (s.tick t) (dmcPage c) seq opc 0).complete (dmcPage c) 1 1 0) := by
  rw [hi, gatedCmd_of_passes hr.passes, dmcBell, hostBell_accepted hr]
  simp only [beq_iff_eq]

theorem dmcCommand_release (h : s.rd (F.DMC_STATE c) = 3) : dmcCommand s c 1 = (dmcRelease s c).complete (dmcPage c) 0 0 0 := if_pos h

theorem dmcCommand_reset (h : s.rd (F.DMC_STATE c) = 2 ∨ s.rd (F.DMC_STATE c) = 3) : dmcCommand s c 2 = dmcResetStart s c := if_pos h

/-- The step of training that a TRAIN names. -/
abbrev trainStep (s : State) (c : ℕ) : ℕ := getField (s.word (dmcPage c * 512 + 10)) 0 3

theorem dmcCommand_train (h : s.rd (F.DMC_STATE c) = 1) (h1 : 1 ≤ trainStep s c) (h6 : trainStep s c ≤ 6) :
    dmcCommand s c 3 = s.setDmc c { s.dmc c with step := trainStep s c } := if_pos ⟨h, h1, h6⟩

theorem dmcCommand_enable (h : s.rd (F.DMC_STATE c) = 1) (h6 : s.rd (F.DMC_STEP c) = 6) :
    dmcCommand s c 4 = ((s.setDmc c { s.dmc c with activeAt := s.now, patrol := 0 }).wr (F.DMC_STATE c) 2).complete (dmcPage c) 0 0 0 := if_pos ⟨h, h6⟩

/-- A command that the channel's state, or the step named, does not allow is refused for it. -/
theorem dmcCommand_refused {opc : ℕ} (h4 : opc ≤ 4) (h1 : 1 ≤ opc)
    (h : (opc = 1 ∧ s.rd (F.DMC_STATE c) ≠ 3) ∨ (opc = 2 ∧ s.rd (F.DMC_STATE c) ≠ 2 ∧ s.rd (F.DMC_STATE c) ≠ 3) ∨
      ((opc = 3 ∨ opc = 4) ∧ s.rd (F.DMC_STATE c) ≠ 1) ∨ (opc = 4 ∧ s.rd (F.DMC_STEP c) ≠ 6) ∨ (opc = 3 ∧ (trainStep s c = 0 ∨ trainStep s c = 7))) :
    dmcCommand s c opc = s.complete (dmcPage c) 1 2 0 := by
  obtain rfl | rfl | rfl | rfl : opc = 1 ∨ opc = 2 ∨ opc = 3 ∨ opc = 4 := by omega
  · exact if_neg (by omega)
  · exact if_neg (by omega)
  · exact if_neg (by unfold trainStep at h; omega)
  · exact if_neg (by omega)

theorem dmcConfig_accepted {v : Word} (h3 : getField v 1 2 ≠ 3) (hst : s.rd (F.DMC_STATE c) = 0 ∨ s.rd (F.DMC_STATE c) = 1) :
    dmcConfig s c v =
      let q := s.setWord (dmcPage c * 512 + 11) (BitVec.ofNat 72 (getField v 0 11))
      if q.isSet (F.DMC_EN c) ∧ q.rd (F.DMC_STATE c) = 0 then q.wr (F.DMC_STATE c) 1 else q := if_neg (by omega)

theorem channelCommands : Claims.ChannelCommands := by
  intro s t init c seq v u page
  refine ⟨fun hp => ⟨fun hbad => congrArg Host.Outcome.next ((gated_of_passes hp _ _).trans (if_pos hbad)),
    fun h3 hst => congrArg Host.Outcome.next ((gated_of_passes hp _ _).trans (dmcConfig_accepted h3 hst))⟩, fun e he hr => ?_⟩
  have hexec : exec e.1 s = .next (u.gatedCmd init (dmcPage c) seq e.2 0 (fun q => dmcBell q init c seq e.2)) ∧ 1 ≤ e.2 ∧ e.2 ≤ 4 := by
    simp only [List.mem_cons, List.not_mem_nil, or_false] at he
    rcases he with rfl | rfl | rfl | rfl
    · exact ⟨rfl, by simp⟩
    · exact ⟨rfl, by simp⟩
    · exact ⟨rfl, by simp⟩
    · exact ⟨rfl, by simp⟩
  obtain ⟨hexec, h1, h4⟩ := hexec
  have hcmd := exec_dmcCommand hexec hr
  have done {r : State} (hi : init = 0x20) (hd : dmcCommand (accepted u page seq e.2 0) c e.2 = r) : exec e.1 s = .next r :=
    hcmd.trans (congrArg Host.Outcome.next ((if_pos hi).trans hd))
  intro q st step
  refine ⟨fun hi => hcmd.trans (congrArg Host.Outcome.next (if_neg hi)), fun hi ho hst => done hi ?_, fun hi ho hst => done hi ?_,
    fun hi ho hst hs1 hs6 => done hi ?_, fun hi ho hst hs => done hi ?_, fun hi hno => done hi (dmcCommand_refused h4 h1 hno)⟩
  · exact (congrArg (dmcCommand q c) ho).trans (dmcCommand_release hst)
  · exact (congrArg (dmcCommand q c) ho).trans (dmcCommand_reset hst)
  · exact (congrArg (dmcCommand q c) ho).trans (dmcCommand_train hst hs1 hs6)
  · exact (congrArg (dmcCommand q c) ho).trans (dmcCommand_enable hst hs)

/-! ### Errors -/

/-- A request with the outcome of its read. -/
def readPut (s : State) (x y : Tx) : State := s.setTxs (replaceFirst s.mem.txs (fun z => z == x) (fun _ => y))

theorem exec_dramReadDecode {errs : List (ℕ × ℕ)} {d : Decoded} (hu : s.tick t = u) (hx : u.mem.txs.find? (fun x => x.line == line && x.rd == 1) = some x)
    (hc : (lineChannel u line).1 = c) (hst : u.rd (F.DMC_STATE c) = 2) (hd : decodeBurst (u.memLine line) (u.marked line) errs = d) :
    exec (.dramReadDecode t c line errs) s = .next (
      if d.out = 3 then freezeChannel (readPut u x { x with rd := 3, data := some d.words }) c 1 line 1 x.src d.synd
      else
        let q := if d.out = 1 then u.bump (F.DMC_CECNT c) else if d.out = 2 then u.bump (F.DMC_POISRD c) else u
        finishLine (readPut q x { x with rd := 2, data := some d.words, poison := d.out == 2 }) line) := by
  have hexec : exec (.dramReadDecode t c line errs) s = execDramReadDecode t c line errs s := rfl
  have hmine : ¬ ((lineChannel u line).1 ≠ c ∨ u.rd (F.DMC_STATE c) ≠ 2) := not_or.2 ⟨not_not.2 hc, not_not.2 hst⟩
  rw [hexec, execDramReadDecode, hu]
  simp only [hx, hd, if_neg hmine, readPut]

theorem freezeChannel_again {cause cmdt src synd : ℕ} (h : s.rd (F.DMC_STATE c) = 3) : freezeChannel s c cause line cmdt src synd = s.bump (F.DMC_ECNT c) :=
  if_pos h

theorem exec_dramAlertParity (hu : s.tick t = u) (hst : u.rd (F.DMC_STATE c) = 2 ∨ u.rd (F.DMC_STATE c) = 3) :
    exec (.dramAlertParity t c line) s = .next (match u.mem.txs.find? (fun x => x.line == line) with
      | some x => freezeChannel u c 2 line (if x.kind = 5 then 2 else 1) x.src 0
      | none => freezeChannel u c 2 line 3 0 0) := by
  subst hu
  exact congrArg Host.Outcome.next (if_neg (by omega))

theorem exec_dramAlertParity_frozen (hu : s.tick t = u) (hst : u.rd (F.DMC_STATE c) = 3) :
    exec (.dramAlertParity t c line) s = .next (u.bump (F.DMC_ECNT c)) := by
  rw [exec_dramAlertParity hu (.inr hst)]
  split
  · rw [freezeChannel_again hst]
  · rw [freezeChannel_again hst]

theorem exec_dramWriteCrcError (hu : s.tick t = u) (hst : u.rd (F.DMC_STATE c) = 2) (hcrc : u.rd (F.DMC_WCRC c) ≠ 0)
    (hn : (if (u.dmc c).crc.1 = line then (u.dmc c).crc.2 + 1 else 1) = n) :
    exec (.dramWriteCrcError t c line) s = .next (
      if n < 3 then (u.setDmc c { u.dmc c with crc := (line, n) }).bump (F.DMC_WCRCR c)
      else
        let q := u.setDmc c { u.dmc c with crc := (0, 0) }
        match q.mem.txs.find? (fun x => x.line == line) with
        | some x => freezeChannel q c 3 line 2 x.src 0
        | none => freezeChannel (q.free 8).2 c 3 line 2 (q.free 8).1.toNat 0) := by
  have hexec : exec (.dramWriteCrcError t c line) s = execDramWriteCrcError t c line s := rfl
  rw [hexec, execDramWriteCrcError, hu]
  dsimp only
  rw [if_neg (by omega), if_neg (by omega), hn] <;> rfl

theorem exec_dramWriteCrcError_frozen (hu : s.tick t = u) (hst : u.rd (F.DMC_STATE c) = 3) :
    exec (.dramWriteCrcError t c line) s = .next (u.bump (F.DMC_ECNT c)) := by
  subst hu
  exact congrArg Host.Outcome.next (if_pos hst)

theorem channelErrors : Claims.ChannelErrors := by
  intro s t c line errs x u d put
  refine ⟨fun hx hc hst => ?_, fun hst => ⟨exec_dramAlertParity_frozen rfl hst, exec_dramWriteCrcError_frozen rfl hst⟩, fun hst hx => ?_, fun hst hx => ?_,
    fun hst hcrc => ?_⟩
  · have hexec := exec_dramReadDecode (u := u) (d := d) rfl hx hc hst rfl
    refine ⟨fun h3 => hexec.trans (congrArg Host.Outcome.next (if_pos h3)), fun h0 => ?_, fun h1 => ?_, fun h2 => ?_⟩
    · rw [hexec, h0]
      rfl
    · rw [hexec, h1]
      rfl
    · rw [hexec, h2]
      rfl
  · rw [exec_dramAlertParity (u := u) rfl (.inl hst), hx]
  · rw [exec_dramAlertParity (u := u) rfl (.inl hst), hx]
  · intro n
    have hexec := exec_dramWriteCrcError (u := u) (n := n) rfl hst hcrc rfl
    refine ⟨fun h3 => hexec.trans (congrArg Host.Outcome.next (if_pos h3)), fun h3 hx => hexec.trans (congrArg Host.Outcome.next ((if_neg (by omega)).trans ?_))⟩
    dsimp only
    rw [show (u.setDmc c { u.dmc c with crc := (0, 0) }).mem.txs.find? (fun x => x.line == line) = some x from hx]

/-- Settles O49: a channel's commands follow its state, and its first error freezes it. -/
theorem Proofs.dramChannels : Obligations.DramChannels := ⟨channelCommands, channelErrors⟩

/-! ### Upkeep -/

theorem exec_dramPatrolRead {errs : List (ℕ × ℕ)} {y : Dmc} {a : ℕ} {d : Decoded} (hu : s.tick t = u) (hy : u.dmc c = y) (ha : channelLine u c y.patrol = a)
    (hd : decodeBurst (u.memLine a) (u.marked a) errs = d) (hst : u.rd (F.DMC_STATE c) = 2) (hs : u.rd (F.DMC_SCRUB c) ≠ 0)
    (hdue : y.activeAt + 1000000000 ≤ u.now) :
    exec (.dramPatrolRead t c errs) s = .next (
      let q := u.setDmc c { y with patrol := (y.patrol + 1) % channelLines u c }
      if d.out = 1 then (q.memStore a d.words (q.marked a)).bump (F.DMC_SCOR c)
      else if d.out = 3 then (((q.memStore a d.words true).bump (F.DMC_SUNC c)).pageErr (0x260 + c) 0x12 17 (a % 2 ^ 40)).setBit (F.DMC_EVT c) 2
      else q) := by
  have hexec : exec (.dramPatrolRead t c errs) s = execDramPatrolRead t c errs s := rfl
  have hon : ¬ (u.rd (F.DMC_STATE c) ≠ 2 ∨ u.rd (F.DMC_SCRUB c) = 0 ∨ u.now < y.activeAt + 1000000000) := by omega
  rw [hexec, execDramPatrolRead, hu]
  simp only [hy, if_neg hon, ha, hd, dmcPage]

theorem exec_dramRefresh {y : Dmc} {k : ℕ} (hu : s.tick t = u) (hy : u.dmc c = y) (hk : tget y.owed n = k)
    (hst : u.rd (F.DMC_STATE c) = 2 ∨ u.rd (F.DMC_STATE c) = 3) :
    exec (.dramRefresh t c n m) s = .next (
      if 3 ≤ k + 1 ∨ u.rd (F.DMC_STATE c) = 3 then (u.setDmc c { y with owed := tset y.owed n k }).bump (F.DMC_REFAB c)
      else if bankQueued u c n m then u.setDmc c { y with owed := tset y.owed n (k + 1) }
      else (u.setDmc c { y with owed := tset y.owed n k }).bump (F.DMC_REFSB c)) := by
  have hexec : exec (.dramRefresh t c n m) s = execDramRefresh t c n m s := rfl
  have hon : ¬ (u.rd (F.DMC_STATE c) ≠ 2 ∧ u.rd (F.DMC_STATE c) ≠ 3) := by omega
  rw [hexec, execDramRefresh, hu]
  simp only [hy, hk, if_neg hon, Nat.add_sub_cancel]

theorem channelUpkeep : Claims.ChannelUpkeep := by
  intro s t c n m errs u x line d q
  refine ⟨fun hoff => ?_, fun hst hs hdue => ?_, fun hst ho => ⟨fun hb => ?_, fun hb => ?_⟩, fun hst => ?_,
    fun hst hr => congrArg Host.Outcome.next (if_pos ⟨hst, hr⟩), fun y hy hn hsrc hc hdue hst => ?_, fun hst => ?_,
    fun hst hm => congrArg Host.Outcome.next (if_pos ⟨hst, hm⟩), fun hno => ?_⟩
  · refine congrArg Host.Outcome.next (if_pos ?_)
    rcases hoff with h | h
    · exact .inl h
    · exact .inr (.inl h)
  · have hexec := exec_dramPatrolRead (u := u) (d := d) rfl rfl rfl rfl hst hs hdue
    refine ⟨fun h => ?_, fun h => ?_, fun h => ?_⟩
    · exact hexec.trans (congrArg Host.Outcome.next ((if_neg (by omega)).trans (if_neg (by omega))))
    · exact hexec.trans (congrArg Host.Outcome.next (if_pos h))
    · exact hexec.trans (congrArg Host.Outcome.next ((if_neg (by omega)).trans (if_pos h)))
  · exact (exec_dramRefresh (u := u) (k := tget x.owed n) rfl rfl rfl (.inl hst)).trans (congrArg Host.Outcome.next ((if_neg (by omega)).trans (if_pos hb)))
  · exact (exec_dramRefresh (u := u) (k := tget x.owed n) rfl rfl rfl (.inl hst)).trans
      (congrArg Host.Outcome.next ((if_neg (by omega)).trans (if_neg (by rw [hb]; exact Bool.false_ne_true))))
  · exact (exec_dramRefresh (u := u) (k := tget x.owed n) rfl rfl rfl (by omega)).trans (congrArg Host.Outcome.next (if_pos (by omega)))
  · refine congrArg Host.Outcome.next (if_pos ⟨hn, hst, List.any_eq_true.2 ⟨y, hy, ?_⟩⟩)
    rw [hsrc, decide_eq_true hc, decide_eq_true hdue, beq_self_eq_true]
    rfl
  · exact congrArg Host.Outcome.next (if_neg fun h => hst h.2.1)
  · refine congrArg Host.Outcome.next (if_neg ?_)
    rintro ⟨hst, hm⟩
    exact hno.elim (fun h => h hst) (fun h => Nat.not_lt.2 h hm)

/-! ### Training -/

theorem trainingSteps : Claims.TrainingSteps := by
  intro s t c lane sub rank l u page x q
  refine ⟨fun h0 b => congrArg Host.Outcome.next (if_pos h0), fun h0 => ?_⟩
  intro v
  refine ⟨fun hr => ?_, fun hr h6 => ?_, fun hr h6 => ?_, ?_⟩
  · exact congrArg Host.Outcome.next ((if_neg h0).trans ((if_pos rfl).trans (if_pos (by rw [hr]; exact Bool.false_ne_true))))
  · exact congrArg Host.Outcome.next ((if_neg h0).trans ((if_pos rfl).trans ((if_neg (not_not.2 hr)).trans (if_pos h6))))
  · exact congrArg Host.Outcome.next ((if_neg h0).trans ((if_pos rfl).trans ((if_neg (not_not.2 hr)).trans (if_neg (Nat.not_lt.2 h6)))))
  · exact congrArg Host.Outcome.next ((if_neg h0).trans (if_neg Bool.false_ne_true))

/-- Settles O50: each act of upkeep has its state of the channel, and a training step passes or ends the training. -/
theorem dramUpkeep : Obligations.DramUpkeep := ⟨channelUpkeep, trainingSteps⟩

end Sys2Proof.Machine
end

section
/-! PROOFS. The DMA engine: its commands and bursts (R491 to R505). -/

namespace Sys2Proof.Machine
open Sys2Proof

variable {s u : State} {t init n seq h opc r k : ℕ}

/-! ### Commands -/

/-- What an accepted command of the DMA does. -/
def dmaCommanded (q : State) (init opc h : ℕ) : State :=
  let n := h % 2 ^ 20
  let live := decide (q.rd (F.DMB_CST n) = 2) || decide (q.rd (F.DMB_CST n) = 3)
  if opc = 1 then dmaCreate q init
  else if opc = 2 then (if live then q.complete 0x270 1 4 0 else (dmaFree q n).complete 0x270 0 0 0)
  else if opc = 3 then (if live then q.complete 0x270 1 4 0 else dmaStart q n)
  else if live then dmaStop q n (if getField (dmaArg q 0) 0 1 = 1 then 2 else 1)
  else q.complete 0x270 0x80 0 0

theorem dmaBell_create (hr : Rings s init 0x270 seq 1 0) : dmaBell s init seq 1 0 = dmaCreate (accepted s 0x270 seq 1 0) init := by
  unfold dmaBell
  extract_lets late
  have hl : late (rung s 0x270 seq 1 0) = none := rfl
  rw [doorbell_accepted hr hl] <;> rfl

theorem dmaBell_accepted (hr : Rings s init 0x270 seq opc h) (ho : opc ≠ 1) (hc : dmaHandleCheck (rung s 0x270 seq opc h) init h = none) :
    dmaBell s init seq opc h = dmaCommanded (accepted s 0x270 seq opc h) init opc h := by
  unfold dmaBell
  extract_lets late
  have hl : late (rung s 0x270 seq opc h) = none := (if_neg ho).trans hc
  rw [doorbell_accepted hr hl] <;> rfl

theorem dmaBell_refused (hr : Rings s init 0x270 seq opc h) (ho : opc ≠ 1) (hc : dmaHandleCheck (rung s 0x270 seq opc h) init h = some r) :
    dmaBell s init seq opc h = (rung s 0x270 seq opc h).ignored 0x270 8 r := by
  unfold dmaBell
  extract_lets late
  have hl : late (rung s 0x270 seq opc h) = some r := (if_neg ho).trans hc
  rw [doorbell_refused hr hl]

/-- A channel that is not at work: created, ended or failed. -/
abbrev DmaLive (s : State) (n : ℕ) : Prop := s.rd (F.DMB_CST n) = 2 ∨ s.rd (F.DMB_CST n) = 3

theorem dmaLive_decide (hl : DmaLive s n) : (decide (s.rd (F.DMB_CST n) = 2) || decide (s.rd (F.DMB_CST n) = 3)) = true := by
  rw [Bool.or_eq_true, decide_eq_true_eq, decide_eq_true_eq]
  exact hl

theorem not_dmaLive_decide (hl : ¬ DmaLive s n) : ¬ (decide (s.rd (F.DMB_CST n) = 2) || decide (s.rd (F.DMB_CST n) = 3)) = true := by
  rw [Bool.or_eq_true, decide_eq_true_eq, decide_eq_true_eq]
  exact hl

theorem dmaCommanded_destroy (hl : ¬ DmaLive s (h % 2 ^ 20)) : dmaCommanded s init 2 h = (dmaFree s (h % 2 ^ 20)).complete 0x270 0 0 0 :=
  if_neg (not_dmaLive_decide hl)

theorem dmaCommanded_start (hl : ¬ DmaLive s (h % 2 ^ 20)) : dmaCommanded s init 3 h = dmaStart s (h % 2 ^ 20) :=
  if_neg (not_dmaLive_decide hl)

theorem dmaCommanded_busy (ho : opc = 2 ∨ opc = 3) (hl : DmaLive s (h % 2 ^ 20)) : dmaCommanded s init opc h = s.complete 0x270 1 4 0 := by
  rcases ho with rfl | rfl
  · exact if_pos (dmaLive_decide hl)
  · exact if_pos (dmaLive_decide hl)

theorem dmaCommanded_stop (hl : DmaLive s (h % 2 ^ 20)) :
    dmaCommanded s init 4 h = dmaStop s (h % 2 ^ 20) (if getField (dmaArg s 0) 0 1 = 1 then 2 else 1) := if_pos (dmaLive_decide hl)

theorem dmaCommanded_stopped (hl : ¬ DmaLive s (h % 2 ^ 20)) : dmaCommanded s init 4 h = s.complete 0x270 0x80 0 0 := if_neg (not_dmaLive_decide hl)

/-- A CREATE of a host scribe that finds a free channel. -/
theorem dmaCreate_free (hh : hostScribe s init = true) (hk : findBelow (fun n => decide (s.rd (F.DMB_CST n) = 0)) 32 = some k) :
    dmaCreate s init =
      if dmaArgBad s then s.complete 0x270 1 2 0
      else if (List.range 4).any (fun j => winBeyond (dmaArg s (1 + j))) then s.complete 0x270 1 3 0
      else
        let r := (s.setDma k {}).wr (F.DMA_VCFG k) (getField (dmaArg s 0) 0 45)
        let w := (List.range 4).foldl (fun s j => s.wr (F.DMA_VWIN k j) (getField (dmaArg s (1 + j)) 0 64)) r
        let v := (w.wr (F.DMB_CST k) 1).wr (F.DMB_OWNER k) (dmaCfg w k 40 4)
        v.complete 0x270 0 0 (v.handle 5 k k) := by
  unfold dmaCreate
  rw [if_neg (not_not.2 hh), hk] <;> rfl

theorem dmaCreate_full (hh : hostScribe s init = true) (hk : findBelow (fun n => decide (s.rd (F.DMB_CST n) = 0)) 32 = none) :
    dmaCreate s init = s.complete 0x270 1 1 0 := by
  unfold dmaCreate
  rw [if_neg (not_not.2 hh), hk] <;> rfl

theorem dmaCommands : Claims.DmaCommands := by
  intro s t init seq h u n
  refine ⟨fun hr => ?_, fun e he hr => ?_⟩
  · have hexec : exec (.dmaCreate t init seq 0) s = .next (dmaCreate (accepted u 0x270 seq 1 0) init) :=
      congrArg Host.Outcome.next ((gatedCmd_of_passes hr.passes _ _ _ _).trans (dmaBell_create hr))
    rw [hexec]
    intro q
    refine ⟨fun hh => congrArg Host.Outcome.next (if_pos (by rw [hh]; exact Bool.false_ne_true)), fun hh => ?_⟩
    intro free
    refine ⟨fun hk => congrArg Host.Outcome.next (dmaCreate_full hh hk),
      fun k hk hbad => congrArg Host.Outcome.next ((dmaCreate_free hh hk).trans (if_pos hbad)),
      fun k hk hok ⟨j, hj, hw⟩ => congrArg Host.Outcome.next ((dmaCreate_free hh hk).trans ((if_neg ?_).trans (if_pos ?_))),
      fun k hk hok hw => congrArg Host.Outcome.next ((dmaCreate_free hh hk).trans ((if_neg ?_).trans (if_neg ?_)))⟩
    · rw [hok]
      exact Bool.false_ne_true
    · exact List.any_eq_true.2 ⟨j, List.mem_range.2 hj, hw⟩
    · rw [hok]
      exact Bool.false_ne_true
    · rw [List.any_eq_true]
      rintro ⟨j, hj, hw'⟩
      exact Bool.false_ne_true ((hw j (List.mem_range.1 hj)).symm.trans hw')
  · have hexec : exec e.1 s = .next (u.gatedCmd init 0x270 seq e.2 h (fun q => dmaBell q init seq e.2 h)) ∧ e.2 ≠ 1 := by
      simp only [List.mem_cons, List.not_mem_nil, or_false] at he
      rcases he with rfl | rfl | rfl
      · exact ⟨rfl, by simp⟩
      · exact ⟨rfl, by simp⟩
      · exact ⟨rfl, by simp⟩
    obtain ⟨hexec, hne⟩ := hexec
    rw [hexec, gatedCmd_of_passes hr.passes]
    intro v q live
    refine ⟨fun r hc => congrArg Host.Outcome.next (dmaBell_refused hr hne hc), fun hc => ?_⟩
    have done {r : State} (hd : dmaCommanded q init e.2 h = r) : Host.Outcome.next (φ := Fault) (ρ := Refusal) (dmaBell u init seq e.2 h) = .next r :=
      congrArg Host.Outcome.next ((dmaBell_accepted hr hne hc).trans hd)
    refine ⟨fun ho hl => done ?_, fun ho hl => done ?_, fun ho hl => done (dmaCommanded_busy ho hl), fun ho hl => done ?_, fun ho hl => done ?_⟩
    · exact (congrArg (dmaCommanded q init · h) ho).trans (dmaCommanded_destroy hl)
    · exact (congrArg (dmaCommanded q init · h) ho).trans (dmaCommanded_start hl)
    · exact (congrArg (dmaCommanded q init · h) ho).trans (dmaCommanded_stop hl)
    · exact (congrArg (dmaCommanded q init · h) ho).trans (dmaCommanded_stopped hl)

/-! ### Bursts -/

/-- A burst that waits 50 µs for a read ends with the error of its source (R503). -/
theorem exec_dmaTargetTimeout {a : ℕ} {c : DmaChan} (hu : s.tick t = u) (hc : u.dmaChan n = c) (hb : c.busy = true) (hs : dmaSettled u n = false)
    (hdue : c.since + 50000 ≤ u.now) (hw : c.wait = some a) :
    exec (.dmaTargetTimeout t n) s = .next (dmaBurstEnd (dmaErr u n { code := 4, desc := c.src.desc, addr := a * 64 }) n) := by
  have hexec : exec (.dmaTargetTimeout t n) s = execDmaTargetTimeout t n s := rfl
  rw [hexec, execDmaTargetTimeout, hu]
  simp only [hc, hb, hs, hdue, hw, Option.isSome_some, Option.isNone_some, Option.getD_some, true_or, and_true, Bool.false_eq_true,
    not_false_eq_true, if_true]

theorem dmaBursts : Claims.DmaBursts := by
  intro s t n u c
  have hburst : exec (.dmaBurst t n) s = .next (if 32 ≤ n then u
      else if c.busy then (if c.stop = 2 ∨ c.stop = 4 then u else dmaMoves dmaFuel u n)
      else if (List.range 32).any (fun n => (u.dmaChan n).busy) ∨ dmaTurn u ≠ some n then u
      else
        let q : State := { u.setDma n { c with busy := true, quota := Machine.dmaBurst u n * 64, lines := [], since := u.now } with dmaLast := n }
        dmaMoves dmaFuel (q.wr (F.DMB_WAIT n) 0) n) := rfl
  have idle {b : Bool} (h : b = false) : ¬ b = true := by rw [h]; exact Bool.false_ne_true
  refine ⟨fun hn hb hall ht => ?_, fun hb hno => ?_, fun hn hb h2 h4 => ?_, fun hs => ?_, fun hs => ?_, fun hno => ?_, fun a hb hs hdue hw => ?_⟩
  · have hany : ¬ ((List.range 32).any (fun n => (u.dmaChan n).busy) = true ∨ dmaTurn u ≠ some n) := by
      refine not_or.2 ⟨?_, not_not.2 ht⟩
      rw [List.any_eq_true]
      rintro ⟨k, hk, hbusy⟩
      exact idle (hall k (List.mem_range.1 hk)) hbusy
    exact hburst.trans (congrArg Host.Outcome.next ((if_neg (Nat.not_le.2 hn)).trans ((if_neg (idle hb)).trans (if_neg hany))))
  · have hany : (List.range 32).any (fun n => (u.dmaChan n).busy) = true ∨ dmaTurn u ≠ some n :=
      hno.imp_left fun ⟨k, hk, hbusy⟩ => List.any_eq_true.2 ⟨k, List.mem_range.2 hk, hbusy⟩
    rw [hburst, if_neg (idle hb), if_pos hany, ite_self]
  · exact hburst.trans (congrArg Host.Outcome.next ((if_neg (Nat.not_le.2 hn)).trans ((if_pos hb).trans (if_neg (not_or.2 ⟨h2, h4⟩)))))
  · exact congrArg Host.Outcome.next (if_neg (idle hs))
  · exact congrArg Host.Outcome.next (if_pos hs)
  · refine congrArg Host.Outcome.next (if_neg ?_)
    rintro ⟨hb, -, hdue, -⟩
    rcases hno with h | h
    · exact idle h hb
    · exact Nat.not_le.2 h hdue
  · exact exec_dmaTargetTimeout rfl rfl hb hs hdue hw

/-- Settles O51: a command is accepted in the states it needs, and one burst runs at a time. -/
theorem dmaEngine : Obligations.DmaEngine := ⟨dmaCommands, dmaBursts⟩

end Sys2Proof.Machine
end

section
/-! PROOFS. Tenants: the commands of their page (R520 to R528). -/

namespace Sys2Proof.Machine
open Sys2Proof

variable {s q u : State} {t init seq h opc r k : ℕ}

/-- What an accepted command of the tenants' page does; an import that must wait for its memory leaves the state before it. -/
def tenCommanded (before q : State) (init opc h : ℕ) : State :=
  if ¬ hostScribe q init then tenRefuse q 1
  else if opc = 1 then tenActivate q else if opc = 2 then qpCreate q
  else if opc = 3 then tenDone (qpFree q (h % 2 ^ 20)) 0
  else if opc = 4 then tenFreeze q else if opc = 5 then tenExport q else if opc = 6 then (tenImport q).getD before
  else if opc = 7 then tenResume q else tenReset q

theorem tenBell_accepted (hr : Rings s init 0x2D0 seq opc 0) (ho : opc ≠ 3) :
    tenBell s init seq opc 0 = tenCommanded s (accepted s 0x2D0 seq opc 0) init opc 0 := by
  unfold tenBell
  extract_lets i late before
  have hl : late (rung s 0x2D0 seq opc 0) = none := (if_pos ho).trans (if_neg (by decide))
  rw [doorbell_accepted hr hl] <;> rfl

/-- The check of a queue pair's handle: its kind, generation and owner. -/
abbrev qpOwned (v : State) (init h : ℕ) : Option ℕ :=
  handleCheck v qpHandles h (fun q => v.rd (F.TEN_OWNER q) = initTenant v init || initTenant v init = 0)

theorem tenBell_destroy_refused (hr : Rings s init 0x2D0 seq 3 h) (hc : qpOwned (rung s 0x2D0 seq 3 h) init h = some r) :
    tenBell s init seq 3 h = (rung s 0x2D0 seq 3 h).ignored 0x2D0 8 r := by
  unfold tenBell
  extract_lets i late before
  have hl : late (rung s 0x2D0 seq 3 h) = some r := by
    refine (if_neg (by decide)).trans ?_
    unfold qpOwned at hc
    rw [hc]
  rw [doorbell_refused hr hl]

/-- A queue pair that is owned, in use, and whose tenant is not being reset. -/
abbrev QpInUse (v : State) (h : ℕ) : Prop :=
  ¬ (v.rd (F.TEN_QSTATE (h % 2 ^ 20)) = 0 ∨ v.rd (F.TEN_TSTATE (v.rd (F.TEN_OWNER (h % 2 ^ 20)))) = 3)

theorem tenBell_destroy_idle (hr : Rings s init 0x2D0 seq 3 h) (hc : qpOwned (rung s 0x2D0 seq 3 h) init h = none)
    (hq : ¬ QpInUse (rung s 0x2D0 seq 3 h) h) : tenBell s init seq 3 h = (rung s 0x2D0 seq 3 h).ignored 0x2D0 8 7 := by
  unfold tenBell
  extract_lets i late before
  have hl : late (rung s 0x2D0 seq 3 h) = some 7 := by
    refine (if_neg (by decide)).trans ?_
    unfold qpOwned at hc
    rw [hc]
    exact if_pos (not_not.1 hq)
  rw [doorbell_refused hr hl]

theorem tenBell_destroy (hr : Rings s init 0x2D0 seq 3 h) (hc : qpOwned (rung s 0x2D0 seq 3 h) init h = none)
    (hq : QpInUse (rung s 0x2D0 seq 3 h) h) (hh : hostScribe (accepted s 0x2D0 seq 3 h) init = true) :
    tenBell s init seq 3 h = (qpFree (accepted s 0x2D0 seq 3 h) (h % 2 ^ 20)).complete 0x2D0 0 0 0 := by
  unfold tenBell
  extract_lets i late before
  have hl : late (rung s 0x2D0 seq 3 h) = none := by
    refine (if_neg (by decide)).trans ?_
    unfold qpOwned at hc
    rw [hc]
    exact if_neg hq
  rw [doorbell_accepted hr hl]
  exact if_neg (not_not.2 hh)

/-! ### What each command does -/

theorem tenActivate_refused (hb : getField (tenArg q 0) 0 4 = 0 ∨ q.rd (F.TEN_TSTATE (getField (tenArg q 0) 0 4)) ≠ 0) :
    tenActivate q = q.complete 0x2D0 1 2 0 := if_pos hb

theorem tenActivate_done (hk : getField (tenArg q 0) 0 4 ≠ 0) (hs : q.rd (F.TEN_TSTATE (getField (tenArg q 0) 0 4)) = 0) :
    tenActivate q = (q.wr (F.TEN_TSTATE (getField (tenArg q 0) 0 4)) 1).complete 0x2D0 0 0 0 := if_neg (by omega)

theorem tenFreeze_refused (hb : getField (tenArg q 0) 0 4 = 0 ∨ q.rd (F.TEN_TSTATE (getField (tenArg q 0) 0 4)) ≠ 1) :
    tenFreeze q = q.complete 0x2D0 1 2 0 := by
  refine if_pos ?_
  rcases hb with h | h
  · exact .inl h
  · exact .inr (.inl h)

theorem tenFreeze_ready (hk : getField (tenArg q 0) 0 4 ≠ 0) (hs : q.rd (F.TEN_TSTATE (getField (tenArg q 0) 0 4)) = 1)
    (hf : (q.ten (getField (tenArg q 0) 0 4)).freezeAt = none) :
    tenFreeze q = if instantNs (tenArg q 1) < q.devTime + 1000000 then q.complete 0x2D0 1 5 0
      else (q.setTen (getField (tenArg q 0) 0 4) { q.ten (getField (tenArg q 0) 0 4) with
        freezeAt := some (instantNs (tenArg q 1)), nds := [], resumeAt := none }).complete 0x2D0 0 0 0 := by
  refine if_neg (not_or.2 ⟨hk, not_or.2 ⟨not_not.2 hs, ?_⟩⟩)
  rw [hf]
  exact Bool.false_ne_true

theorem tenExport_refused (hb : getField (tenArg q 0) 0 4 = 0 ∨ q.rd (F.TEN_TSTATE (getField (tenArg q 0) 0 4)) ≠ 2) :
    tenExport q = q.complete 0x2D0 1 2 0 := if_pos hb

theorem tenExport_misaligned (hk : getField (tenArg q 0) 0 4 ≠ 0) (hs : q.rd (F.TEN_TSTATE (getField (tenArg q 0) 0 4)) = 2)
    (ha : getField (tenArg q 1) 0 44 % 8 ≠ 0) : tenExport q = q.complete 0x2D0 1 4 0 := by
  unfold tenExport
  exact (if_neg (not_or.2 ⟨hk, not_not.2 hs⟩)).trans (if_pos (.inl ha))

theorem tenImport_refused (hb : getField (tenArg q 0) 0 4 = 0 ∨ q.rd (F.TEN_TSTATE (getField (tenArg q 0) 0 4)) ≠ 0) :
    tenImport q = some (q.complete 0x2D0 1 2 0) := if_pos hb

theorem tenImport_misaligned (hk : getField (tenArg q 0) 0 4 ≠ 0) (hs : q.rd (F.TEN_TSTATE (getField (tenArg q 0) 0 4)) = 0)
    (ha : getField (tenArg q 1) 0 44 % 8 ≠ 0) : tenImport q = some (q.complete 0x2D0 1 4 0) := by
  unfold tenImport
  exact (if_neg (not_or.2 ⟨hk, not_not.2 hs⟩)).trans (if_pos (.inl ha))

theorem tenResume_refused (hb : getField (tenArg q 0) 0 4 = 0 ∨ q.rd (F.TEN_TSTATE (getField (tenArg q 0) 0 4)) ≠ 2) :
    tenResume q = q.complete 0x2D0 1 2 0 := if_pos hb

theorem tenResume_ready (hk : getField (tenArg q 0) 0 4 ≠ 0) (hs : q.rd (F.TEN_TSTATE (getField (tenArg q 0) 0 4)) = 2) :
    tenResume q = if instantNs (tenArg q 1) < q.devTime + 1000000 then q.complete 0x2D0 1 5 0
      else (q.setTen (getField (tenArg q 0) 0 4) { q.ten (getField (tenArg q 0) 0 4) with
        resumeAt := some (instantNs (tenArg q 1)) }).complete 0x2D0 0 0 0 := if_neg (by omega)

theorem tenReset_refused (hb : getField (tenArg q 0) 0 4 = 0 ∨
      (q.rd (F.TEN_TSTATE (getField (tenArg q 0) 0 4)) ≠ 1 ∧ q.rd (F.TEN_TSTATE (getField (tenArg q 0) 0 4)) ≠ 2)) :
    tenReset q = q.complete 0x2D0 1 2 0 := if_pos hb

theorem foldl_of_fixed {α σ : Type} {f : σ → α → σ} {l : List α} {s : σ} (h : ∀ a ∈ l, f s a = s) : l.foldl f s = s := by
  induction l with
  | nil => rfl
  | cons a l ih =>
    rw [List.foldl_cons, h a List.mem_cons_self]
    exact ih fun b hb => h b (List.mem_cons_of_mem a hb)

/-- A tenant whose reset begins (R528). -/
def resetBegun (q : State) (k : ℕ) : State :=
  (q.wr (F.TEN_TSTATE k) 3).setTen k { q.ten k with squash := decide (getField (tenArg q 0) 4 1 = 1), freezeAt := none, resumeAt := none, nds := [] }

theorem tenReset_quiet (hq : twf q.regs = true) (hk : getField (tenArg q 0) 0 4 = k) (h0 : k ≠ 0) (h16 : k < 16) (hs : q.rd (F.TEN_TSTATE k) = 1 ∨ q.rd (F.TEN_TSTATE k) = 2)
    (hd : ∀ n < 32, ¬ (q.rd (F.DMB_OWNER n) = k ∧ q.rd (F.DMB_CST n) = 2)) :
    tenReset q = (tenFns (resetBegun q k) k).foldl destroyFn (resetBegun q k) := by
  have hfold : (List.range 32).foldl (fun s n =>
      if s.rd (F.DMB_OWNER n) = k ∧ s.rd (F.DMB_CST n) = 2 then dmaStop s n (if getField (tenArg q 0) 4 1 = 1 then 4 else 3) else s) (resetBegun q k) =
        resetBegun q k := by
    refine foldl_of_fixed fun n hn => if_neg ?_
    have hn32 : n < 32 := List.mem_range.1 hn
    have howner : (resetBegun q k).rd (F.DMB_OWNER n) = q.rd (F.DMB_OWNER n) :=
      rd_wr_apart hq (f := F.TEN_TSTATE k) (by simp [F.TEN_TSTATE]) (.inl (by simp only [F.TEN_TSTATE, F.DMB_OWNER]; omega)) 3
    have hcst : (resetBegun q k).rd (F.DMB_CST n) = q.rd (F.DMB_CST n) :=
      rd_wr_apart hq (f := F.TEN_TSTATE k) (by simp [F.TEN_TSTATE]) (.inl (by simp only [F.TEN_TSTATE, F.DMB_CST]; omega)) 3
    rw [howner, hcst]
    exact hd n hn32
  unfold tenReset
  rw [hk]
  dsimp only
  rw [if_neg (by omega)]
  exact congrArg (fun r => (tenFns r k).foldl destroyFn r) hfold

theorem qpCreate_full (h : ∀ i < 64, q.rd (F.TEN_QSTATE i) ≠ 0) : qpCreate q = q.complete 0x2D0 1 3 0 := by
  have hn : findBelow (fun i => decide (q.rd (F.TEN_QSTATE i) = 0)) 64 = none := findBelow_none fun i hi => decide_eq_false (h i hi)
  unfold qpCreate
  dsimp only
  rw [hn]
  rfl

theorem keeps_accepted (s : State) (page seq opc h : ℕ) : Keeps s (accepted s page seq opc h) :=
  (Keeps.refl s).wr.wr.wr.wr.wr.wr

/-- The tables of an accepted command's state are canonical. -/
theorem accepted_inv (h : s.Inv) (t page seq opc k : ℕ) : (accepted (s.tick t) page seq opc k).Inv :=
  (keeps_accepted _ _ _ _ _).inv ((Keeps.refl s).tick.inv h)

theorem tenantCommands : Claims.TenantCommands := by
  intro s t init seq h u page
  refine ⟨fun e he hr => ?_, fun hr => ?_⟩
  · have hexec : exec e.1 s = .next (u.gatedCmd init 0x2D0 seq e.2 0 (fun q => tenBell q init seq e.2 0)) ∧ e.2 ≠ 3 := by
      simp only [List.mem_cons, List.not_mem_nil, or_false] at he
      rcases he with rfl | rfl | rfl | rfl | rfl | rfl | rfl
      · exact ⟨rfl, by simp⟩
      · exact ⟨rfl, by simp⟩
      · exact ⟨rfl, by simp⟩
      · exact ⟨rfl, by simp⟩
      · exact ⟨rfl, by simp⟩
      · exact ⟨rfl, by simp⟩
      · exact ⟨rfl, by simp⟩
    obtain ⟨hexec, hne⟩ := hexec
    rw [hexec, gatedCmd_of_passes hr.passes]
    intro q k T st
    have done {r : State} (hd : tenCommanded u q init e.2 0 = r) : Host.Outcome.next (φ := Fault) (ρ := Refusal) (tenBell u init seq e.2 0) = .next r :=
      congrArg Host.Outcome.next ((tenBell_accepted hr hne).trans hd)
    refine ⟨fun hh => done (if_pos (by rw [hh]; exact Bool.false_ne_true)), fun hh => ?_⟩
    have host {opc : ℕ} (ho : e.2 = opc) : tenCommanded u q init e.2 0 = tenCommanded u q init opc 0 := by rw [ho]
    have act : tenCommanded u q init 1 0 = tenActivate q := by simp [tenCommanded, hh]
    have create : tenCommanded u q init 2 0 = qpCreate q := by simp [tenCommanded, hh]
    have freeze : tenCommanded u q init 4 0 = tenFreeze q := by simp [tenCommanded, hh]
    have blobOut : tenCommanded u q init 5 0 = tenExport q := by simp [tenCommanded, hh]
    have blobIn : tenCommanded u q init 6 0 = (tenImport q).getD u := by simp [tenCommanded, hh]
    have resume : tenCommanded u q init 7 0 = tenResume q := by simp [tenCommanded, hh]
    have reset : tenCommanded u q init 8 0 = tenReset q := by simp [tenCommanded, hh]
    refine ⟨⟨fun h2 hk => ?_, fun ho hs => ?_, fun ho hs => ?_, fun ho hs => ?_, fun ho h1 h2 => ?_⟩, fun ho hk hs => ?_, fun ho hf => ?_,
      fun ho hk hs hf => ?_, fun ho hk hs ha => ?_, fun ho hk hs ha => ?_, fun ho hk hs => ?_, fun ho hk hs hd => ?_⟩
    · simp only [List.mem_cons, List.not_mem_nil, or_false] at he
      rcases he with rfl | rfl | rfl | rfl | rfl | rfl | rfl
      · exact done (act.trans (tenActivate_refused (.inl hk)))
      · exact absurd rfl h2
      · exact done (freeze.trans (tenFreeze_refused (.inl hk)))
      · exact done (blobOut.trans (tenExport_refused (.inl hk)))
      · exact done (blobIn.trans (congrArg (Option.getD · u) (tenImport_refused (.inl hk))))
      · exact done (resume.trans (tenResume_refused (.inl hk)))
      · exact done (reset.trans (tenReset_refused (.inl hk)))
    · rcases ho with ho | ho
      · exact done ((host ho).trans (act.trans (tenActivate_refused (.inr hs))))
      · exact done ((host ho).trans (blobIn.trans (congrArg (Option.getD · u) (tenImport_refused (.inr hs)))))
    · exact done ((host ho).trans (freeze.trans (tenFreeze_refused (.inr hs))))
    · rcases ho with ho | ho
      · exact done ((host ho).trans (blobOut.trans (tenExport_refused (.inr hs))))
      · exact done ((host ho).trans (resume.trans (tenResume_refused (.inr hs))))
    · exact done ((host ho).trans (reset.trans (tenReset_refused (.inr ⟨h1, h2⟩))))
    · exact done ((host ho).trans (act.trans (tenActivate_done hk hs)))
    · exact done ((host ho).trans (create.trans (qpCreate_full hf)))
    · have hq := (host ho).trans (freeze.trans (tenFreeze_ready hk hs hf))
      exact ⟨fun hT => done (hq.trans (if_pos hT)), fun hT => done (hq.trans (if_neg (Nat.not_lt.2 hT)))⟩
    · exact done ((host ho).trans (blobOut.trans (tenExport_misaligned hk hs ha)))
    · exact done ((host ho).trans (blobIn.trans (congrArg (Option.getD · u) (tenImport_misaligned hk hs ha))))
    · have hq := (host ho).trans (resume.trans (tenResume_ready hk hs))
      exact ⟨fun hT => done (hq.trans (if_pos hT)), fun hT => done (hq.trans (if_neg (Nat.not_lt.2 hT)))⟩
    · intro r hi
      have hk16 : k < 16 := getField_lt _ 0 4
      exact done ((host ho).trans (reset.trans (tenReset_quiet (accepted_inv hi t 0x2D0 seq e.2 0).regs rfl hk hk16 hs hd)))
  · intro v q i c
    have hexec : exec (.qpdestroy t init seq h) s = .next (tenBell u init seq 3 h) :=
      congrArg Host.Outcome.next (gatedCmd_of_passes hr.passes _ _ _ _)
    rw [hexec]
    exact ⟨fun r hc => congrArg Host.Outcome.next (tenBell_destroy_refused hr hc),
      fun hc hs => congrArg Host.Outcome.next (tenBell_destroy_idle hr hc (not_not.2 (.inl hs))),
      fun hc hs h3 hh => congrArg Host.Outcome.next (tenBell_destroy hr hc (not_or.2 ⟨hs, h3⟩) hh)⟩

end Sys2Proof.Machine
end

section
/-! PROOFS. Tenants: the blobs of a migration, queue pairs, and the ends of freezes, resumes and resets (R520 to R528). -/

namespace Sys2Proof.Machine
open Sys2Proof

variable {s q u r : State} {t init seq opc k i n d T : ℕ}

/-! ### EXPORT and IMPORT -/

theorem tenExport_done (hk : getField (tenArg q 0) 0 4 = k) (h0 : k ≠ 0) (hs : q.rd (F.TEN_TSTATE k) = 2) {addr len nonce tag : ℕ} {payload body : List ℕ}
    {b : BitVec 96} (ha : getField (tenArg q 1) 0 44 = addr) (h8 : addr % 8 = 0) (hp : unpackWords (blobPayload q k) = payload)
    (hlen : 8 * ((512 + payload.length + 8) / 9) = len) (hd : inDram q addr len = true) (hroom : len ≤ getField (tenArg q 2) 0 32)
    (hf : q.free 96 = (b, r)) (hn : b.toNat = nonce)
    (hseal : Config.gcmSeal (migrationKey r) nonce (blobHeader payload.length nonce 0 k r.otp.uid) payload = (body, tag)) :
    tenExport q = (dramWrite r 0x25 addr (packWords (blobHeader payload.length nonce tag k r.otp.uid ++ body))).complete 0x2D0 0 0 0 := by
  subst hn
  unfold tenExport
  extract_lets k' addr' payload' len'
  have hk' : k' = k := hk
  have ha' : addr' = addr := ha
  have hp' : payload' = payload := (congrArg (fun x => unpackWords (blobPayload q x)) hk').trans hp
  have hlen' : len' = len := (congrArg (fun p : List ℕ => 8 * ((512 + p.length + 8) / 9)) hp').trans hlen
  rw [hk', ha', hlen', if_neg (not_or.2 ⟨h0, not_not.2 hs⟩), if_neg (not_or.2 ⟨not_not.2 h8, not_not.2 hd⟩), if_neg (Nat.not_lt.2 hroom), hf, hp']
  dsimp only
  rw [hseal] <;> rfl

/-- The header of a blob: 57 words whose first octets are the mark, the version and the level of the format. -/
structure BlobHeadOk (h : List ℕ) : Prop where
  mark : ofOctets (h.take 4) = 0x4546414C
  version : ofOctets ((h.drop 4).take 2) = 1
  level : ofOctets ((h.drop 6).take 1) = 3

section
variable {addr len words : ℕ} {hw bw : List Word} {x y : Bool} {r' : State}
variable (hk : getField (tenArg q 0) 0 4 = k) (h0 : k ≠ 0) (hs : q.rd (F.TEN_TSTATE k) = 0) (ha : getField (tenArg q 1) 0 44 = addr)
  (h8 : addr % 8 = 0) (hd : inDram q addr 456 = true) (hread : dramRead q 0x25 addr 57 = some (hw, x, r))
include hk h0 hs ha h8 hd hread

theorem tenImport_unmarked (hm : ofOctets ((unpackWords hw).take 4) ≠ 0x4546414C) : tenImport q = some (q.complete 0x2D0 1 6 0) := by
  unfold tenImport
  extract_lets k' addr'
  have hk' : k' = k := hk
  have ha' : addr' = addr := ha
  rw [hk', ha', if_neg (not_or.2 ⟨h0, not_not.2 hs⟩), if_neg (not_or.2 ⟨not_not.2 h8, not_not.2 hd⟩), hread]
  exact if_pos (.inl hm)

theorem tenImport_done {plain : List ℕ} {recs : List (ℕ × List Word)} {v : State} (hok : BlobHeadOk (unpackWords hw))
    (hlen : ofOctets (((unpackWords hw).drop 12).take 8) = len) (hwords : (512 + len + 8) / 9 = words) (hin : inDram q addr (8 * words) = true)
    (hbody : dramRead q 0x25 addr words = some (bw, y, r'))
    (hopen : Config.gcmOpen (migrationKey r') (ofOctets (((unpackWords hw).drop 28).take 12))
      ((unpackWords bw).take 40 ++ List.replicate 16 0 ++ ((unpackWords bw).take 512).drop 56) (((unpackWords bw).drop 512).take len)
      (ofOctets (((unpackWords hw).drop 40).take 16)) = some plain)
    (hrecs : readRecords (plain.length + 1) (packWords plain) = some recs) (himp : importBlob r' k recs = some v) :
    tenImport q = some (v.complete 0x2D0 0 0 0) := by
  subst hwords
  subst hlen
  unfold tenImport
  extract_lets k' addr'
  have hk' : k' = k := hk
  have ha' : addr' = addr := ha
  have hhead : ¬ (ofOctets (((unpackWords hw).drop 0).take 4) ≠ 0x4546414C ∨ ofOctets (((unpackWords hw).drop 4).take 2) ≠ 1 ∨
      ofOctets (((unpackWords hw).drop 6).take 1) ≠ 3) := not_or.2 ⟨not_not.2 hok.mark, not_or.2 ⟨not_not.2 hok.version, not_not.2 hok.level⟩⟩
  rw [hk', ha', if_neg (not_or.2 ⟨h0, not_not.2 hs⟩), if_neg (not_or.2 ⟨not_not.2 h8, not_not.2 hd⟩), hread]
  dsimp only
  rw [if_neg hhead, if_neg (not_not.2 hin), hbody]
  dsimp only
  rw [hopen]
  dsimp only
  rw [hrecs]
  dsimp only
  rw [himp] <;> rfl

end

/-! ### Queue pairs -/

/-- What QPCREATE writes for queue pair `i` (R526): its configuration from the argument words, and empty rings. -/
def qpWrites (q : State) (i : ℕ) : List (Fld × ℕ) :=
  [(F.TEN_QSTATE i, 1), (F.TEN_OWNER i, getField (tenArg q 0) 0 4), (F.TEN_PORT i, getField (tenArg q 0) 4 4),
    (F.TEN_RXLOG i, getField (tenArg q 0) 8 4), (F.TEN_TXLOG i, getField (tenArg q 0) 12 4), (F.TEN_BUFW i, getField (tenArg q 0) 16 8),
    (F.TEN_RINGBASE i 0, getField (tenArg q 1) 0 44), (F.TEN_RINGBASE i 1, getField (tenArg q 2) 0 44),
    (F.TEN_TAIL (2 * i), 0), (F.TEN_HEAD (2 * i), 0), (F.TEN_TAIL (2 * i + 1), 0), (F.TEN_HEAD (2 * i + 1), 0)]

theorem qpWrites_in (q : State) (i : ℕ) : ∀ e ∈ qpWrites q i, FldIn e.1 := by
  simp [qpWrites, F.TEN_QSTATE, F.TEN_OWNER, F.TEN_PORT, F.TEN_RXLOG, F.TEN_TXLOG, F.TEN_BUFW, F.TEN_RINGBASE, F.TEN_TAIL, F.TEN_HEAD]

/-- The words of a queue pair's page and those of its rings on the tenants' page. -/
theorem qpWrites_apart (q : State) {i : ℕ} (hi : i < 64) : (qpWrites q i).Pairwise fun a b => FldApart b.1 a.1 := by
  simp [qpWrites, FldApart, F.TEN_QSTATE, F.TEN_OWNER, F.TEN_PORT, F.TEN_RXLOG, F.TEN_TXLOG, F.TEN_BUFW, F.TEN_RINGBASE, F.TEN_TAIL, F.TEN_HEAD]
  omega

/-- The arguments of a QPCREATE are in range (R526). -/
def QpArgsOk (q : State) : Prop :=
  getField (tenArg q 0) 4 4 ≤ 9 ∧ 4 ≤ getField (tenArg q 0) 8 4 ∧ getField (tenArg q 0) 8 4 ≤ 12 ∧ 4 ≤ getField (tenArg q 0) 12 4 ∧
  getField (tenArg q 0) 12 4 ≤ 12 ∧ 8 ≤ getField (tenArg q 0) 16 8 ∧ getField (tenArg q 0) 16 8 ≤ 223 ∧
  q.rd (F.TEN_TSTATE (getField (tenArg q 0) 0 4)) = 1 ∧ getField (tenArg q 1) 0 44 % 32 = 0 ∧ getField (tenArg q 2) 0 44 % 32 = 0 ∧
  inDram q (getField (tenArg q 1) 0 44) (32 * 2 ^ getField (tenArg q 0) 8 4) = true ∧
  inDram q (getField (tenArg q 2) 0 44) (32 * 2 ^ getField (tenArg q 0) 12 4) = true

theorem wrs_gens (q : State) (l : List (Fld × ℕ)) : (q.wrs l).gens = q.gens := by
  induction l generalizing q with
  | nil => rfl
  | cons e l ih => exact ih (q.wr e.1 e.2)

theorem handle_of_gens (h : r.gens = q.gens) (k i j : ℕ) : r.handle k i j = q.handle k i j := by
  rw [State.handle, State.handle, State.gen, State.gen, h]

theorem qpCreate_done (hi : i < 64) (hfree : q.rd (F.TEN_QSTATE i) = 0) (hused : ∀ j < i, q.rd (F.TEN_QSTATE j) ≠ 0) (hok : QpArgsOk q) :
    qpCreate q = ((q.wrs (qpWrites q i)).setQp i {}).complete 0x2D0 0 0 (q.handle 6 i i) := by
  have hfind : findBelow (fun j => decide (q.rd (F.TEN_QSTATE j) = 0)) 64 = some i :=
    findBelow_some hi (decide_eq_true hfree) fun j hj => decide_eq_false (hused j hj)
  obtain ⟨hp, hr4, hr12, ht4, ht12, hb8, hb223, hact, hra, hta, hrr, htr⟩ := hok
  unfold qpCreate
  extract_lets a rx tx rlog tlog ringOk
  have hrx : ringOk rx rlog = true := by
    rw [Bool.and_eq_true, decide_eq_true_eq]
    exact ⟨hra, hrr⟩
  have htx : ringOk tx tlog = true := by
    rw [Bool.and_eq_true, decide_eq_true_eq]
    exact ⟨hta, htr⟩
  have hargs : ¬ (9 < getField a 4 4 ∨ rlog < 4 ∨ 12 < rlog ∨ tlog < 4 ∨ 12 < tlog ∨ getField a 16 8 < 8 ∨ 223 < getField a 16 8 ∨
      q.rd (F.TEN_TSTATE (getField a 0 4)) ≠ 1 ∨ ¬ ringOk rx rlog ∨ ¬ ringOk tx tlog) := by
    simp only [not_or, Nat.not_lt, not_not]
    exact ⟨hp, hr4, hr12, ht4, ht12, hb8, hb223, hact, hrx, htx⟩
  rw [hfind]
  exact (if_neg hargs).trans
    (congrArg (((q.wrs (qpWrites q i)).setQp i {}).complete 0x2D0 0 0 ·) (handle_of_gens (wrs_gens q (qpWrites q i)) 6 i i))

/-- A generation is at most 4,095 (R71). -/
theorem gen_lt (h : q.Inv) (k i : ℕ) : q.gen k i < 4096 := by
  rw [State.gen]
  have hg : tget q.gens (k * 2 ^ 20 + i) < 4095 := by
    rcases tget_mem q.gens (k * 2 ^ 20 + i) with h0 | hmem
    · rw [h0]
      decide
    · exact h.gens _ hmem
  omega

theorem qpHandle_lt (h : q.Inv) (hi : i < 64) : q.handle 6 i i < 2 ^ 36 := by
  have hg := gen_lt h 6 i
  rw [State.handle, handleOf]
  omega

theorem qpCreated_reads (h : q.Inv) (hi : i < 64) {f : Fld} {v : ℕ} (hf : (f, v) ∈ qpWrites q i) (hv : v < 2 ^ f.len)
    (ha : f.addr ≠ 0x2D0 * 512 + 9) (x : ℕ) : Reads (((q.wrs (qpWrites q i)).setQp i {}).complete 0x2D0 0 0 x) f v := by
  have hr : Reads ((q.wrs (qpWrites q i)).setQp i {}) f v :=
    (rd_wrs h.regs (qpWrites_in q i) (qpWrites_apart q hi) hf hv).of_regs (setQp_regs _ _ _)
  rw [complete_eq]
  refine hr.wrs (completeWrites_in _ _ _ _) fun e he => .inl ?_
  have haddr : e.1.addr = 0x2D0 * 512 + 9 := by
    simp only [completeWrites, List.mem_cons, List.not_mem_nil, or_false] at he
    rcases he with rfl | rfl | rfl | rfl
    · rfl
    · rfl
    · rfl
    · rfl
  rw [haddr]
  exact ha.symm

theorem keeps_wrs (l : List (Fld × ℕ)) : Keeps s (s.wrs l) := by
  rw [State.wrs]
  exact (Keeps.refl s).foldl fun _ _ h => h.wr

theorem tenantBlobs : Claims.TenantBlobs := by
  intro s t init seq u page
  refine ⟨fun hr => ?_, fun hr => ?_, fun hr hi => ?_⟩
  · have hexec : exec (.tenantExport t init seq) s = .next (tenCommanded u (accepted u 0x2D0 seq 5 0) init 5 0) :=
      congrArg Host.Outcome.next ((gatedCmd_of_passes hr.passes _ _ _ _).trans (tenBell_accepted hr (by decide)))
    rw [hexec]
    intro q k addr payload len nonce r head sealed' hh h0 hs h8 hd hroom
    have hdo : tenCommanded u q init 5 0 = tenExport q := by simp [tenCommanded, hh]
    exact congrArg Host.Outcome.next (hdo.trans (tenExport_done rfl h0 hs rfl h8 rfl rfl hd hroom rfl rfl rfl))
  · have hexec : exec (.tenantImport t init seq) s = .next (tenCommanded u (accepted u 0x2D0 seq 6 0) init 6 0) :=
      congrArg Host.Outcome.next ((gatedCmd_of_passes hr.passes _ _ _ _).trans (tenBell_accepted hr (by decide)))
    rw [hexec]
    intro q k addr hh h0 hs h8 hd
    have hdo : tenCommanded u q init 6 0 = (tenImport q).getD u := by simp [tenCommanded, hh]
    refine ⟨fun hw x r hread hm => ?_, ?_⟩
    · exact congrArg Host.Outcome.next (hdo.trans (congrArg (Option.getD · u) (tenImport_unmarked rfl h0 hs rfl h8 hd hread hm)))
    · intro hw x r bw y r' plain recs i h len words all head hread hm hv hl hin hbody hopen hrecs himp
      exact congrArg Host.Outcome.next (hdo.trans (congrArg (Option.getD · u)
        (tenImport_done rfl h0 hs rfl h8 hd hread ⟨hm, hv, hl⟩ rfl rfl hin hbody hopen hrecs himp)))
  · have hexec : exec (.qpcreate t init seq) s = .next (tenCommanded u (accepted u 0x2D0 seq 2 0) init 2 0) :=
      congrArg Host.Outcome.next ((gatedCmd_of_passes hr.passes _ _ _ _).trans (tenBell_accepted hr (by decide)))
    have hinv : (accepted u 0x2D0 seq 2 0).Inv := accepted_inv hi t 0x2D0 seq 2 0
    rw [hexec]
    intro q _ i hh hi64 hfree hused hp hr4 hr12 ht4 ht12 hb8 hb223 hact hra hta hrr htr
    have hdo : tenCommanded u q init 2 0 = qpCreate q := by simp [tenCommanded, hh]
    have hok : QpArgsOk q := ⟨hp, hr4, hr12, ht4, ht12, hb8, hb223, hact, hra, hta, hrr, htr⟩
    have field (lo n : ℕ) : getField (tenArg q 0) lo n < 2 ^ n := getField_lt _ lo n
    have reads {f : Fld} {v : ℕ} (hf : (f, v) ∈ qpWrites q i) (hv : v < 2 ^ f.len) (ha : f.addr ≠ 0x2D0 * 512 + 9) :=
      (qpCreated_reads hinv hi64 hf hv ha (q.handle 6 i i)).val
    have hmade : ((q.wrs (qpWrites q i)).setQp i {}).Inv := (keeps_wrs _).setQp.inv hinv
    obtain ⟨hstatus, -, hhandle, -, -⟩ := doorbellCompletion _ 0x2D0 0 0 (q.handle 6 i i) hmade (by decide) (by decide) (qpHandle_lt hinv hi64)
    exact ⟨_, congrArg Host.Outcome.next (hdo.trans (qpCreate_done hi64 hfree hused hok)),
      reads (by simp only [qpWrites, List.mem_cons, true_or]) (by simp [F.TEN_QSTATE]) (by simp [F.TEN_QSTATE]; omega),
      reads (v := getField (tenArg q 0) 0 4) (by simp only [qpWrites, List.mem_cons, true_or, or_true]) (field 0 4) (by simp [F.TEN_OWNER]; omega),
      reads (v := getField (tenArg q 0) 4 4) (by simp only [qpWrites, List.mem_cons, true_or, or_true]) (field 4 4) (by simp [F.TEN_PORT]; omega),
      reads (v := getField (tenArg q 0) 16 8) (by simp only [qpWrites, List.mem_cons, true_or, or_true]) (field 16 8) (by simp [F.TEN_BUFW]; omega),
      reads (by simp only [qpWrites, List.mem_cons, true_or, or_true]) (by simp [F.TEN_HEAD]) (by simp [F.TEN_HEAD]; omega),
      reads (by simp only [qpWrites, List.mem_cons, true_or, or_true]) (by simp [F.TEN_TAIL]) (by simp [F.TEN_TAIL]; omega), hstatus, hhandle⟩

end Sys2Proof.Machine
end

section
/-! PROOFS. Tenants: the ends of freezes, resumes and resets (R522, R527, R528). -/

namespace Sys2Proof.Machine
open Sys2Proof

variable {s q u r : State} {t k d T : ℕ}

/-! ### Freezes and resumes -/

theorem exec_freezeTakeEffect_none (hu : s.tick t = u) (h : (u.ten k).freezeAt = none) : exec (.tenantFreezeTakeEffect t k d) s = .next u := by
  have hexec : exec (.tenantFreezeTakeEffect t k d) s = execTenantFreezeTakeEffect t k d s := rfl
  rw [hexec, execTenantFreezeTakeEffect, hu]
  dsimp only
  rw [h]

theorem exec_freezeComplete_none (hu : s.tick t = u) (h : (u.ten k).freezeAt = none) : exec (.tenantFreezeComplete t k) s = .next u := by
  have hexec : exec (.tenantFreezeComplete t k) s = execTenantFreezeComplete t k s := rfl
  rw [hexec, execTenantFreezeComplete, hu]
  dsimp only
  rw [h]

/-- A freeze is due in a domain at its first stroke from the instant on, and in one that does not run at the instant (R522). -/
def freezeDue (u : State) (d T : ℕ) : Bool :=
  if u.isSet (F.DOM_RUN d) then decide (T ≤ openAt u d (nextOpen u d)) && decide (openAt u d (nextOpen u d) ≤ u.devTime) else decide (T ≤ u.devTime)

theorem exec_freezeTakeEffect (hu : s.tick t = u) (h : (u.ten k).freezeAt = some T) (hk : k < 16) (hd : d < 4) :
    exec (.tenantFreezeTakeEffect t k d) s = .next (if freezeDue u d T then freezeDom u k d else u) := by
  have hexec : exec (.tenantFreezeTakeEffect t k d) s = execTenantFreezeTakeEffect t k d s := rfl
  rw [hexec, execTenantFreezeTakeEffect, hu]
  dsimp only
  rw [h]
  simp only [hk, hd, and_true]
  rfl

theorem freezeDue_stopped (hrun : u.isSet (F.DOM_RUN d) = false) : freezeDue u d T = decide (T ≤ u.devTime) :=
  if_neg (by rw [hrun]; exact Bool.false_ne_true)

theorem freezeDue_running (hrun : u.isSet (F.DOM_RUN d) = true) (hT : T ≤ openAt u d (nextOpen u d)) (ho : openAt u d (nextOpen u d) ≤ u.devTime) :
    freezeDue u d T = true := by
  rw [freezeDue, if_pos hrun, decide_eq_true hT, decide_eq_true ho]
  rfl

theorem exec_freezeComplete_early (hu : s.tick t = u) (h : (u.ten k).freezeAt = some T) (hT : u.devTime < T) :
    exec (.tenantFreezeComplete t k) s = .next u := by
  have hexec : exec (.tenantFreezeComplete t k) s = execTenantFreezeComplete t k s := rfl
  rw [hexec, execTenantFreezeComplete, hu]
  dsimp only
  rw [h]
  exact congrArg Host.Outcome.next (if_neg fun hc => Nat.not_le.2 hT hc.2.1)

/-- The frozen strokes of a tenant's domains as FRZ shows them (R522). -/
def frozenShown (k : ℕ) (doms : List ℕ) (nds : List (ℕ × ℕ)) (s : State) (d : ℕ) : State :=
  match nds.find? (fun e => e.1 == d) with
  | some e => if doms.contains d then (s.wr (F.TEN_FRZ_196 k d) e.2).wr (F.TEN_FUSED k d) 1 else s.wr (F.TEN_FUSED k d) 0
  | none => s.wr (F.TEN_FUSED k d) 0

theorem frozenShown_same {β : Type} {g : State → β} (hg : ∀ (q : State) (f : Fld) (v : ℕ), g (q.wr f v) = g q) (doms : List ℕ)
    (nds : List (ℕ × ℕ)) (q : State) (d : ℕ) : g (frozenShown k doms nds q d) = g q := by
  unfold frozenShown
  split
  · split
    · exact (hg _ _ _).trans (hg _ _ _)
    · exact hg _ _ _
  · exact hg _ _ _

theorem keeps_frozenShown (doms : List ℕ) (nds : List (ℕ × ℕ)) (h : Keeps s q) (d : ℕ) : Keeps s (frozenShown k doms nds q d) := by
  unfold frozenShown
  split
  · split
    · exact h.wr.wr
    · exact h.wr
  · exact h.wr

/-- A freeze that is complete with no function left to stop: FRZ shows the strokes, and the tenant is FROZEN. -/
def tenantFrozen (u : State) (k : ℕ) : State :=
  (((List.range 4).foldl (frozenShown k (usedDoms u k) (u.ten k).nds) u).wr (F.TEN_TSTATE k) 2).wr F.TEN_FRZ_15 1

theorem exec_freezeComplete (hu : s.tick t = u) (h : (u.ten k).freezeAt = some T) (hk : k < 16) (hT : T ≤ u.devTime) (hs : u.rd (F.TEN_TSTATE k) = 1)
    (hdoms : (usedDoms u k).all (fun d => (u.ten k).nds.any (fun e => e.1 == d)) = true) (hf : tenFns u k = []) :
    exec (.tenantFreezeComplete t k) s = .next (tenantFrozen u k) := by
  have hexec : exec (.tenantFreezeComplete t k) s = execTenantFreezeComplete t k s := rfl
  rw [hexec, execTenantFreezeComplete, hu]
  dsimp only
  rw [h, hf]
  exact congrArg Host.Outcome.next (if_pos ⟨hk, hT, hs, hdoms, rfl⟩)

theorem tenantFrozen_same {β : Type} {g : State → β} (hg : ∀ (q : State) (f : Fld) (v : ℕ), g (q.wr f v) = g q) (u : State) (k : ℕ) :
    g (tenantFrozen u k) = g u :=
  (hg _ _ _).trans ((hg _ _ _).trans (forEach_same (fun q d => frozenShown_same hg _ _ q d) (List.range 4) u))

theorem tenantFrozen_reads (hi : u.Inv) (hk : k < 16) : (tenantFrozen u k).rd (F.TEN_TSTATE k) = 2 ∧ (tenantFrozen u k).rd F.TEN_FRZ_15 = 1 := by
  have hshown : Keeps u ((List.range 4).foldl (frozenShown k (usedDoms u k) (u.ten k).nds) u) :=
    (Keeps.refl u).foldl fun _ d h => keeps_frozenShown _ _ h d
  have hstate := reads_wr_fit (f := F.TEN_TSTATE k) (v := 2) (hshown.inv hi).regs (by simp [F.TEN_TSTATE]) (by simp [F.TEN_TSTATE])
  exact ⟨(hstate.wr (g := F.TEN_FRZ_15) (by decide) (.inl (by simp only [F.TEN_FRZ_15, F.TEN_TSTATE]; omega)) 1).val,
    (reads_wr_fit hstate.regs (by decide) (by decide)).val⟩

theorem exec_resumeTakeEffect_none (hu : s.tick t = u) (h : (u.ten k).resumeAt = none) : exec (.tenantResumeTakeEffect t k) s = .next u := by
  have hexec : exec (.tenantResumeTakeEffect t k) s = execTenantResumeTakeEffect t k s := rfl
  rw [hexec, execTenantResumeTakeEffect, hu]
  dsimp only
  rw [h]

/-- A tenant that is ACTIVE again (R527). -/
def tenantResumed (u : State) (k : ℕ) : State := (u.wr (F.TEN_TSTATE k) 1).setTen k { u.ten k with freezeAt := none, nds := [] }

theorem exec_resumeTakeEffect (hu : s.tick t = u) (h : (u.ten k).resumeAt = some T) (hf : tenFns (tenantResumed u k) k = []) :
    exec (.tenantResumeTakeEffect t k) s = .next (if T ≤ u.devTime ∧ u.rd (F.TEN_TSTATE k) = 2 ∧ k < 16 then afterEvent (tenantResumed u k) else u) := by
  have hexec : exec (.tenantResumeTakeEffect t k) s = execTenantResumeTakeEffect t k s := rfl
  have hfold : (tenFns (tenantResumed u k) k).foldl (fun s i => if settled s i then slicePlace s i else s) (tenantResumed u k) = tenantResumed u k := by
    rw [hf]
    rfl
  rw [hexec, execTenantResumeTakeEffect, hu]
  unfold tenantResumed at hfold ⊢
  dsimp only at hfold ⊢
  rw [h] at hfold ⊢
  exact congrArg (fun v => Host.Outcome.next (if T ≤ u.devTime ∧ u.rd (F.TEN_TSTATE k) = 2 ∧ k < 16 then afterEvent v else u)) hfold

theorem exec_resumeTakeEffect_early (hu : s.tick t = u) (h : (u.ten k).resumeAt = some T) (hT : u.devTime < T) :
    exec (.tenantResumeTakeEffect t k) s = .next u := by
  have hexec : exec (.tenantResumeTakeEffect t k) s = execTenantResumeTakeEffect t k s := rfl
  rw [hexec, execTenantResumeTakeEffect, hu]
  dsimp only
  rw [h]
  exact congrArg Host.Outcome.next (if_neg fun hc => Nat.not_le.2 hT hc.1)

/-! ### Resets -/

/-- What a tenant holds, freed: its publications, subscriptions, queue pairs and DMA channels (R528). -/
def tenantFreed (u : State) (k : ℕ) : State :=
  let p := (tenPubs u k).foldl pubFree u
  let b := (tenSubs p k).foldl subFree p
  let q := (List.range 64).foldl (fun s q => if s.rd (F.TEN_QSTATE q) ≠ 0 ∧ s.rd (F.TEN_OWNER q) = k then qpFree s q else s) b
  (List.range 32).foldl (fun s n => if s.rd (F.DMB_CST n) ≠ 0 ∧ s.rd (F.DMB_OWNER n) = k then dmaFree s n else s) q

/-- What freeing a context leaves alone: the tenants, and what every operation keeps. -/
def FreesOnly (s q : State) : Prop := Keeps s q ∧ q.tens = s.tens

theorem pubFree_tens (q : State) (p : ℕ) : (pubFree q p).tens = q.tens := by
  have hwords := forEach_same (g := State.tens) (fun q w => setWord_tens q ((0x2000 + p) * 512 + w) 0) [18, 19, 20, 21, 22, 23, 24] q
  simp only [pubFree, bumpGen_tens, setPub_tens, setWord_tens, hwords]

theorem subFree_tens (q : State) (i : ℕ) : (subFree q i).tens = q.tens := by
  have hwords := forEach_same (g := State.tens) (fun q w => setWord_tens q ((0x1000 + i) * 512 + w) 0) [23, 24, 25, 26, 27, 28, 29, 30, 31, 32, 33] q
  simp only [subFree, bumpGen_tens, setSub_tens, setWord_tens, hwords]

theorem qpFree_tens (q : State) (i : ℕ) : (qpFree q i).tens = q.tens := by
  simp only [qpFree, bumpGen_tens, setQp_tens, resetWords_tens]

theorem dmaFree_tens (q : State) (i : ℕ) : (dmaFree q i).tens = q.tens := by
  have hwords (r : State) : ([8, 40, 72, 104, 136].foldl (fun s w => s.resetWords (0x271 * 512 + w + i) 1) r).tens = r.tens :=
    forEach_same (g := State.tens) (fun q w => resetWords_tens q (0x271 * 512 + w + i) 1) [8, 40, 72, 104, 136] r
  simp only [dmaFree, bumpGen_tens, setDma_tens, hwords, resetWords_tens]

theorem freesOnly_pubFree (h : FreesOnly s q) (p : ℕ) : FreesOnly s (pubFree q p) := ⟨h.1.pubFree, (pubFree_tens q p).trans h.2⟩

theorem freesOnly_subFree (h : FreesOnly s q) (i : ℕ) : FreesOnly s (subFree q i) := ⟨h.1.subFree, (subFree_tens q i).trans h.2⟩

theorem freesOnly_qpFree (h : FreesOnly s q) (i : ℕ) : FreesOnly s (qpFree q i) := ⟨h.1.qpFree, (qpFree_tens q i).trans h.2⟩

theorem freesOnly_dmaFree (h : FreesOnly s q) (i : ℕ) : FreesOnly s (dmaFree q i) := ⟨h.1.dmaFree, (dmaFree_tens q i).trans h.2⟩

theorem freesOnly_ite {c : Prop} [Decidable c] (h : FreesOnly s q) (hr : FreesOnly s r) : FreesOnly s (if c then r else q) := by
  split
  · exact hr
  · exact h

theorem freesOnly_tenantFreed (u : State) (k : ℕ) : FreesOnly u (tenantFreed u k) := by
  have hp : FreesOnly u ((tenPubs u k).foldl pubFree u) := foldl_keeps ⟨Keeps.refl u, rfl⟩ fun _ p h => freesOnly_pubFree h p
  refine foldl_keeps (foldl_keeps (foldl_keeps hp fun _ i h => freesOnly_subFree h i) fun _ i h => ?_) fun _ i h => ?_
  · exact freesOnly_ite h (freesOnly_qpFree h i)
  · exact freesOnly_ite h (freesOnly_dmaFree h i)

/-- A tenant whose reset is complete. -/
def tenantReset (q : State) (k : ℕ) : State := ((q.setTen k {}).wr (F.TEN_TSTATE k) 0).wr F.TEN_RST 1

theorem tenantReset_tens {status reason x : ℕ} : ((tenantReset q k).complete 0x2D0 status reason x).tens = tset q.tens k {} := rfl

theorem exec_resetComplete (hu : s.tick t = u) :
    exec (.tenantResetComplete t k) s = .next (if k < 16 ∧ k ≠ 0 ∧ u.rd (F.TEN_TSTATE k) = 3 ∧ tenQuiet u k then
      (tenantReset (tenantFreed u k) k).complete 0x2D0 0 0 0 else u) := by
  subst hu
  rfl

theorem tenantReset_reads (hi : q.Inv) (hk : k < 16) :
    Reads (tenantReset q k) (F.TEN_TSTATE k) 0 ∧ Reads (tenantReset q k) F.TEN_RST 1 := by
  have hset : (q.setTen k {}).Inv := ((Keeps.refl q).withTens).inv hi
  have hstate := reads_wr_fit (f := F.TEN_TSTATE k) (v := 0) hset.regs (by simp [F.TEN_TSTATE]) (by simp [F.TEN_TSTATE])
  exact ⟨hstate.wr (g := F.TEN_RST) (by decide) (.inl (by simp only [F.TEN_RST, F.TEN_TSTATE]; omega)) 1,
    reads_wr_fit hstate.regs (by decide) (by decide)⟩

theorem completeWrites_addr {page status reason h : ℕ} {e : Fld × ℕ} (he : e ∈ completeWrites page status reason h) : e.1.addr = page * 512 + 9 := by
  simp only [completeWrites, List.mem_cons, List.not_mem_nil, or_false] at he
  rcases he with rfl | rfl | rfl | rfl
  · rfl
  · rfl
  · rfl
  · rfl

/-- What a completion does not touch reads as before. -/
theorem Reads.complete {f : Fld} {v page : ℕ} (h : Reads s f v) (hf : f.addr ≠ page * 512 + 9) (status reason x : ℕ) :
    Reads (s.complete page status reason x) f v := by
  rw [complete_eq]
  exact h.wrs (completeWrites_in _ _ _ _) fun e he => .inl (by rw [completeWrites_addr he]; exact hf.symm)

theorem tenantChanges : Claims.TenantChanges := by
  intro s t k d T u
  refine ⟨fun h => ⟨exec_freezeTakeEffect_none rfl h, exec_freezeComplete_none rfl h⟩, fun h hk hd => ?_, fun h => exec_resumeTakeEffect_none rfl h,
    fun h hk hs => ?_, fun h => ?_, fun hk h0 hs hq hi => ?_⟩
  · have htake := exec_freezeTakeEffect (s := s) (t := t) (u := u) rfl h hk hd
    refine ⟨fun hT hrun => ⟨?_, exec_freezeComplete_early rfl h hT⟩, fun hrun hT => ?_, fun hrun hT ho => ?_, fun hT hs hdoms hf => ?_⟩
    · rw [htake, freezeDue_stopped hrun, decide_eq_false (Nat.not_le.2 hT)] <;> rfl
    · rw [htake, freezeDue_stopped hrun, decide_eq_true hT] <;> rfl
    · rw [htake, freezeDue_running hrun hT ho] <;> rfl
    · exact ⟨_, exec_freezeComplete rfl h hk hT hs hdoms hf, tenantFrozen_same (fun _ _ _ => rfl) u k, tenantFrozen_same (fun _ _ _ => rfl) u k,
        tenantFrozen_same (fun _ _ _ => rfl) u k, fun hi => tenantFrozen_reads ((Keeps.refl s).tick.inv hi) hk⟩
  · refine ⟨fun hT => exec_resumeTakeEffect_early rfl h hT, fun hT => ?_⟩
    intro q hf
    exact (exec_resumeTakeEffect (u := u) rfl h hf).trans (congrArg Host.Outcome.next (if_pos ⟨hT, hs, hk⟩))
  · refine (exec_resetComplete (u := u) rfl).trans (congrArg Host.Outcome.next (if_neg ?_))
    rintro ⟨-, -, hs, hq⟩
    rcases h with h | h
    · exact h hs
    · exact Bool.false_ne_true (h.symm.trans hq)
  · have hexec := (exec_resetComplete (s := s) (t := t) (k := k) (u := u) rfl).trans (congrArg Host.Outcome.next (if_pos ⟨hk, h0, hs, hq⟩))
    obtain ⟨hfreed, htens⟩ := freesOnly_tenantFreed u k
    have hui : u.Inv := (Keeps.refl s).tick.inv hi
    have hri : (tenantReset (tenantFreed u k) k).Inv := (Keeps.refl (tenantFreed u k)).withTens.wr.wr.inv (hfreed.inv hui)
    obtain ⟨hstate, hrst⟩ := tenantReset_reads (hfreed.inv hui) hk
    obtain ⟨hstatus, -, -, hdone, -⟩ := doorbellCompletion _ 0x2D0 0 0 0 hri (by decide) (by decide) (by decide)
    exact ⟨_, hexec, (hstate.complete (by simp only [F.TEN_TSTATE]; omega) 0 0 0).val, (hrst.complete (by decide) 0 0 0).val, hstatus, hdone,
      tenantReset_tens.trans (congrArg (tset · k {}) htens)⟩

/-- Settles O52: a command is refused by the first check that fails, a blob is written and read back, and what waits takes effect when it is due. -/
theorem tenancy : Obligations.Tenancy := ⟨tenantCommands, tenantBlobs, tenantChanges⟩

end Sys2Proof.Machine
end

section
/-! PROOFS. Queue pairs and the PCI Express port (R513, R514, R614, R616). -/

namespace Sys2Proof.Machine
open Sys2Proof

variable {s q u : State} {t i n a vf w g l : ℕ}

/-! ### Queue pairs -/

theorem exec_qpTxFrame_idle (hu : s.tick t = u) (h : qpTxReady u i = false) : exec (.qpTxFrame t i) s = .next u := by
  subst hu
  refine congrArg Host.Outcome.next (if_neg ?_)
  rintro ⟨-, hr⟩
  exact Bool.false_ne_true (h.symm.trans hr)

theorem exec_qpTxFrame (hu : s.tick t = u) (hi : i < 64) (h : qpTxReady u i = true) : exec (.qpTxFrame t i) s = .next (qpTransmit u i) := by
  subst hu
  exact congrArg Host.Outcome.next (if_pos ⟨hi, h⟩)

section
variable {r r' : State} {ws ws' : List Word}

theorem qpTransmit_waits (h : qpRead u i (qpEntry u i 1) 2 = (.waits a, r)) : qpTransmit u i = qpWaiting u a := by
  unfold qpTransmit
  dsimp only
  rw [h]

theorem qpTransmit_length (h : qpRead u i (qpEntry u i 1) 2 = (.got ws, r)) (hl : getField (ws.getD 1 0) 0 11 < 60 ∨ 1996 < getField (ws.getD 1 0) 0 11) :
    qpTransmit u i = qpTxDone (r.free 72).2 i (qpEntry u i 1) 2 (r.free 72).1 := by
  unfold qpTransmit
  dsimp only
  rw [h]
  exact if_pos hl

theorem qpTransmit_sends (h : qpRead u i (qpEntry u i 1) 2 = (.got ws, r)) (hlo : 60 ≤ getField (ws.getD 1 0) 0 11)
    (hhi : getField (ws.getD 1 0) 0 11 ≤ 1996)
    (hb : qpRead r i (getField (ws.getD 0 0) 0 44 / 8 * 8) ((getField (ws.getD 1 0) 0 11 + 8) / 9) = (.got ws', r'))
    (hs : rawSpoofOk r' (u.rd (F.TEN_OWNER i)) ((unpackWords ws').take (getField (ws.getD 1 0) 0 11)) = true) (hm : qpMaySend u i = true) :
    qpTransmit u i = (qpTxDone (qpSend r' i ((unpackWords ws').take (getField (ws.getD 1 0) 0 11))) i (qpEntry u i 1) 0 (timeWord u.devTime)).bump
      (F.TEN_TXFR i) := by
  unfold qpTransmit
  dsimp only
  rw [h]
  dsimp only
  rw [if_neg (by omega), hb]
  dsimp only
  rw [if_neg (not_not.2 hs), if_neg (not_not.2 hm)]

end

theorem queuePairs : Claims.QueuePairs := by
  intro s t init vf i n a r ws u
  refine ⟨fun hi => ⟨congrArg Host.Outcome.next (if_pos hi), congrArg Host.Outcome.next (if_pos hi)⟩, fun h => exec_qpTxFrame_idle rfl h, fun hi h => ?_⟩
  have hexec := exec_qpTxFrame (s := s) (t := t) (u := u) rfl hi h
  rw [hexec]
  intro e
  refine ⟨fun hw => congrArg Host.Outcome.next (qpTransmit_waits hw), fun hg hl => congrArg Host.Outcome.next (qpTransmit_length hg hl), ?_⟩
  intro ws' r' len o hg hlo hhi hb hs hm
  exact congrArg Host.Outcome.next (qpTransmit_sends hg hlo hhi hb hs hm)

/-! ### The port -/

theorem exec_pcieInbound_down {req : PcieReq} (hu : s.tick t = u) (h : u.isSet F.PCI_DLUP = false) : exec (.pcieInboundRequest t vf req) s = .next u := by
  subst hu
  exact congrArg Host.Outcome.next (if_neg (by rw [h]; exact Bool.false_ne_true))

theorem exec_pcieInbound {req : PcieReq} (hu : s.tick t = u) (h : u.isSet F.PCI_DLUP = true) :
    exec (.pcieInboundRequest t vf req) s = .next (pcieRequest u vf req) := by
  subst hu
  exact congrArg Host.Outcome.next (if_pos h)

/-- A request for a virtual function that the port does not offer. -/
theorem pcieRequest_noFunction {req : PcieReq} (hv : vf ≠ 0) (h : u.isSet F.PCI_EP = false ∨ 16 < vf ∨ bitOf (u.rd F.TEN_VFEN) (vf - 1) = false) :
    pcieRequest u vf req = pcieDone u 1 false [] := by
  refine if_pos ⟨hv, ?_⟩
  rintro ⟨hep, h16, hen⟩
  rcases h with h | h | h
  · exact Bool.false_ne_true (h.symm.trans hep)
  · exact Nat.not_lt.2 h16 h
  · exact Bool.false_ne_true (h.symm.trans hen)

theorem pcieRequest_bar0 {req : PcieReq} (h : req.bar0 = true) : pcieRequest u 0 req = pcieDone u 1 false [] := by
  unfold pcieRequest
  extract_lets n data addrs t places
  rw [if_neg (fun hc => hc.1 rfl), if_pos ⟨h, rfl⟩]

/-- A request of the function of the host to memory: its octets are found through the windows of the port. -/
theorem pcieRequest_memory {req : PcieReq} (hb : req.bar0 = false) (hm : u.isSet F.PCI_EP = true ∨ req.write = false)
    (hn : (if req.write then req.data.length else req.octets) = n) :
    pcieRequest u 0 req =
      if (((List.range n).map (fun k => req.addr + k)).filterMap (fun a => pcieMap u a)).length ≠ n then pcieDone u 4 false []
      else pciePerform u 0 (if req.write then some req.data else none) (((List.range n).map (fun k => req.addr + k)).filterMap (fun a => pcieMap u a)) := by
  have hmsi : ¬ (¬ u.isSet F.PCI_EP ∧ req.write ∧ req.addr = Config.msiAddress) := by
    rintro ⟨hep, hw, -⟩
    rcases hm with hm | hm
    · exact hep hm
    · exact Bool.false_ne_true (hm.symm.trans hw)
  have hmap : (fun a => if req.bar0 then bar0Map a else pcieMap u a) = pcieMap u := by
    rw [hb]
    rfl
  subst hn
  unfold pcieRequest
  extract_lets n data addrs t places
  have hplaces : places = addrs.filterMap (pcieMap u) := congrArg (fun f => addrs.filterMap f) hmap
  rw [hplaces, if_neg (fun hc => hc.1 rfl), if_neg (fun hc => Bool.false_ne_true (hb.symm.trans hc.1)), if_neg hmsi]
  exact if_congr Iff.rfl rfl (if_neg fun hc => hc.1 rfl)

theorem pcieLinkStateChange_eq (hu : s.tick t = u) (up : Bool) :
    exec (.pcieLinkStateChange t l w g up) s = .next (
      if inChipReset u ∨ (up ∧ ¬ (u.isSet F.PCI_LEN && decide (domPower u 2 = 1) && !inChipReset u)) then u
      else (((u.wr F.PCI_LTSSM l).wr F.PCI_WIDTH (if up then w else 0)).wr F.PCI_GEN (if up then min g (u.rd F.PCI_MAXG) else 0)).wrb F.PCI_DLUP up) := by
  subst hu
  rfl

/-- The port's configuration is another word than its status. -/
theorem maxGen_of_status (u : State) (l w : ℕ) : ((u.wr F.PCI_LTSSM l).wr F.PCI_WIDTH w).rd F.PCI_MAXG = u.rd F.PCI_MAXG := by
  have hword (v : State) (f : Fld) (x : ℕ) (hf : f.addr = 0x290 * 512 + 9) : (v.wr f x).word (0x290 * 512 + 8) = v.word (0x290 * 512 + 8) :=
    word_setWord_ne v (by rw [hf]; decide) _
  rw [State.rd, State.rd]
  exact congrArg (getField · 2 2) ((hword _ _ _ rfl).trans (hword _ _ _ rfl))

theorem pciePort : Claims.PciePort := by
  intro s t vf l w g req up u
  have hlink := pcieLinkStateChange_eq (s := s) (t := t) (u := u) (l := l) (w := w) (g := g) rfl
  refine ⟨fun h => exec_pcieInbound_down rfl h, fun h hv hno => ?_, fun h hb => ?_, fun h hb hm => ?_, fun h => ?_, fun h => ?_, fun h hl hd => ?_⟩
  · exact (exec_pcieInbound (u := u) rfl h).trans (congrArg Host.Outcome.next (pcieRequest_noFunction hv hno))
  · exact (exec_pcieInbound (u := u) rfl h).trans (congrArg Host.Outcome.next (pcieRequest_bar0 hb))
  · intro n places
    have hexec := (exec_pcieInbound (s := s) (t := t) (u := u) rfl h).trans (congrArg Host.Outcome.next (pcieRequest_memory hb hm rfl))
    exact ⟨fun hn => hexec.trans (congrArg Host.Outcome.next (if_neg (not_not.2 hn))), fun hn => hexec.trans (congrArg Host.Outcome.next (if_pos hn))⟩
  · refine (hlink up).trans (congrArg Host.Outcome.next (if_pos ?_))
    rcases h with h | ⟨rfl, h⟩
    · exact .inl h
    · refine .inr ⟨rfl, ?_⟩
      rw [Bool.and_eq_true, Bool.and_eq_true, decide_eq_true_eq]
      rintro ⟨⟨hl, hd⟩, -⟩
      rcases h with h | h
      · exact Bool.false_ne_true (h.symm.trans hl)
      · exact h hd
  · refine (hlink false).trans (congrArg Host.Outcome.next (if_neg ?_))
    rw [h]
    simp
  · refine (hlink true).trans (congrArg Host.Outcome.next ((if_neg ?_).trans ?_))
    · rw [h, hl, hd]
      simp
    · exact congrArg (fun x => (((u.wr F.PCI_LTSSM l).wr F.PCI_WIDTH w).wr F.PCI_GEN (min g x)).wr F.PCI_DLUP 1) (maxGen_of_status u l w).symm

/-- Settles O53: a doorbell is a write of a TAIL word, a frame leaves when its entry and its octets are read, and the port answers while its link is up. -/
theorem queuesAndPcie : Obligations.QueuesAndPcie := ⟨queuePairs, pciePort⟩

end Sys2Proof.Machine
end

section
/-! PROOFS. Watchdogs, the management controller's tick, flash memory and mailboxes (R533 to R541). -/

namespace Sys2Proof.Machine
open Sys2Proof

variable {s u : State} {t n : ℕ}

/-! ### Watchdogs -/

theorem wdgExpire_cases (u : State) (n : ℕ) {d : State} (hd : wdgCount u (some n) = d) (hu : s.tick t = u) :
    exec (.scribeWatchdogExpire t n) s = .next (
      if n < 32 ∧ wdgCounts d n ∧ u.rd (F.MCB_REM n) ≠ 0 ∧ d.rd (F.MCB_REM n) = 0 then
        (if ((d.wr (F.MCB_EXP n) 1).bump (F.MCB_NEXP n)).isSet (F.MCB_RST n) then runWrite ((d.wr (F.MCB_EXP n) 1).bump (F.MCB_NEXP n)) n false
        else (d.wr (F.MCB_EXP n) 1).bump (F.MCB_NEXP n))
      else d) := by
  subst hu
  subst hd
  rfl

theorem mcWatchdogExpire_cases (u : State) {d : State} (fails : List TestElement) (hd : wdgCount u (some 32) = d) (hu : s.tick t = u) :
    exec (.mcWatchdogExpire t fails) s = .next (if mcRuns d ∧ u.rd F.MCB_MREM ≠ 0 ∧ d.rd F.MCB_MREM = 0 then mcRestart d 1 else d) := by
  subst hu
  subst hd
  rfl

theorem watchdogs : Claims.Watchdogs := by
  intro s t init n v w fails u c
  refine ⟨fun hp => ?_, fun hp => ?_, ?_, ?_⟩
  · have hkick : exec (.wdgKick t init n) s = .next (wdgKick u init n) := congrArg Host.Outcome.next (gated_of_passes hp _ _)
    have hper : exec (.wdgPerWrite t init n w) s = .next (wdgConfig u init n w) := congrArg Host.Outcome.next (gated_of_passes hp _ _)
    exact ⟨fun hi => hkick.trans (congrArg Host.Outcome.next (if_pos hi)),
      fun h1 h2 => hkick.trans (congrArg Host.Outcome.next (if_neg (not_or.2 ⟨h1, h2⟩))),
      fun hi => hper.trans (congrArg Host.Outcome.next (if_pos hi)), fun hi => hper.trans (congrArg Host.Outcome.next (if_neg hi))⟩
  · have hkick : exec (.mcMkick t init) s = .next (mcKick u init) := congrArg Host.Outcome.next (gated_of_passes hp _ _)
    have hper : exec (.mcMperWrite t init v) s = .next (mcPeriod u init (v % 65536)) := congrArg Host.Outcome.next (gated_of_passes hp _ _)
    have hrst : exec (.mcMrst t init fails) s = .next (mcReset u init) := congrArg Host.Outcome.next (gated_of_passes hp _ _)
    exact ⟨fun hi => hkick.trans (congrArg Host.Outcome.next (if_pos hi)), fun hi hv => hper.trans (congrArg Host.Outcome.next (if_pos ⟨hi, hv⟩)),
      fun hi => hrst.trans (congrArg Host.Outcome.next (if_pos hi)),
      fun hi => ⟨hkick.trans (congrArg Host.Outcome.next (if_neg hi)), hper.trans (congrArg Host.Outcome.next (if_neg fun hc => hi hc.1))⟩,
      fun hi => hrst.trans (congrArg Host.Outcome.next (if_neg hi))⟩
  · intro d
    have hexec := wdgExpire_cases (s := s) (t := t) u n (d := d) rfl rfl
    refine ⟨fun hn hc hr h0 => hexec.trans (congrArg Host.Outcome.next (if_pos ⟨hn, hc, hr, h0⟩)), fun h => hexec.trans (congrArg Host.Outcome.next (if_neg ?_))⟩
    rintro ⟨-, hc, hr, h0⟩
    rcases h with h | h | h
    · exact Bool.false_ne_true (h.symm.trans hc)
    · exact hr h
    · exact h h0
  · intro d
    have hexec := mcWatchdogExpire_cases (s := s) (t := t) u (d := d) fails rfl rfl
    refine ⟨fun hc hr h0 => hexec.trans (congrArg Host.Outcome.next (if_pos ⟨hc, hr, h0⟩)), fun h => hexec.trans (congrArg Host.Outcome.next (if_neg ?_))⟩
    rintro ⟨hc, hr, h0⟩
    rcases h with h | h | h
    · exact Bool.false_ne_true (h.symm.trans hc)
    · exact hr h
    · exact h h0

/-! ### The management controller -/

/-- The second's tick, without a duplex pair to tell. -/
def ticked (u : State) : State := { u.wrapInc F.MCB_HCNT with mcu := { u.mcu with tick := true } }

theorem exec_healthTick (hu : s.tick t = u) (h : u.isSet F.DPX_EN = false) : exec (.healthTick t) s = .next (ticked u) := by
  have hen : (ticked u).isSet F.DPX_EN = false := by
    rw [← h]
    exact congrArg (fun w => decide (getField w F.DPX_EN.lo F.DPX_EN.len = 1)) (word_setWord_ne u (by decide) _)
  subst hu
  exact congrArg Host.Outcome.next (if_neg fun hc => Bool.false_ne_true (hen.symm.trans hc))

theorem exec_flashLineFill_none (hu : s.tick t = u) (h : u.mcu.req = none) : exec (.flashLineFill t) s = .next u := by
  have hexec : exec (.flashLineFill t) s = execFlashLineFill t s := rfl
  rw [hexec, execFlashLineFill, hu]
  dsimp only
  rw [h]

theorem exec_flashLineFill {line drop : ℕ} (hu : s.tick t = u) (h : u.mcu.req = some (line, drop)) :
    exec (.flashLineFill t) s = .next
      { u with mcu := { u.mcu with bufs := if drop = 1 then u.mcu.bufs else (line :: u.mcu.bufs.filter (· ≠ line)).take 2,
                                   req := u.mcu.next.map (fun l => (l, 0)), next := none } } := by
  have hexec : exec (.flashLineFill t) s = execFlashLineFill t s := rfl
  rw [hexec, execFlashLineFill, hu]
  dsimp only
  rw [h]

theorem exec_mcInterruptEntry (hu : s.tick t = u) (hr : mcRuns u = true) (hh : (u.scribe 32).haltReq = false) :
    exec (.mcInterruptEntry t) s = .next (match coreInterrupt u 32 with
      | none => u
      | some (src, level, ilvl) => takeInterrupt u 32 src level ilvl) := by
  have hexec : exec (.mcInterruptEntry t) s = execMcInterruptEntry t s := rfl
  rw [hexec, execMcInterruptEntry, hu]
  rw [if_neg (by simp [hr, hh])] <;> rfl

/-- A host's scribe, or none: the mailboxes ask for it before they look at their flag. -/
theorem not_host_and {p : Prop} {init : ℕ} (h : hostScribe u init = false ∨ ¬ p) : ¬ (hostScribe u init = true ∧ p) := by
  rintro ⟨hh, hp⟩
  rcases h with h | h
  · exact Bool.false_ne_true (h.symm.trans hh)
  · exact h hp

theorem managementController : Claims.ManagementController := by
  intro s t init line drop u
  refine ⟨fun h => ⟨_, exec_healthTick rfl h, rfl, fun hi => ?_⟩, fun h => exec_flashLineFill_none rfl h, fun h => exec_flashLineFill rfl h, fun hp => ?_,
    fun hr hh => ?_⟩
  · exact rd_wr_self (((Keeps.refl s).tick (n := t)).inv hi).regs (f := F.MCB_HCNT) (by decide) _
  · have hpost {bit : ℕ} {v : Word} : u.gated init 0x2F0 40 v (fun s => mbPost s init bit) = mbPost u init bit := gated_of_passes hp _ _
    have hip : exec (.mbIpost t init) s = .next (mbPost u init 0) := congrArg Host.Outcome.next hpost
    have hid : exec (.mbIdone t init) s = .next (mbPost u init 2) := congrArg Host.Outcome.next hpost
    have hop : exec (.mbOpost t init) s = .next (mbPost u init 3) := congrArg Host.Outcome.next hpost
    have hod : exec (.mbOdone t init) s = .next (mbPost u init 5) := congrArg Host.Outcome.next hpost
    exact ⟨fun hh hf => hip.trans (congrArg Host.Outcome.next (if_pos ⟨hh, hf⟩)),
      fun h => hip.trans (congrArg Host.Outcome.next (if_neg (not_host_and h))),
      fun hh hf => hid.trans (congrArg Host.Outcome.next (if_pos ⟨hh, hf⟩)),
      fun h => hid.trans (congrArg Host.Outcome.next (if_neg (not_and_or.2 h))),
      fun hh hf => hop.trans (congrArg Host.Outcome.next (if_pos ⟨hh, hf⟩)),
      fun h => hop.trans (congrArg Host.Outcome.next (if_neg (not_and_or.2 h))),
      fun hh hf => hod.trans (congrArg Host.Outcome.next (if_pos ⟨hh, hf⟩)),
      fun h => hod.trans (congrArg Host.Outcome.next (if_neg (not_host_and h)))⟩
  · have hexec := exec_mcInterruptEntry (s := s) (t := t) (u := u) rfl hr hh
    refine ⟨fun h => ?_, fun src level ilvl h => ?_⟩
    · rw [hexec, h]
    · rw [hexec, h]

/-- Settles O54: a watchdog is kicked and configured by its owners and acts when it runs down; ticks, lines and mailboxes change what is theirs. -/
theorem managementEvents : Obligations.ManagementEvents := ⟨watchdogs, managementController⟩

end Sys2Proof.Machine
end

section
/-! PROOFS. Commands to the power unit (R547 to R552, R612). -/

namespace Sys2Proof.Machine
open Sys2Proof

variable {s q u : State} {t init seq opc a b d f v : ℕ}

theorem bitsOf_0_2 (a : ℕ) : bitsOf a 0 2 = a % 4 := by rw [bitsOf_eq]; omega
theorem bitsOf_2_2 (a : ℕ) : bitsOf a 2 2 = a / 4 % 4 := by rw [bitsOf_eq]; omega
theorem bitsOf_2_3 (a : ℕ) : bitsOf a 2 3 = a / 4 % 8 := by rw [bitsOf_eq]; omega
theorem bitsOf_4_2 (h : a < 64) : bitsOf a 4 2 = a / 16 := by rw [bitsOf_eq]; omega
theorem bitsOf_0_6 (a : ℕ) : bitsOf a 0 6 = a % 64 := by rw [bitsOf_eq]; omega
theorem bitsOf_6_2 (h : a < 256) : bitsOf a 6 2 = a / 64 := by rw [bitsOf_eq]; omega
theorem bitsOf_0_8 (a : ℕ) : bitsOf a 0 8 = a % 256 := by rw [bitsOf_eq]; omega

/-- The flag above the low bits of a short argument. -/
theorem bitOf_top {i : ℕ} (h : a < 2 * 2 ^ i) : bitOf a i = decide (2 ^ i ≤ a) := by
  have hpos := Nat.two_pow_pos i
  by_cases hi : 2 ^ i ≤ a
  · have hd : a / 2 ^ i = 1 := Nat.div_eq_of_lt_le (by omega) (by omega)
    rw [decide_eq_true hi, bitOf, Nat.testBit_eq_decide_div_mod_eq, hd]
    rfl
  · rw [decide_eq_false hi, bitOf]
    exact Nat.testBit_lt_two_pow (Nat.not_le.1 hi)

/-! ### A level of a desk -/

theorem deskLevel_done (ha : pwrArg q = a) (h5 : a / 4 % 8 ≤ 5) (hdev : q.rd F.PWR_DEVST = 0) (hst : q.rd (F.PWR_DST (a % 4)) < 2)
    (htrip : q.pwr.hwtrip = false ∨ a / 4 % 8 = 0) (hdead : deskDead q (a % 4) = false) :
    deskLevel q = { q with pwr := { q.pwr with level := some (a % 4, a / 4 % 8) } } := by
  have hcool : ¬ (q.pwr.hwtrip = true ∧ 0 < a / 4 % 8) := by
    rintro ⟨ht, hp⟩
    rcases htrip with h | h
    · exact Bool.false_ne_true (h.symm.trans ht)
    · omega
  unfold deskLevel
  dsimp only
  rw [ha, bitsOf_0_2, bitsOf_2_3, if_neg (Nat.not_lt.2 h5), if_neg (not_or.2 ⟨not_not.2 hdev, not_or.2 ⟨Nat.not_le.2 hst, hcool⟩⟩),
    if_neg (by rw [hdead]; exact Bool.false_ne_true)]

/-! ### The state of a desk -/

theorem deskState_ready (ha : pwrArg q = a) (h64 : a < 64) (hz : a / 4 % 4 = 0) (hdev : q.rd F.PWR_DEVST = 0) (hr : q.isSet (F.PWR_RECL (a % 4)) = false)
    (hd : q.isSet (F.PWR_DEAD (a % 4)) = false) :
    deskState q =
      if a / 16 = q.rd (F.PWR_DST (a % 4)) then pwrEnd (commanded q (64 + a % 4) (a / 16)) 0 0
      else if a / 16 = 0 then
        (if q.rd (F.PWR_DST (a % 4)) = 3 ∧ ¬ dramReady q ∧ ¬ emulated q (64 + a % 4) then pwrRefuse q 3
         else openReturn (commanded (q.wr (F.PWR_DEAD (a % 4)) 0) (64 + a % 4) 0) 2 [(64 + a % 4, 0)])
      else if a / 16 < q.rd (F.PWR_DST (a % 4)) then pwrRefuse q 3
      else openRequest (commanded q (64 + a % 4) (a / 16)) 2 [64 + a % 4] := by
  unfold deskState
  dsimp only
  rw [ha, bitsOf_0_2, bitsOf_2_2, bitsOf_4_2 h64, if_neg (by omega), if_neg (by rw [hdev, hr]; simp), if_neg (by rw [hd]; simp)]

/-! ### The state of a ferrule -/

theorem ferruleState_ready (ha : pwrArg q = a) (h256 : a < 256) (hv : a / 64 ≠ 3) (hdev : q.rd F.PWR_DEVST ≠ 2) (hf : ferPower q (a % 64) ≠ 3)
    (hh : q.pwr.held.contains (a % 64) = false) :
    ferruleState q =
      if a / 64 = ferPower q (a % 64) then pwrEnd (commanded q (a % 64) (a / 64)) 0 0
      else if a / 64 = 0 then
        let r := setFerPower (commanded q (a % 64) 0) (a % 64) 3
        pwrEnd { r with pwr := { r.pwr with change := r.pwr.change ++ [(a % 64, 0)] } } 0 0
      else if a / 64 < ferPower q (a % 64) then pwrRefuse q 3
      else openRequest (commanded q (a % 64) (a / 64)) 3 [a % 64] := by
  unfold ferruleState
  dsimp only
  rw [ha, bitsOf_0_6, bitsOf_6_2 h256, if_neg (by omega), if_neg (by rw [hh]; simp [hdev, hf])]

/-! ### The state of a domain -/

theorem domainState_ready (ha : pwrArg q = a) (h8 : a < 8) (h3 : a % 4 ≠ 3) (hdev : q.rd F.PWR_DEVST = 0) (h2 : domPower q (a % 4) ≠ 2) :
    domainState q =
      if domPower q (a % 4) = a / 4 then pwrEnd (commanded q (128 + a % 4) (a / 4)) 0 0
      else if a / 4 = 1 then
        (if a % 4 = 0 ∧ (List.range 64).all (fun f => decide (ferPower q f = 2)) then pwrRefuse q 3
         else openReturn (commanded q (128 + a % 4) 1) 4 [(128 + a % 4, 1)])
      else openRequest (commanded q (128 + a % 4) 0) 4 [128 + a % 4] := by
  have hon : bitOf a 2 = decide (a / 4 = 1) := by
    rw [bitOf_top (by omega)]
    exact decide_eq_decide.2 (by omega)
  have hb : b2n (decide (a / 4 = 1)) = a / 4 := by
    obtain h | h : a / 4 = 0 ∨ a / 4 = 1 := by omega
    · rw [h]
      rfl
    · rw [h]
      rfl
  unfold domainState
  dsimp only
  rw [ha, bitsOf_0_2, hon, hb, if_neg (by omega), if_neg (by rw [hdev]; simp [h2])]
  simp only [decide_eq_true_eq]

/-! ### The state of the device, and the end of a desk -/

theorem deviceState_same (ha : pwrArg q = a) (h3 : a < 3) (hdev : q.rd F.PWR_DEVST = a) (h2 : a ≠ 2) (hc : q.pwr.change = []) :
    deviceState q = pwrEnd q 0 0 := by
  unfold deviceState
  extract_lets arg v cur domsOn desksUp dram last
  have hv : v = a := (congrArg (bitsOf · 0 2) ha).trans ((bitsOf_0_2 a).trans (by omega))
  have harg : arg = a := ha
  have hcur : cur = a := hdev
  rw [hv, harg, hcur, if_neg (by omega), if_neg (by rw [hc]; simp [h2]), if_pos rfl]

/-- A desk's stores are dropped and the walk of its presence table starts (R468, R469, R552). -/
def deskDying (q : State) (d : ℕ) : State :=
  walkTable (((deskScribes d).foldl (fun s n => s.modScribe n (fun c => { c with sb := [] })) q).wr (F.PWR_RECL d) 1) d

theorem deskDie_eq (ha : pwrArg q = a) (h4 : a < 4) : deskDie q = if deskDead q (a % 4) then pwrRefuse q 4 else deskDying q (a % 4) := by
  unfold deskDie
  dsimp only
  rw [ha, bitsOf_0_2, if_neg (by omega)]
  rfl

/-! ### Block resets -/

theorem blockReset_unknown (ha : pwrArg q = a) (hb : 68 ≤ a % 256) : blockReset q = pwrRefuse q 2 := by
  unfold blockReset
  extract_lets arg b enter held
  have hb' : b = a % 256 := (congrArg (bitsOf · 0 8) ha).trans (bitsOf_0_8 a)
  exact if_pos (.inl (by rw [hb']; exact hb))

theorem blockReset_enter (ha : pwrArg q = a) (h512 : a < 512) (hb : a % 256 < 64) (he : 256 ≤ a) (hh : q.pwr.held.contains (a % 256) = false)
    (hp : ferPower q (a % 256) = 0) :
    blockReset q = pwrEnd (ferResetStart { q with pwr := { q.pwr with held := q.pwr.held ++ [a % 256] } } (a % 256)) 0 0 := by
  have hen : bitOf a 8 = true := by rw [bitOf_top (by omega), decide_eq_true (by omega)]
  unfold blockReset
  dsimp only
  rw [ha, bitsOf_0_8, hen, hh, if_neg (by omega), if_neg (by simp), if_neg Bool.false_ne_true, if_pos hb, if_neg (not_not.2 hp)]

theorem blockReset_leave (ha : pwrArg q = a) (hb : a % 256 < 64) (he : a < 256) (hh : q.pwr.held.contains (a % 256) = true)
    (hf : q.pwr.held.contains (128 + a % 256) = false) :
    blockReset q = pwrEnd (ferResetEnd { q with pwr := { q.pwr with held := q.pwr.held.filter (fun x => x ≠ a % 256) } } (a % 256)) 0 0 := by
  have hen : bitOf a 8 = false := by rw [bitOf_top (by omega), decide_eq_false (by omega)]
  unfold blockReset
  dsimp only
  rw [ha, bitsOf_0_8, hen, hh, hf, if_neg (by omega), if_pos Bool.false_ne_true, if_neg (by simp), if_pos hb]

theorem blockReset_free (ha : pwrArg q = a) (hb : a % 256 < 68) (he : a < 256) (hh : q.pwr.held.contains (a % 256) = false) :
    blockReset q = pwrRefuse q 3 := by
  have hen : bitOf a 8 = false := by rw [bitOf_top (by omega), decide_eq_false (by omega)]
  unfold blockReset
  dsimp only
  rw [ha, bitsOf_0_8, hen, hh, if_neg (by omega), if_pos Bool.false_ne_true, if_pos (.inl Bool.false_ne_true)]

/-! ### The commands -/

/-- What an accepted command of the power unit does. -/
def pwrCommanded (q : State) (opc : ℕ) : State :=
  if opc = 1 then deskLevel q else if opc = 2 then deskState q else if opc = 3 then ferruleState q
  else if opc = 4 then domainState q else if opc = 5 then deviceState q else if opc = 6 then deskDie q else blockReset q

theorem pwrBell_accepted (hr : Rings s init 0x2A0 seq opc 0) :
    pwrBell s init seq opc =
      if init = 0x20 ∨ (opc ≤ 2 ∧ hostScribe s init = true) then pwrCommanded (accepted s 0x2A0 seq opc 0) opc
      else (accepted s 0x2A0 seq opc 0).complete 0x2A0 1 1 0 := by
  refine (hostBell_accepted hr).trans (if_congr ?_ rfl rfl)
  rw [Bool.or_eq_true, Bool.and_eq_true, decide_eq_true_eq, decide_eq_true_eq]

theorem powerCommands : Claims.PowerCommands := by
  intro s t init seq u page e he hr
  have hexec : exec e.1 s = .next (u.gatedCmd init 0x2A0 seq e.2 0 (fun q => pwrBell q init seq e.2)) := by
    simp only [List.mem_cons, List.not_mem_nil, or_false] at he
    rcases he with rfl | rfl | rfl | rfl | rfl | rfl | rfl
    · rfl
    · rfl
    · rfl
    · rfl
    · rfl
    · rfl
    · rfl
  rw [hexec, gatedCmd_of_passes hr.passes, pwrBell_accepted hr]
  intro q a d allowed
  refine ⟨fun hno => congrArg Host.Outcome.next (if_neg hno), fun hyes => ?_⟩
  have does (opc : ℕ) {r : State} (ho : e.2 = opc) (h : pwrCommanded q opc = r) :
      Host.Outcome.next (φ := Fault) (ρ := Refusal) (if init = 0x20 ∨ (e.2 ≤ 2 ∧ hostScribe u init = true) then pwrCommanded (accepted u 0x2A0 seq e.2 0) e.2
        else (accepted u 0x2A0 seq e.2 0).complete 0x2A0 1 1 0) = .next r :=
    congrArg Host.Outcome.next ((if_pos hyes).trans ((congrArg (pwrCommanded q) ho).trans h))
  have ha : pwrArg q = a := rfl
  refine ⟨fun ho h5 hdev hst htrip hdead => does 1 ho (deskLevel_done ha h5 hdev hst htrip hdead), fun ho h64 hz hdev hrecl hdead => ?_,
    fun ho h256 hdev hf hh => ?_, fun ho h8 h3 hdev => ?_, fun ho h3 hdev h2 hc => does 5 ho (deviceState_same ha h3 hdev h2 hc), fun ho h4 hd => ?_,
    fun ho h4 hd => ?_, fun ho h512 => ?_⟩
  · have hstate := deskState_ready ha h64 hz hdev hrecl hdead
    intro v
    exact ⟨fun hv => does 2 ho (hstate.trans (if_pos hv)),
      fun hv => does 2 ho (hstate.trans ((if_neg (Nat.ne_of_gt hv)).trans ((if_neg (Nat.ne_of_gt (Nat.zero_lt_of_lt hv))).trans (if_neg (Nat.not_lt.2 hv.le))))),
      fun h0 hv => does 2 ho (hstate.trans ((if_neg (Nat.ne_of_lt hv)).trans ((if_neg h0).trans (if_pos hv))))⟩
  · intro f v
    have hstate (h3 : v ≠ 3) := ferruleState_ready ha h256 h3 hdev hf hh
    exact ⟨fun h3 hv => does 3 ho ((hstate h3).trans (if_pos hv)),
      fun h0 hp => does 3 ho ((hstate (by rw [h0]; decide)).trans ((if_neg (by rw [show a / 64 = 0 from h0]; exact hp.symm)).trans (if_pos h0))),
      fun h3 hv => does 3 ho ((hstate h3).trans ((if_neg (Nat.ne_of_gt hv)).trans ((if_neg (Nat.ne_of_gt (Nat.zero_lt_of_lt hv))).trans (if_neg (Nat.not_lt.2 hv.le)))))⟩
  · have hstate (h2 : domPower q (a % 4) ≠ 2) := domainState_ready ha h8 h3 hdev h2
    refine ⟨fun hv => does 4 ho ((hstate (by rw [← show a / 4 = domPower q (a % 4) from hv]; omega)).trans (if_pos hv.symm)), fun hv hp => ?_, fun hv hp h0 => ?_⟩
    · exact does 4 ho ((hstate (by rw [show domPower q (a % 4) = 1 from hp]; decide)).trans
        ((if_neg (by rw [show domPower q (a % 4) = 1 from hp, hv]; decide)).trans (if_neg (by rw [hv]; decide))))
    · exact does 4 ho ((hstate (by rw [show domPower q (a % 4) = 0 from hp]; decide)).trans
        ((if_neg (by rw [show domPower q (a % 4) = 0 from hp, hv]; decide)).trans ((if_pos hv).trans (if_neg fun hc => h0 hc.1))))
  · exact does 6 ho ((deskDie_eq ha h4).trans (if_neg fun hc => Bool.false_ne_true (hd.symm.trans hc)))
  · exact does 6 ho ((deskDie_eq ha h4).trans (if_pos hd))
  · intro b
    exact ⟨fun hb => does 7 ho (blockReset_unknown ha hb), fun hb he hh hp => does 7 ho (blockReset_enter ha h512 hb he hh hp),
      fun hb he hh hf => does 7 ho (blockReset_leave ha hb he hh hf), fun hb he hh => does 7 ho (blockReset_free ha hb he hh)⟩

end Sys2Proof.Machine
end

section
/-! PROOFS. The sequences of the power unit and its sensors (R545 to R551, R629). -/

namespace Sys2Proof.Machine
open Sys2Proof

variable {s q u : State} {t b d n rail mv g pl : ℕ} {r : PwrReq}

/-! ### Requests -/

theorem exec_pwrBlockGrant_none (hu : s.tick t = u) (h : u.pwr.req = none) : exec (.pwrBlockGrant t b) s = .next u := by
  have hexec : exec (.pwrBlockGrant t b) s = execPwrBlockGrant t b s := rfl
  rw [hexec, execPwrBlockGrant, hu]
  dsimp only
  rw [h]

theorem exec_pwrBlockGrant_unasked (hu : s.tick t = u) (h : u.pwr.req = some r) (hb : r.asked.contains b = false) :
    exec (.pwrBlockGrant t b) s = .next u := by
  have hexec : exec (.pwrBlockGrant t b) s = execPwrBlockGrant t b s := rfl
  rw [hexec, execPwrBlockGrant, hu]
  dsimp only
  rw [h]
  exact congrArg Host.Outcome.next (if_pos fun hc => Bool.false_ne_true (hb.symm.trans hc))

/-- The desks that a request has already been granted. -/
abbrev desksOff (r : PwrReq) : List ℕ := r.granted.filter (fun b => decide (64 ≤ b) && decide (b < 128)) |>.map (· - 64)

theorem exec_pwrBlockGrant_refused (hu : s.tick t = u) (h : u.pwr.req = some r) (hb : r.asked.contains b = true) (hw : u.pwr.wback = none) (h128 : b ≠ 128)
    (hg : blockGrants u (desksOff r) b (wanted r b) = false) : exec (.pwrBlockGrant t b) s = .next (pwrFail u b false) := by
  have hexec : exec (.pwrBlockGrant t b) s = execPwrBlockGrant t b s := rfl
  rw [hexec, execPwrBlockGrant, hu]
  dsimp only
  rw [h]
  exact congrArg Host.Outcome.next ((if_neg (not_not.2 hb)).trans ((if_neg (by rw [hw]; simp)).trans ((if_neg fun hc => h128 hc.1).trans
    (if_pos fun hc => Bool.false_ne_true (hg.symm.trans hc)))))

/-- A request of which block `b` has granted its part. -/
def pwrGranted (r : PwrReq) (b : ℕ) : PwrReq := { r with asked := r.asked.filter (· ≠ b), granted := r.granted ++ [b] }

def withRequest (u : State) (r : PwrReq) : State := { u with pwr := { u.pwr with req := some r } }

theorem exec_pwrBlockGrant (hu : s.tick t = u) (h : u.pwr.req = some r) (hb : r.asked.contains b = true) (hw : u.pwr.wback = none) (h64 : b < 64)
    (hg : blockGrants u (desksOff r) b (wanted r b) = true) :
    exec (.pwrBlockGrant t b) s = .next (
      if (pwrGranted r b).asked.isEmpty then requestGranted (withRequest u (pwrGranted r b)) (pwrGranted r b)
      else if (pwrGranted r b).asked = [128] then answerRequest (withRequest u (pwrGranted r b)) else withRequest u (pwrGranted r b)) := by
  have hexec : exec (.pwrBlockGrant t b) s = execPwrBlockGrant t b s := rfl
  have hfin : blockFinish u b (wanted r b) = (true, u) :=
    (if_neg (by omega)).trans ((if_neg (by omega)).trans (if_neg (by omega)))
  rw [hexec, execPwrBlockGrant, hu]
  dsimp only
  rw [h]
  dsimp only
  rw [if_neg (not_not.2 hb), if_neg (by rw [hw]; simp), if_neg (by omega), if_neg (not_not.2 hg), hfin] <;> rfl

theorem exec_pwrRequestTimeout_none (hu : s.tick t = u) (h : u.pwr.req = none) : exec (.pwrRequestTimeout t b) s = .next u := by
  have hexec : exec (.pwrRequestTimeout t b) s = execPwrRequestTimeout t b s := rfl
  rw [hexec, execPwrRequestTimeout, hu]
  dsimp only
  rw [h]

theorem exec_pwrRequestTimeout_idle (hu : s.tick t = u) (h : u.pwr.req = some r) (hb : r.asked.contains b = false ∨ u.devTime < r.since + 1000000) :
    exec (.pwrRequestTimeout t b) s = .next u := by
  have hexec : exec (.pwrRequestTimeout t b) s = execPwrRequestTimeout t b s := rfl
  rw [hexec, execPwrRequestTimeout, hu]
  dsimp only
  rw [h]
  refine congrArg Host.Outcome.next (if_neg ?_)
  rintro ⟨hc, hdue⟩
  rcases hb with hb | hb
  · exact Bool.false_ne_true (hb.symm.trans hc)
  · exact Nat.not_lt.2 hdue hb

theorem exec_pwrRequestTimeout (hu : s.tick t = u) (h : u.pwr.req = some r) (hb : r.asked.contains b = true) (hw : u.pwr.wback = none)
    (hdue : r.since + 1000000 ≤ u.devTime) : exec (.pwrRequestTimeout t b) s = .next (pwrFail u b true) := by
  have hexec : exec (.pwrRequestTimeout t b) s = execPwrRequestTimeout t b s := rfl
  rw [hexec, execPwrRequestTimeout, hu]
  dsimp only
  rw [h]
  exact congrArg Host.Outcome.next ((if_pos ⟨hb, hdue⟩).trans (if_neg (by rw [hw]; simp)))

theorem exec_pwrTransitionComplete_none (hu : s.tick t = u) (h : u.pwr.req = none) : exec (.pwrTransitionComplete t) s = .next u := by
  have hexec : exec (.pwrTransitionComplete t) s = execPwrTransitionComplete t s := rfl
  rw [hexec, execPwrTransitionComplete, hu]
  dsimp only
  rw [h]

theorem exec_pwrTransitionComplete (hu : s.tick t = u) (h : u.pwr.req = some r) :
    exec (.pwrTransitionComplete t) s = .next (if r.asked.isEmpty then changesDone (endChanges u (fun b => r.granted.contains b)) else u) := by
  have hexec : exec (.pwrTransitionComplete t) s = execPwrTransitionComplete t s := rfl
  rw [hexec, execPwrTransitionComplete, hu]
  dsimp only
  rw [h]

/-! ### Levels, naps and ferrules -/

theorem levelEnd_none {ok : Bool} (h : u.pwr.level = none) : levelEnd u ok rail = u := by
  unfold levelEnd
  rw [h]

theorem levelEnd_some {ok : Bool} (h : u.pwr.level = some (d, pl)) {q : State} (hq : { u with pwr := { u.pwr with level := none } } = q) :
    levelEnd u ok rail =
      if ok then pwrEnd ((q.wr (F.PWR_PL d) pl).wr (F.DSK_PL d) pl) 0 0
      else pwrEnd ((q.setBit F.PWR_EVT 6).pageErr 0x2A0 0x10 27 rail) 4 rail := by
  unfold levelEnd
  rw [h]
  subst hq
  rfl

theorem exec_deskNapExit (hu : s.tick t = u) (hd : d < 4) (hst : u.rd (F.PWR_DST d) = 1) (hi : ∃ n ∈ deskScribes d, icuDeliverable u n ≠ none) :
    exec (.deskNapExit t d) s = .next (((blockEnter u (64 + d) 0).bump (F.PWR_NAPX d)).setBit F.PWR_EVT 7) := by
  subst hu
  have hany : (deskScribes d).any (fun n => (icuDeliverable (s.tick t) n).isSome) = true := by
    obtain ⟨n, hn, hne⟩ := hi
    exact List.any_eq_true.2 ⟨n, hn, Option.isSome_iff_ne_none.2 hne⟩
  exact congrArg Host.Outcome.next ((if_pos ⟨hd, .inl hst, hany⟩).trans (if_pos hst))

theorem exec_deskNapExit_awake (hu : s.tick t = u) (h : u.rd (F.PWR_DST d) = 0 ∨ u.rd (F.PWR_DST d) = 3) : exec (.deskNapExit t d) s = .next u := by
  subst hu
  refine congrArg Host.Outcome.next (if_neg ?_)
  rintro ⟨-, hst, -⟩
  omega

theorem powerSequences : Claims.PowerSequences := by
  intro s t b rail d pl ok r u
  refine ⟨fun h => ⟨exec_pwrBlockGrant_none rfl h, exec_pwrRequestTimeout_none rfl h, exec_pwrTransitionComplete_none rfl h⟩, fun h => ?_,
    fun h => congrArg Host.Outcome.next (levelEnd_none h), fun h => ?_, fun hd hst hi => exec_deskNapExit rfl hd hst hi,
    fun h => exec_deskNapExit_awake rfl h, fun hb hc => congrArg Host.Outcome.next (if_pos ⟨hc, hb⟩), fun hc => ?_⟩
  · intro off
    have hdone := exec_pwrTransitionComplete (s := s) (t := t) (u := u) rfl h
    refine ⟨fun hb => ⟨exec_pwrBlockGrant_unasked rfl h hb, exec_pwrRequestTimeout_idle rfl h (.inl hb)⟩, fun hb hw => ⟨?_, ?_, ?_, ?_⟩,
      fun ha => hdone.trans (congrArg Host.Outcome.next (if_pos (List.isEmpty_iff.2 ha))),
      fun ha => hdone.trans (congrArg Host.Outcome.next (if_neg fun hc => ha (List.isEmpty_iff.1 hc)))⟩
    · exact fun h128 hg => exec_pwrBlockGrant_refused rfl h hb hw h128 hg
    · intro h64 hg w q
      have hexec := exec_pwrBlockGrant (s := s) (t := t) (u := u) rfl h hb hw h64 hg
      exact ⟨fun ha => hexec.trans (congrArg Host.Outcome.next (if_pos (List.isEmpty_iff.2 ha))),
        fun ha h128 => hexec.trans (congrArg Host.Outcome.next ((if_neg fun hc => ha (List.isEmpty_iff.1 hc)).trans (if_neg h128)))⟩
    · exact fun hdue => exec_pwrRequestTimeout rfl h hb hw hdue
    · exact fun hdue => exec_pwrRequestTimeout_idle rfl h (.inr hdue)
  · intro q
    exact ⟨congrArg Host.Outcome.next (levelEnd_some h rfl), congrArg Host.Outcome.next (levelEnd_some h rfl)⟩
  · refine congrArg Host.Outcome.next (if_neg ?_)
    rintro ⟨hc', -⟩
    exact Bool.false_ne_true (hc.symm.trans hc')

/-! ### Sensors -/

/-- The hottest sensor and its number shown, and the alarm raised above its threshold (R546). -/
def hotShown (q : State) : State :=
  let r := (q.wr F.PWR_TMAX (toField (hottest q).1 12)).wr F.PWR_TSEN (hottest q).2
  if signedOf (r.rd F.PWR_TALRM) 12 < (hottest q).1 then r.setBit F.PWR_EVT 3 else r

/-- The throttle that the hottest sensor asks for. -/
def throttled (w : State) (hot : ℤ) : State :=
  if maxTj w + 40 ≤ hot then
    (List.range 4).foldl (fun s d => if s.rd (F.PWR_DST d) = 0 then (s.wr (F.PWR_PL d) 0).wr (F.DSK_PL d) 0 else s)
      ({ w with pwr := { w.pwr with hwtrip := true } }.setBit F.PWR_EVT 4)
  else if hot < maxTj w then { w with pwr := { w.pwr with hwtrip := false } }
  else w

theorem exec_thermalSample {T : ℤ} (hu : s.tick t = u) (hn : n < 72) (hq : { u with pwr := { u.pwr with temps := tset u.pwr.temps n T } } = q) :
    exec (.thermalSample t n T) s = .next (throttled (hotShown q) (hottest q).1) := by
  subst hu
  subst hq
  exact congrArg (fun v => Host.Outcome.next (throttled (hotShown v) (hottest v).1)) (if_pos hn)

theorem sensors : Claims.Sensors := by
  intro s t n mv g T u
  refine ⟨fun hn => ?_, fun hn => ?_⟩
  · have hexec := exec_thermalSample (s := s) (t := t) (u := u) (T := T) rfl hn rfl
    rw [hexec]
    intro q hot r w
    exact ⟨fun h => congrArg Host.Outcome.next ((if_neg (show ¬ maxTj w + 40 ≤ hot by omega)).trans (if_pos h)),
      fun h1 h2 => congrArg Host.Outcome.next ((if_neg (show ¬ maxTj w + 40 ≤ hot by omega)).trans (if_neg (show ¬ hot < maxTj w by omega))),
      fun h => congrArg Host.Outcome.next (if_pos h)⟩
  · intro q r
    have hrail : exec (.railLow t n mv) s = .next (if mv < r.rd (F.PWR_VLOWTH n) then r.setBit F.PWR_EVT 5 else r) :=
      congrArg Host.Outcome.next (if_pos hn)
    exact ⟨fun h => hrail.trans (congrArg Host.Outcome.next (if_pos h)), fun h => hrail.trans (congrArg Host.Outcome.next (if_neg (Nat.not_lt.2 h))),
      congrArg Host.Outcome.next (if_pos hn)⟩

/-- Settles O55: a command is refused by its first check or opens a request, and a request ends when its blocks have answered. -/
theorem power : Obligations.Power := ⟨powerCommands, powerSequences, sensors⟩

end Sys2Proof.Machine
end

section
/-! PROOFS. Self test and the test access port (R555 to R564, R569, R570). -/

namespace Sys2Proof.Machine
open Sys2Proof

variable {s q u : State} {t init seq e dr : ℕ} {fails : List TestElement} {x : TestElement}

/-! ### Commands of the tests -/

theorem bstBell_accepted {opc : ℕ} {f : State → State} (hr : Rings s init 0x2B0 seq opc 0) :
    bstBell s init seq opc f = if init = 0x20 then f (accepted s 0x2B0 seq opc 0) else (accepted s 0x2B0 seq opc 0).complete 0x2B0 1 1 0 :=
  (hostBell_accepted hr).trans (if_congr (by rw [decide_eq_true_eq]) rfl rfl)

/-- What an accepted command of the tests does. -/
def bstCommanded (q : State) (opc : ℕ) : State := if opc = 1 then fullTest q else if opc = 2 then fuse q else sealRecord q

theorem exec_bstCommand {e : Instr × ℕ} (he : e ∈ [(Instr.fulltest t init seq, 1), (.fuse t init seq, 2), (.seal t init seq, 3)])
    (hu : s.tick t = u) (hr : Rings u init 0x2B0 seq e.2 0) :
    exec e.1 s = .next (if init = 0x20 then bstCommanded (accepted u 0x2B0 seq e.2 0) e.2 else (accepted u 0x2B0 seq e.2 0).complete 0x2B0 1 1 0) := by
  subst hu
  simp only [List.mem_cons, List.not_mem_nil, or_false] at he
  rcases he with rfl | rfl | rfl
  · exact congrArg Host.Outcome.next ((gatedCmd_of_passes hr.passes _ _ _ _).trans (bstBell_accepted hr))
  · exact congrArg Host.Outcome.next ((gatedCmd_of_passes hr.passes _ _ _ _).trans (bstBell_accepted hr))
  · exact congrArg Host.Outcome.next ((gatedCmd_of_passes hr.passes _ _ _ _).trans (bstBell_accepted hr))

theorem bstCommanded_refused {opc : ℕ} (h : q.rd F.PWR_DEVST ≠ 2) : bstCommanded q opc = q.complete 0x2B0 1 2 0 := by
  unfold bstCommanded
  split
  · exact if_pos h
  · split
    · exact if_pos h
    · exact if_pos h

theorem bstCommanded_untested {opc : ℕ} (h1 : opc ≠ 1) (h : q.rd F.PWR_DEVST = 2) (ht : q.bst.tested = false) :
    bstCommanded q opc = q.complete 0x2B0 1 3 0 := by
  have hno : ¬ q.bst.tested = true := by rw [ht]; exact Bool.false_ne_true
  rw [bstCommanded, if_neg h1]
  split
  · exact (if_neg (not_not.2 h)).trans (if_pos hno)
  · exact (if_neg (not_not.2 h)).trans (if_pos hno)

theorem fullTest_starts (h : q.rd F.PWR_DEVST = 2) {r : State} (hr : clearSecrets q (List.range 64) (List.range 4) = r) :
    bstCommanded q 1 = { r with bst := { r.bst with running := true } } := by
  subst hr
  exact if_neg (not_not.2 h)

theorem fuse_done (h : q.rd F.PWR_DEVST = 2) (ht : q.bst.tested = true) {new : List TestElement} {room : ℕ} {r : State}
    (hn : q.bst.fails.filter (fun e => confirmed q e && !(q.bst.fused.any (sameElement e))) = new) (hroom : 512 - q.bst.fused.length = room)
    (hr : showFuses { q with bst := { q.bst with fused := q.bst.fused ++ new.take room } } = r) :
    bstCommanded q 2 = if room < new.length then (r.pageErr 0x2B0 0x11 0 0).complete 0x2B0 0x80 0 0 else r.complete 0x2B0 0 0 0 := by
  subst hn
  subst hroom
  subst hr
  exact (if_neg (not_not.2 h)).trans (if_neg (not_not.2 ht))

theorem seal_done (h : q.rd F.PWR_DEVST = 2) (ht : q.bst.tested = true) :
    bstCommanded q 3 = recordPhase (chipResetLeave (chipResetStart (q.complete 0x2B0 0 0 0))) (newRecord q) :=
  (if_neg (not_not.2 h)).trans (if_neg (not_not.2 ht))

theorem testCommands : Claims.TestCommands := by
  intro s t init seq fails u page
  refine ⟨fun e he hr => ?_, fun h => congrArg Host.Outcome.next (if_pos h),
    fun h => congrArg Host.Outcome.next (if_neg fun hc => Bool.false_ne_true (h.symm.trans hc))⟩
  rw [exec_bstCommand (u := u) he rfl hr]
  intro q
  have does (opc : ℕ) {r : State} (ho : e.2 = opc) (hi : init = 0x20) (h : bstCommanded q opc = r) :
      Host.Outcome.next (φ := Fault) (ρ := Refusal) (if init = 0x20 then bstCommanded (accepted u 0x2B0 seq e.2 0) e.2
        else (accepted u 0x2B0 seq e.2 0).complete 0x2B0 1 1 0) = .next r :=
    congrArg Host.Outcome.next ((if_pos hi).trans ((congrArg (bstCommanded q) ho).trans h))
  refine ⟨fun hi => congrArg Host.Outcome.next (if_neg hi), fun hi h => does e.2 rfl hi (bstCommanded_refused h), fun hi h => ⟨?_, ?_, ?_, ?_⟩⟩
  · exact fun ho => does 1 ho hi (fullTest_starts h rfl)
  · exact fun h1 ht => does e.2 rfl hi (bstCommanded_untested h1 h ht)
  · intro ho ht new room r
    have hfuse := fuse_done h ht (new := new) (room := room) (r := r) rfl rfl rfl
    exact ⟨fun hle => does 2 ho hi (hfuse.trans (if_neg (Nat.not_lt.2 hle))), fun hlt => does 2 ho hi (hfuse.trans (if_pos hlt))⟩
  · exact fun ho ht => does 3 ho hi (seal_done h ht)

/-! ### The rolling test -/

theorem exec_rollingTestStart (hu : s.tick t = u) (hen : u.isSet F.BST_REN = true) (hdev : u.rd F.PWR_DEVST = 0) (hk : u.rd F.BST_RKIND = 0)
    (h : rollNext u = some e) : exec (.rollingTestStart t) s = .next (rollStart u e) := by
  have hexec : exec (.rollingTestStart t) s = execRollingTestStart t s := rfl
  rw [hexec, execRollingTestStart, hu]
  dsimp only
  rw [if_pos ⟨hen, hdev, hk⟩, h]

theorem exec_rollingTestStart_idle (hu : s.tick t = u) (h : u.isSet F.BST_REN = false ∨ u.rd F.PWR_DEVST ≠ 0 ∨ u.rd F.BST_RKIND ≠ 0) :
    exec (.rollingTestStart t) s = .next u := by
  subst hu
  refine congrArg Host.Outcome.next (if_neg ?_)
  rintro ⟨hen, hdev, hk⟩
  rcases h with h | h | h
  · exact Bool.false_ne_true (h.symm.trans hen)
  · exact h hdev
  · exact h hk

/-- A nib that its rolling test has passed is back in its state; one that was in place 3 is given back to the ruler (R562). -/
def nibPassed (u : State) : State :=
  let q := ((rollIdle u).bump F.BST_NTEST).wr (F.FER_NST (u.rd F.BST_RFER) (u.rd F.BST_RIDX)) u.bst.before
  if u.bst.before = 3 then q.rulEvent (.nibReturn (u.rd F.BST_RFER) (u.rd F.BST_RIDX)) else q

/-- A nib that failed its rolling test (R562). -/
def nibFailed (u : State) : State :=
  let r := (rollFailed ((rollIdle u).bump F.BST_NTEST) { kind := 4, unit := u.rd F.BST_RFER, bank := u.rd F.BST_RIDX, row := 0, repaired := false }).wr
    (F.FER_NST (u.rd F.BST_RFER) (u.rd F.BST_RIDX)) 3
  if u.bst.before = 4 then r.rulEvent (.nibFault (u.rd F.BST_RFER) (u.rd F.BST_RIDX)) else r.setBit (F.RUL_FAIL (u.rd F.BST_RFER)) (u.rd F.BST_RIDX)

theorem exec_nibTestComplete (hu : s.tick t = u) (h : u.rd F.BST_RKIND = 1) :
    exec (.nibTestComplete t true) s = .next (nibPassed u) ∧ exec (.nibTestComplete t false) s = .next (nibFailed u) := by
  subst hu
  exact ⟨congrArg Host.Outcome.next (if_pos h), congrArg Host.Outcome.next (if_pos h)⟩

theorem segment_idle (hu : s.tick t = u) (h : u.rd F.BST_RKIND ≠ 2) {rep : Bool} {c : Instr}
    (hc : c ∈ [Instr.segmentSaveComplete t, .segmentTestPassComplete t fails rep, .segmentRestoreComplete t]) : exec c s = .next u := by
  subst hu
  simp only [List.mem_cons, List.not_mem_nil, or_false] at hc
  rcases hc with rfl | rfl | rfl
  · exact congrArg Host.Outcome.next (if_neg fun hc => h hc.1)
  · exact congrArg Host.Outcome.next (if_neg fun hc => h hc.1)
  · exact congrArg Host.Outcome.next (if_neg fun hc => h hc.1)

theorem exec_segmentTestPass_clean (hu : s.tick t = u) (hk : u.rd F.BST_RKIND = 2) (hp : u.rd F.BST_RPH = 2) (rep : Bool) :
    exec (.segmentTestPassComplete t [] rep) s = .next (u.wr F.BST_RPH 3) := by
  subst hu
  exact congrArg Host.Outcome.next (if_pos ⟨hk, hp⟩)

/-- A segment whose test found failures: the last one shown, and the first of them counted (R563). -/
def segmentFailed (u : State) (x : TestElement) (rep : Bool) : State :=
  let v := showFailure u { x with repaired := rep }
  let w := (if u.bst.failed then v else v.bump F.BST_NRFAIL).wr F.BST_RFAIL 1
  { w with bst := { w.bst with failed := true } }

/-- A segment whose failures are repaired for its next pass. -/
def segmentRepaired (r : State) (fails : List TestElement) : State :=
  let q := setSoft r (r.bst.soft ++ fails.map (fun x => { x with repaired := true }))
  { q with bst := { q.bst with pass := q.bst.pass + 1, repairAt := q.now + 1 } }

/-- A segment whose failures cannot be repaired is given up. -/
def segmentGivenUp (r : State) : State :=
  let q : State := { r with bst := { r.bst with shadows := r.bst.shadows ++ [(r.rd F.BST_RFER, r.rd F.BST_RIDX)] } }
  (((rollIdle q).bump F.BST_NTEST).wr F.BST_UNREP 1).pageErr 0x2B0 0x10 18 0

theorem exec_segmentTestPass_failed (hu : s.tick t = u) (hk : u.rd F.BST_RKIND = 2) (hp : u.rd F.BST_RPH = 2) (h : fails.getLast? = some x) (rep : Bool) :
    exec (.segmentTestPassComplete t fails rep) s = .next (
      if rep then segmentRepaired (segmentFailed u x rep) fails else segmentGivenUp (segmentFailed u x rep)) := by
  have hexec : exec (.segmentTestPassComplete t fails rep) s = execSegmentTestPassComplete t fails rep s := rfl
  rw [hexec, execSegmentTestPassComplete, hu]
  dsimp only
  rw [if_pos ⟨hk, hp⟩, h] <;> rfl

theorem rollingTest : Claims.RollingTest := by
  intro s t e pass rep fails x u idle
  refine ⟨fun h => exec_rollingTestStart_idle rfl h, fun hen hdev hk h => exec_rollingTestStart rfl hen hdev hk h,
    fun h => congrArg Host.Outcome.next (if_neg h), fun h => ?_, fun h c hc => segment_idle rfl h hc, fun hk hp => congrArg Host.Outcome.next (if_pos ⟨hk, hp⟩),
    fun hk hp => ⟨exec_segmentTestPass_clean rfl hk hp rep, ?_⟩, fun hk hp => congrArg Host.Outcome.next (if_pos ⟨hk, hp⟩)⟩
  · obtain ⟨hpass, hfail⟩ := exec_nibTestComplete (s := s) (t := t) (u := u) rfl h
    intro f n q
    refine ⟨fun hb => hpass.trans (congrArg Host.Outcome.next (if_neg hb)), fun hb => ?_, ?_⟩
    · refine hpass.trans (congrArg Host.Outcome.next ((if_pos hb).trans ?_))
      rw [hb]
    · intro r
      exact ⟨fun hb => hfail.trans (congrArg Host.Outcome.next (if_pos hb)), fun hb => hfail.trans (congrArg Host.Outcome.next (if_neg hb))⟩
  · intro hl v w r
    have hexec := exec_segmentTestPass_failed (s := s) (t := t) (u := u) rfl hk hp hl
    refine ⟨fun hrep => (hexec true).trans ?_, fun hrep => (hexec false).trans ?_⟩
    · subst hrep
      rfl
    · subst hrep
      rfl

/-! ### The test access port -/

theorem testPort : Claims.TestPort := by
  intro s t dr b tdi u
  refine ⟨fun e he => ?_, rfl, rfl, fun h => congrArg Host.Outcome.next (if_pos h), fun h => ⟨fun hno => ?_, fun hl hb hp => ?_, fun hl hb hp => ?_⟩⟩
  · simp only [List.mem_cons, List.not_mem_nil, or_false] at he
    rcases he with rfl | rfl | rfl | rfl
    · rfl
    · rfl
    · rfl
    · rfl
  · exact congrArg Host.Outcome.next ((if_neg (by rw [h]; exact Bool.false_ne_true)).trans (if_pos hno))
  · have hup : (if b.toNat < 64 then decide (ferPower (loadIr u 0x12) b.toNat = 0) else decide ((loadIr u 0x12).rd (F.PWR_DST (b.toNat - 64)) ≠ 3)) = true :=
      (if_pos hb).trans (decide_eq_true hp)
    exact congrArg Host.Outcome.next ((if_neg (by rw [h]; exact Bool.false_ne_true)).trans ((if_neg (not_or.2 ⟨not_not.2 hl, by omega⟩)).trans (if_pos hup)))
  · have hup : ¬ (if b.toNat < 64 then decide (ferPower (loadIr u 0x12) b.toNat = 0) else decide ((loadIr u 0x12).rd (F.PWR_DST (b.toNat - 64)) ≠ 3)) = true := by
      rw [if_pos hb, decide_eq_true_eq]
      exact hp
    exact congrArg Host.Outcome.next ((if_neg (by rw [h]; exact Bool.false_ne_true)).trans ((if_neg (not_or.2 ⟨not_not.2 hl, by omega⟩)).trans (if_neg hup)))

/-- Settles O56: a command of the tests is refused by its first check or done, and the rolling test and the port follow their registers. -/
theorem selfTest : Obligations.SelfTest := ⟨testCommands, rollingTest, testPort⟩

end Sys2Proof.Machine
end

section
/-! PROOFS. Debug levels and accesses from the test access port (R98, R571, R572). -/

namespace Sys2Proof.Machine
open Sys2Proof

variable {s q u r : State} {t a b k lvl : ℕ} {op : BitVec 8} {l : List ℕ}

/-! ### Levels -/

theorem exec_unlockRequest_other (hq : loadIr (s.tick t) 0x10 = q) (h : ¬ (op = 1 ∨ op = 2)) : exec (.unlockRequest t op) s = .next q := by
  subst hq
  exact congrArg Host.Outcome.next (if_neg h)

theorem exec_unlockRequest_waits (hq : loadIr (s.tick t) 0x10 = q) (h : op = 1 ∨ op = 2) (hw : challengeWait q ≠ 0) :
    exec (.unlockRequest t op) s = .next { q with dbg := { q.dbg with capture := 0, chal := none } } := by
  subst hq
  exact congrArg Host.Outcome.next ((if_pos h).trans (if_pos hw))

theorem exec_unlockRequest {c : BitVec 128} (hq : loadIr (s.tick t) 0x10 = q) (h : op = 1 ∨ op = 2) (hw : challengeWait q = 0)
    (hf : q.free 128 = (c, r)) (hl : octetsOf (r.rd F.DEV_UID) 8 ++ octetsOf c.toNat 16 ++ [op.toNat] = l) :
    exec (.unlockRequest t op) s = .next { r with dbg := { r.dbg with capture := lsbOctets l, chal := some (op.toNat, l) } } := by
  have hexec : exec (.unlockRequest t op) s = execUnlockRequest t op s := rfl
  rw [hexec, execUnlockRequest, hq]
  dsimp only
  rw [if_pos h, if_neg (not_not.2 hw), hf]
  dsimp only
  rw [hl]

/-- A challenge that has been answered, well or not. -/
def challengeSpent (q : State) (ok : Bool) : State := { q with dbg := { q.dbg with chal := none, capture := b2n (!ok) } }

/-- A failed answer starts the next wait, which doubles up to 64 s (R98). -/
def waitStarted (v : State) : State :=
  { v with dbg := { v.dbg with waitEnd := v.devTime + v.dbg.waitNext * 1000000000, waitNext := min (2 * v.dbg.waitNext) 64 } }

theorem challengeWait_counted (r : State) : challengeWait ((r.bump F.BLT_NFAIL).wr F.BLT_UFAIL 1) = challengeWait r := rfl

theorem exec_unlockAnswer {ok : Bool} (hq : loadIr (s.tick t) 0x10 = q) (hc : q.dbg.chal = some (lvl, l)) (hok : answerOk q a b k = ok) :
    exec (.unlockAnswer t a b k) s = .next (
      if ok then (challengeSpent q ok).wr F.BLT_LVL lvl
      else ((((waitStarted (challengeSpent q ok)).bump F.BLT_NFAIL).wr F.BLT_UFAIL 1).wr F.BLT_WAIT
        (challengeWait (waitStarted (challengeSpent q ok)))).pageErr 0x2C0 0x11 18 0) := by
  have hexec : exec (.unlockAnswer t a b k) s = execUnlockAnswer t a b k s := rfl
  rw [hexec, execUnlockAnswer, hq]
  dsimp only
  rw [hc, hok]
  rfl

/-- An answer is right when its key is the provisioned one and its signature covers the challenge (R98). -/
theorem answerOk_eq (hc : q.dbg.chal = some (lvl, l)) :
    answerOk q a b k = (decide (Config.sha384 (octetsOf k 96) = q.otp.dbgh) && Config.ecdsaVerify k (Config.sha384 l) a b) := by
  unfold answerOk
  rw [hc]

theorem unlocking : Claims.Unlocking := by
  intro s t a b k op u q
  refine ⟨fun h1 h2 => exec_unlockRequest_other rfl (not_or.2 ⟨h1, h2⟩), fun h hw => exec_unlockRequest_waits rfl h hw, fun h hw => ?_, fun lvl l hc => ?_, rfl,
    fun h => congrArg Host.Outcome.next (if_pos h), fun h => congrArg Host.Outcome.next (if_neg h)⟩
  · intro r l
    exact exec_unlockRequest (q := q) rfl h hw rfl rfl
  · intro ok v
    have hexec := exec_unlockAnswer (s := s) (t := t) (q := q) (a := a) (b := b) (k := k) (ok := ok) rfl hc (answerOk_eq hc)
    refine ⟨fun hok => hexec.trans (congrArg Host.Outcome.next (if_pos hok)), fun hok => ?_⟩
    exact hexec.trans (congrArg Host.Outcome.next (if_neg fun h => Bool.false_ne_true (hok.symm.trans h)))

/-! ### Accesses -/

theorem dbgUpdate_locked {addr size op : ℕ} {data : Word} (h : u.rd F.BLT_LVL = 0) : dbgUpdate u addr size op data = dbgResult (loadIr u 0xFF) 5 0 := if_pos h

theorem dbgUpdate_open {addr size op : ℕ} {data : Word} (h : u.rd F.BLT_LVL ≠ 0) (hq : loadIr u 0x11 = q) :
    dbgUpdate u addr size op data =
      if q.dbg.acc.isSome then dbgResult q 1 0
      else if op = 2 ∧ q.rd F.BLT_LVL = 1 ∧ dbgBarred addr then dbgResult q 4 0
      else dbgPerform { q with dbg := { q.dbg with acc := some { addr := addr, size := size, op := op, data := data, since := q.now } } }
        { addr := addr, size := size, op := op, data := data, since := q.now } := by
  subst hq
  exact if_neg h

theorem dbgPerform_ok {x : DbgAcc} {w : Word} {p : Bool} {v : State} (h : (if x.op = 2 then dbgWrite r x else dbgRead r x) = (.ok w p, v)) :
    dbgPerform r x = dbgResult (dbgEnd v) (if x.op ≠ 2 ∧ p then 3 else 0) w := by
  unfold dbgPerform
  rw [h]

theorem exec_dbgaccPoll_none (hu : s.tick t = u) (h : u.rd F.BLT_LVL ≠ 0) (hq : loadIr u 0x11 = q) (ha : q.dbg.acc = none) :
    exec (.dbgaccPoll t) s = .next q := by
  have hexec : exec (.dbgaccPoll t) s = execDbgaccPoll t s := rfl
  rw [hexec, execDbgaccPoll, hu]
  dsimp only
  rw [if_neg h, hq, ha]

theorem exec_dbgaccTimeout_none (hu : s.tick t = u) (h : u.dbg.acc = none) : exec (.dbgaccTimeout t) s = .next u := by
  have hexec : exec (.dbgaccTimeout t) s = execDbgaccTimeout t s := rfl
  rw [hexec, execDbgaccTimeout, hu]
  dsimp only
  rw [h]

theorem exec_dbgaccTimeout {x : DbgAcc} (hu : s.tick t = u) (h : u.dbg.acc = some x) :
    exec (.dbgaccTimeout t) s = .next (if x.since + 100000 ≤ u.now then dbgResult (dbgEnd u) 6 0 else u) := by
  have hexec : exec (.dbgaccTimeout t) s = execDbgaccTimeout t s := rfl
  rw [hexec, execDbgaccTimeout, hu]
  dsimp only
  rw [h]

theorem debugAccesses : Claims.DebugAccesses := by
  intro s t addr size data a u q
  refine ⟨fun e he => ?_, fun h => congrArg Host.Outcome.next (if_pos h), fun h ha => exec_dbgaccPoll_none rfl h rfl ha,
    fun h => exec_dbgaccTimeout_none rfl h, fun h => ?_⟩
  · have hexec : exec e.1 s = .next (dbgUpdate u addr.toNat size.toNat e.2.1 e.2.2) := by
      simp only [List.mem_cons, List.not_mem_nil, or_false] at he
      rcases he with rfl | rfl | rfl
      · rfl
      · rfl
      · rfl
    rw [hexec]
    have hopen (h : u.rd F.BLT_LVL ≠ 0) := dbgUpdate_open (addr := addr.toNat) (size := size.toNat) (op := e.2.1) (data := e.2.2) h (q := q) rfl
    refine ⟨fun h => congrArg Host.Outcome.next (dbgUpdate_locked h), fun h ha => congrArg Host.Outcome.next ((hopen h).trans (if_pos ha)), fun h ha => ?_⟩
    have hfree : ¬ q.dbg.acc.isSome = true := by
      rw [ha]
      exact Bool.false_ne_true
    refine ⟨fun h2 h1 hb => congrArg Host.Outcome.next ((hopen h).trans ((if_neg hfree).trans (if_pos ⟨h2, h1, hb⟩))), fun hno => ?_⟩
    intro a r w p v hdo
    have hmay : ¬ (e.2.1 = 2 ∧ q.rd F.BLT_LVL = 1 ∧ dbgBarred addr.toNat = true) := by
      rintro ⟨h2, h1, hb⟩
      rcases hno with hno | hno | hno
      · exact hno h2
      · exact hno h1
      · exact Bool.false_ne_true (hno.symm.trans hb)
    exact congrArg Host.Outcome.next ((hopen h).trans ((if_neg hfree).trans ((if_neg hmay).trans (dbgPerform_ok hdo))))
  · have hexec := exec_dbgaccTimeout (s := s) (t := t) (u := u) rfl h
    exact ⟨fun hlt => hexec.trans (congrArg Host.Outcome.next (if_neg (Nat.not_le.2 hlt))), fun hle => hexec.trans (congrArg Host.Outcome.next (if_pos hle))⟩

/-- Settles O57: an answer opens its level or starts the next wait, and an access is answered by the first check it fails or performed. -/
theorem debugAccess : Obligations.DebugAccess := ⟨unlocking, debugAccesses⟩

end Sys2Proof.Machine
end

section
/-! PROOFS. Run control and the trace memory (R574 to R591). -/

namespace Sys2Proof.Machine
open Sys2Proof

variable {s q u : State} {t init n i lo w src : ℕ} {v : Word} {k : Packet}

/-! ### Fields of a word with one bit set -/

theorem getField_eq_extract (v : Word) (lo w : ℕ) : getField v lo w = (v.extractLsb' lo w).toNat := (BitVec.extractLsb'_toNat ..).symm

theorem getField_or_bit (v : Word) (h : i < lo ∨ lo + w ≤ i) : getField (v ||| (1#72 <<< i)) lo w = getField v lo w := by
  rw [getField_eq_extract, getField_eq_extract]
  congr 1
  ext j hj
  have hne : ¬ lo + j = i := by omega
  simp only [BitVec.getElem_extractLsb', BitVec.getLsbD_or, BitVec.getLsbD_shiftLeft, BitVec.getLsbD_one]
  by_cases hlt : lo + j < i
  · simp [hlt]
  · have hpos : ¬ lo + j - i = 0 := by omega
    simp [hpos]

theorem getField_or_bit_self (v : Word) (h : i < 72) : getField (v ||| (1#72 <<< i)) i 1 = 1 := by
  rw [getField_eq_extract]
  have hbit : (v ||| (1#72 <<< i)).extractLsb' i 1 = 1#1 := by
    ext j hj
    have h0 : j = 0 := by omega
    simp [h0, h]
  rw [hbit]
  rfl

/-! ### Run control -/

theorem nibSelect_halt_refused (h : getField v 11 1 = 1) (hno : ¬ (getField v 6 5 < 18 ∧ nibMayHalt u (getField v 0 6) (getField v 6 5) = true)) :
    nibSelect u v = u.ignored 0x2C0 25 7 := if_pos ⟨h, hno⟩

theorem nibSelect_halt (h : getField v 11 1 = 1) (hn : getField v 6 5 < 18) (hm : nibMayHalt u (getField v 0 6) (getField v 6 5) = true)
    (hr : getField v 12 1 = 0) :
    nibSelect u v = haltNib (u.setWord (0x2C0 * 512 + 25) (v &&& 0xFFFE7FF#72)) (getField v 0 6) (getField v 6 5) := by
  unfold nibSelect
  dsimp only
  rw [if_neg (fun hc => hc.2 ⟨hn, hm⟩), if_pos h, if_neg (by rw [hr]; simp)]

theorem nibSelect_release (h : getField v 11 1 = 0) (hn : getField v 6 5 < 18) (hr : getField v 12 1 = 1) :
    nibSelect u v = releaseNib (u.setWord (0x2C0 * 512 + 25) (v &&& 0xFFFE7FF#72)) (getField v 0 6) (getField v 6 5) := by
  have hno : ¬ getField v 11 1 = 1 := by rw [h]; decide
  unfold nibSelect
  dsimp only
  rw [if_neg (fun hc => hno hc.1), if_neg hno, if_pos ⟨hr, hn⟩]

theorem srvalWrite_refused (h : 32 < u.rd F.BLT_TGT ∨ coreHalted u (u.rd F.BLT_TGT) = false) : srvalWrite u v = u.ignored 0x2C0 24 7 := by
  refine if_pos (h.imp_right fun hh hc => ?_)
  exact Bool.false_ne_true (hh.symm.trans hc)

theorem srvalWrite_halted (ht : u.rd F.BLT_TGT ≤ 32) (hh : coreHalted u (u.rd F.BLT_TGT) = true) :
    srvalWrite u v =
      if u.rd F.BLT_KIND_23 = 0 then (if u.rd F.BLT_NUM < 32 then u.setG (u.rd F.BLT_TGT) (u.rd F.BLT_NUM) v else u)
      else if u.rd F.BLT_NUM = 0x3FF then
        (if getField v 0 2 ≠ 0 then u.ignored 0x2C0 24 7 else u.modScribe (u.rd F.BLT_TGT) (fun c => { c with pc := getField v 0 48 }))
      else if u.rd F.BLT_NUM = 0 ∧ (getField v 0 2 = 3 ∨ (u.rd F.BLT_TGT = 32 ∧ getField v 0 2 ≠ 2)) then u.ignored 0x2C0 24 7
      else sregPut u (u.rd F.BLT_TGT) (u.rd F.BLT_NUM) v :=
  if_neg (not_or.2 ⟨Nat.not_lt.2 ht, not_not.2 hh⟩)

theorem runControl : Claims.RunControl := by
  intro s t init n m v b u p no
  have may {x : ℕ} {f : State → State} {w : Word} (hp : Passes u init p x true) {r : State} (h : f u = r) :
      Host.Outcome.next (φ := Fault) (ρ := Refusal) (u.gated init 0x2C0 x w f) = .next r :=
    congrArg Host.Outcome.next ((gated_of_passes hp _ _).trans h)
  have detached (h : u.isSet F.BLT_ATTACH = false) : ¬ u.isSet F.BLT_ATTACH = true := fun hc => Bool.false_ne_true (h.symm.trans hc)
  refine ⟨fun hp => ⟨fun hi hl => ⟨may hp (if_pos ⟨hi, hl⟩), fun ha => may hp ((if_pos ⟨hi, hl⟩).trans (if_pos ha)),
      fun ha => may hp ((if_pos ⟨hi, hl⟩).trans (if_neg (detached ha)))⟩, fun hno => may hp (if_neg ?_)⟩,
    fun hp => ⟨fun ha => may hp (if_pos (detached ha)), fun ha => may hp (if_neg (not_not.2 ha))⟩, fun hp => may hp rfl,
    fun hp => ⟨fun ha => may hp (if_pos (detached ha)), fun ha => may hp (if_neg (not_not.2 ha))⟩, fun hn hreq hup => ?_, fun hreq => ?_, fun hp => ?_, fun hp => ?_⟩
  · rintro ⟨hi, hl⟩
    rcases hno with h | h
    · exact h hi
    · exact Nat.ne_of_gt hl h
  · have hgo : (if n < 32 then scribeUp u n else mcRuns u) = true := (if_pos hn).trans hup
    exact congrArg Host.Outcome.next ((if_pos ⟨hn.le, hreq, hgo⟩).trans (if_pos hn))
  · exact congrArg Host.Outcome.next (if_neg fun hc => Bool.false_ne_true (hreq.symm.trans hc.2.1))
  · exact ⟨fun h => may hp (srvalWrite_refused h), fun ht hh hk hn => may hp ((srvalWrite_halted ht hh).trans ((if_pos hk).trans (if_pos hn))),
      fun ht hh hk hn h0 => may hp ((srvalWrite_halted ht hh).trans ((if_neg hk).trans ((if_pos hn).trans (if_neg (not_not.2 h0)))))⟩
  · intro f k w
    have hf11 : getField (v ||| (1#72 <<< 11)) 0 6 = f := getField_or_bit v (.inr (by decide))
    have hk11 : getField (v ||| (1#72 <<< 11)) 6 5 = k := getField_or_bit v (.inr (by decide))
    have hf12 : getField (v ||| (1#72 <<< 12)) 0 6 = f := getField_or_bit v (.inr (by decide))
    have hk12 : getField (v ||| (1#72 <<< 12)) 6 5 = k := getField_or_bit v (.inr (by decide))
    have hset11 : getField (v ||| (1#72 <<< 11)) 11 1 = 1 := getField_or_bit_self v (by decide)
    have hset12 : getField (v ||| (1#72 <<< 12)) 12 1 = 1 := getField_or_bit_self v (by decide)
    refine ⟨fun hno => may hp (nibSelect_halt_refused hset11 (by rw [hf11, hk11]; exact hno)), fun hk hm h12 => may hp ?_, fun hk h11 => may hp ?_⟩
    · have h := nibSelect_halt (u := u) hset11 (by rw [hk11]; exact hk) (by rw [hf11, hk11]; exact hm)
        ((getField_or_bit v (.inl (by decide))).trans h12)
      rw [hf11, hk11] at h
      exact h
    · have h := nibSelect_release (u := u) ((getField_or_bit v (.inr (by decide))).trans h11) (by rw [hk12]; exact hk) hset12
      rw [hf12, hk12] at h
      exact h

/-! ### The trace memory -/

theorem exec_blotterPacketWrite_idle (hu : s.tick t = u) (h : blotOn u = false ∨ nextPacket u = none) : exec (.blotterPacketWrite t) s = .next u := by
  have hexec : exec (.blotterPacketWrite t) s = execBlotterPacketWrite t s := rfl
  rw [hexec, execBlotterPacketWrite, hu]
  dsimp only
  rcases h with h | h
  · rw [if_pos (fun hc => Bool.false_ne_true (h.symm.trans hc))]
  · rw [h, ite_self]

theorem exec_blotterPacketWrite (hu : s.tick t = u) (hon : blotOn u = true) (h : nextPacket u = some (src, k))
    (hq : { u with blot := { u.blot with queues := tset u.blot.queues src ((tget u.blot.queues src).drop 1) } } = q) :
    exec (.blotterPacketWrite t) s = .next (owedGap (writePacket q src k) src) := by
  have hexec : exec (.blotterPacketWrite t) s = execBlotterPacketWrite t s := rfl
  subst hq
  rw [hexec, execBlotterPacketWrite, hu]
  dsimp only
  rw [if_neg (not_not.2 hon), h]

theorem traceCommands : Claims.TraceCommands := by
  intro s t init p src v k u
  refine ⟨fun h => exec_blotterPacketWrite_idle rfl h, fun hon h => exec_blotterPacketWrite rfl hon h rfl, fun hp => ?_, fun hp => ?_⟩
  · have hstim : exec (.blotterStimWrite t init p v) s = .next (stimWrite u p v) := congrArg Host.Outcome.next (gated_of_passes hp _ _)
    exact ⟨fun h => hstim.trans (congrArg Host.Outcome.next (if_pos h)),
      fun h => hstim.trans (congrArg Host.Outcome.next (if_neg fun hc => Bool.false_ne_true (h.symm.trans hc)))⟩
  · exact ⟨congrArg Host.Outcome.next (gated_of_passes hp _ _), congrArg Host.Outcome.next (gated_of_passes hp _ _)⟩

/-- Settles O58: each write of run control is ignored where it may not be made and otherwise acts on the cores its mask names. -/
theorem debugControl : Obligations.DebugControl := ⟨runControl, traceCommands⟩

end Sys2Proof.Machine
end

section
/-! PROOFS. The duplex pair (R592 to R602). -/

namespace Sys2Proof.Machine
open Sys2Proof

variable {s q u : State} {t init d n r now : ℕ} {m : DpxStatus} {x o : DpxOutput}

/-! ### Configuration -/

/-- A write of the configuration that R602 does not take: a field out of range, or a change that the enabled pair bars. -/
abbrev DpxBars (u : State) (en role pair hold : ℕ) : Prop :=
  role = 3 ∨ hold = 0 ∨ (u.isSet F.DPX_EN = true ∧ (en = 0 ∨ pair ≠ u.rd F.DPX_PAIR)) ∨
    (en = 1 ∧ u.isSet F.DPX_EN = false ∧ u.rd (fPairMode (512 + pair)) ≠ 1)

theorem dpxConfig_barred {v : Word} (h : DpxBars u (getField v 0 1) (getField v 1 2) (getField v 3 2) (getField v 5 4)) :
    dpxConfig u init 8 v = u.ignored 0x2E0 8 7 := by
  unfold dpxConfig
  extract_lets no en role pair hold was q
  rw [if_pos rfl]
  rcases h with h | h | h | ⟨he, hen, hm⟩
  · exact if_pos (.inl h)
  · exact if_pos (.inr h)
  · by_cases hf : role = 3 ∨ hold = 0
    · exact if_pos hf
    · exact (if_neg hf).trans (if_pos h)
  · have hoff : ¬ u.isSet F.DPX_EN = true := fun hc => Bool.false_ne_true (hen.symm.trans hc)
    by_cases hf : role = 3 ∨ hold = 0
    · exact if_pos hf
    · exact (if_neg hf).trans ((if_neg fun hc => hoff hc.1).trans (if_pos ⟨he, hoff, hm⟩))

theorem dpxConfig_enabled {v : Word} (hr : getField v 1 2 ≠ 3) (hh : getField v 5 4 ≠ 0) (hen : u.isSet F.DPX_EN = true) (he : getField v 0 1 = 1)
    (hp : getField v 3 2 = u.rd F.DPX_PAIR) :
    dpxConfig u init 8 v =
      dpxEligible ((((u.wr F.DPX_EN 1).wr F.DPX_ROLE (getField v 1 2)).wr F.DPX_PAIR (getField v 3 2)).wr F.DPX_HOLD (getField v 5 4)) := by
  unfold dpxConfig
  dsimp only
  rw [if_pos rfl, if_neg (by omega), if_neg (by rw [he, hp]; simp), if_neg (by rw [hen]; simp), if_neg (by rw [hen]; simp), he]

theorem dpxConfig_firmware {v : Word} (h : init ≠ 0x20) : dpxConfig u init 11 v = u.ignored 0x2E0 11 7 := if_pos (.inl h)

theorem duplexControl : Claims.DuplexControl := by
  intro s t init v u p en role pair hold
  have may {off : ℕ} (hp : Passes u init p off true) {r : State} (h : dpxConfig u init off v = r) : exec (.duplexConfigWrite t init off v) s = .next r :=
    congrArg Host.Outcome.next ((gated_of_passes hp _ _).trans h)
  exact ⟨fun hp => ⟨fun h => may hp (dpxConfig_barred h), fun hr hh hen he hpair => may hp (dpxConfig_enabled hr hh hen he hpair)⟩,
    fun hp => may hp rfl, fun hp => may hp rfl, fun hp hi => may hp (dpxConfig_firmware hi),
    fun hp => congrArg Host.Outcome.next (gated_of_passes hp _ _)⟩

/-! ### What a status frame shows of the peer -/

/-- The peer as its status frame shows it (R594, R602). -/
structure PeerShown (m : DpxStatus) (now : ℕ) (q : State) : Prop where
  up : Reads q F.DPX_PEERUP 1
  role : Reads q F.DPX_PROLE (m.role % 4)
  cmd : Reads q F.DPX_PHCMD m.hcmd.toNat
  heard : q.dpx.heardAt = now
  txt : q.dpx.txt = m.txt

/-- A field that shares no bit with what is shown of the peer. -/
abbrev PeerApart (f : Fld) : Prop := FldIn f ∧ FldApart f F.DPX_PEERUP ∧ FldApart f F.DPX_PROLE ∧ FldApart f F.DPX_PHCMD

namespace PeerShown

theorem wr {f : Fld} (h : PeerShown m now q) (hf : PeerApart f) (v : ℕ) : PeerShown m now (q.wr f v) :=
  ⟨h.up.wr hf.1 hf.2.1 v, h.role.wr hf.1 hf.2.2.1 v, h.cmd.wr hf.1 hf.2.2.2 v, h.heard, h.txt⟩

theorem withDpx {y : Dpx} (h : PeerShown m now q) (h1 : y.heardAt = q.dpx.heardAt) (h2 : y.txt = q.dpx.txt) : PeerShown m now { q with dpx := y } :=
  ⟨h.up.of_regs rfl, h.role.of_regs rfl, h.cmd.of_regs rfl, h1.trans h.heard, h2.trans h.txt⟩

theorem ite {c : Prop} [Decidable c] (h : PeerShown m now q) (hs : PeerShown m now s) : PeerShown m now (if c then q else s) := by
  split
  · exact h
  · exact hs

theorem pageErr (h : PeerShown m now q) (code ofs info : ℕ) : PeerShown m now (q.pageErr 0x2E0 code ofs info) :=
  (ite (((h.wr (by decide) _).wr (by decide) _).wr (by decide) _) h).wr (by decide) _

theorem dpxReason (h : PeerShown m now q) (r : ℕ) (on : Bool) : PeerShown m now (dpxReason q r on) := by
  have hset : PeerShown m now (if on then q.setBit F.DPX_RSN (r - 1) else q.clrBit F.DPX_RSN (r - 1)) :=
    ite (h.wr (by decide) _) (h.wr (by decide) _)
  exact ite ((hset.wr (by decide) _).pageErr _ _ _) hset

theorem dpxCheck (h : PeerShown m now q) (r : ℕ) (bad : Bool) : PeerShown m now (dpxCheck q r bad) := by
  have hfails := h.withDpx (y := { q.dpx with fails := tset q.dpx.fails r (if bad then min (tget q.dpx.fails r + 1) 15 else 0) }) rfl rfl
  exact ite (hfails.dpxReason _ _) hfails

theorem dpxCount (h : PeerShown m now q) : PeerShown m now (dpxCount q) := h.wr (by decide) _

theorem dpxEligible (h : PeerShown m now q) : PeerShown m now (dpxEligible q) := h.wr (by decide) _

theorem setPdeg (h : PeerShown m now q) (b : Bool) : PeerShown m now (setPdeg q b) := by
  have hp : PeerShown m now (q.wrb F.TIM_PDEG b) := h.wr (by decide) _
  have hs : PeerShown m now (q.wrb F.TIM_PDEG b).errSync := hp.wr (by decide) _
  unfold Machine.setPdeg State.updQuality
  dsimp only
  exact ite (ite (hs.wr (by decide) _) hs) (((ite (hs.wr (by decide) _) hs).wr (by decide) _).wr (by decide) _)

theorem dpxOffset (h : PeerShown m now q) (msg : DpxStatus) (stamp : ℕ) : PeerShown m now (dpxOffset q msg stamp) := by
  unfold Machine.dpxOffset
  split
  · exact h
  · extract_lets w ofs v
    have hv : PeerShown m now v := (h.wr (by decide) _).wr (by decide) _
    split
    · exact (hv.withDpx (y := { v.dpx with good := 0 }) rfl rfl).setPdeg _
    · have hgood := hv.withDpx (y := { v.dpx with good := min (v.dpx.good + 1) 3 }) rfl rfl
      exact ite (hgood.setPdeg _) hgood

end PeerShown

/-- The instant and the stamps of a status frame (R599). -/
def peerStamped (u : State) (m : DpxStatus) (stamp : ℕ) : State :=
  { u with dpx := { u.dpx with heardAt := u.now, txt := m.txt, erxt := timeWord stamp } }

/-- What a status frame writes of the peer, before its figures are checked (R594, R599). -/
def peerHeard (u : State) (m : DpxStatus) (stamp : ℕ) : State :=
  let b := (((((peerStamped u m stamp).bump F.DPX_NSTAT).wr F.DPX_PEERUP 1).wrb F.DPX_PELIG m.elig).wr F.DPX_PROLE m.role).wr F.DPX_PCFG m.cfgdig.toNat
  (b.wr F.DPX_PHCMD m.hcmd.toNat).wr F.DPX_PFWV m.fwv

theorem peerHeard_shown (h : twf u.regs = true) (m : DpxStatus) (stamp : ℕ) : PeerShown m u.now (peerHeard u m stamp) := by
  have hcount : twf ((peerStamped u m stamp).bump F.DPX_NSTAT).regs = true := twf_wr h F.DPX_NSTAT _
  have hup := reads_wr_fit (f := F.DPX_PEERUP) (v := 1) hcount (by decide) (by decide)
  have hrole := reads_wr_self (f := F.DPX_PROLE) (hup.wr (g := F.DPX_PELIG) (by decide) (by decide) (b2n m.elig)).regs (by decide) m.role
  have hcmd := reads_wr_fit (f := F.DPX_PHCMD) (hrole.wr (g := F.DPX_PCFG) (by decide) (by decide) m.cfgdig.toNat).regs (by decide) m.hcmd.isLt
  exact ⟨((((hup.wr (by decide) (by decide) _).wr (by decide) (by decide) _).wr (by decide) (by decide) _).wr (by decide) (by decide) _).wr
      (by decide) (by decide) _,
    ((hrole.wr (by decide) (by decide) _).wr (by decide) (by decide) _).wr (by decide) (by decide) _, hcmd.wr (by decide) (by decide) _, rfl, rfl⟩

/-- The device's own figures for the second of a status frame. -/
def dpxMine (u : State) : DpxStatus :=
  let second := (u.devTime + 500000000) / 1000000000 * 1000000000
  match u.dpx.mine with
  | some (b, m) => if b = second then m else dpxFigures u second
  | none => dpxFigures u second

/-- The checks of a status frame against the device's own figures (R596, R597). -/
def dpxChecked (q : State) (m mine : DpxStatus) (stamp : ℕ) : State :=
  let a := dpxCheck (dpxCheck (dpxCheck q 1 (m.cfgdig != mine.cfgdig)) 2 (m.hcmd != mine.hcmd)) 3 (m.fwv != mine.fwv)
  let b := dpxReason a 4 (m.doms != mine.doms)
  let role := b.rd F.DPX_ROLE
  let c := dpxReason b 6 (decide (m.role = role) && (decide (role = 1) || decide (role = 2)))
  dpxOffset (dpxEligible (dpxCount (dpxReason c 5 false))) m stamp

theorem dpxChecked_shown (h : PeerShown m now q) (mine : DpxStatus) (stamp : ℕ) : PeerShown m now (dpxChecked q m mine stamp) :=
  (((((((h.dpxCheck _ _).dpxCheck _ _).dpxCheck _ _).dpxReason _ _).dpxReason _ _).dpxReason _ _).dpxCount.dpxEligible).dpxOffset _ _

theorem exec_duplexStatusRx {stamp : ℕ} (hu : s.tick t = u) (hen : u.isSet F.DPX_EN = true) :
    exec (.duplexStatusRx t stamp 1 m) s = .next (dpxChecked (peerHeard u m stamp) m (dpxMine u) stamp) := by
  subst hu
  exact congrArg Host.Outcome.next ((if_neg (not_not.2 hen)).trans (if_neg (not_not.2 rfl)))

/-! ### Outputs -/

theorem exec_duplexOutputRx (hu : s.tick t = u) (hen : u.isSet F.DPX_EN = true) (hd : x.dom ≤ 3) :
    exec (.duplexOutputRx t 1 x) s = .next (match u.dpx.own.find? (sameStroke x) with
      | some o => dpxCompare { u with dpx := { u.dpx with own := u.dpx.own.filter (fun y => !(sameStroke x y)) } } o x
      | none =>
        if tget u.dpx.sent x.dom ≤ x.stroke then
          { u with dpx := { u.dpx with peer := (u.dpx.peer.filter (fun p => decide (p.dom ≠ x.dom) || decide (x.stroke < p.stroke + 4))) ++ [x] } }
        else u) := by
  subst hu
  exact congrArg Host.Outcome.next ((if_neg (not_not.2 hen)).trans (if_neg (by omega)))

/-- What sending an output leaves, when no other output of either device waits for its stroke (R600). -/
def outputSent (q : State) (o : DpxOutput) (d n : ℕ) : State :=
  let late (x : DpxOutput) : Bool := decide (x.dom = d) && decide (x.stroke + 4 ≤ n)
  let s := (q.dpx.own.filter late).foldl (fun s _ => s.bump (F.DPX_NMISS d)) q
  let x := s.dpx
  let s : State := { s with dpx := { x with own := x.own.filter (fun o => !(late o)), sent := tset x.sent d (n + 1) } }
  let s := match s.dpx.peer.find? (sameStroke o) with
    | some p => dpxCompare s o p
    | none => { s with dpx := { s.dpx with own := s.dpx.own ++ [o] } }
  { s with dpx := { s.dpx with peer := s.dpx.peer.filter (fun p => decide (p.dom ≠ d) || decide (n < p.stroke)) } }

theorem outputSent_alone (ho : q.dpx.own = []) (hp : q.dpx.peer = []) :
    outputSent q o d n = { q with dpx := { q.dpx with sent := tset q.dpx.sent d (n + 1), own := [o] } } := by
  unfold outputSent
  dsimp only
  simp only [ho, hp, List.filter_nil, List.foldl_nil, List.find?_nil, List.nil_append]

/-- An output of a stroke is due: its domain runs, its functions are ready, and it has not been sent. -/
structure OutputDue (u : State) (d n : ℕ) : Prop where
  enabled : u.isSet F.DPX_EN = true
  dom : d < 4
  runs : u.isSet (F.DOM_RUN d) = true
  reached : n ≤ curStroke u d
  unsent : tget u.dpx.sent d ≤ n
  fns : dpxFns u d n ≠ []
  ready : dpxReady u d n = true

theorem exec_duplexOutputTx (hu : s.tick t = u) (h : OutputDue u d n) :
    exec (.duplexOutputTx t d n) s = .next (outputSent (sendOn u (dpxPorts u) 5 false none (.dpxOutput 1 (dpxOutput u d n))) (dpxOutput u d n) d n) := by
  obtain ⟨hen, hd, hrun, hn, hs, hf, hr⟩ := h
  have hexec : exec (.duplexOutputTx t d n) s = execDuplexOutputTx t d n s := rfl
  rw [hexec, execDuplexOutputTx, hu]
  dsimp only
  rw [if_pos ⟨hen, hd, hrun, hn, hs, hf, hr⟩]
  -- the two sides agree for every output and every state after it: neither is opened
  generalize dpxOutput u d n = o
  generalize sendOn u (dpxPorts u) 5 false none (.dpxOutput 1 o) = q
  rfl

theorem duplexFrames : Claims.DuplexFrames := by
  intro s t stamp ver d n m x o u
  have disabled (h : u.isSet F.DPX_EN = false) : ¬ u.isSet F.DPX_EN = true := fun hc => Bool.false_ne_true (h.symm.trans hc)
  refine ⟨fun h => ⟨congrArg Host.Outcome.next (if_pos (disabled h)), congrArg Host.Outcome.next (if_pos (disabled h)),
      congrArg Host.Outcome.next (if_neg fun hc => disabled h hc.1)⟩,
    fun h hv => ⟨congrArg Host.Outcome.next ((if_neg (not_not.2 h)).trans (if_pos hv)),
      congrArg Host.Outcome.next ((if_neg (not_not.2 h)).trans (if_pos (.inl hv)))⟩,
    fun h hi => ?_, fun h => ?_, fun hup hdue => congrArg Host.Outcome.next (if_pos ⟨hup, hdue⟩), fun h hd => ?_, fun hen hd hrun hn hs hf hr ho hp => ?_⟩
  · have hshown := dpxChecked_shown (peerHeard_shown ((Keeps.refl s).tick (n := t) |>.inv hi).regs m stamp) (dpxMine u) stamp
    obtain ⟨hup, hrole, hcmd, hheard, htxt⟩ := hshown
    exact ⟨_, exec_duplexStatusRx rfl h, hup.val, hrole.val, hcmd.val, hheard, htxt⟩
  · refine congrArg Host.Outcome.next (if_neg ?_)
    rintro ⟨hup, hdue⟩
    rcases h with h | h
    · exact Bool.false_ne_true (h.symm.trans hup)
    · exact Nat.not_le.2 h hdue
  · have hexec := exec_duplexOutputRx (s := s) (t := t) (u := u) rfl h hd
    refine ⟨fun hown => ?_, fun hown hlt => ?_, fun hown hle => ?_⟩
    · rw [hexec, hown]
    · rw [hexec, hown]
      exact congrArg Host.Outcome.next (if_neg (Nat.not_le.2 hlt))
    · rw [hexec, hown]
      exact congrArg Host.Outcome.next (if_pos hle)
  · intro m q hq
    have hsent := outputSent_alone (q := q) (o := m) (d := d) (n := n) (by rw [hq]; exact ho) (by rw [hq]; exact hp)
    rw [hq] at hsent
    refine (exec_duplexOutputTx (u := u) rfl ⟨hen, hd, hrun, hn, hs, hf, hr⟩).trans (congrArg Host.Outcome.next (hsent.trans ?_))
    rw [hq]

/-- Settles O59: what a status frame shows stays through its checks, and an output is compared or kept once. -/
theorem duplex : Obligations.Duplex := ⟨duplexControl, duplexFrames⟩

end Sys2Proof.Machine
end
